-- ==== Sys2Proof/Word.lean ====
section
/-! DEFINITION. The word types of the part and their plainest helpers. -/

namespace Sys2Proof

/-- A 32-bit word: a register's data, an address, a set-up register (04 R151, 03 R111). -/
abbrev Word := BitVec 32

/-- One byte of memory. -/
abbrev Byte := BitVec 8

/-- The element of a fixed-size table at an index of the table. -/
def vget {α : Type} {n : Nat} (v : Vector α n) (i : Fin n) : α := v.get i

/-- The table with one element replaced. -/
def vset {α : Type} {n : Nat} (v : Vector α n) (i : Fin n) (x : α) : Vector α n := v.set i.val x i.isLt

/-- Every index of a table of `n`, in ascending order. -/
abbrev indices (n : Nat) : List (Fin n) := List.finRange n

end Sys2Proof
end

