-- ==== Sys2Proof/Machine/Coding.lean ====
section
/-! DEFINITION. The checks and codes the spec names: CRC-32 (05 R217; 10 R415), CRC-16 (12 R520), CRC-8 (10 R414; 15), the PN9 whitening
sequence, the convolutional code and the interleaver (10 R415, R416). -/

namespace Sys2Proof.Machine

/-- The bits of a byte, least significant first. -/
def byteBits (b : Byte) : List Bool := (List.range 8).map (fun i => b.getLsbD i)

/-- Bytes as bits, least significant first (10 R415). -/
def bitsOf (l : List Byte) : List Bool := l.flatMap byteBits

/-- A number from bits, least significant first. -/
def bitsNum (l : List Bool) : Nat := l.foldr (fun b acc => acc * 2 + (if b then 1 else 0)) 0

/-- Bits as whole bytes, least significant first; the last byte is filled with zeros. -/
def bytesOf (l : List Bool) : List Byte :=
  (List.range ((l.length + 7) / 8)).map (fun i => BitVec.ofNat 8 (bitsNum ((l.drop (8 * i)).take 8)))

/-- One bit step of the reflected CRC-32 with polynomial 0x04C1_1DB7. -/
def crc32Bit (c : Word) : Word := if c.getLsbD 0 then (c >>> 1) ^^^ 0xEDB88320#32 else c >>> 1

/-- The running CRC-32 register after one byte. -/
def crc32Byte (c : Word) (b : Byte) : Word :=
  (List.range 8).foldl (fun x _ => crc32Bit x) (c ^^^ b.setWidth 32)

/-- The running CRC-32 register after bytes. -/
def crc32Run (c : Word) (l : List Byte) : Word := l.foldl crc32Byte c

/-- The CRC-32 of bytes: initial value and final XOR all ones (10 R415). -/
def crc32 (l : List Byte) : Word := ~~~(crc32Run (~~~0#32) l)

/-- One byte step of the CRC-8 with polynomial 0x07, no reflection (10 R414). -/
def crc8Byte (c b : Byte) : Byte :=
  (List.range 8).foldl (fun x _ => if x.getLsbD 7 then (x <<< 1) ^^^ 0x07#8 else x <<< 1) (c ^^^ b)

/-- The CRC-8 of bytes, initial value 0. -/
def crc8 (l : List Byte) : Byte := l.foldl crc8Byte 0#8

/-- One byte step of the CRC-16 with polynomial 0x1021, no reflection (12 Table 12.3). -/
def crc16Byte (c : BitVec 16) (b : Byte) : BitVec 16 :=
  (List.range 8).foldl (fun x _ => if x.getLsbD 15 then (x <<< 1) ^^^ 0x1021#16 else x <<< 1) (c ^^^ (b.setWidth 16 <<< 8))

/-- The CRC-16 of bytes, initial value 0xFFFF. -/
def crc16 (l : List Byte) : BitVec 16 := l.foldl crc16Byte 0xFFFF#16

/-- One step of the PN9 register of x^9 + x^5 + 1 (10 R415). -/
def pn9Step (r : BitVec 9) : BitVec 9 :=
  (r >>> 1) ||| (if r.getLsbD 0 != r.getLsbD 5 then 0x100#9 else 0#9)

/-- `n` whitening bytes from a register value. -/
def pn9From (r : BitVec 9) : Nat → List Byte
  | 0 => []
  | n + 1 => r.setWidth 8 :: pn9From ((List.range 8).foldl (fun x _ => pn9Step x) r) n

/-- Bytes whitened, or unwhitened (10 R415 step 3). -/
def whiten (l : List Byte) : List Byte := List.zipWith (· ^^^ ·) l (pn9From 0x1FF#9 l.length)

/-- The two chips of an encoder state that holds the input bit and the six before it, newest in bit 6 (generators 171 and 133 octal). -/
def convChips (r : BitVec 7) : List Bool :=
  let par (m : BitVec 7) : Bool := ((List.range 7).filter (fun i => (r &&& m).getLsbD i)).length % 2 == 1
  [par 0o171#7, par 0o133#7]

/-- The convolutional encoder from a state (10 R415 step 4). -/
def convFrom (r : BitVec 7) : List Bool → List Bool
  | [] => []
  | b :: l =>
    let r1 := (r >>> 1) ||| (if b then 0x40#7 else 0#7)
    convChips r1 ++ convFrom r1 l

/-- Bits with six zero tail bits, encoded from the zero state. -/
def convEncode (l : List Bool) : List Bool := convFrom 0#7 (l ++ List.replicate 6 false)

/-! ### The soft-decision Viterbi decoder (10 R419) -/

/-- The distance of a soft decision from a chip: how sure the detector is, where it decided the other way. -/
def softCost (x : Bool × Nat) (chip : Bool) : Nat := if x.1 == chip then 0 else x.2

/-- A path through the trellis: its distance so far and its bits, newest first. -/
abbrev VPath : Type := Nat × List Bool

/-- The nearer of two paths; `tie` says whether the second is kept where they are equally near (log 108). -/
def nearer (tie : Bool) : Option VPath → Option VPath → Option VPath
  | none, q => q
  | some p, none => some p
  | some p, some q => if q.1 < p.1 || (q.1 == p.1 && tie) then some q else some p

/-- A path that takes one more bit into the encoder state `r` (the bit and the six before it), under the soft decisions of its two chips. -/
def pathStep (p : Option VPath) (bit : Bool) (r : BitVec 7) (x y : Bool × Nat) : Option VPath :=
  match p, convChips r with
  | some q, [a, b] => some (q.1 + softCost x a + softCost y b, bit :: q.2)
  | _, _ => none

/-- The paths into the 32 states that one value of the newest bit leads to; the list gives the paths by their last six bits, of which the two
that differ in the oldest bit alone meet. `j` is the state of the pair's first path divided by two. -/
def pathJoin (tie : Nat → Bool) (bit : Bool) (x y : Bool × Nat) : Nat → List (Option VPath) → List (Option VPath)
  | j, p :: q :: l =>
    let r : BitVec 7 := BitVec.ofNat 7 (2 * j + if bit then 64 else 0)
    nearer (tie (j + if bit then 32 else 0)) (pathStep p bit r x y) (pathStep q bit (r ||| 1) x y) :: pathJoin tie bit x y (j + 1) l
  | _, _ => []

/-- The nearest paths into each of the 64 states after the soft decisions of a chip pair at a time. -/
def trellis (tie : Nat → Nat → Bool) : Nat → List (Option VPath) → List (Bool × Nat) → List (Option VPath)
  | k, ps, x :: y :: l => trellis tie (k + 1) (pathJoin (tie k) false x y 0 ps ++ pathJoin (tie k) true x y 0 ps) l
  | _, ps, _ => ps

/-- The `n` bits before the tail on the path from the zero state back to it that is nearest to the soft decisions. -/
def viterbi (tie : Nat → Nat → Bool) (n : Nat) (l : List (Bool × Nat)) : List Bool :=
  match trellis tie 0 (some (0, []) :: List.replicate 63 none) l with
  | some p :: _ => p.2.reverse.take n
  | _ => []

/-- A block of 256 chips written into 16 rows of 16 and read out column by column (10 R415 step 5); its own inverse. -/
def shuffle {α : Type} (z : α) (l : List α) : List α := (List.range 256).map (fun j => (l.getD ((j % 16) * 16 + j / 16) z))

/-- Whole blocks of 256 chips, each passed through the interleaver. -/
def shuffleAll {α : Type} (z : α) (l : List α) : List α :=
  (List.range ((l.length + 255) / 256)).flatMap (fun i => shuffle z ((l.drop (256 * i)).take 256))

/-- The payload length P in chips (10 R417). -/
def payloadChips (len : Nat) (crc code ilv : Bool) : Nat :=
  let b := 8 * (len + if crc then 4 else 0)
  let c := if code then 2 * (b + 6) else b
  if ilv then (c + 255) / 256 * 256 else c

/-- The payload chain (10 R415). -/
def payloadChain (l : List Byte) (crc white code ilv : Bool) : List Bool :=
  let l1 := if crc then l ++ (List.range 4).map (fun i => (crc32 l).extractLsb' (8 * i) 8) else l
  let l2 := bitsOf (if white then whiten l1 else l1)
  let l3 := if code then convEncode l2 else l2
  if ilv then shuffleAll false l3 else l3

/-- The header's 16 bits without its check (10 R414). -/
def headerLow (len : Nat) (crc white code ilv : Bool) : BitVec 16 :=
  BitVec.ofNat 16 (len % 256 + (if crc then 0x100 else 0) + (if white then 0x200 else 0) + (if code then 0x400 else 0) +
    (if ilv then 0x800 else 0))

/-- HCRC of a header (10 R414). -/
def headerCrc (h : BitVec 16) : Byte := crc8 [h.extractLsb' 0 8, h.extractLsb' 8 8]

/-- The 24 header bits. -/
def header (len : Nat) (crc white code ilv : Bool) : BitVec 24 :=
  let h := headerLow len crc white code ilv
  headerCrc h ++ h

/-- The 60 header chips (10 R416). -/
def headerChips (h : BitVec 24) : List Bool := convEncode ((List.range 24).map (fun i => h.getLsbD i))

/-- The bits of a word, most significant first. -/
def wordMsb (w : Word) : List Bool := (List.range 32).map (fun i => w.getLsbD (31 - i))

/-- How many places two words agree in. -/
def agree32 (a b : Word) : Nat := ((List.range 32).filter (fun i => a.getLsbD i == b.getLsbD i)).length

/-- A chip stream's differences from another of the same length. -/
def chipErrors (a b : List Bool) : Nat := ((List.zip a b).filter (fun p => p.1 != p.2)).length

end Sys2Proof.Machine
end

