-- ==== Sys2Proof/Config.lean ====
section
/-! DEFINITION. What a device fixes and the free values: constants without a body where the manual leaves a value open
(log 3, 4). Nothing in Lean can evaluate one, so a claim holds whatever they are. Each is applied to the free-value counter
of the state, or to the operands it depends on. -/

namespace Sys2Proof.Config

/-- Boot ROM contents by byte address: mastered, not stated (03 Table 3.2). -/
opaque romByte : Nat → Byte

/-- Boot ROM tag code by word address, read modulo 8 (03 Table 3.2, "mastered tag"). -/
opaque romTag : Nat → Nat

/-- The undefined data of a general register of a thread that starts (04 R194). -/
opaque startData : Nat → Nat → Word

/-- Whether a reserved word faults (true) or scrambles (05 R236). -/
opaque reservedFaults : Nat → Bool

/-- The data, tag choice and flags a scrambling reserved word leaves (05 R236, R239): counter, register. -/
opaque scrambleData : Nat → Nat → Word
/-- 0 VOID, 1 INT, 2 RAW, otherwise the register keeps its tag (05 R239). -/
opaque scrambleTag : Nat → Nat → Nat
/-- Whether the reserved word changes register `r` at all. -/
opaque scrambleReg : Nat → Nat → Bool
/-- The flags Z, N, C, V it leaves, as bits 0 to 3. -/
opaque scrambleFlags : Nat → BitVec 4

/-- Whether a RESETN low pulse of 100 ns to 1 µs resets the part (02 R102). -/
opaque resetnMid : Nat → Bool

/-- Whether a read of an indeterminate flash unit fails (MEMPAR), and the data it gives otherwise (07 R329). -/
opaque cutFails : Nat → Nat → Bool
/-- The data byte an indeterminate flash unit gives. -/
opaque cutByte : Nat → Nat → Byte
/-- The tag code (modulo 8) an indeterminate flash unit gives. -/
opaque cutTag : Nat → Nat → Nat

/-- A raw entropy sample (12 R532, R533): counter, sample number. -/
opaque rawBit : Nat → Nat → Bool

/-- The holiday identifier the link controller chooses (11 R498, PROPOSE). -/
opaque holidayId : Nat → BitVec 8

/-- The link controller's internal sequence for SHARED slots, 0 to 3, seeded from IDN_UID (11 R479). -/
opaque sharedDelay : Nat → Nat → Fin 4

/-- What a system register reads where the manual gives it no value (a measured figure): counter. -/
opaque measured : Nat → Word

/-- RESULT of a completion whose status has none stated, such as BADOP or FLUSHED (06 Table 6.4): counter. -/
opaque errorResult : Nat → Word

/-- Which of two equally near edges a carrier exactly between two bands commits to (10 R447): counter. -/
opaque bandTie : Nat → Bool

/-- Which of two equally near paths the Viterbi decoder keeps (10 R419): counter, step and state of the trellis. -/
opaque pathTie : Nat → Nat → Nat → Bool

/-- Whether a link controller's quotient that is no whole number is rounded up (11 R473, R474): counter. -/
opaque roundUp : Nat → Bool

/-- The entry that a link notice about no entry names (11 Table 11.10): counter. -/
opaque noticeEntry : Nat → BitVec 6

/-- LSEQ of a frame that is sent to no single admitted receiver (11 Table 11.1): counter. -/
opaque lseq : Nat → BitVec 8

/-- The channel that a GNSS notice about no channel names (13 Table 13.2): counter. -/
opaque noticeChan : Nat → BitVec 5

/-- The samples of a capture that was cut short (13 R559, R579, R581): counter, byte. -/
opaque sample : Nat → Nat → Byte

/-- GEN of the first sector header of a nonce area (12 R520, R527): counter. -/
opaque firstGen : Nat → Word

/-- BLOCK of a retirement record (12 Table 12.3): counter. -/
opaque retBlock : Nat → Nat

/-- The counter of a slot whose key's latest record has RET = 1 (12 R522): counter. -/
opaque retCounter : Nat → BitVec 40

/-- RESULT of a NOBUF notice, which no rule gives (06 R276): counter. -/
opaque noticeResult : Nat → Word

end Sys2Proof.Config
end

