-- ==== Sys2Proof/Machine/RegMap.lean ====
section
/-! DEFINITION. The set-up registers, field by field, as the register tables of the spec list them: where a field lies, its access
code (00 Table 0.2, R14) and its value after a full reset. A field that a table does not list is reserved (R9, R11 to R13). -/

namespace Sys2Proof

/-- A field of a set-up register: word address, lowest bit, width. -/
structure Fld where
  addr : Nat
  lo : Nat
  w : Nat
  deriving DecidableEq, Repr

/-- The access codes of Table 0.2 (00 R14). -/
inductive Access where
  | rw | ro | w1c | wo | ws | lk
  deriving DecidableEq, Repr

/-- One row of a register table; a group of `count` registers `stride` bytes apart is one row. -/
structure Row where
  name : String
  off : Nat
  lo : Nat
  w : Nat
  acc : Access
  rst : Nat
  stride : Nat
  count : Nat
  deriving DecidableEq, Repr

/-- The IDN block at 0x40000000 (03_memory_identity.md R149). -/
def rowsIDN : List Row :=
  [ ⟨"IDN_PART.CODE", 0x000, 0, 16, .ro, 0x7400, 0x0, 1⟩,
    ⟨"IDN_PART.FAMILY", 0x000, 16, 16, .ro, 2641, 0x0, 1⟩,
    ⟨"IDN_UNITS.UNITS", 0x004, 0, 10, .ro, 1023, 0x0, 1⟩,
    ⟨"IDN_GEN.GEN", 0x008, 0, 8, .ro, 1, 0x0, 1⟩,
    ⟨"IDN_REV.REV", 0x00c, 0, 8, .ro, 0, 0x0, 1⟩,
    ⟨"IDN_UID_LO.UID", 0x010, 0, 32, .ro, 0, 0x0, 1⟩,
    ⟨"IDN_UID_HI.UID", 0x014, 0, 32, .ro, 0, 0x0, 1⟩ ]

/-- The LDG block at 0x40001000 (01_ledger_and_order.md R64). -/
def rowsLDG : List Row :=
  [ ⟨"LDG_CTL.BRACT", 0x000, 0, 1, .lk, 0, 0x0, 1⟩,
    ⟨"LDG_CTL.SWEEP", 0x000, 1, 3, .lk, 3, 0x0, 1⟩,
    ⟨"LDG_ROUTE.TMASK", 0x004, 0, 10, .lk, 1, 0x0, 1⟩,
    ⟨"LDG_STAT.BREACH", 0x010, 0, 1, .ro, 0, 0x0, 1⟩,
    ⟨"LDG_STAT.CAUSE", 0x010, 1, 3, .ro, 0, 0x0, 1⟩,
    ⟨"LDG_STAT.MULTI", 0x010, 4, 1, .ro, 0, 0x0, 1⟩,
    ⟨"LDG_STAT.SWEEP_BUSY", 0x010, 5, 1, .ro, 0, 0x0, 1⟩,
    ⟨"LDG_STAT.ACCT", 0x010, 8, 8, .ro, 0, 0x0, 1⟩,
    ⟨"LDG_STAT.OPEN", 0x010, 16, 8, .ro, 0, 0x0, 1⟩,
    ⟨"LDG_AUDIT.GO", 0x014, 0, 1, .wo, 0, 0x0, 1⟩,
    ⟨"LDG_BRSEQ.SEQ", 0x018, 0, 32, .ro, 0, 0x0, 1⟩,
    ⟨"LDG_SEL.ACCT", 0x020, 0, 8, .rw, 0, 0x0, 1⟩,
    ⟨"LDG_GRANT.G", 0x024, 0, 32, .ro, 0, 0x0, 1⟩,
    ⟨"LDG_RETURNED.R", 0x028, 0, 32, .ro, 0, 0x0, 1⟩,
    ⟨"LDG_HELD.H", 0x02c, 0, 32, .ro, 0, 0x0, 1⟩,
    ⟨"LDG_FLIGHT.F", 0x030, 0, 32, .ro, 0, 0x0, 1⟩,
    ⟨"LDG_WIN.SPAN", 0x034, 0, 1, .ro, 0, 0x0, 1⟩,
    ⟨"LDG_WIN.SLOT", 0x034, 1, 1, .ro, 0, 0x0, 1⟩,
    ⟨"LDG_WIN.QUIESCE", 0x034, 2, 1, .ro, 0, 0x0, 1⟩,
    ⟨"LDG_WIN.AGE", 0x034, 16, 16, .ro, 0, 0x0, 1⟩,
    ⟨"LDG_SEQ.NEXT", 0x038, 0, 32, .ro, 0, 0x0, 1⟩,
    ⟨"LDG_SEAL.GO", 0x03c, 0, 1, .wo, 0, 0x0, 1⟩,
    ⟨"LDG_SEAL.PEND", 0x03c, 1, 1, .ro, 0, 0x0, 1⟩,
    ⟨"LDG_SEAL.LOCKED", 0x03c, 2, 1, .ro, 0, 0x0, 1⟩,
    ⟨"LDG_SEAL.REPL", 0x03c, 3, 1, .w1c, 0, 0x0, 1⟩,
    ⟨"LDG_SEAL.DISC", 0x03c, 4, 1, .w1c, 0, 0x0, 1⟩,
    ⟨"LDG_EPOCH.WRAPS", 0x040, 0, 32, .ro, 0, 0x0, 1⟩,
    ⟨"LDG_SWEEPS.COUNT", 0x044, 0, 32, .ro, 0, 0x0, 1⟩ ]

/-- The PWR block at 0x40002000 (02_islands_power_startup.md R106). -/
def rowsPWR : List Row :=
  [ ⟨"PWR_CTL.DEPTH", 0x000, 0, 2, .rw, 0, 0x0, 1⟩,
    ⟨"PWR_CTL.DIMFLL", 0x000, 2, 1, .rw, 1, 0x0, 1⟩,
    ⟨"PWR_CTL.SNIFF", 0x000, 3, 1, .rw, 0, 0x0, 1⟩,
    ⟨"PWR_CTL.QDRAIN", 0x000, 4, 15, .rw, 256, 0x0, 1⟩,
    ⟨"PWR_SRET.BANKS", 0x004, 0, 16, .rw, 0, 0x0, 1⟩,
    ⟨"PWR_VRET.BANKS", 0x008, 0, 8, .rw, 255, 0x0, 1⟩,
    ⟨"PWR_BURST.ON", 0x00c, 0, 1, .wo, 0, 0x0, 1⟩,
    ⟨"PWR_BURST.OFF", 0x00c, 1, 1, .wo, 0, 0x0, 1⟩,
    ⟨"PWR_BURST.AUTO", 0x00c, 2, 1, .rw, 1, 0x0, 1⟩,
    ⟨"PWR_BURST.RET", 0x00c, 3, 1, .rw, 0, 0x0, 1⟩,
    ⟨"PWR_BURST.STATE", 0x00c, 4, 2, .ro, 0, 0x0, 1⟩,
    ⟨"PWR_BENTRY.ADDR", 0x010, 2, 30, .rw, 0x9000000, 0x0, 1⟩,
    ⟨"PWR_IRST.ISL", 0x014, 0, 5, .wo, 0, 0x0, 1⟩,
    ⟨"PWR_IRST.KEY", 0x014, 8, 8, .wo, 0, 0x0, 1⟩,
    ⟨"PWR_ILIT.ISL", 0x018, 0, 5, .ro, 1, 0x0, 1⟩,
    ⟨"PWR_STAT.STATE", 0x01c, 0, 3, .ro, 3, 0x0, 1⟩,
    ⟨"PWR_STAT.LAST", 0x01c, 3, 3, .ro, 3, 0x0, 1⟩,
    ⟨"PWR_STAT.REFUSE", 0x01c, 6, 2, .ro, 0, 0x0, 1⟩,
    ⟨"PWR_STAT.LITFAIL", 0x01c, 8, 5, .w1c, 0, 0x0, 1⟩,
    ⟨"PWR_STAT.FLRDY", 0x01c, 13, 1, .ro, 0, 0x0, 1⟩,
    ⟨"PWR_RCAUSE.CAUSE", 0x020, 0, 6, .ro, 1, 0x0, 1⟩,
    ⟨"PWR_WAKE.SRC", 0x024, 0, 5, .ro, 0, 0x0, 1⟩,
    ⟨"PWR_WAKE.SNUFF", 0x024, 5, 1, .ro, 0, 0x0, 1⟩,
    ⟨"PWR_WAKE.ISLAND", 0x024, 8, 1, .ro, 0, 0x0, 1⟩,
    ⟨"PWR_WAKEEN.SRC", 0x028, 0, 5, .rw, 31, 0x0, 1⟩,
    ⟨"PWR_RESET.KEY", 0x02c, 0, 8, .wo, 0, 0x0, 1⟩,
    ⟨"PWR_ROUTE.TMASK", 0x030, 0, 10, .rw, 1, 0x0, 1⟩,
    ⟨"PWR_IDLE.TICKS", 0x034, 0, 16, .rw, 33, 0x0, 1⟩ ]

/-- The CLK block at 0x40003000 (02_islands_power_startup.md R107). -/
def rowsCLK : List Row :=
  [ ⟨"CLK_VSRC.AUTO", 0x000, 1, 1, .rw, 1, 0x0, 1⟩,
    ⟨"CLK_FLL.MUL", 0x004, 0, 13, .ws, 977, 0x0, 1⟩,
    ⟨"CLK_FLL.REF", 0x004, 16, 1, .ws, 0, 0x0, 1⟩,
    ⟨"CLK_PLL.RDIV", 0x008, 0, 2, .ws, 3, 0x0, 1⟩,
    ⟨"CLK_PLL.MUL", 0x008, 4, 9, .ws, 375, 0x0, 1⟩,
    ⟨"CLK_XT32M.EN", 0x00c, 0, 1, .rw, 0, 0x0, 1⟩,
    ⟨"CLK_XT32M.LOAD", 0x00c, 4, 4, .rw, 8, 0x0, 1⟩,
    ⟨"CLK_STAT.VSRC", 0x010, 0, 1, .ro, 0, 0x0, 1⟩,
    ⟨"CLK_STAT.XT32OK", 0x010, 1, 1, .ro, 0, 0x0, 1⟩,
    ⟨"CLK_STAT.XT32FAIL", 0x010, 2, 1, .w1c, 0, 0x0, 1⟩,
    ⟨"CLK_STAT.XT32MOK", 0x010, 3, 1, .ro, 0, 0x0, 1⟩,
    ⟨"CLK_STAT.FLLLOCK", 0x010, 4, 1, .ro, 0, 0x0, 1⟩,
    ⟨"CLK_STAT.PLLLOCK", 0x010, 5, 1, .ro, 0, 0x0, 1⟩,
    ⟨"CLK_STAT.CLAMP", 0x010, 6, 1, .w1c, 0, 0x0, 1⟩,
    ⟨"CLK_STAT.XT32MFAIL", 0x010, 7, 1, .w1c, 0, 0x0, 1⟩,
    ⟨"CLK_FREQ.KHZ", 0x014, 0, 18, .ro, 0, 0x0, 1⟩,
    ⟨"CLK_SEAL.GO", 0x018, 0, 1, .wo, 0, 0x0, 1⟩,
    ⟨"CLK_SEAL.PEND", 0x018, 1, 1, .ro, 0, 0x0, 1⟩,
    ⟨"CLK_SEAL.LOCKED", 0x018, 2, 1, .ro, 0, 0x0, 1⟩,
    ⟨"CLK_SEAL.REPL", 0x018, 3, 1, .w1c, 0, 0x0, 1⟩,
    ⟨"CLK_SEAL.DISC", 0x018, 4, 1, .w1c, 0, 0x0, 1⟩ ]

/-- The EVT block at 0x40004000 (05_flitu_threads_and_faults.md R249). The map entries of the reserved source numbers 0x70 to 0x7F are there like the
others, and no source has them (DESIGN CHOICE, log 142). -/
def rowsEVT : List Row :=
  [ ⟨"EVT_SNUFF.EN", 0x000, 0, 1, .lk, 1, 0x0, 1⟩,
    ⟨"EVT_SNUFF.ACT", 0x000, 1, 1, .lk, 0, 0x0, 1⟩,
    ⟨"EVT_SNUFF.RESCUE", 0x000, 4, 4, .lk, 0, 0x0, 1⟩,
    ⟨"EVT_FROUTE.TMASK", 0x004, 0, 10, .rw, 1, 0x0, 1⟩,
    ⟨"EVT_SEAL.GO", 0x008, 0, 1, .wo, 0, 0x0, 1⟩,
    ⟨"EVT_SEAL.PEND", 0x008, 1, 1, .ro, 0, 0x0, 1⟩,
    ⟨"EVT_SEAL.LOCKED", 0x008, 2, 1, .ro, 0, 0x0, 1⟩,
    ⟨"EVT_SEAL.REPL", 0x008, 3, 1, .w1c, 0, 0x0, 1⟩,
    ⟨"EVT_SEAL.DISC", 0x008, 4, 1, .w1c, 0, 0x0, 1⟩,
    ⟨"EVT_STAT.LIVE", 0x00c, 0, 10, .ro, 1, 0x0, 1⟩,
    ⟨"EVT_STAT.WAITING", 0x00c, 16, 10, .ro, 0, 0x0, 1⟩,
    ⟨"EVT_STAT.SNUFF", 0x00c, 31, 1, .w1c, 0, 0x0, 1⟩,
    ⟨"EVT_TCTL.START", 0x100, 0, 1, .wo, 0, 0x20, 10⟩,
    ⟨"EVT_TCTL.STOP", 0x100, 1, 1, .wo, 0, 0x20, 10⟩,
    ⟨"EVT_TCTL.STATE", 0x100, 4, 3, .ro, 0, 0x20, 10⟩,
    ⟨"EVT_TPC.ADDR", 0x104, 2, 30, .rw, 0, 0x20, 10⟩,
    ⟨"EVT_TENT.VALID", 0x108, 0, 1, .rw, 0, 0x20, 10⟩,
    ⟨"EVT_TENT.ADDR", 0x108, 2, 30, .rw, 0, 0x20, 10⟩,
    ⟨"EVT_TRING.EN", 0x10c, 0, 1, .rw, 0, 0x20, 10⟩,
    ⟨"EVT_TRING.ADDR", 0x10c, 6, 26, .rw, 0, 0x20, 10⟩,
    ⟨"EVT_TOVF.COUNT", 0x110, 0, 16, .ro, 0, 0x20, 10⟩,
    ⟨"EVT_TOVF.CLR", 0x110, 31, 1, .wo, 0, 0x20, 10⟩,
    ⟨"EVT_TFPC.PC", 0x114, 0, 32, .ro, 0, 0x20, 10⟩,
    ⟨"EVT_TFCAUSE.CAUSE", 0x118, 0, 32, .ro, 0, 0x20, 10⟩,
    ⟨"EVT_MAP.THREAD", 0x400, 0, 4, .rw, 0, 0x4, 128⟩,
    ⟨"EVT_MAP.BIT", 0x400, 4, 5, .rw, 0, 0x4, 128⟩,
    ⟨"EVT_MAP.EN", 0x400, 12, 1, .rw, 0, 0x4, 128⟩ ]

/-- The QUE block at 0x40005000 (06_rings_and_doorbells.md R288). -/
def rowsQUE : List Row :=
  [ ⟨"QUE_OVP.COUNT", 0x000, 0, 16, .ro, 0, 0x0, 1⟩,
    ⟨"QUE_OVP.RING", 0x000, 16, 6, .ro, 0, 0x0, 1⟩,
    ⟨"QUE_OVP.CLR", 0x000, 31, 1, .wo, 0, 0x0, 1⟩,
    ⟨"QUE_ENLO.EN", 0x004, 0, 32, .ro, 0, 0x0, 1⟩,
    ⟨"QUE_ENHI.EN", 0x008, 0, 32, .ro, 0, 0x0, 1⟩,
    ⟨"QUE_RCFG.EN", 0x100, 0, 1, .rw, 0, 0x10, 64⟩,
    ⟨"QUE_RCFG.TAGCHK", 0x100, 1, 1, .rw, 0, 0x10, 64⟩,
    ⟨"QUE_RCFG.UNIT", 0x100, 4, 4, .rw, 0, 0x10, 64⟩,
    ⟨"QUE_RCFG.CHAN", 0x100, 8, 4, .rw, 0, 0x10, 64⟩,
    ⟨"QUE_RHDR.ADDR", 0x104, 6, 26, .rw, 0, 0x10, 64⟩,
    ⟨"QUE_RSTAT.STATE", 0x108, 0, 2, .ro, 0, 0x10, 64⟩,
    ⟨"QUE_RSTAT.ERR", 0x108, 4, 3, .ro, 0, 0x10, 64⟩,
    ⟨"QUE_RSTAT.OVP", 0x108, 8, 1, .w1c, 0, 0x10, 64⟩,
    ⟨"QUE_RSTAT.CERR", 0x108, 9, 1, .w1c, 0, 0x10, 64⟩,
    ⟨"QUE_RSTAT.CUT", 0x108, 10, 1, .w1c, 0, 0x10, 64⟩,
    ⟨"QUE_RSTAT.OUT", 0x108, 16, 16, .ro, 0, 0x10, 64⟩ ]

/-- The FLC block at 0x40006000 (07_flash.md R334). -/
def rowsFLC : List Row :=
  [ ⟨"FLC_CTL.SUSPEND", 0x000, 0, 1, .wo, 0, 0x0, 1⟩,
    ⟨"FLC_CTL.RESUME", 0x000, 1, 1, .wo, 0, 0x0, 1⟩,
    ⟨"FLC_STAT.BUSYA", 0x004, 0, 1, .ro, 0, 0x0, 1⟩,
    ⟨"FLC_STAT.BUSYB", 0x004, 1, 1, .ro, 0, 0x0, 1⟩,
    ⟨"FLC_STAT.SUSP", 0x004, 2, 1, .ro, 0, 0x0, 1⟩,
    ⟨"FLC_STAT.FORCED", 0x004, 3, 1, .ro, 0, 0x0, 1⟩,
    ⟨"FLC_STAT.WS", 0x004, 4, 2, .ro, 0, 0x0, 1⟩,
    ⟨"FLC_STAT.SUSPN", 0x004, 8, 6, .ro, 0, 0x0, 1⟩,
    ⟨"FLC_STAT.SREF", 0x004, 14, 1, .w1c, 0, 0x0, 1⟩,
    ⟨"FLC_SEAL.GO", 0x008, 0, 1, .wo, 0, 0x0, 1⟩,
    ⟨"FLC_SEAL.PEND", 0x008, 1, 1, .ro, 0, 0x0, 1⟩,
    ⟨"FLC_SEAL.LOCKED", 0x008, 2, 1, .ro, 0, 0x0, 1⟩,
    ⟨"FLC_SEAL.REPL", 0x008, 3, 1, .w1c, 0, 0x0, 1⟩,
    ⟨"FLC_SEAL.DISC", 0x008, 4, 1, .w1c, 0, 0x0, 1⟩,
    ⟨"FLC_NONCE.START", 0x00c, 0, 9, .lk, 0, 0x0, 1⟩,
    ⟨"FLC_NONCE.COUNT", 0x00c, 16, 8, .lk, 0, 0x0, 1⟩,
    ⟨"FLC_ECC.CORR", 0x010, 0, 16, .ro, 0, 0x0, 1⟩,
    ⟨"FLC_ECC.UNCORR", 0x010, 16, 1, .w1c, 0, 0x0, 1⟩,
    ⟨"FLC_ECC.CLR", 0x010, 31, 1, .wo, 0, 0x0, 1⟩,
    ⟨"FLC_EADDR.ADDR", 0x014, 0, 32, .ro, 0, 0x0, 1⟩,
    ⟨"FLC_SCRUB.EN", 0x018, 0, 1, .rw, 1, 0x0, 1⟩,
    ⟨"FLC_SCRUB.RATE", 0x018, 1, 4, .rw, 8, 0x0, 1⟩,
    ⟨"FLC_SSTAT.POS", 0x01c, 0, 18, .ro, 0, 0x0, 1⟩,
    ⟨"FLC_SSTAT.DEFER", 0x01c, 18, 7, .ro, 0, 0x0, 1⟩,
    ⟨"FLC_SPASS.PASSES", 0x020, 0, 16, .ro, 0, 0x0, 1⟩,
    ⟨"FLC_SPASS.LOST", 0x020, 16, 16, .ro, 0, 0x0, 1⟩,
    ⟨"FLC_RGN.START", 0x100, 0, 9, .lk, 0, 0x4, 16⟩,
    ⟨"FLC_RGN.END", 0x100, 16, 9, .lk, 0, 0x4, 16⟩,
    ⟨"FLC_RGN.MODE", 0x100, 28, 2, .lk, 0, 0x4, 16⟩ ]

/-- The TMB block at 0x40007000 (08_timebase_and_counters.md R369). -/
def rowsTMB : List Row :=
  [ ⟨"TMB_LO.LO", 0x000, 0, 32, .ro, 0, 0x0, 1⟩,
    ⟨"TMB_HI.HI", 0x004, 0, 32, .ro, 0, 0x0, 1⟩,
    ⟨"TMB_HIL.HIL", 0x008, 0, 32, .ro, 0, 0x0, 1⟩,
    ⟨"TMB_TICK.TICK", 0x00c, 0, 32, .ro, 0, 0x0, 1⟩,
    ⟨"TMB_PPSLO.LO", 0x010, 0, 32, .ro, 0, 0x0, 1⟩,
    ⟨"TMB_PPSHI.HI", 0x014, 0, 32, .ro, 0, 0x0, 1⟩,
    ⟨"TMB_PPSST.NEW", 0x018, 0, 1, .w1c, 0, 0x0, 1⟩,
    ⟨"TMB_PPSST.OVR", 0x018, 1, 1, .w1c, 0, 0x0, 1⟩,
    ⟨"TMB_FIRED.CH", 0x020, 0, 16, .w1c, 0, 0x0, 1⟩,
    ⟨"CMP_CTL.EN", 0x100, 0, 1, .rw, 0, 0x10, 16⟩,
    ⟨"CMP_CTL.MODE", 0x100, 1, 2, .rw, 0, 0x10, 16⟩,
    ⟨"CMP_CTL.WAKE", 0x100, 3, 1, .rw, 0, 0x10, 16⟩,
    ⟨"CMP_CTL.BUSY", 0x100, 4, 1, .ro, 0, 0x10, 16⟩,
    ⟨"CMP_CTL.LATE", 0x100, 5, 1, .w1c, 0, 0x10, 16⟩,
    ⟨"CMP_VAL.VAL", 0x104, 0, 32, .rw, 0, 0x10, 16⟩,
    ⟨"CMP_REL.D", 0x108, 0, 32, .wo, 0, 0x10, 16⟩,
    ⟨"CMP_PER.PER", 0x10c, 0, 32, .rw, 0, 0x10, 16⟩ ]

/-- The CNT block at 0x40008000 (08_timebase_and_counters.md R370). -/
def rowsCNT : List Row :=
  [ ⟨"CNT_SEAL.GO", 0x008, 0, 1, .wo, 0, 0x0, 1⟩,
    ⟨"CNT_SEAL.PEND", 0x008, 1, 1, .ro, 0, 0x0, 1⟩,
    ⟨"CNT_SEAL.LOCKED", 0x008, 2, 1, .ro, 0, 0x0, 1⟩,
    ⟨"CNT_SEAL.REPL", 0x008, 3, 1, .w1c, 0, 0x0, 1⟩,
    ⟨"CNT_SEAL.DISC", 0x008, 4, 1, .w1c, 0, 0x0, 1⟩,
    ⟨"CNT_CTL.RUN", 0x100, 0, 1, .rw, 0, 0x20, 8⟩,
    ⟨"CNT_CTL.CMPEV", 0x100, 1, 1, .rw, 0, 0x20, 8⟩,
    ⟨"CNT_CTL.OVFEV", 0x100, 2, 1, .rw, 0, 0x20, 8⟩,
    ⟨"CNT_CTL.CMODE", 0x100, 3, 1, .rw, 0, 0x20, 8⟩,
    ⟨"CNT_CTL.EDGE", 0x100, 4, 1, .ws, 0, 0x20, 8⟩,
    ⟨"CNT_CTL.SRC", 0x100, 8, 3, .ws, 0, 0x20, 8⟩,
    ⟨"CNT_CTL.CAPSEL", 0x100, 12, 3, .ws, 0, 0x20, 8⟩,
    ⟨"CNT_DIV.F", 0x104, 0, 16, .ws, 0, 0x20, 8⟩,
    ⟨"CNT_DIV.N", 0x104, 16, 16, .ws, 1, 0x20, 8⟩,
    ⟨"CNT_COUNT.COUNT", 0x108, 0, 32, .rw, 0, 0x20, 8⟩,
    ⟨"CNT_CMPV.CMPV", 0x10c, 0, 32, .rw, 0xffffffff, 0x20, 8⟩,
    ⟨"CNT_CREL.D", 0x110, 0, 32, .wo, 0, 0x20, 8⟩,
    ⟨"CNT_PER.PER", 0x114, 0, 32, .rw, 0, 0x20, 8⟩,
    ⟨"CNT_CAP.CAP", 0x118, 0, 32, .ro, 0, 0x20, 8⟩,
    ⟨"CNT_STAT.CMPF", 0x11c, 0, 1, .w1c, 0, 0x20, 8⟩,
    ⟨"CNT_STAT.OVF", 0x11c, 1, 1, .w1c, 0, 0x20, 8⟩,
    ⟨"CNT_STAT.LATE", 0x11c, 2, 1, .w1c, 0, 0x20, 8⟩,
    ⟨"CNT_STAT.CAPNEW", 0x11c, 3, 1, .w1c, 0, 0x20, 8⟩,
    ⟨"CNT_STAT.CAPOVR", 0x11c, 4, 1, .w1c, 0, 0x20, 8⟩,
    ⟨"CNT_STAT.SRCFAIL", 0x11c, 5, 1, .w1c, 0, 0x20, 8⟩,
    ⟨"CNT_STAT.BADDIV", 0x11c, 6, 1, .w1c, 0, 0x20, 8⟩ ]

/-- The CSP block at 0x40009000 (14_clocked_serial_port.md R612). -/
def rowsCSP : List Row :=
  [ ⟨"CSP_SCFG.SEN", 0x004, 0, 1, .ws, 1, 0x0, 1⟩,
    ⟨"CSP_SCFG.ROLE", 0x004, 1, 1, .ws, 0, 0x0, 1⟩,
    ⟨"CSP_SCFG.MODE", 0x004, 2, 2, .ws, 0, 0x0, 1⟩,
    ⟨"CSP_SCFG.WSIZE", 0x004, 4, 2, .ws, 2, 0x0, 1⟩,
    ⟨"CSP_SCFG.FCRC", 0x004, 6, 1, .ws, 0, 0x0, 1⟩,
    ⟨"CSP_SEAL.GO", 0x008, 0, 1, .wo, 0, 0x0, 1⟩,
    ⟨"CSP_SEAL.PEND", 0x008, 1, 1, .ro, 0, 0x0, 1⟩,
    ⟨"CSP_SEAL.LOCKED", 0x008, 2, 1, .ro, 0, 0x0, 1⟩,
    ⟨"CSP_SEAL.REPL", 0x008, 3, 1, .w1c, 0, 0x0, 1⟩,
    ⟨"CSP_SEAL.DISC", 0x008, 4, 1, .w1c, 0, 0x0, 1⟩,
    ⟨"CSP_SSTAT.RES", 0x00c, 0, 8, .ro, 0, 0x0, 1⟩,
    ⟨"CSP_SSTAT.FSEQ", 0x00c, 8, 8, .ro, 0, 0x0, 1⟩,
    ⟨"CSP_SSTAT.RBUF", 0x00c, 16, 1, .ro, 0, 0x0, 1⟩,
    ⟨"CSP_SSTAT.RECOVERY", 0x00c, 17, 1, .ro, 0, 0x0, 1⟩,
    ⟨"CSP_SSTAT.CLAMP", 0x00c, 18, 1, .w1c, 0, 0x0, 1⟩,
    ⟨"CSP_SSTAT.DISC", 0x00c, 24, 8, .ro, 0, 0x0, 1⟩,
    ⟨"CSP_SMAIL.MAIL", 0x010, 0, 16, .rw, 0, 0x0, 1⟩,
    ⟨"CSP_SCLR.DISC", 0x014, 0, 1, .wo, 0, 0x0, 1⟩,
    ⟨"CSP_MCTL.DROP", 0x018, 0, 1, .wo, 0, 0x0, 1⟩,
    ⟨"CSP_MSEL.DIV", 0x020, 0, 8, .ws, 7, 0x4, 4⟩,
    ⟨"CSP_MSEL.MODE", 0x020, 8, 2, .ws, 0, 0x4, 4⟩,
    ⟨"CSP_MSEL.WSIZE", 0x020, 10, 2, .ws, 0, 0x4, 4⟩,
    ⟨"CSP_MSEL.CSGAP", 0x020, 16, 4, .ws, 1, 0x4, 4⟩ ]

/-- The TAG block at 0x4000A000 (15_tag_bus.md R643). -/
def rowsTAG : List Row :=
  [ ⟨"TAG_CTL.SPEED", 0x000, 0, 1, .ws, 0, 0x0, 1⟩,
    ⟨"TAG_STAT.BUSY", 0x004, 0, 4, .ro, 0, 0x0, 1⟩,
    ⟨"TAG_STAT.SHORT", 0x004, 4, 4, .w1c, 0, 0x0, 1⟩,
    ⟨"TAG_STAT.CLAMP", 0x004, 8, 1, .w1c, 0, 0x0, 1⟩,
    ⟨"TAG_SEAL.GO", 0x008, 0, 1, .wo, 0, 0x0, 1⟩,
    ⟨"TAG_SEAL.PEND", 0x008, 1, 1, .ro, 0, 0x0, 1⟩,
    ⟨"TAG_SEAL.LOCKED", 0x008, 2, 1, .ro, 0, 0x0, 1⟩,
    ⟨"TAG_SEAL.REPL", 0x008, 3, 1, .w1c, 0, 0x0, 1⟩,
    ⟨"TAG_SEAL.DISC", 0x008, 4, 1, .w1c, 0, 0x0, 1⟩,
    ⟨"TAG_LCFG.EN", 0x100, 0, 1, .rw, 0, 0x20, 4⟩,
    ⟨"TAG_LINV.ADDR", 0x104, 4, 28, .rw, 0, 0x20, 4⟩,
    ⟨"TAG_LSTAT.COUNT", 0x108, 0, 7, .ro, 0, 0x20, 4⟩,
    ⟨"TAG_LSTAT.PCHG", 0x108, 8, 1, .w1c, 0, 0x20, 4⟩,
    ⟨"TAG_LSTAT.OVER", 0x108, 9, 1, .w1c, 0, 0x20, 4⟩,
    ⟨"TAG_LSTAT.PAUSED", 0x108, 10, 1, .ro, 0, 0x20, 4⟩,
    ⟨"TAG_LSTAT.SSEQ", 0x108, 16, 16, .ro, 0, 0x20, 4⟩,
    ⟨"TAG_PRES.EN", 0x10c, 0, 1, .ws, 0, 0x20, 4⟩,
    ⟨"TAG_PRES.VERIFY", 0x10c, 1, 1, .ws, 0, 0x20, 4⟩,
    ⟨"TAG_PRES.PER", 0x10c, 16, 16, .ws, 100, 0x20, 4⟩,
    ⟨"TAG_PSIG.SIG", 0x110, 0, 4, .ro, 0, 0x20, 4⟩,
    ⟨"TAG_PSIG.PDEF", 0x110, 8, 8, .ro, 0, 0x20, 4⟩ ]

/-- The BTS block at 0x4000B000 (16_bolt_and_tamper.md R666). -/
def rowsBTS : List Row :=
  [ ⟨"BTS_CTL.ESPOL", 0x000, 0, 4, .ws, 0, 0x0, 1⟩,
    ⟨"BTS_STAT.MOVING", 0x004, 0, 2, .ro, 0, 0x0, 1⟩,
    ⟨"BTS_STAT.VMOTLOW", 0x004, 2, 1, .ro, 0, 0x0, 1⟩,
    ⟨"BTS_STAT.CLAMP", 0x004, 3, 1, .w1c, 0, 0x0, 1⟩,
    ⟨"BTS_STAT.ES", 0x004, 8, 4, .ro, 0, 0x0, 1⟩,
    ⟨"BTS_SEAL.GO", 0x008, 0, 1, .wo, 0, 0x0, 1⟩,
    ⟨"BTS_SEAL.PEND", 0x008, 1, 1, .ro, 0, 0x0, 1⟩,
    ⟨"BTS_SEAL.LOCKED", 0x008, 2, 1, .ro, 0, 0x0, 1⟩,
    ⟨"BTS_SEAL.REPL", 0x008, 3, 1, .w1c, 0, 0x0, 1⟩,
    ⟨"BTS_SEAL.DISC", 0x008, 4, 1, .w1c, 0, 0x0, 1⟩,
    ⟨"BTS_ISNS.I0", 0x00c, 0, 8, .ro, 0, 0x0, 1⟩,
    ⟨"BTS_ISNS.I1", 0x00c, 8, 8, .ro, 0, 0x0, 1⟩,
    ⟨"BTS_TEN.EN", 0x010, 0, 8, .rw, 0, 0x0, 1⟩,
    ⟨"BTS_TSTAT.TRIP", 0x014, 0, 8, .ro, 0, 0x0, 1⟩,
    ⟨"BTS_TRARM.ARM", 0x018, 0, 8, .wo, 0, 0x0, 1⟩,
    ⟨"BTS_TPER.PER", 0x01c, 0, 16, .ws, 33, 0x0, 1⟩,
    ⟨"BTS_TPER.FAILN", 0x01c, 16, 4, .ws, 2, 0x0, 1⟩,
    ⟨"BTS_TCFG.SEED", 0x100, 0, 16, .ws, 0xace1, 0x4, 8⟩,
    ⟨"BTS_TCFG.ZERO", 0x100, 16, 1, .ws, 0, 0x4, 8⟩,
    ⟨"BTS_TCFG.LOCK", 0x100, 17, 1, .ws, 0, 0x4, 8⟩ ]

/-- The CIP block at 0x4000C000 (12_cipher.md R546). -/
def rowsCIP : List Row :=
  [ ⟨"CIP_LOCK.CLAIM", 0x000, 0, 1, .wo, 0, 0x0, 1⟩,
    ⟨"CIP_LOCK.RELEASE", 0x000, 1, 1, .wo, 0, 0x0, 1⟩,
    ⟨"CIP_LOCK.HELD", 0x000, 2, 1, .ro, 0, 0x0, 1⟩,
    ⟨"CIP_LOCK.OWNER", 0x000, 4, 4, .ro, 0, 0x0, 1⟩,
    ⟨"CIP_LOCK.TOKEN", 0x000, 16, 16, .ro, 0, 0x0, 1⟩,
    ⟨"CIP_ROUTE.TMASK", 0x004, 0, 10, .rw, 1, 0x0, 1⟩,
    ⟨"CIP_SEAL.GO", 0x008, 0, 1, .wo, 0, 0x0, 1⟩,
    ⟨"CIP_SEAL.PEND", 0x008, 1, 1, .ro, 0, 0x0, 1⟩,
    ⟨"CIP_SEAL.LOCKED", 0x008, 2, 1, .ro, 0, 0x0, 1⟩,
    ⟨"CIP_SEAL.REPL", 0x008, 3, 1, .w1c, 0, 0x0, 1⟩,
    ⟨"CIP_SEAL.DISC", 0x008, 4, 1, .w1c, 0, 0x0, 1⟩,
    ⟨"CIP_SIDLO.SID", 0x00c, 0, 32, .lk, 0, 0x0, 1⟩,
    ⟨"CIP_SIDHI.SID", 0x010, 0, 32, .lk, 0, 0x0, 1⟩,
    ⟨"CIP_KST.SLOTS", 0x014, 0, 32, .ro, 0, 0x0, 1⟩,
    ⟨"CIP_STAT.BUSY", 0x018, 0, 1, .ro, 0, 0x0, 1⟩,
    ⟨"CIP_STAT.PFAULT", 0x018, 1, 1, .w1c, 0, 0x0, 1⟩,
    ⟨"CIP_STAT.TZERO", 0x018, 2, 1, .w1c, 0, 0x0, 1⟩,
    ⟨"CIP_STAT.SCANNED", 0x018, 3, 1, .ro, 0, 0x0, 1⟩,
    ⟨"CIP_STAT.FSLOT", 0x018, 4, 4, .ro, 0, 0x0, 1⟩,
    ⟨"CIP_STAT.LIVE", 0x018, 8, 8, .ro, 0, 0x0, 1⟩,
    ⟨"CIP_NSEL.SLOT", 0x01c, 0, 4, .rw, 0, 0x0, 1⟩,
    ⟨"CIP_NCTRLO.CTR", 0x020, 0, 32, .ro, 0, 0x0, 1⟩,
    ⟨"CIP_NCTRHI.CTR", 0x024, 0, 8, .ro, 0, 0x0, 1⟩,
    ⟨"CIP_NCTRHI.RESBLK", 0x024, 8, 24, .ro, 0, 0x0, 1⟩,
    ⟨"CIP_ZERO.KEY", 0x030, 0, 8, .wo, 0, 0x0, 1⟩,
    ⟨"CIP_NPURGE.KEY", 0x034, 0, 8, .wo, 0, 0x0, 1⟩,
    ⟨"CIP_ECTL.EN", 0x040, 0, 1, .rw, 1, 0x0, 1⟩,
    ⟨"CIP_ECTL.RESTART", 0x040, 1, 1, .wo, 0, 0x0, 1⟩,
    ⟨"CIP_ESTAT.READY", 0x044, 0, 1, .ro, 0, 0x0, 1⟩,
    ⟨"CIP_ESTAT.RCTFAIL", 0x044, 1, 1, .w1c, 0, 0x0, 1⟩,
    ⟨"CIP_ESTAT.APTFAIL", 0x044, 2, 1, .w1c, 0, 0x0, 1⟩,
    ⟨"CIP_ESTAT.HALTED", 0x044, 3, 1, .ro, 0, 0x0, 1⟩ ]

/-- The RAD block at 0x4000D000 (10_radio_ook.md R453). -/
def rowsRAD : List Row :=
  [ ⟨"RAD_CTL.CALAUTO", 0x000, 0, 1, .rw, 1, 0x0, 1⟩,
    ⟨"RAD_CTL.CALDT", 0x000, 4, 5, .rw, 10, 0x0, 1⟩,
    ⟨"RAD_STAT.TXON", 0x004, 0, 1, .ro, 0, 0x0, 1⟩,
    ⟨"RAD_STAT.RXON", 0x004, 1, 1, .ro, 0, 0x0, 1⟩,
    ⟨"RAD_STAT.SNIFFING", 0x004, 2, 1, .ro, 0, 0x0, 1⟩,
    ⟨"RAD_STAT.CALSTALE", 0x004, 3, 1, .ro, 1, 0x0, 1⟩,
    ⟨"RAD_STAT.CLAMP", 0x004, 4, 1, .w1c, 0, 0x0, 1⟩,
    ⟨"RAD_STAT.LOCK", 0x004, 5, 1, .ro, 0, 0x0, 1⟩,
    ⟨"RAD_STAT.CALDEF", 0x004, 8, 8, .ro, 0, 0x0, 1⟩,
    ⟨"RAD_SEAL.GO", 0x008, 0, 1, .wo, 0, 0x0, 1⟩,
    ⟨"RAD_SEAL.PEND", 0x008, 1, 1, .ro, 0, 0x0, 1⟩,
    ⟨"RAD_SEAL.LOCKED", 0x008, 2, 1, .ro, 0, 0x0, 1⟩,
    ⟨"RAD_SEAL.REPL", 0x008, 3, 1, .w1c, 0, 0x0, 1⟩,
    ⟨"RAD_SEAL.DISC", 0x008, 4, 1, .w1c, 0, 0x0, 1⟩,
    ⟨"RAD_POOL.BANK", 0x00c, 0, 4, .lk, 15, 0x0, 1⟩,
    ⟨"RAD_POOL.GRANTED", 0x00c, 8, 1, .ro, 0, 0x0, 1⟩,
    ⟨"RAD_BSEL.INDEX", 0x010, 0, 8, .rw, 0, 0x0, 1⟩,
    ⟨"RAD_BOWN.STATE", 0x014, 0, 2, .ro, 0, 0x0, 1⟩,
    ⟨"RAD_SYNCLO.LO", 0x018, 0, 32, .ws, 0x5c0f9e37, 0x0, 1⟩,
    ⟨"RAD_SYNCHI.HI", 0x01c, 0, 32, .ws, 0x2dd4a7b1, 0x0, 1⟩,
    ⟨"RAD_LANTW.CODE", 0x020, 0, 32, .ws, 0xb38f0a65, 0x0, 1⟩,
    ⟨"RAD_LANTA.CODE", 0x024, 0, 32, .ws, 0x4c70f59a, 0x0, 1⟩,
    ⟨"RAD_LANT.RATE0", 0x028, 0, 3, .ws, 3, 0x0, 1⟩,
    ⟨"RAD_LANT.RATE1", 0x028, 4, 3, .ws, 0, 0x0, 1⟩,
    ⟨"RAD_LANT.LMATCH", 0x028, 8, 6, .ws, 28, 0x0, 1⟩,
    ⟨"RAD_SNIFF.BAND", 0x02c, 0, 1, .ws, 0, 0x0, 1⟩,
    ⟨"RAD_SNIFF.LEVEL", 0x02c, 4, 8, .ws, 28, 0x0, 1⟩,
    ⟨"RAD_SNIFF.WIN", 0x02c, 16, 12, .ws, 250, 0x0, 1⟩,
    ⟨"RAD_SNPER.TICKS", 0x030, 0, 24, .ws, 0x8000, 0x0, 1⟩,
    ⟨"RAD_LSTAT.HIT", 0x034, 0, 1, .w1c, 0, 0x0, 1⟩,
    ⟨"RAD_LSTAT.ALARM", 0x034, 1, 1, .ro, 0, 0x0, 1⟩,
    ⟨"RAD_LSTAT.FALSE", 0x034, 8, 8, .ro, 0, 0x0, 1⟩,
    ⟨"RAD_CALPER.SECONDS", 0x038, 0, 16, .rw, 600, 0x0, 1⟩,
    ⟨"RAD_P0_FREQ.KHZ", 0x100, 0, 22, .ws, 0xd3fcc, 0x0, 1⟩,
    ⟨"RAD_P1_FREQ.KHZ", 0x120, 0, 22, .ws, 0x253b40, 0x0, 1⟩,
    ⟨"RAD_P0_MOD.RATE", 0x104, 0, 3, .ws, 3, 0x0, 1⟩ ] ++
  [ ⟨"RAD_P0_MOD.PWR", 0x104, 8, 7, .ws, 40, 0x0, 1⟩,
    ⟨"RAD_P0_MOD.PRELEN", 0x104, 16, 9, .ws, 64, 0x0, 1⟩,
    ⟨"RAD_P1_MOD.RATE", 0x124, 0, 3, .ws, 0, 0x0, 1⟩,
    ⟨"RAD_P1_MOD.PWR", 0x124, 8, 7, .ws, 40, 0x0, 1⟩,
    ⟨"RAD_P1_MOD.PRELEN", 0x124, 16, 9, .ws, 64, 0x0, 1⟩,
    ⟨"RAD_P_RX.THRESH", 0x108, 0, 7, .ws, 56, 0x20, 2⟩,
    ⟨"RAD_P_DUTY.BUDGET", 0x10c, 0, 16, .rw, 0, 0x20, 2⟩,
    ⟨"RAD_P_DUTY.WINS", 0x10c, 16, 12, .rw, 3600, 0x20, 2⟩,
    ⟨"RAD_P_DUSED.US", 0x110, 0, 32, .ro, 0, 0x20, 2⟩,
    ⟨"RAD_WK_STEP.STEP", 0x200, 0, 5, .ws, 3, 0x40, 8⟩,
    ⟨"RAD_WK_AMP0.A0", 0x220, 0, 8, .ws, 7, 0x40, 8⟩,
    ⟨"RAD_WK_AMP0.A1", 0x220, 8, 8, .ws, 15, 0x40, 8⟩,
    ⟨"RAD_WK_AMP0.A2", 0x220, 16, 8, .ws, 23, 0x40, 8⟩,
    ⟨"RAD_WK_AMP0.A3", 0x220, 24, 8, .ws, 31, 0x40, 8⟩,
    ⟨"RAD_WK_AMP1.A0", 0x224, 0, 8, .ws, 39, 0x40, 8⟩,
    ⟨"RAD_WK_AMP1.A1", 0x224, 8, 8, .ws, 47, 0x40, 8⟩,
    ⟨"RAD_WK_AMP1.A2", 0x224, 16, 8, .ws, 55, 0x40, 8⟩,
    ⟨"RAD_WK_AMP1.A3", 0x224, 24, 8, .ws, 63, 0x40, 8⟩,
    ⟨"RAD_WK_AMP2.A0", 0x228, 0, 8, .ws, 71, 0x40, 8⟩,
    ⟨"RAD_WK_AMP2.A1", 0x228, 8, 8, .ws, 79, 0x40, 8⟩,
    ⟨"RAD_WK_AMP2.A2", 0x228, 16, 8, .ws, 87, 0x40, 8⟩,
    ⟨"RAD_WK_AMP2.A3", 0x228, 24, 8, .ws, 95, 0x40, 8⟩,
    ⟨"RAD_WK_AMP3.A0", 0x22c, 0, 8, .ws, 103, 0x40, 8⟩,
    ⟨"RAD_WK_AMP3.A1", 0x22c, 8, 8, .ws, 111, 0x40, 8⟩,
    ⟨"RAD_WK_AMP3.A2", 0x22c, 16, 8, .ws, 119, 0x40, 8⟩,
    ⟨"RAD_WK_AMP3.A3", 0x22c, 24, 8, .ws, 127, 0x40, 8⟩,
    ⟨"RAD_WK_AMP4.A0", 0x230, 0, 8, .ws, 135, 0x40, 8⟩,
    ⟨"RAD_WK_AMP4.A1", 0x230, 8, 8, .ws, 143, 0x40, 8⟩,
    ⟨"RAD_WK_AMP4.A2", 0x230, 16, 8, .ws, 151, 0x40, 8⟩,
    ⟨"RAD_WK_AMP4.A3", 0x230, 24, 8, .ws, 159, 0x40, 8⟩,
    ⟨"RAD_WK_AMP5.A0", 0x234, 0, 8, .ws, 167, 0x40, 8⟩,
    ⟨"RAD_WK_AMP5.A1", 0x234, 8, 8, .ws, 175, 0x40, 8⟩,
    ⟨"RAD_WK_AMP5.A2", 0x234, 16, 8, .ws, 183, 0x40, 8⟩,
    ⟨"RAD_WK_AMP5.A3", 0x234, 24, 8, .ws, 191, 0x40, 8⟩,
    ⟨"RAD_WK_AMP6.A0", 0x238, 0, 8, .ws, 199, 0x40, 8⟩,
    ⟨"RAD_WK_AMP6.A1", 0x238, 8, 8, .ws, 207, 0x40, 8⟩ ] ++
  [ ⟨"RAD_WK_AMP6.A2", 0x238, 16, 8, .ws, 215, 0x40, 8⟩,
    ⟨"RAD_WK_AMP6.A3", 0x238, 24, 8, .ws, 223, 0x40, 8⟩,
    ⟨"RAD_WK_AMP7.A0", 0x23c, 0, 8, .ws, 231, 0x40, 8⟩,
    ⟨"RAD_WK_AMP7.A1", 0x23c, 8, 8, .ws, 239, 0x40, 8⟩,
    ⟨"RAD_WK_AMP7.A2", 0x23c, 16, 8, .ws, 247, 0x40, 8⟩,
    ⟨"RAD_WK_AMP7.A3", 0x23c, 24, 8, .ws, 255, 0x40, 8⟩ ]

/-- The MSH block at 0x4000E000 (11_klopol_mesh.md R499). -/
def rowsMSH : List Row :=
  [ ⟨"MSH_CTL.RUN", 0x000, 0, 1, .rw, 0, 0x0, 1⟩,
    ⟨"MSH_CTL.ROOT", 0x000, 1, 1, .ws, 0, 0x0, 1⟩,
    ⟨"MSH_CTL.HOLD", 0x000, 2, 1, .rw, 0, 0x0, 1⟩,
    ⟨"MSH_CTL.RELAY", 0x000, 3, 1, .rw, 1, 0x0, 1⟩,
    ⟨"MSH_CTL.JBAND", 0x000, 4, 1, .ws, 0, 0x0, 1⟩,
    ⟨"MSH_CTL.LBAND", 0x000, 5, 1, .ws, 0, 0x0, 1⟩,
    ⟨"MSH_STAT.STATE", 0x004, 0, 2, .ro, 0, 0x0, 1⟩,
    ⟨"MSH_STAT.HOPS", 0x004, 4, 4, .ro, 15, 0x0, 1⟩,
    ⟨"MSH_STAT.BADSLOT", 0x004, 8, 1, .w1c, 0, 0x0, 1⟩,
    ⟨"MSH_STAT.CLAMP", 0x004, 9, 1, .w1c, 0, 0x0, 1⟩,
    ⟨"MSH_STAT.SLOT", 0x004, 16, 10, .ro, 0, 0x0, 1⟩,
    ⟨"MSH_SEAL.GO", 0x008, 0, 1, .wo, 0, 0x0, 1⟩,
    ⟨"MSH_SEAL.PEND", 0x008, 1, 1, .ro, 0, 0x0, 1⟩,
    ⟨"MSH_SEAL.LOCKED", 0x008, 2, 1, .ro, 0, 0x0, 1⟩,
    ⟨"MSH_SEAL.REPL", 0x008, 3, 1, .w1c, 0, 0x0, 1⟩,
    ⟨"MSH_SEAL.DISC", 0x008, 4, 1, .w1c, 0, 0x0, 1⟩,
    ⟨"MSH_ID.MESHID", 0x00c, 0, 24, .ws, 0, 0x0, 1⟩,
    ⟨"MSH_ADDR.ADDR", 0x010, 0, 16, .ws, 0, 0x0, 1⟩,
    ⟨"MSH_SCHED.ADDR", 0x014, 2, 30, .ws, 0, 0x0, 1⟩,
    ⟨"MSH_CYC.CYCLEN", 0x018, 0, 11, .ws, 128, 0x0, 1⟩,
    ⟨"MSH_CYC.SLOTLEN", 0x018, 16, 11, .ws, 256, 0x0, 1⟩,
    ⟨"MSH_TIM.TXOFF", 0x01c, 0, 12, .ws, 1000, 0x0, 1⟩,
    ⟨"MSH_TIM.ACKGAP", 0x01c, 12, 10, .ws, 250, 0x0, 1⟩,
    ⟨"MSH_TIM.RETRY", 0x01c, 22, 4, .ws, 3, 0x0, 1⟩,
    ⟨"MSH_LOST.DMIN", 0x020, 0, 8, .ws, 32, 0x0, 1⟩,
    ⟨"MSH_LOST.FILT", 0x020, 8, 3, .ws, 2, 0x0, 1⟩,
    ⟨"MSH_LOST.MISS", 0x020, 12, 4, .ws, 4, 0x0, 1⟩,
    ⟨"MSH_LOST.STEPN", 0x020, 16, 4, .ws, 2, 0x0, 1⟩,
    ⟨"MSH_LOST.SPER", 0x020, 20, 8, .ws, 8, 0x0, 1⟩,
    ⟨"MSH_LANT.LDUR", 0x024, 0, 16, .ws, 1100, 0x0, 1⟩,
    ⟨"MSH_LANT.FLOOD", 0x024, 16, 16, .ws, 1100, 0x0, 1⟩,
    ⟨"MSH_OFFLO.OFF", 0x028, 0, 32, .ro, 0, 0x0, 1⟩,
    ⟨"MSH_OFFHI.OFF", 0x02c, 0, 32, .ro, 0, 0x0, 1⟩,
    ⟨"MSH_ADJ.ADJ", 0x030, 0, 32, .ws, 0, 0x0, 1⟩,
    ⟨"MSH_CYCNO.CYCLE", 0x034, 0, 32, .ro, 0, 0x0, 1⟩,
    ⟨"MSH_HOL.CH", 0x040, 0, 4, .rw, 0, 0x0, 1⟩ ] ++
  [ ⟨"MSH_HOL.WLEAD", 0x040, 8, 8, .rw, 66, 0x0, 1⟩,
    ⟨"MSH_HSTAT.STATE", 0x044, 0, 3, .ro, 0, 0x0, 1⟩,
    ⟨"MSH_HSTAT.HID", 0x044, 8, 8, .ro, 0, 0x0, 1⟩,
    ⟨"MSH_HSTAT.HPAR", 0x044, 16, 6, .ro, 0, 0x0, 1⟩,
    ⟨"MSH_HSTAT.COORD", 0x044, 24, 1, .ro, 0, 0x0, 1⟩,
    ⟨"MSH_HCOMMIT.CYCLE", 0x048, 0, 32, .ro, 0, 0x0, 1⟩,
    ⟨"MSH_HSTART.CYCLE", 0x04c, 0, 32, .ro, 0, 0x0, 1⟩,
    ⟨"MSH_HLEN.N", 0x050, 0, 16, .ro, 0, 0x0, 1⟩,
    ⟨"MSH_CNT.DUP", 0x054, 0, 8, .ro, 0, 0x0, 1⟩,
    ⟨"MSH_CNT.RXSKIP", 0x054, 8, 8, .ro, 0, 0x0, 1⟩,
    ⟨"MSH_CNT.YIELD", 0x054, 16, 8, .ro, 0, 0x0, 1⟩,
    ⟨"MSH_CNT.DUTYSK", 0x054, 24, 8, .ro, 0, 0x0, 1⟩,
    ⟨"MSH_CNTCLR.CLR", 0x058, 0, 1, .wo, 0, 0x0, 1⟩,
    ⟨"NBR_ST.ADDR", 0x400, 0, 16, .ro, 0, 0x10, 64⟩,
    ⟨"NBR_ST.STATE", 0x400, 16, 3, .ro, 0, 0x10, 64⟩,
    ⟨"NBR_ST.TSRC", 0x400, 19, 1, .ro, 0, 0x10, 64⟩,
    ⟨"NBR_ST.STEP", 0x400, 20, 3, .ro, 0, 0x10, 64⟩,
    ⟨"NBR_ST.MISSN", 0x400, 24, 8, .ro, 0, 0x10, 64⟩,
    ⟨"NBR_MID.MID", 0x404, 0, 24, .ro, 0, 0x10, 64⟩,
    ⟨"NBR_MID.CRED", 0x404, 24, 8, .ro, 0, 0x10, 64⟩,
    ⟨"NBR_DRIFT.D", 0x408, 0, 16, .ro, 0, 0x10, 64⟩,
    ⟨"NBR_DRIFT.GUARD", 0x408, 16, 16, .ro, 0, 0x10, 64⟩,
    ⟨"NBR_SYNC.TICK", 0x40c, 0, 32, .ro, 0, 0x10, 64⟩ ]

/-- The GNS block at 0x4000F000 (13_gnss_snapshot.md R584). -/
def rowsGNS : List Row :=
  [ ⟨"GNS_FE.EN", 0x000, 0, 1, .rw, 0, 0x0, 1⟩,
    ⟨"GNS_FE.HOLDON", 0x000, 1, 1, .rw, 0, 0x0, 1⟩,
    ⟨"GNS_FE.AGCMAN", 0x000, 2, 1, .ws, 0, 0x0, 1⟩,
    ⟨"GNS_FE.GAIN", 0x000, 3, 7, .ws, 64, 0x0, 1⟩,
    ⟨"GNS_STAT.TCXOOK", 0x004, 0, 1, .ro, 0, 0x0, 1⟩,
    ⟨"GNS_STAT.FERDY", 0x004, 1, 1, .ro, 0, 0x0, 1⟩,
    ⟨"GNS_STAT.CAPT", 0x004, 2, 1, .ro, 0, 0x0, 1⟩,
    ⟨"GNS_STAT.TCXOFAIL", 0x004, 3, 1, .w1c, 0, 0x0, 1⟩,
    ⟨"GNS_STAT.CLAMP", 0x004, 4, 1, .w1c, 0, 0x0, 1⟩,
    ⟨"GNS_STAT.GAIN", 0x004, 5, 7, .ro, 0, 0x0, 1⟩,
    ⟨"GNS_STAT.JN", 0x004, 16, 6, .ro, 0, 0x0, 1⟩,
    ⟨"GNS_SEAL.GO", 0x008, 0, 1, .wo, 0, 0x0, 1⟩,
    ⟨"GNS_SEAL.PEND", 0x008, 1, 1, .ro, 0, 0x0, 1⟩,
    ⟨"GNS_SEAL.LOCKED", 0x008, 2, 1, .ro, 0, 0x0, 1⟩,
    ⟨"GNS_SEAL.REPL", 0x008, 3, 1, .w1c, 0, 0x0, 1⟩,
    ⟨"GNS_SEAL.DISC", 0x008, 4, 1, .w1c, 0, 0x0, 1⟩,
    ⟨"GNS_EPOCH.EPOCH", 0x00c, 0, 32, .ro, 0, 0x0, 1⟩,
    ⟨"GNS_JNC.JNREF", 0x010, 0, 7, .rw, 118, 0x0, 1⟩,
    ⟨"GNS_JNC.JNTH", 0x010, 8, 6, .rw, 10, 0x0, 1⟩,
    ⟨"GNS_NCTL.MODES", 0x014, 0, 8, .ws, 0, 0x0, 1⟩,
    ⟨"GNS_NCTL.DEPTHS", 0x014, 8, 8, .ws, 170, 0x0, 1⟩,
    ⟨"GNS_NCTL.HOLD", 0x014, 16, 1, .rw, 0, 0x0, 1⟩,
    ⟨"GNS_NSTAT.SETTLED", 0x018, 0, 4, .ro, 0, 0x0, 1⟩,
    ⟨"GNS_NSTAT.FROZEN", 0x018, 4, 4, .ro, 0, 0x0, 1⟩,
    ⟨"GNS_NFREQ.FREQ", 0x020, 0, 16, .ws, 0, 0x4, 4⟩,
    ⟨"GNS_NFREQ.LIVE", 0x020, 16, 16, .ro, 0, 0x4, 4⟩,
    ⟨"GNS_LOOP.DLLBW", 0x030, 0, 3, .ws, 2, 0x0, 1⟩,
    ⟨"GNS_LOOP.PLLBW", 0x030, 4, 3, .ws, 5, 0x0, 1⟩,
    ⟨"GNS_LOOP.FLLBW", 0x030, 8, 3, .ws, 3, 0x0, 1⟩,
    ⟨"GNS_LOOP.SPACING", 0x030, 12, 2, .ws, 1, 0x0, 1⟩,
    ⟨"GNS_LOOP.TCOH", 0x030, 16, 3, .ws, 0, 0x0, 1⟩,
    ⟨"GNS_LOOP.ACQNC", 0x030, 20, 4, .ws, 4, 0x0, 1⟩,
    ⟨"GNS_LOOP.ACQTH", 0x030, 24, 8, .ws, 136, 0x0, 1⟩,
    ⟨"GNS_MEAS.PERIOD", 0x034, 0, 10, .ws, 100, 0x0, 1⟩,
    ⟨"GNS_LOSS.LOSSCN", 0x038, 0, 8, .ws, 96, 0x0, 1⟩,
    ⟨"GNS_LOSS.LOSSMS", 0x038, 8, 8, .ws, 50, 0x0, 1⟩ ] ++
  [ ⟨"GNS_CHLO.STATE", 0x040, 0, 32, .ro, 0, 0x0, 1⟩,
    ⟨"GNS_CHHI.STATE", 0x044, 0, 32, .ro, 0, 0x0, 1⟩,
    ⟨"GNS_PPSCTL.EN", 0x050, 0, 1, .rw, 0, 0x0, 1⟩,
    ⟨"GNS_PPSCTL.POL", 0x050, 1, 1, .rw, 0, 0x0, 1⟩,
    ⟨"GNS_PPSCTL.WIDTH", 0x050, 2, 8, .rw, 100, 0x0, 1⟩,
    ⟨"GNS_PPSCTL.HMODE", 0x050, 10, 1, .rw, 0, 0x0, 1⟩,
    ⟨"GNS_PPSSTAT.STATE", 0x054, 0, 3, .ro, 0, 0x0, 1⟩,
    ⟨"GNS_PPSSTAT.HVALID", 0x054, 3, 1, .ro, 0, 0x0, 1⟩,
    ⟨"GNS_PPSSTAT.BOUNDX", 0x054, 4, 1, .w1c, 0, 0x0, 1⟩,
    ⟨"GNS_PPSSTAT.COARSE", 0x054, 5, 1, .ro, 0, 0x0, 1⟩,
    ⟨"GNS_PPSSTAT.HSEC", 0x054, 16, 16, .ro, 0, 0x0, 1⟩,
    ⟨"GNS_PPSSTEER.STEER", 0x058, 0, 32, .rw, 0, 0x0, 1⟩,
    ⟨"GNS_PPSADJ.ADJ", 0x05c, 0, 32, .wo, 0, 0x0, 1⟩,
    ⟨"GNS_PPSFIX.ACC", 0x060, 0, 16, .wo, 0, 0x0, 1⟩,
    ⟨"GNS_PPSFIX.GO", 0x060, 31, 1, .wo, 0, 0x0, 1⟩,
    ⟨"GNS_PPSERR.ERR", 0x064, 0, 32, .ro, 0xffffffff, 0x0, 1⟩,
    ⟨"GNS_HDRIFT.DRIFT", 0x068, 0, 32, .ro, 0, 0x0, 1⟩,
    ⟨"GNS_HUNC.U", 0x06c, 0, 16, .ro, 0, 0x0, 1⟩,
    ⟨"GNS_HCTL.TIMEOUT", 0x070, 0, 16, .rw, 10, 0x0, 1⟩,
    ⟨"GNS_HCTL.AVG", 0x070, 16, 8, .rw, 64, 0x0, 1⟩,
    ⟨"GNS_HCTL.WANDER", 0x070, 24, 8, .rw, 1, 0x0, 1⟩,
    ⟨"GNS_HLIM.LIMIT", 0x074, 0, 16, .rw, 0, 0x0, 1⟩,
    ⟨"GNS_HLIM.UFLOOR", 0x074, 16, 16, .rw, 2, 0x0, 1⟩ ]

/-- The PIN block at 0x40010000 (17_electrical_package.md R700). -/
def rowsPIN : List Row :=
  [ ⟨"PIN_OUT.OUT", 0x000, 0, 24, .rw, 0, 0x0, 1⟩,
    ⟨"PIN_SET.SET", 0x004, 0, 24, .wo, 0, 0x0, 1⟩,
    ⟨"PIN_CLR.CLR", 0x008, 0, 24, .wo, 0, 0x0, 1⟩,
    ⟨"PIN_IN.IN", 0x00c, 0, 24, .ro, 0, 0x0, 1⟩,
    ⟨"PIN_EDGE.EDGE", 0x010, 0, 24, .w1c, 0, 0x0, 1⟩,
    ⟨"PIN_CFG.FUNC", 0x100, 0, 2, .rw, 3, 0x4, 24⟩,
    ⟨"PIN_CFG.PULL", 0x100, 2, 2, .rw, 1, 0x4, 24⟩,
    ⟨"PIN_CFG.DRIVE", 0x100, 4, 1, .rw, 0, 0x4, 24⟩,
    ⟨"PIN_CFG.OD", 0x100, 5, 1, .rw, 0, 0x4, 24⟩,
    ⟨"PIN_CFG.EDGE", 0x100, 6, 2, .rw, 0, 0x4, 24⟩,
    ⟨"PIN_CFG.WAKE", 0x100, 8, 1, .rw, 0, 0x4, 24⟩ ]

/-- The CAL block at 0x50000000 (09_calendar_backup.md R407). -/
def rowsCAL : List Row :=
  [ ⟨"CAL_SUB.SUB", 0x000, 0, 10, .ro, 0, 0x0, 1⟩,
    ⟨"CAL_TIME.SEC", 0x004, 0, 6, .ro, 0, 0x0, 1⟩,
    ⟨"CAL_TIME.MIN", 0x004, 8, 6, .ro, 0, 0x0, 1⟩,
    ⟨"CAL_TIME.HOUR", 0x004, 16, 5, .ro, 0, 0x0, 1⟩,
    ⟨"CAL_DATE.DAY", 0x008, 0, 5, .ro, 1, 0x0, 1⟩,
    ⟨"CAL_DATE.MONTH", 0x008, 8, 4, .ro, 1, 0x0, 1⟩,
    ⟨"CAL_DATE.WDAY", 0x008, 12, 3, .ro, 6, 0x0, 1⟩,
    ⟨"CAL_DATE.YEAR", 0x008, 16, 12, .ro, 2000, 0x0, 1⟩,
    ⟨"CAL_FTICK.TICK", 0x00c, 0, 32, .ro, 0, 0x0, 1⟩,
    ⟨"CAL_STAT.OSF", 0x010, 0, 1, .w1c, 1, 0x0, 1⟩,
    ⟨"CAL_STAT.OSFWHY", 0x010, 1, 2, .ro, 1, 0x0, 1⟩,
    ⟨"CAL_STAT.LBV", 0x010, 3, 1, .w1c, 0, 0x0, 1⟩,
    ⟨"CAL_STAT.VBLOW", 0x010, 4, 1, .ro, 0, 0x0, 1⟩,
    ⟨"CAL_STAT.HELDLONG", 0x010, 5, 1, .w1c, 0, 0x0, 1⟩,
    ⟨"CAL_STAT.FROZEN", 0x010, 6, 1, .ro, 0, 0x0, 1⟩,
    ⟨"CAL_STAT.BADSET", 0x010, 7, 1, .w1c, 0, 0x0, 1⟩,
    ⟨"CAL_STAT.WRAP", 0x010, 8, 1, .w1c, 0, 0x0, 1⟩,
    ⟨"CAL_CTL.LBVTH", 0x014, 0, 2, .rw, 0, 0x0, 1⟩,
    ⟨"CAL_CTL.LBVEN", 0x014, 2, 1, .rw, 1, 0x0, 1⟩,
    ⟨"CAL_SSUB.SUB", 0x020, 0, 10, .ws, 0, 0x0, 1⟩,
    ⟨"CAL_STIME.SEC", 0x024, 0, 6, .ws, 0, 0x0, 1⟩,
    ⟨"CAL_STIME.MIN", 0x024, 8, 6, .ws, 0, 0x0, 1⟩,
    ⟨"CAL_STIME.HOUR", 0x024, 16, 5, .ws, 0, 0x0, 1⟩,
    ⟨"CAL_SDATE.DAY", 0x028, 0, 5, .ws, 1, 0x0, 1⟩,
    ⟨"CAL_SDATE.MONTH", 0x028, 8, 4, .ws, 1, 0x0, 1⟩,
    ⟨"CAL_SDATE.YEAR", 0x028, 16, 12, .ws, 2000, 0x0, 1⟩,
    ⟨"CAL_SEAL.GO", 0x02c, 0, 1, .wo, 0, 0x0, 1⟩,
    ⟨"CAL_SEAL.PEND", 0x02c, 1, 1, .ro, 0, 0x0, 1⟩,
    ⟨"CAL_SEAL.LOCKED", 0x02c, 2, 1, .ro, 0, 0x0, 1⟩,
    ⟨"CAL_SEAL.REPL", 0x02c, 3, 1, .w1c, 0, 0x0, 1⟩,
    ⟨"CAL_SEAL.DISC", 0x02c, 4, 1, .w1c, 0, 0x0, 1⟩,
    ⟨"CAL_TSUB.SUB", 0x040, 0, 10, .ro, 0, 0x0, 1⟩,
    ⟨"CAL_TTIME.SEC", 0x044, 0, 6, .ro, 0, 0x0, 1⟩,
    ⟨"CAL_TTIME.MIN", 0x044, 8, 6, .ro, 0, 0x0, 1⟩,
    ⟨"CAL_TTIME.HOUR", 0x044, 16, 5, .ro, 0, 0x0, 1⟩,
    ⟨"CAL_TDATE.DAY", 0x048, 0, 5, .ro, 0, 0x0, 1⟩ ] ++
  [ ⟨"CAL_TDATE.MONTH", 0x048, 8, 4, .ro, 0, 0x0, 1⟩,
    ⟨"CAL_TDATE.WDAY", 0x048, 12, 3, .ro, 0, 0x0, 1⟩,
    ⟨"CAL_TDATE.YEAR", 0x048, 16, 12, .ro, 0, 0x0, 1⟩,
    ⟨"CAL_TSRC.VALID", 0x04c, 0, 1, .ro, 0, 0x0, 1⟩,
    ⟨"CAL_TSRC.LOOP", 0x04c, 1, 3, .ro, 0, 0x0, 1⟩,
    ⟨"CAL_TSRC.PASSIVE", 0x04c, 4, 1, .ro, 0, 0x0, 1⟩,
    ⟨"CAL_TSRC.NOVDD", 0x04c, 5, 1, .ro, 0, 0x0, 1⟩,
    ⟨"CAL_TSRC.CALBAD", 0x04c, 6, 1, .ro, 0, 0x0, 1⟩,
    ⟨"CAL_TSRC.MORE", 0x04c, 16, 8, .ro, 0, 0x0, 1⟩,
    ⟨"CAL_TCLR.KEY", 0x050, 0, 8, .wo, 0, 0x0, 1⟩,
    ⟨"CAL_BSENSE.EN", 0x054, 0, 8, .rw, 0, 0x0, 1⟩,
    ⟨"CAL_CLOSE.AGE", 0x07c, 0, 11, .ro, 0, 0x0, 1⟩ ]

/-- The rows of the block that holds byte address `a`: the address space's order of blocks (03 R108). -/
def blockRows (a : Nat) : List Row :=
  match a / 0x1000 with
  | 0x40000 => rowsIDN
  | 0x40001 => rowsLDG
  | 0x40002 => rowsPWR
  | 0x40003 => rowsCLK
  | 0x40004 => rowsEVT
  | 0x40005 => rowsQUE
  | 0x40006 => rowsFLC
  | 0x40007 => rowsTMB
  | 0x40008 => rowsCNT
  | 0x40009 => rowsCSP
  | 0x4000a => rowsTAG
  | 0x4000b => rowsBTS
  | 0x4000c => rowsCIP
  | 0x4000d => rowsRAD
  | 0x4000e => rowsMSH
  | 0x4000f => rowsGNS
  | 0x40010 => rowsPIN
  | 0x50000 => rowsCAL
  | _ => []

/-- Whether a row covers the register at offset `x` of its block. -/
def Row.hits (r : Row) (x : Nat) : Bool :=
  if r.stride = 0 then x == r.off
  else r.off ≤ x && (x - r.off) % r.stride == 0 && (x - r.off) / r.stride < r.count

/-- The fields of the register at address `a` (none at an unassigned offset, R12, R13). -/
def fieldsAt (a : Nat) : List Row := (blockRows a).filter (·.hits (a % 0x1000))

/-- The value of a register's fields after a full reset. -/
def resetWord (a : Nat) : Word :=
  (fieldsAt a).foldl (fun acc r => acc ||| (BitVec.ofNat 32 r.rst <<< r.lo)) 0#32

/-- The bits of the fields at `a` whose access code is one of `accs`. -/
def maskOf (accs : List Access) (a : Nat) : Word :=
  (fieldsAt a).foldl (fun acc r =>
    if accs.contains r.acc then acc ||| (BitVec.ofNat 32 (2 ^ r.w - 1) <<< r.lo) else acc) 0#32

/-- The addresses of a block's registers that hold staged fields (WS or LK). -/
def stagedAddrs (base : Nat) : List Nat :=
  ((blockRows base).filter (fun r => r.acc == .ws || r.acc == .lk)).flatMap
    (fun r => (List.range r.count).map (fun i => base + r.off + r.stride * i)) |>.dedup

namespace F

def IDN_PART_CODE : Fld := ⟨0x40000000, 0, 16⟩
def IDN_PART_FAMILY : Fld := ⟨0x40000000, 16, 16⟩
def IDN_UNITS_UNITS : Fld := ⟨0x40000004, 0, 10⟩
def IDN_GEN_GEN : Fld := ⟨0x40000008, 0, 8⟩
def IDN_REV_REV : Fld := ⟨0x4000000C, 0, 8⟩
def IDN_UID_LO_UID : Fld := ⟨0x40000010, 0, 32⟩
def IDN_UID_HI_UID : Fld := ⟨0x40000014, 0, 32⟩
def LDG_CTL_BRACT : Fld := ⟨0x40001000, 0, 1⟩
def LDG_CTL_SWEEP : Fld := ⟨0x40001000, 1, 3⟩
def LDG_ROUTE_TMASK : Fld := ⟨0x40001004, 0, 10⟩
def LDG_STAT_BREACH : Fld := ⟨0x40001010, 0, 1⟩
def LDG_STAT_CAUSE : Fld := ⟨0x40001010, 1, 3⟩
def LDG_STAT_MULTI : Fld := ⟨0x40001010, 4, 1⟩
def LDG_STAT_SWEEP_BUSY : Fld := ⟨0x40001010, 5, 1⟩
def LDG_STAT_ACCT : Fld := ⟨0x40001010, 8, 8⟩
def LDG_STAT_OPEN : Fld := ⟨0x40001010, 16, 8⟩
def LDG_AUDIT_GO : Fld := ⟨0x40001014, 0, 1⟩
def LDG_BRSEQ_SEQ : Fld := ⟨0x40001018, 0, 32⟩
def LDG_SEL_ACCT : Fld := ⟨0x40001020, 0, 8⟩
def LDG_GRANT_G : Fld := ⟨0x40001024, 0, 32⟩
def LDG_RETURNED_R : Fld := ⟨0x40001028, 0, 32⟩
def LDG_HELD_H : Fld := ⟨0x4000102C, 0, 32⟩
def LDG_FLIGHT_F : Fld := ⟨0x40001030, 0, 32⟩
def LDG_WIN_SPAN : Fld := ⟨0x40001034, 0, 1⟩
def LDG_WIN_SLOT : Fld := ⟨0x40001034, 1, 1⟩
def LDG_WIN_QUIESCE : Fld := ⟨0x40001034, 2, 1⟩
def LDG_WIN_AGE : Fld := ⟨0x40001034, 16, 16⟩
def LDG_SEQ_NEXT : Fld := ⟨0x40001038, 0, 32⟩
def LDG_EPOCH_WRAPS : Fld := ⟨0x40001040, 0, 32⟩
def LDG_SWEEPS_COUNT : Fld := ⟨0x40001044, 0, 32⟩
def PWR_CTL_DEPTH : Fld := ⟨0x40002000, 0, 2⟩
def PWR_CTL_DIMFLL : Fld := ⟨0x40002000, 2, 1⟩
def PWR_CTL_SNIFF : Fld := ⟨0x40002000, 3, 1⟩
def PWR_CTL_QDRAIN : Fld := ⟨0x40002000, 4, 15⟩
def PWR_SRET_BANKS : Fld := ⟨0x40002004, 0, 16⟩
def PWR_VRET_BANKS : Fld := ⟨0x40002008, 0, 8⟩
def PWR_BURST_ON : Fld := ⟨0x4000200C, 0, 1⟩
def PWR_BURST_OFF : Fld := ⟨0x4000200C, 1, 1⟩
def PWR_BURST_AUTO : Fld := ⟨0x4000200C, 2, 1⟩
def PWR_BURST_RET : Fld := ⟨0x4000200C, 3, 1⟩
def PWR_BURST_STATE : Fld := ⟨0x4000200C, 4, 2⟩
def PWR_BENTRY_ADDR : Fld := ⟨0x40002010, 2, 30⟩
def PWR_IRST_ISL : Fld := ⟨0x40002014, 0, 5⟩
def PWR_IRST_KEY : Fld := ⟨0x40002014, 8, 8⟩
def PWR_ILIT_ISL : Fld := ⟨0x40002018, 0, 5⟩
def PWR_STAT_STATE : Fld := ⟨0x4000201C, 0, 3⟩
def PWR_STAT_LAST : Fld := ⟨0x4000201C, 3, 3⟩
def PWR_STAT_REFUSE : Fld := ⟨0x4000201C, 6, 2⟩
def PWR_STAT_LITFAIL : Fld := ⟨0x4000201C, 8, 5⟩
def PWR_STAT_FLRDY : Fld := ⟨0x4000201C, 13, 1⟩
def PWR_RCAUSE_CAUSE : Fld := ⟨0x40002020, 0, 6⟩
def PWR_WAKE_SRC : Fld := ⟨0x40002024, 0, 5⟩
def PWR_WAKE_SNUFF : Fld := ⟨0x40002024, 5, 1⟩
def PWR_WAKE_ISLAND : Fld := ⟨0x40002024, 8, 1⟩
def PWR_WAKEEN_SRC : Fld := ⟨0x40002028, 0, 5⟩
def PWR_RESET_KEY : Fld := ⟨0x4000202C, 0, 8⟩
def PWR_ROUTE_TMASK : Fld := ⟨0x40002030, 0, 10⟩
def PWR_IDLE_TICKS : Fld := ⟨0x40002034, 0, 16⟩
def CLK_VSRC_AUTO : Fld := ⟨0x40003000, 1, 1⟩
def CLK_FLL_MUL : Fld := ⟨0x40003004, 0, 13⟩
def CLK_FLL_REF : Fld := ⟨0x40003004, 16, 1⟩
def CLK_PLL_RDIV : Fld := ⟨0x40003008, 0, 2⟩
def CLK_PLL_MUL : Fld := ⟨0x40003008, 4, 9⟩
def CLK_XT32M_EN : Fld := ⟨0x4000300C, 0, 1⟩
def CLK_XT32M_LOAD : Fld := ⟨0x4000300C, 4, 4⟩
def CLK_STAT_VSRC : Fld := ⟨0x40003010, 0, 1⟩
def CLK_STAT_XT32OK : Fld := ⟨0x40003010, 1, 1⟩
def CLK_STAT_XT32FAIL : Fld := ⟨0x40003010, 2, 1⟩
def CLK_STAT_XT32MOK : Fld := ⟨0x40003010, 3, 1⟩
def CLK_STAT_FLLLOCK : Fld := ⟨0x40003010, 4, 1⟩
def CLK_STAT_PLLLOCK : Fld := ⟨0x40003010, 5, 1⟩
def CLK_STAT_CLAMP : Fld := ⟨0x40003010, 6, 1⟩
def CLK_STAT_XT32MFAIL : Fld := ⟨0x40003010, 7, 1⟩
def CLK_FREQ_KHZ : Fld := ⟨0x40003014, 0, 18⟩
def EVT_SNUFF_EN : Fld := ⟨0x40004000, 0, 1⟩
def EVT_SNUFF_ACT : Fld := ⟨0x40004000, 1, 1⟩
def EVT_SNUFF_RESCUE : Fld := ⟨0x40004000, 4, 4⟩
def EVT_FROUTE_TMASK : Fld := ⟨0x40004004, 0, 10⟩
def EVT_STAT_LIVE : Fld := ⟨0x4000400C, 0, 10⟩
def EVT_STAT_WAITING : Fld := ⟨0x4000400C, 16, 10⟩
def EVT_STAT_SNUFF : Fld := ⟨0x4000400C, 31, 1⟩
def EVT_TCTL_START (i : Nat) : Fld := ⟨0x40004100 + 0x20 * i, 0, 1⟩
def EVT_TCTL_STOP (i : Nat) : Fld := ⟨0x40004100 + 0x20 * i, 1, 1⟩
def EVT_TCTL_STATE (i : Nat) : Fld := ⟨0x40004100 + 0x20 * i, 4, 3⟩
def EVT_TPC_ADDR (i : Nat) : Fld := ⟨0x40004104 + 0x20 * i, 2, 30⟩
def EVT_TENT_VALID (i : Nat) : Fld := ⟨0x40004108 + 0x20 * i, 0, 1⟩
def EVT_TENT_ADDR (i : Nat) : Fld := ⟨0x40004108 + 0x20 * i, 2, 30⟩
def EVT_TRING_EN (i : Nat) : Fld := ⟨0x4000410C + 0x20 * i, 0, 1⟩
def EVT_TRING_ADDR (i : Nat) : Fld := ⟨0x4000410C + 0x20 * i, 6, 26⟩
def EVT_TOVF_COUNT (i : Nat) : Fld := ⟨0x40004110 + 0x20 * i, 0, 16⟩
def EVT_TOVF_CLR (i : Nat) : Fld := ⟨0x40004110 + 0x20 * i, 31, 1⟩
def EVT_TFPC_PC (i : Nat) : Fld := ⟨0x40004114 + 0x20 * i, 0, 32⟩
def EVT_TFCAUSE_CAUSE (i : Nat) : Fld := ⟨0x40004118 + 0x20 * i, 0, 32⟩
def EVT_MAP_THREAD (i : Nat) : Fld := ⟨0x40004400 + 0x4 * i, 0, 4⟩
def EVT_MAP_BIT (i : Nat) : Fld := ⟨0x40004400 + 0x4 * i, 4, 5⟩
def EVT_MAP_EN (i : Nat) : Fld := ⟨0x40004400 + 0x4 * i, 12, 1⟩
def QUE_OVP_COUNT : Fld := ⟨0x40005000, 0, 16⟩
def QUE_OVP_RING : Fld := ⟨0x40005000, 16, 6⟩
def QUE_OVP_CLR : Fld := ⟨0x40005000, 31, 1⟩
def QUE_ENLO_EN : Fld := ⟨0x40005004, 0, 32⟩
def QUE_ENHI_EN : Fld := ⟨0x40005008, 0, 32⟩
def QUE_RCFG_EN (i : Nat) : Fld := ⟨0x40005100 + 0x10 * i, 0, 1⟩
def QUE_RCFG_TAGCHK (i : Nat) : Fld := ⟨0x40005100 + 0x10 * i, 1, 1⟩
def QUE_RCFG_UNIT (i : Nat) : Fld := ⟨0x40005100 + 0x10 * i, 4, 4⟩
def QUE_RCFG_CHAN (i : Nat) : Fld := ⟨0x40005100 + 0x10 * i, 8, 4⟩
def QUE_RHDR_ADDR (i : Nat) : Fld := ⟨0x40005104 + 0x10 * i, 6, 26⟩
def QUE_RSTAT_STATE (i : Nat) : Fld := ⟨0x40005108 + 0x10 * i, 0, 2⟩
def QUE_RSTAT_ERR (i : Nat) : Fld := ⟨0x40005108 + 0x10 * i, 4, 3⟩
def QUE_RSTAT_OVP (i : Nat) : Fld := ⟨0x40005108 + 0x10 * i, 8, 1⟩
def QUE_RSTAT_CERR (i : Nat) : Fld := ⟨0x40005108 + 0x10 * i, 9, 1⟩
def QUE_RSTAT_CUT (i : Nat) : Fld := ⟨0x40005108 + 0x10 * i, 10, 1⟩
def QUE_RSTAT_OUT (i : Nat) : Fld := ⟨0x40005108 + 0x10 * i, 16, 16⟩
def FLC_CTL_SUSPEND : Fld := ⟨0x40006000, 0, 1⟩
def FLC_CTL_RESUME : Fld := ⟨0x40006000, 1, 1⟩
def FLC_STAT_BUSYA : Fld := ⟨0x40006004, 0, 1⟩
def FLC_STAT_BUSYB : Fld := ⟨0x40006004, 1, 1⟩
def FLC_STAT_SUSP : Fld := ⟨0x40006004, 2, 1⟩
def FLC_STAT_FORCED : Fld := ⟨0x40006004, 3, 1⟩
def FLC_STAT_WS : Fld := ⟨0x40006004, 4, 2⟩
def FLC_STAT_SUSPN : Fld := ⟨0x40006004, 8, 6⟩
def FLC_STAT_SREF : Fld := ⟨0x40006004, 14, 1⟩
def FLC_NONCE_START : Fld := ⟨0x4000600C, 0, 9⟩
def FLC_NONCE_COUNT : Fld := ⟨0x4000600C, 16, 8⟩
def FLC_ECC_CORR : Fld := ⟨0x40006010, 0, 16⟩
def FLC_ECC_UNCORR : Fld := ⟨0x40006010, 16, 1⟩
def FLC_ECC_CLR : Fld := ⟨0x40006010, 31, 1⟩
def FLC_EADDR_ADDR : Fld := ⟨0x40006014, 0, 32⟩
def FLC_SCRUB_EN : Fld := ⟨0x40006018, 0, 1⟩
def FLC_SCRUB_RATE : Fld := ⟨0x40006018, 1, 4⟩
def FLC_SSTAT_POS : Fld := ⟨0x4000601C, 0, 18⟩
def FLC_SSTAT_DEFER : Fld := ⟨0x4000601C, 18, 7⟩
def FLC_SPASS_PASSES : Fld := ⟨0x40006020, 0, 16⟩
def FLC_SPASS_LOST : Fld := ⟨0x40006020, 16, 16⟩
def FLC_RGN_START (i : Nat) : Fld := ⟨0x40006100 + 0x4 * i, 0, 9⟩
def FLC_RGN_END (i : Nat) : Fld := ⟨0x40006100 + 0x4 * i, 16, 9⟩
def FLC_RGN_MODE (i : Nat) : Fld := ⟨0x40006100 + 0x4 * i, 28, 2⟩
def TMB_LO_LO : Fld := ⟨0x40007000, 0, 32⟩
def TMB_HI_HI : Fld := ⟨0x40007004, 0, 32⟩
def TMB_HIL_HIL : Fld := ⟨0x40007008, 0, 32⟩
def TMB_TICK_TICK : Fld := ⟨0x4000700C, 0, 32⟩
def TMB_PPSLO_LO : Fld := ⟨0x40007010, 0, 32⟩
def TMB_PPSHI_HI : Fld := ⟨0x40007014, 0, 32⟩
def TMB_PPSST_NEW : Fld := ⟨0x40007018, 0, 1⟩
def TMB_PPSST_OVR : Fld := ⟨0x40007018, 1, 1⟩
def TMB_FIRED_CH : Fld := ⟨0x40007020, 0, 16⟩
def CMP_CTL_EN (i : Nat) : Fld := ⟨0x40007100 + 0x10 * i, 0, 1⟩
def CMP_CTL_MODE (i : Nat) : Fld := ⟨0x40007100 + 0x10 * i, 1, 2⟩
def CMP_CTL_WAKE (i : Nat) : Fld := ⟨0x40007100 + 0x10 * i, 3, 1⟩
def CMP_CTL_BUSY (i : Nat) : Fld := ⟨0x40007100 + 0x10 * i, 4, 1⟩
def CMP_CTL_LATE (i : Nat) : Fld := ⟨0x40007100 + 0x10 * i, 5, 1⟩
def CMP_VAL_VAL (i : Nat) : Fld := ⟨0x40007104 + 0x10 * i, 0, 32⟩
def CMP_REL_D (i : Nat) : Fld := ⟨0x40007108 + 0x10 * i, 0, 32⟩
def CMP_PER_PER (i : Nat) : Fld := ⟨0x4000710C + 0x10 * i, 0, 32⟩
def CNT_CTL_RUN (i : Nat) : Fld := ⟨0x40008100 + 0x20 * i, 0, 1⟩
def CNT_CTL_CMPEV (i : Nat) : Fld := ⟨0x40008100 + 0x20 * i, 1, 1⟩
def CNT_CTL_OVFEV (i : Nat) : Fld := ⟨0x40008100 + 0x20 * i, 2, 1⟩
def CNT_CTL_CMODE (i : Nat) : Fld := ⟨0x40008100 + 0x20 * i, 3, 1⟩
def CNT_CTL_EDGE (i : Nat) : Fld := ⟨0x40008100 + 0x20 * i, 4, 1⟩
def CNT_CTL_SRC (i : Nat) : Fld := ⟨0x40008100 + 0x20 * i, 8, 3⟩
def CNT_CTL_CAPSEL (i : Nat) : Fld := ⟨0x40008100 + 0x20 * i, 12, 3⟩
def CNT_DIV_F (i : Nat) : Fld := ⟨0x40008104 + 0x20 * i, 0, 16⟩
def CNT_DIV_N (i : Nat) : Fld := ⟨0x40008104 + 0x20 * i, 16, 16⟩
def CNT_COUNT_COUNT (i : Nat) : Fld := ⟨0x40008108 + 0x20 * i, 0, 32⟩
def CNT_CMPV_CMPV (i : Nat) : Fld := ⟨0x4000810C + 0x20 * i, 0, 32⟩
def CNT_CREL_D (i : Nat) : Fld := ⟨0x40008110 + 0x20 * i, 0, 32⟩
def CNT_PER_PER (i : Nat) : Fld := ⟨0x40008114 + 0x20 * i, 0, 32⟩
def CNT_CAP_CAP (i : Nat) : Fld := ⟨0x40008118 + 0x20 * i, 0, 32⟩
def CNT_STAT_CMPF (i : Nat) : Fld := ⟨0x4000811C + 0x20 * i, 0, 1⟩
def CNT_STAT_OVF (i : Nat) : Fld := ⟨0x4000811C + 0x20 * i, 1, 1⟩
def CNT_STAT_LATE (i : Nat) : Fld := ⟨0x4000811C + 0x20 * i, 2, 1⟩
def CNT_STAT_CAPNEW (i : Nat) : Fld := ⟨0x4000811C + 0x20 * i, 3, 1⟩
def CNT_STAT_CAPOVR (i : Nat) : Fld := ⟨0x4000811C + 0x20 * i, 4, 1⟩
def CNT_STAT_SRCFAIL (i : Nat) : Fld := ⟨0x4000811C + 0x20 * i, 5, 1⟩
def CNT_STAT_BADDIV (i : Nat) : Fld := ⟨0x4000811C + 0x20 * i, 6, 1⟩
def CSP_SCFG_SEN : Fld := ⟨0x40009004, 0, 1⟩
def CSP_SCFG_ROLE : Fld := ⟨0x40009004, 1, 1⟩
def CSP_SCFG_MODE : Fld := ⟨0x40009004, 2, 2⟩
def CSP_SCFG_WSIZE : Fld := ⟨0x40009004, 4, 2⟩
def CSP_SCFG_FCRC : Fld := ⟨0x40009004, 6, 1⟩
def CSP_SSTAT_RES : Fld := ⟨0x4000900C, 0, 8⟩
def CSP_SSTAT_FSEQ : Fld := ⟨0x4000900C, 8, 8⟩
def CSP_SSTAT_RBUF : Fld := ⟨0x4000900C, 16, 1⟩
def CSP_SSTAT_RECOVERY : Fld := ⟨0x4000900C, 17, 1⟩
def CSP_SSTAT_CLAMP : Fld := ⟨0x4000900C, 18, 1⟩
def CSP_SSTAT_DISC : Fld := ⟨0x4000900C, 24, 8⟩
def CSP_SMAIL_MAIL : Fld := ⟨0x40009010, 0, 16⟩
def CSP_SCLR_DISC : Fld := ⟨0x40009014, 0, 1⟩
def CSP_MCTL_DROP : Fld := ⟨0x40009018, 0, 1⟩
def CSP_MSEL_DIV (i : Nat) : Fld := ⟨0x40009020 + 0x4 * i, 0, 8⟩
def CSP_MSEL_MODE (i : Nat) : Fld := ⟨0x40009020 + 0x4 * i, 8, 2⟩
def CSP_MSEL_WSIZE (i : Nat) : Fld := ⟨0x40009020 + 0x4 * i, 10, 2⟩
def CSP_MSEL_CSGAP (i : Nat) : Fld := ⟨0x40009020 + 0x4 * i, 16, 4⟩
def TAG_CTL_SPEED : Fld := ⟨0x4000A000, 0, 1⟩
def TAG_STAT_BUSY : Fld := ⟨0x4000A004, 0, 4⟩
def TAG_STAT_SHORT : Fld := ⟨0x4000A004, 4, 4⟩
def TAG_STAT_CLAMP : Fld := ⟨0x4000A004, 8, 1⟩
def TAG_LCFG_EN (i : Nat) : Fld := ⟨0x4000A100 + 0x20 * i, 0, 1⟩
def TAG_LINV_ADDR (i : Nat) : Fld := ⟨0x4000A104 + 0x20 * i, 4, 28⟩
def TAG_LSTAT_COUNT (i : Nat) : Fld := ⟨0x4000A108 + 0x20 * i, 0, 7⟩
def TAG_LSTAT_PCHG (i : Nat) : Fld := ⟨0x4000A108 + 0x20 * i, 8, 1⟩
def TAG_LSTAT_OVER (i : Nat) : Fld := ⟨0x4000A108 + 0x20 * i, 9, 1⟩
def TAG_LSTAT_PAUSED (i : Nat) : Fld := ⟨0x4000A108 + 0x20 * i, 10, 1⟩
def TAG_LSTAT_SSEQ (i : Nat) : Fld := ⟨0x4000A108 + 0x20 * i, 16, 16⟩
def TAG_PRES_EN (i : Nat) : Fld := ⟨0x4000A10C + 0x20 * i, 0, 1⟩
def TAG_PRES_VERIFY (i : Nat) : Fld := ⟨0x4000A10C + 0x20 * i, 1, 1⟩
def TAG_PRES_PER (i : Nat) : Fld := ⟨0x4000A10C + 0x20 * i, 16, 16⟩
def TAG_PSIG_SIG (i : Nat) : Fld := ⟨0x4000A110 + 0x20 * i, 0, 4⟩
def TAG_PSIG_PDEF (i : Nat) : Fld := ⟨0x4000A110 + 0x20 * i, 8, 8⟩
def BTS_CTL_ESPOL : Fld := ⟨0x4000B000, 0, 4⟩
def BTS_STAT_MOVING : Fld := ⟨0x4000B004, 0, 2⟩
def BTS_STAT_VMOTLOW : Fld := ⟨0x4000B004, 2, 1⟩
def BTS_STAT_CLAMP : Fld := ⟨0x4000B004, 3, 1⟩
def BTS_STAT_ES : Fld := ⟨0x4000B004, 8, 4⟩
def BTS_ISNS_I0 : Fld := ⟨0x4000B00C, 0, 8⟩
def BTS_ISNS_I1 : Fld := ⟨0x4000B00C, 8, 8⟩
def BTS_TEN_EN : Fld := ⟨0x4000B010, 0, 8⟩
def BTS_TSTAT_TRIP : Fld := ⟨0x4000B014, 0, 8⟩
def BTS_TRARM_ARM : Fld := ⟨0x4000B018, 0, 8⟩
def BTS_TPER_PER : Fld := ⟨0x4000B01C, 0, 16⟩
def BTS_TPER_FAILN : Fld := ⟨0x4000B01C, 16, 4⟩
def BTS_TCFG_SEED (i : Nat) : Fld := ⟨0x4000B100 + 0x4 * i, 0, 16⟩
def BTS_TCFG_ZERO (i : Nat) : Fld := ⟨0x4000B100 + 0x4 * i, 16, 1⟩
def BTS_TCFG_LOCK (i : Nat) : Fld := ⟨0x4000B100 + 0x4 * i, 17, 1⟩
def CIP_LOCK_CLAIM : Fld := ⟨0x4000C000, 0, 1⟩
def CIP_LOCK_RELEASE : Fld := ⟨0x4000C000, 1, 1⟩
def CIP_LOCK_HELD : Fld := ⟨0x4000C000, 2, 1⟩
def CIP_LOCK_OWNER : Fld := ⟨0x4000C000, 4, 4⟩
def CIP_LOCK_TOKEN : Fld := ⟨0x4000C000, 16, 16⟩
def CIP_ROUTE_TMASK : Fld := ⟨0x4000C004, 0, 10⟩
def CIP_SIDLO_SID : Fld := ⟨0x4000C00C, 0, 32⟩
def CIP_SIDHI_SID : Fld := ⟨0x4000C010, 0, 32⟩
def CIP_KST_SLOTS : Fld := ⟨0x4000C014, 0, 32⟩
def CIP_STAT_BUSY : Fld := ⟨0x4000C018, 0, 1⟩
def CIP_STAT_PFAULT : Fld := ⟨0x4000C018, 1, 1⟩
def CIP_STAT_TZERO : Fld := ⟨0x4000C018, 2, 1⟩
def CIP_STAT_SCANNED : Fld := ⟨0x4000C018, 3, 1⟩
def CIP_STAT_FSLOT : Fld := ⟨0x4000C018, 4, 4⟩
def CIP_STAT_LIVE : Fld := ⟨0x4000C018, 8, 8⟩
def CIP_NSEL_SLOT : Fld := ⟨0x4000C01C, 0, 4⟩
def CIP_NCTRLO_CTR : Fld := ⟨0x4000C020, 0, 32⟩
def CIP_NCTRHI_CTR : Fld := ⟨0x4000C024, 0, 8⟩
def CIP_NCTRHI_RESBLK : Fld := ⟨0x4000C024, 8, 24⟩
def CIP_ZERO_KEY : Fld := ⟨0x4000C030, 0, 8⟩
def CIP_NPURGE_KEY : Fld := ⟨0x4000C034, 0, 8⟩
def CIP_ECTL_EN : Fld := ⟨0x4000C040, 0, 1⟩
def CIP_ECTL_RESTART : Fld := ⟨0x4000C040, 1, 1⟩
def CIP_ESTAT_READY : Fld := ⟨0x4000C044, 0, 1⟩
def CIP_ESTAT_RCTFAIL : Fld := ⟨0x4000C044, 1, 1⟩
def CIP_ESTAT_APTFAIL : Fld := ⟨0x4000C044, 2, 1⟩
def CIP_ESTAT_HALTED : Fld := ⟨0x4000C044, 3, 1⟩
def RAD_CTL_CALAUTO : Fld := ⟨0x4000D000, 0, 1⟩
def RAD_CTL_CALDT : Fld := ⟨0x4000D000, 4, 5⟩
def RAD_STAT_TXON : Fld := ⟨0x4000D004, 0, 1⟩
def RAD_STAT_RXON : Fld := ⟨0x4000D004, 1, 1⟩
def RAD_STAT_SNIFFING : Fld := ⟨0x4000D004, 2, 1⟩
def RAD_STAT_CALSTALE : Fld := ⟨0x4000D004, 3, 1⟩
def RAD_STAT_CLAMP : Fld := ⟨0x4000D004, 4, 1⟩
def RAD_STAT_LOCK : Fld := ⟨0x4000D004, 5, 1⟩
def RAD_STAT_CALDEF : Fld := ⟨0x4000D004, 8, 8⟩
def RAD_POOL_BANK : Fld := ⟨0x4000D00C, 0, 4⟩
def RAD_POOL_GRANTED : Fld := ⟨0x4000D00C, 8, 1⟩
def RAD_BSEL_INDEX : Fld := ⟨0x4000D010, 0, 8⟩
def RAD_BOWN_STATE : Fld := ⟨0x4000D014, 0, 2⟩
def RAD_SYNCLO_LO : Fld := ⟨0x4000D018, 0, 32⟩
def RAD_SYNCHI_HI : Fld := ⟨0x4000D01C, 0, 32⟩
def RAD_LANTW_CODE : Fld := ⟨0x4000D020, 0, 32⟩
def RAD_LANTA_CODE : Fld := ⟨0x4000D024, 0, 32⟩
def RAD_LANT_RATE0 : Fld := ⟨0x4000D028, 0, 3⟩
def RAD_LANT_RATE1 : Fld := ⟨0x4000D028, 4, 3⟩
def RAD_LANT_LMATCH : Fld := ⟨0x4000D028, 8, 6⟩
def RAD_SNIFF_BAND : Fld := ⟨0x4000D02C, 0, 1⟩
def RAD_SNIFF_LEVEL : Fld := ⟨0x4000D02C, 4, 8⟩
def RAD_SNIFF_WIN : Fld := ⟨0x4000D02C, 16, 12⟩
def RAD_SNPER_TICKS : Fld := ⟨0x4000D030, 0, 24⟩
def RAD_LSTAT_HIT : Fld := ⟨0x4000D034, 0, 1⟩
def RAD_LSTAT_ALARM : Fld := ⟨0x4000D034, 1, 1⟩
def RAD_LSTAT_FALSE : Fld := ⟨0x4000D034, 8, 8⟩
def RAD_CALPER_SECONDS : Fld := ⟨0x4000D038, 0, 16⟩
def RAD_P0_FREQ_KHZ : Fld := ⟨0x4000D100, 0, 22⟩
def RAD_P1_FREQ_KHZ : Fld := ⟨0x4000D120, 0, 22⟩
def RAD_P0_MOD_RATE : Fld := ⟨0x4000D104, 0, 3⟩
def RAD_P0_MOD_PWR : Fld := ⟨0x4000D104, 8, 7⟩
def RAD_P0_MOD_PRELEN : Fld := ⟨0x4000D104, 16, 9⟩
def RAD_P1_MOD_RATE : Fld := ⟨0x4000D124, 0, 3⟩
def RAD_P1_MOD_PWR : Fld := ⟨0x4000D124, 8, 7⟩
def RAD_P1_MOD_PRELEN : Fld := ⟨0x4000D124, 16, 9⟩
def RAD_P_RX_THRESH (i : Nat) : Fld := ⟨0x4000D108 + 0x20 * i, 0, 7⟩
def RAD_P_DUTY_BUDGET (i : Nat) : Fld := ⟨0x4000D10C + 0x20 * i, 0, 16⟩
def RAD_P_DUTY_WINS (i : Nat) : Fld := ⟨0x4000D10C + 0x20 * i, 16, 12⟩
def RAD_P_DUSED_US (i : Nat) : Fld := ⟨0x4000D110 + 0x20 * i, 0, 32⟩
def RAD_WK_STEP_STEP (i : Nat) : Fld := ⟨0x4000D200 + 0x40 * i, 0, 5⟩
def MSH_CTL_RUN : Fld := ⟨0x4000E000, 0, 1⟩
def MSH_CTL_ROOT : Fld := ⟨0x4000E000, 1, 1⟩
def MSH_CTL_HOLD : Fld := ⟨0x4000E000, 2, 1⟩
def MSH_CTL_RELAY : Fld := ⟨0x4000E000, 3, 1⟩
def MSH_CTL_JBAND : Fld := ⟨0x4000E000, 4, 1⟩
def MSH_CTL_LBAND : Fld := ⟨0x4000E000, 5, 1⟩
def MSH_STAT_STATE : Fld := ⟨0x4000E004, 0, 2⟩
def MSH_STAT_HOPS : Fld := ⟨0x4000E004, 4, 4⟩
def MSH_STAT_BADSLOT : Fld := ⟨0x4000E004, 8, 1⟩
def MSH_STAT_CLAMP : Fld := ⟨0x4000E004, 9, 1⟩
def MSH_STAT_SLOT : Fld := ⟨0x4000E004, 16, 10⟩
def MSH_ID_MESHID : Fld := ⟨0x4000E00C, 0, 24⟩
def MSH_ADDR_ADDR : Fld := ⟨0x4000E010, 0, 16⟩
def MSH_SCHED_ADDR : Fld := ⟨0x4000E014, 2, 30⟩
def MSH_CYC_CYCLEN : Fld := ⟨0x4000E018, 0, 11⟩
def MSH_CYC_SLOTLEN : Fld := ⟨0x4000E018, 16, 11⟩
def MSH_TIM_TXOFF : Fld := ⟨0x4000E01C, 0, 12⟩
def MSH_TIM_ACKGAP : Fld := ⟨0x4000E01C, 12, 10⟩
def MSH_TIM_RETRY : Fld := ⟨0x4000E01C, 22, 4⟩
def MSH_LOST_DMIN : Fld := ⟨0x4000E020, 0, 8⟩
def MSH_LOST_FILT : Fld := ⟨0x4000E020, 8, 3⟩
def MSH_LOST_MISS : Fld := ⟨0x4000E020, 12, 4⟩
def MSH_LOST_STEPN : Fld := ⟨0x4000E020, 16, 4⟩
def MSH_LOST_SPER : Fld := ⟨0x4000E020, 20, 8⟩
def MSH_LANT_LDUR : Fld := ⟨0x4000E024, 0, 16⟩
def MSH_LANT_FLOOD : Fld := ⟨0x4000E024, 16, 16⟩
def MSH_OFFLO_OFF : Fld := ⟨0x4000E028, 0, 32⟩
def MSH_OFFHI_OFF : Fld := ⟨0x4000E02C, 0, 32⟩
def MSH_ADJ_ADJ : Fld := ⟨0x4000E030, 0, 32⟩
def MSH_CYCNO_CYCLE : Fld := ⟨0x4000E034, 0, 32⟩
def MSH_HOL_CH : Fld := ⟨0x4000E040, 0, 4⟩
def MSH_HOL_WLEAD : Fld := ⟨0x4000E040, 8, 8⟩
def MSH_HSTAT_STATE : Fld := ⟨0x4000E044, 0, 3⟩
def MSH_HSTAT_HID : Fld := ⟨0x4000E044, 8, 8⟩
def MSH_HSTAT_HPAR : Fld := ⟨0x4000E044, 16, 6⟩
def MSH_HSTAT_COORD : Fld := ⟨0x4000E044, 24, 1⟩
def MSH_HCOMMIT_CYCLE : Fld := ⟨0x4000E048, 0, 32⟩
def MSH_HSTART_CYCLE : Fld := ⟨0x4000E04C, 0, 32⟩
def MSH_HLEN_N : Fld := ⟨0x4000E050, 0, 16⟩
def MSH_CNT_DUP : Fld := ⟨0x4000E054, 0, 8⟩
def MSH_CNT_RXSKIP : Fld := ⟨0x4000E054, 8, 8⟩
def MSH_CNT_YIELD : Fld := ⟨0x4000E054, 16, 8⟩
def MSH_CNT_DUTYSK : Fld := ⟨0x4000E054, 24, 8⟩
def MSH_CNTCLR_CLR : Fld := ⟨0x4000E058, 0, 1⟩
def NBR_ST_ADDR (i : Nat) : Fld := ⟨0x4000E400 + 0x10 * i, 0, 16⟩
def NBR_ST_STATE (i : Nat) : Fld := ⟨0x4000E400 + 0x10 * i, 16, 3⟩
def NBR_ST_TSRC (i : Nat) : Fld := ⟨0x4000E400 + 0x10 * i, 19, 1⟩
def NBR_ST_STEP (i : Nat) : Fld := ⟨0x4000E400 + 0x10 * i, 20, 3⟩
def NBR_ST_MISSN (i : Nat) : Fld := ⟨0x4000E400 + 0x10 * i, 24, 8⟩
def NBR_MID_MID (i : Nat) : Fld := ⟨0x4000E404 + 0x10 * i, 0, 24⟩
def NBR_MID_CRED (i : Nat) : Fld := ⟨0x4000E404 + 0x10 * i, 24, 8⟩
def NBR_DRIFT_D (i : Nat) : Fld := ⟨0x4000E408 + 0x10 * i, 0, 16⟩
def NBR_DRIFT_GUARD (i : Nat) : Fld := ⟨0x4000E408 + 0x10 * i, 16, 16⟩
def NBR_SYNC_TICK (i : Nat) : Fld := ⟨0x4000E40C + 0x10 * i, 0, 32⟩
def GNS_FE_EN : Fld := ⟨0x4000F000, 0, 1⟩
def GNS_FE_HOLDON : Fld := ⟨0x4000F000, 1, 1⟩
def GNS_FE_AGCMAN : Fld := ⟨0x4000F000, 2, 1⟩
def GNS_FE_GAIN : Fld := ⟨0x4000F000, 3, 7⟩
def GNS_STAT_TCXOOK : Fld := ⟨0x4000F004, 0, 1⟩
def GNS_STAT_FERDY : Fld := ⟨0x4000F004, 1, 1⟩
def GNS_STAT_CAPT : Fld := ⟨0x4000F004, 2, 1⟩
def GNS_STAT_TCXOFAIL : Fld := ⟨0x4000F004, 3, 1⟩
def GNS_STAT_CLAMP : Fld := ⟨0x4000F004, 4, 1⟩
def GNS_STAT_GAIN : Fld := ⟨0x4000F004, 5, 7⟩
def GNS_STAT_JN : Fld := ⟨0x4000F004, 16, 6⟩
def GNS_EPOCH_EPOCH : Fld := ⟨0x4000F00C, 0, 32⟩
def GNS_JNC_JNREF : Fld := ⟨0x4000F010, 0, 7⟩
def GNS_JNC_JNTH : Fld := ⟨0x4000F010, 8, 6⟩
def GNS_NCTL_MODES : Fld := ⟨0x4000F014, 0, 8⟩
def GNS_NCTL_DEPTHS : Fld := ⟨0x4000F014, 8, 8⟩
def GNS_NCTL_HOLD : Fld := ⟨0x4000F014, 16, 1⟩
def GNS_NSTAT_SETTLED : Fld := ⟨0x4000F018, 0, 4⟩
def GNS_NSTAT_FROZEN : Fld := ⟨0x4000F018, 4, 4⟩
def GNS_NFREQ_FREQ (i : Nat) : Fld := ⟨0x4000F020 + 0x4 * i, 0, 16⟩
def GNS_NFREQ_LIVE (i : Nat) : Fld := ⟨0x4000F020 + 0x4 * i, 16, 16⟩
def GNS_LOOP_DLLBW : Fld := ⟨0x4000F030, 0, 3⟩
def GNS_LOOP_PLLBW : Fld := ⟨0x4000F030, 4, 3⟩
def GNS_LOOP_FLLBW : Fld := ⟨0x4000F030, 8, 3⟩
def GNS_LOOP_SPACING : Fld := ⟨0x4000F030, 12, 2⟩
def GNS_LOOP_TCOH : Fld := ⟨0x4000F030, 16, 3⟩
def GNS_LOOP_ACQNC : Fld := ⟨0x4000F030, 20, 4⟩
def GNS_LOOP_ACQTH : Fld := ⟨0x4000F030, 24, 8⟩
def GNS_MEAS_PERIOD : Fld := ⟨0x4000F034, 0, 10⟩
def GNS_LOSS_LOSSCN : Fld := ⟨0x4000F038, 0, 8⟩
def GNS_LOSS_LOSSMS : Fld := ⟨0x4000F038, 8, 8⟩
def GNS_CHLO_STATE : Fld := ⟨0x4000F040, 0, 32⟩
def GNS_CHHI_STATE : Fld := ⟨0x4000F044, 0, 32⟩
def GNS_PPSCTL_EN : Fld := ⟨0x4000F050, 0, 1⟩
def GNS_PPSCTL_POL : Fld := ⟨0x4000F050, 1, 1⟩
def GNS_PPSCTL_WIDTH : Fld := ⟨0x4000F050, 2, 8⟩
def GNS_PPSCTL_HMODE : Fld := ⟨0x4000F050, 10, 1⟩
def GNS_PPSSTAT_STATE : Fld := ⟨0x4000F054, 0, 3⟩
def GNS_PPSSTAT_HVALID : Fld := ⟨0x4000F054, 3, 1⟩
def GNS_PPSSTAT_BOUNDX : Fld := ⟨0x4000F054, 4, 1⟩
def GNS_PPSSTAT_COARSE : Fld := ⟨0x4000F054, 5, 1⟩
def GNS_PPSSTAT_HSEC : Fld := ⟨0x4000F054, 16, 16⟩
def GNS_PPSSTEER_STEER : Fld := ⟨0x4000F058, 0, 32⟩
def GNS_PPSADJ_ADJ : Fld := ⟨0x4000F05C, 0, 32⟩
def GNS_PPSFIX_ACC : Fld := ⟨0x4000F060, 0, 16⟩
def GNS_PPSFIX_GO : Fld := ⟨0x4000F060, 31, 1⟩
def GNS_PPSERR_ERR : Fld := ⟨0x4000F064, 0, 32⟩
def GNS_HDRIFT_DRIFT : Fld := ⟨0x4000F068, 0, 32⟩
def GNS_HUNC_U : Fld := ⟨0x4000F06C, 0, 16⟩
def GNS_HCTL_TIMEOUT : Fld := ⟨0x4000F070, 0, 16⟩
def GNS_HCTL_AVG : Fld := ⟨0x4000F070, 16, 8⟩
def GNS_HCTL_WANDER : Fld := ⟨0x4000F070, 24, 8⟩
def GNS_HLIM_LIMIT : Fld := ⟨0x4000F074, 0, 16⟩
def GNS_HLIM_UFLOOR : Fld := ⟨0x4000F074, 16, 16⟩
def PIN_OUT_OUT : Fld := ⟨0x40010000, 0, 24⟩
def PIN_SET_SET : Fld := ⟨0x40010004, 0, 24⟩
def PIN_CLR_CLR : Fld := ⟨0x40010008, 0, 24⟩
def PIN_IN_IN : Fld := ⟨0x4001000C, 0, 24⟩
def PIN_EDGE_EDGE : Fld := ⟨0x40010010, 0, 24⟩
def PIN_CFG_FUNC (i : Nat) : Fld := ⟨0x40010100 + 0x4 * i, 0, 2⟩
def PIN_CFG_PULL (i : Nat) : Fld := ⟨0x40010100 + 0x4 * i, 2, 2⟩
def PIN_CFG_DRIVE (i : Nat) : Fld := ⟨0x40010100 + 0x4 * i, 4, 1⟩
def PIN_CFG_OD (i : Nat) : Fld := ⟨0x40010100 + 0x4 * i, 5, 1⟩
def PIN_CFG_EDGE (i : Nat) : Fld := ⟨0x40010100 + 0x4 * i, 6, 2⟩
def PIN_CFG_WAKE (i : Nat) : Fld := ⟨0x40010100 + 0x4 * i, 8, 1⟩
def CAL_SUB_SUB : Fld := ⟨0x50000000, 0, 10⟩
def CAL_TIME_SEC : Fld := ⟨0x50000004, 0, 6⟩
def CAL_TIME_MIN : Fld := ⟨0x50000004, 8, 6⟩
def CAL_TIME_HOUR : Fld := ⟨0x50000004, 16, 5⟩
def CAL_DATE_DAY : Fld := ⟨0x50000008, 0, 5⟩
def CAL_DATE_MONTH : Fld := ⟨0x50000008, 8, 4⟩
def CAL_DATE_WDAY : Fld := ⟨0x50000008, 12, 3⟩
def CAL_DATE_YEAR : Fld := ⟨0x50000008, 16, 12⟩
def CAL_FTICK_TICK : Fld := ⟨0x5000000C, 0, 32⟩
def CAL_STAT_OSF : Fld := ⟨0x50000010, 0, 1⟩
def CAL_STAT_OSFWHY : Fld := ⟨0x50000010, 1, 2⟩
def CAL_STAT_LBV : Fld := ⟨0x50000010, 3, 1⟩
def CAL_STAT_VBLOW : Fld := ⟨0x50000010, 4, 1⟩
def CAL_STAT_HELDLONG : Fld := ⟨0x50000010, 5, 1⟩
def CAL_STAT_FROZEN : Fld := ⟨0x50000010, 6, 1⟩
def CAL_STAT_BADSET : Fld := ⟨0x50000010, 7, 1⟩
def CAL_STAT_WRAP : Fld := ⟨0x50000010, 8, 1⟩
def CAL_CTL_LBVTH : Fld := ⟨0x50000014, 0, 2⟩
def CAL_CTL_LBVEN : Fld := ⟨0x50000014, 2, 1⟩
def CAL_SSUB_SUB : Fld := ⟨0x50000020, 0, 10⟩
def CAL_STIME_SEC : Fld := ⟨0x50000024, 0, 6⟩
def CAL_STIME_MIN : Fld := ⟨0x50000024, 8, 6⟩
def CAL_STIME_HOUR : Fld := ⟨0x50000024, 16, 5⟩
def CAL_SDATE_DAY : Fld := ⟨0x50000028, 0, 5⟩
def CAL_SDATE_MONTH : Fld := ⟨0x50000028, 8, 4⟩
def CAL_SDATE_YEAR : Fld := ⟨0x50000028, 16, 12⟩
def CAL_TSUB_SUB : Fld := ⟨0x50000040, 0, 10⟩
def CAL_TTIME_SEC : Fld := ⟨0x50000044, 0, 6⟩
def CAL_TTIME_MIN : Fld := ⟨0x50000044, 8, 6⟩
def CAL_TTIME_HOUR : Fld := ⟨0x50000044, 16, 5⟩
def CAL_TDATE_DAY : Fld := ⟨0x50000048, 0, 5⟩
def CAL_TDATE_MONTH : Fld := ⟨0x50000048, 8, 4⟩
def CAL_TDATE_WDAY : Fld := ⟨0x50000048, 12, 3⟩
def CAL_TDATE_YEAR : Fld := ⟨0x50000048, 16, 12⟩
def CAL_TSRC_VALID : Fld := ⟨0x5000004C, 0, 1⟩
def CAL_TSRC_LOOP : Fld := ⟨0x5000004C, 1, 3⟩
def CAL_TSRC_PASSIVE : Fld := ⟨0x5000004C, 4, 1⟩
def CAL_TSRC_NOVDD : Fld := ⟨0x5000004C, 5, 1⟩
def CAL_TSRC_CALBAD : Fld := ⟨0x5000004C, 6, 1⟩
def CAL_TSRC_MORE : Fld := ⟨0x5000004C, 16, 8⟩
def CAL_TCLR_KEY : Fld := ⟨0x50000050, 0, 8⟩
def CAL_BSENSE_EN : Fld := ⟨0x50000054, 0, 8⟩
def CAL_CLOSE_AGE : Fld := ⟨0x5000007C, 0, 11⟩

/-- Path p's group of RAD (10 R453): carrier, chip rate, power code and preamble length. -/
def RAD_P_FREQ_KHZ (p : Nat) : Fld := ⟨0x4000D100 + 0x20 * p, 0, 22⟩
def RAD_P_MOD_RATE (p : Nat) : Fld := ⟨0x4000D104 + 0x20 * p, 0, 3⟩
def RAD_P_MOD_PWR (p : Nat) : Fld := ⟨0x4000D104 + 0x20 * p, 8, 7⟩
def RAD_P_MOD_PRELEN (p : Nat) : Fld := ⟨0x4000D104 + 0x20 * p, 16, 9⟩
/-- Amplitude code A(q, k) of wick profile q (10 R453). -/
def RAD_WK_A (q k : Nat) : Fld := ⟨0x4000D220 + 0x40 * q + 4 * (k / 4), 8 * (k % 4), 8⟩
/-- The bits of a SEAL register at `a` (01 Table 1.5). -/
def SEAL_PEND (a : Nat) : Fld := ⟨a, 1, 1⟩
def SEAL_LOCKED (a : Nat) : Fld := ⟨a, 2, 1⟩
def SEAL_REPL (a : Nat) : Fld := ⟨a, 3, 1⟩
def SEAL_DISC (a : Nat) : Fld := ⟨a, 4, 1⟩

end F
end Sys2Proof
end

