-- ==== Sys2Proof/Machine/SMap.lean ====
section
/-! DEFINITION. A sparse table in ONE canonical form: a list of (key, value) pairs with keys strictly rising and no pair equal to
what an unlisted key reads as. Memory bytes, memory tags, register images and sets of addresses are kept so. -/

namespace Sys2Proof

/-- The value at key `k`; an unlisted key reads as `d k`. -/
def smGet {α : Type} (d : Nat → α) : List (Nat × α) → Nat → α
  | [], k => d k
  | p :: r, k => if k = p.1 then p.2 else smGet d r k

/-- Insertion at the place of the key in a rising list. -/
def smInsert {α : Type} (k : Nat) (v : α) : List (Nat × α) → List (Nat × α)
  | [] => [(k, v)]
  | p :: r => if k < p.1 then (k, v) :: p :: r else p :: smInsert k v r

/-- The table with key `k` at `v`; writing what an unlisted key reads as removes the entry. -/
def smSet {α : Type} [DecidableEq α] (d : Nat → α) (m : List (Nat × α)) (k : Nat) (v : α) : List (Nat × α) :=
  let r := m.filter (fun p => p.1 ≠ k)
  if v = d k then r else smInsert k v r

/-- The keys rise strictly. -/
def smRising {α : Type} : List (Nat × α) → Bool
  | [] => true
  | p :: r => (match r with | [] => true | q :: _ => decide (p.1 < q.1)) && smRising r

/-- The canonical form: keys strictly rising, no entry equal to what an unlisted key reads as. -/
def smWf {α : Type} [DecidableEq α] (d : Nat → α) (m : List (Nat × α)) : Bool :=
  smRising m && m.all (fun p => decide (p.2 ≠ d p.1))

/-- The table without the keys for which `drop` holds. -/
def smDrop {α : Type} (drop : Nat → Bool) (m : List (Nat × α)) : List (Nat × α) := m.filter (fun p => !drop p.1)

/-- A set of keys as a rising list. -/
abbrev NatSet := List (Nat × Unit)

/-- Membership of a set. -/
def nsMem (m : NatSet) (k : Nat) : Bool := m.any (fun p => p.1 == k)
/-- The set with `k`. -/
def nsAdd (m : NatSet) (k : Nat) : NatSet := smInsert k () (m.filter (fun p => p.1 ≠ k))
/-- The set without `k`. -/
def nsDel (m : NatSet) (k : Nat) : NatSet := m.filter (fun p => p.1 ≠ k)

end Sys2Proof
end

