-- ==== Sys2Proof/Syntax.lean ====
section
/-! DEFINITION. The commands of the block: one constructor for each row of spec/opcode_table.json, with the row's operands.
An operand is what names the thing acted on (a thread, a ring, a register) or what the world contributes to the event
(received chips, current samples, a crystal's cycle count). -/

namespace Sys2Proof

/-- One of the ten hardware threads (05 R198). -/
abbrev ThreadId := Fin 10
/-- A general register g0 to g31 (04 R150). -/
abbrev Reg := Fin 32
/-- One of the 64 rings (06 R250). -/
abbrev RingId := Fin 64

/-- The condition codes of Table 4.5 (04 R163), in code order. -/
inductive Cond where
  | al | eq | ne | cs | cc | mi | pl | vs | vc | hi | ls | ge | lt | gt | le | tv
  deriving DecidableEq, Repr

/-- The resettable islands, in the bit order of PWR_IRST (02 Table 2.10). -/
inductive Island where
  | steady | burst | cipher | radio | gnss
  deriving DecidableEq, Repr

/-- The set-up blocks that have a SEAL register (01 R47). -/
inductive Blk where
  | ldg | clk | evt | flc | cnt | csp | tag | bts | cip | rad | msh | gns | cal
  deriving DecidableEq, Repr

/-- What the receiver's detector hands the frame logic (10 R418 to R420): the 64 hard decisions at the sync instant, the level
during the sync word, and the soft decisions of the header and payload chips in on-air order, each its hard decision with how sure the
detector is of it. The command's instant is the end of the frame's last chip. -/
structure RxChips where
  sync : BitVec 64
  rssi : Byte
  soft : List (Bool × Nat)
  deriving DecidableEq, Repr

/-- A frame that reaches the link controller's receiver (10 R418 to R420; 11 R464): what its detector hands the frame logic, and the observed
sync-word end minus the nominal one, in fraction units of a tick (2^-16 tick). -/
structure RxFrame where
  rx : RxChips
  err : Int
  deriving DecidableEq, Repr

/-- A host frame as it stands at SSEL rise (14 R588): the bits that SCK has shifted in from SDI, first to last. -/
structure HostFrame where
  bits : List Bool
  deriving DecidableEq, Repr

/-- What one tracking channel's correlators report at a code epoch (13 R562 to R564). Lock indicator in 1/1000. -/
structure GnssChan where
  cn0 : Byte
  lock : Nat
  codePhase : BitVec 26
  doppler : Word
  carrier : Word
  bitEdge : Bool
  msInBit : Fin 20
  deriving DecidableEq, Repr

/-- What the front end reports at a code epoch (13 R548, R551 to R554): the gain code that the AGC holds, the frequency each
notch's tracker finds, whether any search cell detects and whether each search has tested its last cell, and the 16 channels'
observations; with the TCXO cycles since the last tick edge. -/
structure GnssEpoch where
  gain : Nat
  notch : List (BitVec 16)
  chans : List GnssChan
  searchEnd : BitVec 16
  tcxoSub : BitVec 9
  deriving DecidableEq, Repr

/-- A disturbance of one round or check of a tag-bus search (15 R621, R622, R638): slots misread as occupied, a fob pulled just
before it, an error pattern on the check code, or a line that does not return high. `round` counts rounds and checks from 0. -/
structure TagNoise where
  round : Nat
  slots : BitVec 4
  pulled : Option (BitVec 64)
  code : Byte
  short : Bool
  deriving DecidableEq, Repr

inductive Instr where
  /-- REGISTER_WRITE (R14): A write to a set-up register field that has no row of its own takes effect according to its access code. -/
  | registerWrite (t : ThreadId) (addr value : Word)
  /-- SEAL_GO (R39): A write of 1 to a block's SEAL.GO copies the staged set into the sealed set, sets PEND, and sets REPL if it replaces a pending set. -/
  | sealGo (b : Blk) (value : Word)
  /-- SEAL_COMMIT (R40): At the block's commit point, the whole sealed set becomes live at one instant and PEND clears. -/
  | sealCommit (b : Blk)
  /-- PERIODIC_SWEEP_DUE (R711): The sweep period expires and a periodic ledger sweep starts, or waits for a running sweep to end. -/
  | periodicSweepDue
  /-- AUDIT_GO (R27): A write of 1 to LDG_AUDIT.GO starts a ledger sweep; it is ignored while a sweep is busy. -/
  | auditGo
  /-- WAITING_SWEEP_START (R714): A periodic sweep that waited starts in the ledger cycle after the running sweep ends. -/
  | waitingSweepStart
  /-- SWEEP_ACCOUNT_CHECK (R27): In each ledger clock cycle of a sweep, one account is checked against the invariant and the window rule. -/
  | sweepAccountCheck
  /-- WINDOW_AGE (R50): A window stays open beyond its age limit and the ledger raises a breach with cause WINDOW_AGE. -/
  | windowAge (acct : Fin 192)
  /-- LDG_SEL_CAPTURE (R52): A write to LDG_SEL captures the four terms and LDG_WIN of the selected account between two postings. -/
  | ldgSelCapture (acct : BitVec 8)
  /-- SPAN_REQUEST (R65): A span end presents a crossing request, which opens a SPAN window and posts to the span account. -/
  | spanRequest (span : Fin 7) (reverse : Bool)
  /-- SPAN_ACKNOWLEDGE (R707): The acknowledge edge of a crossing closes its SPAN window. -/
  | spanAcknowledge (span : Fin 7) (reverse : Bool)
  /-- ENTER_LOWER_STATE (R69): When no steady thread runs and the burst island is dark, the chip enters the state that DEPTH names, or Dim or Ember instead, and records REFUSE. -/
  | enterLowerState
  /-- DIM_WAKE (R73): In Dim, an event for a waiting steady thread or a span request returns the chip to Lit with the threads resuming. -/
  | dimWake
  /-- BOOT_ROM_START (R103): After the reset or wake sequence, thread 0 executes its first instruction in the boot ROM. -/
  | bootRomStart
  /-- BOOT_HANDOFF (R246): The boot ROM validates the headers, selects a bank and hands off to the image with g1 to g4 set, or enters host recovery. -/
  | bootHandoff
  /-- FLASH_READY (R76): Flash becomes readable, PWR_STAT.FLRDY rises, and reads that waited proceed. -/
  | flashReady
  /-- BURST_ON (R77): A write of 1 to PWR_BURST.ON while the burst island is dark starts lighting it. -/
  | burstOn
  /-- BURST_LIT (R78): Burst lighting completes, span 3 is granted, and thread 8 starts at PWR_BENTRY. -/
  | burstLit
  /-- BURST_OFF (R81): A write of 1 to PWR_BURST.OFF takes the burst island dark through quiesce. -/
  | burstOff
  /-- BURST_AUTO_DARK (R81): With AUTO = 1, once threads 8 and 9 all wait, stop or fault, the burst island goes dark and their state is lost. -/
  | burstAutoDark
  /-- ISLAND_LIT (R708): A ring-lit island reaches its lit state and its span accounts are granted. -/
  | islandLit (i : Island)
  /-- LIGHT_FAIL (R92): An island does not light within its time limit; it stays dark, LITFAIL is set and a LIGHT_FAIL record is sent. -/
  | lightFail (i : Island)
  /-- ISLAND_IDLE_DARK (R84): A ring-lit island whose rings and engine have been idle for PWR_IDLE.TICKS goes dark through quiesce. -/
  | islandIdleDark (i : Island)
  /-- QUIESCE (R85): A quiesce of an island begins: it opens QUIESCE windows, stops new requests, completes crossings and drains work. -/
  | quiesce (i : Island)
  /-- QUIESCE_DRAIN_END (R85): The drain ends or QDRAIN expires: handed descriptors complete CUTOFF, span accounts are withdrawn, and the island is powered down or reset. -/
  | quiesceDrainEnd (i : Island)
  /-- ISLAND_RESET (R99): A write to PWR_IRST with KEY 0xA5 quiesces and resets the named islands. -/
  | islandReset (value : Word)
  /-- SOFT_RESET (R100): A write to PWR_RESET with KEY 0xD2 causes a full reset with cause SOFT. -/
  | softReset (value : Word)
  /-- RESETN_QUALIFY (R101): A low pulse on RESETN is qualified by the input filter and holds the chip in full reset. -/
  | resetnQualify (lowNs : Nat)
  /-- RESETN_RELEASE (R101): RESETN rises after a qualified low, and the reset sequence with cause PIN begins. -/
  | resetnRelease
  /-- POWER_ON (R103): VDD rising through VPOR starts the power-on sequence with cause POR or BOR. -/
  | powerOn (belowVvret : Bool)
  /-- BROWN_OUT (R104): VDD falling below VBOR causes a BOR full reset. -/
  | brownOut
  /-- XT32_FAIL (R94): XT32 misses cycles against LFRC: the vigil clock switches to LFRC, XT32FAIL is set and CLOCK_FAIL is sent. -/
  | xt32Fail (missed : Nat)
  /-- XT32_CONFIRMED (R703): XT32 passes its start-up check and XT32OK rises. -/
  | xt32Confirmed
  /-- VIGIL_CLOCK_SWITCH (R703): At the first tick edge after XT32OK rises with AUTO = 1, or after AUTO is written 1, the vigil clock switches to XT32. -/
  | vigilClockSwitch
  /-- XT32M_FAIL (R96): A tick holds too few or too many XT32M cycles: XT32MOK clears, the FLL falls back, and the radio and burst islands quiesce. -/
  | xt32mFail (cycles : Nat)
  /-- XT32M_CONFIRMED (R704): XT32M passes its start-up check and XT32MOK rises. -/
  | xt32mConfirmed (cycles : Nat)
  /-- FLL_REF_SWITCH (R717): At the tick edge after XT32MOK rises with REF = 1 committed, the FLL takes the XT32M reference and slews. -/
  | fllRefSwitch
  /-- PAIRED_WORD (R173): A paired instruction word executes its two short halves with read-before-write semantics. -/
  | pairedWord (t : ThreadId) (w : Word)
  /-- ADD (R178): ADD writes ra + rb to rd with the result tag of Table 4.2. -/
  | add (t : ThreadId) (c : Cond) (rd ra rb : Reg)
  /-- SUB (R178): SUB writes ra − rb to rd with the result tag of Table 4.2. -/
  | sub (t : ThreadId) (c : Cond) (rd ra rb : Reg)
  /-- AND (R178): AND writes ra AND rb to rd. -/
  | and (t : ThreadId) (c : Cond) (rd ra rb : Reg)
  /-- OR (R178): OR writes ra OR rb to rd. -/
  | or (t : ThreadId) (c : Cond) (rd ra rb : Reg)
  /-- XOR (R178): XOR writes ra XOR rb to rd. -/
  | xor (t : ThreadId) (c : Cond) (rd ra rb : Reg)
  /-- SHL (R178): SHL shifts ra left by rb, giving 0 for amounts of 32 or more. -/
  | shl (t : ThreadId) (c : Cond) (rd ra rb : Reg)
  /-- SHR (R178): SHR shifts ra logically right by rb. -/
  | shr (t : ThreadId) (c : Cond) (rd ra rb : Reg)
  /-- SAR (R178): SAR shifts ra arithmetically right by rb. -/
  | sar (t : ThreadId) (c : Cond) (rd ra rb : Reg)
  /-- MUL (R178): MUL writes the low 32 bits of ra × rb. -/
  | mul (t : ThreadId) (c : Cond) (rd ra rb : Reg)
  /-- MULHU (R178): MULHU writes the high 32 bits of the unsigned product. -/
  | mulhu (t : ThreadId) (c : Cond) (rd ra rb : Reg)
  /-- MULHS (R178): MULHS writes the high 32 bits of the signed product. -/
  | mulhs (t : ThreadId) (c : Cond) (rd ra rb : Reg)
  /-- DIVU (R178): DIVU writes the unsigned quotient, or 0xFFFF_FFFF on division by zero. -/
  | divu (t : ThreadId) (c : Cond) (rd ra rb : Reg)
  /-- DIVS (R178): DIVS writes the signed quotient, rounded toward zero, with the defined edge cases. -/
  | divs (t : ThreadId) (c : Cond) (rd ra rb : Reg)
  /-- REMU (R178): REMU writes the unsigned remainder, or ra on division by zero. -/
  | remu (t : ThreadId) (c : Cond) (rd ra rb : Reg)
  /-- REMS (R178): REMS writes the signed remainder, with the defined edge cases. -/
  | rems (t : ThreadId) (c : Cond) (rd ra rb : Reg)
  /-- MOV (R178): MOV copies ra to rd with its tag. -/
  | mov (t : ThreadId) (c : Cond) (rd ra : Reg)
  /-- ADDI (R178): ADDI adds the sign-extended imm10 to ra. -/
  | addi (t : ThreadId) (c : Cond) (rd ra : Reg) (imm : BitVec 10)
  /-- ANDI (R178): ANDI ANDs ra with the sign-extended imm10. -/
  | andi (t : ThreadId) (c : Cond) (rd ra : Reg) (imm : BitVec 10)
  /-- ORI (R178): ORI ORs ra with the zero-extended imm10. -/
  | ori (t : ThreadId) (c : Cond) (rd ra : Reg) (imm : BitVec 10)
  /-- XORI (R178): XORI XORs ra with the zero-extended imm10. -/
  | xori (t : ThreadId) (c : Cond) (rd ra : Reg) (imm : BitVec 10)
  /-- SHLI (R178): SHLI shifts ra left by imm10[4:0]. -/
  | shli (t : ThreadId) (c : Cond) (rd ra : Reg) (imm : BitVec 5)
  /-- SHRI (R178): SHRI shifts ra logically right by imm10[4:0]. -/
  | shri (t : ThreadId) (c : Cond) (rd ra : Reg) (imm : BitVec 5)
  /-- SARI (R178): SARI shifts ra arithmetically right by imm10[4:0]. -/
  | sari (t : ThreadId) (c : Cond) (rd ra : Reg) (imm : BitVec 5)
  /-- RETAG (R160): RETAG writes ra's data to rd with a new tag, subject to Table 4.3. -/
  | retag (t : ThreadId) (c : Cond) (rd ra : Reg) (tag : BitVec 4)
  /-- CMP (R162): CMP sets ZNCV from ra − rb, with serial comparison for SEQ and TIME. -/
  | cmp (t : ThreadId) (c : Cond) (ra rb : Reg)
  /-- CMPI (R162): CMPI sets ZNCV from ra − sext(imm10). -/
  | cmpi (t : ThreadId) (c : Cond) (ra : Reg) (imm : BitVec 10)
  /-- TST (R162): TST sets ZN from ra AND rb. -/
  | tst (t : ThreadId) (c : Cond) (ra rb : Reg)
  /-- TAGOF (R178): TAGOF writes the tag code of ra to rd as INT. -/
  | tagof (t : ThreadId) (c : Cond) (rd ra : Reg)
  /-- ORL (R178): ORL ORs a 16-bit immediate into rd. -/
  | orl (t : ThreadId) (c : Cond) (rd : Reg) (imm : BitVec 16)
  /-- MOVH (R178): MOVH writes imm16 << 16 to rd as INT. -/
  | movh (t : ThreadId) (c : Cond) (rd : Reg) (imm : BitVec 16)
  /-- LDW (R178): LDW loads a word and its stored tag through an ADDR base. -/
  | ldw (t : ThreadId) (c : Cond) (rd ra : Reg) (imm : BitVec 10)
  /-- STW (R178): STW stores rd's data and tag to a word through an ADDR base. -/
  | stw (t : ThreadId) (c : Cond) (rd ra : Reg) (imm : BitVec 10)
  /-- LDHU (R182): LDHU loads a zero-extended halfword. -/
  | ldhu (t : ThreadId) (c : Cond) (rd ra : Reg) (imm : BitVec 10)
  /-- LDHS (R182): LDHS loads a sign-extended halfword. -/
  | ldhs (t : ThreadId) (c : Cond) (rd ra : Reg) (imm : BitVec 10)
  /-- LDBU (R182): LDBU loads a zero-extended byte. -/
  | ldbu (t : ThreadId) (c : Cond) (rd ra : Reg) (imm : BitVec 10)
  /-- LDBS (R182): LDBS loads a sign-extended byte. -/
  | ldbs (t : ThreadId) (c : Cond) (rd ra : Reg) (imm : BitVec 10)
  /-- STH (R183): STH stores a halfword and retags the word RAW. -/
  | sth (t : ThreadId) (c : Cond) (rd ra : Reg) (imm : BitVec 10)
  /-- STB (R183): STB stores a byte and retags the word RAW. -/
  | stb (t : ThreadId) (c : Cond) (rd ra : Reg) (imm : BitVec 10)
  /-- LDWX (R178): LDWX loads the word at ra + rb. -/
  | ldwx (t : ThreadId) (c : Cond) (rd ra rb : Reg)
  /-- STWX (R178): STWX stores rd to the word at ra + rb. -/
  | stwx (t : ThreadId) (c : Cond) (rd ra rb : Reg)
  /-- B (R169): B branches by off20 words. -/
  | b (t : ThreadId) (c : Cond) (off : BitVec 20)
  /-- BL (R178): BL writes the CODE return address to g31 and branches. -/
  | bl (t : ThreadId) (c : Cond) (off : BitVec 20)
  /-- JR (R178): JR jumps to the CODE address in ra. -/
  | jr (t : ThreadId) (c : Cond) (ra : Reg)
  /-- JLR (R178): JLR writes the return address to rd and jumps to ra. -/
  | jlr (t : ThreadId) (c : Cond) (rd ra : Reg)
  /-- SYS (R212): SYS performs warden entry with code SYS and its immediate, or stops the thread FAULTED. -/
  | sys (t : ThreadId) (c : Cond) (imm : BitVec 15)
  /-- WRET (R214): WRET returns from warden entry, restoring pc, mode and BIP. -/
  | wret (t : ThreadId) (c : Cond)
  /-- WAIT (R203): WAIT sets WMASK and completes at once or puts the thread in WAIT. -/
  | wait (t : ThreadId) (c : Cond) (rd ra : Reg)
  /-- WAIT_WAKE (R203): A bit of a waiting thread's mask is set, and WAIT completes with rd := PEND AND mask. -/
  | waitWake (t : ThreadId)
  /-- SEND (R205): SEND sets rb[31:24] in another thread's PEND and writes a SEND record, or returns 0. -/
  | send (t : ThreadId) (c : Cond) (rd ra rb : Reg)
  /-- BCOPY (R220): BCOPY copies one chunk of up to 64 bytes with tags, and repeats until rb is 0. -/
  | bcopy (t : ThreadId) (c : Cond) (rd ra rb : Reg)
  /-- BFILL (R217): BFILL fills one chunk with ra's data and tag. -/
  | bfill (t : ThreadId) (c : Cond) (rd ra rb : Reg)
  /-- BCRC (R217): BCRC continues a CRC-32 over one chunk. -/
  | bcrc (t : ThreadId) (c : Cond) (rd ra rb : Reg)
  /-- BRETAG (R721): BRETAG retags one chunk to the target tag. -/
  | bretag (t : ThreadId) (c : Cond) (rd ra rb : Reg)
  /-- MFS (R197): MFS reads a special register as INT. -/
  | mfs (t : ThreadId) (c : Cond) (rd : Reg) (sr : BitVec 4)
  /-- MTS (R197): MTS writes a special register from an INT source. -/
  | mts (t : ThreadId) (c : Cond) (ra : Reg) (sr : BitVec 4)
  /-- MKKEY (R161): MKKEY creates a KEY handle for a slot. -/
  | mkkey (t : ThreadId) (c : Cond) (rd : Reg) (slot : BitVec 4)
  /-- ADRC (R178): ADRC writes a pc-relative CODE address to rd. -/
  | adrc (t : ThreadId) (c : Cond) (rd : Reg) (imm : BitVec 15)
  /-- RESERVED_WORD (R236): A reserved word either faults RESOP or scrambles only the thread's own registers and flags, within the bounds. -/
  | reservedWord (t : ThreadId) (w : Word)
  /-- THREAD_START (R199): A write of EVT_TCTL.START starts a stopped or faulted thread at EVT_TPC. -/
  | threadStart (t : ThreadId)
  /-- THREAD_STOP (R200): A write of EVT_TCTL.STOP puts a running or waiting thread in STOPPED. -/
  | threadStop (t : ThreadId)
  /-- EVT_TRING_WRITE (R712): Enabling or moving a thread's event ring latches the ring header. -/
  | evtTringWrite (t : ThreadId) (value : Word)
  /-- EVT_TOVF_CLR (R209): A write of EVT_TOVF.CLR clears the overflow count. -/
  | evtTovfClr (t : ThreadId)
  /-- SNUFF (R229): The snuff condition holds at two tick edges, and the chip either resets or rescues the rescue thread. -/
  | snuff
  /-- RING_ENABLE (R257): A write of 1 to QUE_RCFG.EN checks the header and grants the ring's credit pool, or records ERR. -/
  | ringEnable (n : RingId) (value : Word)
  /-- RING_DISABLE (R277): A write of 0 to EN starts draining and completes the untaken descriptors FLUSHED. -/
  | ringDisable (n : RingId)
  /-- RING_DRAIN_END (R277): When H = F = 0, the account is withdrawn, the comparator is disarmed and STATE becomes OFF. -/
  | ringDrainEnd (n : RingId)
  /-- COMPLETION_WRITE (R273): When an engine finishes a descriptor, the queue engine writes its sequence number, the completion record and CPROD, posts H to R, and fires the source. -/
  | completionWrite (n : RingId)
  /-- QUE_OVP_CLR (R288): A write of QUE_OVP.CLR clears the overpost count. -/
  | queOvpClr
  /-- PROGRAM (R297): A flash PROGRAM checks the source tags and the blank targets and starts programming units. -/
  | program
  /-- ERASE (R299): A flash ERASE starts erasing its sectors in ascending order. -/
  | erase
  /-- VERIFY (R300): A flash VERIFY compares flash units with the reference. -/
  | verify
  /-- FLASH_UNIT_PROGRAMMED (R298): A unit finishes programming and is read back and compared. -/
  | flashUnitProgrammed (ok : Bool)
  /-- FLASH_SECTOR_ERASED (R299): A sector finishes erasing and is checked for the erased state. -/
  | flashSectorErased (ok : Bool)
  /-- SUSPEND (R308): A write of FLC_CTL.SUSPEND pauses the running operation, or sets SREF past 32 suspensions. -/
  | suspend
  /-- FLASH_PAUSED (R308): The paused operation makes its bank readable and SUSP is set. -/
  | flashPaused
  /-- RESUME (R309): A write of FLC_CTL.RESUME continues the suspended operation. -/
  | resume
  /-- RESERVATION_PROGRAM (R321): At the next unit or sector boundary, the flash controller programs the reservation record, rotating sectors as needed. -/
  | reservationProgram (ok : Bool)
  /-- SCRUB_READ (R322): The scrub interval expires, and scrub reads one unit and posts CORRECTED or UNCORR. -/
  | scrubRead (foreground : Bool)
  /-- SCRUB_FORCED_HOLD_END (R328): The forced scrub hold ends after 16 unit reads or 40 µs, and foreground accesses proceed. -/
  | scrubForcedHoldEnd
  /-- SCRUB_REPORT_DESC (R324): A CHAN 1 descriptor with OP 0x10 supplies a slot for one scrub record. -/
  | scrubReportDesc
  /-- FLC_ECC_CLR (R332): A write of FLC_ECC.CLR clears CORR and FLC_EADDR. -/
  | flcEccClr
  /-- TMB_LO_READ (R339): A read of TMB_LO returns bits [31:0] and latches bits [63:32] into the reader's TMB_HIL. -/
  | tmbLoRead (t : ThreadId)
  /-- TIME_BASE_TICK (R335): At each vigil-clock edge the time base advances one tick. -/
  | timeBaseTick
  /-- CMP_VAL_WRITE (R343): A write of CMP_VAL is accepted with BUSY set, to be applied at the next edge. -/
  | cmpValWrite (n : Fin 16) (v : Word)
  /-- CMP_REL (R345): A write of CMP_REL schedules CMP_VAL := T_w + D. -/
  | cmpRel (n : Fin 16) (d : Word)
  /-- COMPARE_WRITE_APPLY (R342): A pending compare-channel write is applied after the edge's comparison, and LATE is judged. -/
  | compareWriteApply (n : Fin 16)
  /-- COMPARE_FIRE (R346): A channel fires: it sets TMB_FIRED, fires its event source, acts on its mode, and may wake the chip. -/
  | compareFire (n : Fin 16)
  /-- PPS_CAPTURE (R349): A GNSS 1 PPS rising edge captures the time base into TMB_PPSLO and TMB_PPSHI. -/
  | ppsCapture
  /-- COUNTER_RUN (R352): Setting RUN from 0 to 1 starts a counter with ACC := 0. -/
  | counterRun (n : Fin 8)
  /-- COUNTER_INCREMENT (R351): A prescaler division ends, and CNT_COUNT increments with compare, overflow and events. -/
  | counterIncrement (n : Fin 8)
  /-- COUNTER_CAPTURE (R359): A capture-signal edge copies CNT_COUNT into CNT_CAP. -/
  | counterCapture (n : Fin 8)
  /-- CNT_CMPV_WRITE (R355): A write of CNT_CMPV is applied at the next steady edge, and LATE is judged. -/
  | cntCmpvWrite (n : Fin 8) (v : Word)
  /-- CNT_CREL (R355): A write of CNT_CREL sets CNT_CMPV := CNT_COUNT + D. -/
  | cntCrel (n : Fin 8) (d : Word)
  /-- CNT_COUNT_WRITE (R360): A write of CNT_COUNT lands only while RUN = 0. -/
  | cntCountWrite (n : Fin 8) (v : Word)
  /-- CAL_FREEZE_READ (R380): A read of the shadow group while unfrozen copies the calendar and the tick into the shadow and sets FROZEN. -/
  | calFreezeRead
  /-- CAL_CLOSE_READ (R382): A read of CAL_CLOSE returns AGE and releases the freeze. -/
  | calCloseRead
  /-- HELDLONG (R383): A freeze held for 1,024 SUB edges sets HELDLONG. -/
  | heldlong
  /-- CALENDAR_SUB_CARRY (R376): Every 32nd backup-oscillator cycle advances SUB and carries through the calendar fields, setting WRAP at the end of range. -/
  | calendarSubCarry (vbakMv : Nat) (switching : Bool)
  /-- CAL_SET_WRITE (R385): A write of CAL_STIME or CAL_SDATE is staged, or ignored with BADSET when a field is out of range. -/
  | calSetWrite (date : Bool) (v : Word)
  /-- BACKUP_OSC_FAIL (R389): The backup oscillator misses cycles and OSF is set with cause OSC. -/
  | backupOscFail (missed : Nat)
  /-- BACKUP_STATE_LOSS (R404): The backup supply falls below retention, and the domain restarts with OSF = 1 and cause STATE. -/
  | backupStateLoss
  /-- SUPPLY_SWITCH_VBAK (R373): VDD falls to VBOR, and the backup domain switches to VBAK. -/
  | supplySwitchVbak
  /-- SUPPLY_SWITCH_VDD (R373): VDD rises to VPOR, and the backup domain switches to VDD. -/
  | supplySwitchVdd
  /-- BACKUP_SENSE_CHECK (R398): Every 32 SUB edges on VBAK, the enabled loops are checked for continuity, and a failure is a tamper event. -/
  | backupSenseCheck (high low : BitVec 8)
  /-- TAMPER_LATCH_CLEAR (R399): A write of 0x5C to CAL_TCLR.KEY clears the tamper latch. -/
  | tamperLatchClear (v : Word)
  /-- TX (R439): A radio TX descriptor is checked and its frame is scheduled to transmit. -/
  | tx
  /-- RX (R439): A radio RX descriptor is checked and its listening is scheduled. -/
  | rx
  /-- LANTERN (R421): A LANTERN descriptor is scheduled to send a repeated wake or alarm code. -/
  | lantern
  /-- LSEARCH (R439): An LSEARCH descriptor is scheduled to listen for lanterns. -/
  | lsearch
  /-- CAL (R425): A CAL descriptor calibrates its path. -/
  | cal
  /-- ALLOC (R431): ALLOC moves the lowest FREE pool buffer to SOFT, or completes POOLEMPTY. -/
  | alloc
  /-- FREE (R431): FREE moves a SOFT pool buffer to FREE, or completes NOTHELD. -/
  | free
  /-- RADIO_OP_BEGIN (R439): At START, or once the path is ready, the radio begins ramp-up or listening and charges the duty budget. -/
  | radioOpBegin
  /-- SYNC_DETECT (R418): The correlator reaches THRESH, declares sync, and decodes the header and payload. -/
  | syncDetect (rx : RxChips)
  /-- LANTERN_DETECT (R422): Two consecutive repetitions of a lantern code are recognised. -/
  | lanternDetect (first second : Word)
  /-- RADIO_OP_END (R440): A radio operation finishes at the end of its ramp-down, frame or window, and its completion is stamped. -/
  | radioOpEnd
  /-- RADIO_CALIBRATE (R426): An automatic calibration comes due and runs, or is deferred with CALDEF incremented. -/
  | radioCalibrate (p : Fin 2) (degrees : Nat) (below : Bool)
  /-- SYNTH_UNLOCK (R449): The synthesiser loses lock, and the operation ends with ramp-down and status UNLOCK. -/
  | synthUnlock (p : Fin 2)
  /-- SNIFF_LEAD (R424): Ahead of a sniff window, the radio starts XT32M. -/
  | sniffLead
  /-- SNIFF_WINDOW (R423): A sniff window opens every RAD_SNPER ticks in Ember, and the radio listens for energy. -/
  | sniffWindow (levelDbm : Int)
  /-- SNIFF_WINDOW_END (R423): The sniff window or verify ends with a lantern wake, or with FALSE incremented. -/
  | sniffWindowEnd
  /-- DUTY_WINDOW_START (R433): A new duty window begins and DUSED restarts. -/
  | dutyWindowStart (p : Fin 2)
  /-- SEND_DESC (R470): A mesh SEND queues a SOFT buffer for an entry or broadcast and posts its forwarding credit. -/
  | sendDesc
  /-- ADMIT (R479): ADMIT makes a neighbour entry active and grants its forwarding account. -/
  | meshAdmit
  /-- EVICT (R479): EVICT completes the entry's queued frames EVICTED, withdraws the account and frees the entry. -/
  | evict
  /-- WAKEREQ (R483): A wake request acts on the holiday state as Table 11.6 gives. -/
  | wakereq
  /-- PROPOSE (R490): PROPOSE starts a holiday as coordinator, or completes HBAD. -/
  | propose
  /-- MESH_RECV (R471): A CHAN 2 RECV descriptor offers delivery of one received frame. -/
  | meshRecv
  /-- MESH_NOTE (R498): A CHAN 3 NOTE descriptor offers a slot for one link notice. -/
  | meshNote
  /-- MESH_RUN_START (R478): Writing RUN = 1 starts the link controller as root or in JOINING. -/
  | meshRunStart
  /-- MESH_RUN_STOP (R495): At the slot boundary after RUN is written 0, the link controller stops and completes queued SENDs STOPPED. -/
  | meshRunStop
  /-- SLOT_BOUNDARY (R459): At a slot boundary, the link controller starts the slot's activity per the schedule, opening SLOT windows. -/
  | slotBoundary
  /-- CYCLE_BOUNDARY (R458): A mesh cycle boundary advances the cycle number and commits MSH settings. -/
  | cycleBoundary
  /-- MESH_FRAME_RECEIVED (R471): A Klopol frame received in a slot updates drift, joins or holiday state, and is delivered, consumed or dropped. -/
  | meshFrameReceived (f : RxFrame)
  /-- ACK_SEND (R466): At E + ACKGAP, the receiver sends an ACK for an accepted frame. -/
  | ackSend
  /-- ACK_JUDGE (R467): At the end of the ACK's last chip, the sender judges it and frees the buffer. -/
  | ackJudge (ack : Option RxFrame)
  /-- SLOT_END (R470): The slot ends, SLOT windows close, and unacknowledged frames are requeued or returned. -/
  | slotEnd
  /-- SEARCH_LANTERN (R477): Every SPER cycles, a SEARCH entry gets a wake lantern and a beacon. -/
  | searchLantern (e : Fin 64)
  /-- HOLIDAY_COMMIT (R482): The commit instant moves a PROPOSED node to COMMITTED. -/
  | holidayCommit
  /-- HOLIDAY_SLEEP (R484): At the boundary of C_s, the node goes ASLEEP and arms the holiday compare channel. -/
  | holidaySleep
  /-- HOLIDAY_END (R483): At the boundary of C_s + N, the holiday ends and held WAKEREQs complete. -/
  | holidayEnd
  /-- FLOOD_END (R483): The flood ends, and the BROKEN node returns to NONE at the next cycle boundary. -/
  | floodEnd
  /-- MSH_CNTCLR (R499): A write of MSH_CNTCLR.CLR clears MSH_CNT. -/
  | mshCntclr
  /-- CIP_LOCK_CLAIM (R505): A CLAIM while the lock is free grants it to the writer and increments TOKEN. -/
  | cipLockClaim (t : ThreadId)
  /-- CIP_LOCK_RELEASE (R506): A RELEASE by the owner frees the lock. -/
  | cipLockRelease (t : ThreadId)
  /-- KLOAD (R522): KLOAD loads a key, computes its KCV, sets its counter from the nonce records and may wipe the source. -/
  | kload
  /-- KZERO (R512): KZERO zeroises a slot and sets it EMPTY. -/
  | kzero
  /-- KRETIRE (R512): KRETIRE appends a retirement record and sets the slot RETIRED. -/
  | kretire
  /-- ENC (R513): ENC applies AES encryption to each block. -/
  | enc
  /-- DEC (R513): DEC applies AES decryption to each block. -/
  | dec
  /-- CCMENC (R517): CCMENC encrypts and authenticates with the next counter value and writes N ‖ C ‖ T. -/
  | ccmenc
  /-- CCMDEC (R518): CCMDEC decrypts and checks the tag, or zeroes the output and completes AUTHFAIL. -/
  | ccmdec
  /-- CIP_NPURGE (R529): A write of 0x96 marks KCVs held by no slot for omission at the next copy. -/
  | cipNpurge (v : Word)
  /-- ZEROISE (R539): A write of 0x3C to CIP_ZERO or a tamper request zeroises all key slots within 2 µs. -/
  | zeroise (tamper : Bool)
  /-- KEY_PARITY_FAULT (R538): A parity mismatch zeroises the slot and sets PFAULT. -/
  | keyParityFault (slot : Fin 16)
  /-- GET (R532): GET fills a buffer with conditioned entropy. -/
  | get
  /-- RAW (R532): RAW fills a buffer with raw entropy samples. -/
  | raw
  /-- ENTROPY_READY (R535): The start-up test of 4,096 samples ends and READY is set. -/
  | entropyReady
  /-- HEALTH_FAIL (R540): A health test fails and the entropy source halts. -/
  | healthFail (adaptive : Bool)
  /-- ENTROPY_RESTART (R540): A write of CIP_ECTL.RESTART repeats the entropy start-up test. -/
  | entropyRestart
  /-- SNAP (R557): A SNAP descriptor waits for its starting epoch boundary. -/
  | snap
  /-- SNAP_BEGIN (R557): The snapshot capture begins and the adaptive notches freeze. -/
  | snapBegin
  /-- SNAP_END (R560): The capture ends, the notches are released, and the snapshot record is written. -/
  | snapEnd (samples : List (BitVec 8))
  /-- START (R562): START moves an idle tracking channel to SEARCH or PULL. -/
  | start
  /-- STOP (R562): STOP sets a tracking channel IDLE. -/
  | stop
  /-- MEAS (R564): A MEAS descriptor supplies a buffer for measurement records. -/
  | meas
  /-- NAV (R565): A NAV descriptor supplies a buffer for navigation word records. -/
  | nav
  /-- GNSS_NOTE (R555): A GNSS NOTE descriptor supplies a slot for one notice. -/
  | gnssNote
  /-- FERDY (R549): The front end becomes ready and epoch counting begins. -/
  | ferdy
  /-- EPOCH_BOUNDARY (R549): At each code epoch, the notches, JN, the channel states and the measurement latches are updated. -/
  | epochBoundary (obs : GnssEpoch)
  /-- NAV_WORD (R565): A tracked channel finishes a 30-bit word and writes a navigation record. -/
  | navWord (ch : Fin 16) (word : BitVec 30) (d29 d30 : Bool) (tcxoSub : BitVec 9)
  /-- PPS_PULSE (R568): The PPS generator emits a pulse, updates the holdover statistics or bound, and may expire. -/
  | ppsPulse (ticks40 : Int)
  /-- PPS_ENABLE (R567): Writing GNS_PPSCTL.EN starts the generator in FREE, or turns it OFF. -/
  | ppsEnable (value : Word)
  /-- PPS_FIX (R569): A GNS_PPSFIX write with GO sets B_0, restarts the timeout and moves the generator to LOCKED. -/
  | ppsFix (value : Word)
  /-- PPS_ADJ (R568): A GNS_PPSADJ write lengthens or shortens the next period once. -/
  | ppsAdj (value : Word)
  /-- HOLDOVER_ENTRY (R567): TIMEOUT seconds without FIX moves LOCKED to HOLDOVER. -/
  | holdoverEntry
  /-- TCXO_FAIL (R579): The TCXO is out of range: the front end goes down, the channels go idle and the PPS falls to holdover. -/
  | tcxoFail (cycles : Nat)
  /-- TCXO_RETURN (R579): The TCXO returns, TCXOOK is set and the front end restarts. -/
  | tcxoReturn
  /-- SSEL_FALL (R594): SSEL falls, a slave frame begins, SDO sends STATUS, and the chip may wake. -/
  | sselFall
  /-- NOP (R591): A committed NOP frame does nothing but clock out data. -/
  | nop (f : HostFrame)
  /-- WRITE (R593): A committed WRITE frame stores units as RAW words in SRAM. -/
  | write (f : HostFrame)
  /-- READ (R595): A committed READ frame fills the read buffer for the next frame. -/
  | read (f : HostFrame)
  /-- RECORD (R599): A committed RECORD frame delivers its units to the handed CHAN 0 descriptor. -/
  | record (f : HostFrame)
  /-- GO (R610): In recovery, a GO frame starts thread 0 at ADDR. -/
  | go (f : HostFrame)
  /-- FRAME_DISCARD (R589): A frame of partial units, or one arriving with no buffer free, is discarded and DISC increments. -/
  | frameDiscard
  /-- CSP_RECV (R599): A CSP CHAN 0 RECV descriptor supplies a buffer for a host record. -/
  | cspRecv
  /-- XFER (R602): XFER asserts a select and exchanges LEN bytes in the master role. -/
  | xfer (sdi : List Bool)
  /-- DROP (R603): A write of CSP_MCTL.DROP releases a held select. -/
  | drop
  /-- CSP_SCLR (R612): A write of CSP_SCLR.DISC clears the discard count. -/
  | cspSclr
  /-- LINE_ENABLE (R642): A write of TAG_LCFG.EN = 1 enables a line when its table lies in SRAM, and resets COUNT and SIG. -/
  | lineEnable (l : Fin 4)
  /-- SEARCH (R620): SEARCH walks the fob identity tree, checks fobs and posts inventory deltas. -/
  | search (noise : List TagNoise)
  /-- CHECK (R631): CHECK sends a start pulse and one check of a given identity. -/
  | check (noise : List TagNoise)
  /-- TAG_RECV (R632): A tag CHAN 1 RECV descriptor supplies a buffer for records. -/
  | tagRecv
  /-- PRESENCE_CHECK (R628): A periodic presence check runs the depth-0 round and may verify entries. -/
  | presenceCheck (l : Fin 4) (noise : List TagNoise)
  /-- SEARCH_RESUME (R633): A paused search resumes when a RECV descriptor is handed. -/
  | searchResume
  /-- SEARCH_PAUSE_TIMEOUT (R633): A pause lasting 1 s ends the SEARCH with NODELTA. -/
  | searchPauseTimeout
  /-- MOVE (R649): MOVE drives a bolt bridge, or completes at once when its end stop is already active. -/
  | move
  /-- END_STOP (R646): The end stop becomes active and the move ends OK, braking. -/
  | endStop (e : Fin 4) (levels : BitVec 8) (cur : List (BitVec 8))
  /-- STALL (R649): Current above STALLI for STALLT ms ends the move STALL. -/
  | stall (b : Fin 2) (cur : List (BitVec 8))
  /-- MOVE_TIMEOUT (R649): TIMEOUT ms pass and the move ends TIMEOUT. -/
  | moveTimeout (b : Fin 2) (cur : List (BitVec 8))
  /-- BRAKE_END (R650): Braking ends, the bridge coasts, and the move completes. -/
  | brakeEnd (b : Fin 2)
  /-- OVERCUR (R660): Bridge current reaching 2.0 A coasts the bridge and ends the move OVERCUR. -/
  | overcur (b : Fin 2) (milliamps : Nat)
  /-- VMOTLOW (R661): VMOT falling below 2.7 V in DRIVE coasts the bridge and ends the move VMOTLOW. -/
  | vmotlow (low : Bool)
  /-- TAMPER_CHIP (R652): Every PER ticks, an enabled loop drives its next chip and samples it for a mismatch. -/
  | tamperChip (n : Fin 8) (sample : Bool)
  /-- TAMPER_NOTICE_DESC (R655): A CHAN 2 descriptor with OP 0x10 supplies a slot for one tamper notice. -/
  | tamperNoticeDesc
  /-- LOOP_REARM (R657): A write of BTS_TRARM bit n clears TRIP and restarts the loop pattern. -/
  | loopRearm (v : Word)
  /-- PIN_SET (R700): A write of PIN_SET sets the selected OUT bits. -/
  | pinSet (v : Word)
  /-- PIN_CLR (R700): A write of PIN_CLR clears the selected OUT bits. -/
  | pinClr (v : Word)
  /-- PIN_EDGE (R686): A qualifying pad edge sets PIN_EDGE, fires its source and may wake the chip. -/
  | pinEdge (n : Fin 24) (level : Bool)
  /-- FETCH_FAULT (R196): An instruction fetch meets a word tagged other than INT or RAW, or a NOMAP, BANK_BUSY, MEMPAR or NOEXEC address, and the thread faults before any instruction is decoded. -/
  | fetchFault (t : ThreadId)
  /-- RESERVED_KIND_FRAME (R591): At SSEL rise, a whole-unit host frame whose KIND is 0x5–0xF is judged and refused with CMD, setting RES and incrementing FSEQ. -/
  | reservedKindFrame (f : HostFrame)
  /-- FOB_ATTACHED (R615): A fob is connected to a tag line and begins drawing power, becoming charged after 2 ms of power so that a later search-start pulse can arm it. -/
  | fobAttached (l : Fin 4) (id : BitVec 64) (code : BitVec 8)
  /-- FOB_REMOVED (R615): A fob is pulled from a tag line, loses power and is no longer armed, so later rounds and checks find its slots empty. -/
  | fobRemoved (l : Fin 4) (id : BitVec 64)
  /-- FLL_LOCKED (R107): The FLL reaches ±0.1 % of its target some time after a restart or slew, and CLK_STAT.FLLLOCK rises. -/
  | fllLocked (khz : Nat)
  deriving DecidableEq, Repr

end Sys2Proof
end

