-- ==== Sys2Proof/Machine/State.lean ====
section
/-! DEFINITION. Everything the spec gives the part, as plain data, and the part right after a power-on reset. INVENTORY.md, '## State',
lists every piece with its rule. The set-up registers stand in three images: live, staged (what WS and LK fields read back) and
sealed (what the next commit point makes live). -/

namespace Sys2Proof.Machine

/-- The defined tags of Table 4.1 (04 R151), in code order; codes 0x8 to 0xF are never produced (R153). -/
inductive Tag where
  | void | int | addr | code | key | time | seq | raw
  deriving DecidableEq, Repr

/-- A tagged word: a general register or a word of memory (04 R151). -/
structure TWord where
  data : Word
  tag : Tag
  deriving DecidableEq, Repr

/-- Thread states of Table 5.1 (05 R198), in code order. -/
inductive ThreadSt where
  | stopped | run | wait | faulted | dark
  deriving DecidableEq, Repr

/-- Of an access that waits, whether it stands as presented at span 3 (02 R87; 03 R135), and whether it has been issued at all, which settles the
state of a flash bank for it (07 R307). -/
structure Held where
  span : Bool
  bank : Bool
  deriving DecidableEq, Repr

/-- No access waits. -/
def Held.no : Held := ⟨false, false⟩

/-- One hardware thread (04 R150, R197; 05 R198, R249). `mode` is true in warden mode; `issued` tells of an access of the word at the pc that
waits; `stopping` that a STOP has come while it waits (05 R200). -/
structure Thread where
  regs : Vector TWord 32
  pc : Word
  z : Bool
  n : Bool
  c : Bool
  v : Bool
  mode : Bool
  bip : Bool
  ent : Bool
  pmode : Bool
  snuff : Bool
  st : ThreadSt
  pend : Word
  wmask : Word
  epc : Word
  ecause : Word
  eaddr : Word
  waitRd : Reg
  issued : Held
  stopping : Bool
  deriving DecidableEq, Repr

/-- What is latched of a thread's event ring (05 R712). -/
structure EvRing where
  base : Nat
  size : Nat
  prod : Nat
  deriving DecidableEq, Repr

/-- A record that waits at its span until the steady island is lit (01 R28, R30; 02 R75): an event record with its thread, BIT, CODE,
DETAIL, origin stamp, and its number where one is already issued; or a record for an inbound channel with its unit, channel, RESULT and origin
stamp. -/
inductive LateRec where
  | event (thread : ThreadId) (bit code : Nat) (detail : Word) (stamp : BitVec 48) (seq : Option Word)
  | inbound (unit chan : Nat) (result : Word) (stamp : BitVec 48)
  deriving DecidableEq, Repr

/-- The part's memories: bytes by address, a tag per word address, the words that fail parity (03 R108, R112, R140). -/
structure Memory where
  data : List Host.Cell
  tags : List (Nat × Tag)
  bad : NatSet
  deriving DecidableEq, Repr

/-- The four terms of a ledger account (01 R20, R48). -/
structure Account where
  g : Nat
  r : Nat
  h : Nat
  f : Nat
  deriving DecidableEq, Repr

/-- The windows of imbalance on an account (01 R24, Table 1.3): open crossings, open slots, whether a quiesce is open, the
tick at which the oldest of each opened, and which of the three kinds has been reported as too old (R50). -/
structure Window where
  span : Nat
  spanAt : Nat
  spanAged : Bool
  slot : Nat
  slotAt : Nat
  slotAged : Bool
  quiesce : Bool
  quiesceAt : Nat
  quiesceAged : Bool
  deriving DecidableEq, Repr

/-- The ledger (01): accounts, windows, accounts whose word fails parity, the running sweep, a waiting one, the next due tick,
whether a breach with BRACT = 1 has ordered a full reset, and whether that reset waits for the breach records to be written (R59). -/
structure Ledger where
  acct : List (Nat × Account)
  win : List (Nat × Window)
  parity : NatSet
  sweep : Option Nat
  waiting : Bool
  due : Nat
  resetDue : Bool
  resetHeld : Bool
  deriving DecidableEq, Repr

/-- Whether an island is dark, being lit, lit, or quiescing (02 R77 to R85). -/
inductive IslSt where
  | dark | lighting | lit | quiescing
  deriving DecidableEq, Repr

/-- A resettable island: its state, the tick since which it has been idle or being lit, the tick its quiesce began, and what is
held for the end of a quiesce or of a lighting, whether the quiesce under way is the idle rule's, and the accounts on which it has opened its
window (02 R84 to R86, R90, R92, R99). -/
structure IslandSt where
  st : IslSt
  since : Nat
  drainFrom : Nat
  relight : Bool
  resetAtEnd : Bool
  downReq : Bool
  idle : Bool
  wins : List Nat
  deriving DecidableEq, Repr

/-- A descriptor that an engine has taken: ring, posting index, eight tagged words (06 R268). -/
structure Desc where
  ring : RingId
  idx : BitVec 16
  w : Vector TWord 8
  deriving DecidableEq, Repr

/-- A finished descriptor whose completion is not yet written (06 R271 to R273), whether its SILENT bit was 1, and its place in the order in
which engines finish descriptors (01 R34). -/
structure Done where
  idx : BitVec 16
  silent : Bool
  status : Nat
  result : Word
  stamp : BitVec 48
  made : Nat
  deriving DecidableEq, Repr

/-- The queue engine's own copy of a ring, with its count of notices (06 R253 to R255, R276, R286). -/
structure Ring where
  base : Nat
  size : Nat
  cbase : Nat
  prod : BitVec 16
  cons : BitVec 16
  cprod : BitVec 16
  ccons : BitVec 16
  next : BitVec 16
  done : List Done
  noticed : Bool
  notices : BitVec 16
  deriving DecidableEq, Repr

/-- What a flash operation does (07 Table 7.1). -/
inductive FlashKind where
  | program | erase | verify
  deriving DecidableEq, Repr

/-- A flash operation in progress (07 R295 to R311): the descriptor, what it does, the first unit or sector, how
many in all and how many are done, whether a suspend has been asked, and whether the steady quiesce has ordered it to stop. -/
structure FlashOp where
  desc : Desc
  kind : FlashKind
  first : Nat
  total : Nat
  done : Nat
  pausing : Bool
  stopped : Bool
  deriving DecidableEq, Repr

/-- A nonce reservation requested by the cipher engine (12 R520, R523, R525). -/
structure Resv where
  slot : Fin 16
  kcv : BitVec 64
  block : Nat
  ret : Bool
  deriving DecidableEq, Repr

/-- Flash beyond its bytes and tags (07 R290 to R292, R329): units that are programmed, have one bit in error, have more, or are
indeterminate; the operation; the finished one whose completion is still to be written, with its bank (R304); reservations, and whether the
controller is at one (R320, R321); unit reads left of a forced scrub hold. -/
structure Flash where
  programmed : NatSet
  oneBit : NatSet
  twoBit : NatSet
  cut : NatSet
  op : Option FlashOp
  ended : Option (RingId × BitVec 16 × Nat)
  resv : List Resv
  resvOn : Bool
  hold : Nat
  deriving DecidableEq, Repr

/-- The time base (08 R335, R337) and the per-thread TMB_HIL latches (R339). `cyc` counts steady-clock cycles since the tick edge,
`per` those of the previous whole tick since the FLL started, `floor` is the fraction reached when the FLL stopped in this tick (R338),
`judged` the compare channels whose comparison at this tick edge is over (R341, R342). -/
structure Time where
  tick : BitVec 48
  cyc : Nat
  per : Option Nat
  floor : BitVec 16
  judged : BitVec 16
  hil : Vector Word 10
  deriving DecidableEq, Repr

/-- A compare-channel write accepted and not yet applied (08 R342). -/
inductive CmpWrite where
  | ctl (v : Word)
  | val (v : Word)
  | rel (d : Word)
  | per (v : Word)
  deriving DecidableEq, Repr

/-- The prescaler and the capture of a counter (08 R352, R359, R361, R366): accumulator, whether this division counts N + 1, whether the
source has stopped, whether the count just produced was an overflow, the source edges of this division, whether an output pulse is still to be
counted, whether an active capture edge is still to be taken. -/
structure Prescaler where
  acc : BitVec 16
  long : Bool
  stopped : Bool
  wrapped : Bool
  edges : Nat
  due : Bool
  capDue : Bool
  deriving DecidableEq, Repr

/-- The live calendar (09 Table 9.1). -/
structure Calendar where
  sub : Nat
  sec : Nat
  min : Nat
  hour : Nat
  wday : Nat
  day : Nat
  month : Nat
  year : Nat
  deriving DecidableEq, Repr

/-- The backup domain beside its registers (09 R373, R382, R389, R393, R398). -/
structure Backup where
  cal : Calendar
  age : Nat
  onVbak : Bool
  oscStopped : Bool
  lowOnce : Bool
  sense : Nat
  deriving DecidableEq, Repr

/-- Frame-buffer states of the radio pool (10 R430), in the code order of RAD_BOWN. -/
inductive BufSt where
  | free | soft | queue | slot
  deriving DecidableEq, Repr

/-- What a transmission puts on the air (10 R408 to R413, R421): its path, the carrier in kHz, the output above −20 dBm in half dB, the
amplitude codes A(q, 0) to A(q, 31) of its ramps and their step in quarter µs, the chip rate in chips per second, and the chips between the
ramps as a pattern with how often it is sent. -/
structure Emission where
  band : Nat
  khz : Nat
  power : Nat
  ramp : List Nat
  step : Nat
  rate : Nat
  pattern : List Bool
  reps : Nat
  deriving DecidableEq, Repr

/-- A transmission of the link controller (11): what it sends, when its ramp-up begins and its ramp-down ends by the time base in 2^-31 µs,
its charge in µs and the tick at which the duty window that bears it begins (10 R434, R436), and whether the synthesiser has lost lock under
it (10 R449). -/
structure OnAir where
  em : Emission
  start : Nat
  stop : Nat
  us : Nat
  win : Nat
  lost : Bool
  deriving DecidableEq, Repr

/-- The radio CHAN 0 operation in hand (10 R437 to R446): whether it is on the air or listens, the time base at hand-over and then when
it began, what it sends, its charge in µs and the tick at which the duty window that bears it began, whether its START has come and an
access to its buffer still waits, and what it will complete with once known (status, RESULT, bytes to write). -/
structure RadioOp where
  desc : Desc
  active : Bool
  began : Nat
  air : Option Emission
  airUs : Nat
  win : Nat
  held : Bool
  outcome : Option (Nat × Word)
  bytes : List Byte
  deriving DecidableEq, Repr

/-- The radio beside its registers (10): the buffer pool, the operation; the die temperature last measured, per path when and at what
temperature it was calibrated since the island was lit, whether a calibration of it is deferred, when RAD_STAT.CALDEF reached 16 by the
time base; per path when its duty window began, the µs charged to the window after it and whether it must be calibrated anew; the link
controller's transmissions; the sniffer: the tick of its next window, the path of the open one, whether it verifies and until when in 2^-31
µs, whether XT32M has been started for the next, and whether the radio island is lit for the sniffer alone (02 R70). -/
structure Radio where
  pool : List (Nat × BufSt)
  op : Option RadioOp
  temp : Int
  calAt : Vector (Option Nat) 2
  calTemp : Vector Int 2
  calWait : Vector Bool 2
  calFull : Option Nat
  dutyAt : Vector Nat 2
  dutyNext : Vector Nat 2
  relock : Vector Bool 2
  air : List OnAir
  sniffNext : Nat
  sniffPath : Nat
  verify : Bool
  verifyTo : Nat
  lead : Bool
  sniffLit : Bool
  deriving DecidableEq, Repr

/-- What the link controller's receiver makes of a frame (10 R419, R420; 11 R471): whether its radio status is OK, its payload bytes, its level,
its coding flags (CRC, WHITE, CODE, ILV), and the observed sync-word end minus the nominal one, in fraction units of a tick. -/
structure Heard where
  ok : Bool
  bytes : List Byte
  rssi : Byte
  flags : BitVec 4
  err : Int
  deriving DecidableEq, Repr

/-- A frame in a mesh queue (11 R469): its buffer and SEND descriptor's place, and how many attempts it has had. -/
structure MFrame where
  desc : Desc
  buf : Nat
  attempts : Nat
  deriving DecidableEq, Repr

/-- A neighbour entry beside its registers (11 R468 to R477): offset O_j in fraction units, whether it has synced since ADMIT,
LSEQ last accepted, LSEQ to send next, the hops it advertises, its queue, listening slots used in the LOST step (while it is being
evicted, frames returned), an EVICT that waits, and the cycle of the last search lantern. -/
structure Nbr where
  off : Int
  everSync : Bool
  rxLseq : Option Byte
  txLseq : Byte
  hops : Nat
  queue : List MFrame
  tries : Nat
  evict : Option Desc
  lastLantern : Nat
  deriving DecidableEq, Repr

/-- What a slot in progress is doing (11 R464): when it began by the time base in 2^-31 µs, its schedule entry, the buffer it holds, the
queued frame or the bytes of the link controller's own frame that it sends, whether it sends, whether its ACK has been judged, whether a frame
was heard, whether the entry's own neighbour was, whether nothing that it does counts any longer, and the frame for which the receiver owes
an ACK: when the ACK begins by the time base in 2^-31 µs, coding flags, link header. -/
structure Slot where
  t0 : Nat
  entry : Word
  buf : Option Nat
  frame : Option MFrame
  ctrl : Option (List Byte)
  sent : Bool
  judged : Bool
  heard : Bool
  synced : Bool
  void : Bool
  ack : Option (Nat × BitVec 4 × List Byte)
  deriving DecidableEq, Repr

/-- The link controller beside its registers (11): neighbours, broadcast and shared queues, slot, the slot last begun, held WAKEREQs,
whether an HVETO waits to be sent and whether the vote has been answered, a flood in progress, a stop asked for, the time source whose offset
is to become a step of MSH_OFF (R474), whether HID names a holiday that there has been, a beacon to be sent outside the schedule (path, and its
ramp-up by the time base in 2^-31 µs, R477), the ended slots of LOST entries whose widened windows may still reach on, and the slots to come whose
widened windows have lost lock (R477, R494). -/
structure Mesh where
  nbr : List (Nat × Nbr)
  bcast : List MFrame
  shared : List MFrame
  slot : Option Slot
  slotNo : Option Nat
  held : List Desc
  hveto : Bool
  voteDone : Bool
  flood : Bool
  stopping : Bool
  step : Option Nat
  hadHol : Bool
  beacon : Option (Nat × Nat)
  wide : List Nat
  deaf : List Nat
  deriving DecidableEq, Repr

/-- A key slot (12 R500, R501, R504, R515): key bytes, 40-bit counter, latest reserved block, KCV. Its state is CIP_KST's field. -/
structure KeySlot where
  key : List Byte
  ctr : Nat
  resblk : Option Nat
  kcv : BitVec 64
  deriving DecidableEq, Repr

/-- The cipher engine beside its registers (12): slots, the descriptor that waits for a record (R522, R524), the one whose work is done and whose
completion is still to be written (R537), purge marks (R529),
accounts to post when next lit (R539), whether the lock frees after the operation in hand (R537, Table 12.6), and a claim that waits
for the first lighting (R543). -/
structure Cipher where
  slots : Vector KeySlot 16
  waiting : Option Desc
  last : Option Desc
  purge : List (BitVec 64)
  postLater : Bool
  freeAfter : Bool
  claim : Option ThreadId
  deriving DecidableEq, Repr

/-- Tracking channel states of Table 13.4, in code order. -/
inductive ChanSt where
  | idle | search | pull | track
  deriving DecidableEq, Repr

/-- A tracking channel (13 R562, R563): its state and target, last observation, consecutive ms above and below the lock limits and
below LOSSCN, sync flags, the histogram of sign changes over 20 offsets and the ms it covers, the word tracker (words passed since a
preamble, consecutive failures, the last word's number), and the epochs left of a search. -/
structure GChan where
  st : ChanSt
  prn : Nat
  obs : GnssChan
  hiMs : Nat
  loMs : Nat
  lossMs : Nat
  bitSync : Bool
  wordSync : Bool
  hist : List Nat
  histMs : Nat
  good : Option Nat
  bad : Nat
  word : Nat
  searchLeft : Nat
  deriving DecidableEq, Repr

/-- A snapshot in hand (13 R557 to R560): epochs waited, whether it captures, epochs still to capture, and its record's words as
latched at the start. -/
structure Snap where
  desc : Desc
  waited : Nat
  capturing : Bool
  left : Nat
  w : List Word
  deriving DecidableEq, Repr

/-- Records that a GNSS channel has produced and not yet written (13 R560, R564, R565; 03 R139): the channel, a SNAP's own descriptor, the
words, and the last navigation word's number. -/
structure GOut where
  chan : Nat
  desc : Option Desc
  words : List TWord
  no : Nat
  deriving DecidableEq, Repr

/-- The PPS generator beside its registers (13 R568 to R575): bound in 1/256 ns, pulse number of holdover, seconds since FIX, last
periods (excess over 32,768 ticks in 2^-40), correction pending, carried fraction in 2^-40, the accuracy of a FIX that waits, the
length of the period under way: TCXO cycles in FREE and LOCKED, 2^-40 ticks in HOLDOVER, and the time base at the last pulse. -/
structure Pps where
  bound : Nat
  n : Nat
  sinceFix : Nat
  periods : List Int
  adj : Int
  carry : Int
  fix : Option Nat
  period : Int
  edge : Option Nat
  deriving DecidableEq, Repr

/-- The GNSS island beside its registers (13): channels, per notch the last four movements, the last JN values, the snapshot, PPS,
navigation records written to the handed NAV buffer, the tick of the last epoch boundary and the TCXO cycles from that tick's edge to it, records
still to be written. -/
structure Gnss where
  chan : Vector GChan 16
  moves : Vector (List Nat) 4
  jn : List Nat
  snap : Option Snap
  pps : Pps
  navCount : Nat
  lastTick : Word
  lastTcxo : BitVec 9
  out : List GOut
  deriving DecidableEq, Repr

/-- A transfer in the master role (14 R601, R602): its descriptor, the bytes that it sends once its source has been read, and the bits that have
come in over SDI so far. -/
structure Xfer where
  desc : Desc
  out : Option (List Byte)
  sdi : List Bool
  deriving DecidableEq, Repr

/-- The clocked serial port beside its registers (14): a slave frame being received, the STATUS and the read buffer that it sends (R594); the same
of a frame whose SSEL has risen and that is still being committed (R596, R597); whether a frame is on the wire that found both buffers occupied
(R597); the read buffer on offer (R595), the select held by KEEP (R603), the transfer in hand, and the bits that the last frame or transfer
has sent on SDO, first to last (R594, R602). -/
structure Csp where
  inFrame : Bool
  status : Word
  offer : List Word
  committing : Option (Word × List Word)
  shut : Bool
  rbuf : Option (List Word)
  kept : Option Nat
  xfer : Option Xfer
  sdo : List Bool
  deriving DecidableEq, Repr

/-- A fob on a tag line (15 R614, R615): identity, the check code it sends, the tick at which its power began, whether armed. -/
structure Fob where
  id : BitVec 64
  code : Byte
  since : Nat
  armed : Bool
  deriving DecidableEq, Repr

/-- A tag record still to be written (15 Table 15.2): KIND, DEPTH, the identity or prefix with its unknown bits 0, word 3's content. -/
structure TagRec where
  kind : Nat
  depth : Nat
  id : BitVec 64
  code : Nat
  deriving DecidableEq, Repr

/-- What is left of a SEARCH in progress (15 R620): the prefixes still to visit (depth, prefix), identities found good, records waiting to
be written, rounds run, records posted, depth-0 pattern, the entries still to reconcile once that has begun, the disturbances, and the
tick at which it paused. -/
structure TagWalk where
  desc : Desc
  line : Fin 4
  stack : List (Nat × Nat)
  found : List (BitVec 64)
  out : List TagRec
  rounds : Nat
  posted : Nat
  sig : BitVec 4
  recon : Option (List (BitVec 64))
  noise : List TagNoise
  pausedAt : Nat
  deriving DecidableEq, Repr

/-- A presence check in progress on its table entries (15 R628): the identities still to check, the rounds and checks done, the tick at
which it began, the line time in µs it has used, and its disturbances. -/
structure TagPres where
  left : List (BitVec 64)
  rounds : Nat
  began : Nat
  us : Nat
  noise : List TagNoise
  deriving DecidableEq, Repr

/-- A tag line (15 R613 to R616, R628, R638): the fobs on it, the tick of its last enable, when its next presence check falls due in 1/100
tick, whether that one has been deferred, the check in progress, and whether the engine has stopped driving the line. -/
structure TagLine where
  fobs : List Fob
  since : Nat
  presDue : Nat
  deferred : Bool
  pres : Option TagPres
  undriven : Bool
  deriving DecidableEq, Repr

/-- The tag bus beside its registers (15): lines, a paused search, records written to the handed RECV (R632). -/
structure TagBus where
  lines : Vector TagLine 4
  walk : Option TagWalk
  written : Nat
  deriving DecidableEq, Repr

/-- Bridge states of Table 16.1. -/
inductive BridgeSt where
  | coast | drive | brake
  deriving DecidableEq, Repr

/-- A bolt bridge (16 R644 to R650): its state, the MOVE in hand, chopping periods driven, length of the trailing run of samples at
or above STALLI counted after BLANK, peak code, the status it will complete with, and the time base as it began to brake. -/
structure Bridge where
  st : BridgeSt
  desc : Option Desc
  periods : Nat
  run : Nat
  peak : Nat
  status : Nat
  since : Nat
  deriving DecidableEq, Repr

/-- A tamper loop (16 R652 to R655): pattern register, consecutive mismatches, chips since it was armed, the tick before which it sends no
other. -/
structure TLoop where
  s : BitVec 16
  miss : Nat
  chips : Nat
  due : Nat
  deriving DecidableEq, Repr

/-- Boot ROM phase (02 R103; 05 R246, R248): waiting for the first instruction, in the ROM, handed off, in host recovery. -/
inductive BootSt where
  | starting | rom | done | recovery
  deriving DecidableEq, Repr

/-- The clock controller beside its registers (02 R88 to R96, R703, R717, R718). -/
structure Clocks where
  mul : Nat
  onXt32m : Bool
  xt32mFailed : Bool
  refDue : Bool
  switchDue : Bool
  pllFresh : Bool
  deriving DecidableEq, Repr

/-- The power controller beside its registers (02): the lower state being entered with its REFUSE code (R69 to R72), wake sources
latched meanwhile as a mask, bit 5 a snuff (R90, 05 R713), whether a request has arrived at a steady span in Dim (R73), a reset held
by RESETN, VDD present, islands lit since the full reset (R429, R543), requests held per span and direction (R86), the snuff hold
(05 R229). -/
structure Power where
  entry : Option (Nat × Nat)
  latched : Nat
  arrived : Bool
  inReset : Bool
  vdd : Bool
  radioOnce : Bool
  cipherOnce : Bool
  heldReq : List (Nat × Nat)
  snuffHold : Nat
  deriving DecidableEq, Repr

/-- The part. -/
structure State where
  /-- Commands waiting, first in first out: the model's own. -/
  pending : List Instr
  /-- Free-value counter: the model's own; no statement rests on its value. -/
  free : Nat
  /-- The live register image. -/
  live : List (Nat × Word)
  /-- The staged image of WS and LK fields (01 R38). -/
  staged : List (Nat × Word)
  /-- The sealed image (01 R39). -/
  sealed : List (Nat × Word)
  mem : Memory
  ledger : Ledger
  isl : Vector IslandSt 5
  power : Power
  clk : Clocks
  boot : BootSt
  threads : Vector Thread 10
  evring : Vector EvRing 10
  /-- Records that wait for the steady island, oldest first. -/
  late : List LateRec
  /-- Descriptors finished so far, which numbers `Done.made`: the model's own. -/
  made : Nat
  /-- Blocks whose SEAL.GO has been written since the full reset (01 R46). -/
  lkDone : List Blk
  /-- Channels, by 16 × unit + channel, whose engine has presented an access to the burst island that waits (03 R135, R139). -/
  issued : List Nat
  rings : Vector Ring 64
  /-- Handed descriptors by 16 × unit + channel. -/
  handed : List (Nat × Desc)
  /-- Last ring served by 16 × unit + channel (07 R295). -/
  rr : List (Nat × Nat)
  flash : Flash
  time : Time
  /-- Compare-channel writes accepted and not yet applied, each with the tick in which it was accepted. -/
  cmpw : Vector (List (Nat × CmpWrite)) 16
  cnt : Vector Prescaler 8
  bak : Backup
  radio : Radio
  mesh : Mesh
  cip : Cipher
  gnss : Gnss
  csp : Csp
  tag : TagBus
  bridge : Vector Bridge 2
  loops : Vector TLoop 8
  /-- The levels that the world puts on the pads of P0 to P23 (17 R683). -/
  pads : BitVec 24
  /-- The pads that the world drives (17 R685). -/
  driven : BitVec 24
  deriving DecidableEq, Repr

/-- Why a command would stop the block. No meaning answers with one: every command of the table has an effect in every state, an
instruction's fault being a state change (05 R212, R216) and an event that is not due leaving the part as it is (log 7). The one
constructor is there for the host's interface; safe, since it is never raised. -/
inductive Fault where
  /-- Raised by no command (safe). -/
  | none
  deriving DecidableEq, Repr

/-- Why a command has no meaning. -/
inductive Refusal where
  /-- A command that the model does not give a meaning to, named by its mnemonic; raised by the dispatcher's refused arms only (safe). -/
  | notModelled (mnemonic : String)
  deriving DecidableEq, Repr

/-- A register that holds VOID; its data is undefined by the spec, 0 here (log 1). -/
def TWord.void : TWord := ⟨0#32, .void⟩

/-- A thread as a full reset leaves it (05 R240, 04 R194). -/
def Thread.reset (st : ThreadSt) : Thread :=
  { regs := Vector.replicate 32 TWord.void, pc := 0, z := false, n := false, c := false, v := false, mode := true, bip := false,
    ent := false, pmode := false, snuff := false, st := st, pend := 0, wmask := 0, epc := 0, ecause := 0, eaddr := 0, waitRd := 0,
    issued := Held.no, stopping := false }

/-- The ten threads after a full reset: thread 0 runs, 8 and 9 are dark, the others stopped (05 R240). -/
def resetThreads : Vector Thread 10 :=
  (Vector.replicate 10 (Thread.reset .stopped)).set 0 (Thread.reset .run) |>.set 8 (Thread.reset .dark) |>.set 9 (Thread.reset .dark)

def IslandSt.dark : IslandSt := ⟨.dark, 0, 0, false, false, false, false, []⟩

def Ring.off : Ring := ⟨0, 0, 0, 0, 0, 0, 0, 0, [], false, 0⟩

def Account.zero : Account := ⟨0, 0, 0, 0⟩
def Window.none : Window := ⟨0, 0, false, 0, 0, false, false, 0, false⟩

/-- The ledger after a full reset (01 R18, R61, R711): every account zero but those of spans 0 and 1, which are granted 8 in the
power-on sequence (02 Table 2.8, R66); the first sweep due one reset period (1,024 ticks) after the reset. -/
def Ledger.reset (tick : Nat) : Ledger :=
  { acct := [(0x40, ⟨8, 8, 0, 0⟩), (0x41, ⟨8, 8, 0, 0⟩), (0x42, ⟨8, 8, 0, 0⟩), (0x43, ⟨8, 8, 0, 0⟩)],
    win := [], parity := [], sweep := none, waiting := false, due := tick + 1024,
    resetDue := false, resetHeld := false }

def Calendar.reset : Calendar := ⟨0, 0, 0, 0, 6, 1, 1, 2000⟩

def Backup.reset : Backup := ⟨Calendar.reset, 0, false, false, false, 0⟩

def Radio.reset : Radio :=
  { pool := [], op := none, temp := 0, calAt := Vector.replicate 2 none, calTemp := Vector.replicate 2 0,
    calWait := Vector.replicate 2 false, calFull := none, dutyAt := Vector.replicate 2 0, dutyNext := Vector.replicate 2 0,
    relock := Vector.replicate 2 false, air := [], sniffNext := 0, sniffPath := 0, verify := false, verifyTo := 0, lead := false, sniffLit := false }

def Nbr.empty : Nbr := ⟨0, false, none, 0, 15, [], 0, none, 0⟩

def Mesh.reset : Mesh :=
  { nbr := [], bcast := [], shared := [], slot := none, slotNo := none, held := [], hveto := false, voteDone := false,
    flood := false, stopping := false, step := none, hadHol := false, beacon := none, wide := [], deaf := [] }

def KeySlot.empty : KeySlot := ⟨[], 0, none, 0⟩

def Cipher.reset : Cipher :=
  { slots := Vector.replicate 16 KeySlot.empty, waiting := none, last := none, purge := [], postLater := false, freeAfter := false, claim := none }

def GnssChan.none : GnssChan := ⟨0, 0, 0, 0, 0, false, 0⟩
def GChan.idle : GChan := ⟨.idle, 0, GnssChan.none, 0, 0, 0, false, false, [], 0, none, 0, 0, 0⟩
def Pps.off : Pps := ⟨0, 0, 0, [], 0, 0, none, 0, none⟩

def Gnss.reset : Gnss :=
  { chan := Vector.replicate 16 GChan.idle, moves := Vector.replicate 4 [], jn := [], snap := none, pps := Pps.off, navCount := 0,
    lastTick := 0, lastTcxo := 0, out := [] }

def Csp.reset : Csp := ⟨false, 0, [], none, false, none, none, none, []⟩

def TagBus.reset : TagBus := ⟨Vector.replicate 4 ⟨[], 0, 0, false, none, false⟩, none, 0⟩

def Bridge.coast : Bridge := ⟨.coast, none, 0, 0, 0, 0, 0⟩

/-- The islands after a full reset: steady lit, the others dark (02 R103, PWR_ILIT). -/
def resetIslands : Vector IslandSt 5 :=
  (Vector.replicate 5 IslandSt.dark).set 0 { IslandSt.dark with st := .lit }

def Clocks.reset : Clocks := ⟨977, false, false, false, false, true⟩
def Power.reset : Power := ⟨none, 0, false, false, true, false, false, [], 0⟩
def Flash.reset : Flash := ⟨[], [], [], [], none, none, [], false, 0⟩

/-- The prescaler of a counter that does not run. -/
def Prescaler.stopped0 : Prescaler := ⟨0, false, false, false, 0, false, false⟩

/-- The part right after a power-on reset of a DZ-7400 (02 R103, Table 2.8; 01 R61; 05 R240; 09 R405): every register image at its
table's reset values, nothing in memory, the calendar at its restart values. A chip of another variant differs in IDN_PART and
IDN_UNITS alone (03 Table 3.3). -/
def State.reset : State :=
  { pending := [], free := 0, live := [], staged := [], sealed := [], mem := ⟨[], [], []⟩, ledger := Ledger.reset 0,
    isl := resetIslands, power := Power.reset, clk := Clocks.reset, boot := .starting, threads := resetThreads,
    evring := Vector.replicate 10 ⟨0, 0, 0⟩, late := [], made := 0, lkDone := [], issued := [], rings := Vector.replicate 64 Ring.off, handed := [], rr := [], flash := Flash.reset,
    time := ⟨0, 0, none, 0, 0, Vector.replicate 10 0⟩, cmpw := Vector.replicate 16 [], cnt := Vector.replicate 8 Prescaler.stopped0,
    bak := Backup.reset, radio := Radio.reset, mesh := Mesh.reset, cip := Cipher.reset, gnss := Gnss.reset, csp := Csp.reset,
    tag := TagBus.reset, bridge := Vector.replicate 2 Bridge.coast, loops := Vector.replicate 8 ⟨0xACE1, 0, 0, 0⟩, pads := 0, driven := 0 }

end Sys2Proof.Machine
end

