-- ==== Sys2Proof/Machine/Image.lean ====
section
/-! DEFINITION. The register images: reading and writing one field, which unit is present (03 R119, R126), stamps (01 R30, 08 R337)
and free values. -/

namespace Sys2Proof.Machine

/-- What a meaning answers. -/
abbrev Res := Host.Outcome State Fault Refusal

/-- The value of a field in a register's word. -/
def fldGet (w : Word) (f : Fld) : Nat := w.toNat / 2 ^ f.lo % 2 ^ f.w

/-- The word with the field at `v` modulo its width, every other bit unchanged. -/
def fldPut (w : Word) (f : Fld) (v : Nat) : Word :=
  let m := BitVec.ofNat 32 ((2 ^ f.w - 1) * 2 ^ f.lo)
  (w &&& ~~~m) ||| BitVec.ofNat 32 ((v % 2 ^ f.w) * 2 ^ f.lo)

/-- The live word of the register at `a`. -/
def State.reg (s : State) (a : Nat) : Word := smGet resetWord s.live a
/-- The live image with the register at `a` at `v`. -/
def State.setReg (s : State) (a : Nat) (v : Word) : State := { s with live := smSet resetWord s.live a v }
/-- The staged word of the register at `a` (01 R38). -/
def State.stg (s : State) (a : Nat) : Word := smGet resetWord s.staged a
/-- The staged image with the register at `a` at `v`. -/
def State.setStg (s : State) (a : Nat) (v : Word) : State := { s with staged := smSet resetWord s.staged a v }
/-- The sealed word of the register at `a` (01 R39). -/
def State.sld (s : State) (a : Nat) : Word := smGet resetWord s.sealed a

/-- A live field. -/
def State.fld (s : State) (f : Fld) : Nat := fldGet (s.reg f.addr) f
/-- Whether a live field is not zero. -/
def State.flag (s : State) (f : Fld) : Bool := s.fld f != 0
/-- The state with a live field at `v`. -/
def State.setFld (s : State) (f : Fld) (v : Nat) : State := s.setReg f.addr (fldPut (s.reg f.addr) f v)
/-- The state with a one-bit live field set. -/
def State.setBit (s : State) (f : Fld) : State := s.setFld f 1
/-- The state with a live field cleared. -/
def State.clrFld (s : State) (f : Fld) : State := s.setFld f 0
/-- The state with a counting field one higher, saturating at its width's top. -/
def State.satInc (s : State) (f : Fld) : State := s.setFld f (min (s.fld f + 1) (2 ^ f.w - 1))
/-- The state with one bit of a live field set. -/
def State.orFld (s : State) (f : Fld) (v : Nat) : State := s.setFld f (s.fld f ||| v)
/-- The state with the bits of `v` cleared in a live field. -/
def State.clrBits (s : State) (f : Fld) (v : Nat) : State := s.setFld f (s.fld f - (s.fld f &&& v))

/-- Whether bit `b` of a live field is 1. -/
def State.fldBit (s : State) (f : Fld) (b : Nat) : Bool := (s.fld f).testBit b

/-- The state with the registers that start the list of addresses at their reset values. -/
def State.resetRegs (s : State) (p : Nat → Bool) : State :=
  { s with live := smDrop p s.live, staged := smDrop p s.staged, sealed := smDrop p s.sealed }

/-- The units of Table 3.4, by their IDN_UNITS bit (03 R119). -/
inductive PartUnit where
  | sub | ghz | burst | gnss | bankB | cipher | tag | bts | csp | cnt
  deriving DecidableEq, Repr

/-- The IDN_UNITS bit of a unit. -/
def PartUnit.bit : PartUnit → Nat
  | .sub => 0 | .ghz => 1 | .burst => 2 | .gnss => 3 | .bankB => 4 | .cipher => 5 | .tag => 6 | .bts => 7 | .csp => 8 | .cnt => 9

/-- A unit is present exactly when its bit of IDN_UNITS reads 1 (03 R119). -/
def State.has (s : State) (u : PartUnit) : Bool := s.fldBit F.IDN_UNITS_UNITS u.bit

/-- The fields of an absent unit read zero and ignore writes (03 R126, Table 3.4): the bits of the register at `a` that still answer. -/
def State.presentMask (s : State) (a : Nat) : Word :=
  let blk := a / 0x1000
  let gone : Bool :=
    (blk == 0x4000F && !s.has .gnss) || (blk == 0x4000C && !s.has .cipher) || (blk == 0x4000A && !s.has .tag) ||
    (blk == 0x4000B && !s.has .bts) || (blk == 0x40009 && !s.has .csp) || (blk == 0x40008 && !s.has .cnt) ||
    ((a == 0x4000200C || a == 0x40002010 || a == 0x40003008) && !s.has .burst) ||
    (blk == 0x4000D && !s.has .sub && 0x4000D100 ≤ a && a < 0x4000D120) ||
    (blk == 0x4000D && !s.has .ghz && 0x4000D120 ≤ a && a < 0x4000D140)
  if gone then 0#32
  else if a == 0x40006004 && !s.has .bankB then ~~~0x2#32
  else ~~~0#32

/-- PWR_STAT.STATE codes (02 Table 2.2). -/
def State.pstate (s : State) : Nat := s.fld F.PWR_STAT_STATE

/-- The steady island's bit in the tables of islands. -/
def Island.idx : Island → Fin 5
  | .steady => 0 | .burst => 1 | .cipher => 2 | .radio => 3 | .gnss => 4

/-- An island's record. -/
def State.island (s : State) (i : Island) : IslandSt := vget s.isl (Island.idx i)
/-- The state with an island's record replaced. -/
def State.setIsland (s : State) (i : Island) (x : IslandSt) : State := { s with isl := vset s.isl (Island.idx i) x }
/-- Whether an island is lit. -/
def State.lit (s : State) (i : Island) : Bool := (s.island i).st == .lit

/-- Whether the part runs at all: VDD present and RESETN not holding it (02 R101, R104). -/
def State.on (s : State) : Bool := s.power.vdd && !s.power.inReset

/-- Whether the FLL runs (02 Table 2.2; 08 R337): the steady island is not dark, in Lit, Blaze, or Dim with DIMFLL = 1. -/
def State.fllRuns (s : State) : Bool :=
  s.on && (s.island .steady).st != .dark && (s.pstate ≥ 3 || (s.pstate == 2 && s.flag F.PWR_CTL_DIMFLL))

/-- The fraction of the time base (08 R337): defined while the FLL runs and a whole tick has been measured, zero otherwise. When the FLL has
stopped and started again within one tick, the fraction stands at what it had reached until the tick is over, since no later read may return a
lower time base (08 R338; log 105). -/
def State.frac (s : State) : BitVec 16 :=
  match s.time.per with
  | none => if s.fllRuns then s.time.floor else 0
  | some 0 => 0
  | some p => BitVec.ofNat 16 (min 0xFFFF (s.time.cyc * 65536 / p))

/-- The 64-bit time base (08 R335). -/
def State.timeBase (s : State) : BitVec 64 := s.time.tick ++ s.frac

/-- An origin stamp: bits [47:0] of the time base (01 R30). -/
def State.stamp (s : State) : BitVec 48 := (s.timeBase).setWidth 48

/-- The time base in ticks, bits [63:16]. -/
def State.now (s : State) : Nat := s.time.tick.toNat

/-- Bits [47:16] of the time base (08 R340). -/
def State.tick32 (s : State) : Word := s.time.tick.setWidth 32

/-- The state with the free-value counter advanced (log 3). -/
def State.fresh (s : State) : State := { s with free := s.free + 1 }

/-- Whether the steady island runs: lit, in Lit or Blaze (02 Table 2.2). -/
def State.steadyRuns (s : State) : Bool := s.on && s.lit .steady && (s.pstate == 3 || s.pstate == 4)

/-- A thread's record. -/
def State.thr (s : State) (t : ThreadId) : Thread := vget s.threads t
/-- The state with a thread's record replaced. -/
def State.setThr (s : State) (t : ThreadId) (x : Thread) : State := { s with threads := vset s.threads t x }

/-- A ring's record. -/
def State.ring (s : State) (n : RingId) : Ring := vget s.rings n
/-- The state with a ring's record replaced. -/
def State.setRing (s : State) (n : RingId) (x : Ring) : State := { s with rings := vset s.rings n x }

/-- The threads that a route field selects, in ascending order (Table 1.8, Table 2.10, Table 5.9). -/
def maskThreads (m : Nat) : List ThreadId := (indices 10).filter (fun t => m.testBit t.val)

end Sys2Proof.Machine
end

