-- ==== Sys2Proof/Machine/Mem.lean ====
section
/-! DEFINITION. The memories: the address map (03 R108), bytes, words and tags (03 R112, R701), parity and the flash units' errors, and
which accesses are refused. Nothing here looks at watched words: see Ops.lean. -/

namespace Sys2Proof.Machine

/-- The ranges of Table 3.1. -/
inductive Region where
  | rom | flashA | flashB | sram | vigil | burst | gnss | setup | cal
  deriving DecidableEq, Repr

/-- The base and size of a range (03 Table 3.1). -/
def Region.span : Region → Nat × Nat
  | .rom => (0x00000000, 0x10000)
  | .flashA => (0x08000000, 0x200000)
  | .flashB => (0x08200000, 0x200000)
  | .sram => (0x20000000, 0x100000)
  | .vigil => (0x20100000, 0x10000)
  | .burst => (0x24000000, 0x40000)
  | .gnss => (0x28000000, 0x20000)
  | .setup => (0x40000000, 0x11000)
  | .cal => (0x50000000, 0x1000)

/-- Whether an address lies in a range. -/
def Region.holds (r : Region) (a : Nat) : Bool := r.span.1 ≤ a && a < r.span.1 + r.span.2

/-- The ranges in ascending order of address. -/
def regions : List Region := [.rom, .flashA, .flashB, .sram, .vigil, .burst, .gnss, .setup, .cal]

/-- The range of the map that holds an address, whatever units are present (03 R108). -/
def mapRegion (a : Nat) : Option Region := regions.find? (fun r => r.holds a)

/-- Whether a range's memory is there on this part (03 R127, Table 3.4). -/
def State.regionHere (s : State) : Region → Bool
  | .burst => s.has .burst
  | .gnss => s.has .gnss
  | .flashB => s.has .bankB
  | _ => true

/-- The range that answers at an address (03 R108, R109, R127). -/
def State.region (s : State) (a : Nat) : Option Region := (mapRegion a).filter s.regionHere

/-- The tags by code (04 Table 4.1). -/
def tagOf (c : Nat) : Tag :=
  match c % 8 with
  | 0 => .void | 1 => .int | 2 => .addr | 3 => .code | 4 => .key | 5 => .time | 6 => .seq | _ => .raw

/-- The code of a tag (04 Table 4.1). -/
def Tag.num : Tag → Nat
  | .void => 0 | .int => 1 | .addr => 2 | .code => 3 | .key => 4 | .time => 5 | .seq => 6 | .raw => 7

/-- What a byte that nothing has written reads as: the mastered ROM (log 4), 0xFF in erased flash (03 Table 3.2), 0 elsewhere, where
the spec leaves the data undefined (03 R141 to R143; log 2). -/
def memDefault (a : Nat) : Byte :=
  if a < 0x10000 then Config.romByte a
  else if 0x08000000 ≤ a ∧ a < 0x08400000 then 0xFF else 0

/-- What the tag of a word that nothing has written reads as (03 Table 3.2, R141 to R143). -/
def tagDefault (a : Nat) : Tag :=
  if a < 0x10000 then tagOf (Config.romTag a)
  else if (0x08000000 ≤ a ∧ a < 0x08400000) ∨ (0x28000000 ≤ a ∧ a < 0x28020000) then .raw else .void

/-- The canonical form of the memories. -/
def Memory.wf (m : Memory) : Bool := smWf memDefault m.data && smWf tagDefault m.tags && smRising m.bad

/-- The word address that holds a byte address. -/
def wordAddr (a : Nat) : Nat := a / 4 * 4

/-- One byte. -/
def Memory.byte (m : Memory) (a : Nat) : Byte := smGet memDefault m.data a
/-- The stored tag of the word that holds a byte address. -/
def Memory.tag (m : Memory) (a : Nat) : Tag := smGet tagDefault m.tags (wordAddr a)
/-- A word, least significant byte first (03 R701). -/
def Memory.word (m : Memory) (a : Nat) : Word := m.byte (a + 3) ++ m.byte (a + 2) ++ m.byte (a + 1) ++ m.byte a
/-- A word with its tag. -/
def Memory.tword (m : Memory) (a : Nat) : TWord := ⟨m.word a, m.tag a⟩
/-- Consecutive bytes, ascending. -/
def Memory.bytes (m : Memory) (a n : Nat) : List Byte := (List.range n).map (fun i => m.byte (a + i))

/-- The memories with one byte written. -/
def Memory.setByte (m : Memory) (a : Nat) (b : Byte) : Memory := { m with data := smSet memDefault m.data a b }
/-- The memories with a word's tag written. -/
def Memory.setTag (m : Memory) (a : Nat) (t : Tag) : Memory := { m with tags := smSet tagDefault m.tags (wordAddr a) t }
/-- The memories with a word's data written, least significant byte first (03 R701). -/
def Memory.setData (m : Memory) (a : Nat) (w : Word) : Memory :=
  (((m.setByte a (w.extractLsb' 0 8)).setByte (a + 1) (w.extractLsb' 8 8)).setByte (a + 2) (w.extractLsb' 16 8)).setByte (a + 3)
    (w.extractLsb' 24 8)
/-- A word store: data, tag and good parity (03 R112, R705). -/
def Memory.setWord (m : Memory) (a : Nat) (w : TWord) : Memory :=
  let m' := (m.setData a w.data).setTag a w.tag
  { m' with bad := nsDel m'.bad a }
/-- Bytes written one after another, tags unchanged. -/
def Memory.setBytes (m : Memory) (a : Nat) : List Byte → Memory
  | [] => m
  | b :: r => Memory.setBytes (m.setByte a b) (a + 1) r
/-- The memories with every word of the addresses for which `p` holds as nothing had written it. -/
def Memory.clear (m : Memory) (p : Nat → Bool) : Memory :=
  { data := smDrop p m.data, tags := smDrop p m.tags, bad := smDrop p m.bad }

/-- Whether the word at an address fails its parity check (03 R140). -/
def Memory.parityBad (m : Memory) (a : Nat) : Bool := nsMem m.bad (wordAddr a)

/-- The bytes of a word, least significant first. -/
def wordBytes (w : Word) : List Byte :=
  [w.extractLsb' 0 8, w.extractLsb' 8 8, w.extractLsb' 16 8, w.extractLsb' 24 8]

/-- The word of up to four bytes, least significant first, zero above them. -/
def bytesWord (l : List Byte) : Word :=
  l.foldr (fun b acc => (acc <<< 8) ||| b.setWidth 32) 0#32

/-- A word of the state's memory as the spec's queue engine or an engine with no refusal reads it. -/
def State.word (s : State) (a : Nat) : Word := s.mem.word a
/-- The state with a word written, no watched word looked at. -/
def State.poke (s : State) (a : Nat) (w : TWord) : State := { s with mem := s.mem.setWord a w }

/-- The flash bank of an address: 0 for A, 1 for B. -/
def bankOf (a : Nat) : Nat := (a - 0x08000000) / 0x200000
/-- The sector of a flash address (07 R289). -/
def sectorOf (a : Nat) : Nat := (a - 0x08000000) / 0x2000
/-- The 16-byte unit that holds a flash address (07 R290). -/
def unitOf (a : Nat) : Nat := (a - 0x08000000) / 16
/-- Whether an address lies in flash. -/
def inFlash (a : Nat) : Bool := 0x08000000 ≤ a && a < 0x08400000

/-- The mode that live region descriptor `n` gives a sector: 0 where it does not cover it (07 R312). -/
def State.rgnMode (s : State) (n sec : Nat) : Nat :=
  let lo := s.fld (F.FLC_RGN_START n)
  let hi := s.fld (F.FLC_RGN_END n)
  if lo ≤ sec && sec ≤ hi then s.fld (F.FLC_RGN_MODE n) else 0

/-- Whether a sector lies in the live nonce area (07 R318); an area of one sector is none (12 R545). -/
def State.inNonce (s : State) (sec : Nat) : Bool :=
  2 ≤ s.fld F.FLC_NONCE_COUNT && s.fld F.FLC_NONCE_START ≤ sec && sec < s.fld F.FLC_NONCE_START + s.fld F.FLC_NONCE_COUNT

/-- The effective mode of a sector, 1 RW, 2 RO, 3 XO: the most restrictive that covers it, RW where none does (07 R313), with RO as a
lower bound in the nonce area (07 R319). -/
def State.sectorMode (s : State) (sec : Nat) : Nat :=
  let m := (List.range 16).foldl (fun acc n => max acc (s.rgnMode n sec)) 1
  if s.inNonce sec then max m 2 else m

/-- FLC_STAT.BUSYA or BUSYB (07 R304). -/
def State.bankBusy (s : State) (bank : Nat) : Bool :=
  if bank = 0 then s.flag F.FLC_STAT_BUSYA else s.flag F.FLC_STAT_BUSYB

/-- The bank whose unit scrub reads next (07 R322). -/
def State.scrubBank (s : State) : Nat := s.fld F.FLC_SSTAT_POS / 131072

/-- Whether a forced scrub hold keeps a bank from foreground accesses (07 R328). -/
def State.bankHeld (s : State) (bank : Nat) : Bool := s.flag F.FLC_STAT_FORCED && s.scrubBank == bank

/-- What a unit's code makes of a read (07 R291, R292, R329): good, corrected, or no data. -/
inductive Ecc where
  | good | corrected | failed
  deriving DecidableEq, Repr

/-- The outcome of reading the unit that holds a flash address. -/
def State.ecc (s : State) (a : Nat) : Ecc :=
  let u := unitOf a
  if nsMem s.flash.cut u then (if Config.cutFails s.free u then .failed else .good)
  else if nsMem s.flash.twoBit u then .failed
  else if nsMem s.flash.oneBit u then .corrected else .good

/-- A word of flash as a read returns it: an indeterminate unit gives any data (07 R329). -/
def State.flashWord (s : State) (a : Nat) : TWord :=
  if nsMem s.flash.cut (unitOf a) then
    ⟨Config.cutByte s.free (a + 3) ++ Config.cutByte s.free (a + 2) ++ Config.cutByte s.free (a + 1) ++ Config.cutByte s.free a,
      tagOf (Config.cutTag s.free a)⟩
  else s.mem.tword a

/-- What the unit's code does to the error registers at a foreground read (07 R291, R332), of a word or of a unit: FLC_EADDR takes the address
that was read, a word's or a unit's first (DESIGN CHOICE, log 137); no flash address is 0. -/
def State.noteEcc (s : State) (a : Nat) : State :=
  match s.ecc a with
  | .good => s
  | .corrected =>
    let s1 := if s.fld F.FLC_EADDR_ADDR == 0 then s.setFld F.FLC_EADDR_ADDR a else s
    s1.satInc F.FLC_ECC_CORR
  | .failed => s.setBit F.FLC_ECC_UNCORR

/-- A word as a read of a memory (no set-up register) returns it: data and stored tag (03 R112). -/
def State.readTWord (s : State) (a : Nat) : TWord := if inFlash a then s.flashWord a else s.mem.tword a

/-- The state after a foreground read of a word: the flash error registers, and the free-value counter where an indeterminate unit gave
a free value. -/
def State.afterRead (s : State) (a : Nat) : State :=
  if inFlash a then
    let s1 := s.noteEcc a
    if nsMem s.flash.cut (unitOf a) then s1.fresh else s1
  else s

/-- The fault codes of Table 5.5. -/
inductive FaultCode where
  | nomap | nowrite | width | islDark | mempar | bankBusy | xoRead | noexec | tagFetch | illpair | resop | priv
  | tagVoid | tagKey | tagMix | tagAddr | tagCode | align | sys
  deriving DecidableEq, Repr

/-- The code a fault reports (05 Table 5.5). -/
def FaultCode.num : FaultCode → Nat
  | .nomap => 0x01 | .nowrite => 0x02 | .width => 0x03 | .islDark => 0x04 | .mempar => 0x05 | .bankBusy => 0x06
  | .xoRead => 0x07 | .noexec => 0x08 | .tagFetch => 0x09 | .illpair => 0x10 | .resop => 0x11 | .priv => 0x12
  | .tagVoid => 0x20 | .tagKey => 0x21 | .tagMix => 0x22 | .tagAddr => 0x23 | .tagCode => 0x24 | .align => 0x28 | .sys => 0x30

/-- What an access meets: it goes ahead, it faults, or it waits (with GNSS capture RAM, after lighting its island, 03 R116). -/
inductive Reach where
  | ok | fault (f : FaultCode) | wait (light : Bool)
  deriving DecidableEq, Repr

/-- The burst island's part of an access by a thread of S0 or S1 or by an engine (03 R113 to R115, R139). -/
def State.burstAccess (s : State) : Reach :=
  match (s.island .burst).st with
  | .lit => .ok
  | .lighting => .wait false
  | _ => .fault .islDark

/-- The GNSS island's part of an access to capture RAM (03 R116, R134). -/
def State.gnssAccess (s : State) : Reach :=
  match (s.island .gnss).st with
  | .lit => .ok
  | .lighting => .wait false
  | _ => .wait true

/-- What a thread's data read of `n` bytes meets, in R193's order of bus faults (03 R109, R111, R113 to R116, R140; 07 R291, R305, R314,
R315, R328; 02 R76). An execute-only unit that has more than one bit in error is XO_READ: it is not read (DEDUCED, log 136). `burst` is whether the thread is one of B0's, whose own RAM is at hand. -/
def State.readCheck (s : State) (burst : Bool) (a n : Nat) : Reach :=
  match s.region a with
  | none => .fault .nomap
  | some .rom => .ok
  | some .setup => if n = 4 then .ok else .fault .width
  | some .cal => if n = 4 then .ok else .fault .width
  | some .sram => if s.mem.parityBad a then .fault .mempar else .ok
  | some .vigil => if s.mem.parityBad a then .fault .mempar else .ok
  | some .burst =>
    match (if burst then Reach.ok else s.burstAccess) with
    | .ok => if s.mem.parityBad a then .fault .mempar else .ok
    | x => x
  | some .gnss => s.gnssAccess
  | some .flashA | some .flashB =>
    if !s.flag F.PWR_STAT_FLRDY then .wait false
    else if s.sectorMode (sectorOf a) = 3 then .fault .xoRead
    else if s.bankBusy (bankOf a) then .fault .bankBusy
    else if s.bankHeld (bankOf a) then .wait false
    else if s.ecc a = .failed then .fault .mempar else .ok

/-- What a thread's store of `n` bytes meets (03 R109 to R111, R113 to R116, R705). -/
def State.writeCheck (s : State) (burst : Bool) (a n : Nat) : Reach :=
  match s.region a with
  | none => .fault .nomap
  | some .rom => .fault .nowrite
  | some .flashA | some .flashB => .fault .nowrite
  | some .setup => if n = 4 then .ok else .fault .width
  | some .cal => if n = 4 then .ok else .fault .width
  | some .sram => if n < 4 && s.mem.parityBad a then .fault .mempar else .ok
  | some .vigil => if n < 4 && s.mem.parityBad a then .fault .mempar else .ok
  | some .burst =>
    match (if burst then Reach.ok else s.burstAccess) with
    | .ok => if n < 4 && s.mem.parityBad a then .fault .mempar else .ok
    | x => x
  | some .gnss => s.gnssAccess

/-- What an instruction fetch meets (04 R193 item 1, R196; 03 R109, R140; 07 R305). -/
def State.fetchCheck (s : State) (burst : Bool) (a : Nat) : Reach :=
  match s.region a with
  | none => .fault .nomap
  | some .rom => .ok
  | some .setup | some .cal | some .gnss => .fault .noexec
  | some .sram | some .vigil => if s.mem.parityBad a then .fault .mempar else .ok
  | some .burst =>
    match (if burst then Reach.ok else s.burstAccess) with
    | .ok => if s.mem.parityBad a then .fault .mempar else .ok
    | x => x
  | some .flashA | some .flashB =>
    if !s.flag F.PWR_STAT_FLRDY then .wait false
    else if s.bankBusy (bankOf a) then .fault .bankBusy
    else if s.bankHeld (bankOf a) then .wait false
    else if s.ecc a = .failed then .fault .mempar else .ok

end Sys2Proof.Machine
end

