-- ==== Sys2Proof/Machine/NonceMap.lean ====
section
/-! DEFINITION. The nonce area as flash holds it (07 R292, R318; 12 R520, R527, R545): erased units, sectors and their headers, the head
sector, the unit that the next record goes to. -/

namespace Sys2Proof.Machine

/-- The address of a 16-byte unit. -/
def unitAddr (u : Nat) : Nat := 0x08000000 + u * 16

/-- Whether a unit counts as erased (07 R292): never programmed since its erase, at most one bit reading 0. An indeterminate one, which may read as
any data (07 R329), does not (DESIGN CHOICE, log 138). -/
def State.unitErased (s : State) (u : Nat) : Bool :=
  !nsMem s.flash.programmed u && !nsMem s.flash.cut u && !nsMem s.flash.twoBit u

/-- Whether there is a nonce area; one of COUNT = 1 counts as none (07 R318; 12 R545). -/
def State.nonceArea (s : State) : Bool := 2 ≤ s.fld F.FLC_NONCE_COUNT

/-- The sectors of the nonce area, ascending. -/
def State.nonceSectors (s : State) : List Nat :=
  if s.nonceArea then (List.range (s.fld F.FLC_NONCE_COUNT)).map (fun i => s.fld F.FLC_NONCE_START + i) else []

/-- Whether no unit of a sector is other than erased (07 R292). -/
def State.sectorErased (s : State) (sec : Nat) : Bool :=
  !(s.flash.programmed ++ s.flash.cut ++ s.flash.twoBit).any (fun p => p.1 / 512 == sec)

/-- Word `k` of a flash unit as a read gives it. -/
def State.unitWord (s : State) (u k : Nat) : Word := (s.flashWord (unitAddr u + 4 * k)).data

/-- GEN of a sector with a valid header (12 R520). -/
def State.sectorGen (s : State) (sec : Nat) : Option Word :=
  let u := sec * 512
  if s.ecc (unitAddr u) = .failed then none
  else if s.unitWord u 0 == 0xA8#32 && s.unitWord u 2 == ~~~(s.unitWord u 1) && s.unitWord u 3 == 0 then some (s.unitWord u 1)
  else none

/-- The sectors with a valid header, with their GEN. -/
def State.genSectors (s : State) : List (Nat × Word) :=
  s.nonceSectors.filterMap (fun x => (s.sectorGen x).map (fun g => (x, g)))

/-- Of two sectors the one with the later GEN. -/
def laterSector (a : Option (Nat × Word)) (b : Nat × Word) : Option (Nat × Word) :=
  match a with
  | none => some b
  | some x => some (if (b.2 - x.2).toNat < 2 ^ 31 then b else x)

/-- The head sector: the valid one with the latest GEN. -/
def State.headSector (s : State) : Option (Nat × Word) := s.genSectors.foldl laterSector none

/-- The unit of a sector in use to which the next record goes: the one after the last that is not erased. -/
def State.appendUnit (s : State) (sec : Nat) : Option Nat :=
  let top := (List.range 512).foldl (fun acc i => if s.unitErased (sec * 512 + i) then acc else i + 1) 1
  if top < 512 then some (sec * 512 + top) else none

/-- The erased sectors in circular order after a sector (12 R527). -/
def State.erasedAfter (s : State) (sec : Nat) : List Nat :=
  let st := s.fld F.FLC_NONCE_START
  let n := s.fld F.FLC_NONCE_COUNT
  ((List.range n).map (fun i => st + (sec - st + 1 + i) % n)).filter s.sectorErased

/-- The erased sectors of which the first becomes the next head: in circular order after the head, or ascending in an area that has none
(12 R527). -/
def State.nextSectors (s : State) : List Nat :=
  match s.headSector with
  | none => s.nonceSectors.filter s.sectorErased
  | some h => s.erasedAfter h.1

/-- The unit on which the controller works while it has a reservation in hand: the record's own, or where the head is full the header's of the
next one (12 R527; log 35). -/
def State.resvUnit (s : State) : Option Nat :=
  if !s.flash.resvOn then none
  else
    match s.headSector.bind (fun h => s.appendUnit h.1) with
    | some u => some u
    | none => s.nextSectors.head?.map (· * 512)

end Sys2Proof.Machine
end

