-- ==== Sys2Proof/Machine/Events.lean ====
section
/-! DEFINITION. The sequencer (01 R28, R29), event records and event rings (05 R207 to R210, R712, R715), routed sources (05 R202,
R223) and system records (05 Table 5.4). -/

namespace Sys2Proof.Machine

/-- The next sequence number; LDG_EPOCH counts a wrap from 0xFFFF_FFFF to 0 (01 R28, R29, Table 1.10). -/
def State.seqNext (s : State) : Word := s.reg F.LDG_SEQ_NEXT.addr

/-- The state after a number is issued. -/
def State.seqIssued (s : State) : State :=
  let n := s.fld F.LDG_SEQ_NEXT
  let s1 := s.setFld F.LDG_SEQ_NEXT (n + 1)
  if n = 2 ^ 32 - 1 then s1.setFld F.LDG_EPOCH_WRAPS (s1.fld F.LDG_EPOCH_WRAPS + 1) else s1

/-- A power of two from 4 to 4,096 (06 Table 6.1). -/
def sizeOk (n : Nat) : Bool := [4, 8, 16, 32, 64, 128, 256, 512, 1024, 2048, 4096].contains n

/-- Whether `n` bytes from `a` lie wholly in system SRAM and vigil RAM. -/
def inSramVigil (a n : Nat) : Bool := 0x20000000 ≤ a && a + n ≤ 0x20110000
/-- Whether `n` bytes from `a` lie wholly in system SRAM. -/
def inSram (a n : Nat) : Bool := 0x20000000 ≤ a && a + n ≤ 0x20100000

/-- The words of an event record (05 Table 5.3). -/
def recordWords (bit code : Nat) (detail : Word) (stamp : BitVec 48) (seq : Word) : List TWord :=
  [⟨stamp.extractLsb' 0 16 ++ BitVec.ofNat 8 code ++ BitVec.ofNat 8 bit, .int⟩, ⟨seq, .seq⟩, ⟨stamp.extractLsb' 16 32, .time⟩,
    ⟨detail, .int⟩]

/-- Words written one after another, no watched word looked at. -/
def State.pokes (s : State) (a : Nat) : List TWord → State
  | [] => s
  | w :: r => State.pokes (s.poke a w) (a + 4) r

/-- Whether the values latched of a thread's event ring allow a record (05 R715). -/
def EvRing.usable (e : EvRing) : Bool := e.base % 16 == 0 && sizeOk e.size && inSramVigil e.base (e.size * 16)

/-- How many more records a thread's event ring takes now (05 R209, R715): none where what is latched allows none. A CONS word of bad parity
(log 52), or a consumer index by which more than the ring's size is unread (log 96), makes the ring full. -/
def State.evFree (s : State) (t : ThreadId) : Nat :=
  let a := s.fld (F.EVT_TRING_ADDR t.val) * 64 + 0xC
  let e := vget s.evring t
  if !e.usable || s.mem.parityBad a then 0 else e.size - (e.prod + 65536 - (s.word a).toNat % 65536) % 65536

/-- A record written to a thread's event ring, or counted in EVT_TOVF when it cannot be (05 R207, R209, R712, R715). `seq` is a number
already issued (01 R28), otherwise one is issued now. -/
def State.writeRecord (s : State) (t : ThreadId) (bit code : Nat) (detail : Word) (stamp : BitVec 48) (seq : Option Word) : State :=
  if !s.flag (F.EVT_TRING_EN t.val) then s
  else
    let hdr := s.fld (F.EVT_TRING_ADDR t.val) * 64
    let e := vget s.evring t
    if s.evFree t = 0 then s.satInc (F.EVT_TOVF_COUNT t.val)
    else
      let n := seq.getD s.seqNext
      let s1 := if seq.isSome then s else s.seqIssued
      let s2 := s1.pokes (e.base + e.prod % e.size * 16) (recordWords bit code detail stamp n)
      let p := (e.prod + 1) % 65536
      { s2.poke (hdr + 8) ⟨BitVec.ofNat 32 p, .int⟩ with evring := vset s2.evring t { e with prod := p } }

/-- The thread of a waiting event record. -/
def LateRec.thread : LateRec → Option ThreadId
  | .event t _ _ _ _ _ => some t
  | .inbound _ _ _ _ => none

/-- Whether the last record that waits for a thread's event ring will be written to it, as the ring stands (05 R209, R715). -/
def State.evWaits (s : State) (t : ThreadId) : Bool :=
  s.flag (F.EVT_TRING_EN t.val) && (s.late.filter (fun r => r.thread == some t)).length ≤ s.evFree t

/-- Whether records reach the steady island: it is lit (02 R75, R85). -/
def State.steadyUp (s : State) : Bool := s.lit .steady

/-- A record sent to a thread's event ring; while the steady island is down it waits at its span (02 R75). -/
def State.sendRecord (s : State) (t : ThreadId) (bit code : Nat) (detail : Word) (stamp : BitVec 48) (seq : Option Word) : State :=
  if s.steadyUp then s.writeRecord t bit code detail stamp seq
  else { s with late := s.late ++ [.event t bit code detail stamp seq] }

/-- The snuff hold starts anew (05 Table 5.7). -/
def State.unhold (s : State) : State := { s with power := { s.power with snuffHold := 0 } }

/-- Whether bits lie in the mask of a thread in WAIT (05 R228). -/
def Thread.awaits (x : Thread) (bits : Word) : Bool := x.st == .wait && (x.wmask &&& bits) != 0

/-- An event delivered to a thread: its PEND bits and its record. A bit of a waiting mask restarts the snuff hold (05 Table 5.7). -/
def State.deliver (s : State) (t : ThreadId) (bits : Word) (bit code : Nat) (detail : Word) (stamp : BitVec 48) (seq : Option Word) :
    State :=
  let s1 := if (s.thr t).awaits bits then s.unhold else s
  (s1.setThr t { s.thr t with pend := (s.thr t).pend ||| bits }).sendRecord t bit code detail stamp seq

/-- As `deliver`, to a thread that a routed source names: nothing comes to a DARK one (05 R202). -/
def State.deliverRouted (s : State) (t : ThreadId) (bits : Word) (bit code : Nat) (detail : Word) (stamp : BitVec 48) (seq : Option Word) :
    State :=
  if (s.thr t).st = .dark then s else s.deliver t bits bit code detail stamp seq

/-- As `deliver`, to a thread that a route mask selects: a DARK one has its record in its event ring and no PEND bit (01 R56; log 44). -/
def State.deliverSystem (s : State) (t : ThreadId) (bits : Word) (bit code : Nat) (detail : Word) (stamp : BitVec 48) (seq : Option Word) :
    State :=
  if (s.thr t).st = .dark then s.sendRecord t bit code detail stamp seq else s.deliver t bits bit code detail stamp seq

/-- The thread and bit that a source is routed to (05 R202, R223). -/
def State.route (s : State) (src : Nat) : Option (ThreadId × Nat) :=
  let t := s.fld (F.EVT_MAP_THREAD src)
  let b := s.fld (F.EVT_MAP_BIT src)
  if h : t < 10 then (if s.flag (F.EVT_MAP_EN src) && b ≤ 22 then some (⟨t, h⟩, b) else none) else none

/-- Whether a source is routed to a bit that a waiting thread's mask holds (05 R228). -/
def State.reaches (s : State) (src : Nat) : Bool :=
  match s.route src with
  | none => false
  | some (t, b) => (s.thr t).st == .wait && (s.thr t).wmask.getLsbD b

/-- The snuff hold as it is left by what arms a source: it starts anew where the source is routed to a waiting bit (05 Table 5.7). -/
def State.armedNow (s : State) (src : Nat) : State := if s.reaches src then s.unhold else s

/-- A request or a record arrives at a span of the steady island: in Dim it brings the chip back to Lit (02 R73). -/
def State.arrive (s : State) : State :=
  if s.pstate = 2 then { s with power := { s.power with arrived := true } } else s

/-- A source of Table 5.2 fires: a routed one sets its bit and writes a ROUTED record (05 R202). -/
def State.fireSource (s : State) (src : Nat) (stamp : BitVec 48) : State :=
  match s.route src with
  | none => s
  | some (t, b) =>
    let s1 := if (0x40 ≤ src ∧ src < 0x50) ∨ (0x58 ≤ src ∧ src < 0x70) then s.arrive else s
    s1.deliverRouted t (1#32 <<< b) b 0x01 (BitVec.ofNat 32 (src % 128)) stamp none

/-- A system record to each thread of a list: bit 23 and its code (05 Table 5.4). -/
def State.system (s : State) (ts : List ThreadId) (code : Nat) (detail : Word) (seq : Option Word) : State :=
  ts.foldl (fun acc t => acc.deliverSystem t (1#32 <<< 23) 23 code detail s.stamp seq) (if ts.isEmpty then s else s.arrive)

/-- A system record to the threads that a route mask selects. -/
def State.systemTo (s : State) (mask code : Nat) (detail : Word) : State := s.system (maskThreads mask) code detail none

end Sys2Proof.Machine
end

