-- ==== Sys2Proof/Machine/Ledger.lean ====
section
/-! DEFINITION. The ledger (01): accounts, postings and their checks, windows, breaches, span credits (02 R66, R67). -/

namespace Sys2Proof.Machine

/-- The account indices of Table 1.1. -/
def acctListed (i : Nat) : Bool :=
  i < 0x4E || i == 0x50 || i == 0x51 || (0x60 ≤ i && i < 0x70) || (0x80 ≤ i && i < 0xC0)

/-- Every listed account in ascending order (01 R27). -/
def acctList : List Nat := (List.range 0xC0).filter acctListed

/-- Whether an account belongs to an absent unit (03 R129, Table 3.4). -/
def State.acctAbsent (s : State) (i : Nat) : Bool :=
  ((i == 0x46 || i == 0x47) && !s.has .burst) || ((i == 0x4C || i == 0x4D) && !s.has .gnss) ||
    ((i == 0x48 || i == 0x49 || i == 0x51 || (0x60 ≤ i && i < 0x70)) && !s.has .cipher)

/-- An account's four terms; an unlisted index reads zero (01 R20). -/
def State.acct (s : State) (i : Nat) : Account := smGet (fun _ => Account.zero) s.ledger.acct i
/-- The state with an account replaced. -/
def State.setAcct (s : State) (i : Nat) (a : Account) : State :=
  { s with ledger := { s.ledger with acct := smSet (fun _ => Account.zero) s.ledger.acct i a } }
/-- An account's windows. -/
def State.win (s : State) (i : Nat) : Window := smGet (fun _ => Window.none) s.ledger.win i
/-- Whether any window is open (01 R24). -/
def Window.isOpen (w : Window) : Bool := w.span != 0 || w.slot != 0 || w.quiesce

/-- The state with an account's windows replaced; with none open nothing is left of them. -/
def State.setWin (s : State) (i : Nat) (w : Window) : State :=
  { s with ledger := { s.ledger with win := smSet (fun _ => Window.none) s.ledger.win i (if w.isOpen then w else Window.none) } }

/-- Each term is a 32-bit unsigned count (01 R48). -/
def Account.fits (a : Account) : Bool := a.g < 2 ^ 32 && a.r < 2 ^ 32 && a.h < 2 ^ 32 && a.f < 2 ^ 32

/-- The invariant and the window rule (01 R21, R24). -/
def Account.sound (a : Account) (w : Window) : Bool := a.g == a.r + a.h + a.f && (a.f == 0 || w.isOpen)

/-- The number of accounts with a window open now, saturating (LDG_STAT.OPEN). -/
def State.openCount (s : State) : Nat := min 255 (s.ledger.win.filter (fun p => p.2.isOpen)).length

/-- LDG_STAT as it reads now (01 Table 1.9). -/
def State.ldgStat (s : State) : Word :=
  fldPut (fldPut (s.reg F.LDG_STAT_BREACH.addr) F.LDG_STAT_OPEN s.openCount) F.LDG_STAT_SWEEP_BUSY
    (if s.ledger.sweep.isSome then 1 else 0)

/-- Whether breach records have been sent that will be written once the steady island is lit (01 R59; 02 R75): none will where every selected
ring is disabled, full or unusable (01 R56; 05 R209, R715). -/
def State.breachWaits (s : State) : Bool :=
  !s.steadyUp && (maskThreads (s.fld F.LDG_ROUTE_TMASK)).any s.evWaits

/-- The full reset that a breach with BRACT = 1 orders: once its records are written, at once where none waits (01 R59). -/
def State.orderReset (s : State) : State :=
  if s.breachWaits then { s with ledger := { s.ledger with resetHeld := true } }
  else { s with ledger := { s.ledger with resetDue := true } }

/-- A breach (01 R56, R57, R59): the first records cause and account, has one number issued and writes a record that carries it to every
thread of LDG_ROUTE.TMASK, and with BRACT = 1 orders a full reset. A later one only sets MULTI: it has no records of its own, and orders no
reset whatever BRACT then holds (DEDUCED, log 97). -/
def State.breach (s : State) (cause i : Nat) : State :=
  if s.flag F.LDG_STAT_BREACH then s.setBit F.LDG_STAT_MULTI
  else
    let n := s.seqNext
    let s1 := (((s.setBit F.LDG_STAT_BREACH).setFld F.LDG_STAT_CAUSE cause).setFld F.LDG_STAT_ACCT i).seqIssued
    let s2 := s1.setFld F.LDG_BRSEQ_SEQ n.toNat
    let s3 := s2.system (maskThreads (s2.fld F.LDG_ROUTE_TMASK)) 0x10 s2.ldgStat (some n)
    if s3.flag F.LDG_CTL_BRACT then s3.orderReset else s3

/-- The check of one account (01 R26, R55, Table 1.6): parity first, then the sum and the window rule. -/
def State.check (s : State) (i : Nat) : State :=
  if nsMem s.ledger.parity i then s.breach 1 i
  else if (s.acct i).sound (s.win i) then s else s.breach 3 i

/-- A defined operation posts to an account, which is then checked; one that would take a term out of range is refused whole
(01 R26, R49, R51). The result says whether the posting was made. -/
def State.post (s : State) (i : Nat) (f : Account → Option Account) : Bool × State :=
  if s.acctAbsent i then (false, s)
  else
    match (f (s.acct i)).filter Account.fits with
    | none => (false, s)
    | some a => (true, (s.setAcct i a).check i)

/-- The state after a posting, made or refused. -/
def State.posted (s : State) (i : Nat) (f : Account → Option Account) : State := (s.post i f).2

/-- R to H: `k` units taken. -/
def Account.take (k : Nat) (a : Account) : Option Account := if k ≤ a.r then some { a with r := a.r - k, h := a.h + k } else none
/-- H to R: `k` units given back. -/
def Account.give (k : Nat) (a : Account) : Option Account := if k ≤ a.h then some { a with h := a.h - k, r := a.r + k } else none
/-- R to F: a crossing requested (01 Table 1.2). -/
def Account.fly (k : Nat) (a : Account) : Option Account := if k ≤ a.r then some { a with r := a.r - k, f := a.f + k } else none
/-- F to R: a crossing acknowledged. -/
def Account.land (k : Nat) (a : Account) : Option Account := if k ≤ a.f then some { a with f := a.f - k, r := a.r + k } else none
/-- H to F: a held unit goes into a slot. -/
def Account.lift (k : Nat) (a : Account) : Option Account := if k ≤ a.h then some { a with h := a.h - k, f := a.f + k } else none
/-- F to H: a unit in a slot stays held. -/
def Account.settle (k : Nat) (a : Account) : Option Account := if k ≤ a.f then some { a with f := a.f - k, h := a.h + k } else none
/-- A grant of `k` units that are free. -/
def Account.grant (k : Nat) (a : Account) : Option Account := some { a with g := a.g + k, r := a.r + k }
/-- A block granted and held at one posting (01 Table 1.2, reserve). -/
def Account.reserve (a : Account) : Option Account := some { a with g := a.g + 1, h := a.h + 1 }
/-- Every unit withdrawn: all four terms zero. -/
def Account.withdraw (_ : Account) : Option Account := some Account.zero

/-- The islands of a span's two ends that can be dark (01, the table of spans); the vigil island and the backup domain never are. -/
def spanEnds (sp : Nat) : List Island :=
  match sp with
  | 1 => [.steady] | 2 => [.radio] | 3 => [.steady, .burst] | 4 => [.steady, .cipher] | 5 => [.steady, .radio]
  | 6 => [.steady, .gnss] | _ => []

/-- Whether both islands of a span are lit. -/
def State.spanLit (s : State) (sp : Nat) : Bool := (spanEnds sp).all (fun i => s.lit i)

/-- The spans of an island. -/
def islandSpans (i : Island) : List Nat := (List.range 7).filter (fun sp => (spanEnds sp).contains i)

/-- The two accounts of a span (01 Table 1.1). -/
def spanAccts (sp : Nat) : List Nat := [0x40 + 2 * sp, 0x41 + 2 * sp]

/-- The spans of an island whose two ends are now lit are granted G = R = 8 (02 R66). -/
def State.grantSpans (s : State) (i : Island) : State :=
  ((islandSpans i).filter (fun sp => s.spanLit sp)).foldl (fun acc sp =>
    (spanAccts sp).foldl (fun acc a => acc.posted a (fun _ => some ⟨8, 8, 0, 0⟩)) acc) s

/-- A QUIESCE window opened on an account (01 Table 1.3). -/
def State.openQuiesce (s : State) (i : Nat) : State :=
  if (s.win i).quiesce then s else s.setWin i { s.win i with quiesce := true, quiesceAt := s.now }
/-- An open QUIESCE window closed; the closing is a posting, so the account is checked (01 R26). -/
def State.closeQuiesce (s : State) (i : Nat) : State :=
  if (s.win i).quiesce then (s.setWin i { s.win i with quiesce := false, quiesceAt := 0, quiesceAged := false }).check i else s

/-- A SLOT window opened on an account. -/
def State.openSlot (s : State) (i : Nat) : State :=
  let w := s.win i
  s.setWin i { w with slot := w.slot + 1, slotAt := if w.slot = 0 then s.now else w.slotAt }
/-- A SLOT window closed, and the account checked. -/
def State.closeSlot (s : State) (i : Nat) : State :=
  let w := s.win i
  let last : Bool := w.slot == 1
  (s.setWin i { w with slot := w.slot - 1, slotAt := if last then 0 else w.slotAt, slotAged := w.slotAged && !last }).check i

/-- The span accounts of a quiescing island are withdrawn to zero and their windows close (02 R85 step 7). -/
def State.withdrawSpans (s : State) (i : Island) : State :=
  (islandSpans i).foldl (fun acc sp => (spanAccts sp).foldl (fun acc a =>
    if acc.acctAbsent a then acc else ((acc.setAcct a Account.zero).setWin a Window.none).check a) acc) s

/-- The age in ticks of the oldest open window of an account, 0 where none is open (LDG_WIN.AGE). -/
def State.winAge (s : State) (i : Nat) : Nat :=
  let w := s.win i
  let ages := (if w.span != 0 then [s.now - w.spanAt] else []) ++ (if w.slot != 0 then [s.now - w.slotAt] else []) ++
    (if w.quiesce then [s.now - w.quiesceAt] else [])
  ages.foldl max 0

/-- The ticks of one sweep period under the live settings (01 Table 1.8). -/
def State.sweepPeriod (s : State) : Nat := 128 * 2 ^ s.fld F.LDG_CTL_SWEEP

end Sys2Proof.Machine
end

