-- ==== Sys2Proof/Machine/Islands.lean ====
section
/-! DEFINITION. Lighting and the beginning of a quiesce (02 R77 to R90, R717), and when XT32M runs (02 R96, R717; 08 R354). -/

namespace Sys2Proof.Machine

/-- The island of a ring unit's engine (06 Table 6.6, UNIT); the link controller lies in the radio island (11). -/
def unitIsland (u : Nat) : Island :=
  match u with
  | 2 => .cipher | 3 => .cipher | 4 => .radio | 5 => .radio | 6 => .gnss | _ => .steady

/-- Whether a ring unit is present (03 R128, Table 3.4). -/
def State.unitHere (s : State) (u : Nat) : Bool :=
  match u with
  | 2 => s.has .cipher | 3 => s.has .cipher | 6 => s.has .gnss | 7 => s.has .csp | 8 => s.has .tag | 9 => s.has .bts | _ => true

/-- Whether an island is there on this part. -/
def State.islandHere (s : State) : Island → Bool
  | .burst => s.has .burst
  | .cipher => s.has .cipher
  | .gnss => s.has .gnss
  | _ => true

/-- Whether XT32M is meant to run (02 R96, R717; 08 R354; 10 R424). EN, REF and counters keep it running
in Dim, Lit and Blaze. -/
def State.xt32mWanted (s : State) : Bool :=
  (s.pstate ≥ 2 && (s.flag F.CLK_XT32M_EN || s.flag F.CLK_FLL_REF ||
      (indices 8).any (fun n => s.flag (F.CNT_CTL_RUN n.val) && s.fld (F.CNT_CTL_SRC n.val) == 1))) ||
    (s.island .burst).st != .dark || (s.island .radio).st != .dark || s.radio.lead

/-- XT32MOK falls when nothing needs XT32M any longer, since a stopped crystal passes its check anew (02 R79, R704). -/
def State.xt32mSettle (s : State) : State := if s.xt32mWanted then s else s.clrFld F.CLK_STAT_XT32MOK

/-- The radio island is lit for more than the sniffer from now on (02 R70). -/
def State.wakeNoted (s : State) (i : Island) : State :=
  if i = .radio ∧ s.radio.sniffLit then { s with radio := { s.radio with sniffLit := false } } else s

/-- A lighting trigger for an island: a dark one begins to light, one that quiesces is relit afterwards, a lit one counts as active
(02 R77, R83, R86, R93). -/
def State.wakeIsland (s0 : State) (i : Island) : State :=
  let s := s0.wakeNoted i
  let x := s.island i
  if !s.islandHere i then s
  else
    match x.st with
    | .dark => s.setIsland i { x with st := .lighting, since := s.now, relight := false }
    | .lighting => s
    | .lit => s.setIsland i { x with since := s.now }
    | .quiescing => s.setIsland i { x with relight := true }

/-- The island counts as active now (02 R84; 03 R117). -/
def State.touch (s : State) (i : Island) : State :=
  let x := s.island i
  if x.st = .lit then s.setIsland i { x with since := s.now } else s

/-- The rings in ON or DRAINING whose engine lies in an island. -/
def State.islandRings (s : State) (i : Island) : List RingId :=
  (indices 64).filter (fun n => s.fld (F.QUE_RSTAT_STATE n.val) != 0 && unitIsland (s.fld (F.QUE_RCFG_UNIT n.val)) == i)

/-- The accounts on which an island's quiesce opens its window: its spans' and its rings' (02 R85 step 1), an absent unit's excepted (03 R129). -/
def State.quiesceAccts (s : State) (i : Island) : List Nat :=
  ((islandSpans i).flatMap spanAccts ++ (s.islandRings i).map (·.val)).filter (fun a => !s.acctAbsent a)

/-- Steps 1 to 4 of a quiesce: the windows open, no new work is accepted, crossings and replies under way complete (02 R85). Each
command being whole, no crossing is under way but those of SPAN_REQUEST. -/
def State.beginQuiesce (s : State) (i : Island) (idle : Bool) : State :=
  let x := s.island i
  if x.st != .lit then s
  else
    (s.quiesceAccts i).foldl State.openQuiesce
      (s.setIsland i { x with st := .quiescing, drainFrom := s.now, idle := idle, wins := s.quiesceAccts i })

/-- Whether the drain of a quiescing island is over by time (02 R85 step 5). -/
def State.drainExpired (s : State) (i : Island) : Bool := s.fld F.PWR_CTL_QDRAIN ≤ s.now - (s.island i).drainFrom

end Sys2Proof.Machine
end

