-- ==== Sys2Proof/Machine/Rings.lean ====
section
/-! DEFINITION. The queue engine (06): enabling and disabling a ring, doorbells, handing a descriptor to its engine, completions, NOBUF
notices. -/

namespace Sys2Proof.Machine

/-- Codes of QUE_RSTAT.STATE. -/
abbrev ringOff : Nat := 0
abbrev ringOn : Nat := 1
abbrev ringDraining : Nat := 2

/-- QUE_RSTAT(n).STATE. -/
def State.ringState (s : State) (n : RingId) : Nat := s.fld (F.QUE_RSTAT_STATE n.val)
/-- The unit a ring serves. -/
def State.ringUnit (s : State) (n : RingId) : Nat := s.fld (F.QUE_RCFG_UNIT n.val)
/-- The channel a ring serves. -/
def State.ringChan (s : State) (n : RingId) : Nat := s.fld (F.QUE_RCFG_CHAN n.val)
/-- The address of a ring's header. -/
def State.ringHdr (s : State) (n : RingId) : Nat := s.fld (F.QUE_RHDR_ADDR n.val) * 64

/-- The channels that each unit defines (07 R294; 10; 11 R498; 12 R509, R532; 13 R555; 14 R598; 15 R630; 16 R647). -/
def chanOk (u ch : Nat) : Bool :=
  match u with
  | 1 => ch < 2 | 2 => ch < 1 | 3 => ch < 1 | 4 => ch < 2 | 5 => ch < 4 | 6 => ch < 5 | 7 => ch < 2 | 8 => ch < 2 | 9 => ch < 3
  | _ => false

/-- A ring's completions not yet consumed (06 R253). -/
def Ring.unread (r : Ring) : Nat := (r.cprod - r.ccons).toNat
/-- Descriptors posted and not yet taken. -/
def Ring.untaken (r : Ring) : Nat := (r.prod - r.cons).toNat
/-- The address of descriptor `i`. -/
def Ring.descAt (r : Ring) (i : BitVec 16) : Nat := r.base + i.toNat % r.size * 32
/-- The address of completion entry `i`. -/
def Ring.compAt (r : Ring) (i : BitVec 16) : Nat := r.cbase + i.toNat % r.size * 16

/-- An index as the Dzitik writes it in a word it owns (06 R253). -/
def idxWord (i : BitVec 16) : TWord := ⟨i.setWidth 32, .int⟩

/-- Whether two byte ranges share no byte. -/
def apart (a n b m : Nat) : Bool := a + n ≤ b || b + m ≤ a

/-- The first check that an enable fails, as the ERR code, 0 where all pass (06 R257, Table 6.6). -/
def State.enableErr (s : State) (n : RingId) : Nat :=
  let h := s.ringHdr n
  if !inSram h 64 || (indices 64).any (fun m => m ≠ n && s.ringState m != ringOff && s.ringHdr m == h) then 1
  else if [0x00, 0x04, 0x08, 0x0C, 0x10, 0x14, 0x18, 0x1C, 0x20, 0x24].any (fun o => s.mem.parityBad (h + o)) then 6
  else
    let base := (s.word h).toNat
    let size := (s.word (h + 4)).toNat
    let cbase := (s.word (h + 0x14)).toNat
    if !sizeOk size then 2
    else if base % 32 != 0 || cbase % 16 != 0 || !inSram base (size * 32) || !inSram cbase (size * 16) ||
        !apart base (size * 32) cbase (size * 16) || !apart base (size * 32) h 64 || !apart cbase (size * 16) h 64 then 3
    else if s.ringUnit n = 0 || s.ringUnit n > 9 then 4
    else if !chanOk (s.ringUnit n) (s.ringChan n) then 5 else 0

/-- Whether the engine of an inbound channel is enabled (05 Table 5.2; 07 R294). -/
def State.inboundOn (s : State) (u ch : Nat) : Bool :=
  match u, ch with
  | 1, 1 => s.flag F.FLC_SCRUB_EN
  | 5, 2 => s.flag F.MSH_CTL_RUN
  | 5, 3 => s.flag F.MSH_CTL_RUN
  | 6, 2 => s.flag F.GNS_FE_EN
  | 6, 3 => s.flag F.GNS_FE_EN
  | 6, 4 => s.flag F.GNS_FE_EN || s.flag F.GNS_PPSCTL_EN
  | 7, 0 => s.flag F.CSP_SCFG_SEN && !s.flag F.CSP_SCFG_ROLE
  | 8, 1 => (indices 4).any (fun l => s.flag (F.TAG_LCFG_EN l.val))
  | 9, 2 => s.flag F.BTS_TEN_EN
  | _, _ => false

/-- Whether a ring is armed (05 Table 5.2). -/
def State.ringArmed (s : State) (n : RingId) : Bool :=
  let u := s.fld (F.QUE_RCFG_UNIT n.val)
  s.ringState n != ringOff &&
    (1 ≤ (s.acct n.val).h + (s.acct n.val).f || (s.unitHere u && s.inboundOn u (s.fld (F.QUE_RCFG_CHAN n.val))))

/-- What arms a ring restarts the snuff hold (05 Table 5.7). -/
def State.ringArms (s : State) (n : RingId) : State := if s.ringArmed n then s.armedNow n.val else s

/-- An engine whose inbound channel was not enabled in `old` and is now arms the rings of the channel (05 Tables 5.2 and 5.7). -/
def State.chanArms (s old : State) (u ch : Nat) : State :=
  if old.inboundOn u ch || !s.inboundOn u ch then s
  else ((indices 64).filter (fun n => s.ringUnit n == u && s.ringChan n == ch)).foldl State.ringArms s

/-- The one posting by which a ring is enabled (06 R258), which arms it where its engine is an enabled inbound one. -/
def State.ringOpen (s : State) (n : RingId) : State :=
  let h := s.ringHdr n
  let size := (s.word (h + 4)).toNat
  let p : BitVec 16 := (s.word (h + 8)).setWidth 16
  let c : BitVec 16 := (s.word (h + 0x1C)).setWidth 16
  let s1 := s.setRing n ⟨(s.word h).toNat, size, (s.word (h + 0x14)).toNat, p, p, c, c, p, [], false, 0⟩
  let s2 := ((((s1.poke (h + 0xC) (idxWord p)).poke (h + 0x18) (idxWord c)).poke (h + 0x10) ⟨BitVec.ofNat 32 size, .int⟩).poke
    (h + 0x20) ⟨0, .seq⟩).poke (h + 0x24) ⟨0, .int⟩
  ((s2.posted n.val (fun _ => some ⟨size, size, 0, 0⟩)).setFld (F.QUE_RSTAT_STATE n.val) ringOn).ringArms n

/-- A write of 1 to QUE_RCFG(n).EN while STATE reads OFF (06 R257 to R259). -/
def State.ringEnable (s : State) (n : RingId) : State :=
  let e := s.enableErr n
  let s1 := s.setFld (F.QUE_RSTAT_ERR n.val) e
  if e = 0 then s1.ringOpen n else s1

/-- The eight words of a descriptor as the engine reads them. -/
def State.readDesc (s : State) (a : Nat) : Vector TWord 8 := Vector.ofFn (fun i : Fin 8 => s.mem.tword (a + 4 * i.val))

/-- The words of a completion (06 Table 6.3). -/
def compWords (status : Nat) (n : RingId) (stamp : BitVec 48) (seq result : Word) : List TWord :=
  [⟨stamp.extractLsb' 0 16 ++ (0#2 ++ BitVec.ofNat 6 n.val ++ BitVec.ofNat 8 status : BitVec 16), .int⟩, ⟨seq, .seq⟩,
    ⟨stamp.extractLsb' 16 32, .time⟩, ⟨result, .int⟩]

/-- Steps 2 and 3 of R273: the record, then CPROD. -/
def State.compRecord (s : State) (n : RingId) (status : Nat) (stamp : BitVec 48) (seq result : Word) : State :=
  let r := s.ring n
  let s0 := if unitIsland (s.ringUnit n) == .steady then s else s.arrive
  let s1 := s0.pokes (r.compAt r.cprod) (compWords status n stamp seq result)
  (s1.setRing n { r with cprod := r.cprod + 1 }).poke (s.ringHdr n + 0x18) (idxWord (r.cprod + 1))

/-- CREDIT mirrors the account's R term (06 Table 6.1). -/
def State.mirrorCredit (s : State) (n : RingId) : State :=
  s.poke (s.ringHdr n + 0x10) ⟨BitVec.ofNat 32 (s.acct n.val).r, .int⟩

/-- A completion written whole, in R273's order: the descriptor's SEQ word, the record, CPROD, the posting with CREDIT and LASTSEQ, the
event source unless SILENT. -/
def State.writeCompletion (s : State) (n : RingId) (d : Done) : State :=
  let seq := s.seqNext
  let s0 := if d.status = 2 then s.seqIssued.setBit (F.QUE_RSTAT_CUT n.val) else s.seqIssued
  let s1 := s0.poke ((s0.ring n).descAt d.idx + 4) ⟨seq, .seq⟩
  let s2 := s1.compRecord n d.status d.stamp seq d.result
  let s3 := (s2.posted n.val (Account.give 1)).mirrorCredit n
  let s4 := s3.poke (s3.ringHdr n + 0x20) ⟨seq, .seq⟩
  if d.silent then s4 else s4.fireSource n.val d.stamp

/-- A descriptor is finished: its completion waits to be written (06 R271, R272). The engine counts as active. -/
def State.finishAt (s : State) (d : Desc) (status : Nat) (result : Word) (stamp : BitVec 48) : State :=
  let r := s.ring d.ring
  let silent := (vget d.w 0).data.getLsbD 8
  let e : Done := ⟨d.idx, silent, status, result, stamp, s.made⟩
  let s1 : State := { s with made := s.made + 1 }
  (s1.setRing d.ring { r with done := r.done ++ [e] }).touch (unitIsland (s.ringUnit d.ring))

/-- As `finishAt`, stamped now. -/
def State.finish (s : State) (d : Desc) (status : Nat) (result : Word) : State := s.finishAt d status result s.stamp

/-- The completion whose turn it is on a ring, where its descriptor is finished (06 R271). -/
def State.nextDone (s : State) (n : RingId) : Option Done := (s.ring n).done.find? (fun d => d.idx == (s.ring n).next)

/-- Whether the completion whose turn it is on a ring can be written (06 R271). -/
def State.completable (s : State) (n : RingId) : Bool := (s.nextDone n).isSome

/-- The source of a unit's records, by its rank in Table 1.4: tamper notices come from the vigil island (16), the others from the island of
their engine. -/
def sourceRank (u ch : Nat) : Nat :=
  if u = 9 ∧ ch = 2 then 4
  else match unitIsland u with | .radio => 1 | .gnss => 2 | .cipher => 3 | .steady => 5 | .burst => 6

/-- The source of a ring's records. -/
def State.ringSource (s : State) (n : RingId) : Nat := sourceRank (s.ringUnit n) (s.ringChan n)

/-- The rings in ON or DRAINING whose records come from a source. -/
def State.sourceRings (s : State) (src : Nat) : List RingId :=
  (indices 64).filter (fun n => s.ringState n != 0 && s.ringSource n == src)

/-- Whether no other ring of the same source has a completion whose turn it is and whose descriptor was finished earlier: the records of one
source are numbered in the order in which it produced them (01 R34; log 98). -/
def State.inOrder (s : State) (n : RingId) : Bool :=
  (s.sourceRings (s.ringSource n)).all (fun m =>
    match s.nextDone m, s.nextDone n with
    | some e, some d => d.made ≤ e.made
    | _, _ => true)

/-- As `finish`, with a status for which no rule states RESULT: that word is a free value (log 28). -/
def State.refuse (s : State) (d : Desc) (status : Nat) : State := s.fresh.finish d status (Config.errorResult s.free)

/-- As `finish` where a rule states RESULT, as `refuse` where none does. -/
def State.finishOpt (s : State) (d : Desc) (status : Nat) : Option Nat → State
  | some r => s.finish d status (BitVec.ofNat 32 r)
  | none => s.refuse d status

/-- The key of a unit's channel in the tables of handed descriptors. -/
def chanKey (u ch : Nat) : Nat := 16 * u + ch

/-- The descriptor handed to a unit's channel. -/
def State.handedTo (s : State) (u ch : Nat) : Option Desc := (s.handed.find? (fun (p : Nat × Desc) => p.1 == chanKey u ch)).map (·.2)
/-- The state with a descriptor handed. -/
def State.hand (s : State) (u ch : Nat) (d : Desc) : State :=
  { s with handed := (s.handed.filter (fun p => p.1 != chanKey u ch)) ++ [(chanKey u ch, d)] }
/-- The state with nothing handed to a channel. -/
def State.unhand (s : State) (u ch : Nat) : State := { s with handed := s.handed.filter (fun p => p.1 != chanKey u ch) }

/-- The ring served last on a unit's channel; ring 63 before any (log 1). -/
def State.lastServed (s : State) (u ch : Nat) : Nat := ((s.rr.find? (fun (p : Nat × Nat) => p.1 == chanKey u ch)).map (·.2)).getD 63

/-- The rings in round-robin order, beginning with the ring numbered next above the one served last (07 R295, 10 R437). -/
def ringsFrom (last : Nat) : List RingId := (indices 64).map (fun i => Fin.ofNat 64 (last + 1 + i.val))

/-- The ring whose descriptor a unit's channel takes next: enabled, with a descriptor posted. -/
def State.nextRing (s : State) (u ch : Nat) : Option RingId :=
  (ringsFrom (s.lastServed u ch)).find? (fun n =>
    s.ringState n == ringOn && s.ringUnit n == u && s.ringChan n == ch && (s.ring n).untaken != 0)

/-- Whether a unit's engine may accept work: its island is lit and does not quiesce (02 R85 step 5). -/
def State.engineUp (s : State) (u : Nat) : Bool := s.on && s.unitHere u && s.lit (unitIsland u)

/-- The descriptor that a unit's channel would take next, unread parity included. -/
def State.headDesc (s : State) (u ch : Nat) : Option Desc :=
  if !s.engineUp u then none
  else (s.nextRing u ch).map (fun n => ⟨n, (s.ring n).cons, s.readDesc ((s.ring n).descAt (s.ring n).cons)⟩)

/-- The operation code of a descriptor (06 Table 6.2). -/
def Desc.op (d : Desc) : Nat := (vget d.w 0).data.toNat % 256
/-- UFLAGS. -/
def Desc.uflags (d : Desc) : Nat := (vget d.w 0).data.toNat / 512 % 128
/-- UPARAM. -/
def Desc.uparam (d : Desc) : Nat := (vget d.w 0).data.toNat / 65536
/-- BUF. -/
def Desc.buf (d : Desc) : Nat := (vget d.w 2).data.toNat
/-- LEN. -/
def Desc.len (d : Desc) : Nat := (vget d.w 3).data.toNat % 2 ^ 24
/-- Bits [31:24] of word 3, which must be zero. -/
def Desc.lenTop (d : Desc) : Nat := (vget d.w 3).data.toNat / 2 ^ 24
/-- OPERAND word 4 to 7. -/
def Desc.opd (d : Desc) (i : Fin 8) : Nat := (vget d.w i).data.toNat

/-- The next descriptor of a ring leaves the ring: CONS moves and its mirror with it (06 Table 6.1). -/
def State.popHead (s : State) (n : RingId) : State :=
  let r := s.ring n
  (s.setRing n { r with cons := r.cons + 1 }).poke (s.ringHdr n + 0xC) (idxWord (r.cons + 1))

/-- The descriptor is taken by its engine: the round robin remembers the ring, the engine is active. -/
def State.taken (s : State) (u ch : Nat) (d : Desc) : State :=
  let s1 := s.popHead d.ring
  let s2 : State := { s1 with rr := (s1.rr.filter (fun p => p.1 != chanKey u ch)) ++ [(chanKey u ch, d.ring.val)] }
  s2.touch (unitIsland u)

/-- Whether a descriptor word of an entry fails its parity check (06 R284). -/
def State.descBad (s : State) (d : Desc) : Bool :=
  (List.range 8).any (fun i => s.mem.parityBad ((s.ring d.ring).descAt d.idx + 4 * i))

/-- The unit of a radio path (03 Table 3.4). -/
def pathUnit (p : Nat) : PartUnit := if p = 0 then .sub else .ghz

/-- BAND of a radio descriptor (10 R438). -/
def Desc.band (d : Desc) : Nat := d.uparam % 2

/-- The bytes of flash that a flash descriptor names (07 Table 7.1). -/
def Desc.flashSize (d : Desc) : Nat := if d.op = 2 then d.opd 5 * 0x2000 else d.len

/-- Whether the range of a flash descriptor names bank B (03 Table 3.4; 07 R302). -/
def Desc.namesBankB (d : Desc) : Bool :=
  (d.op == 1 || d.op == 2 || d.op == 3) && d.opd 4 < 0x08400000 && 0x08200000 < d.opd 4 + max 1 d.flashSize

/-- Whether a descriptor is for an absent unit or names one (03 R128, Table 3.4): a radio path, or flash bank B. -/
def State.namesAbsent (s : State) (d : Desc) : Bool :=
  let u := s.ringUnit d.ring
  !s.unitHere u || (u == 4 && !s.has (pathUnit d.band)) || (u == 1 && s.ringChan d.ring == 0 && !s.has .bankB && d.namesBankB)

/-- The statuses of Table 6.4. -/
abbrev stOk : Nat := 0x00
abbrev stAbsent : Nat := 0x01
abbrev stCutoff : Nat := 0x02
abbrev stAddrErr : Nat := 0x03
abbrev stBadOp : Nat := 0x04
abbrev stDtag : Nat := 0x05
abbrev stXoDenied : Nat := 0x06
abbrev stNoBuf : Nat := 0x07
abbrev stFlushed : Nat := 0x08
abbrev stMemPar : Nat := 0x09
abbrev stLen : Nat := 0x0A

/-- Where TAGCHK asks for it, a BUF that is not tagged ADDR with LEN ≠ 0 (06 R269). -/
def State.dtagBad (s : State) (d : Desc) : Bool :=
  s.flag (F.QUE_RCFG_TAGCHK d.ring.val) && d.len != 0 && (vget d.w 2).tag != .addr

/-- A unit's channel takes a descriptor, where one is given. A descriptor with bad parity completes MEMPAR (06 R284); otherwise `run` does
the work on the state in which the descriptor has been taken. -/
def State.takeDesc (s : State) (u ch : Nat) (o : Option Desc) (run : State → Desc → State) : State :=
  match o with
  | none => s
  | some d =>
    let s1 := s.taken u ch d
    if s.descBad d then s1.refuse d stMemPar else run s1 d

/-- The common part of a command by which a unit's channel takes a descriptor: nothing happens unless one is at hand that answers to
`mine` (an operation code of the command, or one that no command of the channel names), or whose words cannot be read (06 R284). -/
def State.takeWith (s : State) (u ch : Nat) (mine : Desc → Bool) (run : State → Desc → State) : State :=
  s.takeDesc u ch ((s.headDesc u ch).filter (fun d => s.descBad d || mine d)) run

/-- A thread's or an engine's view of the burst island while an access of its own waits that was issued as the island was being lit: the
access waits until the island is lit, whatever has become of it meanwhile (03 R115, R135, R139). -/
def State.heldView (s : State) (held : Bool) : State :=
  if !held then s
  else
    let x := s.island .burst
    match x.st with
    | .quiescing => s.setIsland .burst { x with st := .lit }
    | .dark => s.setIsland .burst { x with st := .lighting }
    | _ => s

/-- What a thread's read of a flash bank meets that is busy by now but was free as the access was issued: it waits (07 R307). -/
def Reach.asIssued (held : Bool) (r : Reach) : Reach := if held && r == .fault .bankBusy then .wait false else r

/-- What a thread's data read meets, as the access was issued (03 R115, R135; 07 R307). -/
def State.thrRead (s : State) (held : Held) (burst : Bool) (a n : Nat) : Reach :=
  ((s.heldView held.span).readCheck burst a n).asIssued held.bank

/-- What a thread's store meets, as the access was issued. -/
def State.thrWrite (s : State) (held : Held) (burst : Bool) (a n : Nat) : Reach := (s.heldView held.span).writeCheck burst a n

/-- What a thread's fetch meets, as the access was issued. -/
def State.thrFetch (s : State) (held : Held) (burst : Bool) (a : Nat) : Reach :=
  ((s.heldView held.span).fetchCheck burst a).asIssued held.bank

/-- The state as the accesses of a unit's channel meet it. -/
def State.engView (s : State) (u ch : Nat) : State := s.heldView (s.issued.contains (chanKey u ch))

/-- An access of a unit's channel waits: it is held as issued where the burst island is being lit (03 R135, R139). -/
def State.holdAccess (s : State) (u ch : Nat) : State :=
  if (s.island .burst).st = .lighting ∧ !s.issued.contains (chanKey u ch) then { s with issued := s.issued ++ [chanKey u ch] } else s

/-- No access of a unit's channel waits any more. -/
def State.dropAccess (s : State) (u ch : Nat) : State := { s with issued := s.issued.filter (fun k => k != chanKey u ch) }

/-- Untaken descriptors complete FLUSHED in posting order (06 R277), with RESULTs that no rule states (log 28). -/
def State.flushRing (s : State) (n : RingId) : State :=
  let r := s.ring n
  let more := (List.range r.untaken).map (fun i =>
    let idx := r.cons + BitVec.ofNat 16 i
    (⟨idx, (s.word (r.descAt idx)).getLsbD 8, stFlushed, Config.errorResult (s.free + i), s.stamp, s.made + i⟩ : Done))
  let s1 : State := { s with free := s.free + r.untaken, made := s.made + r.untaken }
  s1.setRing n { r with cons := r.prod, done := r.done ++ more }

/-- A write of 0 to QUE_RCFG(n).EN while STATE reads ON (06 R277). -/
def State.ringDisable (s : State) (n : RingId) : State :=
  if s.ringState n = ringOn then
    ((s.setFld (F.QUE_RSTAT_STATE n.val) ringDraining).flushRing n).dropAccess (s.ringUnit n) (s.ringChan n)
  else s

/-- A draining ring with H = F = 0 closes: its account is withdrawn, its comparator disarmed, STATE reads OFF (06 R277). -/
def State.ringDrained (s : State) (n : RingId) : State :=
  let a := s.acct n.val
  if s.ringState n = ringDraining ∧ a.h = 0 ∧ a.f = 0 then
    ((s.posted n.val Account.withdraw).setRing n Ring.off).setFld (F.QUE_RSTAT_STATE n.val) ringOff
  else s

/-- Whether a Dzitik-read header word of a ring fails its parity check (06 R283). -/
def State.hdrBad (s : State) (n : RingId) : Bool :=
  [0x00, 0x04, 0x08, 0x0C, 0x10, 0x14, 0x18, 0x1C, 0x20, 0x24].any (fun o => s.mem.parityBad (s.ringHdr n + o))

/-- Whether the entry that the next completion goes to fails its parity check (06 R283). -/
def State.compBad (s : State) (n : RingId) : Bool :=
  let r := s.ring n
  (List.range 4).any (fun i => s.mem.parityBad (r.compAt r.cprod + 4 * i))

/-- The queue engine looks at a ring's header before it writes to the ring: a word of bad parity disables the ring with ERR 6 (06 R283). -/
def State.hdrChecked (s : State) (n : RingId) : State :=
  if s.hdrBad n then (s.setFld (F.QUE_RSTAT_ERR n.val) 6).ringDisable n else s

/-- The completion area of a ring fails parity: the ring is disabled with ERR 7 (06 R283). -/
def State.areaBad (s : State) (n : RingId) : State := (s.setFld (F.QUE_RSTAT_ERR n.val) 7).ringDisable n

/-- The completion of the descriptor whose turn it is on a ring, where it is finished (06 R271, R273). A header word of bad parity
disables the ring with ERR 6; a completion area of bad parity leaves the ledger's part only, with ERR 7 (06 R283). That ERR 7 arises with a
sound header too, and that the entry to be written is the part of the area that is judged, is DEDUCED (log 99). -/
def State.completeNext (s : State) (n : RingId) : State :=
  match s.nextDone n with
  | none => s
  | some d =>
    let s0 := s.hdrChecked n
    let r0 := s0.ring n
    let s1 := s0.setRing n { r0 with done := r0.done.filter (fun x => x.idx != d.idx), next := r0.next + 1 }
    if s.compBad n then (s1.areaBad n).posted n.val (Account.give 1)
    else s1.writeCompletion n d

/-! ### What follows a completion in its unit -/

/-- The bank of the nonce area (07 R318). -/
def State.nonceBank (s : State) : Nat := s.fld F.FLC_NONCE_START / 256

/-- The bank of an operation. -/
def FlashOp.bank (o : FlashOp) : Nat :=
  match o.kind with
  | .erase => o.first / 256
  | _ => o.first / 131072

/-- Whether a bank is busy: with an operation that is not suspended, with one that is over and whose completion is still to be written, or
with a reservation (07 R304, R320, R321). -/
def State.bankWorks (s : State) (bank : Nat) : Bool :=
  (match s.flash.op with | none => false | some o => o.bank == bank && !s.flag F.FLC_STAT_SUSP) ||
    (match s.flash.ended with | none => false | some e => e.2.2 == bank) || (s.flash.resvOn && s.nonceBank == bank)

/-- BUSYA and BUSYB as the work in hand makes them. -/
def State.busyFix (s : State) : State :=
  (s.setFld F.FLC_STAT_BUSYA (if s.bankWorks 0 then 1 else 0)).setFld F.FLC_STAT_BUSYB (if s.bankWorks 1 then 1 else 0)

/-- What follows the completion of a ring's entry `i` (07 R304): after that of the operation that ended, its bank is free. -/
def State.flashCompleted (s : State) (n : RingId) (i : BitVec 16) : State :=
  match s.flash.ended with
  | none => s
  | some e => if e.1 = n ∧ e.2.1 = i then ({ s with flash := { s.flash with ended := none } }).busyFix else s

/-- The lock is free and account 0x51 posts H to R (12 R506, R508). -/
def State.freeLock (s : State) : State :=
  (({ s with cip := { s.cip with freeAfter := false } }).posted 0x51 (Account.give 1)).clrFld F.CIP_LOCK_HELD

/-- What follows the completion of a cipher ring's entry `i` (12 Table 12.6): after that of the operation last done the engine has nothing in
hand, and a lock released meanwhile is free. -/
def State.cipCompleted (s : State) (n : RingId) (i : BitVec 16) : State :=
  match s.cip.last with
  | none => s
  | some d =>
    if d.ring = n ∧ d.idx = i then
      let s1 : State := { s with cip := { s.cip with last := none } }
      if s1.cip.freeAfter && s1.cip.waiting.isNone then s1.freeLock else s1
    else s

/-- One completion, with what follows it in the flash controller and in the cipher engine (06 R273; 07 R304; 12 Table 12.6); its island counts
as active (02 R84). -/
def State.completed (s : State) (n : RingId) : State :=
  if s.completable n then
    let i := (s.ring n).next
    (((s.completeNext n).flashCompleted n i).cipCompleted n i).touch (unitIsland (s.ringUnit n))
  else s

/-- The ring of a list whose completion comes next in the order in which their source has produced them (01 R34). -/
def State.ringTurn (s : State) (l : List RingId) : Option RingId := l.find? (fun n => s.completable n && s.inOrder n)

/-- The completions of some rings, in the order in which their sources produced them, up to a number. -/
def State.completeAll (s : State) (l : List RingId) : Nat → State
  | 0 => s
  | k + 1 =>
    match s.ringTurn l with
    | none => s
    | some n => State.completeAll (s.completed n) l k

/-- Whether the queue engine runs: the steady island is lit or quiesces (06; 02 Table 2.2). -/
def State.queueUp (s : State) : Bool := s.on && (s.lit .steady || (s.island .steady).st == .quiescing)

/-- The completions that a source has finished are written, before a record that it produces after them (01 R34). -/
def State.settleSource (s : State) (src : Nat) : State :=
  if s.queueUp then
    let l := s.sourceRings src
    s.completeAll l ((l.map (fun n => (s.ring n).done.length)).foldl (· + ·) 0)
  else s

/-- The descriptor that a ring's engine would take next from it, unread parity included. -/
def State.ringHead (s : State) (n : RingId) : Option Desc :=
  if (s.ring n).untaken = 0 then none else some ⟨n, (s.ring n).cons, s.readDesc ((s.ring n).descAt (s.ring n).cons)⟩

/-- The descriptors at the head of a ring that name what is absent leave it and complete ABSENT, up to a number: the queue engine does this
itself, at the doorbell, and lights no island (03 R128); on the ring of an absent unit it looks at no word of them. One that follows a
descriptor of a unit that is there completes ABSENT when its engine comes to it (log 100). -/
def State.absentPass (s : State) (n : RingId) : Nat → State
  | 0 => s
  | k + 1 =>
    match s.ringHead n with
    | none => s
    | some d =>
      if s.unitHere (s.ringUnit n) && (s.descBad d || !s.namesAbsent d) then s
      else State.absentPass (((s.popHead n).refuse d stAbsent).settleSource (s.ringSource n)) n k

/-- The available credit of a ring (06 R261). -/
def State.credit (s : State) (n : RingId) : Nat := (s.acct n.val).r - (s.ring n).unread

/-- An overpost (06 R263): OVP, QUE_OVP; the store is discarded by the caller. -/
def State.overpost (s : State) (n : RingId) : State :=
  ((s.setBit (F.QUE_RSTAT_OVP n.val)).satInc F.QUE_OVP_COUNT).setFld F.QUE_OVP_RING n.val

/-- A word store to PROD of an enabled ring (06 R260, R262 to R264, R282, Table 6.5): whether it lands, is a doorbell or an overpost. An
accepted doorbell arms the ring, which restarts a snuff hold (05 Table 5.7), and lights its island where a descriptor waits there for an
engine (02 R83; 03 R128). -/
def State.doorbell (s : State) (n : RingId) (w : TWord) : State :=
  let r := s.ring n
  let p : BitVec 16 := w.data.setWidth 16
  let k := (p - r.prod).toNat
  let a := s.ringHdr n + 8
  if s.ringState n != ringOn then s.overpost n
  else if k = 0 then s.poke a w
  else if k ≤ s.credit n then
    let s1 := ((s.poke a w).posted n.val (Account.take k)).mirrorCredit n
    let s1 := s1.armedNow n.val
    let s2 := (s1.setRing n { s1.ring n with prod := p, noticed := false }).absentPass n r.size
    if (s2.ring n).untaken = 0 then s2 else s2.wakeIsland (unitIsland (s.ringUnit n))
  else s.overpost n

/-- A word store to CCONS of an enabled ring (06 R281). -/
def State.storeCcons (s : State) (n : RingId) (w : TWord) : State :=
  let r := s.ring n
  let c : BitVec 16 := w.data.setWidth 16
  if (r.cprod - c).toNat > r.unread then s.setBit (F.QUE_RSTAT_CERR n.val)
  else (s.poke (s.ringHdr n + 0x1C) w).setRing n { r with ccons := c }

/-- A NOBUF notice on ring `n` for a record of a given origin stamp, or NOTICE incremented where the completion ring has no free entry
(06 R276). NOTICE is the engine's own count (06 R255). Once a notice has been written, nothing more is counted until the next accepted
doorbell (DEDUCED, log 101). The checks of R283 apply to what is written. -/
def State.notice (s : State) (n : RingId) (stamp : BitVec 48) : State :=
  let r := s.ring n
  if r.noticed then s
  else
    if (s.acct n.val).h + r.unread + 1 ≤ r.size then
      let s0 := (s.settleSource (s.ringSource n)).hdrChecked n
      if s0.compBad n then s0.areaBad n
      else
        let seq := s0.seqNext
        let s1 := (s0.seqIssued.compRecord n stNoBuf stamp seq (Config.noticeResult s0.free)).fresh
        let s2 := s1.poke (s.ringHdr n + 0x20) ⟨seq, .seq⟩
        (s2.setRing n { s2.ring n with noticed := true }).fireSource n.val stamp
    else
      let s0 := s.hdrChecked n
      let c : BitVec 16 := if r.notices = 0xFFFF then r.notices else r.notices + 1
      (s0.setRing n { s0.ring n with notices := c }).poke (s.ringHdr n + 0x24) (idxWord c)

/-- The ring to which a record with no handed descriptor belongs: the next in round-robin order among the enabled rings of the
channel (DEDUCED, log 13). -/
def State.inboundRing (s : State) (u ch : Nat) : Option RingId :=
  (ringsFrom (s.lastServed u ch)).find? (fun n => s.ringState n == ringOn && s.ringUnit n == u && s.ringChan n == ch)

/-- A record of a given origin stamp finds no handed descriptor on an inbound channel (06 R275, R276). -/
def State.noBufAt (s : State) (u ch : Nat) (stamp : BitVec 48) : State :=
  match s.inboundRing u ch with
  | none => s
  | some n => s.notice n stamp

/-- As `noBufAt`, of a record that originates now. -/
def State.noBuf (s : State) (u ch : Nat) : State := s.noBufAt u ch s.stamp

/-- The descriptor handed to an inbound channel completes, with what it carries and an origin stamp. -/
def State.finishHandedAt (s : State) (u ch : Nat) (status : Nat) (result : Word) (stamp : BitVec 48) : State :=
  match s.handedTo u ch with
  | none => s
  | some d => (s.unhand u ch).finishAt d status result stamp

/-- As `finishHandedAt`, stamped now. -/
def State.finishHanded (s : State) (u ch : Nat) (status : Nat) (result : Word) : State := s.finishHandedAt u ch status result s.stamp

/-- The operation code of the descriptors of an inbound channel that supply no buffer but only a slot for a record (11 Table 11.9; 13 R555, Table
13.11; 16 R655). -/
def slotOp (u ch : Nat) : Option Nat :=
  match u, ch with
  | 5, 2 => some 0x10 | 5, 3 => some 0x11 | 6, 4 => some 0x12 | 9, 2 => some 0x10 | _, _ => none

/-- Whether such a descriptor holds anything but its operation code. -/
def Desc.slotBad (d : Desc) (op : Nat) : Bool :=
  d.op != op || d.uflags != 0 || d.uparam != 0 || d.lenTop != 0 || d.buf != 0 || d.len != 0 || d.opd 4 != 0 || d.opd 5 != 0 ||
    d.opd 6 != 0 || d.opd 7 != 0

/-- Such a channel takes a descriptor when it holds none: it is handed, or refused. -/
def State.slotTake (s : State) (u ch : Nat) : State :=
  match slotOp u ch with
  | none => s
  | some op =>
    if (s.handedTo u ch).isSome then s
    else s.takeWith u ch (fun _ => true) (fun t d => if d.slotBad op then t.refuse d stBadOp else t.hand u ch d)

/-- The descriptors posted on a channel. -/
def State.waiting (s : State) (u ch : Nat) : Nat :=
  ((indices 64).map (fun n => if s.ringUnit n == u && s.ringChan n == ch then (s.ring n).untaken else 0)).foldl (· + ·) 0

/-- A record that comes to such a channel finds the next posted descriptor handed where there is one, up to a number: the engine of an inbound channel
takes as many as are posted (13 R555). -/
def State.slotFill (s : State) (u ch : Nat) : Nat → State
  | 0 => s
  | k + 1 => if (s.handedTo u ch).isSome || (s.headDesc u ch).isNone then s else State.slotFill (s.slotTake u ch) u ch k

/-- As `slotFill`, through all that is posted. -/
def State.slotReadied (s : State) (u ch : Nat) : State := s.slotFill u ch (s.waiting u ch)

/-- A record reaches the steady island for an inbound channel: the handed descriptor completes OK with it, or it is dropped with a NOBUF
notice (06 R275, R276). A completion of the vigil island's is written at once, before any other record of that island (01 R34). -/
def State.inboundAt (s0 : State) (u ch : Nat) (result : Word) (stamp : BitVec 48) : State :=
  let s := s0.slotReadied u ch
  if (s.handedTo u ch).isSome then
    let s1 := s.finishHandedAt u ch stOk result stamp
    if sourceRank u ch = 4 then s1.settleSource 4 else s1
  else s.noBufAt u ch stamp

/-- A record that carries no more than its RESULT originates for an inbound channel: while the steady island is down it waits at its span
with the stamp of its origin (01 R28, R30; 02 R75). -/
def State.inbound (s : State) (u ch : Nat) (result : Word) : State :=
  if s.steadyUp then s.inboundAt u ch result s.stamp else { s with late := s.late ++ [.inbound u ch result s.stamp] }

/-- As `fireSource`, of a source of the steady island: the completions that its engines have finished before are written first (01 R34). -/
def State.fireSteady (s : State) (src : Nat) : State := (s.settleSource 5).fireSource src s.stamp

/-- Two sources' records as they are accepted: a record of each at a time, since a span carries one per handshake, the first source's before the
second's (01 R33; log 98). -/
def inTurn : List LateRec → List LateRec → List LateRec
  | a :: l, b :: m => a :: b :: inTurn l m
  | [], m => m
  | l, [] => l

/-- Whether a waiting record's source is the radio island, rank 1 of Table 1.4; that of the others is the vigil island, rank 4. -/
def LateRec.ofRadio : LateRec → Bool
  | .event _ _ _ _ _ _ => false
  | .inbound u ch _ _ => sourceRank u ch == 1

/-- Waiting records cross to the steady island, each source's oldest first (01 R28, R33, R34; 02 R75). A full reset that waited for the breach
records among them is then due (01 R59). -/
def State.flushLate (s : State) : State :=
  let s1 := (inTurn (s.late.filter LateRec.ofRadio) (s.late.filter (fun r => !r.ofRadio))).foldl (fun acc r =>
    match r with
    | .event t bit code detail stamp seq => acc.writeRecord t bit code detail stamp seq
    | .inbound u ch result stamp => acc.inboundAt u ch result stamp) { s with late := [] }
  if s1.ledger.resetHeld then { s1 with ledger := { s1.ledger with resetDue := true, resetHeld := false } } else s1

end Sys2Proof.Machine
end

