-- ==== Sys2Proof/Machine/Ops.lean ====
section
/-! DEFINITION. The named operations that units share: stores that meet the watched words (06 R256, R260 to R264, R280, R281, R287),
engine buffers (03 R139), the full reset (02 R97, R98, R716), and the end of a command that may have ordered one (01 R59). -/

namespace Sys2Proof.Machine

/-- The header words that a comparator watches (06 R258). -/
inductive Watched where
  | prod | ccons | credit
  deriving DecidableEq, Repr

/-- The watched word of an enabled ring at a word address. -/
def State.watchedOf (s : State) (n : RingId) (a : Nat) : Option Watched :=
  if s.ringState n = ringOff then none
  else
    let h := s.ringHdr n
    if a = h + 8 then some .prod else if a = h + 0x1C then some .ccons else if a = h + 0x10 then some .credit else none

/-- The ring and the watched word at a word address, if any. -/
def State.watched (s : State) (a : Nat) : Option (RingId × Watched) :=
  if inSram a 4 then (indices 64).findSome? (fun n => (s.watchedOf n a).map (fun w => (n, w))) else none

/-- A word store that no check refused, by any requester: a watched word does what 06 says, capture RAM keeps no tag (03 R112), every
other memory takes data and tag. -/
def State.storeWord (s : State) (a : Nat) (w : TWord) : State :=
  match s.watched a with
  | some (n, .prod) => s.doorbell n w
  | some (n, .ccons) => s.storeCcons n w
  | some (n, .credit) => s.breach 2 n.val
  | none => if Region.gnss.holds a then ({ s with mem := s.mem.setData a w.data }).touch .gnss else s.poke a w

/-- A byte or halfword store that no check refused (03 R112, R190; 06 R256, R280): the word is retagged RAW. -/
def State.storePart (s : State) (a : Nat) (l : List Byte) : State :=
  match s.watched (wordAddr a) with
  | some (n, .credit) => s.breach 2 n.val
  | some (n, _) => s.setBit (F.QUE_RSTAT_OVP n.val)
  | none =>
    if Region.gnss.holds a then ({ s with mem := s.mem.setBytes a l }).touch .gnss
    else { s with mem := (s.mem.setBytes a l).setTag a .raw }

/-- Words stored one after another. -/
def State.storeWords (s : State) (a : Nat) : List TWord → State
  | [] => s
  | w :: r => State.storeWords (s.storeWord a w) (a + 4) r

/-- Bytes stored one at a time. -/
def State.storeEach (s : State) (a : Nat) : List Byte → State
  | [] => s
  | b :: r => State.storeEach (s.storePart a [b]) (a + 1) r

/-- Bytes stored from a word boundary: whole words with a tag, what is left over as byte stores. -/
def State.storeAligned (s : State) (tag : Tag) (a : Nat) : List Byte → State
  | b0 :: b1 :: b2 :: b3 :: r => State.storeAligned (s.storeWord a ⟨bytesWord [b0, b1, b2, b3], tag⟩) tag (a + 4) r
  | l => s.storeEach a l

/-- Bytes stored in ascending order: whole words with a tag, the rest as byte stores. -/
def State.storeBytes (s : State) (tag : Tag) (a : Nat) (l : List Byte) : State :=
  let k := (4 - a % 4) % 4
  (s.storeEach a (l.take k)).storeAligned tag (a + k) (l.drop k)

/-- What an engine meets over a buffer: it goes ahead, it completes with a status, or it waits (03 R139; 07 R306, R314). -/
inductive Eng where
  | ok | bad (status : Nat) | wait (light : Bool)
  deriving DecidableEq, Repr

/-- The status of an engine's read that went wrong, if it did. -/
def Eng.badStatus : Eng → Option Nat
  | .bad x => some x
  | _ => none

/-- Whether an engine access waits. -/
def Eng.waits : Eng → Bool
  | .wait _ => true
  | _ => false

/-- The end of the range that holds an address. -/
def Region.stop (r : Region) : Nat := r.span.1 + r.span.2

/-- Whether some word of a buffer fails its parity check. -/
def State.bufBad (s : State) (a n : Nat) : Bool := s.mem.bad.any (fun p => wordAddr a ≤ p.1 && p.1 < a + n)

/-- Whether some word that a write of these bytes only partly covers fails its parity check (03 R705). -/
def State.edgeBad (s : State) (a n : Nat) : Bool :=
  (a % 4 != 0 && s.mem.parityBad a) || ((a + n) % 4 != 0 && s.mem.parityBad (a + n))

/-- Whether some unit of a flash buffer cannot be read. -/
def State.unitsFail (s : State) (a n : Nat) : Bool :=
  (s.flash.twoBit ++ s.flash.cut).any (fun p =>
    unitOf a ≤ p.1 && p.1 * 16 < a - 0x08000000 + n && s.ecc (0x08000000 + p.1 * 16) == .failed)

/-- Whether some sector of a flash buffer is execute-only. -/
def State.anyXo (s : State) (a n : Nat) : Bool :=
  (List.range (sectorOf (a + n - 1) + 1 - sectorOf a)).any (fun i => s.sectorMode (sectorOf a + i) == 3)

/-- What an engine's read of `n` bytes meets (03 R109, R114, R115, R127, R139, R140; 07 R291, R306, R314). -/
def State.engRead (s : State) (a n : Nat) : Eng :=
  match s.region a with
  | none => .bad stAddrErr
  | some r =>
    if r.stop < a + n then .bad stAddrErr
    else
      match r with
      | .setup | .cal => .bad stAddrErr
      | .rom => .ok
      | .sram | .vigil => if s.bufBad a n then .bad stMemPar else .ok
      | .burst =>
        match s.burstAccess with
        | .ok => if s.bufBad a n then .bad stMemPar else .ok
        | .wait l => .wait l
        | .fault _ => .bad stAddrErr
      | .gnss =>
        match s.gnssAccess with
        | .wait l => .wait l
        | _ => .ok
      | .flashA | .flashB =>
        if !s.flag F.PWR_STAT_FLRDY then .wait false
        else if s.anyXo a n then .bad stXoDenied
        else if s.bankBusy (bankOf a) || s.bankHeld (bankOf a) then .wait false
        else if s.unitsFail a n then .bad stMemPar else .ok

/-- What an engine's write of `n` bytes meets (03 R139, R705). -/
def State.engWrite (s : State) (a n : Nat) : Eng :=
  match s.region a with
  | none => .bad stAddrErr
  | some r =>
    if r.stop < a + n then .bad stAddrErr
    else
      match r with
      | .setup | .cal | .rom | .flashA | .flashB => .bad stAddrErr
      | .sram | .vigil => if s.edgeBad a n then .bad stMemPar else .ok
      | .burst =>
        match s.burstAccess with
        | .ok => if s.edgeBad a n then .bad stMemPar else .ok
        | .wait l => .wait l
        | .fault _ => .bad stAddrErr
      | .gnss =>
        match s.gnssAccess with
        | .wait l => .wait l
        | _ => .ok

/-- A buffer's bytes as an engine reads them. -/
def State.engBytes (s : State) (a n : Nat) : List Byte :=
  (List.range n).map (fun i =>
    if inFlash (a + i) && nsMem s.flash.cut (unitOf (a + i)) then Config.cutByte s.free (a + i) else s.mem.byte (a + i))

/-- The first address of each 16-byte unit that a flash range touches, one per unit. -/
def unitStarts (a n : Nat) : List Nat :=
  if n = 0 then [] else (List.range (unitOf (a + n - 1) + 1 - unitOf a)).map (fun i => 0x08000000 + (unitOf a + i) * 16)

/-- What the codes of units read one after another do to the error registers, up to the first unit that gives no data (07 R291, R332). -/
def State.noteUnits (s : State) : List Nat → State
  | [] => s
  | a :: r => if s.ecc a = .failed then s.noteEcc a else State.noteUnits (s.noteEcc a) r

/-- What an engine's read leaves beside its data: corrected reads counted, UNCORR set where a unit gave no data, capture RAM's island active
(07 R291, R332; 03 R117). -/
def State.noteRead (s : State) (a n : Nat) : State :=
  if inFlash a then s.noteUnits (unitStarts a n) else if Region.gnss.holds a then s.touch .gnss else s

/-- Where some unit is indeterminate, the free values that its reads have used are used up (07 R329). -/
def State.freshCut (s : State) : State := if s.flash.cut.isEmpty then s else s.fresh

/-- The state after an engine's read. -/
def State.afterEngRead (s : State) (a n : Nat) : State := if inFlash a then (s.noteRead a n).freshCut else s.noteRead a n

/-- What an engine's reads leave, in their order, up to the first that meets bad data (07 R291, R332). -/
def State.afterReads (s : State) (l : List (Nat × Nat)) : State :=
  let upTo := l.takeWhile (fun a => (s.engRead a.1 a.2).badStatus != some stMemPar)
  ((l.take (upTo.length + 1)).foldl (fun acc a => acc.noteRead a.1 a.2) s).freshCut

/-- An engine access that cannot go ahead yet: it waits, after lighting the GNSS island where capture RAM asks for it (03 R116). -/
def State.engWait (s : State) (light : Bool) : State := if light then s.wakeIsland .gnss else s

/-- As `takeWith`, for an engine that does its work in one go: it waits until every access that the work makes can go ahead. A descriptor
of bad parity names nothing, and waits for nothing (06 R284). -/
def State.takeReady (s : State) (u ch : Nat) (mine : Desc → Bool) (needs : State → Desc → List Eng) (run : State → Desc → State) :
    State :=
  match (s.headDesc u ch).filter (fun d => s.descBad d || mine d) with
  | none => s
  | some d =>
    if s.descBad d then s.takeWith u ch mine run
    else
      match (needs (s.engView u ch) d).find? Eng.waits with
      | some (.wait light) => (s.holdAccess u ch).engWait light
      | _ => (s.takeWith u ch mine run).dropAccess u ch

/-- The first status of engine accesses that went wrong. -/
def firstBad (l : List Eng) : Option Nat := l.findSome? Eng.badStatus

/-- The loop settings BTS_TPER and BTS_TCFG, staged and kept across a reset with power (16 R665). -/
def loopRegs : List Nat := 0x4000B01C :: (List.range 8).map (fun n => 0x4000B100 + 4 * n)


/-- The vigil RAM bank of an address. -/
def vigilBank (a : Nat) : Nat := (a - 0x20100000) / 0x2000

/-- Whether a full reset loses the memory at an address (02 Table 2.7; 03 R141 to R143). -/
def State.resetLoses (s : State) (power : Bool) (a : Nat) : Bool :=
  Region.sram.holds a || Region.burst.holds a || Region.gnss.holds a ||
    (Region.vigil.holds a && (power || !s.fldBit F.PWR_VRET_BANKS (vigilBank a)))

/-- The general registers of a thread that starts: VOID with undefined data (04 R194; log 3). -/
def startRegs (k : Nat) : Vector TWord 32 := Vector.ofFn (fun r => ⟨Config.startData k r.val, .void⟩)

/-- A thread as any start or reset leaves it (04 R194; 05 R199, R240). -/
def Thread.fresh (k : Nat) (st : ThreadSt) : Thread := { Thread.reset st with regs := startRegs k }

/-- The units left indeterminate when a flash operation stops inside a unit or a sector (07 R329). -/
def FlashOp.cutUnits (o : FlashOp) : List Nat :=
  if o.done < o.total ∧ o.stopped = false then
    (match o.kind with
     | .erase => (List.range 512).map (fun i => (o.first + o.done) * 512 + i)
     | .program => [o.first + o.done]
     | .verify => [])
  else []

/-- The units that work on flash leaves indeterminate when it stops at once (07 R329): that of the reservation in hand, which has the operation
paused between two units or sectors (R321), or else those of the operation. -/
def State.stopUnits (s : State) : List Nat :=
  if s.flash.resvOn then s.resvUnit.toList else (match s.flash.op with | none => [] | some o => o.cutUnits)

/-- The flash after its work stops at once (07 R329, Table 7.6). -/
def State.flashStop (s : State) : Flash :=
  { s.flash with op := none, ended := none, resv := [], resvOn := false, hold := 0, cut := s.stopUnits.foldl nsAdd s.flash.cut }

/-- A fob that its line no longer powers (15 R615). -/
def Fob.unpower (f : Fob) : Fob := { f with since := 0, armed := false }

/-- The causes of a full reset, by their PWR_RCAUSE bit (02 Table 2.10). -/
inductive Cause where
  | por | bor | pin | soft | snuff | breach
  deriving DecidableEq, Repr

/-- PWR_RCAUSE with the bit of a cause only (02 R98). -/
def Cause.mask : Cause → Nat
  | .por => 1 | .bor => 2 | .pin => 4 | .soft => 8 | .snuff => 16 | .breach => 32

/-- POR and BOR (02 Table 2.7). -/
def Cause.power : Cause → Bool
  | .por => true
  | .bor => true
  | _ => false

/-- The registers that a full reset leaves as they are: the identity, the backup domain (02 Table 2.7; 09 R406), PWR_VRET at every cause
but POR (02 Table 2.10) and, across a reset without a loss of power, BTS_TEN, BTS_TSTAT and the loop settings (16 R665). -/
def keptReg (c : Cause) (a : Nat) : Bool :=
  a / 0x1000 == 0x40000 || a / 0x1000 == 0x50000 || (c != .por && a == 0x40002008) ||
    (!c.power && (a == 0x4000B010 || a == 0x4000B014 || loopRegs.contains a))

/-- The register images after a full reset (02 Tables 2.10, 2.11, R98, R716; 09 Table 9.3; 12 Table 12.8). -/
def State.resetImages (s : State) (c : Cause) : State :=
  let s1 := s.resetRegs (fun a => !keptReg c a)
  let s2 := s1.setFld F.PWR_RCAUSE_CAUSE c.mask
  let s3 := if c.power then s2 else
    (s2.setFld F.CLK_STAT_VSRC (s.fld F.CLK_STAT_VSRC)).setFld F.CLK_STAT_XT32OK (s.fld F.CLK_STAT_XT32OK)
  let s4 := loopRegs.foldl (fun acc a => acc.setStg a (acc.reg a)) (s3.clrFld F.CAL_STAT_FROZEN)
  let lo := s.reg F.IDN_UID_LO_UID.addr
  let hi := s.reg F.IDN_UID_HI_UID.addr
  let s5 := (s4.setReg F.CIP_SIDLO_SID.addr lo).setReg F.CIP_SIDHI_SID.addr hi
  (s5.setStg F.CIP_SIDLO_SID.addr lo).setStg F.CIP_SIDHI_SID.addr hi

/-- A full reset (02 R97, R98, R103, R716; 01 R18, R61; 05 R240; 06 R285; 07 R333; 08 R336, R367): everything but the pending commands,
the free-value counter, flash, kept vigil RAM, the backup domain, what the world holds (pads, fobs), and, without a loss of power, the
time base and its clock. -/
def State.fullReset (s : State) (c : Cause) : State :=
  let s1 := s.resetImages c
  let tick : BitVec 48 := if c.power then 0 else s.time.tick
  let r0 := startRegs s.free
  { State.reset with
    pending := s.pending, free := s.free + 1, live := s1.live, staged := s1.staged, sealed := s1.sealed,
    mem := s.mem.clear (s.resetLoses c.power), ledger := Ledger.reset tick.toNat, flash := s.flashStop,
    threads := (indices 10).foldl (fun v i => vset v i { vget v i with regs := r0 }) resetThreads,
    time := { State.reset.time with tick := tick }, bak := s.bak, pads := s.pads, driven := s.driven,
    loops := if c.power then State.reset.loops else s.loops,
    tag := { TagBus.reset with lines := s.tag.lines.map (fun l => ⟨l.fobs.map Fob.unpower, 0, 0, false, none, false⟩) } }

/-- The state of key slot `n` in CIP_KST: 0 EMPTY, 1 LOADED, 2 RETIRED, 3 LOADED-NN (12 Table 12.8). -/
def State.kst (s : State) (n : Fin 16) : Nat := s.fld F.CIP_KST_SLOTS / 4 ^ n.val % 4

/-- CIP_KST with slot `n` at a state. -/
def State.setKst (s : State) (n : Fin 16) (v : Nat) : State :=
  s.setFld F.CIP_KST_SLOTS (s.fld F.CIP_KST_SLOTS - s.kst n * 4 ^ n.val + v % 4 * 4 ^ n.val)

/-- A key slot. -/
def State.keySlot (s : State) (n : Fin 16) : KeySlot := vget s.cip.slots n
/-- The state with a key slot replaced. -/
def State.setKeySlot (s : State) (n : Fin 16) (k : KeySlot) : State := { s with cip := { s.cip with slots := vset s.cip.slots n k } }

/-- A slot zeroised and EMPTY (12 R512). -/
def State.emptySlot (s : State) (n : Fin 16) : State := (s.setKeySlot n KeySlot.empty).setKst n 0

/-- The slot that word 4 of a cipher descriptor names (12 R503). -/
def Desc.keySlot (d : Desc) : Fin 16 := Fin.ofNat 16 (d.opd 4)

/-- M′ of a CCM descriptor. -/
def Desc.mcode (d : Desc) : Nat := d.uflags % 8
/-- The tag length M. -/
def Desc.mlen (d : Desc) : Nat := 2 * d.mcode + 2
/-- ALEN. -/
def Desc.alen (d : Desc) : Nat := d.opd 7 % 65536
/-- Whether the operation is CCMENC or CCMDEC. -/
def Desc.ccm (d : Desc) : Bool := d.op == 6 || d.op == 7
/-- The payload's length p (12 R516). -/
def Desc.pay (d : Desc) : Nat := if d.op = 7 then d.len - 13 - d.mlen else d.len
/-- The bytes that an operation writes at OUT. -/
def Desc.outLen (d : Desc) : Nat :=
  match d.op with
  | 4 => d.len
  | 5 => d.len
  | 6 => 13 + d.len + d.mlen
  | 7 => d.pay
  | _ => 0
/-- All of H to R on a slot's nonce account (12 Table 12.4). -/
def State.spendAll (s : State) (n : Fin 16) : State :=
  s.posted (0x60 + n.val) (fun a => some { a with r := a.r + a.h, h := 0 })

/-- The operation that waits for a record ends with a status and no output. A KLOAD's slot is then EMPTY (12 R508, R538, R539), but for a
CUTOFF, which keeps the key store as it is (12 Table 12.6). -/
def State.endWaiting (s : State) (status : Nat) : State :=
  match s.cip.waiting with
  | none => s
  | some d =>
    let s1 : State := { s with cip := { s.cip with waiting := none, last := some d } }
    (if d.op = 1 && status != stCutoff then s1.emptySlot d.keySlot else s1).refuse d status

/-- A finished descriptor whose completion is still to be written takes another status, with a RESULT that no rule states (log 28). -/
def State.restate (s : State) (d : Desc) (status : Nat) : State :=
  let r := s.ring d.ring
  (s.setRing d.ring { r with done := r.done.map (fun e =>
    if e.idx = d.idx then { e with status := status, result := Config.errorResult s.free } else e) }).fresh

/-- The operation that the engine has in hand ends with a status: one that waits as above, one whose completion is still to be written with
that status in its place, its output zeroed where `zero` says so (12 R508, R538, R539, Table 12.6; log 115). -/
def State.endOp (s : State) (status : Nat) (zero : Bool) : State :=
  match s.cip.waiting, s.cip.last with
  | some _, _ => s.endWaiting status
  | none, none => s
  | none, some d =>
    (if zero && d.outLen != 0 then s.storeBytes .raw (d.opd 6) (List.replicate d.outLen 0#8) else s).restate d status

/-- The cipher lock is broken (12 R508): an operation in progress ends LOCKLOST and its completion is written (01 R34), account 0x51 posts H to R, the lock is free, and LOCK_BROKEN
records tell the former owner, the cause (1 stop, fault or dark, 2 core reset, 3 cipher-island reset) and the token. -/
def State.breakLock (s : State) (cause : Nat) : State :=
  if !s.flag F.CIP_LOCK_HELD then s
  else
    let s2 := ((s.endOp 0x2A true).freeLock).settleSource 3
    s2.systemTo (s2.fld F.CIP_ROUTE_TMASK) 0x15
      (BitVec.ofNat 32 (s2.fld F.CIP_LOCK_TOKEN * 65536 + cause * 16 + s2.fld F.CIP_LOCK_OWNER))

/-- The lock is broken when its owner is one of these threads. -/
def State.breakLockOf (s : State) (ts : List ThreadId) (cause : Nat) : State :=
  if ts.any (fun t => t.val == s.fld F.CIP_LOCK_OWNER) then s.breakLock cause else s

/-- The end of a command: a breach with BRACT = 1 has its full reset (01 R59). -/
def State.settle (s : State) : State := if s.ledger.resetDue then s.fullReset .breach else s

/-- A command's answer. -/
def ok (s : State) : Res := .next s.settle

end Sys2Proof.Machine
end

