-- ==== Sys2Proof/Machine/Power.lean ====
section
/-! DEFINITION. Power states and clocks (02): the descent and what holds it, the steady restart, the FLL and PLL arithmetic, and the
meanings of the commands of the power and clock controllers that no unit's chapter has a part in. -/

namespace Sys2Proof.Machine

/-! ### Clocks -/

/-- A value moved to the nearest end of a range it lies outside of. -/
def clamp (lo hi v : Nat) : Nat := max lo (min hi v)

/-- The committed FLL multiplier nearest to a sealed one (02 R88, Table 2.5). -/
def fllClamp (ref mul : Nat) : Nat := if ref = 0 then clamp 32 3906 mul else clamp 32 4096 mul

/-- The committed PLL multiplier nearest to a sealed one: MUL 16 to 375 within 0.5 to 3.0 GHz (02 R88, Table 2.5). -/
def pllClamp (rdiv mul : Nat) : Nat :=
  let d := rdiv + 1
  clamp (max 16 ((500 * d + 31) / 32)) (min 375 (3000 * d / 32)) mul

/-- Whether the FLL may take XT32M as its reference: committed, confirmed and not failed since (02 R717). -/
def State.fllOnXt (s : State) : Bool := s.flag F.CLK_FLL_REF && s.flag F.CLK_STAT_XT32MOK && !s.clk.xt32mFailed

/-- The multiplier that the FLL applies from the vigil clock: the fallback of R95 while REF = 1 has no XT32M, and never above 3,616 on
LFRC (02 R95, R718). -/
def State.vigilMul (s : State) : Nat :=
  let m := s.fld F.CLK_FLL_MUL
  let m1 := if s.flag F.CLK_FLL_REF then min 3906 m else m
  if s.flag F.CLK_STAT_VSRC then m1 else min 3616 m1

/-- The nominal steady clock in Hz (02 Table 2.5). -/
def State.fllHz (s : State) : Nat := if s.clk.onXt32m then 31250 * s.clk.mul else 32768 * s.clk.mul

/-- The smallest WS for which WS + 1 steady-clock periods are at least 30 ns (07 R293). -/
def State.wsNow (s : State) : Nat := (s.fllHz * 30 + 999999999) / 1000000000 - 1

/-- FLC_STAT.WS at the value of the clock that the FLL goes to (07 R293). -/
def State.setWs (s : State) : State := s.setFld F.FLC_STAT_WS s.wsNow

/-- FLC_STAT.WS while the FLL slews: that of the higher of the old and new frequencies (07 R293). -/
def State.slewWs (s : State) : State := s.setFld F.FLC_STAT_WS (max (s.fld F.FLC_STAT_WS) s.wsNow)

/-- The FLL takes its reference and multiplier anew and slews; it is locked again when FLL_LOCKED says so (02 R91), which ends the higher
frequency's WS too (07 R293). -/
def State.fllRetarget (s : State) : State :=
  let x := s.fllOnXt
  let c := { s.clk with onXt32m := x, mul := if x then s.fld F.CLK_FLL_MUL else s.vigilMul, refDue := false }
  let s1 : State := { s with clk := c }
  (if c.mul = s.clk.mul ∧ x = s.clk.onXt32m then s1 else s1.clrFld F.CLK_STAT_FLLLOCK).slewWs

/-- The FLL starts from the vigil clock with MUL = 977: the 80 µs row of Table 2.8, from which a steady-island reset's sequence runs (02
R710). A committed XT32M reference that is confirmed is taken at the next tick edge (02 R717; log 102). -/
def State.fllRow80 (s : State) : State :=
  (({ s with clk := { s.clk with onXt32m := false, mul := 977, refDue := s.fllOnXt } }).clrFld F.CLK_STAT_FLLLOCK).setWs

/-- The FLL stops: no fraction, no lock (02 Table 2.3; 08 R337, R338). -/
def State.fllStop (s : State) : State :=
  ({ s with time := { s.time with cyc := 0, per := none, floor := if s.frac ≤ s.time.floor then s.time.floor else s.frac } }).clrFld F.CLK_STAT_FLLLOCK

/-! ### What holds the descent -/

/-- The system SRAM banks of `n` bytes from an address. -/
def sramBanks (a n : Nat) : List Nat :=
  (List.range 16).filter (fun b => a < 0x20010000 + b * 0x10000 && 0x20000000 + b * 0x10000 < a + n)

/-- The system SRAM banks that count as ring memory (02 R70; 10 R432; 11 R463; 15 R641). -/
def State.ringBanks (s : State) : List Nat :=
  ((indices 64).filter (fun n => s.ringState n != ringOff)).flatMap (fun n =>
    let r := s.ring n
    sramBanks (s.ringHdr n) 64 ++ sramBanks r.base (r.size * 32) ++ sramBanks r.cbase (r.size * 16)) ++
  (if (s.acct 0x50).h ≥ 1 then [s.fld F.RAD_POOL_BANK] else []) ++
  (if s.flag F.MSH_CTL_RUN then sramBanks (s.fld F.MSH_SCHED_ADDR * 4) (s.fld F.MSH_CYC_CYCLEN * 4) else []) ++
  ((indices 4).filter (fun l => s.flag (F.TAG_LCFG_EN l.val))).flatMap (fun l => sramBanks (s.fld (F.TAG_LINV_ADDR l.val) * 16) 1024)

/-- A reason of code 1 for Dim in place of Ember or Vigil: the radio island is lit other than for the sniffer, and so on (02 R70; 07 R311; 11 R463; 14 Table 14.5; 15 Table 15.4; 16 R651). -/
def State.busyHold (s : State) : Bool :=
  (if s.flag F.MSH_CTL_RUN then s.fld F.MSH_HSTAT_STATE != 3 else (s.island .radio).st != .dark && !s.radio.sniffLit) || ((s.island .gnss).st != .dark) ||
    ((s.island .cipher).st != .dark) || s.flash.op.isSome || s.csp.inFrame || s.csp.committing.isSome || s.tag.walk.isSome ||
    s.bridge.toList.any (fun b => b.st != .coast)

/-- Whether a ring has its header or entries in a bank that PWR_SRET does not select (02 R70). -/
def State.bankHold (s : State) : Bool := s.ringBanks.any (fun b => !s.fldBit F.PWR_SRET_BANKS b)

/-- Whether only Ember is allowed where DEPTH names Vigil (02 R71). -/
def State.emberHold (s : State) : Bool :=
  s.fld F.PWR_SRET_BANKS != 0 || s.flag F.PWR_CTL_SNIFF || (indices 64).any (fun n => s.ringState n != ringOff)

/-- The state that R69 to R71 name and its REFUSE code (02 R72, R89). -/
def State.descent (s : State) : Nat × Nat :=
  let d := s.fld F.PWR_CTL_DEPTH
  if d = 1 ∨ d = 2 then
    (if s.busyHold then (2, 1) else if s.bankHold then (2, 2) else if d = 2 then (if s.emberHold then (1, 3) else (0, 0)) else (1, 0))
  else (2, 0)

/-- Whether a thread waits and a bit of its mask is set (05 R203). -/
def Thread.wakeable (t : Thread) : Bool := t.st == .wait && (t.pend &&& t.wmask) != 0

/-- No thread of S0 or S1 in RUN, and none whose WAIT is about to end (02 R69). -/
def State.steadyIdle (s : State) : Bool :=
  ((indices 10).take 8).all (fun t => (s.thr t).st != .run && !(s.thr t).wakeable)

/-- The condition of R69. -/
def State.mayDescend (s : State) : Bool := s.on && s.lit .steady && s.steadyIdle && (s.island .burst).st == .dark

/-! ### Crossings -/

/-- The island that a crossing of direction `d` of a span goes to, where it is one that can be dark (01, the table of spans). -/
def spanDest (sp d : Nat) : Option Island :=
  if d = 0 then (match sp with | 1 => some .steady | 2 => some .radio | 3 => some .burst | 4 => some .cipher | 5 => some .radio
                               | 6 => some .gnss | _ => none)
  else if 3 ≤ sp then some .steady else none

/-- Whether a crossing of a span goes to an island that quiesces (02 R85 step 2). -/
def State.destQuiesces (s : State) (sp d : Nat) : Bool :=
  match spanDest sp d with
  | none => false
  | some i => (s.island i).st == .quiescing

/-- Whether both ends of a span are powered: an island that quiesces still sends its replies (02 R85 step 4). -/
def State.spanUp (s : State) (sp : Nat) : Bool := (spanEnds sp).all (fun i => s.lit i || (s.island i).st == .quiescing)

/-- Whether a span end may present a request: its account has R ≥ 1 (02 R67), and no crossing of that direction is under way. -/
def State.mayPresent (s : State) (sp d : Nat) : Bool :=
  let i := 0x40 + 2 * sp + d
  s.spanUp sp && !s.destQuiesces sp d && (s.win i).span == 0 && 1 ≤ (s.acct i).r && !s.acctAbsent i

/-- A request is presented: one unit goes in flight and the SPAN window opens (01 R24; 02 R65). -/
def State.presentSpan (s : State) (sp d : Nat) : State :=
  let i := 0x40 + 2 * sp + d
  let s1 := (s.setWin i { s.win i with span := 1, spanAt := s.now }).posted i (Account.fly 1)
  if (spanEnds sp).contains .steady then s1.arrive else s1

/-- A span end has a request (02 R67): it is presented. Toward a quiescing island, and behind a request that is held, it stays with its
requester (02 R85, R86). -/
def State.spanRequest (s : State) (sp d : Nat) : State :=
  if !s.on then s
  else if s.destQuiesces sp d || s.power.heldReq.contains (sp, d) then
    { s with power := { s.power with heldReq := s.power.heldReq ++ [(sp, d)] } }
  else if s.mayPresent sp d then s.presentSpan sp d
  else s

/-- A crossing that a command makes whole: presented and acknowledged, with both postings of it (02 R65, R707; 01 R26). Where the direction has a
crossing under way, this one passes after it, and its two postings cancel. -/
def State.crossed (s : State) (sp d : Nat) : State :=
  let i := 0x40 + 2 * sp + d
  if s.mayPresent sp d then
    let s1 := (s.presentSpan sp d).posted i (Account.land 1)
    (s1.setWin i { s1.win i with span := 0, spanAt := 0, spanAged := false }).check i
  else s

/-- The held requests that can be presented are, in their original order (02 R86); the others stay held. -/
def State.presentHeld (s : State) : State :=
  s.power.heldReq.foldl (fun acc r =>
    if acc.mayPresent r.1 r.2 then acc.presentSpan r.1 r.2
    else { acc with power := { acc.power with heldReq := acc.power.heldReq ++ [r] } })
    { s with power := { s.power with heldReq := [] } }

/-! ### The steady island down and up -/

/-- Whether the memory at an address is lost on entry to Ember (1) or Vigil (0) (02 Table 2.2, R144). -/
def State.sleepLoses (s : State) (target a : Nat) : Bool :=
  (Region.sram.holds a && !(target == 1 && s.fldBit F.PWR_SRET_BANKS ((a - 0x20000000) / 0x10000))) ||
    (Region.vigil.holds a && !s.fldBit F.PWR_VRET_BANKS (vigilBank a))

/-- The registers that reset with the steady island: CNT, FLC outside its latches, CSP_SSTAT (07 R334; 08 R368; 14 R611). -/
def steadyReg (a : Nat) : Bool :=
  a / 0x1000 == 0x40008 || a == 0x40006000 || a == 0x40006004 || (0x40006010 ≤ a && a < 0x40006100) || a == 0x4000900C

/-- A thread of S0 or S1 as a steady restart leaves it; its special registers are EVT fields and stay (05 R241), while TSW, which no rule
names, is a started thread's, ENT, PMODE and SNUFF 0 (DEDUCED, log 14). -/
def Thread.restart (t : Thread) (k : Nat) (st : ThreadSt) : Thread :=
  { Thread.fresh k st with pend := t.pend, wmask := t.wmask, epc := t.epc, ecause := t.ecause, eaddr := t.eaddr }

/-- Threads 0 to 7 restart: thread 0 in RUN at 0x0000_0000, the others STOPPED (05 R240, R241). -/
def State.restartThreads (s : State) : State :=
  let s1 := ((indices 10).take 8).foldl (fun acc t =>
    ((acc.setThr t ((acc.thr t).restart s.free (if t = 0 then .run else .stopped))).clrFld (F.EVT_TFPC_PC t.val)).clrFld
      (F.EVT_TFCAUSE_CAUSE t.val)) s
  s1.fresh

/-- What a steady-island reset and a steady restart have in common (05 R241; 07 R334; 08 R368; 14 R611; 12 R508): threads and steady
registers start anew, the FLL starts as `fll` says, flash waits for FLRDY, the boot ROM runs next. -/
def State.restartSteady (s : State) (fll : State → State) : State :=
  let s1 := (s.breakLockOf ((indices 10).take 8) 2).restartThreads
  let s2 := s1.resetRegs steadyReg
  let s3 : State := { s2 with cnt := State.reset.cnt, csp := Csp.reset, boot := .starting }
  (fll ((s3.fllStop.clrFld F.PWR_STAT_FLRDY).setFld F.PWR_STAT_STATE 3)).xt32mSettle

/-- The steady island begins to be lit again from Ember or Vigil (02 R74, Table 2.3): what woke it is recorded. `src` is a mask of wake sources, bit 5
a snuff rescue (05 R713). A sniff window that is open closes, a verify goes on (10 Table 10.6). -/
def State.steadyWakes (s : State) (src : Nat) : State :=
  let from' := s.pstate
  let s0 : State := { s with radio := { s.radio with lead := false } }
  let s1 := s0.setIsland .steady { IslandSt.dark with st := .lighting, since := s.now }
  let s2 := s1.restartSteady State.fllRetarget
  let s3 := (((s2.setFld F.PWR_STAT_LAST from').setFld F.PWR_WAKE_SRC (src % 32)).setFld F.PWR_WAKE_SNUFF (src / 32)).clrFld F.PWR_WAKE_ISLAND
  if s3.radio.verify then s3 else s3.clrFld F.RAD_STAT_SNIFFING

/-- The steady island is lit from Ember or Vigil (02 R66, R75, R86): its spans are granted, waiting records and held requests cross. -/
def State.steadyLit (s : State) : State :=
  ((s.setIsland .steady { IslandSt.dark with st := .lit, since := s.now }).grantSpans .steady).flushLate.presentHeld

/-- A wake source fires (02 R74, Table 2.6): an enabled one wakes the chip from Ember or Vigil; during an entry it is latched once the
QUIESCE window is open and abandons the entry before. -/
def State.wakeSource (s : State) (bit : Nat) : State :=
  if !s.on || !(s.fldBit F.PWR_WAKEEN_SRC bit || bit == 5) then s
  else if s.power.entry.isSome then
    (if s.lit .steady then { s with power := { s.power with entry := none } }
     else { s with power := { s.power with latched := s.power.latched ||| 2 ^ bit } })
  else if s.pstate < 2 then s.steadyWakes (2 ^ bit)
  else s

/-- The steady island has drained on its way to Ember or Vigil: it is dark, and a wake latched meanwhile begins at once (02 R72, R85,
R90, Table 2.6). The first sniff window of a stay in Ember is due one period after its beginning (10 R423; log 112). -/
def State.steadyDown (s : State) (target why : Nat) : State :=
  let s1 := (s.setIsland .steady { IslandSt.dark with st := .dark }).fllStop
  let s2 := ((s1.setFld F.PWR_STAT_STATE target).setFld F.PWR_STAT_REFUSE why).clrFld F.PWR_STAT_FLRDY
  let s3 : State := { s2 with mem := s2.mem.clear (s.sleepLoses target),
                              power := { s2.power with entry := none, latched := 0, arrived := false },
                              radio := if target = 1 then { s2.radio with sniffNext := s.now + s.fld F.RAD_SNPER_TICKS } else s2.radio }
  let s4 := s3.xt32mSettle
  if s.power.latched = 0 then s4 else s4.steadyWakes s.power.latched

/-! ### Meanings: states -/

/-- SPAN_REQUEST (02 R65, R67, R86, R707). -/
def execSpanRequest (span : Fin 7) (reverse : Bool) (s : State) : Res := ok (s.spanRequest span.val (if reverse then 1 else 0))

/-- SPAN_ACKNOWLEDGE (02 R707; 01 R25, R26): the crossing's unit moves from F to R, since no chapter names anything that a span's H would
count (DEDUCED, log 103), and its window closes, which is itself a posting. A request held for that direction is then presented (02 R86). -/
def execSpanAcknowledge (span : Fin 7) (reverse : Bool) (s : State) : Res :=
  let i := 0x40 + 2 * span.val + (if reverse then 1 else 0)
  if (s.win i).span = 0 then ok s
  else
    let s1 := s.posted i (Account.land 1)
    ok (((s1.setWin i { s1.win i with span := 0, spanAt := 0, spanAged := false }).check i).presentHeld)

/-- DIM_WAKE (02 R73): an event for a waiting steady thread, or a request at a steady span, returns the chip to Lit. -/
def execDimWake (s : State) : Res :=
  let due := s.power.arrived || ((indices 10).take 8).any (fun t => (s.thr t).wakeable) ||
    (islandSpans .steady).any (fun sp => (spanAccts sp).any (fun i => (s.win i).span != 0))
  if s.on && s.pstate == 2 && due then
    ok (({ s with power := { s.power with arrived := false, entry := none } }).setFld F.PWR_STAT_STATE 3)
  else ok s

/-- Whether the steady island is being lit, from Ember or Vigil (02 Table 2.3). -/
def State.steadyRising (s : State) : Bool := s.on && (s.island .steady).st == .lighting

/-- BOOT_ROM_START (02 R103, R710, Tables 2.3 and 2.8): the island is lit and thread 0 executes its first instruction in the boot ROM. -/
def execBootRomStart (s : State) : Res :=
  if s.boot != .starting then ok s
  else if s.steadyRising then ok ({ s with boot := .rom }).steadyLit
  else if s.steadyRuns then ok { s with boot := .rom } else ok s

/-- FLASH_READY (02 R76): FLRDY rises, and reads that waited proceed. -/
def execFlashReady (s : State) : Res :=
  if s.on && (s.lit .steady || s.steadyRising) then ok (s.setBit F.PWR_STAT_FLRDY) else ok s

/-! ### Meanings: the burst island -/

/-- A write of 1 to PWR_BURST.ON (02 R77, R79, Table 2.6): a dark island begins to light; while it quiesces the write is held. -/
def State.burstOn (s : State) : State :=
  if s.on && s.has .burst then
    (match (s.island .burst).st with
     | .dark => s.wakeIsland .burst
     | .quiescing => s.wakeIsland .burst
     | _ => s)
  else s

/-- BURST_ON (02 R77). -/
def execBurstOn (s : State) : Res := ok s.burstOn

/-- Thread `t` as it starts at an address with nothing pending (05 R194, R242). -/
def State.startThread (s : State) (t : ThreadId) (pc : Word) : State :=
  (s.setThr t { Thread.fresh s.free .run with pc := pc }).fresh

/-- BURST_LIT (02 R78, R66, R77; 05 R242): with XT32M confirmed the PLL locks, span 3 is granted, thread 8 starts at PWR_BENTRY, thread 9
is STOPPED, the chip is in Blaze. An OFF held from the lighting, or a reset, is then begun by QUIESCE. -/
def execBurstLit (s : State) : Res :=
  let x := s.island .burst
  if x.st = .lighting ∧ s.flag F.CLK_STAT_XT32MOK ∧ s.on then
    let s1 := (s.setIsland .burst { x with st := .lit, since := s.now }).grantSpans .burst
    let s2 := (s1.setBit F.CLK_STAT_PLLLOCK).setFld F.PWR_STAT_STATE 4
    let s3 : State := { s2 with clk := { s2.clk with pllFresh := false } }
    ok (((s3.unhold.setThr 9 (Thread.fresh s3.free .stopped)).startThread 8
      (BitVec.ofNat 32 (s.fld F.PWR_BENTRY_ADDR * 4))).presentHeld)
  else ok s

/-- A write of 1 to PWR_BURST.OFF (02 R81, Table 2.6): a lit island goes dark through quiesce, one being lit does so once lit. -/
def State.burstOff (s : State) : State :=
  let x := s.island .burst
  match x.st with
  | .lit => s.beginQuiesce .burst false
  | .lighting => s.setIsland .burst { x with downReq := true }
  | _ => s

/-- BURST_OFF (02 R81). -/
def execBurstOff (s : State) : Res := ok s.burstOff

/-- BURST_AUTO_DARK (02 R81): with AUTO = 1 and each of threads 8 and 9 in WAIT, STOPPED or FAULTED the island goes dark through
quiesce. -/
def execBurstAutoDark (s : State) : Res :=
  if s.flag F.PWR_BURST_AUTO && s.lit .burst && ([8, 9] : List ThreadId).all (fun t => (s.thr t).st != .run && !(s.thr t).wakeable)
  then ok (s.beginQuiesce .burst false) else ok s

/-- What the failure of an island's lighting does (02 R92): its LITFAIL bit and the LIGHT_FAIL records. -/
def State.litFail (s : State) (i : Island) : State :=
  let s1 := s.orFld F.PWR_STAT_LITFAIL (2 ^ (Island.idx i).val)
  (s1.systemTo (s1.fld F.PWR_ROUTE_TMASK) 0x11 (BitVec.ofNat 32 (2 ^ (Island.idx i).val))).xt32mSettle

/-- Whether the steady island is still on its way up in the sequence of a full reset (02 Table 2.8): a steady-island reset keeps it powered (R710). -/
def State.firstRising (s : State) : Bool :=
  s.steadyRuns && s.boot == .starting && s.fld F.PWR_STAT_LAST == 3 && !s.flag F.PWR_WAKE_ISLAND

/-- The steady island fails to come up after a full reset (02 R92): it stays dark, with its spans; the reset inputs alone start it anew. -/
def State.firstFell (s : State) : State :=
  ((((s.setIsland .steady IslandSt.dark).withdrawSpans .steady).fllStop.clrFld F.PWR_STAT_FLRDY)).litFail .steady

/-- The steady island fails to come up from Ember or Vigil: the chip is there as before the wake, and another wake source tries again (02 R92;
log 104). -/
def State.steadyFell (s : State) : State :=
  (((s.setIsland .steady IslandSt.dark).fllStop.clrFld F.PWR_STAT_FLRDY).setFld F.PWR_STAT_STATE (s.fld F.PWR_STAT_LAST)).litFail .steady

/-- LIGHT_FAIL (02 R92, R93): the island stays dark, its LITFAIL bit is set and a LIGHT_FAIL record sent; descriptors stay posted. -/
def execLightFail (i : Island) (s : State) : Res :=
  if i = .steady then ok (if s.steadyRising then s.steadyFell else if s.firstRising then s.firstFell else s)
  else if s.on && (s.island i).st == .lighting then ok ((s.setIsland i IslandSt.dark).litFail i)
  else ok s

/-! ### Meanings: resets -/

/-- A write to PWR_RESET (02 R100). -/
def State.softReset (s : State) (v : Word) : State := if v.toNat % 256 = 0xD2 then s.fullReset .soft else s

/-- SOFT_RESET (02 R100). -/
def execSoftReset (value : Word) (s : State) : Res := ok (if s.on then s.softReset value else s)

/-- RESETN_QUALIFY (02 R101, R102): from 1 µs the part is held in full reset with cause PIN, below 100 ns nothing happens, between the
two either outcome may come about (a free choice, log 3). -/
def execResetnQualify (lowNs : Nat) (s : State) : Res :=
  if !s.on then ok s
  else
    let t := if 100 ≤ lowNs then s.fullReset .pin else s
    let held : State := { t with power := { t.power with inReset := true } }
    if lowNs < 100 then ok s
    else if 1000 ≤ lowNs then ok held
    else if Config.resetnMid s.free then ok held
    else ok s.fresh

/-- RESETN_RELEASE (02 R101, R710): RESETN rises and the reset sequence begins. -/
def execResetnRelease (s : State) : Res :=
  if s.power.inReset then ok { s with power := { s.power with inReset := false } } else ok s

/-- POWER_ON (02 R103, R719): VDD rises through VPOR; the cause is BOR where VDD stayed at or above VVRET, POR otherwise. -/
def execPowerOn (belowVvret : Bool) (s : State) : Res :=
  if s.power.vdd then ok s
  else
    let t := s.fullReset (if belowVvret then .por else .bor)
    ok { t with power := { t.power with vdd := true } }

/-- BROWN_OUT (02 R104; 09 Table 9.3): VDD falls below VBOR: a full reset with cause BOR, and the part is without its supply. -/
def execBrownOut (s : State) : Res :=
  if s.power.vdd then
    let t := s.fullReset .bor
    ok { t with power := { t.power with vdd := false } }
  else ok s

/-! ### Meanings: clocks -/

/-- XT32_FAIL (02 R94, R718): more than four cycles missed while XT32OK = 1 move the vigil clock to LFRC, clear XT32OK, set XT32FAIL
and send CLOCK_FAIL with DETAIL 0. -/
def execXt32Fail (missed : Nat) (s : State) : Res :=
  if s.power.vdd && s.flag F.CLK_STAT_XT32OK && 4 < missed then
    let s1 := ((s.clrFld F.CLK_STAT_VSRC).clrFld F.CLK_STAT_XT32OK).setBit F.CLK_STAT_XT32FAIL
    let s2 : State := { s1 with clk := { s1.clk with switchDue := false } }
    let s3 := if s2.clk.onXt32m then s2 else s2.fllRetarget
    ok (s3.systemTo (s3.fld F.PWR_ROUTE_TMASK) 0x12 0)
  else ok s

/-- XT32_CONFIRMED (02 R703): XT32OK rises; the switch falls due at the next tick edge while AUTO = 1. -/
def execXt32Confirmed (s : State) : Res :=
  if s.power.vdd && !s.flag F.CLK_STAT_XT32OK then
    let s1 := s.setBit F.CLK_STAT_XT32OK
    ok { s1 with clk := { s1.clk with switchDue := s1.flag F.CLK_VSRC_AUTO } }
  else ok s

/-- VIGIL_CLOCK_SWITCH (02 R703, R718): at the first tick edge after it falls due, the vigil clock switches to XT32. -/
def execVigilClockSwitch (s : State) : Res :=
  if s.power.vdd && s.clk.switchDue && s.flag F.CLK_STAT_XT32OK && !s.flag F.CLK_STAT_VSRC then
    let s1 : State := { s.setBit F.CLK_STAT_VSRC with clk := { s.clk with switchDue := false } }
    ok (if s1.clk.onXt32m then s1 else s1.fllRetarget)
  else ok s

/-- The counters that count XT32M (08 R354, R366). -/
def State.xt32mCounters (s : State) : List (Fin 8) :=
  (indices 8).filter (fun n => s.flag (F.CNT_CTL_RUN n.val) && s.fld (F.CNT_CTL_SRC n.val) == 1)

/-- XT32M_FAIL (02 R95, R96; 08 R366): a tick that held too few or too many cycles of an oscillator meant to run and confirmed. -/
def execXt32mFail (cycles : Nat) (s : State) : Res :=
  if s.on && s.xt32mWanted && s.flag F.CLK_STAT_XT32MOK && (cycles < 850 || 1100 < cycles) then
    let s1 := (s.clrFld F.CLK_STAT_XT32MOK).setBit F.CLK_STAT_XT32MFAIL
    let s2 := s1.systemTo (s1.fld F.PWR_ROUTE_TMASK) 0x12 1
    let s3 : State := { s2 with clk := { s2.clk with xt32mFailed := true, refDue := false } }
    let s4 := if s3.clk.onXt32m then s3.fllRetarget else s3
    let s5 := s4.xt32mCounters.foldl (fun acc n =>
      ({ acc with cnt := vset acc.cnt n { vget acc.cnt n with stopped := true } }).setBit (F.CNT_STAT_SRCFAIL n.val)) s4
    ok ((s5.beginQuiesce .radio false).burstOff)
  else ok s

/-- XT32M_CONFIRMED (02 R704, R717): one whole tick of 850 to 1,100 cycles; XT32MOK rises, and the FLL's switch falls due. -/
def execXt32mConfirmed (cycles : Nat) (s : State) : Res :=
  if s.on && s.xt32mWanted && !s.flag F.CLK_STAT_XT32MOK && (850 ≤ cycles && cycles ≤ 1100) then
    let s1 := s.setBit F.CLK_STAT_XT32MOK
    ok { s1 with clk := { s1.clk with refDue := s1.fllOnXt && !s1.clk.onXt32m },
                 cnt := s1.xt32mCounters.foldl (fun v n => vset v n { vget v n with stopped := false }) s1.cnt }
  else ok s

/-- FLL_REF_SWITCH (02 R717): at the next tick edge the FLL takes the XT32M reference and slews. -/
def execFllRefSwitch (s : State) : Res :=
  if s.on && s.pstate ≥ 2 && s.clk.refDue && s.fllOnXt then ok s.fllRetarget else ok s

/-- FLL_LOCKED (02 R107, Table 2.3): the FLL comes within ±0.1 % of its target; FLLLOCK rises and CLK_FREQ reads what was measured. KHZ is renewed
here only, and keeps its value while the FLL slews or stops (DESIGN CHOICE, log 141). -/
def execFllLocked (khz : Nat) (s : State) : Res :=
  if s.on && (s.lit .steady || s.steadyRising) && (s.pstate ≥ 3 || s.flag F.PWR_CTL_DIMFLL) then
    ok (((s.setBit F.CLK_STAT_FLLLOCK).setFld F.CLK_FREQ_KHZ khz).setWs)
  else ok s

end Sys2Proof.Machine
end

