-- ==== Sys2Proof/Machine/TimeBase.lean ====
section
/-! DEFINITION. Time-base reads, compare channels and the PPS capture (08). The tick itself is in Snuff.lean. -/

namespace Sys2Proof.Machine

/-- A read of TMB_LO by a thread latches bits [63:32] in its TMB_HIL (08 R339). -/
def State.tmbLoRead (s : State) (t : ThreadId) : State :=
  { s with time := { s.time with hil := vset s.time.hil t (s.timeBase.extractLsb' 32 32) } }

/-- TMB_LO_READ (08 R339). -/
def execTmbLoRead (t : ThreadId) (s : State) : Res := ok (if s.steadyRuns then s.tmbLoRead t else s)

/-- A write to a compare channel is accepted: BUSY until it is applied (08 R342). -/
def State.cmpPut (s : State) (n : Fin 16) (w : CmpWrite) : State :=
  ({ s with cmpw := vset s.cmpw n (vget s.cmpw n ++ [(s.now, w)]) }).setBit (F.CMP_CTL_BUSY n.val)

/-- As `cmpPut`, of a write by software, which crosses span 1 (08 R342). -/
def State.cmpAccept (s : State) (n : Fin 16) (w : CmpWrite) : State := (s.cmpPut n w).crossed 1 1

/-- CMP_VAL_WRITE (08 R342, R343). -/
def execCmpValWrite (n : Fin 16) (v : Word) (s : State) : Res := ok (if s.steadyRuns then s.cmpAccept n (.val v) else s)

/-- CMP_REL (08 R345). -/
def execCmpRel (n : Fin 16) (d : Word) (s : State) : Res := ok (if s.steadyRuns then s.cmpAccept n (.rel d) else s)

/-- Whether a compare value has passed: d = 0 or d ≥ 2^31 (08 R344, R355). -/
def passed (v t : Word) : Bool := (v - t) == 0 || (v - t).msb

/-- A lead of 0 acts as 1 (08 R345). -/
def leadOf (d : Word) : Word := if d = 0 then 1 else d

/-- A value applied to CMP_VAL at this edge, LATE judged (08 R343, R344). -/
def State.cmpSetVal (s : State) (n : Fin 16) (v : Word) : State :=
  let s1 := s.setFld (F.CMP_VAL_VAL n.val) v.toNat
  if passed v s.tick32 then s1.setBit (F.CMP_CTL_LATE n.val) else s1

/-- One write applied (08 R342 to R345). -/
def State.cmpApply (s : State) (n : Fin 16) : CmpWrite → State
  | .ctl v =>
    let s1 := ((s.setFld (F.CMP_CTL_EN n.val) (fldGet v (F.CMP_CTL_EN n.val))).setFld (F.CMP_CTL_MODE n.val)
      (fldGet v (F.CMP_CTL_MODE n.val))).setFld (F.CMP_CTL_WAKE n.val) (fldGet v (F.CMP_CTL_WAKE n.val))
    let s2 := if fldGet v (F.CMP_CTL_LATE n.val) = 1 then s1.clrFld (F.CMP_CTL_LATE n.val) else s1
    if s2.flag (F.CMP_CTL_EN n.val) then s2.armedNow (0x40 + n.val) else s2
  | .val v => s.cmpSetVal n v
  | .rel d => s.cmpSetVal n (s.tick32 + leadOf d)
  | .per v => s.setFld (F.CMP_PER_PER n.val) v.toNat

/-- The comparison of channel `n` at this tick edge is over (08 R342). -/
def State.cmpJudged (s : State) (n : Fin 16) : State :=
  { s with time := { s.time with judged := s.time.judged ||| (1#16 <<< n.val) } }

/-- Whether channel `n` fires at this tick edge (08 R341). -/
def State.cmpDue (s : State) (n : Fin 16) : Bool :=
  s.flag (F.CMP_CTL_EN n.val) && s.fld (F.CMP_VAL_VAL n.val) == s.tick32.toNat && !s.time.judged.getLsbD n.val

/-- What the mode does at a fire (08 Table 8.1). -/
def State.cmpMode (s : State) (n : Fin 16) : State :=
  match s.fld (F.CMP_CTL_MODE n.val) with
  | 1 => s.clrFld (F.CMP_CTL_EN n.val)
  | 2 => s.setFld (F.CMP_VAL_VAL n.val) (s.fld (F.CMP_VAL_VAL n.val) + s.fld (F.CMP_PER_PER n.val))
  | _ => s

/-- Channel `n` fires: FIRED, its source stamped with the tick and a fraction of 0, its mode, and in the lower states its wake (08 R346 to
R348; 02 R74). -/
def State.cmpFire (s : State) (n : Fin 16) : State :=
  let wake := s.flag (F.CMP_CTL_WAKE n.val)
  let s1 := (s.cmpJudged n).orFld F.TMB_FIRED_CH (2 ^ n.val)
  let s2 := (s1.fireSource (0x40 + n.val) (s.tick32 ++ 0#16)).cmpMode n
  if wake then s2.wakeSource 0 else s2

/-- Whether every channel of a lower number that fires at this edge has fired (08 Table 8.4). -/
def State.cmpTurn (s : State) (n : Fin 16) : Bool := (indices 16).all (fun m => n ≤ m || !s.cmpDue m)

/-- COMPARE_FIRE (08 R341, R346 to R348, R364): channels that fire at one edge do so in ascending order. -/
def execCompareFire (n : Fin 16) (s : State) : Res := ok (if s.on && s.cmpDue n && s.cmpTurn n then s.cmpFire n else s)

/-- Whether a write to a channel waits that was accepted before the last tick edge, at which it is applied (08 R342). -/
def State.cmpReady (s : State) (n : Fin 16) : Bool := (vget s.cmpw n).any (fun w => w.1 < s.now)

/-- The writes due at this edge are applied to a channel whose comparison is over (08 R342 to R345); BUSY stays while a later one waits. -/
def State.cmpApplyAll (s : State) (n : Fin 16) : State :=
  let s1 := ((vget s.cmpw n).filter (fun w => w.1 < s.now)).foldl (fun acc w => acc.cmpApply n w.2) (s.cmpJudged n)
  let rest := (vget s.cmpw n).filter (fun w => s.now ≤ w.1)
  let s2 : State := { s1 with cmpw := vset s1.cmpw n rest }
  if rest.isEmpty then s2.clrFld (F.CMP_CTL_BUSY n.val) else s2

/-- COMPARE_WRITE_APPLY (08 R342, R364): a fire due at this edge uses the old configuration and comes first, in its turn. -/
def execCompareWriteApply (n : Fin 16) (s : State) : Res :=
  if !s.on || !s.cmpReady n then ok s
  else if !s.cmpDue n then ok (s.cmpApplyAll n)
  else if s.cmpTurn n then ok ((s.cmpFire n).cmpApplyAll n) else ok s

/-- What the last tick edge still owes to the compare channels: every fire in ascending order, then every write (08 R341, R342, R364). -/
def State.cmpEdgeDone (s : State) : State :=
  let s1 := (indices 16).foldl (fun acc n => if acc.cmpDue n then acc.cmpFire n else acc) s
  (indices 16).foldl (fun acc n => if acc.cmpReady n then acc.cmpApplyAll n else acc) s1

/-- Whether the GNSS island drives 1 PPS pulses (08 R349, R350; 13 R567). -/
def State.ppsDriven (s : State) : Bool :=
  s.has .gnss && s.lit .gnss && 1 ≤ s.fld F.GNS_PPSSTAT_STATE && s.fld F.GNS_PPSSTAT_STATE ≤ 3

/-- PPS_CAPTURE (08 R349, R350): while the GNSS island drives pulses a rising edge captures the whole time base. -/
def execPpsCapture (s : State) : Res :=
  if s.on && s.ppsDriven then
    let s1 := if s.flag F.TMB_PPSST_NEW then s.setBit F.TMB_PPSST_OVR else s
    ok (((s1.setFld F.TMB_PPSLO_LO (s.timeBase.toNat % 2 ^ 32)).setFld F.TMB_PPSHI_HI (s.timeBase.toNat / 2 ^ 32)).setBit F.TMB_PPSST_NEW)
  else ok s

end Sys2Proof.Machine
end

