-- ==== Sys2Proof/Machine/Counters.lean ====
section
/-! DEFINITION. The general counters (08 R351 to R363). -/

namespace Sys2Proof.Machine

/-- A counter's prescaler. -/
def State.pre (s : State) (n : Fin 8) : Prescaler := vget s.cnt n
/-- The state with a counter's prescaler replaced. -/
def State.setPre (s : State) (n : Fin 8) (p : Prescaler) : State := { s with cnt := vset s.cnt n p }

/-- Whether a counter is an armed source: it runs with its event enabled (05 Table 5.2). -/
def State.counterArmed (s : State) (n : Fin 8) : Bool :=
  s.flag (F.CNT_CTL_RUN n.val) && (s.flag (F.CNT_CTL_CMPEV n.val) || s.flag (F.CNT_CTL_OVFEV n.val))

/-- A counter that was not armed in `old` and is now restarts the snuff hold (05 Table 5.7). -/
def State.counterArms (s old : State) (n : Fin 8) : State :=
  if s.counterArmed n && !old.counterArmed n then s.armedNow (0x50 + n.val) else s

/-- RUN from 0 to 1: the accumulator is cleared and the division restarts (08 R352); with SRC = 1 XT32M starts (R354) and the counter holds
until it is confirmed (R366). -/
def State.counterStart (s : State) (n : Fin 8) : State :=
  if s.flag (F.CNT_CTL_RUN n.val) then s
  else
    (s.setBit (F.CNT_CTL_RUN n.val)).setPre n
      { s.pre n with acc := 0, long := false, stopped := s.fld (F.CNT_CTL_SRC n.val) == 1 && !s.flag F.CLK_STAT_XT32MOK,
                     wrapped := false, edges := 0, due := false }

/-- COUNTER_RUN (08 R352, R354). -/
def execCounterRun (n : Fin 8) (s : State) : Res :=
  ok (if s.steadyRuns && s.has .cnt then (s.counterStart n).counterArms s n else s)

/-- Whether CNTIN0–CNTIN3 number `k` reaches the counters: pad P8 + k has its alternate function (17 R684). -/
def State.cntinOn (s : State) (k : Nat) : Bool := s.fld (F.PIN_CFG_FUNC (8 + k)) == 2

/-- Whether the counters work: their unit is there and the steady island is lit (03 Table 3.4; 08 R368). -/
def State.countersUp (s : State) : Bool := s.on && s.has .cnt && s.lit .steady

/-- Whether a running counter counts: its source runs, and in Dim it is not the steady clock (08 Table 8.2, R366). -/
def State.counterCounts (s : State) (n : Fin 8) : Bool :=
  s.countersUp && s.flag (F.CNT_CTL_RUN n.val) && !(s.pre n).stopped &&
    (s.pstate ≥ 3 || (s.pstate == 2 && s.fld (F.CNT_CTL_SRC n.val) != 2))

/-- The prescaler as an output pulse of it is counted (08 R352). -/
def Prescaler.pulse (p : Prescaler) (f : Nat) (ovf : Bool) : Prescaler :=
  { p with acc := BitVec.ofNat 16 (p.acc.toNat + f), long := 2 ^ 16 ≤ p.acc.toNat + f, wrapped := ovf, due := false }

/-- The prescaler at an edge of its source: after N edges, or N + 1 where the last addition to ACC carried, an output pulse (08 R352). -/
def Prescaler.edge (p : Prescaler) (n : Nat) : Prescaler :=
  if n + (if p.long then 1 else 0) ≤ p.edges + 1 then { p with edges := 0, due := true } else { p with edges := p.edges + 1 }

/-- One count: overflow, compare, events (08 R351, R355, R357, R358, Table 8.4). -/
def State.count (s : State) (n : Fin 8) : State :=
  let c : Word := BitVec.ofNat 32 (s.fld (F.CNT_COUNT_COUNT n.val)) + 1
  let ovf : Bool := c == 0
  let cmp : Bool := c.toNat == s.fld (F.CNT_CMPV_CMPV n.val)
  let s1 := (s.setFld (F.CNT_COUNT_COUNT n.val) c.toNat).setPre n ((s.pre n).pulse (s.fld (F.CNT_DIV_F n.val)) ovf)
  let s2 := if cmp then s1.setBit (F.CNT_STAT_CMPF n.val) else s1
  let s3 := if ovf then s2.setBit (F.CNT_STAT_OVF n.val) else s2
  let s4 := if cmp && s.flag (F.CNT_CTL_CMODE n.val) then
      s3.setFld (F.CNT_CMPV_CMPV n.val) (s.fld (F.CNT_CMPV_CMPV n.val) + s.fld (F.CNT_PER_PER n.val)) else s3
  if (cmp && s.flag (F.CNT_CTL_CMPEV n.val)) || (ovf && s.flag (F.CNT_CTL_OVFEV n.val)) then s4.fireSteady (0x50 + n.val)
  else s4

/-- An output pulse that has come is counted, where one has. -/
def State.countDue (s : State) (n : Fin 8) : State := if (s.pre n).due then s.count n else s

/-- A capture (08 R359, Table 8.4): the count after an increment of the same cycle. -/
def State.capture (s : State) (n : Fin 8) : State :=
  let s0 := s.countDue n
  let s1 := if s0.flag (F.CNT_STAT_CAPNEW n.val) then s0.setBit (F.CNT_STAT_CAPOVR n.val) else s0
  ((s1.setFld (F.CNT_CAP_CAP n.val) (s0.fld (F.CNT_COUNT_COUNT n.val))).setBit (F.CNT_STAT_CAPNEW n.val)).setPre n
    { s1.pre n with capDue := false }

/-- COUNTER_CAPTURE (08 R359): an active edge of the capture signal has come. -/
def execCounterCapture (n : Fin 8) (s : State) : Res := ok (if s.countersUp && (s.pre n).capDue then s.capture n else s)

/-- An edge of a count source reaches a counter (08 R352, R353): an output pulse of an earlier edge is counted first. -/
def State.sourceEdge (s : State) (n : Fin 8) : State :=
  if s.counterCounts n then
    let s1 := s.countDue n
    s1.setPre n ((s1.pre n).edge (max 1 (s1.fld (F.CNT_DIV_N n.val))))
  else s

/-- An edge of source `src` (08 Table 8.2) reaches every counter that has it and that `p` lets through. -/
def State.srcEdges (s : State) (src : Nat) (p : Fin 8 → Bool) : State :=
  ((indices 8).filter (fun n => s.fld (F.CNT_CTL_SRC n.val) == src && p n)).foldl State.sourceEdge s

/-- COUNTER_INCREMENT (08 R351, R352, R355, R357, R358): the output pulse that has come is counted. Since no row of the table brings the edges
of XT32M, the command is one of them where a counter of XT32M has no pulse to count: the edge reaches every such counter, and the pulse that it
produces on this one is counted (DEDUCED, log 106). -/
def execCounterIncrement (n : Fin 8) (s : State) : Res :=
  if !s.countersUp then ok s
  else if (s.pre n).due then ok (s.count n)
  else if s.counterCounts n && s.fld (F.CNT_CTL_SRC n.val) == 1 then ok ((s.srcEdges 1 (fun _ => true)).countDue n)
  else ok s

/-- An active edge of capture signal `sel` (08 Table 8.6) reaches every counter that has it and that `p` lets through; one that finds an earlier
edge not yet taken has that taken first. -/
def State.capEdges (s : State) (sel : Nat) (p : Fin 8 → Bool) : State :=
  if s.countersUp && s.pstate ≥ 2 then
    ((indices 8).filter (fun n => s.fld (F.CNT_CTL_CAPSEL n.val) == sel && p n)).foldl (fun acc n =>
      let s1 := if (acc.pre n).capDue then acc.capture n else acc
      s1.setPre n { s1.pre n with capDue := true }) s
  else s

/-- A level change of CNTIN `k` (08 R353, R359; 17 R688): CNT_CTL.EDGE selects its polarity. -/
def State.cntinEdge (s : State) (k : Nat) (level : Bool) : State :=
  if s.cntinOn k then
    let p (n : Fin 8) : Bool := s.flag (F.CNT_CTL_EDGE n.val) != level
    (s.srcEdges (3 + k) p).capEdges (2 + k) p
  else s

/-- A rising edge of the PPS signal (08 R353, R359, R350). -/
def State.ppsEdge (s : State) : State :=
  if s.ppsDriven then (s.srcEdges 7 (fun _ => true)).capEdges 1 (fun _ => true) else s

/-- RUN to 0. A pulse that has come is counted; no later edge is. -/
def State.counterStop (s : State) (n : Fin 8) : State := ((s.countDue n).clrFld (F.CNT_CTL_RUN n.val)).xt32mSettle

/-- A value applied to CNT_CMPV, LATE judged against CNT_COUNT after a count that is due (08 R355, R356, Table 8.4). -/
def State.setCmpv (s0 : State) (n : Fin 8) (v : Word) : State :=
  let s := s0.countDue n
  let s1 := s.setFld (F.CNT_CMPV_CMPV n.val) v.toNat
  if passed v (BitVec.ofNat 32 (s.fld (F.CNT_COUNT_COUNT n.val))) then s1.setBit (F.CNT_STAT_LATE n.val) else s1

/-- A write of CNT_CREL (08 R355): the lead is added to CNT_COUNT after a count that is due. -/
def State.setCrel (s0 : State) (n : Fin 8) (d : Word) : State :=
  let s := s0.countDue n
  s.setCmpv n (BitVec.ofNat 32 (s.fld (F.CNT_COUNT_COUNT n.val)) + leadOf d)

/-- A write of CNT_COUNT (08 R360). -/
def State.setCount (s : State) (n : Fin 8) (v : Word) : State :=
  if s.flag (F.CNT_CTL_RUN n.val) then s else s.setFld (F.CNT_COUNT_COUNT n.val) v.toNat

/-- Whether a write to the CNT block acts: a thread runs and the counters are there (03 Table 3.4). -/
def State.cntWrites (s : State) : Bool := s.steadyRuns && s.has .cnt

/-- CNT_CMPV_WRITE (08 R355). -/
def execCntCmpvWrite (n : Fin 8) (v : Word) (s : State) : Res := ok (if s.cntWrites then s.setCmpv n v else s)
/-- CNT_CREL (08 R355). -/
def execCntCrel (n : Fin 8) (d : Word) (s : State) : Res := ok (if s.cntWrites then s.setCrel n d else s)
/-- CNT_COUNT_WRITE (08 R360). -/
def execCntCountWrite (n : Fin 8) (v : Word) (s : State) : Res := ok (if s.cntWrites then s.setCount n v else s)

/-- The immediate fields of CNT_CTL as a write leaves them (08 Table 8.6). -/
def State.counterCtl (s : State) (n : Fin 8) (v : Word) : State :=
  let s1 := ((s.setFld (F.CNT_CTL_CMPEV n.val) (fldGet v (F.CNT_CTL_CMPEV n.val))).setFld (F.CNT_CTL_OVFEV n.val)
    (fldGet v (F.CNT_CTL_OVFEV n.val))).setFld (F.CNT_CTL_CMODE n.val) (fldGet v (F.CNT_CTL_CMODE n.val))
  (if v.getLsbD 0 then s1.counterStart n else s1.counterStop n).counterArms s n

/-- Whether a counter's sealed settings differ from its live ones (08 R361). -/
def State.counterDiffers (s : State) (n : Fin 8) : Bool :=
  let a := 0x40008100 + 0x20 * n.val
  (s.sld a &&& 0x7710#32) != (s.reg a &&& 0x7710#32) || s.sld (a + 4) != s.reg (a + 4)

/-- The CNT commit point (08 R361): every counter that changes is stopped or has just produced its overflow count. -/
def State.cntCommitDue (s : State) : Bool :=
  (indices 8).all (fun n => !s.counterDiffers n || !s.flag (F.CNT_CTL_RUN n.val) || (s.pre n).wrapped)

/-- The division of a counter starts anew: ACC := 0 and no edge counted yet (08 R352). A pulse that has come is counted under the old
settings (08 R362). -/
def State.divRestart (s : State) (n : Fin 8) : State :=
  let s1 := s.countDue n
  s1.setPre n { s1.pre n with acc := 0, long := false, edges := 0 }

/-- One counter's settings committed (08 R352, R362, R363): ACC := 0 and the division restarts, whether the counter's own settings change or
not (log 27); N = 0 commits as 1 with F = 0. -/
def State.counterCommit (s0 : State) (n : Fin 8) : State :=
  let s := s0.divRestart n
  if !s.counterDiffers n then s
  else
    let a := 0x40008100 + 0x20 * n.val
    let zero := fldGet (s.sld (a + 4)) (F.CNT_DIV_N n.val) = 0
    let s1 := s.setReg a ((s.reg a &&& ~~~0x7710#32) ||| (s.sld a &&& 0x7710#32))
    let s2 := s1.setReg (a + 4) (if zero then 0x00010000#32 else s.sld (a + 4))
    let s3 := if zero then s2.setBit (F.CNT_STAT_BADDIV n.val) else s2
    let hold := s3.flag (F.CNT_CTL_RUN n.val) && s3.fld (F.CNT_CTL_SRC n.val) == 1 && !s3.flag F.CLK_STAT_XT32MOK
    s3.setPre n { s3.pre n with stopped := hold, wrapped := false }

/-- The whole CNT set committed. -/
def State.cntCommit (s : State) : State := ((indices 8).foldl State.counterCommit s).xt32mSettle

end Sys2Proof.Machine
end

