-- ==== Sys2Proof/Machine/Calendar.lean ====
section
/-! DEFINITION. The backup domain (09): the calendar, its shadow, its flags, the tamper-time latch and the supply switch. -/

namespace Sys2Proof.Machine

/-- The days of a month (09 R377). -/
def monthDays (y m : Nat) : Nat :=
  if m = 2 then (if y % 4 = 0 ∧ y ≠ 2100 then 29 else 28)
  else if m = 4 ∨ m = 6 ∨ m = 9 ∨ m = 11 then 30 else 31

/-- The calendar one SUB later, and whether a SEC carry and the wrap at the end of 2199 came with it (09 R376 to R379). -/
def Calendar.next (c : Calendar) : Calendar × Bool × Bool :=
  if c.sub < 1023 then ({ c with sub := c.sub + 1 }, false, false)
  else if c.sec < 59 then ({ c with sub := 0, sec := c.sec + 1 }, true, false)
  else if c.min < 59 then ({ c with sub := 0, sec := 0, min := c.min + 1 }, true, false)
  else if c.hour < 23 then ({ c with sub := 0, sec := 0, min := 0, hour := c.hour + 1 }, true, false)
  else
    let w := c.wday % 7 + 1
    let d : Calendar := { c with sub := 0, sec := 0, min := 0, hour := 0, wday := w }
    if c.day < monthDays c.year c.month then ({ d with day := c.day + 1 }, true, false)
    else if c.month < 12 then ({ d with day := 1, month := c.month + 1 }, true, false)
    else if c.year < 2199 then ({ d with day := 1, month := 1, year := c.year + 1 }, true, false)
    else (Calendar.reset, true, true)

/-- The words of CAL_SUB, CAL_TIME and CAL_DATE for a calendar (09 Table 9.5). -/
def Calendar.subWord (c : Calendar) : Word := BitVec.ofNat 32 c.sub
def Calendar.timeWord (c : Calendar) : Word := BitVec.ofNat 32 (c.sec + c.min * 0x100 + c.hour * 0x10000)
def Calendar.dateWord (c : Calendar) : Word := BitVec.ofNat 32 (c.day + c.month * 0x100 + c.wday * 0x1000 + c.year * 0x10000)

/-- The state with the backup domain's record replaced. -/
def State.setBak (s : State) (b : Backup) : State := { s with bak := b }

/-- A read of the shadow group while FROZEN = 0 (09 R380). -/
def State.calFreeze (s : State) : State :=
  if s.flag F.CAL_STAT_FROZEN then s
  else
    let c := s.bak.cal
    let s1 := (((s.setReg F.CAL_SUB_SUB.addr c.subWord).setReg F.CAL_TIME_SEC.addr c.timeWord).setReg F.CAL_DATE_DAY.addr
      c.dateWord).setReg F.CAL_FTICK_TICK.addr s.tick32
    (s1.setBak { s1.bak with age := 0 }).setBit F.CAL_STAT_FROZEN

/-- A read of CAL_CLOSE: AGE, and the freeze is released (09 R382). -/
def State.calClose (s : State) : Word × State :=
  if s.flag F.CAL_STAT_FROZEN then (BitVec.ofNat 32 s.bak.age, s.clrFld F.CAL_STAT_FROZEN) else (0, s)

/-- CAL_FREEZE_READ (09 R380). -/
def execCalFreezeRead (s : State) : Res := ok (if s.steadyRuns then s.calFreeze else s)

/-- CAL_CLOSE_READ (09 R382). -/
def execCalCloseRead (s : State) : Res := ok (if s.steadyRuns then s.calClose.2 else s)

/-- HELDLONG (09 R383): a freeze held for 1,024 SUB edges. -/
def execHeldlong (s : State) : Res :=
  ok (if s.flag F.CAL_STAT_FROZEN && 1024 ≤ s.bak.age then s.setBit F.CAL_STAT_HELDLONG else s)

/-- What a SUB edge does to the backup domain beside the calendar: its oscillator runs, the age of a freeze and the edges on VBAK count (09
R382, R390, R398). -/
def Backup.edge (b : Backup) (frozen : Bool) : Backup :=
  { b with oscStopped := false, age := if frozen then min 2047 (b.age + 1) else b.age, sense := if b.onVbak then b.sense + 1 else 0 }

/-- The threshold of CAL_CTL.LBVTH in mV (09 Table 9.5). -/
def lbvMv (th : Nat) : Nat := match th % 4 with | 0 => 1900 | 1 => 2000 | 2 => 2200 | _ => 2400

/-- The comparison of VBAK at a SEC carry (09 R393, Table 9.3). -/
def State.lbvCompare (s : State) (mv : Nat) (switching : Bool) : State :=
  if !s.flag F.CAL_CTL_LBVEN || switching then s
  else
    let low : Bool := mv < lbvMv (s.fld F.CAL_CTL_LBVTH)
    let s1 := s.setFld F.CAL_STAT_VBLOW (if low then 1 else 0)
    let s2 := if low && s.bak.lowOnce then s1.setBit F.CAL_STAT_LBV else s1
    s2.setBak { s2.bak with lowOnce := low }

/-- Whether a written date is one (09 R385, Table 9.1). -/
def dateOk (v : Word) : Bool :=
  let d := v.toNat % 32
  let m := v.toNat / 0x100 % 16
  let y := v.toNat / 0x10000 % 4096
  2000 ≤ y && y ≤ 2199 && 1 ≤ m && m ≤ 12 && 1 ≤ d && d ≤ monthDays y m

/-- Whether a written time is one. -/
def timeOk (v : Word) : Bool := v.toNat % 64 < 60 && v.toNat / 0x100 % 64 < 60 && v.toNat / 0x10000 % 32 < 24

/-- A write of CAL_STIME or CAL_SDATE is staged, or ignored whole with BADSET (09 R385). -/
def State.calSet (s : State) (date : Bool) (v : Word) : State :=
  if date then (if dateOk v then s.setStg 0x50000028 (v &&& 0x0FFF0F1F#32) else s.setBit F.CAL_STAT_BADSET)
  else (if timeOk v then s.setStg 0x50000024 (v &&& 0x001F3F3F#32) else s.setBit F.CAL_STAT_BADSET)

/-- CAL_SET_WRITE (09 R385). -/
def execCalSetWrite (date : Bool) (v : Word) (s : State) : Res := ok (if s.steadyRuns then s.calSet date v else s)

/-- Days since 2000-01-01, a Saturday. -/
def dayNumber (y m d : Nat) : Nat :=
  ((List.range (y - 2000)).map (fun i => if monthDays (2000 + i) 2 = 29 then 366 else 365)).sum +
    ((List.range (m - 1)).map (fun i => monthDays y (i + 1))).sum + (d - 1)

/-- WDAY of a date, Monday = 1 (09 Table 9.1, R386). -/
def weekday (y m d : Nat) : Nat := (dayNumber y m d + 5) % 7 + 1

/-- The sealed set becomes the calendar (09 R386, R387). -/
def State.calCommit (s : State) : State :=
  let t := (s.sld 0x50000024).toNat
  let d := (s.sld 0x50000028).toNat
  let day := d % 32
  let month := d / 0x100 % 16
  let year := d / 0x10000 % 4096
  let c : Calendar :=
    ⟨(s.sld 0x50000020).toNat % 1024, t % 64, t / 0x100 % 64, t / 0x10000 % 32, weekday year month day, day, month, year⟩
  s.setBak { s.bak with cal := c }

/-- The first SUB edge after a SEAL write (09 R386): the sealed set becomes the calendar, and the edge counts for the freeze's age and the
backup sense as any other. -/
def State.calCommitEdge (s : State) : State :=
  (s.calCommit.setBak (s.calCommit.bak.edge (s.flag F.CAL_STAT_FROZEN))).clrFld (F.SEAL_PEND 0x5000002C)

/-- A SUB edge that no set commits at (09 R376 to R379, R382, R390, R393): one SUB, with what a SEC carry brings. -/
def State.calCarry (s : State) (vbakMv : Nat) (switching : Bool) : State :=
  let (c, sec, wrap) := s.bak.cal.next
  let s1 := s.setBak { s.bak.edge (s.flag F.CAL_STAT_FROZEN) with cal := c }
  let s2 := if wrap then s1.setBit F.CAL_STAT_WRAP else s1
  if sec then s2.lbvCompare vbakMv switching else s2

/-- CALENDAR_SUB_CARRY (09 R376 to R379, R382, R386, R390, R393): a SUB edge, which is the CAL commit point. -/
def execCalendarSubCarry (vbakMv : Nat) (switching : Bool) (s : State) : Res :=
  ok (if s.flag (F.SEAL_PEND 0x5000002C) then s.calCommitEdge else s.calCarry vbakMv switching)

/-- BACKUP_OSC_FAIL (09 R389, R390): more than four cycles missed. -/
def execBackupOscFail (missed : Nat) (s : State) : Res :=
  if 4 < missed then
    ok (((s.setBit F.CAL_STAT_OSF).orFld F.CAL_STAT_OSFWHY 2).setBak { s.bak with oscStopped := true })
  else ok s

/-- The backup domain after a loss of state (09 R404, R405). -/
def State.backupRestart (s : State) : State :=
  let s1 := s.resetRegs (fun a => a / 0x1000 == 0x50000)
  s1.setBak { Backup.reset with onVbak := s.bak.onVbak }

/-- BACKUP_STATE_LOSS (09 R401, R404, R405): without VDD the domain's supply falls below 1.45 V. -/
def execBackupStateLoss (s : State) : Res := ok (if s.power.vdd then s else s.backupRestart)

/-- SUPPLY_SWITCH_VBAK (09 R373, Table 9.3): VDD has fallen to VBOR; a freeze is cleared. -/
def execSupplySwitchVbak (s : State) : Res :=
  if s.power.vdd then ok s
  else ok ((s.setBak { s.bak with onVbak := true, sense := 0 }).clrFld F.CAL_STAT_FROZEN)

/-- SUPPLY_SWITCH_VDD (09 R373): VDD has risen to VPOR. -/
def execSupplySwitchVdd (s : State) : Res :=
  if s.power.vdd then ok (s.setBak { s.bak with onVbak := false, sense := 0 }) else ok s

/-- A tamper event at the latch (09 R395, R396, Table 9.5). -/
def State.tamperLatch (s : State) (loop : Nat) (passive noVdd : Bool) : State :=
  if s.flag F.CAL_TSRC_VALID then s.satInc F.CAL_TSRC_MORE
  else
    let c := s.bak.cal
    let s1 := ((s.setReg 0x50000040 c.subWord).setReg 0x50000044 c.timeWord).setReg 0x50000048 c.dateWord
    ((((s1.setFld F.CAL_TSRC_LOOP loop).setFld F.CAL_TSRC_PASSIVE (if passive then 1 else 0)).setFld F.CAL_TSRC_NOVDD
      (if noVdd then 1 else 0)).setFld F.CAL_TSRC_CALBAD (s.fld F.CAL_STAT_OSF)).setBit F.CAL_TSRC_VALID

/-- BACKUP_SENSE_CHECK (09 R398; 16 R658): every 32 SUB edges on VBAK each enabled loop is checked with a chip of 1 and one of 0; `high`
and `low` are the samples. A mismatch in either is a tamper event; lower loops come first (Table 9.3). -/
def execBackupSenseCheck (high low : BitVec 8) (s : State) : Res :=
  if s.bak.onVbak && 32 ≤ s.bak.sense then
    let s1 := s.setBak { s.bak with sense := 0 }
    ok ((indices 8).foldl (fun acc n =>
      if s.fldBit F.CAL_BSENSE_EN n.val && (!high.getLsbD n.val || low.getLsbD n.val) then acc.tamperLatch n.val true true else acc) s1)
  else ok s

/-- A write to CAL_TCLR (09 R399). -/
def State.tamperClear (s : State) (v : Word) : State :=
  if v.toNat % 256 = 0x5C then
    (((s.setReg 0x50000040 0).setReg 0x50000044 0).setReg 0x50000048 0).setReg 0x5000004C 0
  else s

/-- TAMPER_LATCH_CLEAR (09 R399). -/
def execTamperLatchClear (v : Word) (s : State) : Res := ok (if s.steadyRuns then s.tamperClear v else s)

end Sys2Proof.Machine
end

