-- ==== Sys2Proof/Machine/Aes.lean ====
section
/-! DEFINITION. AES with 128- and 256-bit keys and CCM with a 13-byte nonce, as the cipher engine applies them (12 R504, R513, R515 to R518,
R534, Table 12.2). Blocks are lists of 16 bytes in transmission order. -/

namespace Sys2Proof.Machine

/-- Multiplication by x in the field of AES. -/
def xtime (b : Byte) : Byte := if b.getLsbD 7 then (b <<< 1) ^^^ 0x1B#8 else b <<< 1

/-- Multiplication in the field of AES. -/
def gmul (a b : Byte) : Byte :=
  ((List.range 8).foldl (fun (p : Byte × Byte) i => (xtime p.1, if b.getLsbD i then p.2 ^^^ p.1 else p.2)) (a, 0#8)).2

/-- The multiplicative inverse, 0 for 0: the 254th power. -/
def ginv (a : Byte) : Byte :=
  let a2 := gmul a a
  let a4 := gmul a2 a2
  let a8 := gmul a4 a4
  let a16 := gmul a8 a8
  let a32 := gmul a16 a16
  let a64 := gmul a32 a32
  let a128 := gmul a64 a64
  gmul (gmul (gmul a2 a4) (gmul a8 a16)) (gmul (gmul a32 a64) a128)

/-- A byte turned left. -/
def rotl8 (b : Byte) (n : Nat) : Byte := (b <<< n) ||| (b >>> (8 - n))

/-- The S-box. -/
def sbox (b : Byte) : Byte :=
  let x := ginv b
  x ^^^ rotl8 x 1 ^^^ rotl8 x 2 ^^^ rotl8 x 3 ^^^ rotl8 x 4 ^^^ 0x63#8

/-- The inverse S-box. -/
def sboxInv (b : Byte) : Byte := ginv (rotl8 b 1 ^^^ rotl8 b 3 ^^^ rotl8 b 6 ^^^ 0x05#8)

/-- Byte-wise exclusive or. -/
def xorBytes (a b : List Byte) : List Byte := List.zipWith (· ^^^ ·) a b

/-- One more word of the key schedule: `i` is its number, `nk` the key's words, `l` the words so far, latest first. -/
def nextKeyWord (nk i : Nat) (rcon : Byte) (l : List (List Byte)) : List Byte :=
  let prev := l.headD []
  let back := l.getD (nk - 1) []
  let t :=
    if i % nk = 0 then
      (match prev with
       | [a, b, c, d] => [sbox b ^^^ rcon, sbox c, sbox d, sbox a]
       | x => x)
    else if nk > 6 ∧ i % nk = 4 then prev.map sbox else prev
  xorBytes back t

/-- The key schedule from word `i` on, `n` words more. -/
def keyWords (nk i : Nat) (rcon : Byte) (l : List (List Byte)) : Nat → List (List Byte)
  | 0 => l
  | n + 1 => keyWords nk (i + 1) (if i % nk = 0 then xtime rcon else rcon) (nextKeyWord nk i rcon l :: l) n

/-- The number of rounds for a key. -/
def aesRounds (key : List Byte) : Nat := key.length / 4 + 6

/-- The round keys, 16 bytes each. -/
def roundKeys (key : List Byte) : List (List Byte) :=
  let nk := key.length / 4
  let w0 := ((List.range nk).map (fun i => (key.drop (4 * i)).take 4)).reverse
  let all := (keyWords nk nk 1#8 w0 (4 * (aesRounds key + 1) - nk)).reverse
  (List.range (aesRounds key + 1)).map (fun r => ((all.drop (4 * r)).take 4).flatten)

/-- The rows of a block rotated left by their number. -/
def shiftRows (l : List Byte) : List Byte := (List.range 16).map (fun i => l.getD ((i + 4 * (i % 4)) % 16) 0)
/-- The inverse of `shiftRows`. -/
def shiftRowsInv (l : List Byte) : List Byte := (List.range 16).map (fun i => l.getD ((i + 12 * (i % 4)) % 16) 0)

/-- Each column of a block multiplied by the circulant of four coefficients. -/
def mixWith (c : List Byte) (l : List Byte) : List Byte :=
  (List.range 16).map (fun i =>
    (List.range 4).foldl (fun acc j => acc ^^^ gmul (c.getD ((j + 4 - i % 4) % 4) 0) (l.getD (i / 4 * 4 + j) 0)) 0#8)

/-- AES encryption of one block. -/
def aesEnc (key block : List Byte) : List Byte :=
  let ks := roundKeys key
  let n := aesRounds key
  let s0 := xorBytes block (ks.getD 0 [])
  let s1 := (List.range (n - 1)).foldl (fun s r =>
    xorBytes (mixWith [2#8, 3#8, 1#8, 1#8] (shiftRows (s.map sbox))) (ks.getD (r + 1) [])) s0
  xorBytes (shiftRows (s1.map sbox)) (ks.getD n [])

/-- AES decryption of one block. -/
def aesDec (key block : List Byte) : List Byte :=
  let ks := roundKeys key
  let n := aesRounds key
  let s0 := xorBytes block (ks.getD n [])
  let s1 := (List.range (n - 1)).foldl (fun s r =>
    mixWith [14#8, 11#8, 13#8, 9#8] (xorBytes ((shiftRowsInv s).map sboxInv) (ks.getD (n - 1 - r) []))) s0
  xorBytes ((shiftRowsInv s1).map sboxInv) (ks.getD 0 [])

/-- Bytes in blocks of 16, the last filled with zeros. -/
def blocksOf (l : List Byte) : List (List Byte) :=
  (List.range ((l.length + 15) / 16)).map (fun i =>
    let b := (l.drop (16 * i)).take 16
    b ++ List.replicate (16 - b.length) 0#8)

/-- The CBC-MAC of blocks with a zero initial value. -/
def cbcMac (key : List Byte) (bs : List (List Byte)) : List Byte :=
  bs.foldl (fun y b => aesEnc key (xorBytes y b)) (List.replicate 16 0#8)

/-- The big-endian bytes of a number. -/
def beBytes (n k : Nat) : List Byte := (List.range k).map (fun i => BitVec.ofNat 8 (n / 256 ^ (k - 1 - i)))

/-- The length field of the header blocks (12 Table 12.2). -/
def aadField (a : Nat) : List Byte := if a ≤ 65279 then beBytes a 2 else 0xFF#8 :: 0xFE#8 :: beBytes a 4

/-- The block B0 (12 Table 12.2). -/
def ccmB0 (nonce : List Byte) (mcode a p : Nat) : List Byte :=
  BitVec.ofNat 8 ((if a > 0 then 0x40 else 0) + 8 * mcode + 1) :: nonce ++ beBytes p 2

/-- The counter block Ctr_i. -/
def ccmCtr (nonce : List Byte) (i : Nat) : List Byte := 0x01#8 :: nonce ++ beBytes i 2

/-- Y of 12 R516. -/
def ccmMac (key nonce aad pay : List Byte) (mcode : Nat) : List Byte :=
  cbcMac key (ccmB0 nonce mcode aad.length pay.length ::
    (if aad.isEmpty then [] else blocksOf (aadField aad.length ++ aad)) ++ blocksOf pay)

/-- Bytes combined with S_1, S_2, … (12 R516). -/
def ccmStream (key nonce l : List Byte) : List Byte :=
  xorBytes l ((List.range ((l.length + 15) / 16)).flatMap (fun i => aesEnc key (ccmCtr nonce (i + 1))))

/-- The tag T of `m` bytes (12 R516). -/
def ccmTag (key nonce aad pay : List Byte) (mcode m : Nat) : List Byte :=
  (xorBytes (ccmMac key nonce aad pay mcode) (aesEnc key (ccmCtr nonce 0))).take m

end Sys2Proof.Machine
end

