-- ==== Sys2Proof/Machine/Flash.lean ====
section
/-! DEFINITION. The flash controller (07): ring operations and their checks, units and sectors, suspension, scrub. Reservation
records are in Nonce.lean. -/

namespace Sys2Proof.Machine

/-- Status codes of Table 7.2. -/
abbrev fsProtected : Nat := 0x20
abbrev fsNotBlank : Nat := 0x21
abbrev fsProgFail : Nat := 0x22
abbrev fsEraseFail : Nat := 0x23
abbrev fsMismatch : Nat := 0x24
abbrev fsFtag : Nat := 0x25
abbrev fsFalign : Nat := 0x26
abbrev fsBufLoc : Nat := 0x27
abbrev fsCorrected : Nat := 0x28
abbrev fsUncorr : Nat := 0x29

/-- Whether the controller is at an operation boundary: nothing runs, no finished operation still waits for its completion, no
reservation is pending (07 R295, R304, R321). -/
def State.flashIdle (s : State) : Bool :=
  s.flash.op.isNone && s.flash.resv.isEmpty && !s.flag F.FLC_STAT_BUSYA && !s.flag F.FLC_STAT_BUSYB

/-- Whether a CHAN 0 descriptor has a field that must be zero, or an operation code that is none (07 R296; 06 R270). -/
def Desc.flashBadOp (d : Desc) : Bool :=
  !(d.op == 1 || d.op == 2 || d.op == 3) || d.uflags != 0 || d.uparam != 0 || d.lenTop != 0 || d.opd 6 != 0 || d.opd 7 != 0 ||
    (d.op != 2 && d.opd 5 != 0) ||
    (d.op == 2 && (d.buf != 0 || d.len != 0 || d.opd 5 == 0 || d.opd 5 > 256))

/-- The sectors that a descriptor names. -/
def Desc.flashSectors (d : Desc) : List Nat :=
  (List.range (sectorOf (d.opd 4 + d.flashSize - 1) + 1 - sectorOf (d.opd 4))).map (fun i => sectorOf (d.opd 4) + i)

/-- The first source word tagged KEY, as its offset (07 R297). -/
def State.firstKey (s : State) (a n : Nat) : Option Nat :=
  ((List.range (n / 4)).find? (fun i => s.mem.tag (a + 4 * i) == .key)).map (· * 4)

/-- The first target unit that is not erased, as its offset (07 R297). The controller's own reads, here, in the read-back and in the erase check,
count nothing in FLC_ECC (DESIGN CHOICE, log 139). -/
def State.firstUsed (s : State) (a n : Nat) : Option Nat :=
  ((List.range (n / 16)).find? (fun i => !s.unitErased (unitOf a + i))).map (· * 16)

/-- The checks of R302 in their order: the status and RESULT of the first that applies. A parity failure of the source is met between
PROTECTED and FTAG (log 24). -/
def State.flashCheck (s : State) (d : Desc) : Option (Nat × Option Nat) :=
  let fa := d.opd 4
  if s.namesAbsent d then some (stAbsent, none)
  else if d.flashBadOp then some (stBadOp, none)
  else if s.dtagBad d then some (stDtag, none)
  else if d.op != 2 && (d.len < 16 || d.len % 16 != 0 || (d.op == 1 && d.len > 8192) || d.len > 2097152) then some (stLen, none)
  else if fa % (if d.op = 2 then 0x2000 else 16) != 0 then some (fsFalign, some 0)
  else if !inFlash fa || fa + d.flashSize > 0x08000000 + (bankOf fa + 1) * 0x200000 ||
      (d.op != 2 && (d.buf % 4 != 0 || (s.engRead d.buf d.len).badStatus == some stAddrErr)) then some (stAddrErr, none)
  else if d.op != 2 && !inSram d.buf d.len && !(Region.vigil.holds d.buf && d.buf + d.len ≤ Region.vigil.stop) then some (fsBufLoc, some 0)
  else if d.op != 3 && d.flashSectors.any (fun x => s.sectorMode x != 1) then some (fsProtected, some 0)
  else if d.op == 3 && d.flashSectors.any (fun x => s.sectorMode x == 3) then some (stXoDenied, none)
  else if d.op == 1 then
    match (s.engRead d.buf d.len).badStatus with
    | some x => some (x, none)
    | none =>
      match s.firstKey d.buf d.len with
      | some o => some (fsFtag, some o)
      | none => (s.firstUsed fa d.len).map (fun o => (fsNotBlank, some o))
  else none

/-- A unit that VERIFY compares: equal, different, or unreadable (07 R300, R291). -/
def State.verifyUnit (s : State) (fa buf : Nat) : Option Nat :=
  if s.ecc fa = .failed then some stMemPar
  else if (List.range 4).all (fun k => s.readTWord (fa + 4 * k) == s.mem.tword (buf + 4 * k)) then none
  else some fsMismatch

/-- An operation in hand from now on: its bank is busy, no suspension counted yet (07 R304, R310). -/
def State.flashBegin (s : State) (o : FlashOp) : State :=
  (({ s with flash := { s.flash with op := some o } }).busyFix).clrFld F.FLC_STAT_SUSPN

/-- Whether the controller can work on the nonce area (07 R311, R321, R328; 02 R76): no operation is suspended, flash can be read and no
forced scrub hold is on the area's bank. -/
def State.nonceUp (s : State) : Bool :=
  s.on && s.lit .steady && s.flag F.PWR_STAT_FLRDY && !s.flag F.FLC_STAT_SUSP && !s.bankHeld s.nonceBank

/-- Whether the controller can perform a reservation that is requested. -/
def State.resvReady (s : State) : Bool := !s.flash.resv.isEmpty && s.nonceUp

/-- The controller has no reservation in hand any more. -/
def State.resvEnd (s : State) : State := ({ s with flash := { s.flash with resvOn := false } }).busyFix

/-- A reservation that is requested begins: the nonce area's bank is busy (07 R320, R321). -/
def State.resvBegin (s : State) : State :=
  if s.resvReady then ({ s with flash := { s.flash with resvOn := true } }).busyFix else s

/-- An operation that ran is over with a status and RESULT; its bank stays busy until its completion is written (07 R304). A reservation that waits
begins at this boundary (07 R320, R321). -/
def State.flashOver (s : State) (o : FlashOp) (st : Nat) (r : Option Nat) : State :=
  (({ s with flash := { s.flash with op := none, ended := some (o.desc.ring, o.desc.idx, o.bank) } }).finishOpt o.desc st r).resvBegin

/-- The operation of a CHAN 0 descriptor, nothing of it done yet. -/
def Desc.flashOp (d : Desc) : FlashOp :=
  match d.op with
  | 2 => ⟨d, .erase, sectorOf (d.opd 4), d.opd 5, 0, false, false⟩
  | 3 => ⟨d, .verify, unitOf (d.opd 4), d.len / 16, 0, false, false⟩
  | _ => ⟨d, .program, unitOf (d.opd 4), d.len / 16, 0, false, false⟩

/-- A CHAN 0 descriptor that has been taken: refused under R302, or started. -/
def State.flashRun (s : State) (d : Desc) : State :=
  match s.flashCheck d with
  | some (st, r) => s.finishOpt d st r
  | none => s.flashBegin d.flashOp

/-- Whether a descriptor's bank can begin an operation: flash can be read (02 R76) and no forced scrub hold is on it (07 Table 7.6). -/
def State.flashCanStart (s : State) (d : Desc) : Bool :=
  !inFlash (d.opd 4) || (s.flag F.PWR_STAT_FLRDY && !s.bankHeld (bankOf (d.opd 4)))

/-- The controller takes a CHAN 0 descriptor of one operation code, or of a code that is none, at an operation boundary (07 R295). -/
def State.flashTake (s : State) (op : Nat) : State :=
  if !s.flashIdle then s
  else s.takeWith 1 0 (fun d => (d.op == op || !(d.op == 1 || d.op == 2 || d.op == 3)) && s.flashCanStart d) State.flashRun

/-- PROGRAM (07 R297, R302). -/
def execProgram (s : State) : Res := ok (s.flashTake 1)
/-- ERASE (07 R299, R302). -/
def execErase (s : State) : Res := ok (s.flashTake 2)
/-- VERIFY (07 R300, R302). -/
def execVerify (s : State) : Res := ok (s.flashTake 3)

/-- The operation in progress is over with a status; RESULT is the units or sectors done. -/
def State.flashEnd (s : State) (o : FlashOp) (st done : Nat) : State := s.flashOver o st (some done)

/-- The operation with one more unit or sector done: over when it was the last, stopped when the steady island quiesces (07 Table 7.6).
Between two of them a requested reservation comes first (07 R321). -/
def State.flashAdvance (s : State) (o : FlashOp) : State :=
  if o.done + 1 = o.total then s.flashEnd o stOk (if o.kind = .verify then 0 else o.total)
  else
    let o1 := { o with done := o.done + 1, stopped := (s.island .steady).st == .quiescing }
    ({ s with flash := { s.flash with op := some o1 } }).resvBegin

/-- A unit with four words programmed. -/
def State.programUnit (s : State) (u : Nat) (w : List TWord) : State :=
  let s1 := s.pokes (unitAddr u) w
  { s1 with flash := { s1.flash with programmed := nsAdd s1.flash.programmed u, oneBit := nsDel s1.flash.oneBit u } }

/-- A unit left indeterminate (07 R329). -/
def State.cutUnit (s : State) (u : Nat) : State := { s with flash := { s.flash with cut := nsAdd s.flash.cut u } }

/-- A sector erased: every unit of it is an erased unit (07 R292). -/
def State.eraseSector (s : State) (sec : Nat) : State :=
  let p (u : Nat) : Bool := u / 512 == sec
  let m (a : Nat) : Bool := inFlash a && sectorOf a == sec
  { s with mem := s.mem.clear m,
           flash := { s.flash with programmed := smDrop p s.flash.programmed, oneBit := smDrop p s.flash.oneBit,
                                   twoBit := smDrop p s.flash.twoBit, cut := smDrop p s.flash.cut } }

/-- A sector left indeterminate. -/
def State.cutSector (s : State) (sec : Nat) : State :=
  { s with flash := { s.flash with cut := (List.range 512).foldl (fun c i => nsAdd c (sec * 512 + i)) s.flash.cut } }

/-- The operation in progress that is not suspended and not stopped. -/
def State.flashRunning (s : State) : Option FlashOp :=
  if s.flag F.FLC_STAT_SUSP || !s.on then none else s.flash.op.filter (fun o => !o.stopped)

/-- The operation in progress that works on a unit or a sector: no reservation has come in between (07 R321). -/
def State.flashActive (s : State) : Option FlashOp := if s.flash.resvOn then none else s.flashRunning

/-- FLASH_UNIT_PROGRAMMED (07 R298, Table 7.2): the unit takes the source's words as they stand, is read back and compared; `good` is
what the comparison finds. A unit that fails is left indeterminate (log 26). -/
def execFlashUnitProgrammed (good : Bool) (s : State) : Res :=
  match s.flashActive with
  | none => ok s
  | some o =>
    if o.kind != .program then ok s
    else
      let u := o.first + o.done
      let src := o.desc.buf + 16 * o.done
      if (List.range 4).any (fun k => s.mem.parityBad (src + 4 * k)) then ok (s.flashOver o stMemPar none)
      else
        let s1 := s.programUnit u ((List.range 4).map (fun k => s.mem.tword (src + 4 * k)))
        if good then ok (s1.flashAdvance o) else ok ((s1.cutUnit u).flashEnd o fsProgFail o.done)

/-- FLASH_SECTOR_ERASED (07 R299, Table 7.2): the sector is erased and checked. -/
def execFlashSectorErased (good : Bool) (s : State) : Res :=
  match s.flashActive with
  | none => ok s
  | some o =>
    if o.kind != .erase then ok s
    else
      let sec := o.first + o.done
      if good then ok ((s.eraseSector sec).flashAdvance o) else ok (((s.eraseSector sec).cutSector sec).flashEnd o fsEraseFail o.done)

/-- The next unit of a VERIFY (07 R300, R291): the one that differs or cannot be read ends it. -/
def State.verifyUnitDone (s : State) (o : FlashOp) : State :=
  let fa := o.desc.opd 4 + 16 * o.done
  let buf := o.desc.buf + 16 * o.done
  let s1 := if nsMem s.flash.cut (unitOf fa) then (s.noteEcc fa).fresh else s.noteEcc fa
  if (List.range 4).any (fun j => s.mem.parityBad (buf + 4 * j)) then s1.flashOver o stMemPar none
  else
    match s.verifyUnit fa buf with
    | some st => s1.flashOver o st (if st = fsMismatch then some (16 * o.done) else none)
    | none => s1.flashAdvance o

/-- A VERIFY in progress goes on by itself, a unit at a time, while the steady island runs; as it quiesces the unit in progress is finished (07
Tables 7.3 and 7.6; log 6). -/
def State.flashCycle (s : State) : State :=
  match s.flashActive with
  | none => s
  | some o =>
    if o.kind == .verify && (s.steadyRuns || (s.island .steady).st == .quiescing) && !o.pausing then s.verifyUnitDone o else s

/-- A write of 1 to FLC_CTL.SUSPEND alone (07 R308, R310, Table 7.6). -/
def State.flashSuspend (s : State) : State :=
  match s.flashRunning with
  | none => s
  | some o =>
    if o.pausing then s
    else if 32 ≤ s.fld F.FLC_STAT_SUSPN then s.setBit F.FLC_STAT_SREF
    else
      ({ s with flash := { s.flash with op := some { o with pausing := true } } }).setFld F.FLC_STAT_SUSPN (s.fld F.FLC_STAT_SUSPN + 1)

/-- SUSPEND (07 R308). -/
def execSuspend (s : State) : Res := ok (if s.steadyRuns then s.flashSuspend else s)

/-- FLASH_PAUSED (07 R308): the bank becomes readable and SUSP is set. A reservation in hand comes first (07 R321). -/
def execFlashPaused (s : State) : Res :=
  match s.flashActive with
  | none => ok s
  | some o =>
    if o.pausing then
      ok (({ s with flash := { s.flash with op := some { o with pausing := false } } }).setBit F.FLC_STAT_SUSP).busyFix
    else ok s

/-- A suspended operation goes on (07 R309). -/
def State.flashResume (s : State) : State :=
  match s.flash.op with
  | none => s
  | some _ => if s.flag F.FLC_STAT_SUSP then (s.clrFld F.FLC_STAT_SUSP).busyFix else s

/-- What a steady quiesce does to an operation as it begins (07 Table 7.6): a suspended one goes on, and a SUSPEND that has not paused its
operation yet is dropped, since the quiesce lets the unit or sector finish (DEDUCED, log 134). -/
def State.flashQuiesce (s : State) : State :=
  let s1 := s.flashResume
  match s1.flash.op with
  | none => s1
  | some o => { s1 with flash := { s1.flash with op := some { o with pausing := false } } }

/-- RESUME (07 R309, Table 7.6). -/
def execResume (s : State) : Res := ok (if s.steadyRuns then s.flashResume else s)

/-- A write to FLC_CTL (07 R308, R309, Table 7.6): both bits in one write are ignored whole. -/
def State.flashCtl (s : State) (v : Word) : State :=
  match v.toNat % 4 with
  | 1 => s.flashSuspend
  | 2 => s.flashResume
  | _ => s

/-- The number of flash units on this part (07 R289). -/
def State.flashUnits (s : State) : Nat := if s.has .bankB then 262144 else 131072

/-- Whether scrub skips a bank: it is busy or has an operation suspended on it (07 R322). -/
def State.scrubSkips (s : State) (bank : Nat) : Bool :=
  s.bankBusy bank || (match s.flash.op with | none => false | some o => o.bank == bank)

/-- A scrub record (07 R323, R324): the handed CHAN 1 descriptor completes with it; without one it is lost. -/
def State.scrubPost (s : State) (status a : Nat) : State :=
  if (s.handedTo 1 1).isSome then s.finishHanded 1 1 status (BitVec.ofNat 32 a)
  else (s.satInc F.FLC_SPASS_LOST).noBuf 1 1

/-- Scrub reads the unit at POS and moves on (07 R322, R323, Table 7.6). -/
def State.scrubUnit (s : State) : State :=
  let pos := s.fld F.FLC_SSTAT_POS
  let a := unitAddr pos
  let s1 := match s.ecc a with
    | .good => s
    | .corrected => (s.satInc F.FLC_ECC_CORR).scrubPost fsCorrected a
    | .failed => s.scrubPost fsUncorr a
  let s2 := s1.clrFld F.FLC_SSTAT_DEFER
  let s3 := if pos + 1 ≥ s.flashUnits then (s2.setFld F.FLC_SSTAT_POS 0).setFld F.FLC_SPASS_PASSES (s2.fld F.FLC_SPASS_PASSES + 1)
    else s2.setFld F.FLC_SSTAT_POS (pos + 1)
  if nsMem s.flash.cut pos then s3.fresh else s3

/-- One unit read of a forced hold (07 Table 7.6): the 16th ends it, and so does the bank's last unit. -/
def State.scrubHeld (s : State) : State :=
  if s.flash.hold = 0 then s
  else
    let s1 := s.scrubUnit
    let s2 : State := { s1 with flash := { s1.flash with hold := s.flash.hold - 1 } }
    if s1.scrubBank = s.scrubBank ∧ 1 < s.flash.hold then s2 else s2.clrFld F.FLC_STAT_FORCED

/-- The bank that scrub goes to: its own unless that is skipped, then the first unit of the other (log 25). -/
def State.scrubSeek (s : State) : Option State :=
  if !s.scrubSkips s.scrubBank then some s
  else if s.has .bankB && !s.scrubSkips (1 - s.scrubBank) then some (s.setFld F.FLC_SSTAT_POS ((1 - s.scrubBank) * 131072))
  else none

/-- SCRUB_READ (07 R322, R323, R328; 02 R76): flash can be read; foreground accesses to the bank win and are counted; the 64th forces a hold. -/
def execScrubRead (foreground : Bool) (s : State) : Res :=
  if !s.steadyRuns || !s.flag F.FLC_SCRUB_EN || !s.flag F.PWR_STAT_FLRDY then ok s
  else if s.flag F.FLC_STAT_FORCED then ok s.scrubHeld
  else
    match s.scrubSeek with
    | none => ok s
    | some s1 =>
      if !foreground then ok s1.scrubUnit
      else if s1.fld F.FLC_SSTAT_DEFER + 1 ≥ 64 then
        ok (({ s1 with flash := { s1.flash with hold := 16 } }).clrFld F.FLC_SSTAT_DEFER |>.setBit F.FLC_STAT_FORCED)
      else ok (s1.setFld F.FLC_SSTAT_DEFER (s1.fld F.FLC_SSTAT_DEFER + 1))

/-- SCRUB_FORCED_HOLD_END (07 Table 7.6): the hold ends and foreground accesses go ahead. -/
def execScrubForcedHoldEnd (s : State) : Res :=
  if s.flag F.FLC_STAT_FORCED then ok (({ s with flash := { s.flash with hold := 0 } }).clrFld F.FLC_STAT_FORCED) else ok s

/-- SCRUB_REPORT_DESC (07 R324): a CHAN 1 descriptor is handed to scrub, or refused. -/
def execScrubReportDesc (s : State) : Res :=
  if (s.handedTo 1 1).isSome then ok s
  else
    ok (s.takeWith 1 1 (fun _ => true) (fun t d =>
      if d.op != 0x10 || d.uflags != 0 || d.uparam != 0 || d.lenTop != 0 || d.buf != 0 || d.len != 0 || d.opd 4 != 0 || d.opd 5 != 0 ||
        d.opd 6 != 0 || d.opd 7 != 0 then t.refuse d stBadOp else t.hand 1 1 d))

/-- A write of 1 to FLC_ECC.CLR (07 R332, R334). -/
def State.flcEccClr (s : State) : State := (s.clrFld F.FLC_ECC_CORR).clrFld F.FLC_EADDR_ADDR

/-- FLC_ECC_CLR (07 R332). -/
def execFlcEccClr (s : State) : Res := ok (if s.steadyRuns then s.flcEccClr else s)

end Sys2Proof.Machine
end

