-- ==== Sys2Proof/Machine/Nonce.lean ====
section
/-! DEFINITION. The nonce area in flash: its sectors and records, which record governs a key, the head sector and its rotation, and the
program of a record (07 R318 to R321; 12 R520, R521, R527 to R529, R544, R545). -/

namespace Sys2Proof.Machine

/-- A valid reservation record (12 Table 12.3, R521) and where it stands. -/
structure NRec where
  gen : Word
  unit : Nat
  slot : Nat
  ret : Bool
  kcv : BitVec 64
  block : Nat
  deriving DecidableEq, Repr

/-- Word 0 of a record without CHECK (12 Table 12.3). -/
def recWord0 (slot : Nat) (ret : Bool) : Nat := 0xA7 + slot * 256 + (if ret then 4096 else 0)

/-- The CHECK of a record: CRC-16 over word 0 [15:0], then words 1 to 3, least significant bytes first (12 Table 12.3). -/
def recCheck (w0 : Word) (w1 w2 w3 : Word) : BitVec 16 :=
  crc16 ((wordBytes w0).take 2 ++ wordBytes w1 ++ wordBytes w2 ++ wordBytes w3)

/-- The record in a unit, where there is a valid one (12 R521). -/
def State.recordAt (s : State) (u : Nat) : Option NRec :=
  match s.sectorGen (u / 512) with
  | none => none
  | some g =>
    let w0 := s.unitWord u 0
    let w1 := s.unitWord u 1
    let w2 := s.unitWord u 2
    let w3 := s.unitWord u 3
    if u % 512 == 0 || s.ecc (unitAddr u) == .failed || w0.toNat % 256 != 0xA7 || recCheck w0 w1 w2 w3 != w0.extractLsb' 16 16 then none
    else some ⟨g, u, w0.toNat / 256 % 16, w0.getLsbD 12, w2 ++ w1, w3.toNat % 2 ^ 24⟩

/-- Whether a unit lies in the nonce area. -/
def State.unitInNonce (s : State) (u : Nat) : Bool := s.nonceArea && s.inNonce (u / 512)

/-- The valid records of the nonce area. -/
def State.records (s : State) : List NRec :=
  (((s.flash.programmed ++ s.flash.cut).map (·.1)).filter s.unitInNonce).filterMap s.recordAt

/-- Whether record `b` comes after record `a`: by GEN under R31 of 01, then by unit (12 R521). -/
def NRec.before (a b : NRec) : Bool :=
  if a.gen = b.gen then a.unit < b.unit else (b.gen - a.gen).toNat < 2 ^ 31

/-- The later of two records. -/
def NRec.later (a : Option NRec) (b : NRec) : Option NRec :=
  match a with
  | none => some b
  | some x => some (if x.before b then b else x)

/-- The latest valid record for a key check value (12 R521). -/
def State.latestRec (s : State) (kcv : BitVec 64) : Option NRec := (s.records.filter (fun r => r.kcv == kcv)).foldl NRec.later none

/-- The key check values that have records. -/
def State.liveKcvs (s : State) : List (BitVec 64) := (s.records.map (·.kcv)).eraseDups

/-- Of two sectors the one with the earlier GEN. -/
def earlierSector (a : Option (Nat × Word)) (b : Nat × Word) : Option (Nat × Word) :=
  match a with
  | none => some b
  | some x => some (if (b.2 - x.2).toNat < 2 ^ 31 then x else b)

/-- A unit programmed with words tagged INT (12 R520). -/
def State.programInts (s : State) (u : Nat) (w : List Word) : State := s.programUnit u (w.map (fun x => ⟨x, .int⟩))

/-- A sector taken into use with its header. -/
def State.openSector (s : State) (sec : Nat) (gen : Word) : State := s.programInts (sec * 512) [0xA8#32, gen, ~~~gen, 0]

/-- A record read and copied into a sector as it stands (12 R527; 07 R291). -/
def State.copyRecord (s : State) (sec : Nat) (r : NRec) : State :=
  match s.appendUnit sec with
  | none => s
  | some u => (s.noteEcc (unitAddr r.unit)).programInts u ((List.range 4).map (s.unitWord r.unit))

/-- The units of the nonce area whose code has something to say at a read, ascending by kind. -/
def State.nonceFlaws (s : State) : List Nat :=
  ((s.flash.oneBit ++ s.flash.twoBit ++ s.flash.cut).map (·.1)).filter s.unitInNonce

/-- The scan of the nonce area reads each of its units once (12 R544; 07 R291, R332). -/
def State.scanNonce (s : State) : State := s.nonceFlaws.foldl (fun acc u => acc.noteEcc (unitAddr u)) s

/-- The latest records that lie in a sector. -/
def State.latestIn (s : State) (sec : Nat) : List NRec :=
  s.records.filter (fun r => r.unit / 512 == sec && s.latestRec r.kcv == some r)

/-- The oldest sector's latest records go into the head, those of purged keys are left out, and the sector is erased (12 R527, R529). -/
def State.rotate (s : State) (head : Nat) : State :=
  match (s.genSectors.filter (fun x => x.1 != head)).foldl earlierSector none with
  | none => s
  | some o =>
    let l := s.latestIn o.1
    let s1 := (l.filter (fun r => !s.cip.purge.contains r.kcv)).foldl (fun acc r => acc.copyRecord head r) s
    let s2 : State := { s1 with cip := { s1.cip with purge := s1.cip.purge.filter (fun k => !(l.map (·.kcv)).contains k) } }
    s2.eraseSector o.1

/-- A new head sector, where an erased one is at hand, with GEN one higher; an unused area's first GEN is a free value (12 R527). -/
def State.newHead (s : State) : Option State :=
  match s.headSector with
  | none => s.nextSectors.head?.map (fun x => (s.openSector x (Config.firstGen s.free)).fresh)
  | some h =>
    match s.nextSectors with
    | [] => none
    | x :: more =>
      let s1 := s.openSector x (h.2 + 1)
      some (if more.isEmpty then s1.rotate x else s1)

/-- The state in which the head sector has room, and the unit for the next record. -/
def State.headRoom (s : State) : Option (State × Nat) :=
  match s.headSector.bind (fun h => s.appendUnit h.1) with
  | some u => some (s, u)
  | none => s.newHead.bind (fun t => (t.headSector.bind (fun h => t.appendUnit h.1)).map (fun u => (t, u)))

/-- A program or an erase that the engine asks of the controller and that a command makes whole: requested across span 4, and answered across it
(07 R320; log 122). The nonce area's bank is busy for it within that command only (log 131). -/
def State.nonceWork (s : State) (f : State → State) : State := (f (s.crossed 4 1)).crossed 4 0

/-- Where an area with sectors in use has none erased, the oldest is erased, once its latest records are held in the head and only if they fit there
(12 R544). -/
def State.tidyOldest (s : State) : State :=
  if s.nonceSectors.any s.sectorErased then s
  else
    match s.headSector, (s.genSectors).foldl earlierSector none with
    | some h, some o =>
      let room := match s.appendUnit h.1 with | none => 0 | some u => 512 - u % 512
      let l := (s.latestIn o.1).filter (fun r => !s.cip.purge.contains r.kcv)
      if h.1 != o.1 && l.length ≤ room then s.nonceWork (fun t => t.rotate h.1) else s
    | _, _ => s

/-- The first KLOAD after a commit of the area clears it up (12 R544): sectors with no valid header that are not erased are erased, and where
then no sector is, the oldest. -/
def State.tidyNonce (s : State) : State :=
  let l := s.nonceSectors.filter (fun x => (s.sectorGen x).isNone && !s.sectorErased x)
  let s1 := l.foldl (fun acc x => acc.nonceWork (fun t => t.eraseSector x)) s.scanNonce
  s1.tidyOldest.setBit F.CIP_STAT_SCANNED

/-- An erase of the oldest sector that the scan had to leave is made once its latest records are held elsewhere, or fit in the head (12 R544): a
record that has just been programmed may have seen to that. -/
def State.tidyLate (s : State) : State := if s.flag F.CIP_STAT_SCANNED then s.tidyOldest else s

/-- The words of a record (12 Table 12.3). -/
def Resv.words (r : Resv) : List Word :=
  let w0 : Word := BitVec.ofNat 32 (recWord0 r.slot.val r.ret)
  let w1 : Word := r.kcv.extractLsb' 0 32
  let w2 : Word := r.kcv.extractLsb' 32 32
  let w3 : Word := BitVec.ofNat 32 (r.block % 2 ^ 24)
  [w0 ||| ((recCheck w0 w1 w2 w3).setWidth 32 <<< 16), w1, w2, w3]

/-- A request for a record, unless the same one already waits: it crosses span 4, and a controller with nothing in hand begins it at once (12
R520, R523; 07 R320, R321). -/
def State.askRecord (s : State) (r : Resv) : State :=
  if s.flash.resv.contains r then s
  else
    let s1 := s.crossed 4 1
    let s2 : State := { s1 with flash := { s1.flash with resv := s1.flash.resv ++ [r] } }
    if s2.flash.op.isNone then s2.resvBegin else s2

end Sys2Proof.Machine
end

