-- ==== Sys2Proof/Machine/Cipher.lean ====
section
/-! DEFINITION. The cipher engine (12): the lock, the key slots, block operations, CCM, the nonce counters and their records. -/

namespace Sys2Proof.Machine

/-- Status codes of Table 12.7. -/
abbrev csNoLock : Nat := 0x20
abbrev csKeyTag : Nat := 0x21
abbrev csKEmpty : Nat := 0x22
abbrev csKRetired : Nat := 0x23
abbrev csKParity : Nat := 0x24
abbrev csAuthFail : Nat := 0x25
abbrev csNoArea : Nat := 0x26
abbrev csKDup : Nat := 0x27
abbrev csNFull : Nat := 0x28
abbrev csTamper : Nat := 0x29
abbrev csOverlap : Nat := 0x2B

/-! ### The lock -/

/-- The lock granted to a thread: HELD, OWNER, TOKEN, account 0x51 from R to H (12 R505). -/
def State.grantLock (s : State) (t : ThreadId) : State :=
  (((s.posted 0x51 (Account.take 1)).setBit F.CIP_LOCK_HELD).setFld F.CIP_LOCK_OWNER t.val).setFld F.CIP_LOCK_TOKEN
    (s.fld F.CIP_LOCK_TOKEN + 1)

/-- A write of 1 to CLAIM (12 R505): while the lock is free it is granted; before the account's first grant (R543) the claim waits for the
island to be lit. -/
def State.claimLock (s : State) (t : ThreadId) : State :=
  if s.flag F.CIP_LOCK_HELD then s
  else if 1 ≤ (s.acct 0x51).r then s.grantLock t
  else if s.cip.claim.isNone then { s with cip := { s.cip with claim := some t } } else s

/-- Whether the engine has an operation in hand: one that waits for a record, or one whose completion is still to be written (12 Table 12.6). -/
def State.cipInHand (s : State) : Bool := s.cip.waiting.isSome || s.cip.last.isSome

/-- A write of 1 to RELEASE (12 R506): by the owner it frees the lock, after the completion of the operation in hand (Table 12.6). -/
def State.releaseLock (s : State) (t : ThreadId) : State :=
  if s.flag F.CIP_LOCK_HELD && s.fld F.CIP_LOCK_OWNER == t.val then
    (if s.cipInHand then { s with cip := { s.cip with freeAfter := true } } else s.freeLock)
  else s

/-- A write to CIP_LOCK (12 R505, R506): it lights the island as a doorbell does. -/
def State.cipLockWrite (s : State) (t : ThreadId) (v : Word) : State :=
  if !s.has .cipher then s
  else
    let s1 := s.wakeIsland .cipher
    if s.flag F.CIP_LOCK_HELD then (if v.getLsbD 1 then s1.releaseLock t else s1)
    else if v.getLsbD 0 then s1.claimLock t else s1

/-- CIP_LOCK_CLAIM (12 R505). -/
def execCipLockClaim (t : ThreadId) (s : State) : Res := ok (if s.steadyRuns then s.cipLockWrite t 1 else s)
/-- CIP_LOCK_RELEASE (12 R506). -/
def execCipLockRelease (t : ThreadId) (s : State) : Res := ok (if s.steadyRuns then s.cipLockWrite t 2 else s)

/-! ### Descriptors and checks -/

/-- WIPE of a KLOAD. -/
def Desc.wipe (d : Desc) : Bool := d.op == 1 && d.uflags % 2 == 1

/-- An operation code that is none, or a field that must be zero and is not (12 R510). -/
def Desc.cipBadOp (d : Desc) : Bool :=
  d.op == 0 || d.op > 7 || d.lenTop != 0 ||
    d.uflags > (match d.op with | 1 => 1 | 6 => 7 | 7 => 7 | _ => 0) ||
    (d.ccm && (d.mcode == 0 || d.opd 7 > 65280 || (d.opd 7 == 0 && d.opd 5 != 0))) ||
    (!d.ccm && (d.opd 5 != 0 || d.opd 7 != 0)) || (d.op ≤ 3 && d.opd 6 != 0) ||
    ((d.op == 2 || d.op == 3) && (d.buf != 0 || d.len != 0)) || (d.op == 6 && d.len == 0 && d.buf != 0)

/-- Whether LEN is one the operation allows (12 Table 12.1). -/
def Desc.cipLenOk (d : Desc) : Bool :=
  match d.op with
  | 1 => d.len == 16 || d.len == 32
  | 4 => 16 ≤ d.len && d.len ≤ 4096 && d.len % 16 == 0
  | 5 => 16 ≤ d.len && d.len ≤ 4096 && d.len % 16 == 0
  | 6 => d.len ≤ 65535
  | 7 => 13 + d.mlen ≤ d.len && d.len ≤ 13 + 65535 + d.mlen
  | _ => true

/-- What an operation reads: addresses and lengths, no empty one. -/
def Desc.cipReads (d : Desc) : List (Nat × Nat) :=
  (if d.len = 0 then [] else [(d.buf, d.len)]) ++ (if d.ccm && d.alen != 0 then [(d.opd 5, d.alen)] else [])

/-- What an operation writes. -/
def Desc.cipWrites (d : Desc) : List (Nat × Nat) :=
  (if d.outLen = 0 then [] else [(d.opd 6, d.outLen)]) ++ (if d.wipe then [(d.buf, d.len)] else [])

/-- What the engine meets over an operation's areas (03 R135, R139). -/
def State.cipAccess (s : State) (d : Desc) : List Eng :=
  let v := s.engView 2 0
  d.cipReads.map (fun a => v.engRead a.1 a.2) ++ d.cipWrites.map (fun a => v.engWrite a.1 a.2)

/-- Whether two of a list of areas overlap. -/
def anyOverlap : List (Nat × Nat) → Bool
  | [] => false
  | a :: r => r.any (fun b => !apart a.1 a.2 b.1 b.2) || anyOverlap r

/-- OVERLAP (12 R514). -/
def Desc.cipOverlap (d : Desc) : Bool :=
  if d.op = 1 then false
  else if (d.op == 4 || d.op == 5) && d.opd 6 == d.buf then false
  else anyOverlap (d.cipReads ++ d.cipWrites)

/-- The key check value (12 R504). -/
def kcvOf (key : List Byte) : BitVec 64 :=
  ((aesEnc key (List.replicate 16 0#8)).take 8).foldl (fun acc b => (acc <<< 8) ||| b.setWidth 64) 0#64

/-- The key check values that hold records or have one requested. -/
def State.claimedKcvs (s : State) : List (BitVec 64) := (s.liveKcvs ++ s.flash.resv.map (·.kcv)).eraseDups

/-- KDUP and NFULL for a key (12 R526, R528). -/
def State.keyRefused (s : State) (n : Fin 16) (kcv : BitVec 64) : Option Nat :=
  if (indices 16).any (fun m => m ≠ n && s.kst m != 0 && (s.keySlot m).kcv == kcv) then some csKDup
  else if s.nonceArea && !s.claimedKcvs.contains kcv && 128 ≤ s.claimedKcvs.length then some csNFull else none

/-- The checks of R541 from KEYTAG to NOAREA, by the state of the slot, and the accesses that follow them. -/
def State.slotCheck (s : State) (d : Desc) : Option Nat :=
  let w := vget d.w 4
  let k := s.kst d.keySlot
  if w.tag != .key || 16 ≤ w.data.toNat then some csKeyTag
  else if 3 ≤ d.op && k == 0 then some csKEmpty
  else if 4 ≤ d.op && k == 2 then some csKRetired
  else if d.op == 6 && k == 3 then some csNoArea
  else firstBad (s.cipAccess d)

/-- KDUP and NFULL, which a KLOAD meets once its key has been read (12 R541). -/
def State.keyCheck (s : State) (d : Desc) : Option Nat :=
  if d.op = 1 then s.keyRefused d.keySlot (kcvOf (s.engBytes d.buf d.len)) else none

/-- The first status of R541 up to NOAREA that applies; other access errors come where their access is made. -/
def State.cipCheck (s : State) (d : Desc) : Option Nat :=
  if d.cipBadOp then some stBadOp
  else if !s.flag F.CIP_LOCK_HELD || d.uparam != s.fld F.CIP_LOCK_TOKEN then some csNoLock
  else if s.dtagBad d then some stDtag
  else if !d.cipLenOk then some stLen
  else if (s.cipAccess d).any (fun e => e.badStatus == some stAddrErr) then some stAddrErr
  else if d.cipOverlap then some csOverlap
  else s.slotCheck d

/-- What an operation waits for: its accesses, and for the scan of the nonce area where that is still to be made (12 R544; 07 R306). -/
def State.cipNeeds (s : State) (d : Desc) : List Eng :=
  if (s.cipCheck d).isSome then []
  else
    s.cipAccess d ++
      (if d.op == 1 && s.nonceArea && !s.flag F.CIP_STAT_SCANNED && !(s.nonceUp && s.flashIdle) then [.wait false] else [])

/-! ### Accounts and counters -/

/-- The operation waits for a record (12 R522, R524). -/
def State.cipWait (s : State) (d : Desc) : State := { s with cip := { s.cip with waiting := some d } }

/-- The areas read, with what that does to the flash error registers. -/
def State.cipRead (s : State) (d : Desc) : State := s.afterReads d.cipReads

/-- A KLOAD with its record programmed, or that needs none: WIPE, and the completion (12 R511). -/
def State.kloadEnd (s : State) (d : Desc) (kst : Nat) : State :=
  let s1 := s.setKst d.keySlot kst
  let s2 := if d.wipe then s1.storeBytes .raw d.buf (List.replicate d.len 0#8) else s1
  s2.finish d stOk (BitVec.ofNat 32 (s.keySlot d.keySlot).ctr)

/-- A KLOAD with a counter to start from (12 R522): 2^40 retires the slot, otherwise the record for the counter's block comes first. -/
def State.kloadFrom (s : State) (d : Desc) (key : List Byte) (kcv : BitVec 64) (ctr : Nat) : State :=
  let n := d.keySlot
  let s1 := (s.setKeySlot n ⟨key, ctr, none, kcv⟩).setKst n 0
  if 2 ^ 40 ≤ ctr then s1.kloadEnd d 2 else (s1.askRecord ⟨n, kcv, ctr / 65536, false⟩).cipWait d

/-- KLOAD's work (12 R504, R511, R522). -/
def State.kloadRun (s : State) (d : Desc) : State :=
  let n := d.keySlot
  let key := s.engBytes d.buf d.len
  let kcv := kcvOf key
  let s1 := ((s.cipRead d).freshCut).spendAll n
  if !s.nonceArea then (s1.setKeySlot n ⟨key, 0, none, kcv⟩).kloadEnd d 3
  else
    match s1.latestRec kcv with
    | none => s1.kloadFrom d key kcv 0
    | some r =>
      if r.ret then (s1.fresh.setKeySlot n ⟨key, (Config.retCounter s1.free).toNat, none, kcv⟩).kloadEnd d 2
      else s1.kloadFrom d key kcv ((r.block + 1) * 65536)

/-- KZERO's work (12 R512). -/
def State.kzeroRun (s : State) (d : Desc) : State := ((s.spendAll d.keySlot).emptySlot d.keySlot).finish d stOk 0

/-- A request for a retirement record; its BLOCK is a free value. -/
def State.askRetire (s : State) (n : Fin 16) : State := (s.askRecord ⟨n, (s.keySlot n).kcv, Config.retBlock s.free, true⟩).fresh

/-- A slot RETIRED, with its account (12 Table 12.4). -/
def State.retireSlot (s : State) (n : Fin 16) : State := (s.spendAll n).setKst n 2

/-- KRETIRE's work (12 R512, R541). -/
def State.kretireRun (s : State) (d : Desc) : State :=
  match s.kst d.keySlot with
  | 1 => (s.askRetire d.keySlot).cipWait d
  | 3 => (s.retireSlot d.keySlot).finish d stOk 0
  | _ => s.finish d stOk 0

/-! ### Blocks and CCM -/

/-- ENC's and DEC's work (12 R513). -/
def State.blockRun (s : State) (d : Desc) : State :=
  let key := (s.keySlot d.keySlot).key
  let f := if d.op = 4 then aesEnc key else aesDec key
  let out := (blocksOf (s.engBytes d.buf d.len)).flatMap f
  ((s.cipRead d).storeBytes .raw (d.opd 6) out).finish d stOk 0

/-- The nonce N for a counter value (12 R515). -/
def State.nonce (s : State) (ctr : Nat) : List Byte :=
  beBytes (s.fld F.CIP_SIDHI_SID * 2 ^ 32 + s.fld F.CIP_SIDLO_SID) 8 ++ beBytes ctr 5

/-- Whether a slot's record for block `b` is programmed. -/
def KeySlot.reserved (k : KeySlot) (b : Nat) : Bool :=
  match k.resblk with
  | none => false
  | some r => b ≤ r

/-- The counter moves on (12 R517, R523, R531): H to R where it leaves its block, a request for the next record half-way. -/
def State.advanceCtr (s : State) (n : Fin 16) : State :=
  let k := s.keySlot n
  let c := k.ctr + 1
  let s1 := s.setKeySlot n { k with ctr := c }
  if c % 65536 = 0 then s1.posted (0x60 + n.val) (Account.give 1)
  else if c % 65536 = 0x8000 ∧ c / 65536 + 1 < 2 ^ 24 ∧ k.reserved (c / 65536 + 1) = false then
    s1.askRecord ⟨n, k.kcv, c / 65536 + 1, false⟩
  else s1

/-- N ‖ C ‖ T for a CCMENC (12 R516, R517). -/
def State.ccmOut (s : State) (d : Desc) : List Byte :=
  let k := s.keySlot d.keySlot
  let nonce := s.nonce k.ctr
  let aad := s.engBytes (d.opd 5) d.alen
  let p := s.engBytes d.buf d.len
  nonce ++ ccmStream k.key nonce p ++ ccmTag k.key nonce aad p d.mcode d.mlen

/-- CCMENC's work (12 R517, R524, R525, R536). -/
def State.ccmencRun (s : State) (d : Desc) : State :=
  let n := d.keySlot
  let k := s.keySlot n
  if 2 ^ 40 ≤ k.ctr then ((s.retireSlot n).askRetire n).refuse d csKRetired
  else if k.reserved (k.ctr / 65536) then
    (((s.cipRead d).storeBytes .raw (d.opd 6) (s.ccmOut d)).advanceCtr n).finish d stOk (BitVec.ofNat 32 k.ctr)
  else (s.askRecord ⟨n, k.kcv, k.ctr / 65536, false⟩).cipWait d

/-- CCMDEC's work (12 R518). -/
def State.ccmdecRun (s : State) (d : Desc) : State :=
  let key := (s.keySlot d.keySlot).key
  let buf := s.engBytes d.buf d.len
  let nonce := buf.take 13
  let p := ccmStream key nonce ((buf.drop 13).take d.pay)
  let s1 := s.cipRead d
  if ccmTag key nonce (s.engBytes (d.opd 5) d.alen) p d.mcode d.mlen = buf.drop (13 + d.pay) then
    (s1.storeBytes .raw (d.opd 6) p).finish d stOk 0
  else (s1.storeBytes .raw (d.opd 6) (List.replicate d.pay 0#8)).refuse d csAuthFail

/-! ### Meanings -/

/-- The work of a descriptor that no check refuses. -/
def State.cipWork (s : State) (d : Desc) : State :=
  match d.op with
  | 1 => s.kloadRun d
  | 2 => s.kzeroRun d
  | 3 => s.kretireRun d
  | 6 => s.ccmencRun d
  | 7 => s.ccmdecRun d
  | _ => s.blockRun d

/-- The engine's work on an operation is over unless it waits; its completion is still to be written (12 Table 12.6). -/
def State.cipDone (s : State) (d : Desc) : State :=
  if s.cip.waiting.isSome then s else { s with cip := { s.cip with last := some d } }

/-- The scan that comes before the first KLOAD after a commit of the nonce area (12 R544). -/
def State.cipScan (s : State) (d : Desc) : State :=
  if d.op == 1 && s.nonceArea && !s.flag F.CIP_STAT_SCANNED then s.tidyNonce else s

/-- A cipher descriptor that has been taken: refused under R541, or done. -/
def State.cipRun (s : State) (d : Desc) : State :=
  match s.cipCheck d with
  | some st => (if st = stMemPar then s.cipRead d else s).refuse d st
  | none =>
    let s1 := s.cipScan d
    match s1.keyCheck d with
    | some st => (s1.cipRead d).refuse d st
    | none => (s1.cipWork d).cipDone d

/-- The engine takes a descriptor of one operation code, or of a code that is none, while it holds none (12 R509). -/
def State.cipTake (s : State) (op : Nat) : State :=
  if s.cip.waiting.isSome then s
  else s.takeReady 2 0 (fun d => d.op == op || d.op == 0 || d.op > 7) State.cipNeeds State.cipRun

/-- KLOAD (12 R511, R522). -/
def execKload (s : State) : Res := ok (s.cipTake 1)
/-- KZERO (12 R512). -/
def execKzero (s : State) : Res := ok (s.cipTake 2)
/-- KRETIRE (12 R512). -/
def execKretire (s : State) : Res := ok (s.cipTake 3)
/-- ENC (12 R513). -/
def execEnc (s : State) : Res := ok (s.cipTake 4)
/-- DEC (12 R513). -/
def execDec (s : State) : Res := ok (s.cipTake 5)
/-- CCMENC (12 R517). -/
def execCcmenc (s : State) : Res := ok (s.cipTake 6)
/-- CCMDEC (12 R518). -/
def execCcmdec (s : State) : Res := ok (s.cipTake 7)

/-- Whether a slot still holds the key of a record that has just been programmed, with a use for it. -/
def State.wants (s : State) (r : Resv) : Bool :=
  (s.keySlot r.slot).kcv == r.kcv && !(s.keySlot r.slot).key.isEmpty &&
    (s.kst r.slot == 1 || (match s.cip.waiting with | some d => d.op == 1 && d.keySlot == r.slot | none => false))

/-- A record has been programmed: the account takes one unit and holds it (12 R531, Table 12.4), whichever record it is; a slot that still wants
the record may use its block, or is retired by it. -/
def State.recordDone (s : State) (r : Resv) : State :=
  let s1 := s.posted (0x60 + r.slot.val) Account.reserve
  if !s.wants r then s1
  else if r.ret then s1.retireSlot r.slot
  else
    let k := s1.keySlot r.slot
    s1.setKeySlot r.slot { k with resblk := some (max r.block (k.resblk.getD 0)) }

/-- Whether the record that an operation waits for is there (12 R522, R524). -/
def State.cipReady (s : State) (d : Desc) : Bool :=
  match d.op with
  | 1 => (s.keySlot d.keySlot).resblk.isSome
  | 3 => s.kst d.keySlot == 2
  | _ => (s.keySlot d.keySlot).reserved ((s.keySlot d.keySlot).ctr / 65536)

/-- What an operation that waited for a record still accesses: a KLOAD the bytes that it wipes, a CCMENC all its areas. -/
def State.cipRest (s : State) (d : Desc) : List Eng :=
  match d.op with
  | 1 => if d.wipe then [(s.engView 2 0).engWrite d.buf d.len] else []
  | 3 => []
  | _ => s.cipAccess d

/-- What is left of an operation whose record is there: each access is judged where it is made (03 R139), and one that goes wrong ends the
operation; a KLOAD's slot is then EMPTY (DEDUCED, log 115). -/
def State.cipResume (s : State) (d : Desc) : State :=
  match firstBad (s.cipRest d) with
  | some st =>
    let s1 := if st = stMemPar && d.op != 1 then s.cipRead d else s
    (if d.op = 1 then (s1.spendAll d.keySlot).emptySlot d.keySlot else s1).refuse d st
  | none =>
    match d.op with
    | 1 => s.kloadEnd d 1
    | 3 => s.finish d stOk 0
    | _ => s.ccmencRun d

/-- The operation that waited for a record goes on, once its accesses can (12 R522, R524; 03 R139; 07 R306). -/
def State.cipContinue (s : State) : State :=
  match s.cip.waiting with
  | none => s
  | some d =>
    if !s.cipReady d then s
    else
      match (s.cipRest d).find? Eng.waits with
      | some (.wait light) => (s.holdAccess 2 0).engWait light
      | _ => ((({ s with cip := { s.cip with waiting := none } }).cipResume d).cipDone d).dropAccess 2 0

/-- A requested record has been programmed: the controller goes on to the next request, or is done with them (07 R321). -/
def State.resvNext (s : State) (more : List Resv) : State :=
  let s1 : State := { s with flash := { s.flash with resv := more } }
  if more.isEmpty then s1.resvEnd else s1

/-- RESERVATION_PROGRAM (07 R320, R321; 12 R520, R527): at a boundary of the operation in progress, or while there is none, the record of the
oldest request is programmed at the head, and the engine hears of it across span 4; one whose unit does not verify leaves that unit
indeterminate and its request waiting (log 35). -/
def execReservationProgram (good : Bool) (s : State) : Res :=
  match s.flash.resv with
  | [] => ok s
  | r :: more =>
    if !s.flash.resvOn && !(s.flash.op.isNone && s.resvReady) then ok s
    else
      match s.headRoom with
      | none => ok s.resvEnd
      | some (t, u) =>
        let s1 := t.programInts u r.words
        if good then ok (((((s1.resvNext more).crossed 4 0).recordDone r).tidyLate).cipContinue) else ok (s1.cutUnit u)

/-- A write to CIP_NPURGE (12 R529). -/
def State.nonPurge (s : State) (v : Word) : State :=
  if v.toNat % 256 = 0x96 ∧ s.has .cipher then
    let held := (indices 16).filterMap (fun n => if (s.keySlot n).key.isEmpty then none else some (s.keySlot n).kcv)
    { s with cip := { s.cip with purge := s.liveKcvs.filter (fun k => !held.contains k) } }
  else s

/-- CIP_NPURGE (12 R529). -/
def execCipNpurge (v : Word) (s : State) : Res := ok (if s.steadyRuns then s.nonPurge v else s)

/-- The postings of a zeroisation (12 R531, R539). -/
def State.spendSlots (s : State) : State := (indices 16).foldl State.spendAll s

/-- A zeroisation (12 R539): every slot EMPTY, an operation in progress ends TAMPER, the accounts post now or when the island is next lit. -/
def State.zeroise (s : State) (tamper : Bool) : State :=
  if !s.power.vdd || !s.has .cipher then s
  else
    let s1 := (indices 16).foldl State.emptySlot (s.endOp csTamper false)
    let s2 := if tamper then s1.setBit F.CIP_STAT_TZERO else s1
    if s.lit .cipher then s2.spendSlots else { s2 with cip := { s2.cip with postLater := true } }

/-- A write to CIP_ZERO (12 R539). -/
def State.zeroWrite (s : State) (v : Word) : State := if v.toNat % 256 = 0x3C then s.zeroise false else s

/-- ZEROISE (12 R539): the write of 0x3C by a thread, or a tamper request on its own line. -/
def execZeroise (tamper : Bool) (s : State) : Res := ok (if tamper || s.steadyRuns then s.zeroise tamper else s)

/-- The slot that the operation in hand uses. -/
def State.slotInUse (s : State) : Option (Fin 16) := (s.cip.waiting.or s.cip.last).map Desc.keySlot

/-- KEY_PARITY_FAULT (12 R538): an operation in progress on the slot ends KPARITY; the slot is EMPTY. -/
def execKeyParityFault (slot : Fin 16) (s : State) : Res :=
  if s.on && s.has .cipher && s.lit .cipher then
    let s1 := if s.slotInUse = some slot then s.endOp csKParity false else s
    ok ((((s1.spendAll slot).emptySlot slot).setBit F.CIP_STAT_PFAULT).setFld F.CIP_STAT_FSLOT slot.val)
  else ok s

end Sys2Proof.Machine
end

