-- ==== Sys2Proof/Machine/Staging.lean ====
section
/-! DEFINITION. Staging and commit (01 R38 to R47, R702): the SEAL registers and what every block's commit has in common. What a block
clamps or starts at its commit is with the block; when each commits is in Regs.lean. -/

namespace Sys2Proof.Machine

/-- The base address of a block (03 Table 3.1). -/
def Blk.base : Blk → Nat
  | .ldg => 0x40001000 | .clk => 0x40003000 | .evt => 0x40004000 | .flc => 0x40006000 | .cnt => 0x40008000 | .csp => 0x40009000
  | .tag => 0x4000A000 | .bts => 0x4000B000 | .cip => 0x4000C000 | .rad => 0x4000D000 | .msh => 0x4000E000 | .gns => 0x4000F000
  | .cal => 0x50000000

/-- The address of a block's SEAL register (01 Table 1.7; 02 R107; 09 R407; offset 0x008 elsewhere). -/
def Blk.sealAt (b : Blk) : Nat :=
  Blk.base b + (match b with | .ldg => 0x3C | .clk => 0x18 | .cal => 0x2C | _ => 8)

/-- Whether a block's unit is there (03 Table 3.4). -/
def State.blkHere (s : State) : Blk → Bool
  | .gns => s.has .gnss | .cip => s.has .cipher | .tag => s.has .tag | .bts => s.has .bts | .csp => s.has .csp | .cnt => s.has .cnt
  | _ => true

/-- SEAL.PEND. -/
def State.sealPend (s : State) (b : Blk) : Bool := s.flag (F.SEAL_PEND (Blk.sealAt b))

/-- The whole staged set copied into the sealed set (01 R39). -/
def State.sealCopy (s : State) (b : Blk) : State :=
  (stagedAddrs (Blk.base b)).foldl (fun acc a => { acc with sealed := smSet resetWord acc.sealed a (acc.stg a) }) s

/-- GO has been written in a block: its LK fields ignore writes until the next full reset (01 R46). -/
def State.lkClose (s : State) (b : Blk) : State := if s.lkDone.contains b then s else { s with lkDone := s.lkDone ++ [b] }

/-- A write to a block's SEAL register (01 R39, R43, R46, R702): the W1C clears first, then GO. -/
def State.sealWrite (s : State) (b : Blk) (v : Word) : State :=
  let a := Blk.sealAt b
  let s1 := if v.getLsbD 3 then s.clrFld (F.SEAL_REPL a) else s
  let s2 := if v.getLsbD 4 then s1.clrFld (F.SEAL_DISC a) else s1
  if v.getLsbD 0 then
    let s3 := if s2.sealPend b then s2.setBit (F.SEAL_REPL a) else s2
    (((s3.sealCopy b).setBit (F.SEAL_PEND a)).setBit (F.SEAL_LOCKED a)).lkClose b
  else s2

/-- The staged fields of one register live at their sealed values. -/
def State.commitReg (s : State) (a : Nat) : State :=
  let m := maskOf [.ws, .lk] a
  s.setReg a ((s.reg a &&& ~~~m) ||| (s.sld a &&& m))

/-- The whole sealed set live at one instant, PEND clear (01 R40). -/
def State.commitAll (s : State) (b : Blk) : State :=
  ((stagedAddrs (Blk.base b)).foldl State.commitReg s).clrFld (F.SEAL_PEND (Blk.sealAt b))

/-- A pending set is discarded whole (01 R45). -/
def State.sealDiscard (s : State) (b : Blk) : State :=
  if s.sealPend b then (s.clrFld (F.SEAL_PEND (Blk.sealAt b))).setBit (F.SEAL_DISC (Blk.sealAt b)) else s

/-- A committed value outside its range replaced by one in range, the block's CLAMP flag set. -/
def State.clampFld (s : State) (f : Fld) (v : Nat) (flag : Fld) : State :=
  if s.fld f = v then s else (s.setFld f v).setBit flag

/-- A committed value moved to the nearest end of its range. -/
def State.clampRange (s : State) (f : Fld) (lo hi : Nat) (flag : Fld) : State := s.clampFld f (clamp lo hi (s.fld f)) flag

end Sys2Proof.Machine
end

