-- ==== Sys2Proof/Machine/Bolt.lean ====
section
/-! DEFINITION. Bolt bridges and tamper loops (16). The current samples, one for each chopping period since the last event of the bridge,
and the levels of end stops and loops are operands of the commands. -/

namespace Sys2Proof.Machine

/-- Status codes of Table 16.4. -/
abbrev bsStall : Nat := 0x20
abbrev bsTimeout : Nat := 0x21
abbrev bsOvercur : Nat := 0x22
abbrev bsVmotLow : Nat := 0x23
abbrev bsEndFault : Nat := 0x24
abbrev bsLockout : Nat := 0x25

/-- A bridge. -/
def State.brg (s : State) (b : Fin 2) : Bridge := vget s.bridge b
/-- The state with a bridge replaced, and MOVING as Table 16.5 gives it. -/
def State.setBrg (s : State) (b : Fin 2) (x : Bridge) : State :=
  let s1 : State := { s with bridge := vset s.bridge b x }
  if x.st = .coast then s1.clrBits F.BTS_STAT_MOVING (2 ^ b.val) else s1.orFld F.BTS_STAT_MOVING (2 ^ b.val)

/-- DIR, DUTY, TIMEOUT, STALLI, STALLT, BRAKE and BLANK of a MOVE (16 R648). -/
def Desc.dir (d : Desc) : Nat := d.uparam % 2
def Desc.duty (d : Desc) : Nat := d.opd 4
def Desc.timeout (d : Desc) : Nat := d.opd 5
def Desc.stallI (d : Desc) : Nat := d.opd 6 % 256
def Desc.stallT (d : Desc) : Nat := d.opd 6 / 256
def Desc.brakeMs (d : Desc) : Nat := d.opd 7 % 256
def Desc.blank (d : Desc) : Nat := d.opd 7 / 256

/-- Whether a loop that locks the bolts is tripped (16 R656). -/
def State.lockedOut (s : State) : Bool :=
  (List.range 8).any (fun n => s.fldBit F.BTS_TSTAT_TRIP n && s.flag (F.BTS_TCFG_LOCK n))

/-- Whether an end stop is active, as last sampled. -/
def State.endActive (s : State) (e : Nat) : Bool := s.fldBit F.BTS_STAT_ES e

/-- The checks of a MOVE (16 R648, R663). -/
def State.moveCheck (s : State) (b : Fin 2) (d : Desc) : Option Nat :=
  if d.op != 1 || d.uflags != 0 || d.uparam > 1 || d.lenTop != 0 || d.buf != 0 || d.len != 0 || d.duty == 0 || d.duty > 255 ||
      d.timeout == 0 || d.timeout > 65535 || d.stallT == 0 || d.stallT > 255 || d.opd 7 > 65535 then some stBadOp
  else if s.flag F.BTS_STAT_VMOTLOW then some bsVmotLow
  else if s.endActive (2 * b.val) && s.endActive (2 * b.val + 1) then some bsEndFault
  else if d.dir == 1 && s.lockedOut then some bsLockout else none

/-- RESULT of a move (16 R650): drive time in ms, peak current, ATEND. -/
def Bridge.result (x : Bridge) (atEnd : Bool) : Word :=
  BitVec.ofNat 32 (min 65535 (x.periods / 25) + min 255 x.peak * 65536 + (if atEnd then 2 ^ 24 else 0))

/-- A MOVE that has been taken (16 R649): refused, done at once at its end stop, or driving. -/
def State.moveRun (b : Fin 2) (s : State) (d : Desc) : State :=
  match s.moveCheck b d with
  | some st => s.refuse d st
  | none =>
    if s.endActive (2 * b.val + d.dir) then s.finish d stOk (Bridge.coast.result true)
    else s.setBrg b ⟨.drive, some d, 0, 0, 0, 0, 0⟩

/-- The next MOVE for a bolt, where its channel holds none. -/
def State.nextMove (s : State) (b : Fin 2) : Option Desc := if (s.brg b).desc.isSome then none else s.headDesc 9 b.val

/-- MOVE (16 R647, R649): bolt 0's channel is served first where both have one. -/
def execMove (s : State) : Res :=
  if (s.nextMove 0).isSome then ok (s.takeDesc 9 0 (s.nextMove 0) (State.moveRun 0))
  else ok (s.takeDesc 9 1 (s.nextMove 1) (State.moveRun 1))

/-- One chopping period of a bridge in DRIVE (16 R645, R649): sample, peak, and the run of samples at or above STALLI after BLANK. -/
def Bridge.period (x : Bridge) (d : Desc) (i : Byte) : Bridge :=
  let high := d.stallI ≤ i.toNat && d.blank * 25 ≤ x.periods
  { x with periods := x.periods + 1, peak := max x.peak i.toNat, run := if high then x.run + 1 else 0 }

/-- Why a bridge in DRIVE ends by itself (16 R649), if it does. -/
def Bridge.ends (x : Bridge) (d : Desc) : Option Nat :=
  if d.stallT * 25 ≤ x.run then some bsStall else if d.timeout * 25 ≤ x.periods then some bsTimeout else none

/-- The bridge over a list of samples, up to the one at which it ends. -/
def Bridge.drive (d : Desc) : Bridge → List Byte → Bridge × Option Nat
  | x, [] => (x, none)
  | x, i :: r =>
    let y := x.period d i
    match y.ends d with
    | some st => (y, some st)
    | none => Bridge.drive d y r

/-- A bridge that brakes from an instant of the time base on, with the status it will complete with (16 R650). -/
def Bridge.braking (x : Bridge) (now st : Nat) : Bridge := { x with st := .brake, status := st, since := now }

/-- Whether a bridge has braked for its BRAKE ms (16 R650), in 2^-16 ticks. -/
def Bridge.braked (x : Bridge) (now : Nat) : Bool :=
  x.st == .brake && x.since + (match x.desc with | some d => d.brakeMs | none => 0) * 32768 * 65536 / 1000 ≤ now

/-- BTS_ISNS takes a bridge's last sample (16 R645). -/
def State.sensed (s : State) (b : Fin 2) (cur : List Byte) : State :=
  match cur.getLast? with
  | none => s
  | some i => s.setFld (if b = 0 then F.BTS_ISNS_I0 else F.BTS_ISNS_I1) i.toNat

/-- A bridge in DRIVE over the samples taken since its last event (16 R649); `atEnd` is whether its end stop becomes active in the last of
these periods, which counts before a stall or a timeout of the same period (Table 16.3). -/
def State.driveOn (s : State) (b : Fin 2) (cur : List Byte) (atEnd : Bool) : State :=
  let x := s.brg b
  match x.st, x.desc with
  | .drive, some d =>
    let s1 := s.sensed b cur
    if atEnd then
      let (y, e) := Bridge.drive d x cur.dropLast
      let z := match cur.getLast? with
        | none => y
        | some i => y.period d i
      s1.setBrg b (match e with
        | some st => y.braking s.timeBase.toNat st
        | none => z.braking s.timeBase.toNat stOk)
    else
      let (y, e) := Bridge.drive d x cur
      s1.setBrg b (match e with
        | some st => y.braking s.timeBase.toNat st
        | none => y)
  | _, _ => s

/-- Whether an end stop is active after 8 consecutive samples of its level (16 R646). -/
def State.stopLevel (s : State) (e : Fin 4) (levels : BitVec 8) : Bool :=
  levels == (if s.fldBit F.BTS_CTL_ESPOL e.val then 0xFF#8 else 0#8)

/-- Whether the bolt unit works: the steady island runs and the unit is there. -/
def State.boltUp (s : State) : Bool := s.on && s.has .bts && (s.island .steady).st != .dark

/-- END_STOP (16 R646, R649): the levels of 8 consecutive periods decide whether the end stop is active; one that ends the move in
hand brakes the bridge. -/
def execEndStop (e : Fin 4) (levels : BitVec 8) (cur : List Byte) (s : State) : Res :=
  if !s.boltUp then ok s
  else
    let b : Fin 2 := Fin.ofNat 2 (e.val / 2)
    let act := s.stopLevel e levels
    let s1 := if act then s.orFld F.BTS_STAT_ES (2 ^ e.val) else s.clrBits F.BTS_STAT_ES (2 ^ e.val)
    let mine := match (s.brg b).desc with | some d => d.dir == e.val % 2 | none => false
    ok (s1.driveOn b cur (act && mine))

/-- STALL (16 R649): the samples since the bridge's last event. -/
def execStall (b : Fin 2) (cur : List Byte) (s : State) : Res := ok (if s.boltUp then s.driveOn b cur false else s)

/-- MOVE_TIMEOUT (16 R649): the samples since the bridge's last event. -/
def execMoveTimeout (b : Fin 2) (cur : List Byte) (s : State) : Res := ok (if s.boltUp then s.driveOn b cur false else s)

/-- A bridge coasts and its MOVE completes (16 R650, R660, R661). -/
def State.moveDone (s : State) (b : Fin 2) (st : Nat) : State :=
  let x := s.brg b
  match x.desc with
  | none => s
  | some d => (s.setBrg b Bridge.coast).finish d st (x.result false)

/-- BRAKE_END (16 R650): BRAKE ms are over. -/
def execBrakeEnd (b : Fin 2) (s : State) : Res :=
  if s.boltUp && (s.brg b).braked s.timeBase.toNat then ok (s.moveDone b (s.brg b).status) else ok s

/-- OVERCUR (16 R660, Table 16.3): 2.0 A in a bridge that is not coasting. -/
def execOvercur (b : Fin 2) (milliamps : Nat) (s : State) : Res :=
  let x := s.brg b
  if s.boltUp && x.st != .coast && 2000 ≤ milliamps then
    ok ((s.setBrg b { x with peak := max x.peak (milliamps / 8) }).moveDone b bsOvercur)
  else ok s

/-- VMOTLOW (16 R661): VMOT falls below 2.7 V, or is back above it. -/
def execVmotlow (low : Bool) (s : State) : Res :=
  if !s.boltUp then ok s
  else
    let s1 := s.setFld F.BTS_STAT_VMOTLOW (if low then 1 else 0)
    if low then ok ((indices 2).foldl (fun acc b => if (acc.brg b).st = .drive then acc.moveDone b bsVmotLow else acc) s1) else ok s1

/-! ### Tamper loops -/

/-- A loop. -/
def State.tloop (s : State) (n : Fin 8) : TLoop := vget s.loops n
/-- The state with a loop replaced. -/
def State.setTloop (s : State) (n : Fin 8) (x : TLoop) : State := { s with loops := vset s.loops n x }

/-- The pattern register after a chip (16 R653). -/
def patternNext (x : BitVec 16) : BitVec 16 :=
  let b := x.getLsbD 0 ^^ x.getLsbD 2 ^^ x.getLsbD 3 ^^ x.getLsbD 5
  (x >>> 1) ||| (if b then 0x8000#16 else 0#16)

/-- DIR 1 moves in DRIVE brake and will complete LOCKOUT (16 R656). -/
def State.lockBolts (s : State) : State :=
  (indices 2).foldl (fun acc b =>
    let x := acc.brg b
    match x.st, x.desc with
    | .drive, some d => if d.dir = 1 then acc.setBrg b (x.braking s.timeBase.toNat bsLockout) else acc
    | _, _ => acc) s

/-- A tripped loop's notice (16 R655). -/
def State.tripWord (s : State) (n : Fin 8) (chips : Nat) : Word :=
  BitVec.ofNat 32 (n.val + s.fld (F.BTS_TCFG_ZERO n.val) * 8 + s.fld (F.BTS_TCFG_LOCK n.val) * 16 + chips % 65536 * 65536)

/-- A loop trips (16 R654, R656): TRIP, the zeroisation line, the latch across span 0, the bolts, the wake, the notice. -/
def State.trip (s : State) (n : Fin 8) : State :=
  let r := s.tripWord n (s.tloop n).chips
  let s1 := s.orFld F.BTS_TSTAT_TRIP (2 ^ n.val)
  let s2 := if s.flag (F.BTS_TCFG_ZERO n.val) then s1.zeroise true else s1
  let s3 := (s2.crossed 0 0).tamperLatch n.val false false
  let s4 := if s.flag (F.BTS_TCFG_LOCK n.val) then s3.lockBolts else s3
  let s5 := if s4.pstate < 2 || s4.power.entry.isSome then s4.wakeSource 3 else s4
  s5.arrive.inbound 9 2 r

/-- TAMPER_CHIP (16 R652 to R654): an enabled loop that is not tripped sends its chip and samples it, PER ticks or more after the last. -/
def execTamperChip (n : Fin 8) (sample : Bool) (s : State) : Res :=
  if !s.power.vdd || !s.has .bts || !s.fldBit F.BTS_TEN_EN n.val || s.fldBit F.BTS_TSTAT_TRIP n.val || s.now < (s.tloop n).due then
    ok s
  else
    let x := s.tloop n
    let miss := if sample != x.s.getLsbD 0 then x.miss + 1 else 0
    let s1 := s.setTloop n ⟨patternNext x.s, miss, x.chips + 1, s.now + s.fld F.BTS_TPER_PER⟩
    ok (if s.fld F.BTS_TPER_FAILN ≤ miss then s1.trip n else s1)

/-- TAMPER_NOTICE_DESC (16 R655): a CHAN 2 descriptor is handed, or refused. -/
def execTamperNoticeDesc (s : State) : Res := ok (s.slotTake 9 2)

/-- A loop armed: its pattern from SEED, no mismatch, no chip (16 R653, R657). -/
def State.armLoop (s : State) (n : Fin 8) : State := s.setTloop n ⟨BitVec.ofNat 16 (s.fld (F.BTS_TCFG_SEED n.val)), 0, 0, s.now⟩

/-- A write to BTS_TRARM (16 R657). -/
def State.loopRearm (s : State) (v : Word) : State :=
  (indices 8).foldl (fun acc n =>
    if v.getLsbD n.val && acc.fldBit F.BTS_TEN_EN n.val then (acc.clrBits F.BTS_TSTAT_TRIP (2 ^ n.val)).armLoop n else acc) s

/-- Whether a write to the BTS block acts (03 R126). -/
def State.btsWrites (s : State) : Bool := s.steadyRuns && s.has .bts

/-- LOOP_REARM (16 R657). -/
def execLoopRearm (v : Word) (s : State) : Res := ok (if s.btsWrites then s.loopRearm v else s)

/-- A write to BTS_TEN: a loop newly enabled is armed (16 R653, R666). -/
def State.btsTen (s : State) (v : Word) : State :=
  ((indices 8).foldl (fun acc n => if v.getLsbD n.val && !s.fldBit F.BTS_TEN_EN n.val then acc.armLoop n else acc)
    (s.setFld F.BTS_TEN_EN (v.toNat % 256))).chanArms s 9 2

/-- Whether the BTS commit point is at the next tick edge: no move handed (16 Table 16.3). -/
def State.btsIdle (s : State) : Bool := s.bridge.toList.all (fun x => x.desc.isNone)

/-- The BTS set committed (16 R653, R659). -/
def State.btsCommit (s : State) : State :=
  let s1 := ((s.commitAll .bts).clampRange F.BTS_TPER_PER 1 65535 F.BTS_STAT_CLAMP).clampRange F.BTS_TPER_FAILN 1 15 F.BTS_STAT_CLAMP
  (List.range 8).foldl (fun acc n =>
    if acc.fld (F.BTS_TCFG_SEED n) = 0 then acc.setFld (F.BTS_TCFG_SEED n) 0xACE1 else acc) s1

/-- A steady quiesce whose drain has expired (16 Table 16.3): a bridge in DRIVE brakes, and its MOVE will complete CUTOFF with RESULT so far. -/
def State.boltBrake (s : State) : State :=
  (indices 2).foldl (fun acc b => if (acc.brg b).st = .drive then acc.setBrg b ((acc.brg b).braking s.timeBase.toNat stCutoff) else acc) s

end Sys2Proof.Machine
end

