-- ==== Sys2Proof/Machine/Csp.lean ====
section
/-! DEFINITION. The clocked serial port (14): slave frames, inbound records, master transfers. -/

namespace Sys2Proof.Machine

/-- Status codes of R605. -/
abbrev psRole : Nat := 0x20
abbrev psXLen : Nat := 0x21

/-- Slave result codes of Table 14.2. -/
abbrev resOk : Nat := 0
abbrev resCmd : Nat := 1
abbrev resLen : Nat := 2
abbrev resCrc : Nat := 3
abbrev resAddr : Nat := 4
abbrev resNoBuf : Nat := 5
abbrev resMemPar : Nat := 6

/-- The state with the port's record replaced. -/
def State.setCsp (s : State) (c : Csp) : State := { s with csp := c }

/-- Whether the slave front end receives (14 R585, R586). -/
def State.cspSlave (s : State) : Bool := s.has .csp && s.flag F.CSP_SCFG_SEN && !s.flag F.CSP_SCFG_ROLE

/-- The STATUS unit (14 Table 14.3). -/
def State.statusUnit (s : State) : Word :=
  BitVec.ofNat 32 (s.fld F.CSP_SSTAT_RES + s.fld F.CSP_SSTAT_FSEQ * 2 ^ 8 + s.fld F.CSP_SMAIL_MAIL * 2 ^ 16)

/-- A frame begins (14 R594, R596, R597): what it sends is as the fall finds it. A frame already in progress has ended by then, and is being
committed; where both buffers are occupied the new frame is not received. -/
def State.frameBegin (s : State) : State :=
  let c := s.csp
  let fresh : Csp := { c with inFrame := true, status := s.statusUnit, offer := c.rbuf.getD [] }
  if !c.inFrame then s.setCsp fresh
  else if c.committing.isNone then s.setCsp { fresh with committing := some (c.status, c.offer) }
  else s.setCsp { c with shut := true }

/-- SSEL_FALL (14 R594, R596, R597, R609, R587; 02 R73, R74): a frame begins with the chip awake, in Dim it returns to Lit; from Ember, Vigil, or
an entry whose QUIESCE window is open it may wake, and the frame is not received. In the master role SSEL is ignored. -/
def execSselFall (s : State) : Res :=
  if !s.on || !s.has .csp || s.flag F.CSP_SCFG_ROLE then ok s
  else if !s.lit .steady then ok (s.wakeSource 4)
  else if s.cspSlave then ok s.arrive.frameBegin
  else ok s.arrive

/-! ### Words on the wire -/

/-- The word size that a WSIZE code gives (14 Table 14.6). -/
def wordBits (code : Nat) : Nat := match code with | 0 => 8 | 1 => 16 | _ => 32

/-- A word from its bits, most significant first. -/
def bitsNat (l : List Bool) : Nat := l.foldl (fun acc b => 2 * acc + b.toNat) 0

/-- The bits of a word of `n` bits as they are sent, most significant first. -/
def sentBits (n v : Nat) : List Bool := (List.range n).map (fun i => v.testBit (n - 1 - i))

/-- Word `i` of a stream of words of `n` bits; a bit that the stream does not give is 0. -/
def wireWord (n : Nat) (l : List Bool) (i : Nat) : Nat := bitsNat ((List.range n).map (fun j => l.getD (n * i + j) false))

/-- A unit from its 32 ÷ n words, the first least significant (14 R588). -/
def unitOfWords (n : Nat) (w : List Nat) : Word := BitVec.ofNat 32 (w.foldr (fun x acc => acc * 2 ^ n + x) 0)

/-- The bits of a unit as they are sent in words of `n` bits (14 R588). -/
def unitBits (n : Nat) (w : Word) : List Bool :=
  (List.range (32 / n)).flatMap (fun j => sentBits n (w.toNat / 2 ^ (n * j) % 2 ^ n))

/-- A frame as units, with the bits left over (14 R588, R589). -/
structure SlaveFrame where
  units : List Word
  extraBits : Nat
  deriving DecidableEq, Repr

/-- The frame that the bits from SDI form in words of `n` bits. -/
def slaveFrame (n : Nat) (f : HostFrame) : SlaveFrame :=
  ⟨(List.range (f.bits.length / 32)).map (fun i =>
      unitOfWords n ((List.range (32 / n)).map (fun j => wireWord n (f.bits.drop (32 * i)) j))), f.bits.length % 32⟩

/-- The live word size of the slave role. -/
def State.slaveBits (s : State) : Nat := wordBits (s.fld F.CSP_SCFG_WSIZE)

/-- The STATUS and the read buffer of the older frame in the port: the one being committed, or the one in progress. -/
def Csp.oldest (c : Csp) : Word × List Word := c.committing.getD (c.status, c.offer)

/-- Unit `i` on SDO of the older frame: STATUS, then the read buffer on offer, then zeros (14 R594). -/
def State.sdoUnit (s : State) (i : Nat) : Word := if i = 0 then s.csp.oldest.1 else s.csp.oldest.2.getD (i - 1) 0

/-- The first `n` bits that the older frame sends on SDO (14 R588, R594). -/
def State.sdoBits (s : State) (n : Nat) : List Bool :=
  ((List.range ((n + 31) / 32)).flatMap (fun i => unitBits s.slaveBits (s.sdoUnit i))).take n

/-! ### Frames -/

/-- The KIND of a frame, none where it has no unit (14 Table 14.1). -/
def frameKind (f : SlaveFrame) : Option Nat := f.units.head?.map (fun w => w.toNat % 16)
/-- Unit 0 as a number. -/
def frameCmd (f : SlaveFrame) : Nat := (f.units.headD 0).toNat
/-- COUNT. -/
def frameCount (f : SlaveFrame) : Nat := (frameCmd f) / 65536 % 512
/-- ADDR, unit 1. -/
def frameAddr (f : SlaveFrame) : Nat := (f.units.getD 1 0).toNat
/-- The data units of a WRITE. -/
def frameWriteData (f : SlaveFrame) : List Word := (f.units.drop 2).take (frameCount f)
/-- The data units of a RECORD. -/
def frameRecordData (f : SlaveFrame) : List Word := (f.units.drop 1).take (frameCount f)

/-- CMD (14 Table 14.2). -/
def State.frameCmdBad (s : State) (f : SlaveFrame) (k : Nat) : Bool :=
  k > 4 || (frameCmd f) / 16 % 4096 != 0 || (frameCmd f) / 2 ^ 25 != 0 ||
    (if 1 ≤ k && k ≤ 3 then (frameCount f) == 0 || (frameCount f) > 256 else (frameCount f) != 0) || (k == 4 && s.boot != .recovery)

/-- The units that Table 14.1 asks for, CRC included; none where any number will do. -/
def State.frameUnits (s : State) (f : SlaveFrame) (k : Nat) : Option Nat :=
  let crc := s.fld F.CSP_SCFG_FCRC
  match k with
  | 1 => some (2 + (frameCount f) + crc)
  | 2 => some (2 + crc)
  | 3 => some (1 + (frameCount f) + crc)
  | 4 => some (2 + crc)
  | _ => none

/-- LEN: the unit count is not the one asked for, or more than the port keeps (14 R607). -/
def State.frameLenBad (s : State) (f : SlaveFrame) (k : Nat) : Bool :=
  f.units.length > 259 || (match s.frameUnits f k with | none => false | some n => f.units.length != n)

/-- The CRC of a frame's earlier units does not match its last (14 R591). -/
def State.frameCrcBad (s : State) (f : SlaveFrame) (k : Nat) : Bool :=
  s.flag F.CSP_SCFG_FCRC && k != 0 &&
    crc32Run 0xFFFFFFFF#32 (f.units.dropLast.flatMap wordBytes) != f.units.getLastD 0

/-- ADDR (14 Table 14.2, R610). -/
def frameAddrBad (f : SlaveFrame) (k : Nat) : Bool :=
  match k with
  | 1 => (frameAddr f) % 4 != 0 || !inSramVigil (frameAddr f) (4 * (frameCount f))
  | 2 => (frameAddr f) % 4 != 0 || !inSramVigil (frameAddr f) (4 * (frameCount f))
  | 4 => (frameAddr f) % 4 != 0 || !inSram (frameAddr f) 4
  | _ => false

/-- NOBUF: no CHAN 0 descriptor handed, or one too small (14 R600). -/
def State.frameNoBuf (s : State) (f : SlaveFrame) (k : Nat) : Bool :=
  k == 3 && (match s.handedTo 7 0 with | none => true | some d => d.len < 4 * (frameCount f))

/-- MEMPAR of a READ. -/
def State.frameMemPar (s : State) (f : SlaveFrame) (k : Nat) : Bool := k == 2 && s.bufBad (frameAddr f) (4 * (frameCount f))

/-- The RES code of a frame of whole units, checked in the order of Table 14.2 (14 R592). -/
def State.frameRes (s : State) (f : SlaveFrame) (k : Nat) : Nat :=
  if s.frameCmdBad f k then resCmd
  else if s.frameLenBad f k then resLen
  else if s.frameCrcBad f k then resCrc
  else if frameAddrBad f k then resAddr
  else if s.frameNoBuf f k then resNoBuf
  else if s.frameMemPar f k then resMemPar else resOk

/-- The port without its older frame. -/
def Csp.left (c : Csp) : Csp := if c.committing.isSome then { c with committing := none } else { c with inFrame := false }

/-- The outcome of a judged frame: RES, FSEQ, the read buffer emptied (14 R590, R595). -/
def State.frameJudged (s : State) (res : Nat) : State :=
  ((((s.setCsp { s.csp.left with rbuf := none }).clrFld F.CSP_SSTAT_RBUF).setFld F.CSP_SSTAT_RES res).setFld
    F.CSP_SSTAT_FSEQ (s.fld F.CSP_SSTAT_FSEQ + 1))

/-- A discarded frame changes DISC only (14 R589). -/
def State.frameDiscard (s : State) : State := (s.setCsp s.csp.left).satInc F.CSP_SSTAT_DISC

/-- A RECORD delivered to the handed descriptor (14 R599). -/
def State.recordPut (s : State) (f : SlaveFrame) : State :=
  match s.handedTo 7 0 with
  | none => s
  | some d =>
    (s.storeWords d.buf ((frameRecordData f).map (fun w => ⟨w, .raw⟩))).finishHanded 7 0 stOk (BitVec.ofNat 32 (4 * (frameCount f)))

/-- A committed GO: thread 0 starts in warden mode at ADDR with g1 = ADDR (14 R610). -/
def State.goStart (s : State) (a : Nat) : State :=
  let s1 := s.startThread 0 (BitVec.ofNat 32 a)
  let t := s1.thr 0
  let s2 := s1.setThr 0 { t with regs := vset t.regs 1 ⟨BitVec.ofNat 32 a, .code⟩ }
  { s2.clrFld F.CSP_SSTAT_RECOVERY with boot := .done }

/-- What a committed frame does (14 Table 14.1, R593, R595, R599, R610). -/
def State.frameCommit (s : State) (f : SlaveFrame) (k : Nat) : State :=
  match k with
  | 1 => s.storeWords (frameAddr f) ((frameWriteData f).map (fun w => ⟨w, .raw⟩))
  | 2 =>
    (s.setCsp { s.csp with rbuf := some ((List.range (frameCount f)).map (fun i => s.word ((frameAddr f) + 4 * i))) }).setBit F.CSP_SSTAT_RBUF
  | 3 => s.recordPut f
  | 4 => s.goStart (frameAddr f)
  | _ => s

/-- A frame of a KIND is judged at SSEL rise (14 R589, R590): with bits left over it is discarded, of whole units it is refused or committed.
A RECORD that met no handed descriptor leaves a notice (14 R600). -/
def State.frameJudge (s : State) (f : SlaveFrame) : State :=
  if f.extraBits != 0 then s.frameDiscard
  else
    let k := (frameKind f).getD 5
    let res := s.frameRes f k
    let s1 := s.frameJudged res
    if res = resOk then s1.frameCommit f k
    else if res = resNoBuf ∧ (s.handedTo 7 0).isNone then s1.noBuf 7 0 else s1

/-- Whether a frame can be judged now: one in progress while the steady island is lit, one being committed also while that quiesces (14 Table 14.5). -/
def State.frameReady (s : State) : Bool :=
  if s.csp.committing.isSome then s.steadyUp || (s.island .steady).st == .quiescing else s.steadyUp && s.csp.inFrame

/-- The port's older frame, of a KIND, is judged (14 R588 to R590, R594, R597): what it has sent on SDO, then what it does. One in progress has
its SSEL rise with that. -/
def State.frameEnd (s : State) (h : HostFrame) (mine : Option Nat → Bool) : State :=
  let f := slaveFrame s.slaveBits h
  if !s.on || !s.frameReady || !mine (frameKind f) then s
  else (s.setCsp { s.csp with sdo := s.sdoBits h.bits.length }).frameJudge f

/-- NOP (14 R591). -/
def execNop (f : HostFrame) (s : State) : Res := ok (s.frameEnd f (· == some 0))
/-- WRITE (14 R593). -/
def execWrite (f : HostFrame) (s : State) : Res := ok (s.frameEnd f (· == some 1))
/-- READ (14 R595). -/
def execRead (f : HostFrame) (s : State) : Res := ok (s.frameEnd f (· == some 2))
/-- RECORD (14 R599). -/
def execRecord (f : HostFrame) (s : State) : Res := ok (s.frameEnd f (· == some 3))
/-- GO (14 R610). -/
def execGo (f : HostFrame) (s : State) : Res := ok (s.frameEnd f (· == some 4))
/-- RESERVED_KIND_FRAME (14 R591, R592): KIND 0x5 to 0xF, or no command unit at all, is refused with CMD. -/
def execReservedKindFrame (f : HostFrame) (s : State) : Res :=
  ok (s.frameEnd f (fun k => match k with | none => true | some x => 5 ≤ x))

/-- FRAME_DISCARD (14 R589, R597): the newest frame is discarded at its SSEL rise, the one that found both buffers occupied or one of partial
units. How many bits the frame had the command does not say, so none is shown as sent. -/
def execFrameDiscard (s : State) : Res :=
  if !s.on || !s.steadyUp then ok s
  else if s.csp.shut then ok ((s.setCsp { s.csp with shut := false }).satInc F.CSP_SSTAT_DISC)
  else if s.csp.inFrame then ok ((s.setCsp { s.csp with inFrame := false, sdo := [] }).satInc F.CSP_SSTAT_DISC)
  else ok s

/-- The checks of a CHAN 0 descriptor (14 R599, R605). -/
def State.cspRecvCheck (s : State) (d : Desc) : Option Nat :=
  if d.op != 0x10 || d.uflags != 0 || d.uparam != 0 || d.lenTop != 0 || d.opd 4 != 0 || d.opd 5 != 0 || d.opd 6 != 0 || d.opd 7 != 0 then
    some stBadOp
  else if s.dtagBad d then some stDtag
  else if d.len < 4 || d.len > 1024 || d.len % 4 != 0 then some stLen
  else if d.buf % 4 != 0 || !inSramVigil d.buf d.len then some stAddrErr
  else if s.flag F.CSP_SCFG_ROLE then some psRole else none

/-- CSP_RECV (14 R599): the descriptor is handed, or refused; the channel holds one. -/
def execCspRecv (s : State) : Res :=
  if (s.handedTo 7 0).isSome then ok s
  else
    ok (s.takeWith 7 0 (fun _ => true) (fun t d =>
      match t.cspRecvCheck d with
      | some st => t.refuse d st
      | none => t.hand 7 0 d))

/-- SEL and KEEP of an XFER (14 R601). -/
def Desc.csel (d : Desc) : Nat := d.uparam % 4
def Desc.keep (d : Desc) : Bool := d.uparam.testBit 2

/-- The bytes of a word of a select's group (14 Table 14.6). -/
def State.cspWord (s : State) (n : Nat) : Nat := match s.fld (F.CSP_MSEL_WSIZE n) with | 0 => 1 | 1 => 2 | _ => 4

/-- What the port meets over the transmit source; BUF = 0 has none. -/
def State.xferSource (s : State) (d : Desc) : Eng := if d.buf = 0 then .ok else (s.engView 7 1).engRead d.buf d.len

/-- The checks of an XFER in the order of R605; a parity failure of the source comes last. -/
def State.xferCheck (s : State) (d : Desc) : Option Nat :=
  if d.op != 1 || d.uflags != 0 || d.uparam ≥ 8 || d.lenTop != 0 || d.opd 5 != 0 || d.opd 6 != 0 || d.opd 7 != 0 then some stBadOp
  else if s.dtagBad d then some stDtag
  else if d.len == 0 || d.len > 4096 then some stLen
  else if d.len % s.cspWord d.csel != 0 then some psXLen
  else if (s.xferSource d).badStatus == some stAddrErr || (d.opd 4 != 0 && !inSramVigil (d.opd 4) d.len) then some stAddrErr
  else if (s.xferSource d).badStatus == some stXoDenied then some stXoDenied
  else if !s.flag F.CSP_SCFG_ROLE then some psRole
  else if d.opd 4 != 0 && s.edgeBad (d.opd 4) d.len then some stMemPar
  else (s.xferSource d).badStatus

/-- The XFER that the port takes next: while a select is held, the first in turn that names it (14 R603). -/
def State.nextXfer (s : State) : Option Desc :=
  match s.csp.kept with
  | none => s.headDesc 7 1
  | some k =>
    if !s.engineUp 7 then none
    else
      (ringsFrom (s.lastServed 7 1)).findSome? (fun n =>
        let d : Desc := ⟨n, (s.ring n).cons, s.readDesc ((s.ring n).descAt (s.ring n).cons)⟩
        if s.ringState n == ringOn && s.ringUnit n == 7 && s.ringChan n == 1 && (s.ring n).untaken != 0 &&
            (s.descBad d || (d.op == 1 && d.csel == k)) then some d else none)

/-- The bytes that come in over SDI in words of `n` bits, the lowest-addressed byte of a word least significant (14 R602). -/
def bytesIn (n len : Nat) (l : List Bool) : List Byte :=
  (List.range len).map (fun i => BitVec.ofNat 8 (wireWord n l (8 * i / n) / 2 ^ (8 * i % n)))

/-- The bits that go out over SDO for bytes, in words of `n` bits (14 R602). -/
def bitsOut (n : Nat) (l : List Byte) : List Bool :=
  (List.range (8 * l.length / n)).flatMap (fun i =>
    sentBits n (((List.range (n / 8)).map (fun j => (l.getD (n / 8 * i + j) 0).toNat)).foldr (fun x acc => acc * 256 + x) 0))

/-- The bytes that an XFER sends: its source, or 0xFF (14 R601). -/
def State.xferBytes (s : State) (d : Desc) : List Byte := if d.buf = 0 then List.replicate d.len 0xFF else s.engBytes d.buf d.len

/-- The transfer in hand replaced. -/
def State.setXfer (s : State) (x : Option Xfer) : State := s.setCsp { s.csp with xfer := x }

/-- The bytes that a transfer has exchanged: its whole words (14 R602). -/
def State.xferDone (s : State) (x : Xfer) : Nat :=
  let w := s.cspWord x.desc.csel
  min x.desc.len (x.sdi.length / (8 * w) * w)

/-- What a transfer has received so far is stored (14 R602). -/
def State.xferStore (s : State) (x : Xfer) (k : Nat) : State :=
  let d := x.desc
  if d.opd 4 = 0 ∨ k = 0 then s else s.storeBytes .raw (d.opd 4) (bytesIn (8 * s.cspWord d.csel) k x.sdi)

/-- Bits come in over SDI in a transfer whose select is asserted (14 R602): once they are all there it stores what came in, keeps or releases the
select, and completes. -/
def State.xferShift (s : State) (x : Xfer) (out : List Byte) (sdi : List Bool) : State :=
  let d := x.desc
  let n := 8 * s.cspWord d.csel
  let y : Xfer := { x with out := some out, sdi := x.sdi ++ sdi }
  if y.sdi.length < 8 * d.len then s.setXfer (some y)
  else
    let s1 := s.xferStore y d.len
    (s1.setCsp { s1.csp with kept := if d.keep then some d.csel else none, xfer := none, sdo := bitsOut n out }).finish d stOk
      (BitVec.ofNat 32 d.len)

/-- A checked transfer goes on (14 R601, R602): it waits while its source does (03 R139; 07 R306); once that is read its select is asserted. -/
def State.xferGo (s : State) (x : Xfer) (sdi : List Bool) : State :=
  let d := x.desc
  match x.out with
  | some out => s.xferShift x out sdi
  | none =>
    match s.xferSource d with
    | .wait light => ((s.holdAccess 7 1).engWait light).setXfer (some x)
    | .bad st => (((s.dropAccess 7 1).afterEngRead d.buf d.len).setXfer none).refuse d st
    | .ok => State.xferShift ((if d.buf = 0 then s else s.afterEngRead d.buf d.len).dropAccess 7 1) x (s.xferBytes d) sdi

/-- An XFER's work (14 R601, R605). -/
def State.xferRun (sdi : List Bool) (s : State) (d : Desc) : State :=
  match s.xferCheck d with
  | some st => (if (s.xferSource d).badStatus == some stMemPar && st == stMemPar then s.afterEngRead d.buf d.len else s).refuse d st
  | none => s.xferGo ⟨d, none, []⟩ sdi

/-- XFER (14 R601, R602, R606): the transfer in hand goes on with the bits that come in over SDI, or the next descriptor is taken and checked; the
port holds at most one (R598). A transfer of which bits are still to come stays in progress. -/
def execXfer (sdi : List Bool) (s : State) : Res :=
  match s.csp.xfer with
  | some x => ok (if s.engineUp 7 || (s.on && (s.island .steady).st == .quiescing) then s.xferGo x sdi else s)
  | none => ok (s.takeDesc 7 1 s.nextXfer (State.xferRun sdi))

/-- A steady quiesce over a transfer in hand: it completes CUTOFF with RESULT = bytes exchanged, and its select is released (14 Table 14.5). -/
def State.xferCut (s : State) : State :=
  match s.csp.xfer with
  | none => s
  | some x =>
    let s1 := (s.dropAccess 7 1).xferStore x (s.xferDone x)
    (s1.setCsp { s1.csp with kept := none, xfer := none }).finish x.desc stCutoff (BitVec.ofNat 32 (s.xferDone x))

/-- A write to CSP_MCTL (14 R603). -/
def State.cspDrop (s : State) (v : Word) : State := if v.getLsbD 0 then s.setCsp { s.csp with kept := none } else s

/-- DROP (14 R603). -/
def execDrop (s : State) : Res := ok (if s.steadyRuns && s.has .csp then s.cspDrop 1 else s)

/-- A write to CSP_SCLR (14 Table 14.6). -/
def State.cspSclr (s : State) (v : Word) : State := if v.getLsbD 0 then s.clrFld F.CSP_SSTAT_DISC else s

/-- CSP_SCLR (14 R612). -/
def execCspSclr (s : State) : Res := ok (if s.steadyRuns && s.has .csp then s.cspSclr 1 else s)

/-- Whether the CSP commit point is now: no frame in progress, none being committed, no XFER handed (14 R606). -/
def State.cspIdle (s : State) : Bool :=
  s.steadyRuns && !s.csp.inFrame && !s.csp.shut && s.csp.committing.isNone && s.csp.xfer.isNone

/-- The smallest DIV at which SCK is at most 20 MHz (14 R604, R607). -/
def State.cspDivMin (s : State) : Nat := min 255 ((s.fllHz + 39999999) / 40000000 - 1)

/-- The CSP set committed (14 R607). -/
def State.cspCommit (s : State) : State :=
  ((List.range 4).foldl (fun acc n => acc.clampRange (F.CSP_MSEL_DIV n) s.cspDivMin 255 F.CSP_SSTAT_CLAMP) (s.commitAll .csp)).chanArms s 7 0

/-- The boot ROM in host recovery (14 R610): RECOVERY, MAIL = 0x5EC0, the slave role with the reset configuration, staged and live. -/
def State.cspRecovery (s : State) : State :=
  let a := F.CSP_SCFG_SEN.addr
  ((((s.setReg a (resetWord a)).setStg a (resetWord a)).setFld F.CSP_SMAIL_MAIL 0x5EC0)).setBit F.CSP_SSTAT_RECOVERY

end Sys2Proof.Machine
end

