-- ==== Sys2Proof/Machine/Schedule.lean ====
section
/-! DEFINITION. What the radio and the link controller share: chip rates and on-air times (10), the duty budget (10 R433 to R436), mesh time
and the slot schedule (11 R458 to R462), the gaps that R443 leaves, the frame-buffer pool (10 R428 to R431). -/

namespace Sys2Proof.Machine

/-! ### Paths and times -/

/-- One µs, in the unit of the radio's exact times, 2^-31 µs. -/
abbrev oneUs : Nat := 2 ^ 31
/-- A fraction unit of the time base (2^-16 tick) in 2^-31 µs. -/
abbrev oneFrac : Nat := 1000000

/-- The time base in 2^-31 µs. -/
def State.nowU (s : State) : Nat := s.timeBase.toNat * oneFrac

/-- A duration in µs, rounded up. -/
def inUs (u : Nat) : Nat := (u + oneUs - 1) / oneUs

/-- The time of `n` chips at a rate in chips per second; a part of 2^-31 µs counts whole. -/
def chipTime (n rate : Nat) : Nat := (n * oneUs * 1000000 + rate - 1) / rate

/-- The highest RATE code of a path (10 Table 10.1). -/
def rateTop (p : Nat) : Nat := if p = 0 then 5 else 3

/-- The chip rate of a RATE code in chips per second (10 Table 10.1). -/
def chipRate (p code : Nat) : Nat := if p = 0 then 4800 * 2 ^ min code 5 else 250000 * 2 ^ min code 3

/-- The live chip rate of a path. -/
def State.rate (s : State) (p : Nat) : Nat := chipRate p (s.fld (F.RAD_P_MOD_RATE p))

/-- The lantern rate of a path (10 Table 10.7). -/
def State.lanternRate (s : State) (p : Nat) : Nat := chipRate p (s.fld (if p = 0 then F.RAD_LANT_RATE0 else F.RAD_LANT_RATE1))

/-- A step of a wick profile in quarter µs (10 R411). -/
def State.rampStep (s : State) (q : Nat) : Nat := s.fld (F.RAD_WK_STEP_STEP q) + 1

/-- One ramp of a wick profile (10 R412). -/
def State.rampTime (s : State) (q : Nat) : Nat := 32 * s.rampStep q * (oneUs / 4)

/-- The amplitude codes A(q, 0) to A(q, 31) of a wick profile (10 R411, R453). -/
def State.rampCodes (s : State) (q : Nat) : List Nat :=
  (List.range 32).map (fun k => ((s.reg (0x4000D220 + 0x40 * q + 4 * (k / 4))).extractLsb' (8 * (k % 4)) 8).toNat)

/-- Two ramps and `n` chips (10 R435). -/
def State.airTime (s : State) (q n rate : Nat) : Nat := 2 * s.rampTime q + chipTime n rate

/-- The chips of a frame after its ramp-up (10 Table 10.2, R417). -/
def State.frameChips (s : State) (p len : Nat) (crc code ilv : Bool) : Nat :=
  s.fld (F.RAD_P_MOD_PRELEN p) + 124 + payloadChips len crc code ilv

/-- The on-air time of a frame (10 R435). -/
def State.frameTime (s : State) (p q len : Nat) (crc code ilv : Bool) : Nat := s.airTime q (s.frameChips p len crc code ilv) (s.rate p)

/-- The repetitions of a lantern of `ms` ms (10 R421). -/
def State.lanternReps (s : State) (p ms : Nat) : Nat := (ms * s.lanternRate p + 31999) / 32000

/-- The on-air time of a lantern of `ms` ms, rounded up to whole repetitions (10 R421). -/
def State.lanternTime (s : State) (p q ms : Nat) : Nat := s.airTime q (32 * s.lanternReps p ms) (s.lanternRate p)

/-! ### What goes on the air -/

/-- The chips of a transmission between its ramps (10 R409). -/
def Emission.chips (e : Emission) : List Bool := (List.replicate e.reps e.pattern).flatten

/-- The time of a transmission from the start of its ramp-up to the end of its ramp-down. -/
def Emission.time (e : Emission) : Nat := 2 * (32 * e.step * (oneUs / 4)) + chipTime (e.reps * e.pattern.length) e.rate

/-- The amplitude codes of a transmission in their order: ramp-up, a chip with value 1 at the on-level and one with value 0 off, ramp-down (10
R409, R412). -/
def Emission.codes (e : Emission) : List Nat := e.ramp ++ e.chips.map (fun b => if b then 255 else 0) ++ e.ramp.reverse

/-- Chips between the ramps of a profile, on a path's live carrier and power (10 R408, R412). -/
def State.emission (s : State) (p q rate : Nat) (pattern : List Bool) (reps : Nat) : Emission :=
  ⟨p, s.fld (F.RAD_P_FREQ_KHZ p), s.fld (F.RAD_P_MOD_PWR p), s.rampCodes q, s.rampStep q, rate, pattern, reps⟩

/-- A frame on the air (10 R413, Table 10.2). -/
def State.frameAir (s : State) (p q : Nat) (l : List Byte) (crc white code ilv : Bool) : Emission :=
  s.emission p q (s.rate p)
    ((List.range (s.fld (F.RAD_P_MOD_PRELEN p))).map (fun i => i % 2 == 0) ++
      wordMsb (s.reg F.RAD_SYNCHI_HI.addr) ++ wordMsb (s.reg F.RAD_SYNCLO_LO.addr) ++
      headerChips (header l.length crc white code ilv) ++ payloadChain l crc white code ilv) 1

/-- A lantern on the air (10 R421). -/
def State.lanternAir (s : State) (p q ms : Nat) (alarm : Bool) : Emission :=
  s.emission p q (s.lanternRate p)
    (wordMsb (s.reg (if alarm then F.RAD_LANTA_CODE else F.RAD_LANTW_CODE).addr)) (s.lanternReps p ms)

/-! ### The duty budget -/

/-- The ticks of a duty window (10 R433; WINS = 0 acts as 1). -/
def State.dutyWindow (s : State) (p : Nat) : Nat := max 1 (s.fld (F.RAD_P_DUTY_WINS p)) * 32768

/-- The tick at which a path's duty window began. -/
def State.dutyAt (s : State) (p : Nat) : Nat := vget s.radio.dutyAt (Fin.ofNat 2 p)

/-- The tick at which the duty window begins that bears a ramp-up at a later tick: the present window or the next (10 R434). -/
def State.dutyWin (s : State) (p tick : Nat) : Nat :=
  if s.dutyAt p + s.dutyWindow p ≤ tick then s.dutyAt p + s.dutyWindow p else s.dutyAt p

/-- What is charged to a window of a path, the present one or the next. -/
def State.dutyUsed (s : State) (p win : Nat) : Nat :=
  if win = s.dutyAt p then s.fld (F.RAD_P_DUSED_US p) else vget s.radio.dutyNext (Fin.ofNat 2 p)

/-- What is charged to a window of a path replaced. -/
def State.setDuty (s : State) (p win v : Nat) : State :=
  if win = s.dutyAt p then s.setFld (F.RAD_P_DUSED_US p) v
  else { s with radio := { s.radio with dutyNext := vset s.radio.dutyNext (Fin.ofNat 2 p) v } }

/-- Whether a transmission of `us` µs stays within a path's budget in a window (10 R433, R435). -/
def State.dutyBears (s : State) (p win us : Nat) : Bool :=
  s.fld (F.RAD_P_DUTY_BUDGET p) == 0 || s.dutyUsed p win + us ≤ s.fld (F.RAD_P_DUTY_BUDGET p) * 1000

/-- A transmission charged to a window of its path (10 R434, R436). -/
def State.dutyCharge (s : State) (p win us : Nat) : State := s.setDuty p win (min (2 ^ 32 - 1) (s.dutyUsed p win + us))

/-- The part of a charge that was not spent on the air, taken back while its window is the present one or the next (10 R434). -/
def State.dutyBack (s : State) (p win us : Nat) : State :=
  if win = s.dutyAt p ∨ win = s.dutyAt p + s.dutyWindow p then s.setDuty p win (s.dutyUsed p win - us) else s

/-- The tick of the time base in 2^-31 µs. -/
def tickOf (u : Nat) : Nat := u / (65536 * oneFrac)

/-- Whether the duty budget lets the link controller send from a moment on (10 R436). -/
def State.mayTransmit (s : State) (e : Emission) (start : Nat) : Bool := s.dutyBears e.band (s.dutyWin e.band (tickOf start)) (inUs e.time)

/-- A transmission of the link controller from a moment on, charged to the window of its ramp-up (10 R434, R436). -/
def State.transmit (s : State) (e : Emission) (start : Nat) : State :=
  let win := s.dutyWin e.band (tickOf start)
  let s1 := s.dutyCharge e.band win (inUs e.time)
  let rest := s1.radio.air.filter (fun x => s1.nowU < x.stop)
  { s1 with radio := { s1.radio with air := rest ++ [⟨e, start, start + e.time, inUs e.time, win, false⟩] } }

/-- Whether a transmission of the link controller is on the air. -/
def State.onAir (s : State) : Bool := s.radio.air.any (fun x => x.start ≤ s.nowU && s.nowU < x.stop)

/-- Whether the link controller transmits, or is between a lantern of its own and the beacon that follows it (11 R477). -/
def State.linkSends (s : State) : Bool := s.onAir || s.mesh.beacon.isSome

/-- A transmission that stops now ends with its ramp-down; one that has not begun is not sent (10 R450). What it then was on the air is its
charge (R434). -/
def State.stopOne (s : State) (x : OnAir) : State :=
  let down := 32 * x.em.step * (oneUs / 4)
  let stop := if s.nowU < x.start then x.start else min x.stop (s.nowU + down)
  let us := inUs (stop - x.start)
  let s1 := s.dutyBack x.em.band x.win (x.us - us)
  if stop ≤ s.nowU then s1 else { s1 with radio := { s1.radio with air := s1.radio.air ++ [{ x with stop := stop, us := us }] } }

/-- The link controller's transmissions stop, and a beacon that is still to be sent is not. -/
def State.stopAir (s : State) : State :=
  s.radio.air.foldl State.stopOne { s with radio := { s.radio with air := [] }, mesh := { s.mesh with beacon := none } }

/-! ### Mesh time -/

/-- MSH_OFF (11 R458). -/
def State.mshOff (s : State) : Nat := s.fld F.MSH_OFFLO_OFF + s.fld F.MSH_OFFHI_OFF * 2 ^ 32

/-- The state with MSH_OFF replaced modulo 2^64. -/
def State.setMshOff (s : State) (v : Int) : State :=
  let n := (v % 2 ^ 64).toNat
  (s.setFld F.MSH_OFFLO_OFF (n % 2 ^ 32)).setFld F.MSH_OFFHI_OFF (n / 2 ^ 32)

/-- Mesh time in the time-base format (11 R458). -/
def State.mt (s : State) : Nat := (s.timeBase.toNat + s.mshOff) % 2 ^ 64
/-- Mesh time in ticks. -/
def State.mtTicks (s : State) : Nat := s.mt / 65536

/-- SLOTLEN and CYCLEN as live; a value 0 is never committed. -/
def State.slotLen (s : State) : Nat := max 1 (s.fld F.MSH_CYC_SLOTLEN)
def State.cycLen (s : State) : Nat := max 1 (s.fld F.MSH_CYC_CYCLEN)

/-- The slot that mesh time lies in, counted without the cycle's modulus. -/
def State.slotAbs (s : State) : Nat := s.mtTicks / s.slotLen
/-- The cycle number by mesh time (11 R458). -/
def State.cycleNow (s : State) : Nat := s.mtTicks / (s.slotLen * s.cycLen) % 2 ^ 32

/-- A cycle number that has been reached, in serial comparison (01 R31). -/
def State.cycleReached (s : State) (c : Nat) : Bool := (s.cycleNow + 2 ^ 32 - c) % 2 ^ 32 < 2 ^ 31

/-! ### The schedule -/

/-- The fields of a schedule entry (11 Table 11.3). -/
def entryType (w : Word) : Nat := w.toNat % 16
def entryNbr (w : Word) : Nat := w.toNat / 16 % 64
def entryBand (w : Word) : Nat := w.toNat / 1024 % 2

/-- The address of the schedule word of slot `k`. -/
def State.schedAt (s : State) (k : Nat) : Nat := s.fld F.MSH_SCHED_ADDR * 4 + 4 * (k % s.cycLen)

/-- Whether the schedule word of slot `k` is one that R461 makes IDLE. -/
def State.badSlot (s : State) (k : Nat) : Bool :=
  let a := s.schedAt k
  let w := s.word a
  !inSram a 4 || s.mem.parityBad a || entryType w > 7 || w.toNat / 2048 != 0 || !s.has (pathUnit (entryBand w)) ||
    ((entryType w == 1 || entryType w == 2 || entryType w == 4) && s.fld (F.NBR_ST_STATE (entryNbr w)) == 0)

/-- The schedule word of slot `k` as the link controller acts on it: IDLE where R461 says so. -/
def State.schedWord (s : State) (k : Nat) : Word := if s.badSlot k then 0 else s.word (s.schedAt k)

/-- Whether a TYPE owns its slot (11 R462). -/
def ownsSlot (t : Nat) : Bool := [1, 2, 3, 4, 5, 7].contains t

/-- The length of a slot (11 R459). -/
def State.slotTime (s : State) : Nat := s.slotLen * 65536 * oneFrac

/-- A neighbour entry beside its registers. -/
def State.nbr (s : State) (e : Nat) : Nbr := smGet (fun _ => Nbr.empty) s.mesh.nbr e
/-- NBR_ST.STATE. -/
def State.nbrSt (s : State) (e : Nat) : Nat := s.fld (F.NBR_ST_STATE e)
/-- D_j, signed (11 R473). -/
def State.drift (s : State) (e : Nat) : Int := (BitVec.ofNat 16 (s.fld (F.NBR_DRIFT_D e))).toInt
/-- Ticks since an entry's last sync. -/
def State.sinceSync (s : State) (e : Nat) : Nat := (s.tick32.toNat + 2 ^ 32 - s.fld (F.NBR_SYNC_TICK e)) % 2 ^ 32

/-- The nominal sync-word end of a slot on a path, from the slot's boundary (11 Table 11.4), its sender's wick profile being 0 as the link
controller's own is (log 109). -/
def State.nominal (s : State) (p : Nat) : Nat :=
  s.fld F.MSH_TIM_TXOFF * oneUs + s.rampTime 0 + chipTime (s.fld (F.RAD_P_MOD_PRELEN p) + 64) (s.rate p)

/-- O_j + D_j × Δt of an entry, `dt` ticks after its last sync (11 R472); D counts 1/64 ppm. -/
def State.shift (s : State) (e : Nat) (dt : Int) : Int := (s.nbr e).off * oneFrac + s.drift e * dt * 1024

/-- The predicted sync-word end in slot `k`, from its boundary (11 R472). -/
def State.predicted (s : State) (k : Nat) : Int :=
  let w := s.schedWord k
  s.nominal (entryBand w) + s.shift (entryNbr w) ((s.sinceSync (entryNbr w) : Int) + (k * s.slotLen : Nat) - s.mtTicks)

/-- Whether a slot is one in which its LOST entry listens in a widened window (11 R477 step 2). -/
def State.lostSlot (s : State) (w : Word) : Bool :=
  (entryType w == 2 || entryType w == 4) && s.nbrSt (entryNbr w) == 3 && s.fld (F.NBR_ST_STEP (entryNbr w)) != 0

/-- Half the width of an entry's widened window: 1, 2, 4 or 8 ms by NBR_ST.STEP (11 R477 step 2). -/
def State.halfWidth (s : State) (e : Nat) : Nat := 1000 * 2 ^ (s.fld (F.NBR_ST_STEP e) - 1) * oneUs

/-- How far a widened window reaches out of slot `k` before and after it, about the predicted sync-word end (11 R477 step 2). -/
def State.widened (s : State) (k : Nat) : Nat × Nat :=
  let w := s.schedWord k
  if s.lostSlot w then
    let half : Int := s.halfWidth (entryNbr w)
    ((half - s.predicted k).toNat, (s.predicted k + half - s.slotTime).toNat)
  else (0, 0)

/-- Whether no slot from `a` on, `n` of them, is owned by its TYPE. -/
def State.noneOwned (s : State) (a n : Nat) : Bool := (List.range n).all (fun i => !ownsSlot (entryType (s.schedWord (a + i))))

/-- The slots whose widened windows reach into slot `k`: later ones that reach back, and earlier ones that reach forward and whose window is still
open, with no owned slot between (11 R462, R477). Eight slots are further than 8 ms about any predicted time near its slot. -/
def State.windowsFrom (s : State) (k : Nat) : List Nat :=
  ((List.range 8).flatMap (fun d =>
    (if (s.widened (k + d + 1)).1 > d * s.slotTime && s.noneOwned k (d + 1) then [k + d + 1] else []) ++
    (if d < k && (s.widened (k - d - 1)).2 > d * s.slotTime && s.noneOwned (k - d) (d + 1) &&
        (s.slotAbs ≤ k - d - 1 || s.mesh.wide.contains (k - d - 1)) then [k - d - 1] else []))).filter (fun w => !s.mesh.deaf.contains w)

/-- Whether the link controller owns slot `k` (11 R462). -/
def State.slotOwned (s : State) (k : Nat) : Bool := ownsSlot (entryType (s.schedWord k)) || !(s.windowsFrom k).isEmpty

/-- Whether an operation of a duration from a moment of mesh time, both in 2^-31 µs, meets an owned slot (10 R443). -/
def State.overlaps (s : State) (m u : Nat) : Bool :=
  let first := m / s.slotTime
  (List.range (min ((m + max u 1 - 1) / s.slotTime + 1 - first) s.cycLen)).any (fun i => s.slotOwned (first + i))

/-- Whether the link controller runs its schedule. -/
def State.meshRuns (s : State) : Bool :=
  s.fld F.MSH_STAT_STATE == 2 && s.fld F.MSH_HSTAT_STATE != 3

/-- How far mesh time lies past the boundary of its slot, in 2^-31 µs. -/
def State.intoSlot (s : State) : Nat := s.mt * oneFrac % s.slotTime

/-- Whether the link controller owns a slot whose boundary lies at most `u` ahead (10 R426; 11 R462). -/
def State.slotSoon (s : State) (u : Nat) : Bool := s.meshRuns && s.slotTime - s.intoSlot ≤ u && s.slotOwned (s.slotAbs + 1)

/-! ### The pool -/

/-- The address of pool buffer `i` (10 R428). -/
def State.bufAddr (s : State) (i : Nat) : Nat := 0x20000000 + s.fld F.RAD_POOL_BANK * 0x10000 + i * 0x100
/-- The state of a pool buffer (10 R430). -/
def State.bufSt (s : State) (i : Nat) : BufSt := smGet (fun _ => BufSt.free) s.radio.pool i
/-- The state with a pool buffer in another state. -/
def State.setBuf (s : State) (i : Nat) (b : BufSt) : State :=
  { s with radio := { s.radio with pool := smSet (fun _ => BufSt.free) s.radio.pool i b } }
/-- The lowest-numbered FREE buffer of a granted pool (10 R429, R431). -/
def State.lowestFree (s : State) : Option Nat :=
  if s.flag F.RAD_POOL_GRANTED then (List.range 256).find? (fun i => s.bufSt i == .free) else none
/-- The state codes of RAD_BOWN (10 Table 10.7). -/
def BufSt.num : BufSt → Nat
  | .free => 0 | .soft => 1 | .queue => 2 | .slot => 3

end Sys2Proof.Machine
end

