-- ==== Sys2Proof/Machine/Radio.lean ====
section
/-! DEFINITION. The radio (10): air operations, the pool's operations, calibration, the sniffer, the duty windows. The recognition of a
lantern is in Mesh.lean, which an alarm concerns. -/

namespace Sys2Proof.Machine

/-- Status codes of Table 10.4. -/
abbrev rsNoSync : Nat := 0x20
abbrev rsHdrBad : Nat := 0x21
abbrev rsCrcBad : Nat := 0x22
abbrev rsTooLong : Nat := 0x23
abbrev rsLate : Nat := 0x24
abbrev rsBlocked : Nat := 0x25
abbrev rsUnlock : Nat := 0x26
abbrev rsDuty : Nat := 0x27
abbrev rsPoolEmpty : Nat := 0x28
abbrev rsNotHeld : Nat := 0x29

/-- The fields of a radio descriptor (10 R438). -/
def Desc.alarm (d : Desc) : Bool := d.uparam / 2 % 2 == 1
def Desc.profile (d : Desc) : Nat := d.uflags / 16
def Desc.fCrc (d : Desc) : Bool := d.uflags.testBit 0
def Desc.fWhite (d : Desc) : Bool := d.uflags.testBit 1
def Desc.fCode (d : Desc) : Bool := d.uflags.testBit 2
def Desc.fIlv (d : Desc) : Bool := d.uflags.testBit 3
def Desc.at' (d : Desc) : Bool := d.opd 5 == 1
/-- Whether the operation transmits. -/
def Desc.sends (d : Desc) : Bool := d.op == 1 || d.op == 3

/-- Non-zero bits where a CHAN 0 descriptor must have zero, or a field outside the range its table gives (10 R438, Table 10.3; log 29). -/
def Desc.radioBadOp (d : Desc) : Bool :=
  d.op == 0 || d.op > 5 || d.lenTop != 0 || d.uparam / 4 != 0 || (d.op != 3 && d.alarm) || (d.op != 1 && d.uflags % 16 != 0) ||
    (!d.sends && d.profile != 0) || d.opd 5 > 1 || d.opd 7 != 0 ||
    (match d.op with
     | 2 => d.opd 6 == 0 || d.opd 6 > 16777215
     | 3 => d.opd 6 == 0 || d.opd 6 > 65535
     | 4 => false
     | _ => d.opd 6 != 0) ||
    (d.op > 2 && (d.buf != 0 || d.len != 0))

/-- The time that an operation takes, its window for a listening one (10 R435, R421, R425). -/
def State.opTime (s : State) (d : Desc) : Nat :=
  match d.op with
  | 1 => s.frameTime d.band d.profile d.len d.fCrc d.fCode d.fIlv
  | 3 => s.lanternTime d.band d.profile (d.opd 6)
  | 5 => 250 * oneUs
  | _ => d.opd 6 * oneUs

/-- The time that an operation takes in µs, rounded up (10 Table 10.3). -/
def State.opUs (s : State) (d : Desc) : Nat := inUs (s.opTime d)

/-- The ticks from now to START, modulo 2^32 (10 Table 10.4). -/
def State.untilStart (s : State) (d : Desc) : Nat := (d.opd 4 + 2 ^ 32 - s.tick32.toNat) % 2 ^ 32

/-- Mesh time at the tick edge START, in 2^-31 µs (10 R443; 11 R458). -/
def State.meshAtStart (s : State) (d : Desc) : Nat := ((s.now + s.untilStart d) * 65536 + s.mshOff) % 2 ^ 64 * oneFrac

/-- The checks of R444 in their order. -/
def State.radioCheck (s : State) (d : Desc) : Option (Nat × Option Nat) :=
  let eng := if d.op = 1 then s.engRead d.buf d.len else if d.op = 2 then s.engWrite d.buf d.len else Eng.ok
  if !s.has (pathUnit d.band) then some (stAbsent, none)
  else if d.radioBadOp then some (stBadOp, none)
  else if s.dtagBad d then some (stDtag, none)
  else if d.op ≤ 2 && (d.len == 0 || d.len > 252) then some (stLen, none)
  else if eng.badStatus == some stAddrErr then some (stAddrErr, none)
  else if d.sends && !s.dutyBears d.band (s.dutyAt d.band) (s.opUs d) then some (rsDuty, some (s.fld (F.RAD_P_DUSED_US d.band)))
  else if d.at' && (s.untilStart d < 6 || s.untilStart d ≥ 2 ^ 31) then some (rsLate, some 0)
  else if d.at' && s.meshRuns && s.overlaps (s.meshAtStart d) (s.opTime d) then some (rsBlocked, some 0)
  else none

/-- A CHAN 0 descriptor that has been taken: refused, or scheduled (10 R437, R444). -/
def State.radioRun (s : State) (d : Desc) : State :=
  match s.radioCheck d with
  | some (st, r) => s.finishOpt d st r
  | none => { s with radio := { s.radio with op := some ⟨d, false, s.timeBase.toNat, none, 0, 0, false, none, []⟩ } }

/-- The radio takes a CHAN 0 descriptor of one operation code, or of a code that is none; it holds at most one (10 R437). -/
def State.radioTake (s : State) (op : Nat) : State :=
  if s.radio.op.isSome then s else s.takeWith 4 0 (fun d => d.op == op || d.op == 0 || d.op > 5) State.radioRun

/-- TX (10 R439, R444). -/
def execTx (s : State) : Res := ok (s.radioTake 1)
/-- RX (10 R439, R444). -/
def execRx (s : State) : Res := ok (s.radioTake 2)
/-- LANTERN (10 R421, R444). -/
def execLantern (s : State) : Res := ok (s.radioTake 3)
/-- LSEARCH (10 R439, R444). -/
def execLsearch (s : State) : Res := ok (s.radioTake 4)
/-- CAL (10 R425, R444). -/
def execCal (s : State) : Res := ok (s.radioTake 5)

/-- Non-zero bits where a CHAN 1 descriptor must have zero (10 Table 10.3). -/
def Desc.poolBadOp (d : Desc) : Bool :=
  !(d.op == 0x10 || d.op == 0x11) || d.uflags != 0 || d.uparam / 2 != 0 || d.lenTop != 0 || d.buf != 0 || d.len != 0 || d.opd 5 != 0 ||
    d.opd 6 != 0 || d.opd 7 != 0 || (if d.op = 0x10 then d.opd 4 != 0 else d.opd 4 > 255)

/-- ALLOC's work (10 R431). -/
def State.allocRun (s : State) (d : Desc) : State :=
  match s.lowestFree with
  | none => s.finish d rsPoolEmpty 0
  | some i => ((s.setBuf i .soft).posted 0x50 (Account.take 1)).finish d stOk (BitVec.ofNat 32 i)

/-- FREE's work (10 R431). -/
def State.freeRun (s : State) (d : Desc) : State :=
  let i := d.opd 4
  if s.bufSt i = .soft then ((s.setBuf i .free).posted 0x50 (Account.give 1)).finish d stOk 0
  else s.finish d rsNotHeld (BitVec.ofNat 32 (s.bufSt i).num)

/-- The radio takes a CHAN 1 descriptor (10 R437). -/
def State.poolTake (s : State) (op : Nat) (run : State → Desc → State) : State :=
  s.takeWith 4 1 (fun d => d.op == op || !(d.op == 0x10 || d.op == 0x11)) (fun t d =>
    if !t.has (pathUnit d.band) then t.refuse d stAbsent else if d.poolBadOp then t.refuse d stBadOp else run t d)

/-- ALLOC (10 R431). -/
def execAlloc (s : State) : Res := ok (s.poolTake 0x10 State.allocRun)
/-- FREE (10 R431). -/
def execFree (s : State) : Res := ok (s.poolTake 0x11 State.freeRun)

/-! ### Calibration -/

/-- The other path. -/
def otherPath (p : Fin 2) : Fin 2 := p + 1

/-- A path calibrated now (10 R425 to R427): CALDEF is 0 after each calibration, CALSTALE falls unless the other path's waits. -/
def State.calibrated (s : State) (p : Fin 2) : State :=
  let r := s.radio
  let s1 := ({ s with radio := { r with calAt := vset r.calAt p (some s.now), calTemp := vset r.calTemp p r.temp,
                                        calWait := vset r.calWait p false, calFull := none, relock := vset r.relock p false } }).clrFld
    F.RAD_STAT_CALDEF
  if vget r.calWait (otherPath p) then s1 else s1.clrFld F.RAD_STAT_CALSTALE

/-- A calibration of a path is deferred (10 R426, R427). -/
def State.calDeferred (s : State) (p : Fin 2) : State :=
  let r := s.radio
  let full := if s.fld F.RAD_STAT_CALDEF = 15 then some s.timeBase.toNat else r.calFull
  (({ s with radio := { r with calWait := vset r.calWait p true, calFull := full } }).satInc F.RAD_STAT_CALDEF).setBit F.RAD_STAT_CALSTALE

/-- The calibrations that were deferred run (10 R427). -/
def State.calWaiting (s : State) : State :=
  ([0, 1] : List (Fin 2)).foldl (fun acc p => if vget acc.radio.calWait p then acc.calibrated p else acc) s

/-! ### Air operations -/

/-- The state with the operation in hand replaced. -/
def State.setOp (s : State) (o : Option RadioOp) : State := { s with radio := { s.radio with op := o } }

/-- What a TX or a LANTERN puts on the air (10 R413, R421). -/
def State.opAir (s : State) (d : Desc) : Emission :=
  if d.op = 1 then s.frameAir d.band d.profile (s.engBytes d.buf d.len) d.fCrc d.fWhite d.fCode d.fIlv
  else s.lanternAir d.band d.profile (d.opd 6) d.alarm

/-- A transmission begins its ramp-up (10 R434, R439, R440). -/
def State.opSend (s : State) (o : RadioOp) : State :=
  let d := o.desc
  let us := s.opUs d
  ((s.dutyCharge d.band (s.dutyAt d.band) us).setBit F.RAD_STAT_TXON).setOp
    (some { o with active := true, air := some (s.opAir d), airUs := us, win := s.dutyAt d.band,
                   outcome := some (stOk, BitVec.ofNat 32 us) })

/-- The operation begins: ramp-up with its charge, or listening (10 R434, R439). A budget used up since hand-over refuses it (R435); one whose
buffer cannot be read yet waits (03 R139). -/
def State.opBegin (s : State) (o0 : RadioOp) : State :=
  let d := o0.desc
  let o := { o0 with began := if d.at' && !o0.held then s.now * 65536 else s.timeBase.toNat }
  let s0 := s.setBit F.RAD_STAT_LOCK
  if d.sends && !s.dutyBears d.band (s.dutyAt d.band) (s.opUs d) then
    (s.setOp none).finish d rsDuty (BitVec.ofNat 32 (s.fld (F.RAD_P_DUSED_US d.band)))
  else
    match d.op with
    | 1 =>
      match (s.engView 4 0).engRead d.buf d.len with
      | .bad st => (((s.dropAccess 4 0).afterEngRead d.buf d.len).setOp none).refuse d st
      | .wait light => (((s.holdAccess 4 0).setOp (some { o0 with held := true })).engWait light)
      | .ok => ((s0.dropAccess 4 0).afterEngRead d.buf d.len).opSend o
    | 3 => s0.opSend o
    | 5 => (s0.calibrated (Fin.ofNat 2 d.band)).setOp (some { o with active := true, outcome := some (stOk, 0) })
    | _ => (s0.setBit F.RAD_STAT_RXON).setOp (some { o with active := true, outcome := none })

/-- Whether the operation may begin now: at START with AT = 1, or once a buffer that its START found waiting can be read; with AT = 0 in a gap
that fits it, while the link controller sends nothing (10 R439, R443). -/
def State.opMayBegin (s : State) (o : RadioOp) : Bool :=
  if o.desc.at' then o.held || s.untilStart o.desc == 0
  else !s.linkSends && (!s.meshRuns || !s.overlaps (s.mt * oneFrac) (s.opTime o.desc))

/-- Whether the link controller transmits, holds a slot, or is due to do either within 300 µs (10 R426). -/
def State.linkSoon (s : State) : Bool :=
  s.mesh.slot.isSome || s.slotSoon (300 * oneUs) || s.mesh.beacon.isSome ||
    s.radio.air.any (fun x => x.start ≤ s.nowU + 300 * oneUs && s.nowU < x.stop)

/-- A path whose synthesiser lost lock is calibrated before what comes next on it (10 R449). -/
def State.pathReady (s : State) (p : Nat) : State :=
  if vget s.radio.relock (Fin.ofNat 2 p) then s.calibrated (Fin.ofNat 2 p) else s

/-- The operation in hand begins (10 R426, R427, R443, R449; log 110): with AT = 1 it is BLOCKED where the schedule or a transmission of the link
controller now stands in its way. A CAL is deferred, and waits, where the link controller is due within 300 µs. Calibrations deferred 16 times
go first before an operation with AT = 0 that does not transmit, which waits with them for such a slot; so does that of a path whose synthesiser
lost lock. -/
def State.opStart (s : State) (o : RadioOp) : State :=
  let d := o.desc
  let forced := 16 ≤ s.fld F.RAD_STAT_CALDEF && !d.at' && !d.sends
  if d.at' && (s.linkSends || (s.meshRuns && s.overlaps (s.mt * oneFrac) (s.opTime d))) then (s.setOp none).finish d rsBlocked 0
  else if s.linkSoon && d.op == 5 then
    (if o.held then s else (s.calDeferred (Fin.ofNat 2 d.band)).setOp (some { o with held := true }))
  else if s.linkSoon && forced then s
  else ((if forced then s.calWaiting else s).pathReady d.band).opBegin o

/-- The operation in hand begins where its moment has come; with AT = 0 one for which a cycle brings no gap is BLOCKED (10 R439, R443). -/
def State.opTry (s : State) : State :=
  match s.radio.op with
  | none => s
  | some o =>
    if o.active || !s.lit .radio then s
    else if s.opMayBegin o then s.opStart o
    else if !o.desc.at' && s.timeBase.toNat - o.began ≥ s.slotLen * s.cycLen * 65536 then (s.setOp none).finish o.desc rsBlocked 0
    else s

/-- RADIO_OP_BEGIN (10 R427, R434, R439, R443). -/
def execRadioOpBegin (s : State) : Res := ok (if s.on then s.opTry else s)

/-- An operation with AT = 1 whose START is the tick that ends begins at the tick edge it named, if no command has begun it (10 R439). -/
def State.startOwed (s : State) : State :=
  match s.radio.op with
  | none => s
  | some o => if o.desc.at' && !o.active && !o.held && s.untilStart o.desc == 0 then s.opTry else s

/-! ### Reception -/

/-- What the receiver makes of the chips after sync (10 R414, R415, R419, R420): LEN, the coding flags, CORR, payload bytes, whether their CRC
holds; none where HCRC fails. Chips that are not given are undecided. -/
def decodeFrame (tie : Nat → Nat → Bool) (x : RxChips) : Option (Nat × BitVec 4 × Nat × List Byte × Bool) :=
  let head := (x.soft ++ List.replicate 60 (false, 0)).take 60
  let h : BitVec 24 := BitVec.ofNat 24 (bitsNum (viterbi tie 24 head))
  if headerCrc (h.extractLsb' 0 16) != h.extractLsb' 16 8 then none
  else
    let len := (h.extractLsb' 0 8).toNat
    let crc := h.getLsbD 8
    let code := h.getLsbD 10
    let ilv := h.getLsbD 11
    let n := len + if crc then 4 else 0
    let chips := payloadChips len crc code ilv
    let air := ((x.soft.drop 60) ++ List.replicate chips (false, 0)).take chips
    let soft := if ilv then shuffleAll (false, 0) air else air
    let bits := if code then viterbi (fun k => tie (k + 30)) (8 * n) (soft.take (2 * (8 * n + 6))) else (soft.take (8 * n)).map (·.1)
    let raw := bytesOf bits
    let bytes := if h.getLsbD 9 then whiten raw else raw
    let good := !crc || (List.range 4).all (fun i => bytes.getD (len + i) 0 == (crc32 (bytes.take len)).extractLsb' (8 * i) 8)
    let again := convEncode bits
    let corr := if code then
        chipErrors (head.map (·.1)) (headerChips h) + chipErrors (air.map (·.1)) (if ilv then shuffleAll false again else again) else 0
    some (len, h.extractLsb' 8 4, min 255 corr, bytes.take len, good)

/-- The agreements of 64 hard decisions with the sync word, most significant chip first on the air (10 R418). -/
def State.syncAgree (s : State) (w : BitVec 64) : Nat :=
  agree32 (w.extractLsb' 32 32) (s.reg F.RAD_SYNCHI_HI.addr) + agree32 (w.extractLsb' 0 32) (s.reg F.RAD_SYNCLO_LO.addr)

/-- RESULT of an RX (10 Table 10.3). -/
def rxResult (len syncq : Nat) (code : Bool) (rssi : Byte) (corr : Nat) : Word :=
  BitVec.ofNat 32 (len + syncq * 0x100 + (if code then 0x8000 else 0) + rssi.toNat * 0x10000 + corr * 0x1000000)

/-- The outcome of an RX that reached sync: status, RESULT, bytes to write (10 R420, R441, Table 10.4). -/
def rxOutcome (tie : Nat → Nat → Bool) (x : RxChips) (syncq limit : Nat) : Nat × Word × List Byte :=
  match decodeFrame tie x with
  | none => (rsHdrBad, BitVec.ofNat 32 (syncq * 0x100 + x.rssi.toNat * 0x10000), [])
  | some (len, flags, corr, bytes, good) =>
    let r := rxResult len syncq (flags.getLsbD 2) x.rssi corr
    if limit < len then (rsTooLong, r, bytes.take limit)
    else (if good then stOk else rsCrcBad, r, bytes)

/-- The chips of a frame after its sync word, as the receiver reads its header; those of the header alone where HCRC fails (10 R417). -/
def chipsAfter (tie : Nat → Nat → Bool) (x : RxChips) : Nat :=
  match decodeFrame tie x with
  | none => 60
  | some (len, flags, _) => 60 + payloadChips len (flags.getLsbD 0) (flags.getLsbD 2) (flags.getLsbD 3)

/-- The end of the window of a listening operation, by the time base in 2^-31 µs (10 R439, R440). -/
def State.windowEnd (s : State) (o : RadioOp) : Nat := o.began * oneFrac + s.opTime o.desc

/-- What the link controller's receiver makes of a frame on a path (10 R418 to R420): nothing where sync is not declared or HCRC fails; which
of two equally near paths the decoder keeps is free (log 108). -/
def State.hear (s : State) (p : Nat) (f : RxFrame) : Option Heard :=
  if s.syncAgree f.rx.sync < s.fld (F.RAD_P_RX_THRESH p) then none
  else
    match decodeFrame (Config.pathTie s.free) f.rx with
    | none => none
    | some (_, flags, _, bytes, good) => some ⟨good, bytes, f.rx.rssi, flags, f.err⟩

/-- SYNC_DETECT (10 R418 to R420): a listening RX hears sync within its window, at the last chip of the frame that follows; which of two equally
near paths the decoder keeps is free (log 108). -/
def execSyncDetect (rx : RxChips) (s : State) : Res :=
  match s.radio.op with
  | none => ok s
  | some o =>
    let q := s.syncAgree rx.sync
    let after := chipTime (chipsAfter (Config.pathTie s.free) rx) (s.rate o.desc.band)
    if o.active && o.desc.op == 2 && o.outcome.isNone && s.fld (F.RAD_P_RX_THRESH o.desc.band) ≤ q && s.nowU - after ≤ s.windowEnd o then
      let (st, r, l) := rxOutcome (Config.pathTie s.free) rx q o.desc.len
      ok (s.fresh.setOp (some { o with outcome := some (st, r), bytes := l }))
    else ok s

/-- No operation is on the air. -/
def State.opIdle (s : State) : State :=
  ((((s.setOp none).dropAccess 4 0).clrFld F.RAD_STAT_TXON).clrFld F.RAD_STAT_RXON).clrFld F.RAD_STAT_LOCK

/-- Whether the operation in hand is at its end (10 R440): a transmission after its ramp-down, a listening one that heard nothing at the end of
its window, any other once its outcome is known. -/
def State.opOver (s : State) (o : RadioOp) : Bool :=
  if o.desc.sends then o.began * oneFrac + o.airUs * oneUs ≤ s.nowU
  else if o.outcome.isNone then s.windowEnd o ≤ s.nowU
  else true

/-- RADIO_OP_END (10 R440, R441): the operation finishes with its outcome, a listening one that heard nothing with NOSYNC; an RX writes
its payload. -/
def execRadioOpEnd (s : State) : Res :=
  match s.radio.op with
  | none => ok s
  | some o =>
    if !o.active || !s.on || !s.opOver o then ok s
    else
      match o.outcome with
      | none => ok (s.opIdle.finish o.desc rsNoSync 0)
      | some (st, r) =>
        match (if o.bytes.isEmpty then Eng.ok else (s.engView 4 0).engWrite o.desc.buf o.bytes.length) with
        | .bad e => ok (s.opIdle.refuse o.desc e)
        | .wait l => ok ((s.holdAccess 4 0).engWait l)
        | .ok => ok ((s.opIdle.storeBytes .raw o.desc.buf o.bytes).finish o.desc st r)

/-- What an operation has been on the air in µs when its ramp-down, beginning now, is over (10 Table 10.4, R440, R450). -/
def State.onAirUs (s : State) (o : RadioOp) : Nat :=
  match o.air with
  | none => 0
  | some e => min o.airUs (inUs ((s.timeBase.toNat - o.began) * oneFrac + 32 * e.step * (oneUs / 4)))

/-- An operation on the air is stopped: a transmission ends with its ramp-down and is charged what it then was on the air; the operation
completes with a status, at RADIO_OP_END (10 R434, R449, R450). -/
def State.opStop (s : State) (o : RadioOp) (status : Nat) : State :=
  let us := s.onAirUs o
  (s.dutyBack o.desc.band o.win (o.airUs - us)).setOp
    (some { o with airUs := us, outcome := some (status, BitVec.ofNat 32 us), bytes := [] })

/-- Whether an automatic calibration of a path is due (10 R425). -/
def State.calDue (s : State) (p : Fin 2) : Bool :=
  s.flag F.RAD_CTL_CALAUTO && s.has (pathUnit p.val) &&
    (match vget s.radio.calAt p with
     | none => true
     | some t =>
       let was := vget s.radio.calTemp p
       s.fld F.RAD_CTL_CALDT < (s.radio.temp - was).natAbs || s.fld F.RAD_CALPER_SECONDS * 32768 ≤ s.now - t)

/-- Whether the operation in hand is on the air, or is a transmission or one with AT = 1 that is due within a time (10 R426; log 111). -/
def State.opSoon (s : State) (u : Nat) : Bool :=
  match s.radio.op with
  | none => false
  | some o =>
    o.active || o.held ||
      (if o.desc.at' then decide ((s.untilStart o.desc * 65536 - s.frac.toNat) * oneFrac ≤ u)
       else o.desc.sends && (s.opMayBegin o || decide (s.slotTime - s.intoSlot ≤ u)))

/-- Whether a transmission, a slot of the link controller or an operation with AT = 1 is under way or due to begin within 300 µs (10 R426). -/
def State.airSoon (s : State) : Bool := s.opSoon (300 * oneUs) || s.linkSoon

/-- A temperature in °C from its magnitude and whether it is below zero. -/
def celsius (degrees : Nat) (below : Bool) : Int := if below then -(degrees : Int) else degrees

/-- RADIO_CALIBRATE (10 R425, R426): the die temperature is measured; a calibration that is due runs, or is deferred. -/
def execRadioCalibrate (p : Fin 2) (degrees : Nat) (below : Bool) (s : State) : Res :=
  if s.on && s.lit .radio then
    let s1 : State := { s with radio := { s.radio with temp := celsius degrees below } }
    ok (if s1.calDue p then (if s1.airSoon then s1.calDeferred p else s1.calibrated p) else s1)
  else ok s

/-- The synthesiser of a path is to be calibrated before the next operation there (10 R449). -/
def State.relockPath (s : State) (p : Nat) : State :=
  { s with radio := { s.radio with relock := vset s.radio.relock (Fin.ofNat 2 p) true } }

/-- Whether the slot of the link controller that is open is on a path. -/
def State.slotOnPath (s : State) (p : Fin 2) : Bool :=
  match s.mesh.slot with
  | some y => Fin.ofNat 2 (entryBand y.entry) == p
  | none => false

/-! ### The sniffer -/

/-- Whether the sniffer is on (10 R423). -/
def State.sniffs (s : State) : Bool := s.on && s.pstate == 1 && s.flag F.PWR_CTL_SNIFF

/-- Whether the link controller keeps the radio lit: it runs, and is not ASLEEP (11 R463). -/
def State.meshLights (s : State) : Bool := s.flag F.MSH_CTL_RUN && s.fld F.MSH_HSTAT_STATE != 3

/-- Whether the radio works on something (02 R84; 11 R463). -/
def State.radioBusy (s : State) : Bool :=
  s.radio.op.isSome || s.mesh.slot.isSome || s.meshLights || s.onAir || s.radio.lead || s.flag F.RAD_STAT_SNIFFING

/-- SNIFF_LEAD (10 R424; 17 R674): 500 µs ahead of a window, which is at the seventeenth tick before it, XT32M starts and the radio
island is lit for it. -/
def execSniffLead (s : State) : Res :=
  if s.sniffs && !s.radio.lead && s.radio.sniffNext == s.now + 17 then
    let alone := s.radio.sniffLit || (s.island .radio).st == .dark
    let s1 := ({ s with radio := { s.radio with lead := true } }).wakeIsland .radio
    ok { s1 with radio := { s1.radio with sniffLit := alone } }
  else ok s

/-- SNIFF_WINDOW (10 R423, R424): a window opens at its scheduled tick on the sniff path; energy above −128 + LEVEL dBm keeps the sniffer
listening for up to 96 chip times at the lantern rate. -/
def execSniffWindow (levelDbm : Int) (s : State) : Res :=
  if s.sniffs && s.lit .radio && s.radio.lead && s.radio.sniffNext == s.now && !s.flag F.RAD_STAT_SNIFFING then
    let hit : Bool := decide (levelDbm > (s.fld F.RAD_SNIFF_LEVEL : Int) - 128)
    let p := s.fld F.RAD_SNIFF_BAND
    ok (({ s with radio := { s.radio with sniffNext := s.now + s.fld F.RAD_SNPER_TICKS, sniffPath := p, verify := hit,
                                          verifyTo := s.nowU + s.fld F.RAD_SNIFF_WIN * oneUs + chipTime 96 (s.lanternRate p) } }).setBit
      F.RAD_STAT_SNIFFING)
  else ok s

/-- The radio island is no longer needed for the sniffer: in Ember it goes dark (02 Table 2.1; log 112). -/
def State.sniffDark (s : State) : State :=
  if s.pstate == 1 && !s.radioBusy && (s.islandRings .radio).all (fun n => (s.ring n).untaken == 0 && (s.ring n).done.isEmpty) then
    s.beginQuiesce .radio true
  else s

/-- A scheduled tick that has passed without a window: the next stands one period later, and nothing is lit or runs for the one that passed. -/
def State.sniffTick (s : State) : State :=
  if s.sniffs && s.radio.sniffNext < s.now && !s.flag F.RAD_STAT_SNIFFING then
    let s1 : State := { s with radio := { s.radio with sniffNext := s.radio.sniffNext + s.fld F.RAD_SNPER_TICKS, lead := false } }
    s1.sniffDark.xt32mSettle
  else s

/-- SNIFF_WINDOW_END (10 R423): a verify that met no lantern counts in FALSE (log 30). -/
def execSniffWindowEnd (s : State) : Res :=
  if s.flag F.RAD_STAT_SNIFFING then
    let s1 := if s.radio.verify then s.satInc F.RAD_LSTAT_FALSE else s
    ok ((({ s1 with radio := { s1.radio with verify := false, lead := false } }).clrFld F.RAD_STAT_SNIFFING).sniffDark.xt32mSettle)
  else ok s

/-! ### The duty windows -/

/-- The link controller's transmissions still to come are charged to the windows as they now stand (10 R433, R434). -/
def State.recharge (s : State) (p : Nat) : State :=
  s.radio.air.foldl (fun acc x =>
    let y := if x.em.band = p ∧ s.nowU < x.start then { x with win := acc.dutyWin p (tickOf x.start) } else x
    let a := if x.em.band = p ∧ s.nowU < x.start then acc.dutyCharge p y.win x.us else acc
    { a with radio := { a.radio with air := a.radio.air ++ [y] } }) { s with radio := { s.radio with air := [] } }

/-- A write of RAD_P(p).DUTY starts a window (10 R433). -/
def State.dutyStart (s : State) (p : Fin 2) : State :=
  (({ s with radio := { s.radio with dutyAt := vset s.radio.dutyAt p s.now, dutyNext := vset s.radio.dutyNext p 0 } }).clrFld
    (F.RAD_P_DUSED_US p.val)).recharge p.val

/-- DUTY_WINDOW_START (10 R433, R434): the next window begins, and DUSED with it at what is charged to that one. -/
def execDutyWindowStart (p : Fin 2) (s : State) : Res :=
  if s.on && s.dutyAt p.val + s.dutyWindow p.val ≤ s.now then
    let r := s.radio
    ok (({ s with radio := { r with dutyAt := vset r.dutyAt p (s.dutyAt p.val + s.dutyWindow p.val), dutyNext := vset r.dutyNext p 0 } }).setFld
      (F.RAD_P_DUSED_US p.val) (vget r.dutyNext p))
  else ok s

/-- The committed carrier nearest to a sealed one (10 R447, Table 10.1); exactly between the two bands the spec names neither (log 3). -/
def freqClamp (p f : Nat) (tie : Bool) : Nat :=
  if p = 1 then clamp 2400000 2483500 f
  else if f ≤ 870000 then max 863000 f
  else if 902000 ≤ f then min 928000 f
  else if f = 886000 then (if tie then 902000 else 870000)
  else if f < 886000 then 870000 else 902000

/-- The RAD set committed (10 R447, Table 10.5). -/
def State.radCommit (s : State) : State :=
  let c := F.RAD_STAT_CLAMP
  let s1 := (s.commitAll .rad)
  let s2 := ([0, 1] : List Nat).foldl (fun acc p =>
    let tie : Bool := p == 0 && acc.fld (F.RAD_P_FREQ_KHZ p) == 886000
    let a1 := (if tie then acc.fresh else acc).clampFld (F.RAD_P_FREQ_KHZ p)
      (freqClamp p (acc.fld (F.RAD_P_FREQ_KHZ p)) (Config.bandTie acc.free)) c
    (((a1.clampRange (F.RAD_P_MOD_RATE p) 0 (rateTop p) c).clampRange (F.RAD_P_MOD_PWR p) 0 (if p = 0 then 80 else 68) c).clampRange
      (F.RAD_P_MOD_PRELEN p) 32 512 c).clampRange (F.RAD_P_RX_THRESH p) 0 64 c) s1
  ((((s2.clampRange F.RAD_LANT_RATE0 0 5 c).clampRange F.RAD_LANT_RATE1 0 3 c).clampRange F.RAD_LANT_LMATCH 0 32 c).clampRange
    F.RAD_SNIFF_WIN 50 4095 c).clampRange F.RAD_SNPER_TICKS 328 16777215 c

end Sys2Proof.Machine
end

