-- ==== Sys2Proof/Machine/Mesh.lean ====
section
/-! DEFINITION. The link controller (11): queues and forwarding credit, slots, drift and the LOST procedure, joining, the holiday; and the
recognition of a lantern (10 R422), which an alarm break concerns. -/

namespace Sys2Proof.Machine

/-- The mesh status codes (11 R498). -/
abbrev msNoAck : Nat := 0x20
abbrev msNoCred : Nat := 0x21
abbrev msNotSoft : Nat := 0x22
abbrev msNoNbr : Nat := 0x23
abbrev msNoFit : Nat := 0x24
abbrev msEvicted : Nat := 0x25
abbrev msStopped : Nat := 0x26
abbrev msHbad : Nat := 0x27
abbrev msInUse : Nat := 0x28

/-- The holiday states (11 Table 11.11). -/
abbrev hNone : Nat := 0
abbrev hProposed : Nat := 1
abbrev hCommitted : Nat := 2
abbrev hAsleep : Nat := 3
abbrev hBroken : Nat := 4
abbrev hCancelled : Nat := 5

/-- The states of an entry (11 Table 11.11). -/
abbrev nFree : Nat := 0
abbrev nUnsynced : Nat := 1
abbrev nSynced : Nat := 2
abbrev nLost : Nat := 3
abbrev nSearch : Nat := 4
abbrev nEvicting : Nat := 5

/-! ### Entries, notices, queues -/

/-- The state with an entry replaced. -/
def State.setNbr (s : State) (e : Nat) (x : Nbr) : State :=
  { s with mesh := { s.mesh with nbr := smSet (fun _ => Nbr.empty) s.mesh.nbr e x } }
/-- MSH_HSTAT.STATE. -/
def State.hst (s : State) : Nat := s.fld F.MSH_HSTAT_STATE

/-- The forwarding account of an entry (11 R470). -/
def fwd (e : Nat) : Nat := 0x80 + e

/-- A notice on CHAN 3 (11 Table 11.10); without a handed descriptor it is dropped and R276 applies. -/
def State.meshNotice (s : State) (code entry detail : Nat) : State :=
  s.inbound 5 3 (BitVec.ofNat 32 (code + entry * 0x100 + detail % 65536 * 0x10000))

/-- A notice about no entry (JOINED by a sender that is none, ALARMHEARD): the entry field is a free value (log 3). -/
def State.meshNoticeFree (s : State) (code detail : Nat) : State :=
  s.fresh.meshNotice code (Config.noticeEntry s.free).toNat detail

/-- Held WAKEREQs complete OK with a RESULT (11 Table 11.6). -/
def State.releaseHeld (s : State) (result : Nat) : State :=
  s.mesh.held.foldl (fun acc d => acc.finish d stOk (BitVec.ofNat 32 result)) { s with mesh := { s.mesh with held := [] } }

/-- A new holiday state with its notice (11 Table 11.10), which names the holiday's parent entry (18, Into the holiday; DEDUCED, log 145). -/
def State.setHst (s : State) (st : Nat) : State :=
  if s.hst = st then s else (s.setFld F.MSH_HSTAT_STATE st).meshNotice 5 (s.fld F.MSH_HSTAT_HPAR) st

/-- The holiday is over: state NONE, no coordinator, nothing to send for it. -/
def State.holidayClear (s : State) : State :=
  ({ s with mesh := { s.mesh with hveto := false, voteDone := false, flood := false } }.clrFld F.MSH_HSTAT_COORD).setHst hNone

/-- An HVETO is queued to HPAR, except at the coordinator (11 Table 11.6). -/
def State.queueVeto (s : State) : State :=
  if s.flag F.MSH_HSTAT_COORD then s else { s with mesh := { s.mesh with hveto := true } }

/-- The slot in progress does nothing more that counts, and what it sends ends with its ramp-down (10 R450; 11 R494). -/
def State.voidSlot (s : State) : State :=
  match s.mesh.slot with
  | none => s
  | some x => ({ s with mesh := { s.mesh with slot := some { x with void := true } } }).stopAir

/-- An alarm lantern is sent on LBAND at once where the duty budget allows it (11 R487, R436). A slot in progress gives way to it: what it sent
counts as unacknowledged (DEDUCED, log 113). -/
def State.startFlood (s : State) : State :=
  let e := s.lanternAir (s.fld F.MSH_CTL_LBAND) 0 (s.fld F.MSH_LANT_FLOOD) true
  if s.mayTransmit e s.nowU then
    let s1 := (s.voidSlot.pathReady (s.fld F.MSH_CTL_LBAND)).transmit e s.nowU
    { s1 with mesh := { s1.mesh with flood := true } }
  else s

/-- The holiday is broken (11 Table 11.6): held WAKEREQs complete with RESULT 4 on entry (log 31). -/
def State.breakHoliday (s : State) (flood : Bool) : State :=
  let s1 := (s.setHst hBroken).releaseHeld 4
  if flood then s1.startFlood else s1

/-- A holiday is cancelled by what a neighbour sends; held WAKEREQs complete with RESULT 3 (11 Table 11.6). -/
def State.cancelHoliday (s : State) : State := (s.setHst hCancelled).releaseHeld 3

/-- A WAKEREQ (11 Table 11.6, R488, R489). In BROKEN, which the table does not list, it completes with RESULT 4 (log 31). -/
def State.wakeReq (s : State) (d : Desc) (alarm : Bool) : State :=
  match s.hst with
  | 0 => s.finish d stOk 0
  | 5 => s.finish d stOk 1
  | 1 => ((s.setHst hCancelled).queueVeto).finish d stOk 1
  | 4 => s.finish d stOk 4
  | _ =>
    let s1 : State := { s with mesh := { s.mesh with held := s.mesh.held ++ [d] } }
    if alarm then s1.breakHoliday true else s1

/-- An HVETO heard from a neighbour (11 Table 11.6). -/
def State.hvetoHeard (s : State) : State :=
  if s.hst = hProposed ∨ s.hst = hCommitted then s.cancelHoliday.queueVeto else s

/-! ### Descriptors -/

/-- The fields of a SEND (11 Table 11.9). -/
def Desc.mType (d : Desc) : Nat := d.uparam % 16
def Desc.mBcast (d : Desc) : Bool := d.uparam.testBit 4
def Desc.mAckreq (d : Desc) : Bool := d.uparam.testBit 5
def Desc.mShared (d : Desc) : Bool := d.uparam.testBit 6
/-- A SEND toward one entry. -/
def Desc.unicast (d : Desc) : Bool := !d.mBcast && !d.mShared

/-- What R491 makes BADOP of on CHAN 0. -/
def Desc.sendBadOp (d : Desc) : Bool :=
  d.op != 1 || d.uparam / 128 != 0 || d.lenTop != 0 || d.opd 6 != 0 || d.opd 7 != 0 || (1 ≤ d.mType && d.mType ≤ 7) ||
    (d.mBcast && d.mShared) || d.opd 4 > 63 || d.opd 5 > 65535 || (!d.unicast && d.opd 4 != 0) || (!d.mShared && d.opd 5 != 0)

/-- The index of the pool buffer that begins at an address. -/
def State.bufIndex (s : State) (a : Nat) : Option Nat :=
  if s.bufAddr 0 ≤ a ∧ a < s.bufAddr 256 ∧ a % 256 = 0 then some ((a - s.bufAddr 0) / 256) else none

/-- Whether an address is that of a pool buffer in SOFT. -/
def State.softBuf (s : State) (a : Nat) : Bool :=
  match s.bufIndex a with
  | none => false
  | some i => s.bufSt i == .soft

/-- The checks of R491 for a SEND. -/
def State.sendCheck (s : State) (d : Desc) : Option Nat :=
  if d.sendBadOp then some stBadOp
  else if s.dtagBad d then some stDtag
  else if d.len < 11 || d.len > 252 then some stLen
  else if (s.engRead d.buf d.len).badStatus == some stAddrErr then some stAddrErr
  else if !s.softBuf d.buf then some msNotSoft
  else if d.unicast && s.nbrSt (d.opd 4) == nFree then some msNoNbr
  else if d.unicast && (s.acct (fwd (d.opd 4))).r == 0 then some msNoCred
  else none

/-- A SEND's work (11 R470, R491). -/
def State.sendRun (s : State) (d : Desc) : State :=
  match s.sendCheck d with
  | some st => s.refuse d st
  | none =>
    let i := (s.bufIndex d.buf).getD 0
    let f : MFrame := ⟨d, i, 0⟩
    let s1 := s.setBuf i .queue
    if d.mBcast then { s1 with mesh := { s1.mesh with bcast := s1.mesh.bcast ++ [f] } }
    else if d.mShared then { s1 with mesh := { s1.mesh with shared := s1.mesh.shared ++ [f] } }
    else
      let e := d.opd 4
      (s1.setNbr e { s1.nbr e with queue := (s1.nbr e).queue ++ [f] }).posted (fwd e) (Account.take 1)

/-- SEND_DESC (11 R470, R491). -/
def execSendDesc (s : State) : Res := ok (s.takeWith 5 0 (fun _ => true) State.sendRun)

/-- The fields that every CHAN 1 descriptor leaves zero, and an operation that is none (11 Table 11.9, R491). -/
def Desc.ctlBadOp (d : Desc) : Bool :=
  d.op == 0 || d.op > 4 || d.uflags != 0 || d.lenTop != 0 || d.buf != 0 || d.len != 0 || d.opd 7 != 0 ||
    (d.op == 3 && d.uparam / 2 != 0) || (d.op != 3 && d.uparam != 0) ||
    (match d.op with
     | 1 => d.opd 4 / 2 ^ 24 != 0 || (d.opd 4).testBit 22 || d.opd 5 / 2 ^ 24 == 0 || d.opd 6 != 0
     | 2 => d.opd 4 / 2 ^ 22 != 0 || d.opd 4 % 2 ^ 16 != 0 || d.opd 5 != 0 || d.opd 6 != 0
     | 3 => d.opd 4 != 0 || d.opd 5 != 0 || d.opd 6 != 0
     | _ => d.opd 6 > 65535)

/-- The entry that a control descriptor names. -/
def Desc.entry (d : Desc) : Nat := d.opd 4 / 2 ^ 16 % 64

/-- An ADMIT's work (11 R479, R491, Table 11.5). -/
def State.admitRun (s : State) (d : Desc) : State :=
  let e := d.entry
  let a := d.opd 4 % 2 ^ 16
  if s.nbrSt e != nFree || (List.range 64).any (fun j => s.nbrSt j != nFree && s.fld (F.NBR_ST_ADDR j) == a) then s.refuse d msInUse
  else
    let c := d.opd 5 / 2 ^ 24
    let s1 := (s.setReg (F.NBR_ST_ADDR e).addr (BitVec.ofNat 32 (a + 0x10000 + (d.opd 4 / 2 ^ 23 % 2) * 0x80000))).setReg
      (F.NBR_MID_MID e).addr (BitVec.ofNat 32 (d.opd 5))
    let s2 := ((s1.setReg (F.NBR_DRIFT_D e).addr 0).setReg (F.NBR_SYNC_TICK e).addr 0).setNbr e Nbr.empty
    (s2.posted (fwd e) (fun _ => some ⟨c, c, 0, 0⟩)).finish d stOk 0

/-- Whether the slot in progress holds a frame of entry `e`. -/
def State.slotOn (s : State) (e : Nat) : Bool :=
  match s.mesh.slot with
  | none => false
  | some x => (match x.frame with | none => false | some f => f.desc.unicast && f.desc.opd 4 == e)

/-- A queued frame leaves its queue without being sent: its buffer goes SOFT, its forwarding credit returns, its SEND completes;
CUTOFF gives the attempts so far (06 Table 6.4). -/
def State.dropFrame (s : State) (f : MFrame) (status : Nat) : State :=
  let s1 := s.setBuf f.buf .soft
  let s2 := if f.desc.unicast then s1.posted (fwd (f.desc.opd 4)) (Account.give 1) else s1
  if status = stCutoff then s2.finish f.desc status (BitVec.ofNat 32 (f.attempts % 16)) else s2.refuse f.desc status

/-- HOPS by the synced time sources (11 R474); 0 at a root, 15 with none (log 32). -/
def State.hopsNow (s : State) : Nat :=
  if s.flag F.MSH_CTL_ROOT then 0
  else
    (((List.range 64).filter (fun e => s.nbrSt e == nSynced && s.flag (F.NBR_ST_TSRC e))).map (fun e => (s.nbr e).hops + 1)).foldl min 15

/-- MSH_STAT.HOPS as the entries now give it; a controller that does not run keeps it (11 R474). -/
def State.hopsSet (s : State) : State :=
  if s.fld F.MSH_STAT_STATE = 2 then s.setFld F.MSH_STAT_HOPS s.hopsNow else s

/-- An EVICT completes: the frames that are still queued go, the account is withdrawn, the entry is FREE (11 R479, Table 11.5). -/
def State.evictDone (s : State) (e : Nat) : State :=
  let x := s.nbr e
  let s1 := x.queue.foldl (fun acc f => acc.dropFrame f msEvicted) (s.setNbr e Nbr.empty)
  let s2 := s1.posted (fwd e) Account.withdraw
  let s3 := ((((s2.setReg (F.NBR_ST_ADDR e).addr 0).setReg (F.NBR_MID_MID e).addr 0).setReg (F.NBR_DRIFT_D e).addr 0).setReg
    (F.NBR_SYNC_TICK e).addr 0).hopsSet
  match x.evict with
  | none => s3
  | some d => s3.finish d stOk (BitVec.ofNat 32 x.queue.length)

/-- An EVICT's work (11 R479, Table 11.8): behind an open slot of the entry it waits for the slot's outcome. -/
def State.evictRun (s : State) (d : Desc) : State :=
  let e := d.entry
  if s.nbrSt e = nFree ∨ (s.nbr e).evict.isSome then s.refuse d msNoNbr
  else
    let s1 := s.setNbr e { s.nbr e with evict := some d }
    if s.slotOn e then (s1.setFld (F.NBR_ST_STATE e) nEvicting).hopsSet else s1.evictDone e

/-- Whether a PROPOSE lies within Table 11.7's limits, and no holiday is on (11 R490). -/
def State.proposeOk (s : State) (d : Desc) : Bool :=
  let ahead (a b : Nat) : Nat := (a + 2 ^ 32 - b) % 2 ^ 32
  let n := d.opd 6
  s.hst == hNone && 2 ≤ ahead (d.opd 4) s.cycleNow && ahead (d.opd 4) s.cycleNow < 2 ^ 31 && 0 < ahead (d.opd 5) (d.opd 4) &&
    ahead (d.opd 5) (d.opd 4) < 2 ^ 31 && 1 ≤ n && n * s.cycLen * s.slotLen < 2 ^ 31 - 256

/-- The state with a holiday's registers set. -/
def State.setHoliday (s : State) (hid par : Nat) (coord : Bool) (cc cs n : Nat) : State :=
  let s1 := ((s.setFld F.MSH_HSTAT_HID hid).setFld F.MSH_HSTAT_HPAR par).setFld F.MSH_HSTAT_COORD (if coord then 1 else 0)
  let s2 := ((s1.setFld F.MSH_HCOMMIT_CYCLE cc).setFld F.MSH_HSTART_CYCLE cs).setFld F.MSH_HLEN_N n
  { s2 with mesh := { s2.mesh with hveto := false, voteDone := false, flood := false, hadHol := true } }

/-- A PROPOSE's work (11 R490, Table 11.6); the link controller chooses HID, which no rule says (log 3). -/
def State.proposeRun (s : State) (d : Desc) : State :=
  if s.proposeOk d then
    let hid := (Config.holidayId s.free).toNat
    ((s.fresh.setHoliday hid 0 true (d.opd 4) (d.opd 5) (d.opd 6)).setHst hProposed).finish d stOk (BitVec.ofNat 32 hid)
  else s.refuse d msHbad

/-- The link controller takes a CHAN 1 descriptor of one operation code, or of a code that is none. -/
def State.ctlTake (s : State) (op : Nat) (run : State → Desc → State) : State :=
  s.takeWith 5 1 (fun d => d.op == op || d.op == 0 || d.op > 4) (fun t d => if d.ctlBadOp then t.refuse d stBadOp else run t d)

/-- ADMIT (11 R479). -/
def execAdmit (s : State) : Res := ok (s.ctlTake 1 State.admitRun)
/-- EVICT (11 R479). -/
def execEvict (s : State) : Res := ok (s.ctlTake 2 State.evictRun)
/-- WAKEREQ (11 R483). -/
def execWakereq (s : State) : Res := ok (s.ctlTake 3 (fun t d => t.wakeReq d (d.uparam % 2 == 1)))
/-- PROPOSE (11 R490). -/
def execPropose (s : State) : Res := ok (s.ctlTake 4 State.proposeRun)

/-- MESH_RECV (11 R471). -/
def execMeshRecv (s : State) : Res := ok (s.slotTake 5 2)
/-- MESH_NOTE (11 R498). -/
def execMeshNote (s : State) : Res := ok (s.slotTake 5 3)

/-! ### Start and stop -/

/-- The state with HOPS, SLOT, CYCNO as they now are. -/
def State.meshPlace (s : State) : State :=
  let s1 := ((s.setFld F.MSH_STAT_HOPS s.hopsNow).setFld F.MSH_STAT_SLOT (s.slotAbs % s.cycLen)).setFld F.MSH_CYCNO_CYCLE s.cycleNow
  { s1 with mesh := { s1.mesh with slotNo := some s1.slotAbs } }

/-- RUN from 0 to 1 (11 R478): a root runs, another node joins; the radio island is lit. -/
def State.meshStart (s : State) : State :=
  if s.flag F.MSH_CTL_RUN || s.mesh.stopping then s.setBit F.MSH_CTL_RUN
  else
    let s1 := (((s.setBit F.MSH_CTL_RUN).chanArms s 5 2).chanArms s 5 3).wakeIsland .radio
    if s.flag F.MSH_CTL_ROOT then (s1.setFld F.MSH_STAT_STATE 2).meshPlace
    else (s1.setFld F.MSH_STAT_STATE 1).setFld F.MSH_CYCNO_CYCLE s.cycleNow

/-- MESH_RUN_START (11 R478). -/
def execMeshRunStart (s : State) : Res := ok (if s.steadyRuns then s.meshStart else s)

/-- A write of 0 to RUN (11 R495). -/
def State.meshHalt (s : State) : State :=
  if s.flag F.MSH_CTL_RUN then ({ s.clrFld F.MSH_CTL_RUN with mesh := { s.mesh with stopping := true } }).touch .radio else s

/-- Every queued frame leaves its queue with a status. -/
def State.dropQueues (s : State) (status : Nat) : State :=
  let all := (List.range 64).flatMap (fun e => (s.nbr e).queue) ++ s.mesh.bcast ++ s.mesh.shared
  let s1 := (List.range 64).foldl (fun acc e => acc.setNbr e { acc.nbr e with queue := [] }) s
  all.foldl (fun acc f => acc.dropFrame f status) { s1 with mesh := { s1.mesh with bcast := [], shared := [] } }

/-! ### Drift and guards -/

/-- D_m of R475 in 1/64 ppm. -/
def State.driftMag (s : State) (e : Nat) : Nat :=
  let m := max (s.drift e).natAbs (s.fld F.MSH_LOST_DMIN)
  if s.flag F.CLK_STAT_VSRC then m else max m 4096

/-- The guard of an entry in µs (11 R475): 2 × D_m × Δt + 30, rounded up. -/
def State.guard (s : State) (e : Nat) : Nat := (s.driftMag e * s.sinceSync e + 1048575) / 1048576 + 30

/-- NBR_DRIFT.GUARD as it now is, saturating (11 R490). -/
def State.setGuard (s : State) (e : Nat) : State := s.setFld (F.NBR_DRIFT_GUARD e) (min 65535 (s.guard e))

/-- A quotient to a whole number, rounded as no rule says (log 3). -/
def quot (n d : Int) (up : Bool) : Int := n / d + (if n % d ≠ 0 ∧ up then 1 else 0)

/-- D_j × Δt in fraction units of a tick, D in 1/64 ppm, at a sync `dt` ticks after the last one (11 R472). -/
def State.driftMove (s : State) (e dt : Nat) : Int := quot (s.drift e * dt * 1024) 1000000 (Config.roundUp s.free)

/-- Fraction units as whole µs. -/
def fracUs (x : Int) (up : Bool) : Int := quot (x * 1000000) (2 ^ 31) up

/-- A value moved to the nearest end of the 16-bit signed range. -/
def sat16 (x : Int) : Int := max (-32768) (min 32767 x)

/-- The entry's D_j after a sync error, filtered and saturated, at a sync `dt` ticks after the last one (11 R473). -/
def State.driftNext (s : State) (e dt : Nat) (err : Int) : Int :=
  if dt = 0 then s.drift e
  else sat16 (s.drift e + quot (err * 15625) ((dt : Int) * 16 * 2 ^ s.fld F.MSH_LOST_FILT) (Config.roundUp (s.free + 1)))

/-- A sync from an entry at a moment of the time base in 2^-31 µs (11 R473, R474, R477 step 3): `obs` is the observed sync-word end minus the
nominal one. Of a time source that is not the root's, the offset becomes a step of MSH_OFF at the next slot boundary. -/
def State.nbrSync (s : State) (e : Nat) (obs : Int) (at' : Nat) : State :=
  let x := s.nbr e
  let st := s.nbrSt e
  let tick := tickOf at' % 2 ^ 32
  let dt := (tick + 2 ^ 32 - s.fld (F.NBR_SYNC_TICK e)) % 2 ^ 32
  let err := if x.everSync then obs - (x.off + s.driftMove e dt) else obs
  let off := if x.everSync then x.off + s.driftMove e dt + err else err
  let d := if !x.everSync then 0 else if st = nSynced ∨ st = nUnsynced then s.driftNext e dt err else s.drift e
  let s1 := { s with free := s.free + 3 }.setNbr e { x with off := off, everSync := true, tries := 0 }
  let s2 := ((((s1.setFld (F.NBR_DRIFT_D e) (BitVec.ofInt 16 d).toNat).setFld (F.NBR_SYNC_TICK e) tick).setFld
    (F.NBR_ST_MISSN e) 0).setFld (F.NBR_ST_STEP e) 0).setGuard e
  let s3 := if s2.flag (F.NBR_ST_TSRC e) && !s2.flag F.MSH_CTL_ROOT then { s2 with mesh := { s2.mesh with step := some e } } else s2
  if st = nLost ∨ st = nSearch then
    (s3.setFld (F.NBR_ST_STATE e) nSynced).hopsSet.meshNotice 2 e (BitVec.ofInt 16 (fracUs err (Config.roundUp (s.free + 2)))).toNat
  else if st = nUnsynced then (s3.setFld (F.NBR_ST_STATE e) nSynced).hopsSet
  else s3

/-- The step of MSH_OFF that a time source has made due (11 R474): mesh time goes back by that entry's O_j, which is how much later than its
nominal time the entry is heard, so that O_j becomes 0; every other entry's offset changes by as much in the opposite direction (log 33). -/
def State.takeStep (s : State) : State :=
  match s.mesh.step with
  | none => s
  | some e =>
    let x := (s.nbr e).off
    let s1 : State := if x = 0 then s else s.setMshOff (s.mshOff - x)
    { s1 with mesh := { s1.mesh with
        step := none, nbr := s1.mesh.nbr.map (fun p => (p.1, { p.2 with off := if p.1 = e then 0 else p.2.off + x })) } }

/-- Whether an entry is beyond its guard (11 R476): a synced one by its guard, one not yet synced by its misses alone. -/
def State.beyondGuard (s : State) (e : Nat) : Bool :=
  (s.nbrSt e == nSynced && s.fld F.MSH_TIM_TXOFF < s.guard e) ||
    ((s.nbrSt e == nSynced || s.nbrSt e == nUnsynced) && s.fld F.MSH_LOST_MISS ≤ s.fld (F.NBR_ST_MISSN e))

/-- An entry beyond its guard is LOST (11 R477 step 1); its first listening step is ±1 ms. -/
def State.checkGuard (s : State) (e : Nat) : State :=
  let s1 := if s.nbrSt e = nSynced then s.setGuard e else s
  if s1.beyondGuard e then
    ((((s1.setFld (F.NBR_ST_STATE e) nLost).setFld (F.NBR_ST_STEP e) 1).setNbr e { s1.nbr e with tries := 0 }).hopsSet).meshNotice 1 e
      (min 65535 (s1.guard e))
  else s1

/-- A listening slot of a LOST entry that ended without sync (11 R477 steps 2 and 4). -/
def State.lostMiss (s : State) (e : Nat) : State :=
  let x := s.nbr e
  let step := s.fld (F.NBR_ST_STEP e)
  if x.tries + 1 < s.fld F.MSH_LOST_STEPN then s.setNbr e { x with tries := x.tries + 1 }
  else if step < 4 then (s.setNbr e { x with tries := 0 }).setFld (F.NBR_ST_STEP e) (step + 1)
  else
    (((s.setNbr e { x with tries := 0, lastLantern := s.cycleNow }).setFld (F.NBR_ST_STEP e) 0).setFld (F.NBR_ST_STATE e) nSearch).meshNotice
      3 e 0

/-! ### Frames -/

/-- The little-endian bytes of a number. -/
def leBytes (n k : Nat) : List Byte := (List.range k).map (fun i => BitVec.ofNat 8 (n / 256 ^ i))

/-- The link header (11 Table 11.1). -/
def linkHeader (type : Nat) (bcast ackreq : Bool) (mid src dst : Nat) (lseq info : Byte) : List Byte :=
  BitVec.ofNat 8 (type + (if bcast then 0x10 else 0) + (if ackreq then 0x20 else 0)) ::
    leBytes mid 3 ++ leBytes src 2 ++ leBytes dst 2 ++ [lseq, info]

/-- The number of bytes `i` to `i + k - 1` of a frame, least significant first. -/
def leNum (l : List Byte) (i k : Nat) : Nat := ((l.drop i).take k).foldr (fun b acc => acc * 256 + b.toNat) 0

/-- The mesh identifier that frames exchanged with an entry carry (11 R455). -/
def State.midOf (s : State) (e : Nat) : Nat :=
  let m := s.fld (F.NBR_MID_MID e)
  if m = 0 then s.fld F.MSH_ID_MESHID else m

/-- The link header of a queued frame (11 R456); toward no single entry the LSEQ is a free value (log 3). -/
def State.frameHeader (s : State) (f : MFrame) : List Byte :=
  let d := f.desc
  let src := s.fld F.MSH_ADDR_ADDR
  if d.mBcast then linkHeader d.mType true d.mAckreq (s.fld F.MSH_ID_MESHID) src 0 (Config.lseq s.free) 0
  else if d.mShared then linkHeader d.mType false d.mAckreq (s.fld F.MSH_ID_MESHID) src (d.opd 5) (Config.lseq s.free) 0
  else
    let e := d.opd 4
    linkHeader d.mType false d.mAckreq (s.midOf e) src (s.fld (F.NBR_ST_ADDR e)) (s.nbr e).txLseq 0

/-- Whether a frame fits its slot, its ACK included where it asks for one (11 R465). -/
def State.fitsTimes (s : State) (p q len : Nat) (crc code ilv acked : Bool) : Bool :=
  let af := s.frameTime p q len crc code ilv
  let ack := if acked then s.fld F.MSH_TIM_ACKGAP * oneUs + s.frameTime p 0 10 crc code ilv else 0
  2 * s.fld F.MSH_TIM_TXOFF * oneUs + af + ack ≤ s.slotTime

/-- Whether a queued frame fits its slot. -/
def State.fitsSlot (s : State) (p : Nat) (d : Desc) : Bool :=
  s.fitsTimes p (d.uflags / 16) d.len d.fCrc d.fCode d.fIlv (d.mAckreq && !d.mBcast)

/-- A control frame on the air: CRC, WHITE and CODE (11 worked case "requests around the commit slot"; log 34). -/
def State.ctrlAir (s : State) (p : Nat) (l : List Byte) : Emission := s.frameAir p 0 l true true true false

/-- The sync-word end of a frame of the link controller's own, after the beginning of its ramp-up. -/
def State.syncAfter (s : State) (p : Nat) : Nat := s.rampTime 0 + chipTime (s.fld (F.RAD_P_MOD_PRELEN p) + 64) (s.rate p)

/-- Mesh time at a moment of the time base in 2^-31 µs; a part of a fraction unit is rounded as no rule says (11 R458; log 3). -/
def State.meshAt (s : State) (u : Nat) : Nat :=
  (u / oneFrac + (if u % oneFrac ≠ 0 ∧ Config.roundUp s.free then 1 else 0) + s.mshOff) % 2 ^ 64

/-- The bytes of the node's own beacon, whose sync word ends at a moment of the time base (11 R457, R459, Tables 11.1, 11.2). -/
def State.beaconBytes (s : State) (sync : Nat) : List Byte :=
  linkHeader 2 true false (s.fld F.MSH_ID_MESHID) (s.fld F.MSH_ADDR_ADDR) 0 (Config.lseq s.free) 0 ++
    leBytes (s.meshAt sync % 2 ^ 48) 6 ++ leBytes (s.meshAt sync / 65536 / (s.slotLen * s.cycLen)) 4 ++
    leBytes (s.hopsNow + 16 * s.fld F.MSH_CTL_HOLD) 1 ++ leBytes s.hst 1 ++ leBytes (s.fld F.MSH_HSTAT_HID) 1 ++
    leBytes (s.fld F.MSH_HCOMMIT_CYCLE) 4 ++ leBytes (s.fld F.MSH_HSTART_CYCLE) 4 ++ leBytes (s.fld F.MSH_HLEN_N) 2

/-- The node's own beacon on the air from a moment on (11 R457). -/
def State.beaconAir (s : State) (p start : Nat) : Emission := s.ctrlAir p (s.beaconBytes (start + s.syncAfter p))

/-- The boundary of the present slot by the time base (11 R458). -/
def State.slotT0 (s : State) : Nat := s.nowU - s.intoSlot

/-- When a frame in the present slot begins its ramp-up (11 Table 11.4). -/
def State.slotUp (s : State) : Nat := s.slotT0 + s.fld F.MSH_TIM_TXOFF * oneUs

/-- A slot with nothing in it yet. -/
def Slot.begin (t0 : Nat) (entry : Word) : Slot := ⟨t0, entry, none, none, none, false, false, false, false, false, none⟩

/-- The state with the slot in progress replaced. -/
def State.setSlot (s : State) (x : Option Slot) : State := { s with mesh := { s.mesh with slot := x } }

/-- A transmission that the duty budget refuses (11 Table 11.8, R436). -/
def State.dutySkip (s : State) : State := s.satInc F.MSH_CNT_DUTYSK

/-- A queued frame of which a word fails its parity check is not sent: its SEND completes MEMPAR, with its forwarding credit back, and its
buffer keeps its state (10 R451; 11 R470; log 114). -/
def State.frameBad (s : State) (f : MFrame) (status : Nat) : State :=
  (if f.desc.unicast then s.posted (fwd (f.desc.opd 4)) (Account.give 1) else s).refuse f.desc status

/-- The head frame goes into the slot and on the air `delay` after TXOFF: buffer and forwarding credit into flight, header written, duty
charged (11 Tables 11.4, 11.5, R456, R465, R479). `s` is the state without it in its queue, `back` the one with it. -/
def State.sendFrame (back s : State) (w : Word) (f : MFrame) (delay : Nat) : State :=
  let p := entryBand w
  let d := f.desc
  if !back.fitsSlot p d then s.dropFrame f msNoFit
  else
    match s.engRead (d.buf + 8) (d.len - 8) with
    | .bad e => s.frameBad f e
    | _ =>
      let em := back.frameAir p (d.uflags / 16) (back.frameHeader f ++ back.engBytes (d.buf + 10) (d.len - 10)) d.fCrc d.fWhite d.fCode d.fIlv
      let up := back.slotUp + delay
      if !back.mayTransmit em up then back.dutySkip
      else
        let s1 := ((s.setBuf f.buf .slot).openSlot 0x50).posted 0x50 (Account.lift 1)
        let s2 := if d.unicast then (s1.openSlot (fwd (d.opd 4))).posted (fwd (d.opd 4)) (Account.lift 1) else s1
        let s3 := (s2.storeBytes .raw d.buf (s.frameHeader f)).fresh
        (s3.transmit em up).setSlot (some { Slot.begin s.slotT0 w with
          buf := some f.buf, frame := some { f with attempts := f.attempts + 1 }, sent := true })

/-- A frame of the link controller's own goes on the air in the slot, where it fits it with the ACK that it asks for (11 R465). -/
def State.sendOwn (s : State) (w : Word) (l : List Byte) : State :=
  let em := s.ctrlAir (entryBand w) l
  if !s.fitsTimes (entryBand w) 0 l.length true true false ((l.getD 0 0).getLsbD 5) then s
  else if s.mayTransmit em s.slotUp then
    (s.fresh.transmit em s.slotUp).setSlot (some { Slot.begin s.slotT0 w with ctrl := some l, sent := true })
  else s.dutySkip

/-- A control frame toward an entry goes on the air. -/
def State.sendCtrl (s : State) (w : Word) (type : Nat) (info : Byte) : State :=
  let e := entryNbr w
  s.sendOwn w (linkHeader type false true (s.midOf e) (s.fld F.MSH_ADDR_ADDR) (s.fld (F.NBR_ST_ADDR e)) (s.nbr e).txLseq info)

/-- Whether a vote is due toward an entry (11 R480). -/
def State.voteDue (s : State) (e : Nat) : Bool :=
  (s.hst == hProposed || s.hst == hCancelled) && !s.flag F.MSH_HSTAT_COORD && !s.mesh.voteDone &&
    s.fld F.MSH_HSTAT_HPAR == e && s.cycleReached (s.fld F.MSH_HCOMMIT_CYCLE)

/-- A TX slot (11 R469, R477 step 1, R480, R488): a queued HVETO, the vote, then the head data frame. -/
def State.txSlot (s : State) (w : Word) : State :=
  let e := entryNbr w
  if !(s.nbrSt e == nSynced || s.nbrSt e == nUnsynced) then s
  else if s.mesh.hveto && s.fld F.MSH_HSTAT_HPAR == e then s.sendCtrl w 4 0
  else if s.voteDue e then s.sendCtrl w 3 (if s.hst = hCancelled then 1 else 0)
  else
    match (s.nbr e).queue with
    | [] => s
    | f :: r => s.sendFrame (s.setNbr e { s.nbr e with queue := r }) w f 0

/-- A receiving slot takes the lowest FREE buffer, or is skipped (11 Tables 11.4, 11.5, 11.8). -/
def State.rxSlot (s : State) (w : Word) : State :=
  match s.lowestFree with
  | none => s.satInc F.MSH_CNT_RXSKIP
  | some i => (((s.setBuf i .slot).openSlot 0x50).posted 0x50 (Account.fly 1)).setSlot
    (some { Slot.begin s.slotT0 w with buf := some i, void := s.mesh.deaf.contains s.slotAbs })

/-- Whether a receiving slot is yielded to a calibration: the next one with a SYNCED entry that begins at least 300 µs after CALDEF reached 16
(11 Table 11.8). -/
def State.yields (s : State) (w : Word) : Bool :=
  16 ≤ s.fld F.RAD_STAT_CALDEF && s.nbrSt (entryNbr w) == nSynced &&
    (match s.radio.calFull with | none => true | some u => u * oneFrac + 300 * oneUs ≤ s.slotT0)

/-- A receiving slot: yielded to the calibrations that wait, or opened (10 R427; 11 Table 11.8). -/
def State.rxOrYield (s : State) (w : Word) : State := if s.yields w then s.calWaiting.satInc F.MSH_CNT_YIELD else s.rxSlot w

/-- The delay of a frame in a SHARED slot (11 R479). -/
def State.sharedDelay (s : State) : Nat :=
  (Config.sharedDelay (s.fld F.IDN_UID_LO_UID + s.fld F.IDN_UID_HI_UID * 2 ^ 32) s.free).val * 500 * oneUs

/-- A slot begins by its TYPE (11 Table 11.3). -/
def State.slotStart (s : State) (w : Word) : State :=
  match entryType w with
  | 1 => s.txSlot w
  | 2 | 4 => s.rxOrYield w
  | 3 => s.sendOwn w (s.beaconBytes (s.slotUp + s.syncAfter (entryBand w)))
  | 5 =>
    match s.mesh.shared with
    | f :: r => s.sendFrame { s with mesh := { s.mesh with shared := r } } w f s.sharedDelay
    | [] => s.rxOrYield w
  | 7 =>
    match s.mesh.bcast with
    | f :: r => s.sendFrame { s with mesh := { s.mesh with bcast := r } } w f 0
    | [] => s
  | _ => s

/-- The path of a slot is readied: a synthesiser that lost lock is calibrated first (10 R449). -/
def State.slotReady (s : State) (w : Word) : State := if ownsSlot (entryType w) then s.pathReady (entryBand w) else s

/-! ### The end of a slot -/

/-- The LSEQ toward an entry moves on. -/
def State.nextLseq (s : State) (d : Desc) : State :=
  if d.unicast then s.setNbr (d.opd 4) { s.nbr (d.opd 4) with txLseq := (s.nbr (d.opd 4)).txLseq + 1 } else s

/-- A frame is done with: buffer FREE, both credits back, its SEND complete (11 Table 11.5, R470). -/
def State.frameDone (s : State) (f : MFrame) : State :=
  let s1 := (s.setBuf f.buf .free).posted 0x50 (Account.land 1)
  let s2 := if f.desc.unicast then s1.posted (fwd (f.desc.opd 4)) (Account.land 1) else s1
  (s2.nextLseq f.desc).finish f.desc stOk (BitVec.ofNat 32 (f.attempts % 16))

/-- No valid ACK: queued again at the head, or after RETRY + 1 attempts given back with NOACK (11 Table 11.5). -/
def State.frameUnacked (s : State) (f : MFrame) : State :=
  let e := f.desc.opd 4
  let s1 := s.posted 0x50 (Account.settle 1)
  if f.attempts ≤ s.fld F.MSH_TIM_RETRY then
    let s2 := s1.setBuf f.buf .queue
    if f.desc.unicast then (s2.setNbr e { s2.nbr e with queue := f :: (s2.nbr e).queue }).posted (fwd e) (Account.settle 1)
    else if f.desc.mBcast then { s2 with mesh := { s2.mesh with bcast := f :: s2.mesh.bcast } }
    else { s2 with mesh := { s2.mesh with shared := f :: s2.mesh.shared } }
  else
    let s2 := s1.setBuf f.buf .soft
    let s3 := if f.desc.unicast then s2.posted (fwd e) (Account.land 1) else s2
    (s3.nextLseq f.desc).refuse f.desc msNoAck

/-- Whether a frame on the air waits for an ACK. -/
def Desc.wantsAck (d : Desc) : Bool := d.mAckreq && !d.mBcast

/-- The frame of an ending slot has its outcome, if it had none before. -/
def State.slotFrame (s : State) (x : Slot) : State :=
  match x.frame with
  | none => s
  | some f => if x.judged then s else if f.desc.wantsAck || x.void then s.frameUnacked f else s.frameDone f

/-- The buffer of an ending receiving slot returns where nothing was delivered (11 Table 11.5). -/
def State.slotBuffer (s : State) (x : Slot) : State :=
  match x.frame, x.buf with
  | none, some i => if s.bufSt i = .slot then (s.setBuf i .free).posted 0x50 (Account.land 1) else s
  | _, _ => s

/-- A receiving slot that ended without sync from its entry counts against it (11 R476, R477, R494). That of a LOST entry counts once its widened
window is over, which may reach out of the slot, and at once where the slot heard nothing for want of lock. -/
def State.slotMiss (s : State) (x : Slot) : State :=
  let e := entryNbr x.entry
  let k := s.mesh.slotNo.getD s.slotAbs
  if x.sent || x.synced || x.buf.isNone then s
  else if s.nbrSt e = nLost ∧ (entryType x.entry = 2 ∨ entryType x.entry = 4) then
    (if x.void || (s.widened k).2 == 0 then s.lostMiss e else { s with mesh := { s.mesh with wide := s.mesh.wide ++ [k] } })
  else if x.void then s
  else if entryType x.entry = 4 ∧ (s.nbrSt e = nSynced ∨ s.nbrSt e = nUnsynced) then (s.satInc (F.NBR_ST_MISSN e)).checkGuard e
  else s

/-- The windows of an ending slot close. -/
def State.slotClose (s : State) (x : Slot) : State :=
  let s1 := if x.buf.isSome then s.closeSlot 0x50 else s
  match x.frame with
  | none => s1
  | some f => if f.desc.unicast then s1.closeSlot (fwd (f.desc.opd 4)) else s1

/-- The slot in progress ends (11 R470, Table 11.5); an EVICT that waited for it proceeds (Table 11.8). -/
def State.slotEnd (s : State) : State :=
  match s.mesh.slot with
  | none => s
  | some x =>
    let s1 := (((s.slotFrame x).slotBuffer x).slotClose x).setSlot none
    let s2 := s1.slotMiss x
    match x.frame with
    | none => s2
    | some f => if f.desc.unicast && (s2.nbr (f.desc.opd 4)).evict.isSome then s2.evictDone (f.desc.opd 4) else s2

/-- Whether mesh time has left the slot last begun (11 R458); a step back by less than a slot does not begin one again. -/
def State.boundaryDue (s : State) : Bool :=
  match s.mesh.slotNo with
  | none => true
  | some k => s.slotAbs != k && s.slotAbs + 1 != k

/-- SLOT_END (11 R470). -/
def execSlotEnd (s : State) : Res := ok (if s.on && s.boundaryDue then s.slotEnd else s)

/-- Whether a CHAN 0 operation is in progress (10 R445, R446). -/
def State.opOnAir (s : State) : Bool :=
  match s.radio.op with
  | none => false
  | some o => o.active

/-- The widened windows of slots that have ended, at the boundary of slot `k`: one that reaches no further, or that an owned slot cuts, is over, and
its attempt counts where its entry is still LOST (11 R477 step 2; log 144). -/
def State.wideOver (s : State) (k : Nat) : State :=
  s.mesh.wide.foldl (fun acc w =>
    let e := entryNbr (acc.schedWord w)
    if acc.nbrSt e != nLost then acc
    else if ownsSlot (entryType (acc.schedWord k)) || (acc.widened w).2 ≤ (k - w - 1) * acc.slotTime then acc.lostMiss e
    else { acc with mesh := { acc.mesh with wide := acc.mesh.wide ++ [w] } })
    { s with mesh := { s.mesh with wide := [], deaf := s.mesh.deaf.filter (fun w => k ≤ w) } }

/-- Step and place at a slot boundary: the open slot ends, widened windows close, a pending RAD set commits (10 R445), MSH_OFF steps (11 R474),
SLOT moves on. -/
def State.enterSlot (s : State) : State :=
  let s1 := s.slotEnd.wideOver s.slotAbs
  let k := s1.slotAbs
  let s2 := if s1.sealPend .rad && !s1.opOnAir then s1.radCommit else s1
  let s3 := (s2.setFld F.MSH_STAT_SLOT (k % s2.cycLen)).takeStep
  { s3 with mesh := { s3.mesh with slotNo := some k } }

/-- SLOT_BOUNDARY (11 R458, R459, R461, R464, R469, R476, R487; 02 Table 2.1): the slot that mesh time has reached begins, unless a flood or
another transmission of the link controller covers it (log 113) or the radio island, which it lights, is still dark. -/
def execSlotBoundary (s : State) : Res :=
  if !s.on || !s.meshRuns || s.mesh.stopping || !s.boundaryDue then ok s
  else
    let k := s.slotAbs
    let s1 := s.enterSlot.wakeIsland .radio
    let s2 := if s1.badSlot k then s1.setBit F.MSH_STAT_BADSLOT else s1
    let w := s2.schedWord k
    let named := entryType w == 1 || entryType w == 2 || entryType w == 4
    let s3 := if named then s2.checkGuard (entryNbr w) else s2
    if s3.mesh.flood || s3.linkSends || !s3.lit .radio then ok s3 else ok ((s3.slotReady w).slotStart w)

/-- The MSH set committed (11 R490, R493, Table 11.7). -/
def State.mshCommit (s : State) : State :=
  let c := F.MSH_STAT_CLAMP
  let s1 := s.commitAll .msh
  let s2 := (((((s1.clampRange F.MSH_CYC_SLOTLEN 82 1310 c).clampRange F.MSH_CYC_CYCLEN 1 1024 c).clampRange F.MSH_TIM_TXOFF 200 4000
    c).clampRange F.MSH_TIM_ACKGAP 150 1000 c).clampRange F.MSH_LOST_MISS 1 15 c).clampRange F.MSH_LOST_STEPN 1 15 c
  let s3 := s2.clampRange F.MSH_LOST_SPER 1 255 c
  let adj := (BitVec.ofNat 32 (s3.fld F.MSH_ADJ_ADJ)).toInt
  ((s3.setMshOff (s3.mshOff + adj)).setReg F.MSH_ADJ_ADJ.addr 0).setStg F.MSH_ADJ_ADJ.addr 0

/-- CYCLE_BOUNDARY (11 R458, R483, R493): the cycle number moves on; a set waiting commits unless the node is ASLEEP; a broken holiday
without a flood, and a cancelled one at C_s, end. -/
def execCycleBoundary (s : State) : Res :=
  if !s.on || !s.flag F.MSH_CTL_RUN || s.fld F.MSH_CYCNO_CYCLE == s.cycleNow then ok s
  else
    let s1 := s.setFld F.MSH_CYCNO_CYCLE s.cycleNow
    let s2 := if s1.sealPend .msh && s1.hst != hAsleep then s1.mshCommit else s1
    if (s2.hst = hBroken ∧ s2.mesh.flood = false) ∨ (s2.hst = hCancelled ∧ s2.cycleReached (s2.fld F.MSH_HSTART_CYCLE)) then
      ok s2.holidayClear
    else ok s2

/-- The link controller stops (11 R495). -/
def State.meshStopNow (s : State) : State :=
  let s1 := ((s.slotEnd.stopAir.dropQueues msStopped).releaseHeld 3).holidayClear
  let s2 : State := { s1.setFld F.MSH_STAT_STATE 0 with mesh := { s1.mesh with stopping := false, slotNo := none, wide := [], deaf := [], step := none } }
  if s2.flag F.MSH_CTL_RUN then (s2.clrFld F.MSH_CTL_RUN).meshStart else s2

/-- MESH_RUN_STOP (11 R495): at the slot boundary after RUN was written 0; a joining node has no slots to wait for. -/
def execMeshRunStop (s : State) : Res :=
  if s.on && s.mesh.stopping && (s.fld F.MSH_STAT_STATE != 2 || s.hst == hAsleep || s.boundaryDue) then ok s.meshStopNow else ok s

/-! ### Reception -/

/-- The entry whose neighbour sends from an address under a mesh identifier that R466 accepts. -/
def State.senderEntry (s : State) (src mid : Nat) : Option Nat :=
  (List.range 64).find? (fun e => s.nbrSt e != nFree && s.fld (F.NBR_ST_ADDR e) == src &&
    (mid == s.fld F.MSH_ID_MESHID || mid == s.midOf e))

/-- What a beacon from an admitted entry does to the holiday (11 Table 11.6). -/
def State.beaconHoliday (s : State) (e : Nat) (l : List Byte) : State :=
  let h := leNum l 21 1
  let hid := leNum l 22 1
  let cs := leNum l 27 4
  match s.hst with
  | 0 =>
    if (h = hProposed ∨ h = hCommitted) ∧ (hid ≠ s.fld F.MSH_HSTAT_HID ∨ s.mesh.hadHol = false) ∧ s.cycleReached cs = false then
      (s.setHoliday hid e false (leNum l 23 4) cs (leNum l 31 2)).setHst hProposed
    else s
  | 1 => if h = hCancelled ∧ s.fld F.MSH_HSTAT_HPAR = e ∧ s.flag F.MSH_HSTAT_COORD = false then s.cancelHoliday else s
  | 2 =>
    if h = hBroken then s.breakHoliday (s.flag F.MSH_CTL_RELAY)
    else if h = hCancelled ∧ s.fld F.MSH_HSTAT_HPAR = e ∧ s.flag F.MSH_HSTAT_COORD = false then s.cancelHoliday
    else s
  | _ => s

/-- A beacon consumed (11 R471, R474, Table 11.6). -/
def State.beaconHeard (s : State) (e : Nat) (l : List Byte) : State :=
  let s1 := s.setNbr e { s.nbr e with hops := leNum l 20 1 % 16 }
  s1.hopsSet.beaconHoliday e l

/-- The LSEQ of a unicast frame from an entry is remembered (11 R468). -/
def State.noteLseq (s : State) (e : Nat) (q : Byte) : State := s.setNbr e { s.nbr e with rxLseq := some q }

/-- The slot owes an ACK for a frame that ends now, ACKGAP later (11 R466, Table 11.4). -/
def State.oweAck (s : State) (x : Slot) (f : Heard) : State :=
  s.setSlot (some { x with heard := true, ack := some (s.nowU + s.fld F.MSH_TIM_ACKGAP * oneUs, f.flags, f.bytes.take 10) })

/-- The slot's buffer is delivered on CHAN 2: the payload in it, SLOT to SOFT, the RECV complete (11 R471, Table 11.9). A word that the payload
covers in part and that fails its parity check lets nothing be written: the RECV completes MEMPAR and the buffer returns (03 R705). -/
def State.deliverFrame (s : State) (i : Nat) (f : Heard) (e : Option Nat) (bcast : Bool) : State :=
  match s.engWrite (s.bufAddr i) (f.bytes.take 252).length with
  | .bad st => s.fresh.finishHanded 5 2 st (Config.errorResult s.free)
  | _ =>
    let s1 := (s.storeBytes .raw (s.bufAddr i) (f.bytes.take 252)).setBuf i .soft
    (s1.posted 0x50 (Account.settle 1)).finishHanded 5 2 stOk (BitVec.ofNat 32 (i + f.bytes.length % 256 * 0x100 + e.getD 0 * 0x10000 +
      (if e.isSome then 0x400000 else 0) + (if bcast then 0x800000 else 0) + f.rssi.toNat * 0x1000000))

/-- A data frame that passes R471's tests: a duplicate, delivered, or dropped for want of a descriptor. -/
def State.dataFrame (s0 : State) (x : Slot) (f : Heard) (e : Option Nat) : State :=
  let s := s0.slotReadied 5 2
  let b0 := f.bytes.getD 0 0
  let bcast := b0.getLsbD 4
  let q := f.bytes.getD 8 0
  let heard := s.setSlot (some { x with heard := true })
  let dup : Bool := match e with | none => false | some j => !bcast && (s.nbr j).rxLseq == some q
  let owes := b0.getLsbD 5 && !bcast
  let acked (t : State) : State := if owes then t.oweAck x f else t.setSlot (some { x with heard := true })
  if dup then acked (s.satInc F.MSH_CNT_DUP)
  else
    match x.buf with
    | none => heard
    | some i =>
      if (s.handedTo 5 2).isNone then heard.noBuf 5 2
      else if (s.engWrite (s.bufAddr i) (f.bytes.take 252).length).badStatus.isSome then heard.deliverFrame i f e bcast
      else
        let s1 := s.deliverFrame i f e bcast
        acked (match e with | none => s1 | some j => if bcast then s1 else s1.noteLseq j q)

/-- A frame received OK in a slot, its sync already taken (11 R466, R468, R471). -/
def State.slotReceive (s : State) (x : Slot) (f : Heard) (e : Option Nat) : State :=
  let l := f.bytes
  let type := (l.getD 0 0).toNat % 16
  let bcast := (l.getD 0 0).getLsbD 4
  let mid := leNum l 1 3
  let mine := bcast || leNum l 6 2 == s.fld F.MSH_ADDR_ADDR
  let midOk := mid == s.fld F.MSH_ID_MESHID || e.isSome
  let named := entryType x.entry == 2 || entryType x.entry == 4
  let fromOk := !named || leNum l 4 2 == s.fld (F.NBR_ST_ADDR (entryNbr x.entry))
  let heard := s.setSlot (some { x with heard := true })
  match type with
  | 2 =>
    match e with
    | none =>
      if s.hst = hCommitted ∧ mid = s.fld F.MSH_ID_MESHID ∧ leNum l 21 1 = hBroken then heard.breakHoliday (s.flag F.MSH_CTL_RELAY) else heard
    | some j => heard.beaconHeard j l
  | 3 | 4 =>
    match e with
    | none => if mine && !bcast && mid == s.fld F.MSH_ID_MESHID && (l.getD 0 0).getLsbD 5 then s.oweAck x f else heard
    | some j =>
      if !mine || bcast then heard
      else
        let dup := (s.nbr j).rxLseq == some (l.getD 8 0)
        let s1 := if dup then s.satInc F.MSH_CNT_DUP else s.noteLseq j (l.getD 8 0)
        let s2 := if type = 4 && !dup then s1.hvetoHeard else s1
        if (l.getD 0 0).getLsbD 5 then s2.oweAck x f else s2.setSlot (some { x with heard := true })
  | _ =>
    if (type == 0 || 8 ≤ type) && mine && midOk && fromOk then s.dataFrame x f e
    else heard

/-- The band of an entry's BRX slots; path 0 where the schedule has none. -/
def State.searchBand (s : State) (e : Nat) : Nat :=
  (((List.range s.cycLen).map s.schedWord).find? (fun w => entryType w == 4 && entryNbr w == e)).elim 0 entryBand

/-- The sync-word end of a frame that ends now, by the time base: the header and payload chips before (10 R417). -/
def State.syncEnd (s : State) (p : Nat) (f : Heard) : Nat :=
  s.nowU - chipTime (60 + payloadChips f.bytes.length (f.flags.getLsbD 0) (f.flags.getLsbD 2) (f.flags.getLsbD 3)) (s.rate p)

/-- MTIME of a beacon (11 Table 11.2). -/
def beaconTime (l : List Byte) : Nat := leNum l 10 6

/-- A beacon of the mesh heard while joining (11 R478): MSH_OFF takes the sender's mesh time at this frame's sync-word end. From an entry it is a
sync with offset 0 as well, and the notice names the entry (18, Mesh join; DEDUCED, log 145). -/
def State.joinBeacon (s : State) (f : Heard) : State :=
  let u := s.syncEnd (s.fld F.MSH_CTL_JBAND) f
  let s1 := ((s.fresh.setMshOff ((s.mshOff : Int) + beaconTime f.bytes - s.meshAt u)).setFld F.MSH_STAT_STATE 2).meshPlace
  match s.senderEntry (leNum f.bytes 4 2) (leNum f.bytes 1 3) with
  | some j => ((s1.nbrSync j 0 u).beaconHeard j f.bytes).meshNotice 4 j (leNum f.bytes 4 2)
  | none => s1.meshNoticeFree 4 (leNum f.bytes 4 2)

/-- Whether a frame's sync lies where a receiving slot listens (11 R464, R477 step 2): for a LOST entry within its widened window, otherwise
from TXOFF − G on and declared by the nominal time plus the guard. An entry that has never synced and a SHARED slot set no bound. -/
def State.inWindow (s : State) (x : Slot) (f : Heard) : Bool :=
  let e := entryNbr x.entry
  let pos : Int := f.err * oneFrac
  if entryType x.entry = 5 then true
  else if s.lostSlot x.entry then
    (pos + s.nominal (entryBand x.entry) - s.predicted (s.mesh.slotNo.getD s.slotAbs)).natAbs ≤ s.halfWidth e
  else !(s.nbr e).everSync ||
    (-((s.guard e * oneUs + s.syncAfter (entryBand x.entry) : Nat) : Int) ≤ pos && pos ≤ (s.guard e * oneUs : Nat))

/-- A frame heard in a receiving slot (11 R464, R466, R468, R471 to R473): its sync counts whatever becomes of its content. -/
def State.slotFrameHeard (s : State) (x : Slot) (f : Heard) (e : Option Nat) : State :=
  let j := entryNbr x.entry
  let p := entryBand x.entry
  let named := (entryType x.entry == 2 || entryType x.entry == 4) && e == some j
  let s1 := if named then s.nbrSync j f.err ((x.t0 : Int) + s.nominal p + f.err * oneFrac).toNat else s
  let y : Slot := if named then { x with synced := true } else x
  if f.ok then s1.slotReceive y f e else s1.setSlot (some { y with heard := true })

/-- Whether a frame's sync lies in the widened window of slot `k` of entry `j`, which reaches here (11 R477 step 2). -/
def State.inWidened (s : State) (j : Nat) (f : Heard) (k : Nat) : Bool :=
  let w := s.schedWord k
  entryNbr w == j && (f.err * oneFrac + s.nominal (entryBand w) - s.predicted k).natAbs ≤ s.halfWidth j

/-- A frame heard outside the node's own receiving slots, in a gap: from a LOST entry whose widened window reaches here, or from one in SEARCH,
a beacon's MTIME then telling the offset (11 R477 steps 2 to 4). -/
def State.gapFrameHeard (s : State) (j : Nat) (f : Heard) : State :=
  let consumed (t : State) : State := if f.ok && (f.bytes.getD 0 0).toNat % 16 == 2 then t.beaconHeard j f.bytes else t
  match (s.windowsFrom s.slotAbs).find? (s.inWidened j f) with
  | some k =>
    let w := s.schedWord k
    let t0 : Int := (s.slotT0 : Int) + ((k : Int) - s.slotAbs) * s.slotTime
    consumed (s.nbrSync j f.err (t0 + s.nominal (entryBand w) + f.err * oneFrac).toNat)
  | none =>
    if s.nbrSt j = nSearch ∧ f.ok ∧ s.opOnAir = false then
      let at' := s.syncEnd (s.searchBand j) f
      let off : Int := (BitVec.ofInt 48 ((s.meshAt at' : Int) - beaconTime f.bytes)).toInt
      consumed ((s.nbrSync j (if (f.bytes.getD 0 0).toNat % 16 == 2 then off else f.err) at'))
    else s

/-- The path of a gap in which the link controller listens outside its slots, if it does (11 R477, R478): JBAND while joining, that of a widened
window that reaches here, that of an entry in SEARCH. -/
def State.gapPath (s : State) : Option Nat :=
  if s.fld F.MSH_STAT_STATE = 1 then some (s.fld F.MSH_CTL_JBAND)
  else if s.meshRuns && !ownsSlot (entryType (s.schedWord s.slotAbs)) && !s.opOnAir then
    (match s.windowsFrom s.slotAbs with
     | k :: _ => some (entryBand (s.schedWord k))
     | [] => ((List.range 64).find? (fun e => s.nbrSt e == nSearch)).map s.searchBand)
  else none

/-- The path on which the link controller's receiver works. -/
def State.rxPath (s : State) : Nat :=
  match s.mesh.slot with
  | some x => entryBand x.entry
  | none => s.gapPath.getD 0

/-- What a frame that the receiver has made out does (11 R464, R466 to R474, R477, R478). -/
def State.frameIn (s : State) (f : Heard) : Res :=
  let l := f.bytes
  let e := s.senderEntry (leNum l 4 2) (leNum l 1 3)
  if !s.on || !s.lit .radio || l.length < 10 then ok s
  else if s.fld F.MSH_STAT_STATE = 1 then
    (if f.ok && (l.getD 0 0).toNat % 16 == 2 && 33 ≤ l.length && leNum l 1 3 == s.fld F.MSH_ID_MESHID then ok (s.joinBeacon f) else ok s)
  else if !s.meshRuns then ok s
  else
    match s.mesh.slot, e with
    | some x, _ =>
      if x.sent || x.heard || x.void || x.buf.isNone || !s.inWindow x f then ok s else ok (s.slotFrameHeard x f e)
    | none, some j =>
      if s.onAir then ok s
      else
        match s.gapPath with
        | none => ok s
        | some p => if vget s.radio.relock (Fin.ofNat 2 p) then ok s else ok (s.gapFrameHeard j f)
    | none, none => ok s

/-- MESH_FRAME_RECEIVED (10 R418 to R420; 11 R464, R466 to R474, R477, R478): the end of a frame's last chip. -/
def execMeshFrameReceived (f : RxFrame) (s : State) : Res :=
  match s.hear s.rxPath f with
  | none => ok s
  | some x => s.fresh.frameIn x

/-- INFO of the ACK of a vote (11 Table 11.1, R481); 0 for another frame. -/
def State.ackInfo (s : State) (l : List Byte) : Byte :=
  let veto := (l.getD 9 0).getLsbD 0
  if (l.getD 0 0).toNat % 16 != 3 then 0
  else
    (if veto then 1 else 0) ||| (if s.hst = hCommitted ∧ veto = false then 2 else 0) ||| (if s.hst = hProposed then 4 else 0) |||
      (if s.hst = hCancelled ∨ veto then 8 else 0)

/-- The ACK that answers a frame's link header (11 R466, R467). -/
def State.ackBytes (s : State) (l : List Byte) : List Byte :=
  linkHeader 1 false false (leNum l 1 3) (leNum l 6 2) (leNum l 4 2) (l.getD 8 0) (s.ackInfo l)

/-- ACK_SEND (11 R464, R466, R436, Table 11.8): the ACK with the answered frame's coding flags, its ramp-up at E + ACKGAP; the slot keeps it as
what it sent. -/
def execAckSend (s : State) : Res :=
  match s.mesh.slot with
  | none => ok s
  | some x =>
    match x.ack with
    | none => ok s
    | some (up, flags, l) =>
      let em := s.frameAir (entryBand x.entry) 0 (s.ackBytes l) (flags.getLsbD 0) (flags.getLsbD 1) (flags.getLsbD 2) (flags.getLsbD 3)
      let done (t : State) (c : Option (List Byte)) : State := t.setSlot (some { x with ack := none, ctrl := c })
      if x.void || !s.on then ok s
      else if s.mayTransmit em up then ok (done (s.transmit em up) (some (s.ackBytes l)))
      else ok (done s.dutySkip none)

/-- Whether an ACK answers a frame with these header bytes, its sync between the beginning of listening, 30 µs before its ramp-up is due, and 30 µs
after its nominal time (11 R464, R467). -/
def State.ackValid (s : State) (p : Nat) (sent : List Byte) (a : Heard) : Bool :=
  a.ok && 10 ≤ a.bytes.length && (a.bytes.getD 0 0).toNat % 16 == 1 && leNum a.bytes 4 2 == leNum sent 6 2 &&
    leNum a.bytes 6 2 == leNum sent 4 2 && a.bytes.getD 8 0 == sent.getD 8 0 && (a.err * oneFrac ≤ (30 * oneUs : Nat) : Bool) &&
    (-((30 * oneUs + s.syncAfter p : Nat) : Int) ≤ a.err * oneFrac : Bool)

/-- A valid ACK of a control frame (11 R480, R481, R483, Table 11.6). -/
def State.ctrlAcked (s : State) (e : Nat) (sent : List Byte) (info : Byte) : State :=
  let s1 := s.setNbr e { s.nbr e with txLseq := (s.nbr e).txLseq + 1 }
  if (sent.getD 0 0).toNat % 16 = 4 then { s1 with mesh := { s1.mesh with hveto := false } }
  else
    let s2 : State := if info.getLsbD 2 then s1 else { s1 with mesh := { s1.mesh with voteDone := true } }
    if info.getLsbD 1 ∧ s2.hst = hProposed then s2.setHst hCommitted
    else if info.getLsbD 3 ∧ (s2.hst = hProposed ∨ s2.hst = hCommitted) then s2.cancelHoliday
    else s2

/-- What the ACK that the receiver has made out does to the slot that waits for it (11 R467, R481, Table 11.5). -/
def State.ackIn (s : State) (a : Heard) : Res :=
  match s.mesh.slot with
  | some x =>
    if !x.sent || x.judged || x.void then ok s
    else
      match x.frame, x.ctrl with
      | some f, _ =>
        if f.desc.wantsAck && s.ackValid (entryBand x.entry) (s.engBytes f.desc.buf 10) a then
          ok ((s.frameDone f).setSlot (some { x with judged := true }))
        else ok s
      | none, some l =>
        if (l.getD 0 0).getLsbD 5 && s.ackValid (entryBand x.entry) l a then ok ((s.ctrlAcked (entryNbr x.entry) l (a.bytes.getD 9 0)).setSlot (some { x with judged := true }))
        else ok s
      | none, none => ok s
  | none => ok s

/-- ACK_JUDGE (10 R418 to R420; 11 R467, R481, Table 11.5): the sender judges the ACK at the end of its last chip. -/
def execAckJudge (ack : Option RxFrame) (s : State) : Res :=
  match ack with
  | none => ok s
  | some f =>
    match s.hear s.rxPath f with
    | none => ok s
    | some a => s.fresh.ackIn a

/-! ### Search, lanterns and the holiday -/

/-- A beacon outside the schedule, from a moment on (11 R477 step 4). -/
def State.sendBeacon (s0 : State) (p start : Nat) : State :=
  let s := s0.pathReady p
  let em := s.beaconAir p start
  if s.mayTransmit em start then s.fresh.transmit em start else s.dutySkip

/-- A beacon whose ramp-up comes before the next tick edge is formed and goes on the air (11 R457, R477; log 143). -/
def State.beaconTick (s : State) : State :=
  match s.mesh.beacon with
  | none => s
  | some (p, start) =>
    if start < s.nowU + 65536 * oneFrac then ({ s with mesh := { s.mesh with beacon := none } }).sendBeacon p start else s

/-- The path of a gap is calibrated before the link controller listens on it again (10 R426, R449). -/
def State.relistenTick (s : State) : State :=
  match s.mesh.slot, s.gapPath with
  | none, some p => if s.on && s.lit .radio && !s.airSoon then s.pathReady p else s
  | _, _ => s

/-- SEARCH_LANTERN (11 R477 step 4): once every SPER cycles, in an IDLE or GAP slot, a wake lantern, and 500 µs after its end a beacon, which is
formed when its time has come. -/
def execSearchLantern (e : Fin 64) (s : State) : Res :=
  let x := s.nbr e.val
  if !s.on || !s.meshRuns || s.nbrSt e.val != nSearch || (s.cycleNow + 2 ^ 32 - x.lastLantern) % 2 ^ 32 < s.fld F.MSH_LOST_SPER ||
      s.slotOwned s.slotAbs || s.linkSends || s.opOnAir then ok s
  else
    let p := s.searchBand e.val
    let em := s.lanternAir p 0 (s.fld F.MSH_LANT_LDUR) false
    let s1 := (s.setNbr e.val { x with lastLantern := s.cycleNow }).pathReady p
    if s1.mayTransmit em s.nowU then
      let s2 := s1.transmit em s.nowU
      ok { s2 with mesh := { s2.mesh with beacon := some (p, s.nowU + em.time + 500 * oneUs) } }
    else ok (s1.dutySkip.sendBeacon p s.nowU)

/-- HOLIDAY_COMMIT (11 R482, R483): the coordinator commits at the boundary of C_c. -/
def execHolidayCommit (s : State) : Res :=
  if s.on && s.hst == hProposed && s.flag F.MSH_HSTAT_COORD && s.cycleReached (s.fld F.MSH_HCOMMIT_CYCLE) then ok (s.setHst hCommitted)
  else ok s

/-- The cycle at whose boundary the holiday ends (11 R483). -/
def State.holidayEndCycle (s : State) : Nat := (s.fld F.MSH_HSTART_CYCLE + s.fld F.MSH_HLEN_N) % 2 ^ 32

/-- The TMB tick at which mesh time reaches the boundary of a cycle ahead, modulo 2^32 (11 R484). -/
def State.cycleTick (s : State) (c : Nat) : Nat :=
  let len := s.slotLen * s.cycLen
  let k := s.mtTicks / len
  let target := (k + (c + 2 ^ 32 - k % 2 ^ 32) % 2 ^ 32) * len
  ((target * 65536 + 2 ^ 64 * 2 ^ 20 - s.mshOff) / 65536) % 2 ^ 32

/-- HOLIDAY_SLEEP (11 R484): slot activity ends, the holiday compare channel is written, the node is ASLEEP. -/
def execHolidaySleep (s : State) : Res :=
  if s.on && (s.hst == hProposed || s.hst == hCommitted) && s.cycleReached (s.fld F.MSH_HSTART_CYCLE) then
    let ch : Fin 16 := Fin.ofNat 16 (s.fld F.MSH_HOL_CH)
    let v := BitVec.ofNat 32 (s.cycleTick s.holidayEndCycle + 2 ^ 32 - s.fld F.MSH_HOL_WLEAD)
    let s1 := (((s.slotEnd.stopAir.cmpPut ch (.val v)).crossed 2 1).cmpPut ch (.ctl 0x0B)).crossed 2 1
    ok (s1.setHst hAsleep)
  else ok s

/-- HOLIDAY_END (11 R483): at the boundary of C_s + N the schedule resumes, held WAKEREQs complete with RESULT 2. -/
def execHolidayEnd (s : State) : Res :=
  if s.on && s.hst == hAsleep && s.cycleReached s.holidayEndCycle then
    let s1 := (s.releaseHeld 2).holidayClear.meshPlace
    ok (if s1.pstate ≥ 2 then s1.wakeIsland .radio else s1)
  else ok s

/-- FLOOD_END (11 R483): the node stays BROKEN to the next cycle boundary. -/
def execFloodEnd (s : State) : Res := ok { s with mesh := { s.mesh with flood := false } }

/-- A write of 1 to MSH_CNTCLR.CLR (11 R499). -/
def State.mshCntclr (s : State) : State := s.setReg F.MSH_CNT_DUP.addr 0

/-- MSH_CNTCLR (11 R499). -/
def execMshCntclr (s : State) : Res := ok (if s.steadyRuns then s.mshCntclr else s)

/-- An alarm lantern heard (11 Tables 11.6, 11.10). -/
def State.alarmHeard (s : State) : State :=
  if s.fld F.MSH_STAT_STATE != 2 then s
  else
    let s1 := s.meshNoticeFree 6 0
    if s1.hst = hAsleep ∧ s1.cycleReached s1.holidayEndCycle = false then s1.breakHoliday (s1.flag F.MSH_CTL_RELAY) else s1

/-- The lantern code that two repetitions are (10 R422): whether it is the alarm code, and the agreements of the second. -/
def State.lanternCode (s : State) (first second : Word) : Option (Bool × Nat) :=
  let m := s.fld F.RAD_LANT_LMATCH
  let test (code : Word) : Option Nat := if m ≤ agree32 first code ∧ m ≤ agree32 second code then some (agree32 second code) else none
  match test (s.reg F.RAD_LANTW_CODE.addr), test (s.reg F.RAD_LANTA_CODE.addr) with
  | some n, _ => some (false, n)
  | none, some n => some (true, n)
  | none, none => none

/-- LANTERN_DETECT (10 R422, R423, Table 10.3; 11 Table 11.6): an LSEARCH hears its lantern, or the sniffer's verify does and wakes the
chip. -/
def execLanternDetect (first second : Word) (s : State) : Res :=
  match s.lanternCode first second with
  | none => ok s
  | some (alarm, n) =>
    if s.radio.verify && s.nowU ≤ s.radio.verifyTo then
      let s1 : State := { s with radio := { s.radio with verify := false, lead := false } }
      let s2 := ((s1.clrFld F.RAD_STAT_SNIFFING).setBit F.RAD_LSTAT_HIT).setFld F.RAD_LSTAT_ALARM (if alarm then 1 else 0)
      let s3 := if alarm then s2.alarmHeard else s2
      ok ((s3.wakeSource 2).xt32mSettle)
    else
      match s.radio.op with
      | none => ok s
      | some o =>
        if o.active && o.desc.op == 4 && o.outcome.isNone && s.nowU ≤ s.windowEnd o then
          ok (s.setOp (some { o with outcome := some (stOk, BitVec.ofNat 32 ((if alarm then 1 else 0) + n * 0x100)) }))
        else ok s

/-- Whether a slot listens now (11 Table 11.4): for its frame, or from 30 µs before ACKGAP after what it sent for the ACK. -/
def State.slotListens (s : State) (x : Slot) : Bool :=
  let e := entryNbr x.entry
  !x.void &&
    (if x.sent then
       !x.judged && (match x.frame, x.ctrl with | some f, _ => f.desc.wantsAck | none, some l => (l.getD 0 0).getLsbD 5 | _, _ => false) &&
         s.radio.air.any (fun y => x.t0 ≤ y.start &&
           y.stop + s.fld F.MSH_TIM_ACKGAP * oneUs ≤ s.nowU + 30 * oneUs + 32 * y.em.step * (oneUs / 4))
     else
       x.buf.isSome && !x.heard &&
         (if entryType x.entry = 5 || !(s.nbr e).everSync then true
          else if s.lostSlot x.entry then
            decide (s.predicted (s.mesh.slotNo.getD s.slotAbs) - (s.halfWidth e : Nat) ≤ ((s.nowU - x.t0 : Nat) : Int))
          else s.fld F.MSH_TIM_TXOFF * oneUs ≤ s.nowU - x.t0 + s.guard e * oneUs))

/-- Whether the link controller listens: while joining, in a slot, in a widened window, in a gap for an entry in SEARCH (11 R464, R477, R478). -/
def State.meshListens (s : State) : Bool :=
  s.on && s.lit .radio && !s.onAir &&
    (match s.mesh.slot with
     | some x => s.meshRuns && s.slotListens x
     | none =>
       match s.gapPath with
       | none => false
       | some p => !vget s.radio.relock (Fin.ofNat 2 p))

/-- RAD_STAT as it reads: TXON, RXON and LOCK of the operation in hand, the link controller and the sniffer together (10 Table 10.7). A
transmission that ends because the synthesiser lost lock has none. -/
def State.radStat (s : State) (w : Word) : Word :=
  let rx := s.meshListens || s.flag F.RAD_STAT_SNIFFING
  let locked := s.radio.air.any (fun x => x.start ≤ s.nowU && s.nowU < x.stop && !x.lost)
  let w1 := if s.onAir then fldPut w F.RAD_STAT_TXON 1 else w
  let w2 := if rx then fldPut w1 F.RAD_STAT_RXON 1 else w1
  if locked || rx then fldPut w2 F.RAD_STAT_LOCK 1 else w2

/-! ### Loss of lock -/

/-- Whether the link controller transmits on a path, or has a slot, or listens in a gap on it. -/
def State.linkOnPath (s : State) (p : Fin 2) : Bool :=
  s.slotOnPath p || s.radio.air.any (fun x => Fin.ofNat 2 x.em.band == p && s.nowU < x.stop) ||
    (s.mesh.slot.isNone && s.meshListens && s.gapPath == some p.val)

/-- The widened windows that reach here on a path hear nothing more (11 R494): the attempt of an ended slot counts now, that of a slot to come
when it ends. -/
def State.windowsLost (s : State) (p : Fin 2) : State :=
  ((s.windowsFrom s.slotAbs).filter (fun w => Fin.ofNat 2 (entryBand (s.schedWord w)) == p)).foldl (fun acc w =>
    if acc.mesh.wide.contains w then
      ({ acc with mesh := { acc.mesh with wide := acc.mesh.wide.filter (fun y => y != w) } }).lostMiss (entryNbr (acc.schedWord w))
    else { acc with mesh := { acc.mesh with deaf := acc.mesh.deaf ++ [w] } }) s

/-- The link controller loses lock on a path (10 R449; 11 R494): in a slot the frame counts as unacknowledged or nothing was heard, what it sends
ends with its ramp-down. -/
def State.linkUnlock (s : State) (p : Fin 2) : State :=
  let s1 := if s.mesh.slot.isNone && s.meshRuns then s.windowsLost p else s
  let s2 : State := if s1.slotOnPath p then { s1 with mesh := { s1.mesh with slot := s1.mesh.slot.map (fun (y : Slot) => { y with void := true }) } } else s1
  let s3 := if s2.radio.air.isEmpty then s2 else s2.stopAir
  ({ s3 with radio := { s3.radio with air := s3.radio.air.map (fun (x : OnAir) => { x with lost := true }) } }).relockPath p.val

/-- SYNTH_UNLOCK (10 R449, Table 10.4; 11 R494): the synthesiser loses lock on a path. The operation on the air there ends UNLOCK with its
ramp-down; what the link controller does there ends; otherwise an operation that waits to begin there lacks lock. The path is calibrated anew
before its next operation. -/
def execSynthUnlock (p : Fin 2) (s : State) : Res :=
  if !s.on then ok s
  else
    match s.radio.op.filter (fun o => Fin.ofNat 2 o.desc.band == p && (o.active || !s.linkOnPath p)) with
    | some o =>
      if o.active then ok (((s.opStop o rsUnlock).clrFld F.RAD_STAT_LOCK).relockPath o.desc.band)
      else ok (((s.setOp none).finish o.desc rsUnlock 0).relockPath o.desc.band)
    | none => if s.linkOnPath p then ok (s.linkUnlock p) else ok s

/-- A radio-island quiesce or reset (10 Table 10.6; 11 R496): a slot in progress closes with its buffers back at their holders, frames
go SOFT and their SENDs complete CUTOFF, forwarding accounts are withdrawn through a QUIESCE window, every entry is FREE. -/
def State.meshQuiesce (s : State) : State :=
  let s0 := match s.mesh.slot with
    | none => s
    | some x =>
      let s1 := match x.frame with
        | some f =>
          if x.judged then s
          else
            let t := (s.setBuf f.buf .queue).posted 0x50 (Account.settle 1)
            if f.desc.unicast then
              (t.setNbr (f.desc.opd 4) { t.nbr (f.desc.opd 4) with queue := f :: (t.nbr (f.desc.opd 4)).queue }).posted (fwd (f.desc.opd 4))
                (Account.settle 1)
            else if f.desc.mBcast then { t with mesh := { t.mesh with bcast := f :: t.mesh.bcast } }
            else { t with mesh := { t.mesh with shared := f :: t.mesh.shared } }
        | none => s.slotBuffer x
      (s1.slotClose x).setSlot none
  let used := (List.range 64).filter (fun e => s0.nbrSt e != nFree)
  let s1 := used.foldl (fun acc e => acc.openQuiesce (fwd e)) s0
  let s2 := s1.dropQueues stCutoff
  used.foldl (fun acc e => ((acc.evictDone e).closeQuiesce (fwd e))) s2

end Sys2Proof.Machine
end

