-- ==== Sys2Proof/Machine/Gnss.lean ====
section
/-! DEFINITION. The GNSS baseband (13): front end, notches and jamming indicator, snapshots, tracking channels, records and notices. The
1 PPS generator is in Pps.lean. What the correlators and the front end see are operands of the commands. -/

namespace Sys2Proof.Machine

/-- Status codes of Table 13.11. -/
abbrev gsFeOff : Nat := 0x20
abbrev gsRange : Nat := 0x21
abbrev gsTcxo : Nat := 0x22
abbrev gsChBusy : Nat := 0x23
abbrev gsNoCh : Nat := 0x24

/-- The state with the GNSS island's record replaced. -/
def State.setGnss (s : State) (g : Gnss) : State := { s with gnss := g }

/-- A tracking channel. -/
def State.chan (s : State) (n : Fin 16) : GChan := vget s.gnss.chan n
/-- The state with a channel replaced. -/
def State.setChan (s : State) (n : Fin 16) (c : GChan) : State := s.setGnss { s.gnss with chan := vset s.gnss.chan n c }

/-- The state codes of Table 13.4. -/
def ChanSt.num : ChanSt → Nat
  | .idle => 0 | .search => 1 | .pull => 2 | .track => 3

/-- Whether the GNSS island works: the part is on and the island there and lit. -/
def State.gnssUp (s : State) : Bool := s.on && s.has .gnss && s.lit .gnss

/-- Whether the baseband still counts epochs: the island is lit, or drains (02 R85 step 5; 13 R581). -/
def State.gnssDrains (s : State) : Bool := s.on && s.has .gnss && (s.lit .gnss || (s.island .gnss).st == .quiescing)

/-- Whether the engine counts as not idle (13 R550). -/
def State.gnssBusy (s : State) : Bool :=
  (indices 16).any (fun n => (s.chan n).st != .idle) || s.gnss.snap.isSome || !s.gnss.out.isEmpty || s.flag F.GNS_PPSCTL_EN || s.flag F.GNS_FE_HOLDON

/-! ### Notices -/

/-- A notice with its channel field (13 R566, Table 13.7): the handed CHAN 4 descriptor completes with it. -/
def State.gnssNotice (s0 : State) (code ch detail : Nat) : State :=
  let s := s0.slotReadied 6 4
  if (s.handedTo 6 4).isSome then
    s.finishHanded 6 4 stOk (BitVec.ofNat 32 (code + ch % 32 * 256 + min 65535 detail * 65536))
  else s.noBuf 6 4

/-- A notice about no channel: which one its field names no rule says, so that is a free value. -/
def State.gnssNote (s : State) (code detail : Nat) : State := s.fresh.gnssNotice code (Config.noticeChan s.free).toNat detail

/-! ### The front end and the notches -/

/-- The mode of a notch: 0 and 3 bypass, 1 fixed, 2 adaptive (13 R551). -/
def State.notchMode (s : State) (n : Nat) : Nat := s.fld F.GNS_NCTL_MODES / 4 ^ n % 4

/-- Whether a snapshot is being captured: from the boundary at which it begins to that after its last sample (13 R558). -/
def State.capturing (s : State) : Bool := match s.gnss.snap with | some x => x.capturing && x.left != 0 | none => false

/-- Whether a notch is adaptive and frozen (13 R553, R558). -/
def State.notchFrozen (s : State) (n : Nat) : Bool := s.notchMode n == 2 && (s.flag F.GNS_NCTL_HOLD || s.capturing)

/-- Whether an adaptive notch is SETTLED: no more than 2 units at each of the last 4 boundaries (13 R552). -/
def State.notchSettled (s : State) (n : Fin 4) : Bool :=
  let m := vget s.gnss.moves n
  s.notchMode n.val == 2 && m.length == 4 && m.all (· ≤ 2)

/-- One bit per notch. -/
def notchMask (p : Fin 4 → Bool) : Nat := (indices 4).foldl (fun acc n => if p n then acc + 2 ^ n.val else acc) 0

/-- GNS_NSTAT.SETTLED and FROZEN as they read (13 Table 13.12). -/
def State.settledMask (s : State) : Nat := notchMask s.notchSettled
def State.frozenMask (s : State) : Nat := notchMask (fun n => s.notchFrozen n.val)

/-- The distance between two frequencies of 16 signed bits. -/
def freqMove (a b : BitVec 16) : Nat := (a - b).toInt.natAbs

/-- A notch at an epoch boundary (13 R551 to R553): fixed, adapting, frozen or out of use. -/
def State.notchStep (s : State) (f : List (BitVec 16)) (n : Fin 4) : State :=
  let old := BitVec.ofNat 16 (s.fld (F.GNS_NFREQ_LIVE n.val))
  let new : BitVec 16 :=
    if s.notchMode n.val = 1 then BitVec.ofNat 16 (s.fld (F.GNS_NFREQ_FREQ n.val))
    else if s.notchMode n.val = 2 && !s.notchFrozen n.val then f.getD n.val old else old
  let m := (vget s.gnss.moves n ++ [freqMove new old])
  let s1 := s.setFld (F.GNS_NFREQ_LIVE n.val) new.toNat
  s1.setGnss { s1.gnss with moves := vset s1.gnss.moves n (m.drop (m.length - 4)) }

/-- A quotient rounded to the nearest whole, an exact half to a free side. -/
def nearest (free num den : Nat) : Nat :=
  let q := num / den
  let r := num % den
  if 2 * r < den then q else if den < 2 * r then q + 1 else if Config.roundUp free then q + 1 else q

/-- JN of one epoch (13 R554). -/
def jnOf (free jnref gain : Nat) : Nat := min 60 (nearest free (jnref - gain) 2)

/-- The jamming indicator at an epoch boundary, and its notices (13 R554, Table 13.7, Table 13.10). -/
def State.jnStep (s : State) : State :=
  let v := jnOf s.free (s.fld F.GNS_JNC_JNREF) (s.fld F.GNS_STAT_GAIN)
  let l := s.gnss.jn ++ [v]
  let l16 := l.drop (l.length - 16)
  let old := s.fld F.GNS_STAT_JN
  let new := nearest (s.free + 1) l16.sum l16.length
  let s1 := s.fresh.fresh
  let s2 := (s1.setGnss { s1.gnss with jn := l16 }).setFld F.GNS_STAT_JN new
  let th := s.fld F.GNS_JNC_JNTH
  if old < th && th ≤ new then s2.gnssNote 0x08 new
  else if th ≤ old + 3 && new + 3 < th then s2.gnssNote 0x09 new else s2

/-- FERDY (13 R549): the front end is ready and counting begins at epoch 0. -/
def execFerdy (s : State) : Res :=
  if s.gnssUp && s.flag F.GNS_FE_EN && s.flag F.GNS_STAT_TCXOOK && !s.flag F.GNS_STAT_FERDY then
    ok (((s.setGnss { s.gnss with jn := [], moves := Vector.replicate 4 [] }).setBit F.GNS_STAT_FERDY).setFld F.GNS_EPOCH_EPOCH 0)
  else ok s

/-- The front end is off: no epochs (13 R549, R579). -/
def State.frontEndOff (s : State) : State := s.clrFld F.GNS_STAT_FERDY

/-- The immediate fields of GNS_FE as a write leaves them (13 R549, Table 13.12). -/
def State.gnsFeWrite (s : State) (v : Word) : State :=
  let s0 := (s.setFld F.GNS_FE_EN (fldGet v F.GNS_FE_EN)).setFld F.GNS_FE_HOLDON (fldGet v F.GNS_FE_HOLDON)
  let s1 := [2, 3, 4].foldl (fun acc ch => acc.chanArms s 6 ch) s0
  let s2 := if s.flag F.GNS_FE_HOLDON then s1.touch .gnss else s1
  if v.getLsbD 0 then s2 else s2.frontEndOff

/-! ### Snapshots -/

/-- WAITSET and PRE of a SNAP. -/
def Desc.waitSet (d : Desc) : Bool := d.uflags.testBit 0
def Desc.pre (d : Desc) : Bool := d.uflags.testBit 1

/-- The bytes that a SNAP captures (13 R559). -/
def Desc.snapBytes (d : Desc) : Nat := d.opd 5 * 2046

/-- The checks of a SNAP (13 R576, R580). -/
def State.snapCheck (s : State) (d : Desc) : Option Nat :=
  if d.op != 1 || d.uflags > 3 || d.uparam != 0 || d.lenTop != 0 || d.opd 4 % 16 != 0 || d.opd 5 == 0 || d.opd 5 > 64 || d.opd 6 != 0 ||
      d.opd 7 != 0 then some stBadOp
  else if s.dtagBad d then some stDtag
  else if d.len != 32 then some stLen
  else if d.buf % 4 != 0 || (s.engWrite d.buf 32).badStatus == some stAddrErr then some stAddrErr
  else if d.opd 4 + d.snapBytes > 131072 then some gsRange
  else if !s.flag F.GNS_FE_EN then some gsFeOff
  else if !s.flag F.GNS_STAT_TCXOOK then some gsTcxo else none

/-- SNAP (13 R557): a checked descriptor waits for its starting boundary. -/
def execSnap (s : State) : Res :=
  if s.gnss.snap.isSome || s.gnss.out.any (fun o => o.chan == 0) then ok s
  else
    ok (s.takeWith 6 0 (fun _ => true) (fun t d =>
      match t.snapCheck d with
      | some st => t.refuse d st
      | none => t.setGnss { t.gnss with snap := some ⟨d, 0, false, 0, []⟩ }))

/-- Words 0 to 7 of a snapshot record as they are latched at its start (13 Table 13.3). -/
def State.snapWords (s : State) (d : Desc) (timedOut : Bool) : List Word :=
  [BitVec.ofNat 32 (d.opd 5 + s.frozenMask * 2 ^ 8 + s.settledMask * 2 ^ 12 + (if d.pre then 2 ^ 16 else 0) +
      (if timedOut then 2 ^ 17 else 0) + s.fld F.GNS_STAT_JN * 2 ^ 24),
    s.gnss.lastTick, BitVec.ofNat 32 (s.gnss.lastTcxo.toNat + s.fld F.GNS_STAT_GAIN * 2 ^ 16), BitVec.ofNat 32 (d.opd 4),
    BitVec.ofNat 32 (s.fld (F.GNS_NFREQ_LIVE 0) + s.fld (F.GNS_NFREQ_LIVE 1) * 2 ^ 16),
    BitVec.ofNat 32 (s.fld (F.GNS_NFREQ_LIVE 2) + s.fld (F.GNS_NFREQ_LIVE 3) * 2 ^ 16),
    BitVec.ofNat 32 (s.fld F.GNS_EPOCH_EPOCH), 0]

/-- Whether every adaptive notch is SETTLED. -/
def State.allSettled (s : State) : Bool := (indices 4).all (fun n => s.notchMode n.val != 2 || s.notchSettled n)

/-- Whether the snapshot in hand begins at the epoch boundary just over (13 R557): the first after hand-over; with WAITSET the first with every
adaptive notch SETTLED, or the 16th (DEDUCED, log 126). -/
def State.snapDue (s : State) (x : Snap) : Bool :=
  !x.capturing && s.gnssDrains && s.flag F.GNS_STAT_FERDY && 1 ≤ x.waited && (!x.desc.waitSet || s.allSettled || 16 ≤ x.waited)

/-- The snapshot in hand begins where its boundary has come (13 R557, R558). -/
def State.snapBegin (s : State) : State :=
  match s.gnss.snap with
  | none => s
  | some x =>
    if s.snapDue x then
      let s1 := (s.setGnss { s.gnss with snap := some { x with capturing := true, left := x.desc.opd 5 } }).setBit F.GNS_STAT_CAPT
      let w := s1.snapWords x.desc (x.desc.waitSet && !s.allSettled)
      -- SETTLED is as it stood at the boundary; freezing moves no notch
      s1.setGnss { s1.gnss with snap := some { x with capturing := true, left := x.desc.opd 5, w := w } }
    else s

/-- SNAP_BEGIN (13 R557, R558). -/
def execSnapBegin (s : State) : Res := ok s.snapBegin

/-- The tags of a snapshot record: word 1 is a TIME. -/
def snapTags : List Tag := [.int, .time, .int, .int, .int, .int, .int, .int]

/-- No snapshot in hand. -/
def State.snapGone (s : State) : State := (s.setGnss { s.gnss with snap := none }).clrFld F.GNS_STAT_CAPT

/-- Bytes of samples in capture RAM (13 R559). -/
def State.putSamples (s : State) (off : Nat) (l : List Byte) : State := { s with mem := s.mem.setBytes (0x28000000 + off) l }

/-! ### Records to be written -/

/-- The checks of a CHAN 2, 3 or 4 descriptor (13 R576, R580). -/
def State.gnssBufCheck (s : State) (ch : Nat) (d : Desc) : Option Nat :=
  let unit := if ch = 2 then 32 else 16
  let top := if ch = 2 then 512 else 4096
  if d.op != 0x0E + ch || d.uflags != 0 || d.uparam != 0 || d.lenTop != 0 || d.opd 4 != 0 || d.opd 5 != 0 || d.opd 6 != 0 || d.opd 7 != 0 ||
      (ch == 4 && (d.buf != 0 || d.len != 0)) then some stBadOp
  else if ch = 4 then none
  else if s.dtagBad d then some stDtag
  else if d.len == 0 || d.len % unit != 0 || d.len > top then some stLen
  else if d.buf % 4 != 0 || (s.engWrite d.buf d.len).badStatus == some stAddrErr then some stAddrErr else none

/-- A descriptor of an inbound channel is handed, or refused; a channel holds one. -/
def State.gnssBuf (s : State) (ch : Nat) : State :=
  if (s.handedTo 6 ch).isSome then s
  else
    s.takeWith 6 ch (fun _ => true) (fun t d =>
      match t.gnssBufCheck ch d with
      | some st => t.refuse d st
      | none => (if ch = 3 then t.setGnss { t.gnss with navCount := 0 } else t).hand 6 ch d)

/-- As `gnssBuf`, until a descriptor is handed or none is posted (13 R555), up to a number. -/
def State.gnssFill (s : State) (ch : Nat) : Nat → State
  | 0 => s
  | k + 1 => if (s.handedTo 6 ch).isSome || (s.headDesc 6 ch).isNone then s else State.gnssFill (s.gnssBuf ch) ch k

/-- The descriptor that produced records go with: a SNAP's own, or the one handed to the channel. -/
def State.outDesc (s : State) (o : GOut) : Option Desc :=
  match o.desc with
  | some d => some d
  | none => s.handedTo 6 o.chan

/-- The words that fit (13 R564), and where they go: a navigation record follows those written before it (R565). -/
def GOut.fit (o : GOut) (d : Desc) : List TWord := if o.chan = 2 then o.words.take (d.len / 32 * 8) else o.words
def State.outAt (s : State) (o : GOut) (d : Desc) : Nat := if o.chan = 3 then d.buf + 16 * s.gnss.navCount else d.buf

/-- Produced records are written and their descriptor completes: a SNAP with its bytes, MEAS with its records and whether some were lost, NAV
when its buffer is full or a word 10 has been written (13 R560, R564, R565). -/
def State.outWrite (s : State) (o : GOut) (d : Desc) : State :=
  let s1 := s.storeWords (s.outAt o d) (o.fit d)
  match o.chan with
  | 0 => s1.finish d stOk (BitVec.ofNat 32 d.snapBytes)
  | 2 =>
    s1.finishHanded 6 2 stOk
      (BitVec.ofNat 32 ((o.fit d).length / 8 + (if (o.fit d).length < o.words.length then 256 else 0)))
  | _ =>
    let k := s.gnss.navCount + 1
    if k * 16 ≥ d.len ∨ o.no = 10 then (s1.finishHanded 6 3 stOk (BitVec.ofNat 32 k)).setGnss { s1.gnss with navCount := 0 }
    else s1.setGnss { s1.gnss with navCount := k }

/-- Produced records whose write goes wrong: their descriptor completes with that status (03 R139). -/
def State.outRefuse (s : State) (o : GOut) (d : Desc) (st : Nat) : State :=
  match o.chan with
  | 0 => s.refuse d st
  | 2 => (s.unhand 6 2).refuse d st
  | _ => ((s.unhand 6 3).refuse d st).setGnss { s.gnss with navCount := 0 }

/-- The records produced are written in their order, each judged where it is written (03 R139); one that waits for the burst island holds up
those behind it. With no descriptor handed a record is dropped (13 R566). -/
def State.outDrain (s0 : State) : List GOut → State
  | [] => s0.setGnss { s0.gnss with out := [] }
  | o :: r =>
    let s := if o.desc.isSome then s0 else s0.gnssFill o.chan (s0.waiting 6 o.chan)
    match s.outDesc o with
    | none => State.outDrain (s.noBuf 6 o.chan) r
    | some d =>
      match (s.engView 6 o.chan).engWrite (s.outAt o d) (4 * (o.fit d).length) with
      | .wait light => ((s.holdAccess 6 o.chan).engWait light).setGnss { s.gnss with out := o :: r }
      | .bad st => State.outDrain ((s.dropAccess 6 o.chan).outRefuse o d st) r
      | .ok => State.outDrain ((s.dropAccess 6 o.chan).outWrite o d) r

/-- Records that wait are written as far as they can be. -/
def State.outGo (s : State) : State := if s.gnss.out.isEmpty then s else s.outDrain s.gnss.out

/-- Records are produced, behind those that wait already. -/
def State.outPut (s : State) (o : GOut) : State := s.outDrain (s.gnss.out ++ [o])

/-- The samples of a whole capture (13 R559): those that the operand does not give are free values. -/
def snapSamples (free n : Nat) (l : List Byte) : List Byte := l.take n ++ (List.range (n - l.length)).map (Config.sample free)

/-- SNAP_END (13 R558 to R560): after the last sample the record is written and the descriptor completes. -/
def execSnapEnd (samples : List Byte) (s : State) : Res :=
  match s.gnss.snap with
  | none => ok s
  | some x =>
    if !x.capturing || x.left != 0 || !s.gnssDrains then ok s
    else
      let s1 := if samples.length < x.desc.snapBytes then s.snapGone.fresh else s.snapGone
      ok ((s1.putSamples (x.desc.opd 4) (snapSamples s.free x.desc.snapBytes samples)).outPut
        ⟨0, some x.desc, List.zipWith TWord.mk x.w snapTags, 0⟩)

/-- The bytes a snapshot has captured so far, to whole epochs. -/
def Snap.captured (x : Snap) : Nat := if x.capturing then (x.desc.opd 5 - x.left) * 2046 else 0

/-- A snapshot that ends early with a status and RESULT = bytes captured (13 R579, R581); what those bytes are is free. -/
def State.snapCut (s : State) (status : Nat) : State :=
  match s.gnss.snap with
  | none => s
  | some x =>
    ((s.snapGone.putSamples (x.desc.opd 4) ((List.range x.captured).map (Config.sample s.free))).fresh).finish x.desc status
      (BitVec.ofNat 32 x.captured)

/-! ### Tracking channels -/

/-- The checks of a CHAN 1 descriptor (13 R576, R580). -/
def State.trackCheck (s : State) (d : Desc) : Option Nat :=
  let w4 := d.opd 4
  let w7 := d.opd 7
  let start := d.op == 1
  let prn := w4 / 256 % 64
  if !(d.op == 1 || d.op == 2) || d.uflags != 0 || d.uparam != 0 || d.lenTop != 0 || d.buf != 0 || d.len != 0 ||
      (start && (w4 / 16 % 16 != 0 || 2 ^ 14 ≤ w4 || prn == 0 || prn > 32 || 2 ^ 26 ≤ d.opd 5 || w7 / 1024 % 64 != 0 || 2 ^ 24 ≤ w7 ||
        w7 % 1024 > 512 || w7 / 65536 > 40)) ||
      (!start && (16 ≤ w4 || d.opd 5 != 0 || d.opd 6 != 0 || w7 != 0)) then some stBadOp
  else if start && !s.flag F.GNS_FE_EN then some gsFeOff
  else if !s.flag F.GNS_STAT_TCXOOK then some gsTcxo
  else if start && (s.chan (Fin.ofNat 16 w4)).st != .idle then some gsChBusy
  else if !start && (s.chan (Fin.ofNat 16 w4)).st == .idle then some gsNoCh else none

/-- The epochs that a search lasts at most (13 R562). -/
def searchEpochs (codeHalf dopHalf acqnc : Nat) : Nat := (4 * codeHalf + 1) * (2 * dopHalf + 1) * acqnc

/-- START's work (13 R562, Table 13.4). -/
def State.startRun (s : State) (d : Desc) : State :=
  let code := d.opd 7 % 1024
  let dop := d.opd 7 / 65536
  let obs := { GnssChan.none with codePhase := BitVec.ofNat 26 (d.opd 5), doppler := (vget d.w 6).data }
  let c := { GChan.idle with st := if code = 0 ∧ dop = 0 then .pull else .search, prn := d.opd 4 / 256 % 64, obs := obs,
                             searchLeft := searchEpochs code dop (s.fld F.GNS_LOOP_ACQNC) }
  (s.setChan (Fin.ofNat 16 (d.opd 4)) c).finish d stOk 0

/-- STOP's work. -/
def State.stopRun (s : State) (d : Desc) : State := (s.setChan (Fin.ofNat 16 (d.opd 4)) GChan.idle).finish d stOk 0

/-- The engine takes a CHAN 1 descriptor of one operation code, or of a code that is none. -/
def State.trackTake (s : State) (op : Nat) (work : State → Desc → State) : State :=
  s.takeWith 6 1 (fun d => d.op == op || !(d.op == 1 || d.op == 2)) (fun t d =>
    match t.trackCheck d with
    | some st => t.refuse d st
    | none => work t d)

/-- START (13 R562). -/
def execStart (s : State) : Res := ok (s.trackTake 1 State.startRun)
/-- STOP (13 R562). -/
def execStop (s : State) : Res := ok (s.trackTake 2 State.stopRun)

/-- A channel set IDLE with a notice. -/
def State.chanEnd (s : State) (n : Fin 16) (code : Nat) : State :=
  (s.setChan n GChan.idle).gnssNotice code n.val (s.chan n).prn

/-- Bit sync at the end of 2 s (13 R563): one offset holds at least 80 % of the sign changes. -/
def bitSyncFound (hist : List Nat) : Bool := hist.sum != 0 && hist.any (fun x => 5 * x ≥ 4 * hist.sum)

/-- The histogram with one more millisecond. -/
def GChan.histNext (c : GChan) (edge : Bool) : List Nat :=
  let h := if c.hist.isEmpty then List.replicate 20 0 else c.hist
  if edge then h.set (c.histMs % 20) (h.getD (c.histMs % 20) 0 + 1) else h

/-- A channel that tracks, one epoch on: lock counters, loss counter, bit sync (13 R562, R563). -/
def State.pullStep (s : State) (n : Fin 16) (o : GnssChan) : State :=
  let c := s.chan n
  let hi := if 800 < o.lock then c.hiMs + 1 else 0
  let lo := if o.lock < 500 then c.loMs + 1 else 0
  let loss := if o.cn0.toNat < s.fld F.GNS_LOSS_LOSSCN then c.lossMs + 1 else 0
  if s.fld F.GNS_LOSS_LOSSMS * 10 ≤ loss then s.chanEnd n 0x03
  else
    let st := if c.st = .pull ∧ 20 ≤ hi then .track else if c.st = .track ∧ 20 ≤ lo then .pull else c.st
    let h := c.histNext o.bitEdge
    let full := c.histMs + 1 = 2000
    let sync := full && !c.bitSync && bitSyncFound h
    let c1 := { c with st := st, obs := o, hiMs := if st = c.st then hi else 0, loMs := if st = c.st then lo else 0, lossMs := loss,
                       hist := if full then [] else h, histMs := if full then 0 else c.histMs + 1, bitSync := c.bitSync || sync }
    let s1 := s.setChan n c1
    if sync then s1.gnssNotice 0x04 n.val c.prn else s1

/-- A channel at an epoch boundary (13 Table 13.4). -/
def State.chanStep (s : State) (e : GnssEpoch) (n : Fin 16) : State :=
  let c := s.chan n
  let o := e.chans.getD n.val GnssChan.none
  match c.st with
  | .idle => s
  | .search =>
    if s.fld F.GNS_LOOP_ACQTH ≤ o.cn0.toNat then (s.setChan n { c with st := .pull, obs := o }).gnssNotice 0x01 n.val c.prn
    else if e.searchEnd.getLsbD n.val || c.searchLeft ≤ 1 then s.chanEnd n 0x02
    else s.setChan n { c with obs := o, searchLeft := c.searchLeft - 1 }
  | _ => s.pullStep n o

/-! ### Measurement and navigation records -/

/-- A measurement record (13 Table 13.5). HALF stands until word sync, PLLLOCK while the channel tracks (log 37). -/
def State.measRecord (s : State) (n : Fin 16) (sub : BitVec 9) : List TWord :=
  let c := s.chan n
  [⟨BitVec.ofNat 32 (n.val + c.prn * 2 ^ 4 + c.st.num * 2 ^ 10 + (if c.bitSync then 2 ^ 12 else 0) + (if c.wordSync then 2 ^ 13 else 0) +
      (if c.st = .track then 2 ^ 14 else 0) + (if c.wordSync then 0 else 2 ^ 15) + c.obs.cn0.toNat * 2 ^ 16), .int⟩,
    ⟨BitVec.ofNat 32 (c.obs.codePhase.toNat + (if c.bitSync then c.obs.msInBit.val * 2 ^ 26 else 0)), .int⟩, ⟨c.obs.doppler, .int⟩,
    ⟨c.obs.carrier, .int⟩, ⟨s.tick32, .time⟩, ⟨sub.setWidth 32, .int⟩, ⟨BitVec.ofNat 32 (s.fld F.GNS_EPOCH_EPOCH), .int⟩, ⟨0, .int⟩]

/-- The measurement latch (13 R564): the records of the channels that are not IDLE go to the handed buffer. With none there is nothing to
write and the buffer stays (log 38). -/
def State.measLatch (s : State) (sub : BitVec 9) : State :=
  let l := (indices 16).filter (fun n => (s.chan n).st != .idle)
  if l.isEmpty then s else s.outPut ⟨2, none, l.flatMap (fun n => s.measRecord n sub), 0⟩

/-- MEAS (13 R564). -/
def execMeas (s : State) : Res := ok (s.gnssBuf 2)
/-- NAV (13 R565). -/
def execNav (s : State) : Res := ok (s.gnssBuf 3)
/-- GNSS_NOTE (13 R555, R566). -/
def execGnssNote (s : State) : Res := ok (s.gnssBuf 4)

/-- The source-bit numbers that enter parity bits D25 to D30 (IS-GPS-200, named by 13 R565; log 39), and whether D30* is the carried bit. -/
def parityRows : List (Bool × List Nat) :=
  [(false, [1, 2, 3, 5, 6, 10, 11, 12, 13, 14, 17, 18, 20, 23]), (true, [2, 3, 4, 6, 7, 11, 12, 13, 14, 15, 18, 19, 21, 24]),
    (false, [1, 3, 4, 5, 7, 8, 12, 13, 14, 15, 16, 19, 20, 22]), (true, [2, 4, 5, 6, 8, 9, 13, 14, 15, 16, 17, 20, 21, 23]),
    (true, [1, 3, 5, 6, 7, 9, 10, 14, 15, 16, 17, 18, 21, 22, 24]), (false, [3, 5, 6, 8, 9, 10, 11, 13, 15, 19, 22, 23, 24])]

/-- The syndrome of a navigation word, D25's bit uppermost (13 R565). -/
def navSyndrome (w : BitVec 30) (d29 d30 : Bool) : BitVec 6 :=
  let src (i : Nat) : Bool := w.getLsbD (30 - i) != d30
  let par : BitVec 6 := parityRows.foldl (fun (acc : BitVec 6) r =>
    let p := r.2.foldl (fun x i => x != src i) (if r.1 then d30 else d29)
    (acc <<< 1) ||| (if p then 1#6 else 0#6)) 0#6
  par ^^^ w.extractLsb' 0 6

/-- The TLM preamble or its inverse in D1 to D8 (13 R563). -/
def navPreamble (w : BitVec 30) : Bool := w.extractLsb' 22 8 == 0x8B#8 || w.extractLsb' 22 8 == 0x74#8

/-- A navigation word record (13 Table 13.6). -/
def State.navRecord (s : State) (n : Fin 16) (w : BitVec 30) (d29 d30 : Bool) (no : Nat) (sub : BitVec 9) : List TWord :=
  [⟨BitVec.ofNat 32 (w.toNat + (if d29 then 2 ^ 30 else 0) + (if d30 then 2 ^ 31 else 0)), .int⟩,
    ⟨BitVec.ofNat 32 ((navSyndrome w d29 d30).toNat + no * 2 ^ 6 + n.val * 2 ^ 10 + (s.chan n).prn * 2 ^ 14), .int⟩,
    ⟨s.tick32, .time⟩, ⟨sub.setWidth 32, .int⟩]

/-- A navigation record goes to the handed buffer (13 R565). -/
def State.navPut (s : State) (r : List TWord) (no : Nat) : State := s.outPut ⟨3, none, r, no⟩

/-- Word sync as a channel without it moves on (13 R563): the preamble, then two words that pass. -/
def GChan.seekWord (c : GChan) (w : BitVec 30) (pass : Bool) : GChan :=
  match c.good with
  | none => if navPreamble w then { c with good := some 0 } else c
  | some k =>
    if pass then (if k + 1 = 2 then { c with good := none, wordSync := true, word := 3, bad := 0 } else { c with good := some (k + 1) })
    else { c with good := if navPreamble w then some 0 else none }

/-- NAV_WORD (13 R563, R565): a channel that tracks with bit sync finishes a word. -/
def execNavWord (ch : Fin 16) (word : BitVec 30) (d29 d30 : Bool) (tcxoSub : BitVec 9) (s : State) : Res :=
  let c := s.chan ch
  if !s.gnssUp || !s.flag F.GNS_STAT_FERDY || !(c.st == .pull || c.st == .track) || !c.bitSync then ok s
  else
    let pass := navSyndrome word d29 d30 == 0
    if c.wordSync then
      let no := c.word % 10 + 1
      let bad := if pass then 0 else c.bad + 1
      let c1 := if bad = 3 then { c with wordSync := false, bad := 0, good := none, word := 0 } else { c with bad := bad, word := no }
      ok ((s.navPut (s.navRecord ch word d29 d30 no tcxoSub) no).setChan ch c1)
    else
      let c1 := c.seekWord word pass
      let s1 := s.setChan ch c1
      ok (if c1.wordSync then s1.gnssNotice 0x05 ch.val c.prn else s1)

/-! ### The epoch -/

/-- The snapshot in hand at an epoch boundary: one more epoch waited, or captured. -/
def State.snapStep (s : State) : State :=
  match s.gnss.snap with
  | none => s
  | some x =>
    s.setGnss { s.gnss with snap := some (if x.capturing then { x with left := x.left - 1 } else { x with waited := x.waited + 1 }) }

/-- The GNS set committed with the ranges of Table 13.9 (13 R576). -/
def State.gnsCommit (s : State) : State :=
  let s1 := s.commitAll .gns
  ((s1.clampRange F.GNS_MEAS_PERIOD 1 1000 F.GNS_STAT_CLAMP).clampRange F.GNS_LOSS_LOSSMS 1 255 F.GNS_STAT_CLAMP).clampRange
    F.GNS_LOOP_ACQNC 1 15 F.GNS_STAT_CLAMP

/-- A sealed GNS set commits at an epoch boundary, that after the last sample where a snapshot is being captured (13 R584, Table 13.10). -/
def State.gnsEdge (s : State) : State :=
  let free := match s.gnss.snap with | some x => !x.capturing || x.left ≤ 1 | none => true
  if s.sealPend .gns && free then s.gnsCommit else s

/-- EPOCH_BOUNDARY (13 R548, R549, R551 to R554, R557, R562 to R564, Table 13.10). A snapshot whose boundary was the last one has begun at that. -/
def execEpochBoundary (obs : GnssEpoch) (s00 : State) : Res :=
  let s0 := s00.snapBegin
  let s := s0.gnsEdge
  if !s0.gnssDrains || !s0.flag F.GNS_STAT_FERDY then ok s0
  else
    let s1 := s.setFld F.GNS_EPOCH_EPOCH (s.fld F.GNS_EPOCH_EPOCH + 1)
    let s2 := s1.setFld F.GNS_STAT_GAIN (if s.flag F.GNS_FE_AGCMAN then s.fld F.GNS_FE_GAIN else obs.gain)
    let s3 := ((indices 4).foldl (fun acc n => acc.notchStep obs.notch n) s2).jnStep
    let s4 := ((indices 16).foldl (fun acc n => acc.chanStep obs n) s3).snapStep
    let s5 := s4.setGnss { s4.gnss with lastTick := s4.tick32, lastTcxo := obs.tcxoSub }
    ok (if s5.fld F.GNS_EPOCH_EPOCH % max 1 (s5.fld F.GNS_MEAS_PERIOD) = 0 then s5.measLatch obs.tcxoSub else s5)

end Sys2Proof.Machine
end

