-- ==== Sys2Proof/Machine/Pps.lean ====
section
/-! DEFINITION. The 1 PPS generator and its holdover (13 R567 to R575, R577), the TCXO check (R579) and the island's two ends (R581 to
R583). -/

namespace Sys2Proof.Machine

/-- The states of Table 13.8. -/
abbrev ppsOff : Nat := 0
abbrev ppsFree : Nat := 1
abbrev ppsLocked : Nat := 2
abbrev ppsHold : Nat := 3
abbrev ppsExpired : Nat := 4

/-- GNS_PPSSTAT.STATE. -/
def State.ppsState (s : State) : Nat := s.fld F.GNS_PPSSTAT_STATE
/-- The state with the generator's record replaced. -/
def State.setPps (s : State) (p : Pps) : State := s.setGnss { s.gnss with pps := p }

/-- A change of state posts its notice (13 R567). -/
def State.ppsGo (s : State) (st : Nat) : State := (s.setFld F.GNS_PPSSTAT_STATE st).gnssNote 0x06 st

/-- GNS_PPSERR at a bound in 1/256 ns (13 R573). -/
def State.showBound (s : State) (b : Nat) : State := s.setFld F.GNS_PPSERR_ERR (min 0xFFFFFFFE (b / 256))

/-- No bound is known (13 Table 13.8). -/
def State.noBound (s : State) : State := s.setFld F.GNS_PPSERR_ERR 0xFFFFFFFF

/-- The generator starts in FREE (13 R567, R583). -/
def State.ppsStart (s : State) : State := ((s.setPps Pps.off).noBound.clrFld F.GNS_PPSSTAT_COARSE).ppsGo ppsFree

/-- The generator is OFF. -/
def State.ppsStop (s : State) : State :=
  if s.ppsState = ppsOff then s else ((s.setPps Pps.off).noBound.clrFld F.GNS_PPSSTAT_COARSE).ppsGo ppsOff

/-- Whether GNSS_PPS is high (13 R575, R583, At the boundary): during a pulse, which lasts WIDTH ms, where POL = 0, outside one where POL = 1;
low on a part without the unit. -/
def State.ppsPin (s : State) : Bool :=
  let width := s.fld F.GNS_PPSCTL_WIDTH * 32768 * 65536 / 1000
  let pulse := match s.gnss.pps.edge with
    | none => false
    | some e => s.ppsDriven && s.timeBase.toNat < e + width
  s.has .gnss && (pulse != s.flag F.GNS_PPSCTL_POL)

/-- A write to GNS_PPSCTL (13 R567, R575, R576): EN starts or stops the generator; WIDTH is limited at once. -/
def State.ppsCtl (s : State) (v : Word) : State :=
  let w := fldGet v F.GNS_PPSCTL_WIDTH
  let s1 := (((s.setFld F.GNS_PPSCTL_EN (fldGet v F.GNS_PPSCTL_EN)).chanArms s 6 4).setFld F.GNS_PPSCTL_POL (fldGet v F.GNS_PPSCTL_POL)).setFld
    F.GNS_PPSCTL_HMODE (fldGet v F.GNS_PPSCTL_HMODE)
  let s2 := s1.setFld F.GNS_PPSCTL_WIDTH (clamp 1 200 w)
  let s3 := if clamp 1 200 w = w then s2 else s2.setBit F.GNS_STAT_CLAMP
  if v.getLsbD 0 then (if s3.ppsState = ppsOff ∧ s3.lit .gnss then s3.ppsStart else s3)
  else (if s.flag F.GNS_PPSCTL_EN then s3.touch .gnss else s3).ppsStop

/-- Whether a write to the GNS block acts (03 R126). -/
def State.gnsWrites (s : State) : Bool := s.steadyRuns && s.has .gnss

/-- PPS_ENABLE (13 R567). -/
def execPpsEnable (value : Word) (s : State) : Res := ok (if s.gnsWrites then s.ppsCtl value else s)

/-- A write to GNS_PPSFIX (13 R569): B_0 is ACC + 61 ns and the TIMEOUT count restarts; LOCKED follows at the next edge. -/
def State.ppsFixWrite (s : State) (v : Word) : State :=
  if !v.getLsbD 31 || s.ppsState = ppsOff then s
  else
    let b := v.toNat % 65536 + 61
    let p := s.gnss.pps
    if s.ppsState = ppsLocked then (s.setPps { p with bound := b * 256, sinceFix := 0 }).showBound (b * 256)
    else s.setPps { p with fix := some b, sinceFix := 0 }

/-- PPS_FIX (13 R569). -/
def execPpsFix (value : Word) (s : State) : Res := ok (if s.gnsWrites then s.ppsFixWrite value else s)

/-- A write to GNS_PPSADJ (13 R568, R577). -/
def State.ppsAdjWrite (s : State) (v : Word) : State :=
  s.setPps { s.gnss.pps with adj := max (-8184000) (min 8184000 v.toInt) }

/-- PPS_ADJ (13 R568). -/
def execPpsAdj (value : Word) (s : State) : Res := ok (if s.gnsWrites then s.ppsAdjWrite value else s)

/-- The length of the next period (13 R568, R571): TCXO cycles in FREE and LOCKED with the carried fraction and ADJ, 2^-40 ticks in
HOLDOVER. -/
def State.nextPeriod (s : State) : State :=
  let p := s.gnss.pps
  if s.ppsState = ppsHold then
    let drift : Int := if s.flag F.GNS_PPSSTAT_HVALID then (s.reg F.GNS_HDRIFT_DRIFT.addr).toInt else 0
    s.setPps { p with period := 32768 * (2 ^ 40 + drift) }
  else
    let total : Int := 16368000 * (2 ^ 40 + (s.reg F.GNS_PPSSTEER_STEER.addr).toInt) + p.carry
    s.setPps { p with period := total / 2 ^ 40 + p.adj, carry := total % 2 ^ 40, adj := 0 }

/-- AVG as it acts (13 Table 13.12). -/
def State.ppsAvg (s : State) : Nat := max 1 (s.fld F.GNS_HCTL_AVG)

/-- A quotient of integers, one that is not whole rounded to a free side. -/
def roundFree (free : Nat) (num : Int) (den : Nat) : Int :=
  if num % den = 0 then num / den else if Config.roundUp free then num / den + 1 else num / den

/-- HUNC of the last periods (13 R570): the largest deviation from their mean in ns per second, at least UFLOOR; one that the field cannot
hold reads as a free value. -/
def State.huncOf (s : State) (l : List Int) : Nat :=
  let n := l.length
  let dev := l.foldl (fun acc x => max acc (x * n - l.sum).natAbs) 0
  let u := max (s.fld F.GNS_HLIM_UFLOOR) (roundFree s.free (dev * 1000000000) (n * 2 ^ 40)).toNat
  if u < 65536 then u else (Config.measured s.free).toNat % 65536

/-- HDRIFT of the last periods (13 R570), as 32 signed bits; one they cannot hold reads as a free value. -/
def State.driftOf (s : State) (l : List Int) : Word :=
  let m := roundFree s.free l.sum l.length
  if -(2 ^ 31) ≤ m ∧ m < 2 ^ 31 then BitVec.ofInt 32 m else Config.measured s.free

/-- The statistics of LOCKED at a pulse (13 R570). -/
def State.ppsStats (s : State) (x : Int) : State :=
  let p := s.gnss.pps
  let l := (p.periods ++ [x])
  let l1 := l.drop (l.length - s.ppsAvg)
  let s1 := s.setPps { p with periods := l1, sinceFix := p.sinceFix + 1 }
  if l1.length < s.ppsAvg then s1
  else
    ((s1.fresh.setReg F.GNS_HDRIFT_DRIFT.addr (s1.driftOf l1)).setFld F.GNS_HUNC_U (s1.huncOf l1)).setBit F.GNS_PPSSTAT_HVALID

/-- A pulse of HOLDOVER (13 R573, R574): the bound grows, BOUNDX and the end of the pulses where LIMIT asks for them. -/
def State.holdPulse (s : State) : State :=
  let p := s.gnss.pps
  let u := if s.flag F.GNS_PPSSTAT_HVALID then s.fld F.GNS_HUNC_U else 20000
  let n := p.n + 1
  let b := p.bound + u * 256 + s.fld F.GNS_HCTL_WANDER * n
  let s1 := ((s.setPps { p with bound := b, n := n, sinceFix := p.sinceFix + 1 }).showBound b).satInc F.GNS_PPSSTAT_HSEC
  let lim := s.fld F.GNS_HLIM_LIMIT
  if lim ≠ 0 ∧ lim * 256000 < b then
    let s2 := (s1.setBit F.GNS_PPSSTAT_BOUNDX).gnssNote 0x07 (s1.fld F.GNS_PPSERR_ERR / 1000)
    if s.flag F.GNS_PPSCTL_HMODE then s2.ppsGo ppsExpired else s2
  else s1

/-- LOCKED at the edge after a FIX write (13 R567, Table 13.8). -/
def State.ppsLock (s : State) (b : Nat) : State :=
  let p := s.gnss.pps
  (((s.setPps { p with fix := none, bound := b * 256, periods := [], n := 0 }).showBound (b * 256)).clrFld F.GNS_PPSSTAT_COARSE).ppsGo
    ppsLocked

/-- A pulse goes out: GNSS_PPS, and the counters that it feeds (13 R567, R575; 08 R353, R359). -/
def State.ppsOut (s : State) : State :=
  if s.ppsDriven then (s.setPps { s.gnss.pps with edge := some s.timeBase.toNat }).ppsEdge else s

/-- LOCKED moves to HOLDOVER, whose periods are those of R571 (13 R567, R571, R572); without the TCXO the edges are coarse and the bound has 30,518
ns more. -/
def State.ppsHoldover (s : State) (coarse : Bool) : State :=
  let p := s.gnss.pps
  let b := if coarse then p.bound + 30518 * 256 else p.bound
  let s1 := ((s.setPps { p with n := 0, bound := b, periods := [] }).showBound b).clrFld F.GNS_PPSSTAT_HSEC
  ((if coarse then s1.setBit F.GNS_PPSSTAT_COARSE else s1).ppsGo ppsHold).nextPeriod

/-- Whether TIMEOUT seconds have passed in LOCKED without a FIX write (13 R567). -/
def State.fixOld (s : State) : Bool := s.fld F.GNS_HCTL_TIMEOUT ≤ s.gnss.pps.sinceFix

/-- PPS_PULSE (13 R567, R568, R570, R573, R574): an edge of the generator; `ticks40` is the excess of the period just over over 32,768 vigil
ticks, as a fraction in 2^-40. A generator whose TIMEOUT is over is in HOLDOVER by then. -/
def execPpsPulse (ticks40 : Int) (s0 : State) : Res :=
  let s := s0.ppsOut
  if !s0.gnssUp then ok s0
  else
    match s.gnss.pps.fix with
    | some b =>
      if s.ppsState = ppsFree ∨ s.ppsState = ppsHold ∨ s.ppsState = ppsExpired then ok (s.ppsLock b).nextPeriod else ok s
    | none =>
      match s.ppsState with
      | 1 => ok s.nextPeriod
      | 2 => if s.fixOld then ok (s.ppsHoldover (!s.flag F.GNS_STAT_TCXOOK)).holdPulse.nextPeriod else ok (s.ppsStats ticks40).nextPeriod
      | 3 => ok s.holdPulse.nextPeriod
      | _ => ok s

/-- HOLDOVER_ENTRY (13 R567): TIMEOUT seconds without a FIX write. -/
def execHoldoverEntry (s : State) : Res :=
  if s.gnssUp && s.ppsState == ppsLocked && s.fixOld then ok (s.ppsHoldover (!s.flag F.GNS_STAT_TCXOOK)) else ok s

/-- What a TCXO failure does to the generator (13 R572, R579). -/
def State.ppsTcxoFail (s : State) : State :=
  match s.ppsState with
  | 1 => s.ppsStop
  | 2 => s.ppsHoldover true
  | 3 =>
    if s.flag F.GNS_PPSSTAT_COARSE then s
    else
      let p := s.gnss.pps
      let b := p.bound + 30518 * 256
      ((s.setPps { p with bound := b }).showBound b).setBit F.GNS_PPSSTAT_COARSE
  | _ => s

/-- Every channel IDLE. -/
def State.chansIdle (s : State) : State := s.setGnss { s.gnss with chan := Vector.replicate 16 GChan.idle }

/-- TCXO_FAIL (13 R579): a tick held fewer than 400 or more than 600 TCXO cycles; each such tick has the whole effect. -/
def execTcxoFail (cycles : Nat) (s : State) : Res :=
  if s.gnssUp && (cycles < 400 || 600 < cycles) then
    let s1 := ((s.setBit F.GNS_STAT_TCXOFAIL).clrFld F.GNS_STAT_TCXOOK).frontEndOff.chansIdle
    ok (((s1.snapCut gsTcxo).ppsTcxoFail).gnssNote 0x0A 0)
  else ok s

/-- TCXO_RETURN (13 R579): TCXOOK is set; the front end restarts (FERDY). -/
def execTcxoReturn (s : State) : Res := if s.gnssUp then ok (s.setBit F.GNS_STAT_TCXOOK) else ok s

/-- The island has just been lit (13 R549, R583): the TCXO is taken as good until a tick shows otherwise (log 40). -/
def State.gnssLit (s : State) : State :=
  let s1 := (s.setBit F.GNS_STAT_TCXOOK).frontEndOff
  if s1.flag F.GNS_PPSCTL_EN then s1.ppsStart else s1

/-- Step 5 of a quiesce at its end (13 R581). -/
def State.gnssQuiesce (s : State) : State :=
  let k := s.gnss.navCount
  let cut := (s.gnss.out.filterMap (·.desc)).foldl (fun acc d => State.finish acc d stCutoff (BitVec.ofNat 32 d.snapBytes)) s
  let s1 := cut.snapCut stCutoff
  let s2 := (s1.finishHanded 6 2 stCutoff 0).finishHanded 6 3 stCutoff (BitVec.ofNat 32 k)
  let s3 := s2.chansIdle.ppsStop.frontEndOff
  s3.setGnss { s3.gnss with pps := Pps.off, navCount := 0, out := [] }

/-- The GNSS island after its reset: HDRIFT, HUNC and HVALID stay (13 R582), the contents of capture RAM do not (03 R143). -/
def State.gnsReset (s0 : State) : State :=
  let s : State := { s0 with mem := s0.mem.clear Region.gnss.holds }
  let h := s.fld F.GNS_PPSSTAT_HVALID
  let s1 := s.resetRegs (fun a => a / 0x1000 == 0x4000F && a != F.GNS_HDRIFT_DRIFT.addr && a != F.GNS_HUNC_U.addr)
  (s1.setFld F.GNS_PPSSTAT_HVALID h).setGnss Gnss.reset

end Sys2Proof.Machine
end

