-- ==== Sys2Proof/Machine/RingCmds.lean ====
section
/-! DEFINITION. The commands of the queue engine (06): a ring's configuration, its draining, completions. -/

namespace Sys2Proof.Machine

/-- The configuration fields of QUE_RCFG as a write leaves them while the ring is OFF (06 R288). -/
def State.rcfgFields (s : State) (n : RingId) (v : Word) : State :=
  ((s.setFld (F.QUE_RCFG_TAGCHK n.val) (fldGet v (F.QUE_RCFG_TAGCHK n.val))).setFld (F.QUE_RCFG_UNIT n.val)
    (fldGet v (F.QUE_RCFG_UNIT n.val))).setFld (F.QUE_RCFG_CHAN n.val) (fldGet v (F.QUE_RCFG_CHAN n.val))

/-- A write to QUE_RCFG (06 R257, R277, R288): while OFF it sets the fields and EN = 1 enables; while ON only EN = 0 acts, and while
DRAINING nothing does. -/
def State.rcfgWrite (s : State) (n : RingId) (v : Word) : State :=
  if s.ringState n = ringOff then
    (if v.getLsbD 0 then (s.rcfgFields n v).ringEnable n else s.rcfgFields n v)
  else if v.getLsbD 0 then s else s.ringDisable n

/-- A write to QUE_RHDR (06 R288). -/
def State.rhdrWrite (s : State) (n : RingId) (v : Word) : State :=
  if s.ringState n = ringOff then s.setFld (F.QUE_RHDR_ADDR n.val) (fldGet v (F.QUE_RHDR_ADDR n.val)) else s

/-- RING_ENABLE (06 R257 to R259): a write of QUE_RCFG with EN = 1. -/
def execRingEnable (n : RingId) (value : Word) (s : State) : Res := ok (if s.steadyRuns then s.rcfgWrite n (value ||| 1#32) else s)

/-- RING_DISABLE (06 R277). -/
def execRingDisable (n : RingId) (s : State) : Res := ok (if s.steadyRuns then s.ringDisable n else s)

/-- RING_DRAIN_END (06 R277). -/
def execRingDrainEnd (n : RingId) (s : State) : Res := ok (if s.on then s.ringDrained n else s)

/-- COMPLETION_WRITE (06 R271 to R273, R276, R283; 01 R34): the oldest completion of the ring's island. -/
def execCompletionWrite (n : RingId) (s : State) : Res := ok (if s.queueUp && s.inOrder n then s.completed n else s)

/-- A write of 1 to QUE_OVP.CLR (06 R288). -/
def State.queOvpClr (s : State) : State := s.clrFld F.QUE_OVP_COUNT

/-- QUE_OVP_CLR (06 R288). -/
def execQueOvpClr (s : State) : Res := ok (if s.steadyRuns then s.queOvpClr else s)

end Sys2Proof.Machine
end

