-- ==== Sys2Proof/Machine/TagBus.lean ====
section
/-! DEFINITION. The tag bus (15): fobs, lines, searches with their inventory table and records, presence checks, single checks. -/

namespace Sys2Proof.Machine

/-- Status codes of R634. -/
abbrev tsLineOff : Nat := 0x20
abbrev tsLineShort : Nat := 0x21
abbrev tsNoDelta : Nat := 0x22

/-- The state with the tag bus's record replaced. -/
def State.setTag (s : State) (t : TagBus) : State := { s with tag := t }
/-- A line. -/
def State.line (s : State) (l : Fin 4) : TagLine := vget s.tag.lines l
/-- The state with a line replaced. -/
def State.setLine (s : State) (l : Fin 4) (x : TagLine) : State := s.setTag { s.tag with lines := vset s.tag.lines l x }
/-- Whether a line is enabled. -/
def State.lineOn (s : State) (l : Fin 4) : Bool := s.flag (F.TAG_LCFG_EN l.val)

/-- One byte step of the CRC-8 with polynomial 0x9B, no reflection (15 R614). -/
def crc9bByte (c b : Byte) : Byte :=
  (List.range 8).foldl (fun x _ => if x.getLsbD 7 then (x <<< 1) ^^^ 0x9B#8 else x <<< 1) (c ^^^ b)

/-- The check code of an identity (15 R614): over its bytes from ID[63:56] down, initial value 0xFF. -/
def checkCode (id : BitVec 64) : Byte := (List.range 8).foldl (fun c i => crc9bByte c (id.extractLsb' (56 - 8 * i) 8)) 0xFF#8

/-- 2 ms in whole ticks, rounded up. -/
abbrev twoMs : Nat := 66

/-! ### Fobs -/

/-- A fob's power begins (15 R614). -/
def Fob.power (now : Nat) (f : Fob) : Fob := { f with since := now, armed := false }

/-- A fob at the rising edge that ends a search-start pulse (15 R615). -/
def Fob.arm (now : Nat) (f : Fob) : Fob := if twoMs ≤ now - f.since then { f with armed := true } else f

/-- FOB_ATTACHED (15 R614, R615). -/
def execFobAttached (l : Fin 4) (id : BitVec 64) (code : BitVec 8) (s : State) : Res :=
  let x := s.line l
  ok (s.setLine l { x with fobs := x.fobs ++ [⟨id, code, s.now, false⟩] })

/-- A fob pulled from a line. -/
def State.pullFob (s : State) (l : Fin 4) (id : BitVec 64) : State :=
  let x := s.line l
  s.setLine l { x with fobs := x.fobs.filter (fun f => f.id != id) }

/-- FOB_REMOVED (15 R615). -/
def execFobRemoved (l : Fin 4) (id : BitVec 64) (s : State) : Res := ok (s.pullFob l id)

/-- A line that the engine had stopped driving is driven again (15 R638): its fobs begin to charge. -/
def State.driveAgain (s : State) (l : Fin 4) : State :=
  let x := s.line l
  if x.undriven then s.setLine l { x with fobs := x.fobs.map (Fob.power s.now), undriven := false } else s

/-- A search-start pulse on a line (15 R615, R617, R638). -/
def State.startPulse (s : State) (l : Fin 4) : State :=
  let s1 := s.driveAgain l
  let x := s1.line l
  s1.setLine l { x with fobs := x.fobs.map (Fob.arm s.now) }

/-! ### Enabling a line -/

/-- A write of 1 to EN while EN = 0 (15 R613, R616, R642). -/
def State.lineEnable (s : State) (l : Fin 4) : State :=
  if s.lineOn l || !inSram (s.fld (F.TAG_LINV_ADDR l.val) * 16) 1024 then s
  else
    let x := s.line l
    let s1 := (((s.setBit (F.TAG_LCFG_EN l.val)).chanArms s 8 1).clrFld (F.TAG_LSTAT_COUNT l.val)).clrFld (F.TAG_PSIG_SIG l.val)
    let due := s.now * 100 + max 1 (s.fld (F.TAG_PRES_PER l.val)) * 32768
    s1.setLine l { x with fobs := x.fobs.map (Fob.power s.now), since := s.now, presDue := due, deferred := false, undriven := false }

/-- A write of 0 to EN: the line is held low and its fobs lose their power (15 R613); a presence check in progress finds none of them. -/
def State.lineDisable (s : State) (l : Fin 4) : State :=
  let x := s.line l
  (s.clrFld (F.TAG_LCFG_EN l.val)).setLine l { x with fobs := x.fobs.map Fob.unpower }

/-- A write to TAG_LCFG (15 R642). -/
def State.lcfgWrite (s : State) (l : Fin 4) (v : Word) : State := if v.getLsbD 0 then s.lineEnable l else s.lineDisable l

/-- Whether a write to the TAG block acts (03 R126). -/
def State.tagWrites (s : State) : Bool := s.steadyRuns && s.has .tag

/-- LINE_ENABLE (15 R642). -/
def execLineEnable (l : Fin 4) (s : State) : Res := ok (if s.tagWrites then s.lineEnable l else s)

/-! ### The inventory table -/

/-- The address of a line's table (15 R623). -/
def State.tableAt (s : State) (l : Fin 4) : Nat := s.fld (F.TAG_LINV_ADDR l.val) * 16
/-- COUNT. -/
def State.tableCount (s : State) (l : Fin 4) : Nat := s.fld (F.TAG_LSTAT_COUNT l.val)

/-- The four words of entry `i`. -/
def State.entryWords (s : State) (l : Fin 4) (i : Nat) : List Word := (List.range 4).map (fun k => s.word (s.tableAt l + 16 * i + 4 * k))
/-- The identity of an entry's words. -/
def entryId (w : List Word) : BitVec 64 := w.getD 1 0 ++ w.getD 0 0
/-- A line's entries in order. -/
def State.table (s : State) (l : Fin 4) : List (List Word) := (List.range (s.tableCount l)).map (s.entryWords l)

/-- Entries written from entry `k` on, and a new count; every word tagged INT. -/
def State.putTable (s : State) (l : Fin 4) (k : Nat) (t : List (List Word)) (count : Nat) : State :=
  (s.storeWords (s.tableAt l + 16 * k) (t.flatten.map (fun w => ⟨w, .int⟩))).setFld (F.TAG_LSTAT_COUNT l.val) count

/-- Whether some word of the first `n` of each entry from entry `k` on fails its parity check, so that it gives the engine no data (03 R140). -/
def State.tableBad (s : State) (l : Fin 4) (k n : Nat) : Bool :=
  (List.range (s.tableCount l - k)).any (fun i => (List.range n).any (fun j => s.mem.parityBad (s.tableAt l + 16 * (k + i) + 4 * j)))

/-- The number of entries below an identity: its place in the table (15 R623). -/
def State.tablePlace (s : State) (l : Fin 4) (id : BitVec 64) : Nat :=
  ((s.table l).filter (fun w => (entryId w).toNat < id.toNat)).length

/-- SSEQ. -/
def State.sseq (s : State) (l : Fin 4) : Nat := s.fld (F.TAG_LSTAT_SSEQ l.val)

/-- An entry inserted at its place (15 R623, R624): those above it move up. -/
def State.tableInsert (s : State) (l : Fin 4) (id : BitVec 64) (code : Nat) : State :=
  let t := s.table l
  let k := s.tablePlace l id
  let e : List Word := [id.extractLsb' 0 32, id.extractLsb' 32 32, BitVec.ofNat 32 code, BitVec.ofNat 32 (s.sseq l)]
  s.putTable l k (e :: t.drop k) (t.length + 1)

/-- An entry deleted (15 R624): those above it move down. -/
def State.tableDelete (s : State) (l : Fin 4) (id : BitVec 64) : State :=
  let t := s.table l
  let k := s.tablePlace l id
  if (t[k]?).map entryId = some id then s.putTable l k (t.drop (k + 1)) (t.length - 1) else s

/-- An identity found again: word 3 takes SSEQ (15 R624). -/
def State.tableTouch (s : State) (l : Fin 4) (id : BitVec 64) : State :=
  match (List.range (s.tableCount l)).find? (fun i => entryId (s.entryWords l i) == id) with
  | none => s
  | some i => s.storeWord (s.tableAt l + 16 * i + 12) ⟨BitVec.ofNat 32 (s.sseq l), .int⟩

/-! ### Records -/

/-- The words of a record (15 Table 15.2). -/
def State.tagRecWords (s : State) (l : Fin 4) (r : TagRec) : List TWord :=
  [⟨BitVec.ofNat 32 (r.kind + l.val * 16 + r.depth * 64 + s.sseq l * 65536), .int⟩, ⟨r.id.extractLsb' 0 32, .int⟩,
    ⟨r.id.extractLsb' 32 32, .int⟩, ⟨BitVec.ofNat 32 r.code, .int⟩]

/-- The checks of a RECV (15 R630, R634). -/
def State.tagRecvCheck (s : State) (d : Desc) : Option Nat :=
  if d.op != 0x10 || d.uflags != 0 || d.uparam != 0 || d.lenTop != 0 || d.opd 4 != 0 || d.opd 5 != 0 || d.opd 6 != 0 || d.opd 7 != 0 then
    some stBadOp
  else if s.dtagBad d then some stDtag
  else if d.len < 16 || d.len > 1024 || d.len % 16 != 0 then some stLen
  else if d.buf % 4 != 0 || !inSramVigil d.buf d.len then some stAddrErr else none

/-- A RECV is handed, or refused; one at a time (15 R630). -/
def State.tagRecv (s : State) : State :=
  if (s.handedTo 8 1).isSome then s
  else
    s.takeWith 8 1 (fun _ => true) (fun t d =>
      match t.tagRecvCheck d with
      | some st => t.refuse d st
      | none => (t.setTag { t.tag with written := 0 }).hand 8 1 d)


/-- The handed RECV completes with the records written to it, if it holds any (15 R632). -/
def State.recvDone (s : State) (status : Nat) : State :=
  if s.tag.written = 0 then s
  else (s.finishHanded 8 1 status (BitVec.ofNat 32 s.tag.written)).setTag { s.tag with written := 0 }

/-- A record written to the handed RECV, one posted on a ring being handed first; it updates the table; none where no RECV is there
(15 R624, R632, R633). -/
def State.tagWrite (s : State) (l : Fin 4) (r : TagRec) : Option State :=
  let s0 := s.tagRecv
  match s0.handedTo 8 1 with
  | none => none
  | some d =>
    let k := s0.tag.written
    let s1 := (s0.storeWords (d.buf + 16 * k) (s0.tagRecWords l r)).setTag { s0.tag with written := k + 1 }
    let s2 := match r.kind with
      | 1 => s1.tableInsert l r.id r.code
      | 2 => s1.tableDelete l r.id
      | _ => s1
    some (if (k + 1) * 16 ≥ d.len then s2.recvDone stOk else s2)

/-! ### Rounds and checks -/

/-- The slot in which an identity answers a round at depth `d` (15 R618). -/
def idSlot (id : BitVec 64) (d : Nat) : Nat := id.toNat / 2 ^ (62 - 2 * d) % 4
/-- The leading 2d bits of an identity. -/
def idPrefix (id : BitVec 64) (d : Nat) : Nat := id.toNat / 2 ^ (64 - 2 * d)

/-- The disturbance of round or check `k`, if any. -/
def noiseAt (l : List TagNoise) (k : Nat) : TagNoise := (l.find? (fun n => n.round == k)).getD ⟨k, 0, none, 0, false⟩

/-- The state with a fob pulled just before a round. -/
def State.pulled (s : State) (l : Fin 4) (n : TagNoise) : State :=
  match n.pulled with
  | none => s
  | some id => s.pullFob l id

/-- The slots that a round finds occupied (15 R618). -/
def State.roundSlots (s : State) (l : Fin 4) (d p : Nat) (n : TagNoise) : BitVec 4 :=
  (s.line l).fobs.foldl (fun acc f => if f.armed && idPrefix f.id d == p then acc ||| (1#4 <<< idSlot f.id d) else acc) n.slots

/-- What a check reads (15 R619): presence and check code. -/
def State.checkRead (s : State) (l : Fin 4) (id : BitVec 64) (n : TagNoise) : Bool × Byte :=
  match (s.line l).fobs.find? (fun f => f.armed && f.id == id) with
  | none => (n.slots.getLsbD 0, n.code)
  | some f => (true, f.code ^^^ n.code)

/-- The line does not return high (15 R638): it is not driven any more until the next operation or presence check, and its fobs lose
their power (R614; DEDUCED, log 21). -/
def State.lineShort (s : State) (l : Fin 4) : State :=
  let x := s.line l
  (s.orFld F.TAG_STAT_SHORT (2 ^ l.val)).setLine l { x with fobs := x.fobs.map Fob.unpower, undriven := true }

/-! ### A presence check and an operation on one line -/

/-- The factor of SPEED on the line times (15 R617). -/
def State.tagScale (s : State) : Nat := if s.flag F.TAG_CTL_SPEED then 4 else 1

/-- The line time of a check in µs (15 R620). -/
abbrev checkUs : Nat := 678

/-- Whether a presence check is due on a line (15 R628). -/
def State.presDue (s : State) (l : Fin 4) : Bool :=
  s.lineOn l && s.flag (F.TAG_PRES_EN l.val) && (s.line l).presDue ≤ s.now * 100

/-- Whether a search is on a line. -/
def State.searching (s : State) (l : Fin 4) : Bool :=
  match s.tag.walk with
  | some w => w.line == l
  | none => false

/-- A presence check that is due while an operation is on its line is deferred, and counted once (15 R637). -/
def State.presDefer (s : State) (l : Fin 4) : State :=
  let x := s.line l
  if x.deferred then s else (s.satInc (F.TAG_PSIG_PDEF l.val)).setLine l { x with deferred := true }

/-- A presence record: written, or dropped with its notice (15 R633). -/
def State.presRecord (s : State) (l : Fin 4) (r : TagRec) : State := (s.tagWrite l r).getD (s.noBuf 8 1)

/-- The identities of a line's entries that can be read, in ascending order: an entry whose identity fails its parity check is not checked
(03 R140; DEDUCED, log 116). -/
def State.tableIds (s : State) (l : Fin 4) : List (BitVec 64) :=
  ((List.range (s.tableCount l)).filter (fun i =>
    !s.mem.parityBad (s.tableAt l + 16 * i) && !s.mem.parityBad (s.tableAt l + 16 * i + 4))).map (fun i => entryId (s.entryWords l i))

/-- A presence check ends: the RECV it wrote to completes (15 R632). -/
def State.presEnd (s : State) (l : Fin 4) : State := (s.setLine l { s.line l with pres := none }).recvDone stOk

/-- A presence check with no entry left ends. -/
def State.presOver (s : State) (l : Fin 4) : State :=
  match (s.line l).pres with
  | some ⟨[], _, _, _, _⟩ => s.presEnd l
  | _ => s

/-- The next check of a presence check (15 R628): MISSING for an empty presence slot; a line that does not return high ends it (R638). -/
def State.presStep (s : State) (l : Fin 4) : State :=
  match (s.line l).pres with
  | some ⟨id :: more, k, began, us, noise⟩ =>
    let n := noiseAt noise k
    let s1 := s.pulled l n
    if n.short then (s1.lineShort l).presEnd l
    else
      let s2 := if (s1.checkRead l id n).1 then s1 else s1.presRecord l ⟨7, 32, id, 0⟩
      (s2.setLine l { s2.line l with pres := some ⟨more, k + 1, began, us + checkUs * s2.tagScale, noise⟩ }).presOver l
  | _ => s

/-- The checks of a presence check whose line time has passed. -/
def State.presGo (s : State) (l : Fin 4) : Nat → State
  | 0 => s
  | k + 1 =>
    match (s.line l).pres with
    | none => s
    | some p => if (p.us + checkUs * s.tagScale) * 512 ≤ (s.now - p.began) * 15625 then State.presGo (s.presStep l) l k else s

/-- An operation handed for a line (15 R637): of a presence check in progress on it the current check finishes, the rest is abandoned, and
that is counted; one that is due, and has not begun, is deferred. -/
def State.opOnLine (s : State) (l : Fin 4) : State :=
  match (s.line l).pres with
  | some _ =>
    let s1 := s.presStep l
    if (s1.line l).pres.isSome then (s1.satInc (F.TAG_PSIG_PDEF l.val)).presEnd l else s1
  | none => if s.presDue l then s.presDefer l else s

/-! ### SEARCH -/

/-- The state with the search in hand replaced. -/
def State.setWalk (s : State) (w : Option TagWalk) : State := s.setTag { s.tag with walk := w }

/-- BUSY of one line set or cleared. -/
def State.tagBusy (s : State) (l : Fin 4) (b : Bool) : State :=
  if b then s.orFld F.TAG_STAT_BUSY (2 ^ l.val) else s.clrBits F.TAG_STAT_BUSY (2 ^ l.val)

/-- A count as an 8-bit field shows it; one that does not fit reads as a free value. -/
def fits8 (free n : Nat) : Nat := if n < 256 then n else (Config.measured free).toNat % 256

/-- RESULT of a SEARCH (15 Table 15.3). -/
def State.searchResult (s : State) (w : TagWalk) : Word :=
  BitVec.ofNat 32 (fits8 s.free w.found.length + fits8 (s.free + 1) w.posted * 256 + s.sseq w.line * 65536)

/-- A SEARCH ends with a status and RESULT. -/
def State.searchEnd (s : State) (w : TagWalk) (status : Nat) (r : Word) : State :=
  ((((s.setWalk none).tagBusy w.line false).clrFld (F.TAG_LSTAT_PAUSED w.line.val)).recvDone stOk).fresh.fresh.finish w.desc status r

/-- A SEARCH meets a word of its table that gives no data: it ends MEMPAR, with a RESULT that no rule states (03 R140; 06 Table 6.4; DEDUCED,
log 116). -/
def State.searchPar (s : State) (w : TagWalk) : State := s.fresh.searchEnd w stMemPar (Config.errorResult s.free)

/-- A good check of an identity (15 R621, R624, R625). -/
def State.foundGood (s : State) (w : TagWalk) (id : BitVec 64) (code : Byte) : State :=
  let w1 := { w with found := w.found ++ [id] }
  if s.tableBad w.line 0 2 then s.searchPar w
  else if (s.table w.line).any (fun e => entryId e == id) then (s.tableTouch w.line id).setWalk (some w1)
  else if s.tableCount w.line = 64 then
    (s.setBit (F.TAG_LSTAT_OVER w.line.val)).setWalk (some { w1 with out := [⟨5, 32, id, code.toNat⟩] })
  else s.setWalk (some { w1 with out := [⟨1, 32, id, code.toNat⟩] })

/-- The check of an identity formed at depth 31 (15 R620 to R622): repeated once when its code does not match. -/
def State.searchCheck (s : State) (w : TagWalk) (id : BitVec 64) : State :=
  let n1 := noiseAt w.noise w.rounds
  let s1 := s.pulled w.line n1
  let (p1, c1) := s1.checkRead w.line id n1
  let w1 := { w with rounds := w.rounds + 1 }
  if n1.short then (s1.lineShort w.line).searchEnd w tsLineShort 0
  else if !p1 then s1.setWalk (some { w1 with out := [⟨3, 32, id, 0⟩] })
  else if c1 == checkCode id then s1.foundGood w1 id c1
  else
    let n2 := noiseAt w.noise w1.rounds
    let s2 := s1.pulled w.line n2
    let (p2, c2) := s2.checkRead w.line id n2
    let w2 := { w1 with rounds := w1.rounds + 1 }
    if n2.short then (s2.lineShort w.line).searchEnd w tsLineShort 0
    else if !p2 then s2.setWalk (some { w2 with out := [⟨3, 32, id, 0⟩] })
    else if c2 == checkCode id then s2.foundGood w2 id c2
    else s2.setWalk (some { w2 with out := [⟨4, 32, id, c2.toNat⟩] })

/-- One step of the walk: a round at depth `d`, or the check of a whole identity (15 R618 to R622). -/
def State.searchStep (s : State) (w : TagWalk) (d p : Nat) : State :=
  if d = 32 then s.searchCheck w (BitVec.ofNat 64 p)
  else
    let n := noiseAt w.noise w.rounds
    let s1 := s.pulled w.line n
    let occ := s1.roundSlots w.line d p n
    let w1 := { w with rounds := w.rounds + 1, sig := if d = 0 then occ else w.sig }
    if n.short then (s1.lineShort w.line).searchEnd w tsLineShort 0
    else if occ = 0 ∧ d ≠ 0 then s1.setWalk (some { w1 with out := [⟨3, d, BitVec.ofNat 64 (p * 2 ^ (64 - 2 * d)), 0⟩] })
    else
      let kids := ((List.range 4).filter (fun q => occ.getLsbD q)).map (fun q => (d + 1, p * 4 + q))
      s1.setWalk (some { w1 with stack := kids ++ w1.stack })

/-- A SEARCH pauses for want of a buffer (15 R633). -/
def State.searchPause (s : State) (w : TagWalk) : State :=
  (((s.setWalk (some { w with pausedAt := s.now })).setBit (F.TAG_LSTAT_PAUSED w.line.val)).tagBusy w.line true).noBuf 8 1

/-- Whether what a record changes in the table asks for words of bad parity: an insertion or a deletion moves the entries above it (15 R624;
03 R140). -/
def State.moveBad (s : State) (l : Fin 4) (r : TagRec) : Bool :=
  match r.kind with
  | 1 => s.tableBad l (s.tablePlace l r.id) 4
  | 2 => s.tableBad l (s.tablePlace l r.id + 1) 4
  | _ => false

/-- A SEARCH runs on: records first, then the walk, then reconciliation, then its completion (15 R620, R624, R629). -/
def State.searchGo (s : State) : Nat → State
  | 0 => s
  | k + 1 =>
    match s.tag.walk with
    | none => s
    | some w =>
      match w.out with
      | r :: more =>
        if s.moveBad w.line r then s.searchPar w
        else
        (match s.tagWrite w.line r with
         | none => s.searchPause w
         | some t => State.searchGo (t.setWalk (some { w with out := more, posted := w.posted + 1 })) k)
      | [] =>
        match w.stack with
        | x :: rest => State.searchGo (s.searchStep { w with stack := rest } x.1 x.2) k
        | [] =>
          match w.recon with
          | none =>
            if s.tableBad w.line 0 2 then s.searchPar w
            else
            let lost := ((s.table w.line).map entryId).filter (fun id => !w.found.contains id)
            State.searchGo (s.setWalk (some { w with recon := some lost })) k
          | some (id :: more) => State.searchGo (s.setWalk (some { w with recon := some more, out := [⟨2, 32, id, 0⟩] })) k
          | some [] =>
            (s.setFld (F.TAG_PSIG_SIG w.line.val) w.sig.toNat).searchEnd w stOk (s.searchResult w)

/-- Enough steps for any walk over a line's fobs: each costs at most 32 rounds, two checks and a record, and each disturbance at most
four branches. -/
def State.searchFuel (s : State) (w : TagWalk) : Nat :=
  8 * ((s.line w.line).fobs.length * 36 + w.noise.length * 4 + w.stack.length + 72)

/-- The search in hand runs on. -/
def State.searchRun (s : State) : State :=
  match s.tag.walk with
  | none => s
  | some w => s.searchGo (s.searchFuel w)

/-- The line that a CHAN 0 descriptor names. -/
def Desc.tagLine (d : Desc) : Fin 4 := Fin.ofNat 4 (d.opd 4)

/-- The checks of a CHAN 0 descriptor (15 R634). -/
def State.tagCheck (s : State) (d : Desc) : Option Nat :=
  if !(d.op == 1 || d.op == 2) || d.uflags != 0 || d.uparam != 0 || d.lenTop != 0 || d.buf != 0 || d.len != 0 || d.opd 4 ≥ 4 ||
      d.opd 7 != 0 || (d.op == 1 && (d.opd 5 != 0 || d.opd 6 != 0)) then some stBadOp
  else if !s.lineOn d.tagLine then some tsLineOff else none

/-- SEARCH's first steps (15 R620): SSEQ, the search-start pulse, then the walk. -/
def State.searchStart (noise : List TagNoise) (s : State) (d : Desc) : State :=
  match s.tagCheck d with
  | some st => s.refuse d st
  | none =>
    let l := d.tagLine
    let s0 := s.opOnLine l
    let s1 := (s0.setFld (F.TAG_LSTAT_SSEQ l.val) (s.sseq l + 1)).startPulse l
    (s1.setWalk (some ⟨d, l, [(0, 0)], [], [], 0, 0, 0, none, noise, 0⟩)).searchRun

/-- CHECK's work (15 R631). -/
def State.checkRun (noise : List TagNoise) (s : State) (d : Desc) : State :=
  match s.tagCheck d with
  | some st => s.refuse d st
  | none =>
    let l := d.tagLine
    let id : BitVec 64 := (vget d.w 6).data ++ (vget d.w 5).data
    let n := noiseAt noise 0
    let s1 := ((s.opOnLine l).startPulse l).pulled l n
    let (p, c) := s1.checkRead l id n
    if n.short then (s1.lineShort l).finish d tsLineShort 0
    else s1.finish d stOk (BitVec.ofNat 32 ((if p then 1 else 0) + (if p && c == checkCode id then 2 else 0) + c.toNat * 256))

/-- The engine takes a CHAN 0 descriptor while no search is in hand and the line has been high for 2 ms since it was enabled (15 R616,
R630). -/
def State.tagTake (s : State) (op : Nat) (work : State → Desc → State) : State :=
  if s.tag.walk.isSome then s
  else
    s.takeWith 8 0 (fun d => (d.op == op || !(d.op == 1 || d.op == 2)) &&
      (!s.lineOn d.tagLine || twoMs ≤ s.now - (s.line d.tagLine).since)) work

/-- SEARCH (15 R620). -/
def execSearch (noise : List TagNoise) (s : State) : Res := ok (s.tagTake 1 (State.searchStart noise))
/-- CHECK (15 R631). -/
def execCheck (noise : List TagNoise) (s : State) : Res := ok (s.tagTake 2 (State.checkRun noise))

/-- SEARCH_RESUME (15 R633): a RECV has been handed within the second. -/
def execSearchResume (s : State) : Res :=
  match s.tag.walk with
  | none => ok s
  | some w =>
    if s.on && s.steadyUp && (s.handedTo 8 1).isSome then
      ok (((s.clrFld (F.TAG_LSTAT_PAUSED w.line.val)).tagBusy w.line false).searchRun)
    else ok s

/-- A pause of one second with no RECV handed ends the search NODELTA; what was not written is not applied (15 R633). -/
def State.pauseOver (s : State) : State :=
  match s.tag.walk with
  | none => s
  | some w =>
    if s.on && s.steadyUp && (s.handedTo 8 1).isNone && 32768 ≤ s.now - w.pausedAt then
      s.fresh.searchEnd w tsNoDelta (Config.errorResult s.free)
    else s

/-- SEARCH_PAUSE_TIMEOUT (15 R633). -/
def execSearchPauseTimeout (s : State) : Res := ok s.pauseOver

/-- TAG_RECV (15 R630, R632, R633): a RECV that comes later than a second into a pause finds the search over. -/
def execTagRecv (s : State) : Res := ok s.pauseOver.tagRecv

/-! ### Presence checks -/

/-- The next presence check falls due at the first whole period after now (15 R628), in 1/100 tick; those that fell due meanwhile, in Dim for
one, are one check (DEDUCED, log 117). -/
def State.presNext (s : State) (l : Fin 4) : State :=
  let x := s.line l
  let per := max 1 (s.fld (F.TAG_PRES_PER l.val)) * 32768
  s.setLine l { x with presDue := x.presDue + ((s.now * 100 - x.presDue) / per + 1) * per, deferred := false }

/-- A presence check that begins (15 R628, R629): the search-start pulse, the round at depth 0, and then its table entries, if it checks
them. -/
def State.presRun (s : State) (l : Fin 4) (noise : List TagNoise) : State :=
  let n := noiseAt noise 0
  let s1 := (s.startPulse l).pulled l n
  if n.short then s1.lineShort l
  else
    let occ := s1.roundSlots l 0 0 n
    let sig := s1.fld (F.TAG_PSIG_SIG l.val)
    let s2 := if occ.toNat = sig then s1 else (s1.setBit (F.TAG_LSTAT_PCHG l.val)).presRecord l ⟨6, 0, 0, sig + occ.toNat * 16⟩
    let ids := if s2.flag (F.TAG_PRES_VERIFY l.val) then s2.tableIds l else []
    let x := s2.line l
    (s2.setLine l { x with pres := some ⟨ids, 1, s.now, (250 + 106) * s.tagScale, noise⟩ }).presOver l

/-- PRESENCE_CHECK (15 R628, R637): it begins once it is due, in Lit or Blaze; while an operation is on the line it is deferred, and
counted. Its checks of table entries follow in their line time. -/
def execPresenceCheck (l : Fin 4) (noise : List TagNoise) (s : State) : Res :=
  let x := s.line l
  if !s.steadyRuns || !s.has .tag || !s.presDue l || s.now - x.since < twoMs || x.pres.isSome then ok s
  else if s.searching l then ok (s.presDefer l)
  else ok ((s.presRun l noise).presNext l)

/-- The presence checks in progress at a tick edge, in Lit and Blaze (15 R628): each check whose line time has passed is made. -/
def State.presTick (s : State) : State :=
  if s.steadyRuns then (indices 4).foldl (fun acc l => State.presGo acc l (((acc.line l).pres.map (fun p => p.left.length)).getD 0)) s else s

/-! ### Commit and quiesce -/

/-- A line's presence period committed (15 R636): EN newly 1 starts the count. -/
def State.presCommit (old s : State) (l : Fin 4) : State :=
  let s1 := s.clampRange (F.TAG_PRES_PER l.val) 1 65535 F.TAG_STAT_CLAMP
  if s1.flag (F.TAG_PRES_EN l.val) && !old.flag (F.TAG_PRES_EN l.val) then
    let x := s1.line l
    s1.setLine l { x with presDue := s1.now * 100 + s1.fld (F.TAG_PRES_PER l.val) * 32768, deferred := false }
  else s1

/-- The TAG set committed (15 R636). -/
def State.tagCommit (s : State) : State := (indices 4).foldl (fun acc l => State.presCommit s acc l) (s.commitAll .tag)

/-- The tag bus at the end of a steady quiesce (15 Table 15.4): a search in hand is CUTOFF with RESULT as far as it went, a RECV with the
records written, and presence checks in progress end. -/
def State.tagQuiesce (s : State) : State :=
  let s1 := match s.tag.walk with
    | none => s
    | some w =>
      (((s.setWalk none).tagBusy w.line false).clrFld (F.TAG_LSTAT_PAUSED w.line.val)).fresh.fresh.finish w.desc stCutoff
        (s.searchResult w)
  let s2 := s1.finishHanded 8 1 stCutoff (BitVec.ofNat 32 s1.tag.written)
  s2.setTag { s2.tag with written := 0, lines := s2.tag.lines.map (fun x => { x with pres := none }) }

end Sys2Proof.Machine
end

