-- ==== Sys2Proof/Machine/Quiesce.lean ====
section
/-! DEFINITION. The life of the islands (02 R66, R77 to R93, R99, R708): a ring-lit island's lighting, the idle rule, quiesces with what
each unit does at their end, resets of islands. -/

namespace Sys2Proof.Machine

/-! ### Lighting -/

/-- What the first lighting since a full reset grants (10 R429; 12 R543). -/
def State.firstGrant (s : State) (i : Island) : State :=
  match i with
  | .radio =>
    if s.power.radioOnce then s
    else
      let s1 := (s.posted 0x50 (Account.grant 256)).setBit F.RAD_POOL_GRANTED
      { s1 with power := { s1.power with radioOnce := true } }
  | .cipher =>
    if s.power.cipherOnce then s
    else
      let s1 := s.posted 0x51 (Account.grant 1)
      { s1 with power := { s1.power with cipherOnce := true } }
  | _ => s

/-- A claim that waited for the first lighting is served (12 R505, R543). -/
def State.serveClaim (s : State) : State :=
  match s.cip.claim with
  | none => s
  | some t => ({ s with cip := { s.cip with claim := none } }).claimLock t

/-- The postings of a zeroisation that found the island dark (12 R539). -/
def State.latePosts (s : State) : State :=
  if s.cip.postLater then ({ s with cip := { s.cip with postLater := false } }).spendSlots else s

/-- What the units of an island do when it is lit. -/
def State.unitsLit (s : State) (i : Island) : State :=
  match i with
  | .cipher => s.latePosts.serveClaim
  | .gnss => s.gnssLit
  | _ => s

/-- A ring-lit island is lit: its spans are granted, its units begin, held requests are presented (02 R66, R86, R708). -/
def State.islandUp (s : State) (i : Island) : State :=
  let s1 := s.setIsland i { s.island i with st := .lit, since := s.now }
  (((s1.grantSpans i).firstGrant i).unitsLit i).presentHeld

/-- Whether an island is one that rings light (02 Table 2.1). -/
def ringLit : Island → Bool
  | .cipher => true
  | .radio => true
  | .gnss => true
  | _ => false

/-- ISLAND_LIT (02 R66, R83, R708): the radio waits for XT32MOK (R92). -/
def execIslandLit (i : Island) (s : State) : Res :=
  if s.on && ringLit i && (s.island i).st == .lighting && (i != .radio || s.flag F.CLK_STAT_XT32MOK) then ok (s.islandUp i) else ok s

/-! ### The idle rule -/

/-- Whether the rings of an island are empty: nothing posted is left untaken or unfinished (02 R84). -/
def State.ringsEmpty (s : State) (i : Island) : Bool :=
  (s.islandRings i).all (fun n => (s.ring n).untaken == 0 && (s.ring n).done.isEmpty)

/-- Whether an island's engine works on something (02 R84; 11 R463; 13 R550). -/
def State.islandBusy (s : State) (i : Island) : Bool :=
  match i with
  | .cipher => s.cip.waiting.isSome
  | .radio => s.radioBusy
  | .gnss => s.gnssBusy
  | _ => true

/-- ISLAND_IDLE_DARK (02 R84): a ring-lit island idle for PWR_IDLE.TICKS goes dark through quiesce. -/
def execIslandIdleDark (i : Island) (s : State) : Res :=
  if s.on && ringLit i && s.lit i && s.ringsEmpty i && !s.islandBusy i && s.fld F.PWR_IDLE_TICKS ≤ s.now - (s.island i).since then
    ok (s.beginQuiesce i true)
  else ok s

/-! ### Quiesce -/

/-- Whether every island but the steady one is dark. -/
def State.othersDark (s : State) : Bool := [Island.burst, .cipher, .radio, .gnss].all (fun i => (s.island i).st == .dark)

/-- The steady quiesce on the way to Ember or Vigil opens (02 R69 to R72, R90): its conditions are judged once more, and the entry is
abandoned where one has ceased to hold. A suspended flash operation goes on (07 Table 7.6). -/
def State.entryQuiesce (s : State) : State :=
  let (d, why) := s.descent
  if s.mayDescend && d < 2 then
    ({ s with power := { s.power with entry := some (d, why) } }).flashQuiesce.beginQuiesce .steady false
  else { s with power := { s.power with entry := none } }

/-- QUIESCE (02 R85, R90, R99): a quiesce that is due begins: the steady one of an entry or of a reset once the other islands are dark, one
that was held while an island was being lit, one that the steady reset asks for. -/
def execQuiesce (i : Island) (s : State) : Res :=
  if !s.on || !s.lit i then ok s
  else if i = .steady then
    (if (s.island .steady).resetAtEnd then (if s.othersDark then ok (s.flashQuiesce.beginQuiesce .steady false) else ok s)
     else if s.power.entry.isSome then ok s.entryQuiesce else ok s)
  else if (s.island i).downReq || (s.island i).resetAtEnd || (s.island .steady).resetAtEnd then ok (s.beginQuiesce i false)
  else ok s

/-! ### The end of a drain -/

/-- Whether the replies that an island has produced have crossed (02 R85 step 4). -/
def State.repliesOut (s : State) (i : Island) : Bool := (s.islandRings i).all (fun n => !s.completable n)

/-- Whether the crossings presented on an island's spans have completed their handshake (02 R85 step 3). -/
def State.crossingsOver (s : State) (i : Island) : Bool := ((islandSpans i).flatMap spanAccts).all (fun a => (s.win a).span == 0)

/-- Whether the accesses presented across span 3 have completed: those of threads 8 and 9, and those that waited for the burst island's
lighting (02 R87; 03 R135, R139). -/
def State.accessesOver (s : State) (i : Island) : Bool :=
  i != .burst || (s.issued.isEmpty && (indices 10).all (fun t => !(s.thr t).issued.span))

/-- Whether an island has something under way that comes to an end of its own even when the drain has expired: a transmission with its
ramp-down, a bridge that drives or brakes, a host frame being committed (10 Table 10.6, R450; 14 Table 14.5; 16 Table 16.3). -/
def State.mustFinish (s : State) (i : Island) : Bool :=
  match i with
  | .radio => s.onAir || (match s.radio.op with | none => false | some o => o.active && o.air.isSome)
  | .steady => s.bridge.toList.any (fun b => b.st != .coast) || s.csp.committing.isSome
  | _ => false

/-- Whether an island has no work in progress (02 R709). A frame being received is none: a steady quiesce discards it (14 Table 14.5). -/
def State.workDone (s : State) (i : Island) : Bool :=
  !s.mustFinish i &&
    (match i with
     | .burst => true
     | .cipher => s.cip.waiting.isNone
     | .radio => s.radio.op.isNone && s.mesh.slot.isNone
     | .gnss => s.gnss.snap.isNone && s.gnss.out.isEmpty
     | .steady => (match s.flash.op with | none => true | some o => o.stopped) && !s.flash.resvOn && s.tag.walk.isNone && s.csp.xfer.isNone)

/-- The drain has expired over what must finish: transmissions stop with their ramp-down, and the operation on the air will complete CUTOFF
with RESULT = on-air µs; a bridge in DRIVE brakes (10 Table 10.6, R450; 16 Table 16.3). -/
def State.drainStop (s : State) (i : Island) : State :=
  match i with
  | .radio =>
    (match s.radio.op with
     | none => s
     | some o => if o.active && o.air.isSome then s.opStop o stCutoff else s).stopAir
  | .steady => s.boltBrake
  | _ => s

/-- The radio operation in hand that does not transmit is cut off: it was not on the air (10 Table 10.6). -/
def State.radioCut (s : State) : State :=
  match s.radio.op with
  | none => s
  | some o => s.opIdle.finish o.desc stCutoff 0

/-- What the flash controller has in hand is cut off between units, or inside one when the drain has expired (07 Table 7.6, R329). Requests for
records that it has not begun go with it. -/
def State.flashCut (s : State) : State :=
  let s0 : State := { s with flash := { s.flash with cut := s.stopUnits.foldl nsAdd s.flash.cut, resv := [], resvOn := false } }
  (match s.flash.op with
   | none => s0
   | some o => (s0.clrFld F.FLC_STAT_SUSP).flashOver o stCutoff (some o.done)).busyFix

/-- A host frame being received is discarded, a transfer in hand cut off (14 Table 14.5). A select that KEEP holds stays asserted (17 Table 17.14). -/
def State.cspQuiesce (s : State) : State :=
  let s1 := if s.csp.shut then (s.setCsp { s.csp with shut := false }).satInc F.CSP_SSTAT_DISC else s
  let s2 := if s1.csp.inFrame then (s1.setCsp { s1.csp with inFrame := false }).satInc F.CSP_SSTAT_DISC else s1
  s2.xferCut

/-- The link controller at a radio-island quiesce or reset: held WAKEREQs and its SENDs complete CUTOFF, its accounts are withdrawn (11
R496). -/
def State.meshCut (s : State) : State :=
  (s.mesh.held.foldl (fun acc d => State.finish acc d stCutoff 0) { s with mesh := { s.mesh with held := [] } }).meshQuiesce

/-- The units of an island at the end of its drain: what was handed to them completes CUTOFF (02 R85 step 6). The quiesce by which the idle
rule darkens the radio leaves the link controller's state (11 R497; log 48), unless a reset follows it. -/
def State.unitsCut (s : State) (i : Island) : State :=
  match i with
  | .burst => s
  | .cipher => s.endWaiting stCutoff
  | .radio => if (s.island .radio).idle && !(s.island .radio).resetAtEnd then s.radioCut.stopAir else s.radioCut.stopAir.meshCut
  | .gnss => s.gnssQuiesce
  | .steady => s.flashCut.cspQuiesce.tagQuiesce

/-- Descriptors that only supply a buffer or a slot complete CUTOFF with nothing done. -/
def State.handedCut (s : State) (i : Island) : State :=
  (s.handed.filter (fun p => unitIsland (p.1 / 16) == i)).foldl (fun acc p => acc.finishHanded (p.1 / 16) (p.1 % 16) stCutoff 0) s

/-- The completions of an island's rings are written, in the order in which it produced them (02 R85 step 6; 01 R34). -/
def State.ringsOut (s : State) (i : Island) : State :=
  s.completeAll (s.islandRings i) (((s.islandRings i).map (fun n => (s.ring n).done.length)).foldl (· + ·) 0)

/-- No access of an island's engines waits any more. -/
def State.dropIssued (s : State) (i : Island) : State := { s with issued := s.issued.filter (fun k => unitIsland (k / 16) != i) }

/-- Steps 6 and 7 of a quiesce (02 R85): CUTOFF, the span accounts withdrawn, every window that the quiesce opened closed. -/
def State.quiesceClose (s : State) (i : Island) : State :=
  let s1 := ((((s.unitsCut i).handedCut i).ringsOut i).dropIssued i).withdrawSpans i
  (s.island i).wins.foldl State.closeQuiesce s1

/-- The blocks whose sealed set is lost with an island (01 R45). The set-up latches of the steady island's other blocks lie in the vigil
island (07 R317; 14 R611; 15 R640); that those of the bolt block do too is DEDUCED (log 118). -/
def islandBlks (i : Island) : List Blk :=
  match i with
  | .radio => [.rad, .msh]
  | .gnss => [.gns]
  | .cipher => [.cip]
  | .steady => [.cnt]
  | .burst => []

/-- Whether a register returns to its reset value at a reset of the radio island (10 R452; 11 R497). -/
def radioReg (a : Nat) : Bool :=
  a / 0x1000 == 0x4000E ||
    (a / 0x1000 == 0x4000D && !(a == 0x4000D00C || a == 0x4000D10C || a == 0x4000D12C || a == 0x4000D110 || a == 0x4000D130))

/-- What a reset of an island does to its units (05 R242; 10 R452; 11 R497; 12 R542; 13 R582; 03 R143). -/
def State.unitsReset (s : State) (i : Island) : State :=
  match i with
  | .burst => s
  | .cipher => (((indices 16).foldl State.emptySlot s.spendSlots)).breakLock 3
  | .radio =>
    let s1 := s.resetRegs radioReg
    { s1 with radio := { Radio.reset with pool := s.radio.pool, dutyAt := s.radio.dutyAt, dutyNext := s.radio.dutyNext },
              mesh := Mesh.reset }
  | .gnss => s.gnsReset
  | .steady => s

/-- Threads 8 and 9 as the burst island goes dark: DARK, nothing pending, the lock broken where one owned it, for a cause (05 R242; 12
R508). Their other special registers and TSW bits, whose state is lost with the island (02 R82), are 0 from then on (DESIGN CHOICE, log 140). -/
def State.threadsDark (s : State) (cause : Nat) : State :=
  ((s.breakLockOf [8, 9] cause).setThr 8 (Thread.reset .dark)).setThr 9 (Thread.reset .dark)

/-- The burst island dark (02 R81, R82): local RAM lost unless RET = 1, the PLL stopped, the chip back in Lit. -/
def State.burstDark (s : State) (cause : Nat) : State :=
  let s1 := (s.threadsDark cause).clrFld F.CLK_STAT_PLLLOCK
  let s2 : State := if s.flag F.PWR_BURST_RET then s1 else { s1 with mem := s1.mem.clear Region.burst.holds }
  if s2.pstate = 4 then s2.setFld F.PWR_STAT_STATE 3 else s2

/-- What goes with an island that is powered down, or reset where that was asked for: a lock owner's cause is then a core reset, 2, and else
its dark island, 1 (12 R508). -/
def State.unitsDark (s : State) (i : Island) (reset : Bool) : State :=
  match i with
  | .burst => s.burstDark (if reset then 2 else 1)
  | .cipher => s.clrFld F.CIP_ESTAT_READY
  | .radio =>
    ({ s with radio := { s.radio with calAt := Vector.replicate 2 none, verify := false, lead := false } }).clrFld F.RAD_STAT_SNIFFING
  | _ => s

/-- Step 8 for an island other than the steady one (02 R85, R86, R90): dark, reset where that was asked for, relit where a request is
held. -/
def State.islandDown (s : State) (i : Island) : State :=
  let x := s.island i
  let s1 := (s.setIsland i IslandSt.dark).unitsDark i x.resetAtEnd
  let s2 := (islandBlks i).foldl State.sealDiscard s1
  let s3 := (if x.resetAtEnd then s2.unitsReset i else s2).xt32mSettle
  if x.relight then s3.wakeIsland i else s3

/-- A steady-island reset at step 8 (02 Table 2.7, R710; 05 R241, R244): the island stays powered, its memories are kept, and thread 0
starts anew in the boot ROM. -/
def State.steadyReset (s : State) : State :=
  let s1 := (s.setIsland .steady { IslandSt.dark with st := .lit, since := s.now }).restartSteady State.fllRow80
  let s2 : State := { s1 with power := { s1.power with entry := none, latched := 0 }, flash := { s1.flash with hold := 0 } }
  (((s2.setFld F.PWR_STAT_LAST 3).setBit F.PWR_WAKE_ISLAND).grantSpans .steady).flushLate.presentHeld

/-- Step 8 for the steady island: reset, or dark on the way to Ember or Vigil. -/
def State.steadyEnd (s : State) : State :=
  if (s.island .steady).resetAtEnd then s.steadyReset
  else
    match s.power.entry with
    | some (d, why) => s.steadyDown d why
    | none => s.steadyReset

/-- Whether steps 3 and 4 of a quiesce are over (02 R85, R87). -/
def State.stepsOver (s : State) (i : Island) : Bool := s.repliesOut i && s.crossingsOver i && s.accessesOver i

/-- Steps 6 to 8 of a quiesce (02 R85). -/
def State.quiesceEnd (s : State) (i : Island) : State :=
  let s1 := s.quiesceClose i
  if i = .steady then s1.steadyEnd else s1.islandDown i

/-- QUIESCE_DRAIN_END (02 R85 steps 5 to 8, R709): the drain is over when nothing is in progress any more, or at QDRAIN. A transmission and a
moving bridge are then stopped first, and the quiesce ends once they have (10 Table 10.6; 16 Table 16.3). -/
def execQuiesceDrainEnd (i : Island) (s : State) : Res :=
  if s.on && (s.island i).st == .quiescing && s.stepsOver i && (s.workDone i || s.drainExpired i) then
    ok (if s.mustFinish i then s.drainStop i else s.quiesceEnd i)
  else ok s

/-! ### Resets of islands -/

/-- A dark island's units before its reset: the link controller keeps its accounts, queues and waiting descriptors while the radio is dark, and
a reset ends them (11 R496, R497). -/
def State.darkCut (s : State) (i : Island) : State :=
  match i with
  | .radio => (s.meshCut.handedCut .radio).ringsOut .radio
  | _ => s

/-- An island named in PWR_IRST (02 R85, R90, R99): reset through its quiesce, which begins at once when it is lit; a dark one has nothing to
quiesce but what the link controller has kept, and loses a sealed set that waits (01 R45). -/
def State.askReset (s : State) (i : Island) : State :=
  let x := s.island i
  if !s.islandHere i then s
  else
    match x.st with
    | .dark => ((islandBlks i).foldl State.sealDiscard (s.darkCut i)).unitsReset i
    | .lit => (s.setIsland i { x with resetAtEnd := true }).beginQuiesce i false
    | _ => s.setIsland i { x with resetAtEnd := true }

/-- A write to PWR_IRST (02 R99): the steady reset first quiesces every other lit island. -/
def State.islandReset (s : State) (v : Word) : State :=
  if v.toNat / 256 % 256 != 0xA5 then s
  else
    let s1 := ([Island.burst, .cipher, .radio, .gnss].filter (fun i => v.getLsbD (Island.idx i).val)).foldl State.askReset s
    if v.getLsbD 0 then
      let s2 := s1.setIsland .steady { s1.island .steady with resetAtEnd := true }
      [Island.burst, .cipher, .radio, .gnss].foldl (fun acc i => acc.beginQuiesce i false) s2
    else s1

/-- ISLAND_RESET (02 R99). -/
def execIslandReset (value : Word) (s : State) : Res := ok (if s.steadyRuns then s.islandReset value else s)

end Sys2Proof.Machine
end

