-- ==== Sys2Proof/Machine/Threads.lean ====
section
/-! DEFINITION. Threads and event rings as the EVT block commands them (05): start, stop, the event-ring latch, the end of a WAIT. -/

namespace Sys2Proof.Machine

/-- The threads of the steady cores S0 and S1, and those of B0 (05 R198). -/
def onSteady (t : ThreadId) : Bool := t.val < 8

/-- Whether a thread's core runs (02 Table 2.2). While the burst island quiesces, an access that one of its threads has presented still
completes (02 R87). -/
def State.coreRuns (s : State) (t : ThreadId) : Bool :=
  if onSteady t then s.steadyRuns
  else s.on && s.has .burst && (s.lit .burst || ((s.island .burst).st == .quiescing && (s.thr t).issued.span))

/-- A thread that stops for good breaks the cipher lock it owns (12 R508). -/
def State.threadGone (s : State) (t : ThreadId) : State := s.breakLockOf [t] 1

/-- A START accepted (05 R199; 04 R194): RUN at EVT_TPC in warden mode, nothing pending, ENT 0; the other special registers stay
(log 14). -/
def State.threadBegin (s : State) (t : ThreadId) : State :=
  let o := s.thr t
  (s.setThr t { Thread.fresh s.free .run with
    pc := BitVec.ofNat 32 (s.fld (F.EVT_TPC_ADDR t.val) * 4), pmode := o.pmode, snuff := o.snuff, wmask := o.wmask, epc := o.epc,
    ecause := o.ecause, eaddr := o.eaddr }).fresh

/-- A write of 1 to EVT_TCTL.START (05 R199). -/
def State.threadStart (s : State) (t : ThreadId) : State :=
  match (s.thr t).st with
  | .stopped => s.threadBegin t
  | .faulted => s.threadBegin t
  | _ => s

/-- A write of 1 to EVT_TCTL.STOP (05 R200): STOPPED, once the word is done where an access of it waits. -/
def State.threadStop (s : State) (t : ThreadId) : State :=
  let x := s.thr t
  match x.st with
  | .run =>
    if x.issued = Held.no then (s.setThr t { x with st := .stopped }).threadGone t else s.setThr t { x with stopping := true }
  | .wait => (s.setThr t { x with st := .stopped }).threadGone t
  | _ => s

/-- A write to EVT_TCTL (05 R199 to R201). -/
def State.tctlWrite (s : State) (t : ThreadId) (v : Word) : State :=
  match v.getLsbD 0, v.getLsbD 1 with
  | true, false => s.threadStart t
  | false, true => s.threadStop t
  | _, _ => s

/-- THREAD_START (05 R199). -/
def execThreadStart (t : ThreadId) (s : State) : Res := ok (if s.steadyRuns then s.tctlWrite t 1 else s)

/-- THREAD_STOP (05 R200). -/
def execThreadStop (t : ThreadId) (s : State) : Res := ok (if s.steadyRuns then s.tctlWrite t 2 else s)

/-- The ring header that an event ring continues from (05 R712). Where a word of it fails its parity check (03 R140) nothing usable is latched,
so that every record is counted in EVT_TOVF as R715 of 05 gives (DESIGN CHOICE, log 52). -/
def State.evLatch (s : State) (t : ThreadId) : State :=
  let h := s.fld (F.EVT_TRING_ADDR t.val) * 64
  let bad := [h, h + 4, h + 8].any s.mem.parityBad
  let latch : EvRing := if bad then ⟨0, 0, 0⟩ else ⟨(s.word h).toNat, (s.word (h + 4)).toNat, (s.word (h + 8)).toNat % 65536⟩
  { s with evring := vset s.evring t latch }

/-- A write to EVT_TRING (05 R224, R712): an address outside system SRAM and vigil RAM leaves EN at 0. -/
def State.tringWrite (s : State) (t : ThreadId) (v : Word) : State :=
  let s1 := s.setFld (F.EVT_TRING_ADDR t.val) (fldGet v (F.EVT_TRING_ADDR t.val))
  if v.getLsbD 0 && inSramVigil (s1.fld (F.EVT_TRING_ADDR t.val) * 64) 64 then (s1.setBit (F.EVT_TRING_EN t.val)).evLatch t
  else s1.clrFld (F.EVT_TRING_EN t.val)

/-- EVT_TRING_WRITE (05 R224, R712). -/
def execEvtTringWrite (t : ThreadId) (value : Word) (s : State) : Res := ok (if s.steadyRuns then s.tringWrite t value else s)

/-- A write of 1 to EVT_TOVF.CLR (05 Table 5.9). -/
def State.tovfClr (s : State) (t : ThreadId) : State := s.clrFld (F.EVT_TOVF_COUNT t.val)

/-- EVT_TOVF_CLR (05 R209). -/
def execEvtTovfClr (t : ThreadId) (s : State) : Res := ok (if s.steadyRuns then s.tovfClr t else s)

/-- A general register's write: one to g0 is discarded (04 R152). -/
def Thread.put (x : Thread) (r : Reg) (w : TWord) : Thread := if r = 0 then x else { x with regs := vset x.regs r w }

/-- A general register's value: g0 is INT 0 (04 R152). -/
def Thread.get (x : Thread) (r : Reg) : TWord := if r = 0 then ⟨0, .int⟩ else vget x.regs r

/-- A WAIT that completes with the bits of its mask that are set (05 R203). -/
def Thread.waited (x : Thread) : Thread :=
  let hit := x.pend &&& x.wmask
  { (x.put x.waitRd ⟨hit, .int⟩) with pend := x.pend &&& ~~~x.wmask, pc := x.pc + 4, st := .run }

/-- WAIT_WAKE (05 R203): a bit of the mask of a thread in WAIT is set. -/
def execWaitWake (t : ThreadId) (s : State) : Res :=
  if s.coreRuns t && (s.thr t).wakeable then ok (s.unhold.setThr t (s.thr t).waited) else ok s

end Sys2Proof.Machine
end

