-- ==== Sys2Proof/Machine/Flags.lean ====
section
/-! DEFINITION. Flags and conditions (04 R162 to R164, Tables 4.4 and 4.5). -/

namespace Sys2Proof.Machine

/-- Flags that an operation sets: Z and N always, C and V where it changes them (04 Table 4.4). -/
abbrev FlagSet := Bool × Bool × Option Bool × Option Bool

/-- Z and N of a result, C and V unchanged: AND, OR, XOR, NOT, TST. -/
def flagsZN (r : Word) : FlagSet := (r == 0, r.msb, none, none)

/-- ADD and ADDI: carry out of bit 31, signed overflow. -/
def flagsAdd (a b : Word) : FlagSet :=
  let r := a + b
  (r == 0, r.msb, some (decide (2 ^ 32 ≤ a.toNat + b.toNat)), some (a.msb == b.msb && r.msb != a.msb))

/-- SUB, CMP, CMPI and NEG: C is 1 when a ≥ b unsigned. -/
def flagsSub (a b : Word) : FlagSet :=
  let r := a - b
  (r == 0, r.msb, some (decide (b.toNat ≤ a.toNat)), some (a.msb != b.msb && r.msb != a.msb))

/-- CMP of two SEQ or two TIME words, d = b − a (04 Table 4.4; 01 R31). -/
def flagsSerial (a b : Word) : FlagSet :=
  let d := (b - a).toNat
  (d == 0, decide (1 ≤ d ∧ d < 2 ^ 31), some (d == 0 || decide (2 ^ 31 < d)), some (d == 2 ^ 31))

/-- The flags of CMP by the sources' tags. -/
def flagsCmp (a b : TWord) : FlagSet :=
  if (a.tag = .seq ∧ b.tag = .seq) ∨ (a.tag = .time ∧ b.tag = .time) then flagsSerial a.data b.data else flagsSub a.data b.data

/-- SHLI, SHRI, SARI: C is the last bit shifted out, unchanged for amount 0. `out` is that bit. -/
def flagsShift (r : Word) (amount : Nat) (out : Bool) : FlagSet := (r == 0, r.msb, if amount = 0 then none else some out, none)

/-- A thread with flags set. -/
def Thread.setFlags (x : Thread) (f : FlagSet) : Thread :=
  { x with z := f.1, n := f.2.1, c := f.2.2.1.getD x.c, v := f.2.2.2.getD x.v }

/-- Whether a condition holds; `r` is the condition register of TV (04 R163, R164). -/
def condHolds (x : Thread) (c : Cond) (r : Reg) : Bool :=
  match c with
  | .al => true
  | .eq => x.z
  | .ne => !x.z
  | .cs => x.c
  | .cc => !x.c
  | .mi => x.n
  | .pl => !x.n
  | .vs => x.v
  | .vc => !x.v
  | .hi => x.c && !x.z
  | .ls => !x.c || x.z
  | .ge => x.n == x.v
  | .lt => x.n != x.v
  | .gt => !x.z && x.n == x.v
  | .le => x.z || x.n != x.v
  | .tv => (x.get r).tag != .void

end Sys2Proof.Machine
end

