-- ==== Sys2Proof/Machine/Entropy.lean ====
section
/-! DEFINITION. The entropy source (12 R532 to R535, R540). Raw samples are free values. -/

namespace Sys2Proof.Machine

/-- HEALTH (12 Table 12.7). -/
abbrev esHealth : Nat := 0x20

/-- Whether the source runs: the island is lit, EN = 1 and no test has failed (12 R535, R540; log 36). -/
def State.entropyRuns (s : State) : Bool :=
  s.on && s.has .cipher && s.lit .cipher && s.flag F.CIP_ECTL_EN && !s.flag F.CIP_ESTAT_HALTED

/-- The checks of an entropy descriptor in the order of Table 6.4 of 06 (12 R532). -/
def State.entropyCheck (s : State) (d : Desc) : Option Nat :=
  if !(d.op == 1 || d.op == 2) || d.uflags != 0 || d.uparam != 0 || d.lenTop != 0 then some stBadOp
  else if s.dtagBad d then some stDtag
  else if d.len == 0 || d.len > 4096 || (d.op == 1 && d.len % 16 != 0) then some stLen
  else ((s.engView 3 0).engWrite d.buf d.len).badStatus

/-! ### The health tests -/

/-- The repetition count test (12 R533): whether 41 consecutive samples are identical; `n` samples like `prev` have just passed. -/
def repFails (prev : Option Bool) (n : Nat) : List Bool → Bool
  | [] => false
  | b :: r =>
    let k := if prev = some b then n + 1 else 1
    41 ≤ k || repFails (some b) k r

/-- Whether the first sample of a window of 1,024 recurs 840 or more times in it (12 R533). -/
def windowFails (w : List Bool) : Bool :=
  match w with
  | [] => false
  | b :: r => w.length == 1024 && 840 ≤ r.count b

/-- The adaptive proportion test (12 R533), in the windows that a list of samples fills. -/
def propFails (l : List Bool) : Bool :=
  (List.range (l.length / 1024)).any (fun i => windowFails ((l.drop (1024 * i)).take 1024))

/-- `n` samples. -/
def samples (free n : Nat) : List Bool := (List.range n).map (Config.rawBit free)

/-- How many samples an entropy descriptor takes (12 R532, R534). -/
def Desc.samples (d : Desc) : Nat := if d.op = 1 then 32 * d.len else 8 * d.len

/-- A failed test halts the source (12 R540). -/
def State.entropyHalt (s : State) (adaptive : Bool) : State :=
  ((s.setBit (if adaptive then F.CIP_ESTAT_APTFAIL else F.CIP_ESTAT_RCTFAIL)).setBit F.CIP_ESTAT_HALTED).clrFld F.CIP_ESTAT_READY

/-! ### Descriptors -/

/-- `n` bytes of raw samples from sample `i` on, least significant bit first (12 R532). -/
def rawBytes (free i n : Nat) : List Byte :=
  (List.range n).map (fun k => BitVec.ofFnLE (fun (b : Fin 8) => Config.rawBit free (i + 8 * k + b.val)))

/-- `n` conditioned blocks of 16 bytes (12 R534). -/
def conditioned (free n : Nat) : List Byte :=
  (List.range n).flatMap (fun j => cbcMac ((List.range 32).map (fun i => BitVec.ofNat 8 i)) (blocksOf (rawBytes free (512 * j) 64)))

/-- An entropy descriptor that has been taken (12 R532, R533, R540): HEALTH while the source is halted, whatever the descriptor says. Its
samples pass the tests from its first on, or one that fails halts the source, with nothing written (log 125). -/
def State.entropyRun (s : State) (d : Desc) : State :=
  if s.flag F.CIP_ESTAT_HALTED then s.refuse d esHealth
  else
    match s.entropyCheck d with
    | some st => s.refuse d st
    | none =>
      let l := samples s.free d.samples
      if repFails none 0 l then (s.fresh.entropyHalt false).refuse d esHealth
      else if propFails l then (s.fresh.entropyHalt true).refuse d esHealth
      else
        let out := if d.op = 1 then conditioned s.free (d.len / 16) else rawBytes s.free 0 d.len
        (s.fresh.storeBytes .raw d.buf out).refuse d stOk

/-- The unit takes a descriptor once READY = 1 (12 R535), or at once while the source is halted (R540). -/
def State.entropyTake (s : State) (op : Nat) : State :=
  s.takeReady 3 0
    (fun d => (d.op == op || !(d.op == 1 || d.op == 2)) && (s.flag F.CIP_ESTAT_READY || s.flag F.CIP_ESTAT_HALTED))
    (fun t d => if (t.entropyCheck d).isSome || t.flag F.CIP_ESTAT_HALTED then [] else [t.engWrite d.buf d.len]) State.entropyRun

/-- GET (12 R532, R534). -/
def execGet (s : State) : Res := ok (s.entropyTake 1)
/-- RAW (12 R532). -/
def execRaw (s : State) : Res := ok (s.entropyTake 2)

/-- ENTROPY_READY (12 R535): the start-up test of 4,096 samples ends. -/
def execEntropyReady (s : State) : Res := ok (if s.entropyRuns then s.setBit F.CIP_ESTAT_READY else s)

/-- HEALTH_FAIL (12 R533, R540): a test fails over samples that no descriptor takes (log 125). -/
def execHealthFail (adaptive : Bool) (s : State) : Res :=
  ok (if s.entropyRuns then s.entropyHalt adaptive else s)

/-- A write of 1 to CIP_ECTL.RESTART (12 R540): the start-up test is repeated. -/
def State.entropyRestart (s : State) : State := (s.clrFld F.CIP_ESTAT_HALTED).clrFld F.CIP_ESTAT_READY

/-- A write to CIP_ECTL (12 R540, R546): with EN = 0 the source is off. -/
def State.ectlWrite (s : State) (v : Word) : State :=
  let s1 := s.setFld F.CIP_ECTL_EN (v.toNat % 2)
  let s2 := if v.getLsbD 1 then s1.entropyRestart else s1
  if v.getLsbD 0 then s2 else s2.clrFld F.CIP_ESTAT_READY

/-- ENTROPY_RESTART (12 R540). -/
def execEntropyRestart (s : State) : Res := ok (if s.steadyRuns && s.has .cipher then s.entropyRestart else s)

end Sys2Proof.Machine
end

