-- ==== Sys2Proof/Machine/LedgerCmds.lean ====
section
/-! DEFINITION. The ledger's own commands (01): sweeps, window ages, the account view. -/

namespace Sys2Proof.Machine

/-- A sweep starts at the first account. One that waited to start now is merged with it (01 R714). -/
def State.sweepStart (s : State) : State := { s with ledger := { s.ledger with sweep := some 0, waiting := false } }

/-- PERIODIC_SWEEP_DUE (01 R27, R711, R714): the sweep that is due starts, or waits for a running one; one that waits already takes it in. -/
def execPeriodicSweepDue (s : State) : Res :=
  if !s.on || s.now < s.ledger.due then ok s
  else
    let s1 : State := { s with ledger := { s.ledger with due := s.ledger.due + s.sweepPeriod } }
    if s.ledger.sweep.isSome then ok { s1 with ledger := { s1.ledger with waiting := true } } else ok s1.sweepStart

/-- A write of 1 to LDG_AUDIT.GO (01 R27, R54): ignored while a sweep runs. -/
def State.auditGo (s : State) : State := if s.ledger.sweep.isSome then s else s.sweepStart

/-- AUDIT_GO (01 R27, R54). -/
def execAuditGo (s : State) : Res := ok (if s.steadyRuns then s.auditGo else s)

/-- WAITING_SWEEP_START (01 R714). -/
def execWaitingSweepStart (s : State) : Res :=
  if s.on && s.ledger.waiting && s.ledger.sweep.isNone then
    ok s.sweepStart
  else ok s

/-- SWEEP_ACCOUNT_CHECK (01 R27, R53): the next listed account is checked; after the last the sweep is complete. An absent unit's accounts
never breach (03 R129). -/
def execSweepAccountCheck (s : State) : Res :=
  match s.ledger.sweep with
  | none => ok s
  | some k =>
    if !s.on then ok s
    else
      let i := acctList.getD k 0
      let s1 := if s.acctAbsent i then s else s.check i
      if k + 1 < acctList.length then ok { s1 with ledger := { s1.ledger with sweep := some (k + 1) } }
      else
        ok (({ s1 with ledger := { s1.ledger with sweep := none } }).setFld F.LDG_SWEEPS_COUNT (s1.fld F.LDG_SWEEPS_COUNT + 1))

/-- A window of an account that is open beyond its age limit and has not been reported as such (01 Table 1.3, R50), as the account's windows
with that one marked: the SPAN window first, then SLOT, then QUIESCE. -/
def State.windowOld (s : State) (i : Nat) : Option Window :=
  let w := s.win i
  if w.span != 0 && 1 < s.now - w.spanAt && !w.spanAged then some { w with spanAged := true }
  else if w.slot != 0 && 2048 < s.now - w.slotAt && !w.slotAged then some { w with slotAged := true }
  else if w.quiesce && 65536 < s.now - w.quiesceAt && !w.quiesceAged then some { w with quiesceAged := true }
  else none

/-- WINDOW_AGE (01 R50): each window is reported once while it stays open (log 65); an absent unit's account never breaches (03 R129). -/
def execWindowAge (acct : Fin 192) (s : State) : Res :=
  match s.windowOld acct.val with
  | none => ok s
  | some w => if s.on && !s.acctAbsent acct.val then ok ((s.setWin acct.val w).breach 4 acct.val) else ok s

/-- A write to LDG_SEL (01 R20, R52): the account's terms and windows are captured. -/
def State.ldgSel (s : State) (i : Nat) : State :=
  let a := if s.acctAbsent i || !acctListed i then Account.zero else s.acct i
  let w := s.win i
  let win := (if w.span != 0 then 1 else 0) + (if w.slot != 0 then 2 else 0) + (if w.quiesce then 4 else 0) +
    min 0xFFFF (s.winAge i) * 0x10000
  (((((s.setFld F.LDG_SEL_ACCT i).setFld F.LDG_GRANT_G a.g).setFld F.LDG_RETURNED_R a.r).setFld F.LDG_HELD_H a.h).setFld F.LDG_FLIGHT_F
    a.f).setReg F.LDG_WIN_SPAN.addr (BitVec.ofNat 32 win)

/-- LDG_SEL_CAPTURE (01 R52). -/
def execLdgSelCapture (acct : BitVec 8) (s : State) : Res := ok (if s.steadyRuns then s.ldgSel acct.toNat else s)

/-- The LDG set committed (01 R711): a new SWEEP value makes the next sweep due one new period after the commit. -/
def State.ldgCommit (s : State) : State :=
  let s1 := s.commitAll .ldg
  if s1.fld F.LDG_CTL_SWEEP = s.fld F.LDG_CTL_SWEEP then s1
  else { s1 with ledger := { s1.ledger with due := s1.now + s1.sweepPeriod } }

end Sys2Proof.Machine
end

