-- ==== Sys2Proof/Machine/Pins.lean ====
section
/-! DEFINITION. The general pins P0 to P23 (17 R683 to R687, R693, R700). -/

namespace Sys2Proof.Machine

/-- What FUNC makes of pin `n`: FUNC 2 on a pin without an alternate function acts as 3 (17 R684). -/
def State.pinFunc (s : State) (n : Nat) : Nat :=
  let f := s.fld (F.PIN_CFG_FUNC n)
  if f = 2 ∧ ¬(8 ≤ n ∧ n ≤ 11) then 3 else f

/-- Whether pin `n` detects edges (05 Table 5.2; 17 R684, R686). -/
def State.pinArmed (s : State) (n : Nat) : Bool := s.fld (F.PIN_CFG_EDGE n) != 0 && s.pinFunc n != 3

/-- The level of a pad that the part does not drive (17 R685, R695): the world's where the world drives it, otherwise the pull's, which needs VDD.
With no pull it floats at the level it last had from the world, or before the last write to its PIN_CFG (DESIGN CHOICE, log 107). -/
def State.padFree (s : State) (n : Nat) : Bool :=
  if s.driven.getLsbD n || !s.power.vdd then s.pads.getLsbD n
  else
    match s.fld (F.PIN_CFG_PULL n) with
    | 1 => false
    | 2 => true
    | _ => s.pads.getLsbD n

/-- The level on pad `n` (17 R683, R685): a push-pull output drives it and has no pull, an open-drain one drives it only low.
Below VPOR nothing of the part does (R695). -/
def State.padLevel (s : State) (n : Nat) : Bool :=
  if s.pinFunc n = 1 ∧ s.power.vdd then
    (if s.flag (F.PIN_CFG_OD n) then s.fldBit F.PIN_OUT_OUT n && s.padFree n else s.fldBit F.PIN_OUT_OUT n)
  else s.padFree n

/-- PIN_IN as it reads: a disabled pin reads 0 (17 R683). -/
def State.pinIn (s : State) : Nat :=
  (List.range 24).foldl (fun acc n => if s.pinFunc n ≠ 3 ∧ s.padLevel n then acc + 2 ^ n else acc) 0

/-- Whether EDGE selects a change to a level (17 R686). -/
def edgeSelects (e : Nat) (level : Bool) : Bool := if level then e % 2 == 1 else 2 ≤ e

/-- What a change of pad `n` since `old` does (17 R686 to R688): the counters it feeds, PIN_EDGE, its source, a wake. -/
def State.pinChanged (old s : State) (n : Nat) : State :=
  let l := s.padLevel n
  if l != old.padLevel n then
    let s0 := if 8 ≤ n ∧ n ≤ 11 then s.cntinEdge (n - 8) l else s
    if s.pinFunc n != 3 && edgeSelects (s.fld (F.PIN_CFG_EDGE n)) l then
      let s1 := (s0.orFld F.PIN_EDGE_EDGE (2 ^ n)).fireSource (0x58 + n) s.stamp
      if s.flag (F.PIN_CFG_WAKE n) then s1.wakeSource 1 else s1
    else s0
  else s

/-- A pad that nothing drives takes the level it had before as the one it floats at (log 107). -/
def State.padKept (s old : State) (n : Nat) : State :=
  let m : BitVec 24 := 1#24 <<< n
  if s.driven.getLsbD n then s else { s with pads := if old.padLevel n then s.pads ||| m else s.pads &&& ~~~m }

/-- PIN_EDGE (17 R686 to R688): the world puts a level on a pad, and drives it from then on. -/
def execPinEdge (n : Fin 24) (level : Bool) (s : State) : Res :=
  let m : BitVec 24 := 1#24 <<< n.val
  let s1 : State := { s with pads := if level then s.pads ||| m else s.pads &&& ~~~m, driven := s.driven ||| m }
  if s.on then ok (State.pinChanged s s1 n.val) else ok s1

/-- A write to PIN_CFG (17 R683 to R686, Table 17.12): a level change that it causes itself is no edge. Neither is it one for a counter (DEDUCED,
log 81). A pin whose edge detection it enables is armed (05 Table 5.7). -/
def State.pinCfgPut (s : State) (n : Nat) (put : State → State) : State :=
  let s1 := (put s).padKept s n
  if s1.pinArmed n && !s.pinArmed n then s1.armedNow (0x58 + n) else s1

/-- A new value of PIN_OUT (17 R683, R686): a pad that it moves may have an edge. -/
def State.pinOut (s : State) (v : Nat) : State :=
  (List.range 24).foldl (fun acc n => State.pinChanged s acc n) (s.setFld F.PIN_OUT_OUT v)

/-- A write to PIN_SET (17 R700). -/
def State.pinSet (s : State) (v : Word) : State := s.pinOut (s.fld F.PIN_OUT_OUT ||| v.toNat % 2 ^ 24)
/-- A write to PIN_CLR (17 R700). -/
def State.pinClr (s : State) (v : Word) : State :=
  s.pinOut (s.fld F.PIN_OUT_OUT - (s.fld F.PIN_OUT_OUT &&& v.toNat % 2 ^ 24))

/-- PIN_SET (17 R700). -/
def execPinSet (v : Word) (s : State) : Res := ok (if s.steadyRuns then s.pinSet v else s)
/-- PIN_CLR (17 R700). -/
def execPinClr (v : Word) (s : State) : Res := ok (if s.steadyRuns then s.pinClr v else s)

end Sys2Proof.Machine
end

