-- ==== Sys2Proof/Machine/Regs.lean ====
section
/-! DEFINITION. Reads and writes of set-up registers by address (00 R9 to R15; 03 R126), the SEAL commands, and every block's commit
(01 R38 to R46). -/

namespace Sys2Proof.Machine

/-! ### Reads -/

/-- The islands that are lit, as PWR_IRST bits (02 Table 2.10). -/
def State.litMask (s : State) : Nat :=
  [Island.steady, .burst, .cipher, .radio, .gnss].foldl (fun acc i => if s.lit i then acc + 2 ^ (Island.idx i).val else acc) 0

/-- PWR_BURST.STATE (02 Table 2.10). -/
def State.burstState (s : State) : Nat :=
  match (s.island .burst).st with
  | .dark => 0 | .lighting => 1 | .lit => 2 | .quiescing => 3

/-- The code of a thread state (05 Table 5.1). -/
def ThreadSt.num : ThreadSt → Nat
  | .stopped => 0 | .run => 1 | .wait => 2 | .faulted => 3 | .dark => 4

/-- Whether a thread is live (05 R227). -/
def Thread.live (x : Thread) : Bool := x.st == .run || x.st == .wait

/-- One bit for each thread. -/
def State.threadMask (s : State) (p : Thread → Bool) : Nat :=
  (indices 10).foldl (fun acc t => if p (s.thr t) then acc + 2 ^ t.val else acc) 0

/-- EVT_STAT as it reads (05 Table 5.9). -/
def State.evtStat (s : State) (w : Word) : Word :=
  fldPut (fldPut w F.EVT_STAT_LIVE (s.threadMask Thread.live)) F.EVT_STAT_WAITING (s.threadMask (fun x => x.st == .wait))

/-- One bit for each of 32 rings that is ON or DRAINING (06 Table 6.6). -/
def State.ringMask (s : State) (base : Nat) : Nat :=
  (List.range 32).foldl (fun acc i => if s.fld (F.QUE_RSTAT_STATE (base + i)) != 0 then acc + 2 ^ i else acc) 0

/-- The slot that CIP_NSEL names (12 Table 12.8). -/
def State.shownSlot (s : State) : KeySlot := s.keySlot (Fin.ofNat 16 (s.fld F.CIP_NSEL_SLOT))

/-- CIP_STAT as it reads: BUSY while an operation runs, LIVE the keys that the scanned area holds records of (12 Table 12.8). -/
def State.cipStat (s : State) (w : Word) : Word :=
  fldPut (fldPut w F.CIP_STAT_BUSY (if s.cipInHand then 1 else 0)) F.CIP_STAT_LIVE
    (if s.flag F.CIP_STAT_SCANNED then min 255 s.liveKcvs.length else 0)

/-- Eight channel states from channel `base`, 4 bits each (13 Table 13.12). -/
def State.chanWord (s : State) (base : Nat) : Word :=
  BitVec.ofNat 32 ((List.range 8).foldl (fun acc i => acc + ChanSt.num (s.chan (Fin.ofNat 16 (base + i))).st * 16 ^ i) 0)

/-- The fields that show what other state holds now, in the groups of EVT and QUE. -/
def State.groupView (s : State) (a : Nat) (w : Word) : Word :=
  if 0x40004100 ≤ a ∧ a < 0x40004240 ∧ a % 0x20 = 0 then
    fldPut w (F.EVT_TCTL_STATE ((a - 0x40004100) / 0x20)) (s.thr (Fin.ofNat 10 ((a - 0x40004100) / 0x20))).st.num
  else if 0x40005100 ≤ a ∧ a < 0x40005500 ∧ a % 0x10 = 0 then
    let n := (a - 0x40005100) / 0x10
    fldPut w (F.QUE_RCFG_EN n) (if s.fld (F.QUE_RSTAT_STATE n) = ringOn then 1 else 0)
  else if 0x40005100 ≤ a ∧ a < 0x40005500 ∧ a % 0x10 = 8 then
    let n := (a - 0x40005100) / 0x10
    fldPut w (F.QUE_RSTAT_OUT n) (s.acct n).h
  else w

/-- The fields that show what other state holds now. -/
def State.derived (s : State) (t : ThreadId) (a : Nat) (w : Word) : Word :=
  match a with
  | 0x40001010 => s.ldgStat
  | 0x4000200C => fldPut w F.PWR_BURST_STATE s.burstState
  | 0x40002018 => BitVec.ofNat 32 s.litMask
  | 0x4000400C => s.evtStat w
  | 0x40005004 => BitVec.ofNat 32 (s.ringMask 0)
  | 0x40005008 => BitVec.ofNat 32 (s.ringMask 32)
  | 0x40007000 => s.timeBase.extractLsb' 0 32
  | 0x40007004 => s.timeBase.extractLsb' 32 32
  | 0x40007008 => vget s.time.hil t
  | 0x4000700C => s.tick32
  | 0x4000C018 => s.cipStat w
  | 0x4000C020 => BitVec.ofNat 32 s.shownSlot.ctr
  | 0x4000C024 => BitVec.ofNat 32 (s.shownSlot.ctr / 2 ^ 32 % 256 + s.shownSlot.resblk.getD 0 * 256)
  | 0x4000D004 => s.radStat w
  | 0x4000D014 => BitVec.ofNat 32 (s.bufSt (s.fld F.RAD_BSEL_INDEX)).num
  | 0x4000F018 => BitVec.ofNat 32 (s.settledMask + 16 * s.frozenMask)
  | 0x4000F040 => s.chanWord 0
  | 0x4000F044 => s.chanWord 8
  | 0x4001000C => BitVec.ofNat 32 s.pinIn
  | _ => s.groupView a w

/-- What a read of a register returns by the access codes of its fields (00 R9, R12, R14): live or staged, write-only fields zero. -/
def State.regView (s : State) (a : Nat) : Word :=
  (s.reg a &&& maskOf [.rw, .ro, .w1c] a) ||| (s.stg a &&& maskOf [.ws, .lk] a)

/-- A read of a register with what it does (00 R14, R15; 03 R126; 08 R339; 09 R380, R382). -/
def State.regRead (s : State) (t : ThreadId) (a : Nat) : Word × State :=
  if a = 0x5000007C then s.calClose
  else
    let s1 := if a = 0x40007000 then s.tmbLoRead t
      else if a = 0x50000000 ∨ a = 0x50000004 ∨ a = 0x50000008 ∨ a = 0x5000000C then s.calFreeze else s
    (s1.derived t a (s1.regView a) &&& s1.presentMask a, s1)

/-! ### Writes -/

/-- The block that has a SEAL register and holds an address. -/
def blkAt (a : Nat) : Option Blk :=
  [Blk.ldg, .clk, .evt, .flc, .cnt, .csp, .tag, .bts, .cip, .rad, .msh, .gns, .cal].find? (fun b => Blk.base b == a / 0x1000 * 0x1000)

/-- Whether LK fields at an address no longer take writes (01 R46). -/
def State.lkLocked (s : State) (a : Nat) : Bool :=
  match blkAt a with
  | none => false
  | some b => s.lkDone.contains b

/-- The staged fields of a register as a write leaves them (00 R14; 01 R38, R46). -/
def State.stageWrite (s : State) (a : Nat) (v : Word) : State :=
  let m := maskOf (if s.lkLocked a then [.ws] else [.ws, .lk]) a
  if m = 0 then s else s.setStg a ((s.stg a &&& ~~~m) ||| (v &&& m))

/-- The immediate and write-one-to-clear fields of a register as a write leaves them (00 R14). -/
def State.plainWrite (s : State) (a : Nat) (v : Word) : State :=
  let m := maskOf [.rw] a
  s.setReg a (((s.reg a &&& ~~~m) ||| (v &&& m)) &&& ~~~(v &&& maskOf [.w1c] a))

/-- A write by the access codes alone (00 R11, R13, R14). -/
def State.codeWrite (s : State) (a : Nat) (v : Word) : State := (s.plainWrite a v).stageWrite a v

/-- A write to PWR_BURST (02 R77, R81, Table 2.6): with ON and OFF both 1 it is ignored whole. Of a write of ON that is held while the burst island
quiesces the AUTO and RET bits act at once (DESIGN CHOICE, log 135). -/
def State.burstWrite (s : State) (v : Word) : State :=
  match v.getLsbD 0, v.getLsbD 1 with
  | true, true => s
  | true, false => (s.codeWrite 0x4000200C v).burstOn
  | false, true => (s.codeWrite 0x4000200C v).burstOff
  | false, false => s.codeWrite 0x4000200C v

/-- A write to CLK_VSRC (02 R703): AUTO = 1 makes a switch due while XT32OK = 1, AUTO = 0 withholds one. -/
def State.vsrcWrite (s : State) (v : Word) : State :=
  let s1 := s.codeWrite 0x40003000 v
  { s1 with clk := { s1.clk with switchDue := v.getLsbD 1 && s1.flag F.CLK_STAT_XT32OK && !s1.flag F.CLK_STAT_VSRC } }

/-- A write to CAL_STAT (09 R391): OSFWHY clears with OSF. -/
def State.calStatWrite (s : State) (v : Word) : State :=
  let s1 := s.codeWrite 0x50000010 v
  if v.getLsbD 0 then s1.clrFld F.CAL_STAT_OSFWHY else s1

/-- A write to FLC_ECC (07 R332). -/
def State.eccWrite (s : State) (v : Word) : State :=
  let s1 := s.codeWrite 0x40006010 v
  if v.getLsbD 31 then s1.flcEccClr else s1

/-- A write to MSH_CTL (11 R478, R495): RUN, the immediate fields, the staged ones. -/
def State.mshCtlWrite (s : State) (v : Word) : State :=
  let s1 := (s.setFld F.MSH_CTL_HOLD (fldGet v F.MSH_CTL_HOLD)).setFld F.MSH_CTL_RELAY (fldGet v F.MSH_CTL_RELAY)
  let s2 := s1.stageWrite 0x4000E000 v
  if v.getLsbD 0 then s2.meshStart else s2.meshHalt

/-- A write to RAD_SNIFF (03 R131): on a part without the 2.4 GHz path BAND keeps its staged value. -/
def State.sniffWrite (s : State) (v : Word) : State :=
  if s.has .ghz || !v.getLsbD 0 then s.codeWrite 0x4000D02C v
  else s.codeWrite 0x4000D02C ((v &&& ~~~1#32) ||| (s.stg 0x4000D02C &&& 1#32))

/-- Writes to single registers with an effect of their own. -/
def State.singleWrite (s : State) (t : ThreadId) (a : Nat) (v : Word) : State :=
  match a with
  | 0x40001014 => if v.getLsbD 0 then s.auditGo else s
  | 0x40001020 => s.ldgSel (v.toNat % 256)
  | 0x4000200C => s.burstWrite v
  | 0x40002014 => s.islandReset v
  | 0x4000202C => s.softReset v
  | 0x40003000 => s.vsrcWrite v
  | 0x4000300C => (s.codeWrite a v).xt32mSettle
  | 0x40005000 => if v.getLsbD 31 then s.queOvpClr else s
  | 0x40006000 => s.flashCtl v
  | 0x40006010 => s.eccWrite v
  | 0x40006018 => (s.codeWrite a v).chanArms s 1 1
  | 0x40009014 => s.cspSclr v
  | 0x40009018 => s.cspDrop v
  | 0x4000B010 => s.btsTen v
  | 0x4000B018 => s.loopRearm v
  | 0x4000C000 => s.cipLockWrite t v
  | 0x4000C030 => s.zeroWrite v
  | 0x4000C034 => s.nonPurge v
  | 0x4000C040 => s.ectlWrite v
  | 0x4000D02C => s.sniffWrite v
  | 0x4000D10C => (s.codeWrite a v).dutyStart 0
  | 0x4000D12C => (s.codeWrite a v).dutyStart 1
  | 0x4000E000 => s.mshCtlWrite v
  | 0x4000E058 => if v.getLsbD 0 then s.mshCntclr else s
  | 0x4000F000 => (s.gnsFeWrite v).stageWrite a v
  | 0x4000F050 => s.ppsCtl v
  | 0x4000F05C => s.ppsAdjWrite v
  | 0x4000F060 => s.ppsFixWrite v
  | 0x40010000 => s.pinOut (v.toNat % 2 ^ 24)
  | 0x40010004 => s.pinSet v
  | 0x40010008 => s.pinClr v
  | 0x50000010 => s.calStatWrite v
  | 0x50000024 => s.calSet false v
  | 0x50000028 => s.calSet true v
  | 0x50000050 => s.tamperClear v
  | _ => s.codeWrite a v

/-- A write to a register of a thread's EVT group (05 Table 5.9). -/
def State.evtWrite (s : State) (a : Nat) (v : Word) : State :=
  let n : ThreadId := Fin.ofNat 10 ((a - 0x40004100) / 0x20)
  match a % 0x20 with
  | 0x00 => s.tctlWrite n v
  | 0x0C => s.tringWrite n v
  | 0x10 => if v.getLsbD 31 then s.tovfClr n else s
  | _ => s.codeWrite a v

/-- A write to a register of a ring's QUE group (06 R288). -/
def State.queWrite (s : State) (a : Nat) (v : Word) : State :=
  let n : RingId := Fin.ofNat 64 ((a - 0x40005100) / 0x10)
  match a % 0x10 with
  | 0x0 => s.rcfgWrite n v
  | 0x4 => s.rhdrWrite n v
  | _ => s.codeWrite a v

/-- A write to a register of a compare channel (08 R342). -/
def State.cmpWrite (s : State) (a : Nat) (v : Word) : State :=
  let n : Fin 16 := Fin.ofNat 16 ((a - 0x40007100) / 0x10)
  match a % 0x10 with
  | 0x0 => s.cmpAccept n (.ctl v)
  | 0x4 => s.cmpAccept n (.val v)
  | 0x8 => s.cmpAccept n (.rel v)
  | _ => s.cmpAccept n (.per v)

/-- A write to a register of a counter (08 Table 8.6). -/
def State.cntWrite (s : State) (a : Nat) (v : Word) : State :=
  let n : Fin 8 := Fin.ofNat 8 ((a - 0x40008100) / 0x20)
  match a % 0x20 with
  | 0x00 => (s.stageWrite a v).counterCtl n v
  | 0x08 => s.setCount n v
  | 0x0C => s.setCmpv n v
  | 0x10 => s.setCrel n v
  | _ => s.codeWrite a v

/-- A write to a register of a tag line (15 R642, R643): TAG_LINV only while EN = 0. -/
def State.tagWriteReg (s : State) (a : Nat) (v : Word) : State :=
  let l : Fin 4 := Fin.ofNat 4 ((a - 0x4000A100) / 0x20)
  match a % 0x20 with
  | 0x00 => s.lcfgWrite l v
  | 0x04 => if s.lineOn l then s else s.codeWrite a v
  | _ => s.codeWrite a v

/-- A write to PIN_CFG (17 R683 to R686). -/
def State.pinCfgWrite (s : State) (a : Nat) (v : Word) : State :=
  s.pinCfgPut ((a - 0x40010100) / 4) (fun t => t.codeWrite a v)

/-- PEND cleared by a commit that has made its set live. -/
def State.pendDone (s : State) (b : Blk) : State := s.clrFld (F.SEAL_PEND (Blk.sealAt b))

/-- A write to a block's SEAL register (01 R39, R43, R44, R46, R702). One in the cycle of a counter's overflow finds the CNT commit point of that
cycle past: a set that waits is committed by it, and the new one waits for the next (01 R44; 08 R361). -/
def State.sealPut (s : State) (b : Blk) (v : Word) : State :=
  if b = .cnt ∧ v.getLsbD 0 then
    let s1 := if s.sealPend .cnt && s.countersUp && s.cntCommitDue then s.cntCommit.pendDone .cnt else s
    ({ s1 with cnt := s1.cnt.map (fun p : Prescaler => { p with wrapped := false }) }).sealWrite .cnt v
  else s.sealWrite b v

/-- A write of a set-up register (00 R11, R13, R14; 03 R126): its SEAL register, its group, or a register of its own. -/
def State.regWrite (s : State) (t : ThreadId) (a : Nat) (v : Word) : State :=
  if s.presentMask a = 0 then s
  else
    match (blkAt a).filter (fun b => Blk.sealAt b == a) with
    | some b => s.sealPut b v
    | none =>
      if 0x40004100 ≤ a ∧ a < 0x40004240 then s.evtWrite a v
      else if 0x40005100 ≤ a ∧ a < 0x40005500 then s.queWrite a v
      else if 0x40007100 ≤ a ∧ a < 0x40007200 then s.cmpWrite a v
      else if 0x40008100 ≤ a ∧ a < 0x40008200 then s.cntWrite a v
      else if 0x4000A100 ≤ a ∧ a < 0x4000A180 then s.tagWriteReg a v
      else if 0x40010100 ≤ a ∧ a < 0x40010160 then s.pinCfgWrite a v
      else s.singleWrite t a v

/-- Whether an address is a word of the set-up blocks or of CAL. -/
def regAddr (a : Nat) : Bool := a % 4 == 0 && (Region.setup.holds a || Region.cal.holds a)

/-- REGISTER_WRITE (00 R11, R13, R14; 03 R126). -/
def execRegisterWrite (t : ThreadId) (addr value : Word) (s : State) : Res :=
  ok (if s.coreRuns t && regAddr addr.toNat then s.regWrite t addr.toNat value else s)

/-! ### Seals and commits -/

/-- SEAL_GO (01 R39, R43, R46, R702): a write to a block's SEAL register. -/
def execSealGo (b : Blk) (value : Word) (s : State) : Res := ok (if s.steadyRuns && s.blkHere b then s.sealPut b (value ||| 1#32) else s)

/-- The CLK set committed (02 R80, R88, R91, R96, R717, R718). -/
def State.clkCommit (s : State) : State :=
  let c := F.CLK_STAT_CLAMP
  let s1 := s.commitAll .clk
  let s2 := s1.clampFld F.CLK_FLL_MUL (fllClamp (s1.fld F.CLK_FLL_REF) (s1.fld F.CLK_FLL_MUL)) c
  let s3 := s2.clampFld F.CLK_PLL_MUL (pllClamp (s2.fld F.CLK_PLL_RDIV) (s2.fld F.CLK_PLL_MUL)) c
  let k := s3.clk
  let s4 : State := { s3 with clk := { k with xt32mFailed := k.xt32mFailed && !s3.flag F.CLK_STAT_XT32MOK,
                                              pllFresh := k.pllFresh || s3.reg 0x40003008 != s.reg 0x40003008 } }
  let wanted := if s4.flag F.CLK_FLL_REF then min 3906 (s4.fld F.CLK_FLL_MUL) else s4.fld F.CLK_FLL_MUL
  let s5 := if !s4.fllOnXt && !s4.flag F.CLK_STAT_VSRC && 3616 < wanted then s4.setBit c else s4
  s5.fllRetarget.xt32mSettle

/-- Whether the nonce area that a committed set names lies in one bank that is there (07 R318). -/
def State.nonceFits (s : State) : Bool :=
  let a := s.fld F.FLC_NONCE_START
  let n := s.fld F.FLC_NONCE_COUNT
  n == 0 || (a / 256 == (a + n - 1) / 256 && (a < 256 || s.has .bankB))

/-- FLC_NONCE with COUNT 0, live, staged and sealed: an LK field reads its live value from the commit on (00 Table 0.2). -/
def State.nonceNone (s : State) : State :=
  let a := F.FLC_NONCE_COUNT.addr
  let s1 := (s.clrFld F.FLC_NONCE_COUNT).setStg a (fldPut (s.stg a) F.FLC_NONCE_COUNT 0)
  { s1 with sealed := smSet resetWord s1.sealed a (fldPut (s.sld a) F.FLC_NONCE_COUNT 0) }

/-- The FLC set committed (07 R316, R318; 12 R544): an area that does not fit commits COUNT = 0, and the nonce area is to be scanned anew. -/
def State.flcCommit (s : State) : State :=
  let s1 := s.commitAll .flc
  (if s1.nonceFits then s1 else s1.nonceNone).clrFld F.CIP_STAT_SCANNED

/-- Whether a block whose commit point is a tick edge may commit at one: CLK while the burst island is dark, BTS with no move handed (02 R91; 05
R249; 16 Table 16.3). -/
def State.tickDue (s : State) (b : Blk) : Bool :=
  match b with
  | .clk => (s.island .burst).st == .dark
  | .evt => true
  | .bts => s.btsIdle
  | _ => false

/-- Whether a block is at its commit point now (01 R40; 07 R316; 08 R361; 10 R445; 11 R493; 13 Table 13.10; 14 R606; 15 Table 15.4). CLK, EVT
and BTS commit at TIME_BASE_TICK, CAL at CALENDAR_SUB_CARRY (09 R386), GNS at EPOCH_BOUNDARY while FERDY = 1, and while the link
controller runs RAD and MSH at SLOT_BOUNDARY and CYCLE_BOUNDARY. -/
def State.commitDue (s : State) (b : Blk) : Bool :=
  match b with
  | .ldg => s.on
  | .clk | .evt | .bts | .cal => false
  | .flc => s.on && s.steadyUp && s.flashIdle
  | .cnt => s.on && s.steadyUp && s.cntCommitDue
  | .csp => s.cspIdle
  | .tag => s.on && s.steadyUp && s.tag.walk.isNone && s.tag.lines.toList.all (fun x => x.pres.isNone)
  | .cip => s.on && s.steadyUp && !s.cipInHand
  | .rad => s.on && !s.meshRuns && !s.opOnAir && !s.flag F.RAD_STAT_SNIFFING
  | .msh => s.on && !s.flag F.MSH_CTL_RUN
  | .gns => s.on && s.lit .gnss && !s.flag F.GNS_STAT_FERDY

/-- A block's sealed set made live (01 R40). -/
def State.commit (s : State) (b : Blk) : State :=
  match b with
  | .ldg => s.ldgCommit
  | .clk => s.clkCommit
  | .evt => s.commitAll .evt
  | .flc => s.flcCommit
  | .cnt => s.cntCommit.pendDone .cnt
  | .csp => s.cspCommit
  | .tag => s.tagCommit
  | .bts => s.btsCommit
  | .cip => s.commitAll .cip
  | .rad => s.radCommit
  | .msh => s.mshCommit
  | .gns => s.gnsCommit
  | .cal => s.calCommit.pendDone .cal

/-- SEAL_COMMIT (01 R40 to R42, R44). -/
def execSealCommit (b : Blk) (s : State) : Res := ok (if s.sealPend b && s.commitDue b then s.commit b else s)

end Sys2Proof.Machine
end

