-- ==== Sys2Proof/Machine/Operands.lean ====
section
/-! DEFINITION. What every Flitu instruction shares (04, 05): tag rules (Tables 4.2 and 4.3), faults and warden entry (05 R212, R216),
data accesses, the course of one instruction. -/

namespace Sys2Proof.Machine

/-! ### Tags -/

/-- Result tag of ADD (04 Table 4.2). -/
def tagAdd (a b : Tag) : Option Tag :=
  match a, b with
  | .int, .int => some .int
  | .addr, .int => some .addr | .int, .addr => some .addr
  | .code, .int => some .code | .int, .code => some .code
  | .time, .int => some .time | .int, .time => some .time
  | .seq, .int => some .seq | .int, .seq => some .seq
  | .raw, .int => some .raw | .int, .raw => some .raw | .raw, .raw => some .raw
  | _, _ => none

/-- Result tag of SUB (04 Table 4.2). -/
def tagSub (a b : Tag) : Option Tag :=
  match a, b with
  | .int, .int => some .int
  | .addr, .int => some .addr | .code, .int => some .code | .time, .int => some .time | .seq, .int => some .seq
  | .addr, .addr => some .int | .code, .code => some .int | .time, .time => some .int | .seq, .seq => some .int
  | .raw, .int => some .raw | .int, .raw => some .raw | .raw, .raw => some .raw
  | _, _ => none

/-- Result tag of MUL, MULHU, MULHS, DIVU, DIVS, REMU, REMS (04 Table 4.2). -/
def tagMul (a b : Tag) : Option Tag := if a = .int ∧ b = .int then some .int else none

/-- Result tag of OR and XOR (04 Table 4.2). -/
def tagOr (a b : Tag) : Option Tag :=
  match a, b with
  | .int, .int => some .int
  | .raw, .int => some .raw | .int, .raw => some .raw | .raw, .raw => some .raw
  | _, _ => none

/-- Result tag of AND (04 Table 4.2). -/
def tagAnd (a b : Tag) : Option Tag :=
  match a, b with
  | .addr, .int => some .addr | .int, .addr => some .addr
  | _, _ => tagOr a b

/-- Result tag of SHL, SHR, SAR; `b` is the amount (04 Table 4.2). -/
def tagShift (a b : Tag) : Option Tag := if (a = .int ∨ a = .raw) ∧ b = .int then some a else none

/-- Result tag of NEG and NOT (04 Table 4.2). -/
def tagNeg (a : Tag) : Option Tag := if a = .int ∨ a = .raw then some a else none

/-- Whether CMP takes two sources (04 Table 4.2). -/
def tagCmp (a b : Tag) : Bool :=
  match a, b with
  | .int, .int => true | .addr, .addr => true | .code, .code => true | .time, .time => true | .seq, .seq => true
  | .int, .raw => true | .raw, .int => true | .raw, .raw => true
  | _, _ => false

/-- Whether TST takes two sources (04 Table 4.2). -/
def tagTst (a b : Tag) : Bool := (a == .int || a == .raw) && (b == .int || b == .raw)

/-- The fault of sources that no row permits, examined in order (04 R157). -/
def tagFault : List Tag → FaultCode
  | [] => .tagMix
  | .void :: _ => .tagVoid
  | .key :: _ => .tagKey
  | _ :: r => tagFault r

/-- The tag that a 4-bit code names, none for a reserved one and for KEY, which no RETAG produces (04 R153, Table 4.3). -/
def retagTarget (c : Nat) : Option Tag := if c < 8 ∧ c ≠ 4 then some (tagOf c) else none

/-- Whether a target tag asks for warden mode (04 Table 4.3). -/
def Tag.minted (g : Tag) : Bool := g == .addr || g == .code

/-! ### Faults and entries -/

/-- What an instruction comes to: its effects applied, a fault with its data address, or an access that waits (with the state that
the wait leaves). -/
inductive Did where
  | done (s : State)
  | fault (s : State) (f : FaultCode) (addr : Word)
  | wait (s : State)
  deriving DecidableEq, Repr

/-- ECAUSE (05 Table 5.9). -/
def causeWord (f : FaultCode) (half bip fetch : Bool) (imm : BitVec 15) : Word :=
  BitVec.ofNat 32 (f.num + (if half then 0x100 else 0) + (if bip then 0x200 else 0) + (if fetch then 0x400 else 0) + imm.toNat * 0x10000)

/-- Warden entry (05 R212, R213). -/
def Thread.enter (x : Thread) (ret cause addr target : Word) : Thread :=
  { x with epc := ret, ecause := cause, eaddr := addr, bip := false, pmode := x.mode, mode := true, ent := true, pc := target }

/-- A thread faults or executes SYS: warden entry where TSW.ENT = 0 and EVT_TENT.VALID = 1 (05 R212), FAULTED with its FAULT records
otherwise (05 R216), the cipher lock broken where it owned it (12 R508). -/
def State.trap (s : State) (t : ThreadId) (f : FaultCode) (addr : Word) (half fetch : Bool) (imm : BitVec 15) : State :=
  let x := s.thr t
  let cause := causeWord f half x.bip fetch imm
  if !x.ent && s.flag (F.EVT_TENT_VALID t.val) then
    s.setThr t (x.enter (if f = .sys then x.pc + 4 else x.pc) cause addr (BitVec.ofNat 32 (s.fld (F.EVT_TENT_ADDR t.val) * 4)))
  else
    let s1 := s.setThr t { x with st := .faulted }
    let s2 := (s1.setFld (F.EVT_TFPC_PC t.val) x.pc.toNat).setFld (F.EVT_TFCAUSE_CAUSE t.val) cause.toNat
    (s2.systemTo (s2.fld F.EVT_FROUTE_TMASK) 0x13 (BitVec.ofNat 32 (t.val + f.num * 256))).threadGone t

/-- Whether a thread executes (05 Table 5.1). -/
def State.runs (s : State) (t : ThreadId) : Bool := s.coreRuns t && (s.thr t).st == .run

/-- A word begins: an access of it that was presented before and waited is judged anew, as issued then (02 R87; 03 R135). -/
def State.unissue (s : State) (t : ThreadId) : State := s.setThr t { s.thr t with issued := Held.no }

/-- As `unissue`, and TSW.BIP cleared, at a word that is no block instruction (05 R221). -/
def State.clearBip (s : State) (t : ThreadId) : State := s.setThr t { s.thr t with bip := false, issued := Held.no }

/-- An access of a thread's word waits, with the state that the wait leaves. It stands as presented at span 3 where it crosses it: a burst thread's,
or one made while the burst island was being lit (02 R87; 03 R135). `held` is what it was before. -/
def State.waits (s : State) (t : ThreadId) (held : Held) : State :=
  s.setThr t { s.thr t with issued := ⟨held.span || !onSteady t || (s.island .burst).st == .lighting, true⟩ }

/-- The spans and directions that an access of a thread's crosses (03 R108, R113; 09): 3 to or from the burst island, 6 to capture RAM, 0 to the
backup domain and back. `own` is whether the thread is one of B0's. -/
def crossesOf (own : Bool) (a : Nat) : List (Nat × Nat) :=
  (if own == Region.burst.holds a then [] else [(3, if own then 1 else 0)]) ++
    (if Region.gnss.holds a then [(6, 0)] else if Region.cal.holds a then [(0, 0), (0, 1)] else [])

/-- A thread with pc on the next word. -/
def Thread.next (x : Thread) : Thread := { x with pc := x.pc + 4 }

/-- A thread's next word, nothing else (04 R165). -/
def State.skip (s : State) (t : ThreadId) : State := s.setThr t (s.thr t).next

/-- Whether a thread's own RAM is the burst island's (03 R113). -/
def ownBurst (t : ThreadId) : Bool := !onSteady t

/-- An access of a thread's crosses its spans (03 R113; log 122). -/
def State.crosses (s : State) (t : ThreadId) (a : Nat) : State := (crossesOf (ownBurst t) a).foldl (fun acc c => acc.crossed c.1 c.2) s

/-- A thread whose STOP came while an access of its word waited stops now that the word is done (05 R200). -/
def State.stopLate (s : State) (t : ThreadId) : State :=
  let x := s.thr t
  if x.stopping && x.issued == Held.no then
    (s.setThr t { x with stopping := false, st := if x.st = .run ∨ x.st = .wait then .stopped else x.st }).threadGone t
  else s

/-- What a thread's fetch of its next word meets: none where the word is fetched (04 R193 item 1, R196). The words of the boot ROM, whose tags
the spec does not give, can be fetched (log 9). -/
def State.fetchStop (s : State) (t : ThreadId) : Option Reach :=
  let a := wordAddr (s.thr t).pc.toNat
  match s.thrFetch (s.thr t).issued (ownBurst t) a with
  | .ok =>
    let g := (s.readTWord a).tag
    if Region.rom.holds a || g = .int || g = .raw then none else some (.fault .tagFetch)
  | r => some r

/-- What the read of a thread's next word leaves: its crossings, and the error registers where its unit was corrected or gave no data (03 R113; 07
R291, R332). -/
def State.fetchRead (s : State) (t : ThreadId) : State :=
  let a := wordAddr (s.thr t).pc.toNat
  (s.crosses t a).afterRead a

/-- A fetch that met a stop: it waits, or faults before anything is decoded, so that TSW.BIP stands (04 R193, R196; 05 R212). Only one that gave
no data, or a word of a wrong tag, has read anything (07 R305, R332). -/
def State.fetchEnd (s : State) (t : ThreadId) : Reach → State
  | .ok => s
  | .fault f =>
    ((if f = .mempar ∨ f = .tagFetch then s.fetchRead t else s).unissue t).trap t f (s.thr t).pc false true 0
  | .wait light => (s.engWait light).waits t (s.thr t).issued

/-- A word of a thread that runs: its fetch comes first (04 R193), then what `run` says, on the state that the fetch leaves; a STOP that the word's
access held up takes effect after it (05 R200). -/
def State.fetched (s : State) (t : ThreadId) (run : State → Res) : Res :=
  if s.runs t then
    match (match s.fetchStop t with
           | some r => ok (s.fetchEnd t r)
           | none => run (s.fetchRead t)) with
    | .next u => ok (u.stopLate t)
    | r => r
  else ok s

/-- The end of an instruction; `held` is what an access of it was before. -/
def State.conclude (t : ThreadId) (held : Held) : Did → Res
  | .done s => ok s
  | .fault s f a => ok (s.trap t f a false false 0)
  | .wait s => ok (s.waits t held)

/-- The course of a long instruction that is no block instruction (04 R165, R188; 05 R221): it runs while its thread does, is skipped where
its condition is false, and otherwise does what `body` says. -/
def State.instr (s : State) (t : ThreadId) (c : Cond) (cr : Reg) (body : State → Did) : Res :=
  s.fetched t (fun s =>
    let s0 := s.clearBip t
    if condHolds (s0.thr t) c cr then State.conclude t (s.thr t).issued (body s0) else ok (s0.skip t))

/-- A thread with a register written, past its word. -/
def State.write (s : State) (t : ThreadId) (r : Reg) (w : TWord) : State := s.setThr t ((s.thr t).put r w).next

/-- The result of a computation with one tag. -/
def State.result (s : State) (t : ThreadId) (rd : Reg) (v : Word) (g : Option Tag) (sources : List Tag) : Did :=
  match g with
  | some g => .done (s.write t rd ⟨v, g⟩)
  | none => .fault s (tagFault sources) 0

/-- Flags set, past the word. -/
def State.flagged (s : State) (t : ThreadId) (f : FlagSet) (good : Bool) (sources : List Tag) : Did :=
  if good then .done (s.setThr t ((s.thr t).setFlags f).next) else .fault s (tagFault sources) 0

/-! ### Reserved words -/

/-- A reserved word that scrambles: the thread's own g1 to g31 and flags, pc on the next word (05 R236, R237, R239). -/
def Thread.scramble (x : Thread) (k : Nat) : Thread :=
  let one (r : Fin 32) : TWord :=
    let w := vget x.regs r
    if Config.scrambleReg k r.val then
      ⟨Config.scrambleData k r.val,
        match Config.scrambleTag k r.val with
        | 0 => .void | 1 => .int | 2 => .raw | _ => w.tag⟩
    else w
  let f := Config.scrambleFlags k
  { x with regs := Vector.ofFn one, z := f.getLsbD 0, n := f.getLsbD 1, c := f.getLsbD 2, v := f.getLsbD 3, pc := x.pc + 4 }

/-- A reserved word (05 R236 to R239): which of the two it does is open. -/
def State.reserved (s : State) (t : ThreadId) : State :=
  let s1 := s.clearBip t
  if Config.reservedFaults s.free then s1.fresh.trap t .resop 0 false false 0
  else (s1.setThr t ((s1.thr t).scramble s.free)).fresh

/-- What an instruction that is a reserved word does. -/
def State.reservedRes (s : State) (t : ThreadId) : Res := s.fetched t (fun s => ok (s.reserved t))

/-! ### Data accesses -/

/-- Whether an address lies in a set-up block or in CAL. -/
def inRegs (a : Nat) : Bool := Region.setup.holds a || Region.cal.holds a

/-- A sum of an address and an offset, modulo 2^32 (04 R181). -/
def effAddr (base off : Word) : Nat := (base + off).toNat

/-- A sign-extended immediate. -/
def sext (n : Nat) (i : BitVec n) : Word := i.signExtend 32

/-- What a check says, as the end of an instruction: a fault leaves the error registers of the read that failed (07 R332). -/
def State.reached (s : State) (a : Nat) (r : Reach) : Option Did :=
  match r with
  | .ok => none
  | .fault f => some (.fault (if f = .mempar then s.afterRead a else s) f (BitVec.ofNat 32 a))
  | .wait light => some (.wait (s.engWait light))

/-- A word read with what the read does (00 R15; 03 R112, R113, R117). -/
def State.loadWord (s : State) (t : ThreadId) (a : Nat) : TWord × State :=
  let s := s.crosses t a
  if inRegs a then
    let (w, s1) := s.regRead t a
    (⟨w, .int⟩, s1)
  else
    let s1 := s.afterRead a
    (s.readTWord a, if Region.gnss.holds a then s1.touch .gnss else s1)

/-- A word stored (03 R112, R113; 00 R14; 06 R256, R260). -/
def State.storeAt (s : State) (t : ThreadId) (a : Nat) (w : TWord) : State :=
  if inRegs a then (s.crosses t a).regWrite t a w.data else (s.crosses t a).storeWord a w

/-- Whether a guest may not store at an address (04 R154). -/
def guestBarred (x : Thread) (a : Nat) : Bool := !x.mode && inRegs a

/-- Whether a word of KEY may not be stored at an address (04 R184). -/
def keyBarred (g : Tag) (a : Nat) : Bool := g == .key && (inRegs a || Region.gnss.holds a)

end Sys2Proof.Machine
end

