-- ==== Sys2Proof/Machine/Block.lean ====
section
/-! DEFINITION. Block instructions, one chunk step at a time (04 R153, R154, R184, R185, R720, R721; 05 R217 to R221, Table 5.6). -/

namespace Sys2Proof.Machine

/-- Whether a block instruction is executed: with TSW.BIP = 1 it goes on where it stood, its condition not judged anew (log 67). -/
def State.blockGoes (s : State) (t : ThreadId) (c : Cond) (ra : Reg) : Bool := (s.thr t).bip || condHolds (s.thr t) c ra

/-- The course of a block instruction. `body` is told what an access of the chunk was issued as before, where one waited (02 R87; 03 R135;
07 R307). -/
def State.blockInstr (s : State) (t : ThreadId) (c : Cond) (ra : Reg) (body : State → Held → Did) : Res :=
  s.fetched t (fun s =>
    let h := (s.thr t).issued
    let s0 := s.unissue t
    if s.blockGoes t c ra then State.conclude t h (body s0 h) else ok (s0.skip t))

/-- The bytes of the next chunk step (05 R217). -/
def chunkLen (rb : Word) : Nat := min 64 rb.toNat

/-- The addresses of the words of a chunk. -/
def chunkAddrs (a : Word) (n : Nat) : List Nat := (List.range (n / 4)).map (fun i => (a + BitVec.ofNat 32 (4 * i)).toNat)

/-- The first operand whose tag is not permitted, as a fault (04 R720). -/
def operandFault : List (Tag × Bool) → Option FaultCode
  | [] => none
  | (g, good) :: r => if good then operandFault r else some (tagFault [g])

/-- R185 over a count and the address operands: the address that is not aligned, 0 where the count is to blame. -/
def blockAlign (count : Word) (addrs : List Word) : Option Word :=
  match addrs.find? (fun a => a.toNat % 4 != 0) with
  | some a => some a
  | none => if count.toNat % 4 ≠ 0 then some 0 else none

/-- The first byte that a guest's chunk would store into a set-up block or CAL (04 R154). -/
def chunkBarred (x : Thread) (base : TWord) (n : Nat) : Option Word :=
  if base.tag = .addr then ((List.range n).map (fun i => base.data + BitVec.ofNat 32 i)).find? (fun a => guestBarred x a.toNat)
  else none

/-- A fault over a store that a guest may not make, ahead of anything else (04 R154, R193). -/
def State.ifBarred (s : State) (o : Option Word) (d : Did) : Did :=
  match o with
  | some a => .fault s .priv a
  | none => d

/-- The first word of a chunk's source that cannot be read. -/
def State.chunkRead (s : State) (held : Held) (t : ThreadId) (l : List Nat) : Option Did :=
  l.findSome? (fun a => s.reached a (s.thrRead held (ownBurst t) a 4))

/-- The first word of a chunk's destination that cannot be written; `kept` is what a fault leaves of the chunk's reads. -/
def State.chunkWrite (s : State) (held : Held) (t : ThreadId) (l : List Nat) (kept : State) : Option Did :=
  (l.findSome? (fun a => s.reached a (s.thrWrite held (ownBurst t) a 4))).map (fun d =>
    match d with
    | .fault _ f x => .fault kept f x
    | e => e)

/-- The words of a chunk, read in ascending order, with what the reads do. -/
def State.chunkLoad (s : State) (t : ThreadId) : List Nat → List TWord × State
  | [] => ([], s)
  | a :: r =>
    let (w, s1) := s.loadWord t a
    let (ws, s2) := State.chunkLoad s1 t r
    (w :: ws, s2)

/-- Words stored in ascending order. -/
def State.chunkStore (s : State) (t : ThreadId) (l : List (Nat × TWord)) : State := l.foldl (fun acc p => acc.storeAt t p.1 p.2) s

/-- A chunk step's end (05 R218, R219): the instruction stays with BIP = 1 while bytes are left. -/
def Thread.chunkEnd (x : Thread) (left : Word) : Thread :=
  if left = 0 then { x with bip := false, pc := x.pc + 4 } else { x with bip := true }

/-- Registers updated in the order rd, ra, rb (05 Table 5.6). -/
def Thread.chunkRegs (x : Thread) (rd ra rb : Reg) (d a b : TWord) : Thread := ((x.put rd d).put ra a).put rb b

/-- A pointer moved over a chunk. -/
def TWord.advance (w : TWord) (n : Nat) : TWord := ⟨w.data + BitVec.ofNat 32 n, w.tag⟩

/-- A count less a chunk. -/
def TWord.drop (w : TWord) (n : Nat) : TWord := ⟨w.data - BitVec.ofNat 32 n, w.tag⟩

/-- A count of zero: the instruction completes with no memory access and no register written (05 R219; that BCRC does not even retag its rd is
DEDUCED, log 120). -/
def State.blockNone (s : State) (t : ThreadId) : Did := .done (s.setThr t ((s.thr t).chunkEnd 0))

/-- What a block instruction's checks come to before its data accesses (04 R720, R185; 05 R219): a fault, the end of a count of zero, or
none. A count of zero with an address that is not aligned faults: the checks of item 5 of R193 come before anything completes (DEDUCED, log
132). -/
def State.blockStop (s : State) (t : ThreadId) (tags : List (Tag × Bool)) (count : Word) (addrs : List Word) : Option Did :=
  match operandFault tags with
  | some f => some (.fault s f 0)
  | none =>
    match blockAlign count addrs with
    | some a => some (.fault s .align a)
    | none => if count = 0 then some (s.blockNone t) else none

/-- BCOPY's chunk step (05 R220). A fault undoes what reads of set-up registers did (04 R192). -/
def State.copyChunk (s : State) (held : Held) (t : ThreadId) (rd ra rb : Reg) : Did :=
  let x := s.thr t
  let d := x.get rd
  let a := x.get ra
  let b := x.get rb
  let n := chunkLen b.data
  s.ifBarred (chunkBarred x d n) <|
    match s.blockStop t [(d.tag, d.tag == .addr), (a.tag, a.tag == .addr), (b.tag, b.tag == .int)] b.data [d.data, a.data] with
    | some e => e
    | none =>
      match s.chunkRead held t (chunkAddrs a.data n) with
      | some e => e
      | none =>
        let (ws, s1) := s.chunkLoad t (chunkAddrs a.data n)
        let l := (chunkAddrs d.data n).zip ws
        let kept := if inRegs a.data.toNat then s else s1
        if l.any (fun p => keyBarred p.2.tag p.1) then .fault kept .tagKey 0
        else
          match s.chunkWrite held t (chunkAddrs d.data n) kept with
          | some e => e
          | none =>
            let y := ((s1.thr t).chunkRegs rd ra rb (d.advance n) (a.advance n) (b.drop n)).chunkEnd (b.drop n).data
            .done ((s1.setThr t y).chunkStore t l)

/-- BFILL's chunk step (04 Table 4.13). -/
def State.fillChunk (s : State) (held : Held) (t : ThreadId) (rd ra rb : Reg) : Did :=
  let x := s.thr t
  let d := x.get rd
  let a := x.get ra
  let b := x.get rb
  let n := chunkLen b.data
  s.ifBarred (chunkBarred x d n) <|
    match s.blockStop t [(d.tag, d.tag == .addr), (a.tag, a.tag != .key), (b.tag, b.tag == .int)] b.data [d.data] with
    | some e => e
    | none =>
      match s.chunkWrite held t (chunkAddrs d.data n) s with
      | some e => e
      | none =>
        let y := (((s.thr t).put rd (d.advance n)).put rb (b.drop n)).chunkEnd (b.drop n).data
        .done ((s.setThr t y).chunkStore t ((chunkAddrs d.data n).map (fun p => (p, a))))

/-- BCRC's chunk step (04 R178, R701): the register is the initial and the final value. A count of zero leaves rd, tag and all (DEDUCED, log
120). A word that cannot be read is reported before one tagged KEY (DEDUCED, log 76). -/
def State.crcChunk (s : State) (held : Held) (t : ThreadId) (rd ra rb : Reg) : Did :=
  let x := s.thr t
  let d := x.get rd
  let a := x.get ra
  let b := x.get rb
  let n := chunkLen b.data
  match s.blockStop t [(d.tag, d.tag == .int || d.tag == .raw), (a.tag, a.tag == .addr), (b.tag, b.tag == .int)] b.data [a.data] with
  | some e => e
  | none =>
    match s.chunkRead held t (chunkAddrs a.data n) with
    | some e => e
    | none =>
      let (ws, s1) := s.chunkLoad t (chunkAddrs a.data n)
      if ws.any (fun w => w.tag == .key) then .fault s1 .tagKey 0
      else
        let crc := crc32Run d.data (ws.flatMap (fun w => wordBytes w.data))
        let y := ((s1.thr t).chunkRegs rd ra rb ⟨crc, .int⟩ (a.advance n) (b.drop n)).chunkEnd (b.drop n).data
        .done (s1.setThr t y)

/-- BRETAG's chunk step to a tag (04 Table 4.3, R721): of several faults of a chunk a read's is reported first, then TAG_KEY, then a write's
(DEDUCED, log 76). -/
def State.retagChunk (s : State) (held : Held) (t : ThreadId) (rd ra rb : Reg) (g : Option Tag) : Did :=
  let x := s.thr t
  let d := x.get rd
  let a := x.get ra
  let b := x.get rb
  let n := chunkLen b.data
  if g.any Tag.minted && !x.mode then .fault s .priv 0
  else s.ifBarred (chunkBarred x d n) <|
    match s.blockStop t [(d.tag, d.tag == .addr), (a.tag, a.tag == .int), (b.tag, b.tag == .int)] b.data [d.data] with
    | some e => e
    | none =>
      match s.chunkRead held t (chunkAddrs d.data n) with
      | some e => e
      | none =>
        let (ws, s1) := s.chunkLoad t (chunkAddrs d.data n)
        if ws.any (fun w => w.tag == .key) then .fault s1 .tagKey 0
        else
          match s.chunkWrite held t (chunkAddrs d.data n) s1 with
          | some e => e
          | none =>
            let y := (((s1.thr t).put rd (d.advance n)).put rb (b.drop n)).chunkEnd (b.drop n).data
            .done ((s1.setThr t y).chunkStore t
              ((chunkAddrs d.data n).zip (ws.map (fun w => ⟨w.data, g.getD .int⟩))))

/-- BCOPY (05 R217 to R221). -/
def execBcopy (t : ThreadId) (c : Cond) (rd ra rb : Reg) (s : State) : Res :=
  s.blockInstr t c ra (fun s0 h => s0.copyChunk h t rd ra rb)
/-- BFILL. -/
def execBfill (t : ThreadId) (c : Cond) (rd ra rb : Reg) (s : State) : Res :=
  s.blockInstr t c ra (fun s0 h => s0.fillChunk h t rd ra rb)
/-- BCRC. -/
def execBcrc (t : ThreadId) (c : Cond) (rd ra rb : Reg) (s : State) : Res :=
  s.blockInstr t c ra (fun s0 h => s0.crcChunk h t rd ra rb)

/-- Whether BRETAG's target tag, in an INT register, is one that no RETAG produces (04 R153, R721). -/
def Thread.badTarget (x : Thread) (ra : Reg) : Bool :=
  (x.get ra).tag == .int && (retagTarget ((x.get ra).data.toNat % 16)).isNone

/-- BRETAG (04 R721): a reserved target makes an executed word a reserved one. -/
def execBretag (t : ThreadId) (c : Cond) (rd ra rb : Reg) (s : State) : Res :=
  if s.blockGoes t c ra && (s.thr t).badTarget ra then s.reservedRes t
  else
    s.blockInstr t c ra (fun s0 h =>
      let a := (s0.thr t).get ra
      s0.retagChunk h t rd ra rb (if a.tag = .int then retagTarget (a.data.toNat % 16) else none))

end Sys2Proof.Machine
end

