-- ==== Sys2Proof/Machine/Boot.lean ====
section
/-! DEFINITION. The boot ROM's hand-off (05 R243 to R248, R722, Table 5.8; 07 R330; 14 R610). -/

namespace Sys2Proof.Machine

/-- Where the header of a bank lies. -/
def headerAt (bank : Nat) : Nat := 0x08000000 + bank * 0x200000

/-- Whether some unit of a range cannot be read (07 R330); region modes refuse nothing here (05 R722). -/
def State.romFails (s : State) (a n : Nat) : Bool := n != 0 && s.unitsFail a n

/-- A header word. -/
def State.hdrWord (s : State) (bank off : Nat) : Word := bytesWord (s.engBytes (headerAt bank + off) 4)

/-- CRC-32 as BCRC computes it from 0xFFFF_FFFF over a range (05 Table 5.8). -/
def State.romCrc (s : State) (a n : Nat) : Word := crc32Run 0xFFFFFFFF#32 (s.engBytes a n)

/-- Whether a bank's header passes the checks that every start makes (05 R243). -/
def State.headerGood (s : State) (bank : Nat) : Bool :=
  let len := (s.hdrWord bank 0x10).toNat
  let gen := (s.hdrWord bank 0x14).toNat
  !s.romFails (headerAt bank) 32 && s.hdrWord bank 0x00 == 0x464C5455 && s.hdrWord bank 0x1C == s.romCrc (headerAt bank) 28 &&
    (gen == 0 || gen == s.fld F.IDN_GEN_GEN) && len % 4 == 0 && len ≤ 0x200000 - 32

/-- Whether a bank's image passes the check of a cold start (05 R243). -/
def State.imageGood (s : State) (bank : Nat) : Bool :=
  let len := (s.hdrWord bank 0x10).toNat
  !s.romFails (headerAt bank + 32) len && s.hdrWord bank 0x18 == s.romCrc (headerAt bank + 32) len

/-- A start is warm when PWR_STAT.LAST reads 0 or 1 (05 R244). -/
def State.warmStart (s : State) : Bool := s.fld F.PWR_STAT_LAST ≤ 1

/-- Whether a bank can be booted from (05 R243). -/
def State.bootable (s : State) (bank : Nat) : Bool :=
  (bank == 0 || s.has .bankB) && s.headerGood bank && (s.warmStart || s.imageGood bank)

/-- Whether word `a` precedes word `b` (01 R31). -/
def precedes (a b : Word) : Bool := (b - a) != 0 && decide ((b - a).toNat < 2 ^ 31)

/-- The bank that the boot ROM selects (05 R245). -/
def State.bootBank (s : State) : Option Nat :=
  match s.bootable 0, s.bootable 1 with
  | true, true => some (if precedes (s.hdrWord 0 0x04) (s.hdrWord 1 0x04) then 1 else 0)
  | true, false => some 0
  | false, true => some 1
  | false, false => none

/-- What the boot ROM's reads of a bank leave in the error registers (07 R332): its header, and the image of a good header at a cold
start. -/
def State.afterBank (s : State) (bank : Nat) : State :=
  if bank = 0 ∨ s.has .bankB = true then
    let s1 := s.noteRead (headerAt bank) 32
    if s.headerGood bank && !s.warmStart then s1.noteRead (headerAt bank + 32) (s.hdrWord bank 0x10).toNat else s1
  else s

/-- Where the image is entered (05 R246). -/
def State.bootEntry (s : State) (bank : Nat) : Word :=
  let warm := s.hdrWord bank 0x0C
  BitVec.ofNat 32 (headerAt bank) + (if s.warmStart && warm != 0 then warm else s.hdrWord bank 0x08)

/-- Thread 0 at hand-off (05 R246). -/
def State.bootThread (s : State) (bank : Nat) : Thread :=
  let x := s.thr 0
  let y : Thread := { x with regs := startRegs s.free, z := false, n := false, c := false, v := false, mode := true, bip := false,
                             pc := s.bootEntry bank }
  (((y.put 1 ⟨BitVec.ofNat 32 (headerAt bank), .addr⟩).put 2 ⟨s.reg F.PWR_RCAUSE_CAUSE.addr, .int⟩).put 3
    ⟨s.reg F.PWR_WAKE_SRC.addr, .int⟩).put 4 ⟨if s.warmStart then 1 else 0, .int⟩

/-- Whether the boot ROM's reads can go ahead: flash is readable and no bank is busy or held (02 R76; 05 R722; 07 R328). -/
def State.romReady (s : State) : Bool :=
  s.flag F.PWR_STAT_FLRDY && [0, 1].all (fun b => !s.bankBusy b && !s.bankHeld b)

/-- BOOT_HANDOFF (05 R243 to R248): the headers are judged and thread 0 enters the selected image, or the boot ROM enters host recovery. -/
def execBootHandoff (s : State) : Res :=
  if s.steadyRuns && s.boot == .rom && s.romReady then
    let s1 := (s.afterBank 0).afterBank 1
    match s.bootBank with
    | some b => ok (({ s1 with boot := .done }.setThr 0 (s.bootThread b)).fresh)
    | none => ok { s1.freshCut.cspRecovery with boot := .recovery }
  else ok s

end Sys2Proof.Machine
end

