-- ==== Sys2Proof/Decode.lean ====
section
/-! DEFINITION. The Flitu words: the decoder of the long and the paired form (04 R167 to R172, Tables 4.6 to 4.9), total on every word, and
its encoder. The block's own commands have no encoding: decodeTableWord answers none. -/

namespace Sys2Proof

/-- The command that a word spells by the bits of spec/opcode_table.json: no row of the table gives bits. -/
def decodeTableWord (_nbits _w : Nat) : Option Instr := none

/-! ### Fields -/

/-- The register that bits [lo+4:lo] name. -/
def regAt (w : Word) (lo : Nat) : Reg := ⟨(w.extractLsb' lo 5).toNat, (w.extractLsb' lo 5).isLt⟩

/-- The five bits of a register. -/
def regBits (r : Reg) : BitVec 5 := BitVec.ofFin r

/-- The conditions by code (04 Table 4.5). -/
def condOf (c : BitVec 4) : Cond :=
  match c.toNat with
  | 0x0 => .al | 0x1 => .eq | 0x2 => .ne | 0x3 => .cs | 0x4 => .cc | 0x5 => .mi | 0x6 => .pl | 0x7 => .vs
  | 0x8 => .vc | 0x9 => .hi | 0xA => .ls | 0xB => .ge | 0xC => .lt | 0xD => .gt | 0xE => .le | _ => .tv

/-- The code of a condition (04 Table 4.5). -/
def Cond.bits : Cond → BitVec 4
  | .al => 0x0 | .eq => 0x1 | .ne => 0x2 | .cs => 0x3 | .cc => 0x4 | .mi => 0x5 | .pl => 0x6 | .vs => 0x7
  | .vc => 0x8 | .hi => 0x9 | .ls => 0xA | .ge => 0xB | .lt => 0xC | .gt => 0xD | .le => 0xE | .tv => 0xF

/-- Whether a RETAG may name this target: a defined tag other than KEY (04 R153, Table 4.3). -/
def tagNames (g : BitVec 4) : Bool := decide (g.toNat < 8) && g != 4#4

/-! ### The long form (04 Table 4.6) -/

/-- A word of format L3. -/
def wordL3 (c : Cond) (op : BitVec 7) (rd ra rb : Reg) : Word :=
  0#1 ++ c.bits ++ op ++ regBits rd ++ regBits ra ++ regBits rb ++ 0#5
/-- A word of format LI. -/
def wordLI (c : Cond) (op : BitVec 7) (rd ra : Reg) (imm : BitVec 10) : Word := 0#1 ++ c.bits ++ op ++ regBits rd ++ regBits ra ++ imm
/-- A word of format LW. -/
def wordLW (c : Cond) (op : BitVec 7) (rd : Reg) (imm : BitVec 15) : Word := 0#1 ++ c.bits ++ op ++ regBits rd ++ imm
/-- A word of format LB; with condition TV the top five bits of the offset field name the tested register. -/
def wordLB (c : Cond) (op : BitVec 7) (off : BitVec 20) : Word := 0#1 ++ c.bits ++ op ++ off

/-- A long opcode with its fields read (04 Table 4.8): none for a reserved word (R168, R178). -/
def decodeOp (op : Nat) (t : ThreadId) (c : Cond) (rd ra rb : Reg) (low : BitVec 5) (imm : BitVec 10) (imm15 : BitVec 15)
    (off : BitVec 20) : Option Instr :=
  match op with
  | 0x00 => if low = 0 then some (.add t c rd ra rb) else none
  | 0x01 => if low = 0 then some (.sub t c rd ra rb) else none
  | 0x02 => if low = 0 then some (.and t c rd ra rb) else none
  | 0x03 => if low = 0 then some (.or t c rd ra rb) else none
  | 0x04 => if low = 0 then some (.xor t c rd ra rb) else none
  | 0x05 => if low = 0 then some (.shl t c rd ra rb) else none
  | 0x06 => if low = 0 then some (.shr t c rd ra rb) else none
  | 0x07 => if low = 0 then some (.sar t c rd ra rb) else none
  | 0x08 => if low = 0 then some (.mul t c rd ra rb) else none
  | 0x09 => if low = 0 then some (.mulhu t c rd ra rb) else none
  | 0x0A => if low = 0 then some (.mulhs t c rd ra rb) else none
  | 0x0B => if low = 0 then some (.divu t c rd ra rb) else none
  | 0x0C => if low = 0 then some (.divs t c rd ra rb) else none
  | 0x0D => if low = 0 then some (.remu t c rd ra rb) else none
  | 0x0E => if low = 0 then some (.rems t c rd ra rb) else none
  | 0x0F => if low = 0 ∧ rb = 0 then some (.mov t c rd ra) else none
  | 0x10 => some (.addi t c rd ra imm)
  | 0x11 => some (.andi t c rd ra imm)
  | 0x12 => some (.ori t c rd ra imm)
  | 0x13 => some (.xori t c rd ra imm)
  | 0x14 => if imm.extractLsb' 5 5 = 0 then some (.shli t c rd ra (imm.extractLsb' 0 5)) else none
  | 0x15 => if imm.extractLsb' 5 5 = 0 then some (.shri t c rd ra (imm.extractLsb' 0 5)) else none
  | 0x16 => if imm.extractLsb' 5 5 = 0 then some (.sari t c rd ra (imm.extractLsb' 0 5)) else none
  | 0x17 => if imm.extractLsb' 4 6 = 0 ∧ tagNames (imm.extractLsb' 0 4) = true then some (.retag t c rd ra (imm.extractLsb' 0 4)) else none
  | 0x18 => if low = 0 ∧ rd = 0 then some (.cmp t c ra rb) else none
  | 0x19 => if rd = 0 then some (.cmpi t c ra imm) else none
  | 0x1A => if low = 0 ∧ rd = 0 then some (.tst t c ra rb) else none
  | 0x1B => if low = 0 ∧ rb = 0 then some (.tagof t c rd ra) else none
  | 0x1C => some (.orl t c rd (0#1 ++ imm15))
  | 0x1D => some (.orl t c rd (1#1 ++ imm15))
  | 0x1E => some (.movh t c rd (0#1 ++ imm15))
  | 0x1F => some (.movh t c rd (1#1 ++ imm15))
  | 0x20 => some (.ldw t c rd ra imm)
  | 0x21 => some (.stw t c rd ra imm)
  | 0x22 => some (.ldhu t c rd ra imm)
  | 0x23 => some (.ldhs t c rd ra imm)
  | 0x24 => some (.ldbu t c rd ra imm)
  | 0x25 => some (.ldbs t c rd ra imm)
  | 0x26 => some (.sth t c rd ra imm)
  | 0x27 => some (.stb t c rd ra imm)
  | 0x28 => if low = 0 then some (.ldwx t c rd ra rb) else none
  | 0x29 => if low = 0 then some (.stwx t c rd ra rb) else none
  | 0x30 => some (.b t c off)
  | 0x31 => some (.bl t c off)
  | 0x32 => if low = 0 ∧ rd = 0 ∧ rb = 0 then some (.jr t c ra) else none
  | 0x33 => if low = 0 ∧ rb = 0 then some (.jlr t c rd ra) else none
  | 0x34 => if rd = 0 then some (.sys t c imm15) else none
  | 0x35 => if low = 0 ∧ rd = 0 ∧ ra = 0 ∧ rb = 0 then some (.wret t c) else none
  | 0x36 => if low = 0 ∧ rb = 0 then some (.wait t c rd ra) else none
  | 0x37 => if low = 0 then some (.send t c rd ra rb) else none
  | 0x38 => if low = 0 then some (.bcopy t c rd ra rb) else none
  | 0x39 => if low = 0 then some (.bfill t c rd ra rb) else none
  | 0x3A => if low = 0 then some (.bcrc t c rd ra rb) else none
  | 0x3B => if low = 0 then some (.bretag t c rd ra rb) else none
  | 0x3C => if ra = 0 then some (.mfs t c rd (imm.extractLsb' 0 4)) else none
  | 0x3D => if rd = 0 then some (.mts t c ra (imm.extractLsb' 0 4)) else none
  | 0x3E => if ra = 0 then some (.mkkey t c rd (imm.extractLsb' 0 4)) else none
  | 0x3F => some (.adrc t c rd imm15)
  | _ => none

/-- A word of the long form: none for a reserved word. -/
def decodeLong (t : ThreadId) (w : Word) : Option Instr :=
  decodeOp (w.extractLsb' 20 7).toNat t (condOf (w.extractLsb' 27 4)) (regAt w 15) (regAt w 10) (regAt w 5) (w.extractLsb' 0 5)
    (w.extractLsb' 0 10) (w.extractLsb' 0 15) (w.extractLsb' 0 20)

/-- The word of a long instruction; none for a command that is no long instruction. -/
def encode : Instr → Option Word
  | .add _ c rd ra rb => some (wordL3 c 0x00 rd ra rb)
  | .sub _ c rd ra rb => some (wordL3 c 0x01 rd ra rb)
  | .and _ c rd ra rb => some (wordL3 c 0x02 rd ra rb)
  | .or _ c rd ra rb => some (wordL3 c 0x03 rd ra rb)
  | .xor _ c rd ra rb => some (wordL3 c 0x04 rd ra rb)
  | .shl _ c rd ra rb => some (wordL3 c 0x05 rd ra rb)
  | .shr _ c rd ra rb => some (wordL3 c 0x06 rd ra rb)
  | .sar _ c rd ra rb => some (wordL3 c 0x07 rd ra rb)
  | .mul _ c rd ra rb => some (wordL3 c 0x08 rd ra rb)
  | .mulhu _ c rd ra rb => some (wordL3 c 0x09 rd ra rb)
  | .mulhs _ c rd ra rb => some (wordL3 c 0x0A rd ra rb)
  | .divu _ c rd ra rb => some (wordL3 c 0x0B rd ra rb)
  | .divs _ c rd ra rb => some (wordL3 c 0x0C rd ra rb)
  | .remu _ c rd ra rb => some (wordL3 c 0x0D rd ra rb)
  | .rems _ c rd ra rb => some (wordL3 c 0x0E rd ra rb)
  | .mov _ c rd ra => some (wordL3 c 0x0F rd ra 0)
  | .addi _ c rd ra i => some (wordLI c 0x10 rd ra i)
  | .andi _ c rd ra i => some (wordLI c 0x11 rd ra i)
  | .ori _ c rd ra i => some (wordLI c 0x12 rd ra i)
  | .xori _ c rd ra i => some (wordLI c 0x13 rd ra i)
  | .shli _ c rd ra i => some (wordLI c 0x14 rd ra (0#5 ++ i))
  | .shri _ c rd ra i => some (wordLI c 0x15 rd ra (0#5 ++ i))
  | .sari _ c rd ra i => some (wordLI c 0x16 rd ra (0#5 ++ i))
  | .retag _ c rd ra i => some (wordLI c 0x17 rd ra (0#6 ++ i))
  | .cmp _ c ra rb => some (wordL3 c 0x18 0 ra rb)
  | .cmpi _ c ra i => some (wordLI c 0x19 0 ra i)
  | .tst _ c ra rb => some (wordL3 c 0x1A 0 ra rb)
  | .tagof _ c rd ra => some (wordL3 c 0x1B rd ra 0)
  | .orl _ c rd i => some (wordLW c (if i.msb then 0x1D else 0x1C) rd (i.extractLsb' 0 15))
  | .movh _ c rd i => some (wordLW c (if i.msb then 0x1F else 0x1E) rd (i.extractLsb' 0 15))
  | .ldw _ c rd ra i => some (wordLI c 0x20 rd ra i)
  | .stw _ c rd ra i => some (wordLI c 0x21 rd ra i)
  | .ldhu _ c rd ra i => some (wordLI c 0x22 rd ra i)
  | .ldhs _ c rd ra i => some (wordLI c 0x23 rd ra i)
  | .ldbu _ c rd ra i => some (wordLI c 0x24 rd ra i)
  | .ldbs _ c rd ra i => some (wordLI c 0x25 rd ra i)
  | .sth _ c rd ra i => some (wordLI c 0x26 rd ra i)
  | .stb _ c rd ra i => some (wordLI c 0x27 rd ra i)
  | .ldwx _ c rd ra rb => some (wordL3 c 0x28 rd ra rb)
  | .stwx _ c rd ra rb => some (wordL3 c 0x29 rd ra rb)
  | .b _ c off => some (wordLB c 0x30 off)
  | .bl _ c off => some (wordLB c 0x31 off)
  | .jr _ c ra => some (wordL3 c 0x32 0 ra 0)
  | .jlr _ c rd ra => some (wordL3 c 0x33 rd ra 0)
  | .sys _ c i => some (wordLW c 0x34 0 i)
  | .wret _ c => some (wordL3 c 0x35 0 0 0)
  | .wait _ c rd ra => some (wordL3 c 0x36 rd ra 0)
  | .send _ c rd ra rb => some (wordL3 c 0x37 rd ra rb)
  | .bcopy _ c rd ra rb => some (wordL3 c 0x38 rd ra rb)
  | .bfill _ c rd ra rb => some (wordL3 c 0x39 rd ra rb)
  | .bcrc _ c rd ra rb => some (wordL3 c 0x3A rd ra rb)
  | .bretag _ c rd ra rb => some (wordL3 c 0x3B rd ra rb)
  | .mfs _ c rd i => some (wordLI c 0x3C rd 0 (0#6 ++ i))
  | .mts _ c ra i => some (wordLI c 0x3D 0 ra (0#6 ++ i))
  | .mkkey _ c rd i => some (wordLI c 0x3E rd 0 (0#6 ++ i))
  | .adrc _ c rd i => some (wordLW c 0x3F rd i)
  | .registerWrite _ _ _ => none
  | .sealGo _ _ => none
  | .sealCommit _ => none
  | .periodicSweepDue => none
  | .auditGo => none
  | .waitingSweepStart => none
  | .sweepAccountCheck => none
  | .windowAge _ => none
  | .ldgSelCapture _ => none
  | .spanRequest _ _ => none
  | .spanAcknowledge _ _ => none
  | .enterLowerState => none
  | .dimWake => none
  | .bootRomStart => none
  | .bootHandoff => none
  | .flashReady => none
  | .burstOn => none
  | .burstLit => none
  | .burstOff => none
  | .burstAutoDark => none
  | .islandLit _ => none
  | .lightFail _ => none
  | .islandIdleDark _ => none
  | .quiesce _ => none
  | .quiesceDrainEnd _ => none
  | .islandReset _ => none
  | .softReset _ => none
  | .resetnQualify _ => none
  | .resetnRelease => none
  | .powerOn _ => none
  | .brownOut => none
  | .xt32Fail _ => none
  | .xt32Confirmed => none
  | .vigilClockSwitch => none
  | .xt32mFail _ => none
  | .xt32mConfirmed _ => none
  | .fllRefSwitch => none
  | .pairedWord _ _ => none
  | .waitWake _ => none
  | .reservedWord _ _ => none
  | .threadStart _ => none
  | .threadStop _ => none
  | .evtTringWrite _ _ => none
  | .evtTovfClr _ => none
  | .snuff => none
  | .ringEnable _ _ => none
  | .ringDisable _ => none
  | .ringDrainEnd _ => none
  | .completionWrite _ => none
  | .queOvpClr => none
  | .program => none
  | .erase => none
  | .verify => none
  | .flashUnitProgrammed _ => none
  | .flashSectorErased _ => none
  | .suspend => none
  | .flashPaused => none
  | .resume => none
  | .reservationProgram _ => none
  | .scrubRead _ => none
  | .scrubForcedHoldEnd => none
  | .scrubReportDesc => none
  | .flcEccClr => none
  | .tmbLoRead _ => none
  | .timeBaseTick => none
  | .cmpValWrite _ _ => none
  | .cmpRel _ _ => none
  | .compareWriteApply _ => none
  | .compareFire _ => none
  | .ppsCapture => none
  | .counterRun _ => none
  | .counterIncrement _ => none
  | .counterCapture _ => none
  | .cntCmpvWrite _ _ => none
  | .cntCrel _ _ => none
  | .cntCountWrite _ _ => none
  | .calFreezeRead => none
  | .calCloseRead => none
  | .heldlong => none
  | .calendarSubCarry _ _ => none
  | .calSetWrite _ _ => none
  | .backupOscFail _ => none
  | .backupStateLoss => none
  | .supplySwitchVbak => none
  | .supplySwitchVdd => none
  | .backupSenseCheck _ _ => none
  | .tamperLatchClear _ => none
  | .tx => none
  | .rx => none
  | .lantern => none
  | .lsearch => none
  | .cal => none
  | .alloc => none
  | .free => none
  | .radioOpBegin => none
  | .syncDetect _ => none
  | .lanternDetect _ _ => none
  | .radioOpEnd => none
  | .radioCalibrate _ _ _ => none
  | .synthUnlock _ => none
  | .sniffLead => none
  | .sniffWindow _ => none
  | .sniffWindowEnd => none
  | .dutyWindowStart _ => none
  | .sendDesc => none
  | .meshAdmit => none
  | .evict => none
  | .wakereq => none
  | .propose => none
  | .meshRecv => none
  | .meshNote => none
  | .meshRunStart => none
  | .meshRunStop => none
  | .slotBoundary => none
  | .cycleBoundary => none
  | .meshFrameReceived _ => none
  | .ackSend => none
  | .ackJudge _ => none
  | .slotEnd => none
  | .searchLantern _ => none
  | .holidayCommit => none
  | .holidaySleep => none
  | .holidayEnd => none
  | .floodEnd => none
  | .mshCntclr => none
  | .cipLockClaim _ => none
  | .cipLockRelease _ => none
  | .kload => none
  | .kzero => none
  | .kretire => none
  | .enc => none
  | .dec => none
  | .ccmenc => none
  | .ccmdec => none
  | .cipNpurge _ => none
  | .zeroise _ => none
  | .keyParityFault _ => none
  | .get => none
  | .raw => none
  | .entropyReady => none
  | .healthFail _ => none
  | .entropyRestart => none
  | .snap => none
  | .snapBegin => none
  | .snapEnd _ => none
  | .start => none
  | .stop => none
  | .meas => none
  | .nav => none
  | .gnssNote => none
  | .ferdy => none
  | .epochBoundary _ => none
  | .navWord _ _ _ _ _ => none
  | .ppsPulse _ => none
  | .ppsEnable _ => none
  | .ppsFix _ => none
  | .ppsAdj _ => none
  | .holdoverEntry => none
  | .tcxoFail _ => none
  | .tcxoReturn => none
  | .sselFall => none
  | .nop _ => none
  | .write _ => none
  | .read _ => none
  | .record _ => none
  | .go _ => none
  | .frameDiscard => none
  | .cspRecv => none
  | .xfer _ => none
  | .drop => none
  | .cspSclr => none
  | .lineEnable _ => none
  | .search _ => none
  | .check _ => none
  | .tagRecv => none
  | .presenceCheck _ _ => none
  | .searchResume => none
  | .searchPauseTimeout => none
  | .move => none
  | .endStop _ _ _ => none
  | .stall _ _ => none
  | .moveTimeout _ _ => none
  | .brakeEnd _ => none
  | .overcur _ _ => none
  | .vmotlow _ => none
  | .tamperChip _ _ => none
  | .tamperNoticeDesc => none
  | .loopRearm _ => none
  | .pinSet _ => none
  | .pinClr _ => none
  | .pinEdge _ _ => none
  | .fetchFault _ => none
  | .reservedKindFrame _ => none
  | .fobAttached _ _ _ => none
  | .fobRemoved _ _ => none
  | .fllLocked _ => none

/-! ### The paired form (04 Tables 4.7 and 4.9) -/

/-- A register g0 to g15 of a short operation. -/
abbrev SReg := Fin 16

/-- A short operation. -/
inductive Short where
  | nop
  | mov (d s : SReg)
  | add (d s : SReg)
  | sub (d s : SReg)
  | and (d s : SReg)
  | or (d s : SReg)
  | xor (d s : SReg)
  | cmp (d s : SReg)
  | tst (d s : SReg)
  | movi (d : SReg) (imm : BitVec 6)
  | addi (d : SReg) (imm : BitVec 6)
  | cmpi (d : SReg) (imm : BitVec 6)
  | shli (d : SReg) (imm : BitVec 5)
  | shri (d : SReg) (imm : BitVec 5)
  | sari (d : SReg) (imm : BitVec 5)
  | neg (d s : SReg)
  | not (d s : SReg)
  | ldw (d s : SReg) (k : BitVec 2)
  | stw (d s : SReg) (k : BitVec 2)
  | bc (c : Cond) (off : BitVec 6)
  | br (off : BitVec 10)
  | jr (s : SReg)
  | tagof (d s : SReg)
  deriving DecidableEq, Repr

/-- Whether a short operation is one of BC, BR and JR (04 R175). -/
def Short.branches : Short → Bool
  | .bc _ _ => true
  | .br _ => true
  | .jr _ => true
  | _ => false

/-- The short register that bits [lo+3:lo] name. -/
def sregAt (v : BitVec 15) (lo : Nat) : SReg := ⟨(v.extractLsb' lo 4).toNat, (v.extractLsb' lo 4).isLt⟩

/-- The four bits of a short register. -/
def sregBits (r : SReg) : BitVec 4 := BitVec.ofFin r

/-- A short operation of kind Register. -/
def shortReg (sop : BitVec 5) (d s : SReg) (k : BitVec 2) : BitVec 15 := sop ++ sregBits d ++ sregBits s ++ k
/-- A short operation of kind Immediate. -/
def shortImm (sop : BitVec 5) (d : SReg) (imm : BitVec 6) : BitVec 15 := sop ++ sregBits d ++ imm

/-- A short opcode with its fields read (04 Table 4.9): none for a reserved half (R172, R179). -/
def decodeSop (sop : Nat) (d s : SReg) (k : BitVec 2) (imm : BitVec 6) (off10 : BitVec 10) (c : Cond) : Option Short :=
  match sop with
  | 0x00 => if d = 0 ∧ s = 0 ∧ k = 0 then some .nop else none
  | 0x01 => if k = 0 then some (.mov d s) else none
  | 0x02 => if k = 0 then some (.add d s) else none
  | 0x03 => if k = 0 then some (.sub d s) else none
  | 0x04 => if k = 0 then some (.and d s) else none
  | 0x05 => if k = 0 then some (.or d s) else none
  | 0x06 => if k = 0 then some (.xor d s) else none
  | 0x07 => if k = 0 then some (.cmp d s) else none
  | 0x08 => if k = 0 then some (.tst d s) else none
  | 0x09 => some (.movi d imm)
  | 0x0A => some (.addi d imm)
  | 0x0B => some (.cmpi d imm)
  | 0x0C => if imm.msb then none else some (.shli d (imm.extractLsb' 0 5))
  | 0x0D => if imm.msb then none else some (.shri d (imm.extractLsb' 0 5))
  | 0x0E => if imm.msb then none else some (.sari d (imm.extractLsb' 0 5))
  | 0x0F => if k = 0 then some (.neg d s) else none
  | 0x10 => if k = 0 then some (.not d s) else none
  | 0x11 => some (.ldw d s k)
  | 0x12 => some (.stw d s k)
  | 0x13 => if c = .tv then none else some (.bc c imm)
  | 0x14 => some (.br off10)
  | 0x15 => if d = 0 ∧ k = 0 then some (.jr s) else none
  | 0x16 => if k = 0 then some (.tagof d s) else none
  | _ => none

/-- The 15 bits of a short operation: none for a reserved one. -/
def decodeShort (v : BitVec 15) : Option Short :=
  decodeSop (v.extractLsb' 10 5).toNat (sregAt v 6) (sregAt v 2) (v.extractLsb' 0 2) (v.extractLsb' 0 6) (v.extractLsb' 0 10)
    (condOf (v.extractLsb' 6 4))

/-- The 15 bits of a short operation. -/
def encodeShort : Short → BitVec 15
  | .nop => 0
  | .mov d s => shortReg 0x01 d s 0
  | .add d s => shortReg 0x02 d s 0
  | .sub d s => shortReg 0x03 d s 0
  | .and d s => shortReg 0x04 d s 0
  | .or d s => shortReg 0x05 d s 0
  | .xor d s => shortReg 0x06 d s 0
  | .cmp d s => shortReg 0x07 d s 0
  | .tst d s => shortReg 0x08 d s 0
  | .movi d imm => shortImm 0x09 d imm
  | .addi d imm => shortImm 0x0A d imm
  | .cmpi d imm => shortImm 0x0B d imm
  | .shli d imm => shortImm 0x0C d (0#1 ++ imm)
  | .shri d imm => shortImm 0x0D d (0#1 ++ imm)
  | .sari d imm => shortImm 0x0E d (0#1 ++ imm)
  | .neg d s => shortReg 0x0F d s 0
  | .not d s => shortReg 0x10 d s 0
  | .ldw d s k => shortReg 0x11 d s k
  | .stw d s k => shortReg 0x12 d s k
  | .bc c off => (0x13#5) ++ c.bits ++ off
  | .br off => (0x14#5) ++ off
  | .jr s => shortReg 0x15 0 s 0
  | .tagof d s => shortReg 0x16 d s 0

/-! ### Any word -/

/-- What a fetched word is. -/
inductive Decoded where
  | long (i : Instr)
  | pair (a b : Short)
  | illpair
  | reserved
  deriving DecidableEq, Repr

/-- The halves of a paired word (04 R170, R172, R175; 05 R235). A reserved half makes the word a reserved one even where both halves name
branches (DEDUCED, log 121). -/
def decodePair (a b : Option Short) : Decoded :=
  match a, b with
  | some x, some y => if x.branches && y.branches then .illpair else .pair x y
  | _, _ => .reserved

/-- A word of thread `t` (04 R167, R170). One with bit [0] = 1 is ILLPAIR whatever its halves are (DEDUCED, log 121). -/
def decodeWord (t : ThreadId) (w : Word) : Decoded :=
  if w.msb then (if w.getLsbD 0 then .illpair else decodePair (decodeShort (w.extractLsb' 16 15)) (decodeShort (w.extractLsb' 1 15)))
  else
    match decodeLong t w with
    | some i => .long i
    | none => .reserved

/-- A paired word of two short operations (04 R170). -/
def wordPair (a b : Short) : Word := 1#1 ++ encodeShort a ++ encodeShort b ++ 0#1

end Sys2Proof
end

