-- ==== Sys2Proof/Machine/Alu.lean ====
section
/-! DEFINITION. The computing instructions of the long form: L3 and LI arithmetic, RETAG, compares, TAGOF, ORL, MOVH, ADRC (04 Table 4.8). -/

namespace Sys2Proof.Machine

/-! ### What they compute -/

/-- A left shift; an amount of 32 or more gives 0 (04 Table 4.8). -/
def shiftLeft (a : Word) (n : Nat) : Word := if n < 32 then a <<< n else 0
/-- A logical right shift; an amount of 32 or more gives 0 (04 Table 4.8). -/
def shiftRight (a : Word) (n : Nat) : Word := if n < 32 then a >>> n else 0
/-- An arithmetic right shift; an amount of 32 or more gives sign fill (04 Table 4.8). -/
def shiftArith (a : Word) (n : Nat) : Word := a.sshiftRight (min n 31)

/-- The high 32 bits of the unsigned product (04 Table 4.8). -/
def mulHighU (a b : Word) : Word := BitVec.ofNat 32 (a.toNat * b.toNat / 2 ^ 32)
/-- The high 32 bits of the signed product (04 Table 4.8). -/
def mulHighS (a b : Word) : Word := BitVec.ofInt 32 (a.toInt * b.toInt / 2 ^ 32)

/-- The unsigned quotient (04 Table 4.8). -/
def quotU (a b : Word) : Word := if b = 0 then 0xFFFFFFFF else a / b
/-- The signed quotient, toward zero (04 Table 4.8). -/
def quotS (a b : Word) : Word := if b = 0 then 0xFFFFFFFF else a.sdiv b
/-- The unsigned remainder (04 Table 4.8). -/
def remU (a b : Word) : Word := if b = 0 then a else a % b
/-- The signed remainder, with the sign of `a` (04 Table 4.8). -/
def remS (a b : Word) : Word := if b = 0 then a else a.srem b

/-! ### Their course -/

/-- A computation with two register sources (04 R156, R157). -/
def State.alu (s : State) (t : ThreadId) (c : Cond) (rd ra rb : Reg) (tag : Tag → Tag → Option Tag) (f : Word → Word → Word) : Res :=
  s.instr t c ra (fun s0 =>
    let a := (s0.thr t).get ra
    let b := (s0.thr t).get rb
    s0.result t rd (f a.data b.data) (tag a.tag b.tag) [a.tag, b.tag])

/-- A computation with an immediate, which is INT (04 R158). -/
def State.aluImm (s : State) (t : ThreadId) (c : Cond) (rd ra : Reg) (imm : Word) (tag : Tag → Tag → Option Tag)
    (f : Word → Word → Word) : Res :=
  s.instr t c ra (fun s0 =>
    let a := (s0.thr t).get ra
    s0.result t rd (f a.data imm) (tag a.tag .int) [a.tag, .int])

/-- ADD. -/
def execAdd (t : ThreadId) (c : Cond) (rd ra rb : Reg) (s : State) : Res := s.alu t c rd ra rb tagAdd (fun a b => a + b)
/-- SUB. -/
def execSub (t : ThreadId) (c : Cond) (rd ra rb : Reg) (s : State) : Res := s.alu t c rd ra rb tagSub (fun a b => a - b)
/-- AND. -/
def execAnd (t : ThreadId) (c : Cond) (rd ra rb : Reg) (s : State) : Res := s.alu t c rd ra rb tagAnd (fun a b => a &&& b)
/-- OR. -/
def execOr (t : ThreadId) (c : Cond) (rd ra rb : Reg) (s : State) : Res := s.alu t c rd ra rb tagOr (fun a b => a ||| b)
/-- XOR. -/
def execXor (t : ThreadId) (c : Cond) (rd ra rb : Reg) (s : State) : Res := s.alu t c rd ra rb tagOr (fun a b => a ^^^ b)
/-- SHL. -/
def execShl (t : ThreadId) (c : Cond) (rd ra rb : Reg) (s : State) : Res :=
  s.alu t c rd ra rb tagShift (fun a b => shiftLeft a b.toNat)
/-- SHR. -/
def execShr (t : ThreadId) (c : Cond) (rd ra rb : Reg) (s : State) : Res :=
  s.alu t c rd ra rb tagShift (fun a b => shiftRight a b.toNat)
/-- SAR. -/
def execSar (t : ThreadId) (c : Cond) (rd ra rb : Reg) (s : State) : Res :=
  s.alu t c rd ra rb tagShift (fun a b => shiftArith a b.toNat)
/-- MUL. -/
def execMul (t : ThreadId) (c : Cond) (rd ra rb : Reg) (s : State) : Res := s.alu t c rd ra rb tagMul (fun a b => a * b)
/-- MULHU. -/
def execMulhu (t : ThreadId) (c : Cond) (rd ra rb : Reg) (s : State) : Res := s.alu t c rd ra rb tagMul mulHighU
/-- MULHS. -/
def execMulhs (t : ThreadId) (c : Cond) (rd ra rb : Reg) (s : State) : Res := s.alu t c rd ra rb tagMul mulHighS
/-- DIVU. -/
def execDivu (t : ThreadId) (c : Cond) (rd ra rb : Reg) (s : State) : Res := s.alu t c rd ra rb tagMul quotU
/-- DIVS. -/
def execDivs (t : ThreadId) (c : Cond) (rd ra rb : Reg) (s : State) : Res := s.alu t c rd ra rb tagMul quotS
/-- REMU. -/
def execRemu (t : ThreadId) (c : Cond) (rd ra rb : Reg) (s : State) : Res := s.alu t c rd ra rb tagMul remU
/-- REMS. -/
def execRems (t : ThreadId) (c : Cond) (rd ra rb : Reg) (s : State) : Res := s.alu t c rd ra rb tagMul remS

/-- MOV. -/
def execMov (t : ThreadId) (c : Cond) (rd ra : Reg) (s : State) : Res :=
  s.instr t c ra (fun s0 => .done (s0.write t rd ((s0.thr t).get ra)))
/-- TAGOF. -/
def execTagof (t : ThreadId) (c : Cond) (rd ra : Reg) (s : State) : Res :=
  s.instr t c ra (fun s0 => .done (s0.write t rd ⟨BitVec.ofNat 32 ((s0.thr t).get ra).tag.num, .int⟩))

/-- ADDI. -/
def execAddi (t : ThreadId) (c : Cond) (rd ra : Reg) (imm : BitVec 10) (s : State) : Res :=
  s.aluImm t c rd ra (sext 10 imm) tagAdd (fun a b => a + b)
/-- ANDI. -/
def execAndi (t : ThreadId) (c : Cond) (rd ra : Reg) (imm : BitVec 10) (s : State) : Res :=
  s.aluImm t c rd ra (sext 10 imm) tagAnd (fun a b => a &&& b)
/-- ORI. -/
def execOri (t : ThreadId) (c : Cond) (rd ra : Reg) (imm : BitVec 10) (s : State) : Res :=
  s.aluImm t c rd ra (imm.setWidth 32) tagOr (fun a b => a ||| b)
/-- XORI. -/
def execXori (t : ThreadId) (c : Cond) (rd ra : Reg) (imm : BitVec 10) (s : State) : Res :=
  s.aluImm t c rd ra (imm.setWidth 32) tagOr (fun a b => a ^^^ b)
/-- SHLI. -/
def execShli (t : ThreadId) (c : Cond) (rd ra : Reg) (imm : BitVec 5) (s : State) : Res :=
  s.aluImm t c rd ra (imm.setWidth 32) tagShift (fun a b => shiftLeft a b.toNat)
/-- SHRI. -/
def execShri (t : ThreadId) (c : Cond) (rd ra : Reg) (imm : BitVec 5) (s : State) : Res :=
  s.aluImm t c rd ra (imm.setWidth 32) tagShift (fun a b => shiftRight a b.toNat)
/-- SARI. -/
def execSari (t : ThreadId) (c : Cond) (rd ra : Reg) (imm : BitVec 5) (s : State) : Res :=
  s.aluImm t c rd ra (imm.setWidth 32) tagShift (fun a b => shiftArith a b.toNat)

/-- RETAG (04 R153, R154, R160, Table 4.3): a reserved target makes the word a reserved one whatever its condition (R165). -/
def execRetag (t : ThreadId) (c : Cond) (rd ra : Reg) (tag : BitVec 4) (s : State) : Res :=
  match retagTarget tag.toNat with
  | none => s.reservedRes t
  | some g =>
    s.instr t c ra (fun s0 =>
      let a := (s0.thr t).get ra
      if g.minted && !(s0.thr t).mode then .fault s0 .priv 0
      else if a.tag = .key then .fault s0 .tagKey 0
      else .done (s0.write t rd ⟨a.data, g⟩))

/-- CMP (04 R162; 01 R31). -/
def execCmp (t : ThreadId) (c : Cond) (ra rb : Reg) (s : State) : Res :=
  s.instr t c ra (fun s0 =>
    let a := (s0.thr t).get ra
    let b := (s0.thr t).get rb
    s0.flagged t (flagsCmp a b) (tagCmp a.tag b.tag) [a.tag, b.tag])
/-- CMPI (04 R162). -/
def execCmpi (t : ThreadId) (c : Cond) (ra : Reg) (imm : BitVec 10) (s : State) : Res :=
  s.instr t c ra (fun s0 =>
    let a := (s0.thr t).get ra
    s0.flagged t (flagsSub a.data (sext 10 imm)) (tagCmp a.tag .int) [a.tag, .int])
/-- TST (04 R162). -/
def execTst (t : ThreadId) (c : Cond) (ra rb : Reg) (s : State) : Res :=
  s.instr t c ra (fun s0 =>
    let a := (s0.thr t).get ra
    let b := (s0.thr t).get rb
    s0.flagged t (flagsZN (a.data &&& b.data)) (tagTst a.tag b.tag) [a.tag, b.tag])

/-- ORL: rd is source and destination, and the condition register of TV (04 R164). -/
def execOrl (t : ThreadId) (c : Cond) (rd : Reg) (imm : BitVec 16) (s : State) : Res :=
  s.instr t c rd (fun s0 =>
    let a := (s0.thr t).get rd
    s0.result t rd (a.data ||| imm.setWidth 32) (tagOr a.tag .int) [a.tag, .int])
/-- MOVH. -/
def execMovh (t : ThreadId) (c : Cond) (rd : Reg) (imm : BitVec 16) (s : State) : Res :=
  s.instr t c rd (fun s0 => .done (s0.write t rd ⟨imm ++ 0#16, .int⟩))
/-- ADRC: a CODE address relative to the word. -/
def execAdrc (t : ThreadId) (c : Cond) (rd : Reg) (imm : BitVec 15) (s : State) : Res :=
  s.instr t c rd (fun s0 => .done (s0.write t rd ⟨(s0.thr t).pc + (sext 15 imm <<< 2), .code⟩))

end Sys2Proof.Machine
end

