-- ==== Sys2Proof/Machine/Branch.lean ====
section
/-! DEFINITION. Branches of the long form (04 R164, R167, R169, R186, Table 4.8). -/

namespace Sys2Proof.Machine

/-- The register that a branch with condition TV tests: bits [19:15] of the word (04 Table 4.6). -/
def branchReg (c : Cond) (off : BitVec 20) : Reg := if c = .tv then ⟨(off.extractLsb' 15 5).toNat, (off.extractLsb' 15 5).isLt⟩ else 0

/-- A branch's offset in words: off15 where the condition is TV, off20 otherwise (04 Table 4.6). -/
def branchOff (c : Cond) (off : BitVec 20) : Word :=
  if c = .tv then sext 15 (off.extractLsb' 0 15) else sext 20 off

/-- A thread at another word. -/
def Thread.jump (x : Thread) (target : Word) : Thread := { x with pc := target }

/-- B. -/
def execB (t : ThreadId) (c : Cond) (off : BitVec 20) (s : State) : Res :=
  s.instr t c (branchReg c off) (fun s0 => .done (s0.setThr t ((s0.thr t).jump ((s0.thr t).pc + (branchOff c off <<< 2)))))

/-- BL: the return address in g31. -/
def execBl (t : ThreadId) (c : Cond) (off : BitVec 20) (s : State) : Res :=
  s.instr t c (branchReg c off) (fun s0 =>
    let x := s0.thr t
    .done (s0.setThr t ((x.put 31 ⟨x.pc + 4, .code⟩).jump (x.pc + (branchOff c off <<< 2)))))

/-- A jump through a register (04 R157, R186): the thread at its target, with the return address in `link` where there is one. -/
def State.jumpReg (s : State) (t : ThreadId) (link : Option Reg) (ra : Reg) : Did :=
  let x := s.thr t
  let a := x.get ra
  if a.tag ≠ .code then .fault s .tagCode 0
  else if a.data.toNat % 4 ≠ 0 then .fault s .align a.data
  else
    match link with
    | none => .done (s.setThr t (x.jump a.data))
    | some rd => .done (s.setThr t ((x.put rd ⟨x.pc + 4, .code⟩).jump a.data))

/-- JR. -/
def execJr (t : ThreadId) (c : Cond) (ra : Reg) (s : State) : Res := s.instr t c ra (fun s0 => s0.jumpReg t none ra)
/-- JLR. -/
def execJlr (t : ThreadId) (c : Cond) (rd ra : Reg) (s : State) : Res := s.instr t c ra (fun s0 => s0.jumpReg t (some rd) ra)

end Sys2Proof.Machine
end

