-- ==== Sys2Proof/Machine/MemOps.lean ====
section
/-! DEFINITION. Loads and stores of the long form (04 Table 4.8, R154, R182 to R187, R193, R706). -/

namespace Sys2Proof.Machine

/-- Whether an access of `n` bytes is aligned (04 R186). -/
def alignedFor (n a : Nat) : Bool := a % n == 0

/-- A load's data access (04 R193 items 5 and 6): the fault or wait that stops it, else none. `held` is what it was issued as before, where it
waited (02 R87; 03 R135; 07 R307), here and below. -/
def State.loadStop (s : State) (held : Held) (t : ThreadId) (n a : Nat) : Option Did :=
  if alignedFor n a then s.reached a (s.thrRead held (ownBurst t) a n) else some (.fault s .align (BitVec.ofNat 32 a))

/-- A store's data access (04 R193 items 5 and 6). -/
def State.storeStop (s : State) (held : Held) (t : ThreadId) (n a : Nat) : Option Did :=
  if alignedFor n a then s.reached a (s.thrWrite held (ownBurst t) a n) else some (.fault s .align (BitVec.ofNat 32 a))

/-- A word load. -/
def State.loadW (s : State) (held : Held) (t : ThreadId) (rd : Reg) (a : Nat) : Did :=
  match s.loadStop held t 4 a with
  | some d => d
  | none =>
    let (w, s1) := s.loadWord t a
    .done (s1.write t rd w)

/-- The `n` bytes at an address within its word's data, zero-extended. -/
def partOf (w : Word) (n a : Nat) : Word := (w >>> (8 * (a % 4))) &&& (if n = 1 then 0xFF else 0xFFFF)

/-- A part with its sign extended where asked. -/
def partExt (n : Nat) (signed : Bool) (p : Word) : Word :=
  if signed then (if n = 1 then (p.setWidth 8).signExtend 32 else (p.setWidth 16).signExtend 32) else p

/-- A halfword or byte load (04 R182, R706). -/
def State.loadP (s : State) (held : Held) (t : ThreadId) (rd : Reg) (n : Nat) (signed : Bool) (a : Nat) : Did :=
  match s.loadStop held t n a with
  | some d => d
  | none =>
    let (w, s1) := s.loadWord t (wordAddr a)
    if w.tag = .key then .fault s1 .tagKey 0
    else .done (s1.write t rd ⟨partExt n signed (partOf w.data n a), if w.tag = .void then .void else .int⟩)

/-- A word store (04 R154, R184). -/
def State.storeW (s : State) (held : Held) (t : ThreadId) (w : TWord) (a : Nat) : Did :=
  if keyBarred w.tag a then .fault s .tagKey 0
  else
    match s.storeStop held t 4 a with
    | some d => d
    | none => .done ((s.skip t).storeAt t a w)

/-- A halfword or byte store (04 R183, R190). -/
def State.storeP (s : State) (held : Held) (t : ThreadId) (w : TWord) (n a : Nat) : Did :=
  if w.tag = .key then .fault s .tagKey 0
  else if w.tag = .void then .fault s .tagVoid 0
  else
    match s.storeStop held t n a with
    | some d => d
    | none => .done (((s.skip t).crosses t a).storePart a ((wordBytes w.data).take n))

/-- A load through a base register (04 R157): `run` has its address. -/
def State.loadVia (s : State) (t : ThreadId) (c : Cond) (ra : Reg) (off : Word) (run : State → Held → Nat → Did) : Res :=
  s.instr t c ra (fun s0 =>
    let b := (s0.thr t).get ra
    if b.tag ≠ .addr then .fault s0 .tagAddr 0 else run s0 (s.thr t).issued (effAddr b.data off))

/-- A store through a base register (04 R154, R157). -/
def State.storeVia (s : State) (t : ThreadId) (c : Cond) (ra : Reg) (off : Word) (run : State → Held → Nat → Did) : Res :=
  s.instr t c ra (fun s0 =>
    let b := (s0.thr t).get ra
    if b.tag ≠ .addr then .fault s0 .tagAddr 0
    else if guestBarred (s0.thr t) (effAddr b.data off) then .fault s0 .priv (b.data + off)
    else run s0 (s.thr t).issued (effAddr b.data off))

/-- LDW. -/
def execLdw (t : ThreadId) (c : Cond) (rd ra : Reg) (imm : BitVec 10) (s : State) : Res :=
  s.loadVia t c ra (sext 10 imm <<< 2) (fun s0 h a => s0.loadW h t rd a)
/-- LDHU. -/
def execLdhu (t : ThreadId) (c : Cond) (rd ra : Reg) (imm : BitVec 10) (s : State) : Res :=
  s.loadVia t c ra (sext 10 imm <<< 1) (fun s0 h a => s0.loadP h t rd 2 false a)
/-- LDHS. -/
def execLdhs (t : ThreadId) (c : Cond) (rd ra : Reg) (imm : BitVec 10) (s : State) : Res :=
  s.loadVia t c ra (sext 10 imm <<< 1) (fun s0 h a => s0.loadP h t rd 2 true a)
/-- LDBU. -/
def execLdbu (t : ThreadId) (c : Cond) (rd ra : Reg) (imm : BitVec 10) (s : State) : Res :=
  s.loadVia t c ra (sext 10 imm) (fun s0 h a => s0.loadP h t rd 1 false a)
/-- LDBS. -/
def execLdbs (t : ThreadId) (c : Cond) (rd ra : Reg) (imm : BitVec 10) (s : State) : Res :=
  s.loadVia t c ra (sext 10 imm) (fun s0 h a => s0.loadP h t rd 1 true a)

/-- LDWX: the index is INT. -/
def execLdwx (t : ThreadId) (c : Cond) (rd ra rb : Reg) (s : State) : Res :=
  s.instr t c ra (fun s0 =>
    let b := (s0.thr t).get ra
    let i := (s0.thr t).get rb
    if b.tag ≠ .addr then .fault s0 .tagAddr 0
    else if i.tag ≠ .int then .fault s0 (tagFault [i.tag]) 0
    else s0.loadW (s.thr t).issued t rd (effAddr b.data i.data))

/-- STW. -/
def execStw (t : ThreadId) (c : Cond) (rd ra : Reg) (imm : BitVec 10) (s : State) : Res :=
  s.storeVia t c ra (sext 10 imm <<< 2) (fun s0 h a => s0.storeW h t ((s0.thr t).get rd) a)
/-- STH. -/
def execSth (t : ThreadId) (c : Cond) (rd ra : Reg) (imm : BitVec 10) (s : State) : Res :=
  s.storeVia t c ra (sext 10 imm <<< 1) (fun s0 h a => s0.storeP h t ((s0.thr t).get rd) 2 a)
/-- STB. -/
def execStb (t : ThreadId) (c : Cond) (rd ra : Reg) (imm : BitVec 10) (s : State) : Res :=
  s.storeVia t c ra (sext 10 imm) (fun s0 h a => s0.storeP h t ((s0.thr t).get rd) 1 a)

/-- STWX: the index is INT; R154 is judged before the index's tag (04 R193). -/
def execStwx (t : ThreadId) (c : Cond) (rd ra rb : Reg) (s : State) : Res :=
  s.instr t c ra (fun s0 =>
    let b := (s0.thr t).get ra
    let i := (s0.thr t).get rb
    if b.tag ≠ .addr then .fault s0 .tagAddr 0
    else if guestBarred (s0.thr t) (effAddr b.data i.data) then .fault s0 .priv (b.data + i.data)
    else if i.tag ≠ .int then .fault s0 (tagFault [i.tag]) 0
    else s0.storeW (s.thr t).issued t ((s0.thr t).get rd) (effAddr b.data i.data))

end Sys2Proof.Machine
end

