-- ==== Sys2Proof/Machine/Paired.lean ====
section
/-! DEFINITION. The paired form (04 R170 to R177, Table 4.9) and reserved words (05 R235 to R239). -/

namespace Sys2Proof.Machine

/-- What one half of a paired word writes (04 R173): a register, flags, the pc, a word of memory. -/
structure HalfFx where
  reg : Option (Reg × TWord)
  flags : Option FlagSet
  pc : Option Word
  store : Option (Nat × TWord)
  deriving DecidableEq, Repr

/-- What one half comes to. -/
inductive Half where
  | fx (e : HalfFx)
  | fault (f : FaultCode) (addr : Word)
  | wait (light : Bool)
  deriving DecidableEq, Repr

/-- A half that writes nothing. -/
def HalfFx.none : HalfFx := ⟨Option.none, Option.none, Option.none, Option.none⟩

/-- The register of a short operation. -/
def wide (r : SReg) : Reg := ⟨r.val, by omega⟩

/-- A half that computes a register with one tag and flags. -/
def halfReg (d : SReg) (v : Word) (g : Option Tag) (f : Option FlagSet) (sources : List Tag) : Half :=
  match g with
  | some g => .fx { HalfFx.none with reg := some (wide d, ⟨v, g⟩), flags := f }
  | none => .fault (tagFault sources) 0

/-- A half that sets flags only. -/
def halfFlags (f : FlagSet) (good : Bool) (sources : List Tag) : Half :=
  if good then .fx { HalfFx.none with flags := some f } else .fault (tagFault sources) 0

/-- A half with a branch. -/
def halfJump (pc : Word) : Half := .fx { HalfFx.none with pc := some pc }

/-- The last bit that a left or right shift by `n` puts out (04 Table 4.4). -/
def lostLeft (a : Word) (n : Nat) : Bool := a.getLsbD (32 - n)
/-- The last bit that a right shift by `n` puts out (04 Table 4.4). -/
def lostRight (a : Word) (n : Nat) : Bool := a.getLsbD (n - 1)

/-- What a check says, as a half. -/
def halfStop (a : Nat) : Reach → Option Half
  | .ok => none
  | .fault f => some (.fault f (BitVec.ofNat 32 a))
  | .wait light => some (.wait light)

/-- A half's word load (04 R157, R186), with the state after its read. -/
def State.halfLoad (s : State) (held : Held) (t : ThreadId) (d : SReg) (b : TWord) (k : BitVec 2) : Half × State :=
  let a := effAddr b.data ((k.setWidth 32 : Word) <<< 2)
  if b.tag ≠ .addr then (.fault .tagAddr 0, s)
  else if !alignedFor 4 a then (.fault .align (BitVec.ofNat 32 a), s)
  else
    let r := s.thrRead held (ownBurst t) a 4
    match halfStop a r with
    | some h => (h, if r = .fault .mempar then s.afterRead a else s)
    | none =>
      let (w, s1) := s.loadWord t a
      (.fx { HalfFx.none with reg := some (wide d, w) }, s1)

/-- A half's word store (04 R154, R157, R184, R186). -/
def State.halfStore (s : State) (held : Held) (t : ThreadId) (w b : TWord) (k : BitVec 2) : Half :=
  let a := effAddr b.data ((k.setWidth 32 : Word) <<< 2)
  if b.tag ≠ .addr then .fault .tagAddr 0
  else if guestBarred (s.thr t) a then .fault .priv (BitVec.ofNat 32 a)
  else if keyBarred w.tag a then .fault .tagKey 0
  else if !alignedFor 4 a then .fault .align (BitVec.ofNat 32 a)
  else (halfStop a (s.thrWrite held (ownBurst t) a 4)).getD (.fx { HalfFx.none with store := some (a, w) })

/-- A half's jump through a register. -/
def halfJr (w : TWord) : Half :=
  if w.tag ≠ .code then .fault .tagCode 0
  else if w.data.toNat % 4 ≠ 0 then .fault .align w.data else halfJump w.data

/-- A short operation on the thread as it stands before the word (04 R173, Table 4.9): d is source a, s is source b. `held` is what an access
of the word was issued as before, where one waited (02 R87; 03 R135; 07 R307). -/
def State.half (s : State) (held : Held) (t : ThreadId) (o : Short) : Half × State :=
  let x := s.thr t
  let g (r : SReg) : TWord := x.get (wide r)
  let i6 (i : BitVec 6) : Word := sext 6 i
  let two (d r : SReg) (tag : Tag → Tag → Option Tag) (v : Word) (f : FlagSet) : Half :=
    halfReg d v (tag (g d).tag (g r).tag) (some f) [(g d).tag, (g r).tag]
  let shift (d : SReg) (i : BitVec 5) (v : Word) (out : Bool) : Half :=
    halfReg d v (tagShift (g d).tag .int) (some (flagsShift v i.toNat out)) [(g d).tag, .int]
  match o with
  | .nop => (.fx HalfFx.none, s)
  | .mov d r => (.fx { HalfFx.none with reg := some (wide d, g r) }, s)
  | .add d r => (two d r tagAdd ((g d).data + (g r).data) (flagsAdd (g d).data (g r).data), s)
  | .sub d r => (two d r tagSub ((g d).data - (g r).data) (flagsSub (g d).data (g r).data), s)
  | .and d r => (two d r tagAnd ((g d).data &&& (g r).data) (flagsZN ((g d).data &&& (g r).data)), s)
  | .or d r => (two d r tagOr ((g d).data ||| (g r).data) (flagsZN ((g d).data ||| (g r).data)), s)
  | .xor d r => (two d r tagOr ((g d).data ^^^ (g r).data) (flagsZN ((g d).data ^^^ (g r).data)), s)
  | .cmp d r => (halfFlags (flagsCmp (g d) (g r)) (tagCmp (g d).tag (g r).tag) [(g d).tag, (g r).tag], s)
  | .tst d r => (halfFlags (flagsZN ((g d).data &&& (g r).data)) (tagTst (g d).tag (g r).tag) [(g d).tag, (g r).tag], s)
  | .movi d i => (.fx { HalfFx.none with reg := some (wide d, ⟨i6 i, .int⟩) }, s)
  | .addi d i => (halfReg d ((g d).data + i6 i) (tagAdd (g d).tag .int) (some (flagsAdd (g d).data (i6 i))) [(g d).tag, .int], s)
  | .cmpi d i => (halfFlags (flagsSub (g d).data (i6 i)) (tagCmp (g d).tag .int) [(g d).tag, .int], s)
  | .shli d i => (shift d i (shiftLeft (g d).data i.toNat) (lostLeft (g d).data i.toNat), s)
  | .shri d i => (shift d i (shiftRight (g d).data i.toNat) (lostRight (g d).data i.toNat), s)
  | .sari d i => (shift d i (shiftArith (g d).data i.toNat) (lostRight (g d).data i.toNat), s)
  | .neg d r => (halfReg d (0 - (g r).data) (tagNeg (g r).tag) (some (flagsSub 0 (g r).data)) [(g r).tag], s)
  | .not d r => (halfReg d (~~~(g r).data) (tagNeg (g r).tag) (some (flagsZN (~~~(g r).data))) [(g r).tag], s)
  | .ldw d r k => s.halfLoad held t d (g r) k
  | .stw d r k => (s.halfStore held t (g d) (g r) k, s)
  | .bc c off => (if condHolds x c 0 then halfJump (x.pc + (sext 6 off <<< 2)) else .fx HalfFx.none, s)
  | .br off => (halfJump (x.pc + (sext 10 off <<< 2)), s)
  | .jr r => (halfJr (g r), s)
  | .tagof d r => (.fx { HalfFx.none with reg := some (wide d, ⟨BitVec.ofNat 32 (g r).tag.num, .int⟩) }, s)

/-- A thread with one half's writes to it applied (04 R173). -/
def Thread.half (x : Thread) (e : HalfFx) : Thread :=
  let y := match e.reg with | some (r, w) => x.put r w | none => x
  let z := match e.flags with | some f => y.setFlags f | none => y
  match e.pc with
  | some p => { z with pc := p }
  | none => z

/-- One half's store applied. -/
def State.halfPut (s : State) (t : ThreadId) (e : HalfFx) : State :=
  match e.store with
  | some (a, w) => s.storeAt t a w
  | none => s

/-- Both halves' writes, A's then B's: what both write keeps B's value (04 R173, R174). -/
def State.pairApply (s : State) (t : ThreadId) (ea eb : HalfFx) : State :=
  ((s.setThr t (((s.thr t).next.half ea).half eb)).halfPut t ea).halfPut t eb

/-- What a half's read leaves where the other half faults: a set-up register's read does nothing then (04 R192); flash has been read. -/
def State.halfKept (s : State) (t : ThreadId) (o : Short) (s1 : State) : State :=
  match o with
  | .ldw _ r k => if inRegs (effAddr ((s.thr t).get (wide r)).data ((k.setWidth 32 : Word) <<< 2)) then s else s1
  | _ => s1

/-- A paired word (04 R173 to R177): both halves read and compute on the thread as it stands, then write; where one faults neither writes,
and A's fault comes first. Where both read set-up registers, A's read is made first, so that B's sees what it did (DESIGN CHOICE, log 133). -/
def State.pair (s : State) (held : Held) (t : ThreadId) (a b : Short) : State :=
  let (ha, s1) := s.half held t a
  match ha with
  | .fault f addr => s1.trap t f addr false false 0
  | .wait light => (s.engWait light).waits t held
  | .fx ea =>
    let (hb, s2) := s1.half held t b
    match hb with
    | .fault f addr => ((s.halfKept t a s1).half held t b).2.trap t f addr true false 0
    | .wait light => (s.engWait light).waits t held
    | .fx eb => s2.pairApply t ea eb

/-- PAIRED_WORD (04 R170 to R177; 05 R235). -/
def execPairedWord (t : ThreadId) (w : Word) (s : State) : Res :=
  match decodeWord t w with
  | .pair a b => s.fetched t (fun s => ok ((s.clearBip t).pair (s.thr t).issued t a b))
  | .illpair => s.fetched t (fun s => ok ((s.clearBip t).trap t .illpair 0 false false 0))
  | .reserved => if w.msb then s.reservedRes t else ok s
  | .long _ => ok s

/-- RESERVED_WORD (05 R236 to R239): a word that is reserved as it stands. -/
def execReservedWord (t : ThreadId) (w : Word) (s : State) : Res := if decodeWord t w == .reserved then s.reservedRes t else ok s

end Sys2Proof.Machine
end

