-- ==== Sys2Proof/Machine/Snuff.lean ====
section
/-! DEFINITION. The snuff detector (05 R227 to R233, R713), the descent that it precedes (02 R69 to R72), and the tick (08 R335, R337). -/

namespace Sys2Proof.Machine

/-! ### What can wake a thread -/

/-- Whether a source is armed (05 Table 5.2). -/
def State.armed (s : State) (src : Nat) : Bool :=
  if h : src < 64 then s.ringArmed ⟨src, h⟩
  else if src < 0x50 then s.flag (F.CMP_CTL_EN (src - 0x40))
  else if src < 0x58 then s.counterArmed (Fin.ofNat 8 (src - 0x50))
  else if src < 0x70 then s.pinArmed (src - 0x58)
  else false

/-- Whether a source is armed and routed to a bit that a waiting thread's mask holds (05 R228). -/
def State.canWake (s : State) (src : Nat) : Bool :=
  s.reaches src && s.armed src

/-- The wake sources whose trigger is armed, as PWR_WAKEEN bits (05 R228; 02 Table 2.10). -/
def State.wakeArmed (s : State) : Nat :=
  let bit (b : Bool) (n : Nat) : Nat := if b then 2 ^ n else 0
  bit ((List.range 16).any (fun n => s.flag (F.CMP_CTL_EN n) && s.flag (F.CMP_CTL_WAKE n))) 0 +
    bit ((List.range 24).any (fun n => s.pinArmed n && s.flag (F.PIN_CFG_WAKE n))) 1 +
    bit (s.flag F.PWR_CTL_SNIFF && (s.has .sub || s.has .ghz)) 2 +
    bit (s.has .bts && (List.range 8).any (fun n => s.fldBit F.BTS_TEN_EN n && !s.fldBit F.BTS_TSTAT_TRIP n)) 3 +
    bit (s.has .csp && !s.flag F.CSP_SCFG_ROLE) 4

/-- The snuff condition (05 R228). A SEND is delivered when it is issued, so none is ever under way on a span. -/
def State.snuffCond (s : State) : Bool :=
  let live := (indices 10).filter (fun t => (s.thr t).live)
  !live.isEmpty && live.all (fun t => (s.thr t).st == .wait && !(s.thr t).wakeable) &&
    (List.range 0x70).all (fun src => !s.canWake src) &&
    !((s.fld F.PWR_CTL_DEPTH == 1 || s.fld F.PWR_CTL_DEPTH == 2) && s.wakeArmed &&& s.fld F.PWR_WAKEEN_SRC != 0)

/-- Whether the detector sees the condition (05 R229). -/
def State.snuffHolds (s : State) : Bool := s.flag F.EVT_SNUFF_EN && s.snuffCond

/-! ### The snuff -/

/-- The rescue of a part that is up (05 R231, R233): bit 23, the SNUFF record, TSW.SNUFF, EVT_STAT.SNUFF, and the end of the WAIT. -/
def State.rescueUp (s : State) (t : ThreadId) : State :=
  let live := BitVec.ofNat 32 (s.threadMask Thread.live)
  let s1 := (s.setBit F.EVT_STAT_SNUFF).deliver t (1#32 <<< 23) 23 0x14 live s.stamp none
  let x := s1.thr t
  let s2 := s1.setThr t { (x.put x.waitRd ⟨0, .int⟩) with pc := x.pc + 4, st := .run, snuff := true }
  let s3 : State := { s2 with power := { s2.power with entry := none } }
  s3.arrive.unhold

/-- The rescue of a part in Ember or Vigil, or on its way there (05 R713): the record waits at its span, and the chip wakes. -/
def State.rescueDown (s : State) (t : ThreadId) : State :=
  let live := BitVec.ofNat 32 (s.threadMask Thread.live)
  let s1 := (s.setBit F.EVT_STAT_SNUFF).deliver t (1#32 <<< 23) 23 0x14 live s.stamp none
  s1.unhold.wakeSource 5

/-- The snuff fault (05 R230 to R232, R713). -/
def State.snuff (s : State) : State :=
  let r := s.fld F.EVT_SNUFF_RESCUE
  if h : r < 10 then
    let t : ThreadId := ⟨r, h⟩
    if s.flag F.EVT_SNUFF_ACT && (s.thr t).st == .wait then
      (if s.pstate < 2 || (s.power.entry.isSome && !s.lit .steady) then s.rescueDown t else s.rescueUp t)
    else s.fullReset .snuff
  else s.fullReset .snuff

/-- SNUFF (05 R229): the condition has held at two consecutive tick edges. -/
def execSnuff (s : State) : Res := if s.on && s.snuffHolds && 2 ≤ s.power.snuffHold then ok s.snuff else ok s

/-- ENTER_LOWER_STATE (02 R69 to R72; 05 R233): Dim is entered at once with its REFUSE code; Ember or Vigil begins to be entered, and the steady
quiesce follows (QUIESCE). While the snuff condition holds the snuff is decided first. -/
def execEnterLowerState (s : State) : Res :=
  if !s.mayDescend || s.power.entry.isSome || s.power.arrived || s.snuffHolds then ok s
  else
    match s.descent with
    | (2, why) =>
      if s.pstate = 3 then
        let s1 := (s.setFld F.PWR_STAT_STATE 2).setFld F.PWR_STAT_REFUSE why
        let s2 := if s.flag F.PWR_CTL_DIMFLL then s1 else s1.fllStop
        ok s2
      else ok s
    | (d, why) => ok { s with power := { s.power with entry := some (d, why), latched := 0 } }

/-! ### The tick and the steady cycle -/

/-- One steady-clock cycle while the FLL runs (08 R337; the step on an empty queue, log 6): the fraction's count goes on, an overflow
of a counter is no longer the one of this cycle, the counters of the steady clock have an edge (08 Table 8.2), a VERIFY and a cipher operation
that waited go on, and records that wait for their buffer are written. -/
def State.steadyCycle (s : State) : State :=
  if s.fllRuns then
    let s1 : State :=
      { s with time := { s.time with cyc := s.time.cyc + 1 }, cnt := s.cnt.map (fun p => { p with wrapped := false }) }
    (((s1.srcEdges 2 (fun _ => true)).flashCycle).cipContinue).outGo
  else s

/-- The snuff hold at a tick edge (05 R229). -/
def State.snuffEdge (s : State) : State :=
  { s with power := { s.power with snuffHold := if s.snuffHolds then s.power.snuffHold + 1 else 0 } }

/-- The time base at a tick edge (08 R335, R337): one tick more, the fraction 0, the comparisons of this edge still to be judged (R341). -/
def State.tickOver (s : State) : State :=
  let m := s.time
  let per := if s.fllRuns then (match m.per with | none => some 0 | some _ => some m.cyc) else none
  { s with time := { m with tick := m.tick + 1, judged := 0, cyc := 0, per := per, floor := 0 } }

/-- The sets that commit at a tick edge (02 R91; 05 R249; 16 Table 16.3). -/
def State.tickCommits (s : State) : State :=
  [Blk.evt, .clk, .bts].foldl (fun acc b => if acc.sealPend b && acc.tickDue b then acc.commit b else acc) s

/-- The islands that rings light count as active at a tick at which they work or have something in their rings (02 R84). -/
def State.idleTick (s : State) : State :=
  [Island.cipher, .radio, .gnss].foldl (fun acc i => if !acc.ringsEmpty i || acc.islandBusy i then acc.touch i else acc) s

/-- What a tick edge does to a part that is not held in reset: what the last edge still owed comes first, an operation's START and the
comparisons and writes of the compare channels, then the edge, its commits, the counters of XT32, the link
controller's beacon and gaps, the sniffer's schedule, presence checks in progress and the snuff hold. -/
def State.tickEdge (s : State) : State :=
  ((((((((s.startOwed.cmpEdgeDone.tickOver).tickCommits).srcEdges 0 (fun _ => true)).beaconTick).relistenTick).sniffTick).presTick).idleTick).snuffEdge

/-- TIME_BASE_TICK (08 R335 to R337). -/
def execTimeBaseTick (s : State) : Res := if s.power.vdd then ok (if s.on then s.tickEdge else s.tickOver) else ok s

end Sys2Proof.Machine
end

