-- ==== Sys2Proof/Machine/System.lean ====
section
/-! DEFINITION. SYS, WRET, WAIT, SEND, special registers, MKKEY and the fetch fault (04 R161, R196, R197; 05 R203 to R206, R212 to R216). -/

namespace Sys2Proof.Machine

/-- SYS (05 R212, R216). The word's register field is 0, so TV tests g0. -/
def execSys (t : ThreadId) (c : Cond) (imm : BitVec 15) (s : State) : Res :=
  s.fetched t (fun s =>
    let s0 := s.clearBip t
    ok (if condHolds (s0.thr t) c 0 then s0.trap t .sys 0 false false imm else s0.skip t))

/-- A thread that returns from warden entry (05 R214). -/
def Thread.leave (x : Thread) : Thread :=
  { x with pc := x.epc, mode := x.pmode, bip := x.ecause.getLsbD 9, ent := false }

/-- WRET (04 R154; 05 R214). -/
def execWret (t : ThreadId) (c : Cond) (s : State) : Res :=
  s.instr t c 0 (fun s0 => if (s0.thr t).mode then .done (s0.setThr t (s0.thr t).leave) else .fault s0 .priv 0)

/-- A thread that waits for a mask, or goes on at once (05 R203). -/
def Thread.await (x : Thread) (rd : Reg) (mask : Word) : Thread :=
  let y := { x with wmask := mask, waitRd := rd }
  if y.pend &&& mask = 0 then { y with st := .wait } else y.waited

/-- WAIT (05 R203). -/
def execWait (t : ThreadId) (c : Cond) (rd ra : Reg) (s : State) : Res :=
  s.instr t c ra (fun s0 =>
    let m := (s0.thr t).get ra
    if m.tag ≠ .int then .fault s0 (tagFault [m.tag]) 0 else .done (s0.setThr t ((s0.thr t).await rd m.data)))

/-- The lowest of the event bits 24 to 31 that a SEND sets (05 Table 5.4). -/
def lowestEvent (w : Word) : Nat := ((List.range 8).find? (fun i => w.getLsbD (24 + i))).getD 0 + 24

/-- Whether a SEND delivers (05 R205). -/
def State.sendGoes (s : State) (target : Nat) (bits : Word) : Option ThreadId :=
  if h : target < 10 then
    let u : ThreadId := ⟨target, h⟩
    if bits ≠ 0 ∧ ((s.thr u).st = .run ∨ (s.thr u).st = .wait) ∧ (onSteady u = true ∨ s.lit .burst = true) then some u else none
  else none

/-- SEND (05 R204 to R206). -/
def execSend (t : ThreadId) (c : Cond) (rd ra rb : Reg) (s : State) : Res :=
  s.instr t c ra (fun s0 =>
    let a := (s0.thr t).get ra
    let b := (s0.thr t).get rb
    if a.tag ≠ .int ∨ b.tag ≠ .int then .fault s0 (tagFault [a.tag, b.tag]) 0
    else
      let bits := b.data &&& 0xFF000000
      match s0.sendGoes a.data.toNat bits with
      | none => .done (s0.write t rd ⟨0, .int⟩)
      | some u =>
        let s1 := s0.deliver u bits (lowestEvent bits) 0x02 (bits ||| BitVec.ofNat 32 t.val) s0.stamp none
        .done (s1.write t rd ⟨1, .int⟩))

/-- The flags as FLAGS reads (04 Table 4.12). -/
def Thread.flagWord (x : Thread) : Word :=
  BitVec.ofNat 32 (x.z.toNat + x.n.toNat * 2 + x.c.toNat * 4 + x.v.toNat * 8)

/-- TSW (04 Table 4.12; 05 Table 5.9). -/
def Thread.tsw (x : Thread) : Word :=
  BitVec.ofNat 32 (x.mode.toNat + x.bip.toNat * 2 + x.ent.toNat * 4 + x.pmode.toNat * 8 + x.snuff.toNat * 16)

/-- A special register as MFS returns it (04 R197, Table 4.12; 05 Table 5.9). -/
def State.special (s : State) (t : ThreadId) (n : Nat) : Word :=
  let x := s.thr t
  match n with
  | 0x0 => x.flagWord
  | 0x1 => x.tsw
  | 0x2 => BitVec.ofNat 32 t.val
  | 0x8 => x.epc
  | 0x9 => x.ecause
  | 0xA => x.eaddr
  | 0xB => x.pend
  | 0xC => x.wmask
  | 0xD => s.reg (F.EVT_TENT_ADDR t.val).addr
  | _ => 0

/-- A thread with a special register written; fields with access RO and the other numbers are ignored (04 R197, Table 4.12; 05 R215,
Table 5.9). -/
def Thread.setSpecial (x : Thread) (n : Nat) (v : Word) : Thread :=
  match n with
  | 0x0 => { x with z := v.getLsbD 0, n := v.getLsbD 1, c := v.getLsbD 2, v := v.getLsbD 3 }
  | 0x1 => { x with mode := v.getLsbD 0, ent := v.getLsbD 2, snuff := x.snuff && !v.getLsbD 4 }
  | 0x8 => { x with epc := v }
  | 0xB => { x with pend := x.pend &&& ~~~v }
  | _ => x

/-- MFS (04 R197). -/
def execMfs (t : ThreadId) (c : Cond) (rd : Reg) (sr : BitVec 4) (s : State) : Res :=
  s.instr t c 0 (fun s0 => .done (s0.write t rd ⟨s0.special t sr.toNat, .int⟩))

/-- MTS (04 R154, R197). Its source must be INT for the numbers that ignore it too (DEDUCED, log 119). -/
def execMts (t : ThreadId) (c : Cond) (ra : Reg) (sr : BitVec 4) (s : State) : Res :=
  s.instr t c ra (fun s0 =>
    let a := (s0.thr t).get ra
    if sr = 1 ∧ (s0.thr t).mode = false then .fault s0 .priv 0
    else if a.tag ≠ .int then .fault s0 (tagFault [a.tag]) 0
    else .done (s0.setThr t ((s0.thr t).setSpecial sr.toNat a.data).next))

/-- MKKEY (04 R154, R161). -/
def execMkkey (t : ThreadId) (c : Cond) (rd : Reg) (slot : BitVec 4) (s : State) : Res :=
  s.instr t c 0 (fun s0 =>
    if (s0.thr t).mode then .done (s0.write t rd ⟨slot.setWidth 32, .key⟩) else .fault s0 .priv 0)

/-- FETCH_FAULT (04 R193, R196; 05 R212): a fetch that can go ahead or waits is no fault. -/
def execFetchFault (t : ThreadId) (s : State) : Res :=
  match s.fetchStop t with
  | some (.fault _) => s.fetched t (fun s => ok s)
  | _ => ok s

end Sys2Proof.Machine
end

