-- ==== Sys2Proof/Machine/Dispatch.lean ====
section
/-! DEFINITION. One arm per command of Instr; each arm is one direct call of the command's meaning. -/

namespace Sys2Proof.Machine

def exec (i : Instr) (s : State) : Host.Outcome State Fault Refusal :=
  match i with
  | .registerWrite t addr value => Sys2Proof.Machine.execRegisterWrite t addr value s
  | .sealGo b value => Sys2Proof.Machine.execSealGo b value s
  | .sealCommit b => Sys2Proof.Machine.execSealCommit b s
  | .periodicSweepDue => Sys2Proof.Machine.execPeriodicSweepDue s
  | .auditGo => Sys2Proof.Machine.execAuditGo s
  | .waitingSweepStart => Sys2Proof.Machine.execWaitingSweepStart s
  | .sweepAccountCheck => Sys2Proof.Machine.execSweepAccountCheck s
  | .windowAge acct => Sys2Proof.Machine.execWindowAge acct s
  | .ldgSelCapture acct => Sys2Proof.Machine.execLdgSelCapture acct s
  | .spanRequest span reverse => Sys2Proof.Machine.execSpanRequest span reverse s
  | .spanAcknowledge span reverse => Sys2Proof.Machine.execSpanAcknowledge span reverse s
  | .enterLowerState => Sys2Proof.Machine.execEnterLowerState s
  | .dimWake => Sys2Proof.Machine.execDimWake s
  | .bootRomStart => Sys2Proof.Machine.execBootRomStart s
  | .bootHandoff => Sys2Proof.Machine.execBootHandoff s
  | .flashReady => Sys2Proof.Machine.execFlashReady s
  | .burstOn => Sys2Proof.Machine.execBurstOn s
  | .burstLit => Sys2Proof.Machine.execBurstLit s
  | .burstOff => Sys2Proof.Machine.execBurstOff s
  | .burstAutoDark => Sys2Proof.Machine.execBurstAutoDark s
  | .islandLit x => Sys2Proof.Machine.execIslandLit x s
  | .lightFail x => Sys2Proof.Machine.execLightFail x s
  | .islandIdleDark x => Sys2Proof.Machine.execIslandIdleDark x s
  | .quiesce x => Sys2Proof.Machine.execQuiesce x s
  | .quiesceDrainEnd x => Sys2Proof.Machine.execQuiesceDrainEnd x s
  | .islandReset value => Sys2Proof.Machine.execIslandReset value s
  | .softReset value => Sys2Proof.Machine.execSoftReset value s
  | .resetnQualify lowNs => Sys2Proof.Machine.execResetnQualify lowNs s
  | .resetnRelease => Sys2Proof.Machine.execResetnRelease s
  | .powerOn belowVvret => Sys2Proof.Machine.execPowerOn belowVvret s
  | .brownOut => Sys2Proof.Machine.execBrownOut s
  | .xt32Fail missed => Sys2Proof.Machine.execXt32Fail missed s
  | .xt32Confirmed => Sys2Proof.Machine.execXt32Confirmed s
  | .vigilClockSwitch => Sys2Proof.Machine.execVigilClockSwitch s
  | .xt32mFail cycles => Sys2Proof.Machine.execXt32mFail cycles s
  | .xt32mConfirmed cycles => Sys2Proof.Machine.execXt32mConfirmed cycles s
  | .fllRefSwitch => Sys2Proof.Machine.execFllRefSwitch s
  | .pairedWord t w => Sys2Proof.Machine.execPairedWord t w s
  | .add t c rd ra rb => Sys2Proof.Machine.execAdd t c rd ra rb s
  | .sub t c rd ra rb => Sys2Proof.Machine.execSub t c rd ra rb s
  | .and t c rd ra rb => Sys2Proof.Machine.execAnd t c rd ra rb s
  | .or t c rd ra rb => Sys2Proof.Machine.execOr t c rd ra rb s
  | .xor t c rd ra rb => Sys2Proof.Machine.execXor t c rd ra rb s
  | .shl t c rd ra rb => Sys2Proof.Machine.execShl t c rd ra rb s
  | .shr t c rd ra rb => Sys2Proof.Machine.execShr t c rd ra rb s
  | .sar t c rd ra rb => Sys2Proof.Machine.execSar t c rd ra rb s
  | .mul t c rd ra rb => Sys2Proof.Machine.execMul t c rd ra rb s
  | .mulhu t c rd ra rb => Sys2Proof.Machine.execMulhu t c rd ra rb s
  | .mulhs t c rd ra rb => Sys2Proof.Machine.execMulhs t c rd ra rb s
  | .divu t c rd ra rb => Sys2Proof.Machine.execDivu t c rd ra rb s
  | .divs t c rd ra rb => Sys2Proof.Machine.execDivs t c rd ra rb s
  | .remu t c rd ra rb => Sys2Proof.Machine.execRemu t c rd ra rb s
  | .rems t c rd ra rb => Sys2Proof.Machine.execRems t c rd ra rb s
  | .mov t c rd ra => Sys2Proof.Machine.execMov t c rd ra s
  | .addi t c rd ra imm => Sys2Proof.Machine.execAddi t c rd ra imm s
  | .andi t c rd ra imm => Sys2Proof.Machine.execAndi t c rd ra imm s
  | .ori t c rd ra imm => Sys2Proof.Machine.execOri t c rd ra imm s
  | .xori t c rd ra imm => Sys2Proof.Machine.execXori t c rd ra imm s
  | .shli t c rd ra imm => Sys2Proof.Machine.execShli t c rd ra imm s
  | .shri t c rd ra imm => Sys2Proof.Machine.execShri t c rd ra imm s
  | .sari t c rd ra imm => Sys2Proof.Machine.execSari t c rd ra imm s
  | .retag t c rd ra tag => Sys2Proof.Machine.execRetag t c rd ra tag s
  | .cmp t c ra rb => Sys2Proof.Machine.execCmp t c ra rb s
  | .cmpi t c ra imm => Sys2Proof.Machine.execCmpi t c ra imm s
  | .tst t c ra rb => Sys2Proof.Machine.execTst t c ra rb s
  | .tagof t c rd ra => Sys2Proof.Machine.execTagof t c rd ra s
  | .orl t c rd imm => Sys2Proof.Machine.execOrl t c rd imm s
  | .movh t c rd imm => Sys2Proof.Machine.execMovh t c rd imm s
  | .ldw t c rd ra imm => Sys2Proof.Machine.execLdw t c rd ra imm s
  | .stw t c rd ra imm => Sys2Proof.Machine.execStw t c rd ra imm s
  | .ldhu t c rd ra imm => Sys2Proof.Machine.execLdhu t c rd ra imm s
  | .ldhs t c rd ra imm => Sys2Proof.Machine.execLdhs t c rd ra imm s
  | .ldbu t c rd ra imm => Sys2Proof.Machine.execLdbu t c rd ra imm s
  | .ldbs t c rd ra imm => Sys2Proof.Machine.execLdbs t c rd ra imm s
  | .sth t c rd ra imm => Sys2Proof.Machine.execSth t c rd ra imm s
  | .stb t c rd ra imm => Sys2Proof.Machine.execStb t c rd ra imm s
  | .ldwx t c rd ra rb => Sys2Proof.Machine.execLdwx t c rd ra rb s
  | .stwx t c rd ra rb => Sys2Proof.Machine.execStwx t c rd ra rb s
  | .b t c off => Sys2Proof.Machine.execB t c off s
  | .bl t c off => Sys2Proof.Machine.execBl t c off s
  | .jr t c ra => Sys2Proof.Machine.execJr t c ra s
  | .jlr t c rd ra => Sys2Proof.Machine.execJlr t c rd ra s
  | .sys t c imm => Sys2Proof.Machine.execSys t c imm s
  | .wret t c => Sys2Proof.Machine.execWret t c s
  | .wait t c rd ra => Sys2Proof.Machine.execWait t c rd ra s
  | .waitWake t => Sys2Proof.Machine.execWaitWake t s
  | .send t c rd ra rb => Sys2Proof.Machine.execSend t c rd ra rb s
  | .bcopy t c rd ra rb => Sys2Proof.Machine.execBcopy t c rd ra rb s
  | .bfill t c rd ra rb => Sys2Proof.Machine.execBfill t c rd ra rb s
  | .bcrc t c rd ra rb => Sys2Proof.Machine.execBcrc t c rd ra rb s
  | .bretag t c rd ra rb => Sys2Proof.Machine.execBretag t c rd ra rb s
  | .mfs t c rd sr => Sys2Proof.Machine.execMfs t c rd sr s
  | .mts t c ra sr => Sys2Proof.Machine.execMts t c ra sr s
  | .mkkey t c rd slot => Sys2Proof.Machine.execMkkey t c rd slot s
  | .adrc t c rd imm => Sys2Proof.Machine.execAdrc t c rd imm s
  | .reservedWord t w => Sys2Proof.Machine.execReservedWord t w s
  | .threadStart t => Sys2Proof.Machine.execThreadStart t s
  | .threadStop t => Sys2Proof.Machine.execThreadStop t s
  | .evtTringWrite t value => Sys2Proof.Machine.execEvtTringWrite t value s
  | .evtTovfClr t => Sys2Proof.Machine.execEvtTovfClr t s
  | .snuff => Sys2Proof.Machine.execSnuff s
  | .ringEnable n value => Sys2Proof.Machine.execRingEnable n value s
  | .ringDisable n => Sys2Proof.Machine.execRingDisable n s
  | .ringDrainEnd n => Sys2Proof.Machine.execRingDrainEnd n s
  | .completionWrite n => Sys2Proof.Machine.execCompletionWrite n s
  | .queOvpClr => Sys2Proof.Machine.execQueOvpClr s
  | .program => Sys2Proof.Machine.execProgram s
  | .erase => Sys2Proof.Machine.execErase s
  | .verify => Sys2Proof.Machine.execVerify s
  | .flashUnitProgrammed ok => Sys2Proof.Machine.execFlashUnitProgrammed ok s
  | .flashSectorErased ok => Sys2Proof.Machine.execFlashSectorErased ok s
  | .suspend => Sys2Proof.Machine.execSuspend s
  | .flashPaused => Sys2Proof.Machine.execFlashPaused s
  | .resume => Sys2Proof.Machine.execResume s
  | .reservationProgram ok => Sys2Proof.Machine.execReservationProgram ok s
  | .scrubRead foreground => Sys2Proof.Machine.execScrubRead foreground s
  | .scrubForcedHoldEnd => Sys2Proof.Machine.execScrubForcedHoldEnd s
  | .scrubReportDesc => Sys2Proof.Machine.execScrubReportDesc s
  | .flcEccClr => Sys2Proof.Machine.execFlcEccClr s
  | .tmbLoRead t => Sys2Proof.Machine.execTmbLoRead t s
  | .timeBaseTick => Sys2Proof.Machine.execTimeBaseTick s
  | .cmpValWrite n v => Sys2Proof.Machine.execCmpValWrite n v s
  | .cmpRel n d => Sys2Proof.Machine.execCmpRel n d s
  | .compareWriteApply n => Sys2Proof.Machine.execCompareWriteApply n s
  | .compareFire n => Sys2Proof.Machine.execCompareFire n s
  | .ppsCapture => Sys2Proof.Machine.execPpsCapture s
  | .counterRun n => Sys2Proof.Machine.execCounterRun n s
  | .counterIncrement n => Sys2Proof.Machine.execCounterIncrement n s
  | .counterCapture n => Sys2Proof.Machine.execCounterCapture n s
  | .cntCmpvWrite n v => Sys2Proof.Machine.execCntCmpvWrite n v s
  | .cntCrel n d => Sys2Proof.Machine.execCntCrel n d s
  | .cntCountWrite n v => Sys2Proof.Machine.execCntCountWrite n v s
  | .calFreezeRead => Sys2Proof.Machine.execCalFreezeRead s
  | .calCloseRead => Sys2Proof.Machine.execCalCloseRead s
  | .heldlong => Sys2Proof.Machine.execHeldlong s
  | .calendarSubCarry vbakMv switching => Sys2Proof.Machine.execCalendarSubCarry vbakMv switching s
  | .calSetWrite date v => Sys2Proof.Machine.execCalSetWrite date v s
  | .backupOscFail missed => Sys2Proof.Machine.execBackupOscFail missed s
  | .backupStateLoss => Sys2Proof.Machine.execBackupStateLoss s
  | .supplySwitchVbak => Sys2Proof.Machine.execSupplySwitchVbak s
  | .supplySwitchVdd => Sys2Proof.Machine.execSupplySwitchVdd s
  | .backupSenseCheck high low => Sys2Proof.Machine.execBackupSenseCheck high low s
  | .tamperLatchClear v => Sys2Proof.Machine.execTamperLatchClear v s
  | .tx => Sys2Proof.Machine.execTx s
  | .rx => Sys2Proof.Machine.execRx s
  | .lantern => Sys2Proof.Machine.execLantern s
  | .lsearch => Sys2Proof.Machine.execLsearch s
  | .cal => Sys2Proof.Machine.execCal s
  | .alloc => Sys2Proof.Machine.execAlloc s
  | .free => Sys2Proof.Machine.execFree s
  | .radioOpBegin => Sys2Proof.Machine.execRadioOpBegin s
  | .syncDetect rx => Sys2Proof.Machine.execSyncDetect rx s
  | .lanternDetect first second => Sys2Proof.Machine.execLanternDetect first second s
  | .radioOpEnd => Sys2Proof.Machine.execRadioOpEnd s
  | .radioCalibrate p degrees below => Sys2Proof.Machine.execRadioCalibrate p degrees below s
  | .synthUnlock p => Sys2Proof.Machine.execSynthUnlock p s
  | .sniffLead => Sys2Proof.Machine.execSniffLead s
  | .sniffWindow levelDbm => Sys2Proof.Machine.execSniffWindow levelDbm s
  | .sniffWindowEnd => Sys2Proof.Machine.execSniffWindowEnd s
  | .dutyWindowStart p => Sys2Proof.Machine.execDutyWindowStart p s
  | .sendDesc => Sys2Proof.Machine.execSendDesc s
  | .meshAdmit => Sys2Proof.Machine.execAdmit s
  | .evict => Sys2Proof.Machine.execEvict s
  | .wakereq => Sys2Proof.Machine.execWakereq s
  | .propose => Sys2Proof.Machine.execPropose s
  | .meshRecv => Sys2Proof.Machine.execMeshRecv s
  | .meshNote => Sys2Proof.Machine.execMeshNote s
  | .meshRunStart => Sys2Proof.Machine.execMeshRunStart s
  | .meshRunStop => Sys2Proof.Machine.execMeshRunStop s
  | .slotBoundary => Sys2Proof.Machine.execSlotBoundary s
  | .cycleBoundary => Sys2Proof.Machine.execCycleBoundary s
  | .meshFrameReceived f => Sys2Proof.Machine.execMeshFrameReceived f s
  | .ackSend => Sys2Proof.Machine.execAckSend s
  | .ackJudge ack => Sys2Proof.Machine.execAckJudge ack s
  | .slotEnd => Sys2Proof.Machine.execSlotEnd s
  | .searchLantern e => Sys2Proof.Machine.execSearchLantern e s
  | .holidayCommit => Sys2Proof.Machine.execHolidayCommit s
  | .holidaySleep => Sys2Proof.Machine.execHolidaySleep s
  | .holidayEnd => Sys2Proof.Machine.execHolidayEnd s
  | .floodEnd => Sys2Proof.Machine.execFloodEnd s
  | .mshCntclr => Sys2Proof.Machine.execMshCntclr s
  | .cipLockClaim t => Sys2Proof.Machine.execCipLockClaim t s
  | .cipLockRelease t => Sys2Proof.Machine.execCipLockRelease t s
  | .kload => Sys2Proof.Machine.execKload s
  | .kzero => Sys2Proof.Machine.execKzero s
  | .kretire => Sys2Proof.Machine.execKretire s
  | .enc => Sys2Proof.Machine.execEnc s
  | .dec => Sys2Proof.Machine.execDec s
  | .ccmenc => Sys2Proof.Machine.execCcmenc s
  | .ccmdec => Sys2Proof.Machine.execCcmdec s
  | .cipNpurge v => Sys2Proof.Machine.execCipNpurge v s
  | .zeroise tamper => Sys2Proof.Machine.execZeroise tamper s
  | .keyParityFault slot => Sys2Proof.Machine.execKeyParityFault slot s
  | .get => Sys2Proof.Machine.execGet s
  | .raw => Sys2Proof.Machine.execRaw s
  | .entropyReady => Sys2Proof.Machine.execEntropyReady s
  | .healthFail adaptive => Sys2Proof.Machine.execHealthFail adaptive s
  | .entropyRestart => Sys2Proof.Machine.execEntropyRestart s
  | .snap => Sys2Proof.Machine.execSnap s
  | .snapBegin => Sys2Proof.Machine.execSnapBegin s
  | .snapEnd samples => Sys2Proof.Machine.execSnapEnd samples s
  | .start => Sys2Proof.Machine.execStart s
  | .stop => Sys2Proof.Machine.execStop s
  | .meas => Sys2Proof.Machine.execMeas s
  | .nav => Sys2Proof.Machine.execNav s
  | .gnssNote => Sys2Proof.Machine.execGnssNote s
  | .ferdy => Sys2Proof.Machine.execFerdy s
  | .epochBoundary obs => Sys2Proof.Machine.execEpochBoundary obs s
  | .navWord ch word d29 d30 tcxoSub => Sys2Proof.Machine.execNavWord ch word d29 d30 tcxoSub s
  | .ppsPulse ticks40 => Sys2Proof.Machine.execPpsPulse ticks40 s
  | .ppsEnable value => Sys2Proof.Machine.execPpsEnable value s
  | .ppsFix value => Sys2Proof.Machine.execPpsFix value s
  | .ppsAdj value => Sys2Proof.Machine.execPpsAdj value s
  | .holdoverEntry => Sys2Proof.Machine.execHoldoverEntry s
  | .tcxoFail cycles => Sys2Proof.Machine.execTcxoFail cycles s
  | .tcxoReturn => Sys2Proof.Machine.execTcxoReturn s
  | .sselFall => Sys2Proof.Machine.execSselFall s
  | .nop f => Sys2Proof.Machine.execNop f s
  | .write f => Sys2Proof.Machine.execWrite f s
  | .read f => Sys2Proof.Machine.execRead f s
  | .record f => Sys2Proof.Machine.execRecord f s
  | .go f => Sys2Proof.Machine.execGo f s
  | .frameDiscard => Sys2Proof.Machine.execFrameDiscard s
  | .cspRecv => Sys2Proof.Machine.execCspRecv s
  | .xfer sdi => Sys2Proof.Machine.execXfer sdi s
  | .drop => Sys2Proof.Machine.execDrop s
  | .cspSclr => Sys2Proof.Machine.execCspSclr s
  | .lineEnable l => Sys2Proof.Machine.execLineEnable l s
  | .search noise => Sys2Proof.Machine.execSearch noise s
  | .check noise => Sys2Proof.Machine.execCheck noise s
  | .tagRecv => Sys2Proof.Machine.execTagRecv s
  | .presenceCheck l noise => Sys2Proof.Machine.execPresenceCheck l noise s
  | .searchResume => Sys2Proof.Machine.execSearchResume s
  | .searchPauseTimeout => Sys2Proof.Machine.execSearchPauseTimeout s
  | .move => Sys2Proof.Machine.execMove s
  | .endStop e levels cur => Sys2Proof.Machine.execEndStop e levels cur s
  | .stall b cur => Sys2Proof.Machine.execStall b cur s
  | .moveTimeout b cur => Sys2Proof.Machine.execMoveTimeout b cur s
  | .brakeEnd b => Sys2Proof.Machine.execBrakeEnd b s
  | .overcur b milliamps => Sys2Proof.Machine.execOvercur b milliamps s
  | .vmotlow low => Sys2Proof.Machine.execVmotlow low s
  | .tamperChip n sample => Sys2Proof.Machine.execTamperChip n sample s
  | .tamperNoticeDesc => Sys2Proof.Machine.execTamperNoticeDesc s
  | .loopRearm v => Sys2Proof.Machine.execLoopRearm v s
  | .pinSet v => Sys2Proof.Machine.execPinSet v s
  | .pinClr v => Sys2Proof.Machine.execPinClr v s
  | .pinEdge n level => Sys2Proof.Machine.execPinEdge n level s
  | .fetchFault t => Sys2Proof.Machine.execFetchFault t s
  | .reservedKindFrame f => Sys2Proof.Machine.execReservedKindFrame f s
  | .fobAttached l id code => Sys2Proof.Machine.execFobAttached l id code s
  | .fobRemoved l id => Sys2Proof.Machine.execFobRemoved l id s
  | .fllLocked khz => Sys2Proof.Machine.execFllLocked khz s

end Sys2Proof.Machine
end

