-- ==== Sys2Proof/Safety.lean ====
section
/-! DEFINITION. What a sound state is: the invariants that steps keep, runs, and the terms in which the claims are stated. -/

namespace Sys2Proof.Machine

/-! ### Invariants and runs -/

/-- No breach has a full reset outstanding: a breach with BRACT = 1 resets the part within the command that raised it (01 R59). -/
def State.quiet (s : State) : Prop := s.ledger.resetDue = false

/-- No breach can order a full reset now: BRACT = 0, and none is held back (01 R59). -/
def State.calm (s : State) : Prop := s.quiet ∧ s.flag F.LDG_CTL_BRACT = false ∧ s.ledger.resetHeld = false

/-- The memories and the register images stand in their one canonical form. -/
def State.canonical (s : State) : Prop :=
  s.mem.wf = true ∧ smWf resetWord s.live = true ∧ smWf resetWord s.staged = true ∧ smWf resetWord s.sealed = true

/-- The books: in every account the grant is what is returned, held and in flight (01 R21, R24), and the accounts stand in their canonical form. -/
def State.books (s : State) : Prop :=
  smWf (fun _ => Account.zero) s.ledger.acct = true ∧ ∀ k : Nat, (s.acct k).g = (s.acct k).r + (s.acct k).h + (s.acct k).f

/-- The state after `k` steps, none where a step stops. -/
def State.runs? (k : Nat) (s : State) : Option State :=
  match k with
  | 0 => some s
  | k + 1 =>
    match step s with
    | .next t => State.runs? k t
    | _ => none

/-! ### What a command answers -/

/-- A command answers a next state of which `P` holds. -/
def Gives (i : Instr) (s : State) (P : State → Prop) : Prop := ∃ u, exec i s = .next u ∧ P u

/-- A command answers a next state, that of its effect, of which `P` holds, followed by the full reset that a breach in it orders (01 R59).
Where none can the command answers the effect's state itself. -/
def Effect (i : Instr) (s : State) (P : State → Prop) : Prop :=
  ∃ u, exec i s = .next u.settle ∧ P u ∧ (s.calm → exec i s = .next u)

/-! ### Registers -/

/-- The registers that a plain write does not reach: those whose write starts something of its own, the SEAL registers, and the groups of
threads, rings, compare channels, counters, tag lines and pins. -/
def ownWrite (a : Nat) : Bool :=
  [0x40001014, 0x40001020, 0x4000200C, 0x40002014, 0x4000202C, 0x40003000, 0x4000300C, 0x40005000, 0x40006000, 0x40006010,
    0x40009014, 0x40009018, 0x4000B010, 0x4000B018, 0x4000C000, 0x4000C030, 0x4000C034, 0x4000C040, 0x4000D02C, 0x4000D10C,
    0x4000D12C, 0x4000E000, 0x4000E058, 0x4000F000, 0x4000F050, 0x4000F05C, 0x4000F060, 0x40010000, 0x40010004, 0x40010008,
    0x50000010, 0x50000024, 0x50000028, 0x50000050].contains a ||
  [Blk.ldg, .clk, .evt, .flc, .cnt, .csp, .tag, .bts, .cip, .rad, .msh, .gns, .cal].any (fun b => Blk.sealAt b == a) ||
  (0x40004100 ≤ a && a < 0x40004240) || (0x40005100 ≤ a && a < 0x40005500) || (0x40007100 ≤ a && a < 0x40007200) ||
  (0x40008100 ≤ a && a < 0x40008200) || (0x4000A100 ≤ a && a < 0x4000A180) ||
  (0x40010100 ≤ a && a < 0x40010160)

/-- The registers whose read shows other state than their own fields, or does something: what the block shows now of threads, rings, islands,
the time base, keys, buffers, channels and pins, and the calendar's freeze (05 Table 5.9; 06 R288; 08 R339; 09 R380). -/
def ownRead (a : Nat) : Bool :=
  [0x40001010, 0x4000200C, 0x40002018, 0x4000400C, 0x40005004, 0x40005008, 0x40007000, 0x40007004, 0x40007008, 0x4000700C, 0x4000C018,
    0x4000C020, 0x4000C024, 0x4000D004, 0x4000D014, 0x4000F018, 0x4000F040, 0x4000F044, 0x4001000C, 0x50000000, 0x50000004, 0x50000008,
    0x5000000C, 0x5000007C].contains a ||
  (0x40004100 ≤ a && a < 0x40004240) || (0x40005100 ≤ a && a < 0x40005500)

/-- Nothing but EVT's commit is due at the next tick edge: no operation, beacon, sniff window, presence check, comparison or other commit, and no
counter counts the ticks. -/
def State.edgeFree (s : State) : Prop :=
  s.radio.op = none ∧ s.mesh.beacon = none ∧ s.gapPath = none ∧ s.sniffs = false ∧ (∀ l, (s.line l).pres = none) ∧
    (∀ n, s.cmpDue n = false ∧ s.cmpReady n = false) ∧ s.sealPend .clk = false ∧ s.sealPend .bts = false ∧
    ∀ n, s.counterCounts n = true → s.fld (F.CNT_CTL_SRC n.val) ≠ 0

/-! ### Threads -/

/-- A thread executes instructions, its fetch meets no stop (04 R193) and leaves nothing behind, since its unit of flash needs no correction (07 R291)
and its crossings balance (03 R113), no STOP waits for the word (05 R200), and no breach reset is outstanding. -/
def State.ready (s : State) (t : ThreadId) : Prop :=
  s.runs t = true ∧ s.fetchStop t = none ∧ s.quiet ∧ s.fetchRead t = s ∧ (s.thr t).stopping = false

/-- A thread past a word that changes no register of it, TSW.BIP 0 and no access waiting (04 R165; 05 R221). -/
def State.advanced (s : State) (t : ThreadId) : State :=
  s.setThr t { s.thr t with pc := (s.thr t).pc + 4, bip := false, issued := Held.no }

/-- The state with a thread past a word that writes one register of it, TSW.BIP 0. -/
def State.wrote (s : State) (t : ThreadId) (r : Reg) (w : TWord) : State :=
  s.setThr t { (s.thr t).put r w with pc := (s.thr t).pc + 4, bip := false, issued := Held.no }

/-- The state with a thread at another word, TSW.BIP 0. -/
def State.jumped (s : State) (t : ThreadId) (pc : Word) : State := s.setThr t { s.thr t with pc := pc, bip := false, issued := Held.no }

/-- Whether an address is of memory that keeps a tag with every word and whose reads do nothing else (03 Table 3.1). -/
def plainRam (a : Nat) : Bool := Region.sram.holds a || Region.vigil.holds a || Region.burst.holds a

/-- No word of an area is one that the queue engine watches (06 R256, R280). -/
def State.unwatched (s : State) (a n : Nat) : Prop := ∀ k, k < n → s.watched (wordAddr (a + k)) = none

/-! ### Frames -/

/-- Every register but those listed reads as before. -/
def SameRegs (l : List Nat) (s u : State) : Prop := ∀ a, a ∉ l → u.reg a = s.reg a

/-- Memory, threads and the ledger are as before. -/
def SameCore (s u : State) : Prop := u.mem = s.mem ∧ u.threads = s.threads ∧ u.ledger = s.ledger

/-- Every register but those listed, memory, threads and the ledger are as before. -/
def Keeps (l : List Nat) (s u : State) : Prop := SameRegs l s u ∧ SameCore s u

/-! ### Descriptors -/

/-- A descriptor stands at the head of a unit's channel, its words passing their check (06 R268, R284). -/
def State.offers (s : State) (u ch : Nat) (d : Desc) : Prop := s.headDesc u ch = some d ∧ s.descBad d = false

/-- CONS has moved past the descriptor (06 Table 6.1). -/
def TakenFrom (s u : State) (d : Desc) : Prop := (u.ring d.ring).cons = (s.ring d.ring).cons + 1

/-- A descriptor's completion waits on its ring with this status and RESULT (06 R271). -/
def Finished (u : State) (d : Desc) (status : Nat) (result : Word) : Prop :=
  ∃ x ∈ (u.ring d.ring).done, x.idx = d.idx ∧ x.status = status ∧ x.result = result

/-- A descriptor's completion waits on its ring with this status (06 R271). -/
def EndedWith (u : State) (d : Desc) (status : Nat) : Prop := ∃ x ∈ (u.ring d.ring).done, x.idx = d.idx ∧ x.status = status

/-- A command answers a next state in which its engine has taken the descriptor, and of which `P` holds. -/
def Takes (i : Instr) (s : State) (d : Desc) (P : State → Prop) : Prop := Gives i s (fun u => TakenFrom s u d ∧ P u)

/-- As `Takes`, before the full reset that a breach would have ordered. -/
def TakesEffect (i : Instr) (s : State) (d : Desc) (P : State → Prop) : Prop := Effect i s (fun u => TakenFrom s u d ∧ P u)

end Sys2Proof.Machine
end

