-- ==== Sys2Proof/WellFormed.lean ====
section
/-! DEFINITION. Which commands are well-formed: operands that the hardware could present. A meaning is total; an ill-formed command is one
that no agent sends. -/

namespace Sys2Proof

/-- Whether an address is a word of the set-up blocks or of CAL (03 Table 3.1). -/
def setupWord (a : Nat) : Bool :=
  a % 4 == 0 && ((decide (0x40000000 ≤ a) && decide (a < 0x40011000)) || (decide (0x50000000 ≤ a) && decide (a < 0x50001000)))

/-- An epoch reports each of the four notches and of the sixteen channels (13 R553, R561). -/
def GnssEpoch.wf (o : GnssEpoch) : Bool := o.notch.length == 4 && o.chans.length == 16

/-- Whether a word is a paired word (04 R170). -/
def pairWord (w : Word) : Bool := w.msb

/-- Whether a command is well-formed. -/
def Instr.wf : Instr → Bool
  | .registerWrite _ addr _ => setupWord addr.toNat
  | .pairedWord _ w => pairWord w
  | .reservedWord t w => decodeWord t w == .reserved
  | .retag _ _ _ _ tag => tagNames tag
  | .epochBoundary o => o.wf
  | .syncDetect c => c.soft.length ≤ 8192
  | .meshFrameReceived f => f.rx.soft.length ≤ 8192
  | .ackJudge (some f) => f.rx.soft.length ≤ 8192
  | _ => true

end Sys2Proof
end

