-- ==== Sys2Proof/Certificates/Slice0/Obligations.lean ====
section
/-! DEFINITION. The statements for the provers, one proposition each: the block and its queue, Flitu, then every family of commands. Each docstring says
what is claimed; OBLIGATIONS.json names the rules. -/

open Sys2Proof Sys2Proof.Machine

/-! ### The block and its queue -/

/-- A step with a command in front of the queue is that command's `exec` on the state with the queue's rest. -/
def Obligations.StepRunsTheFrontCommand : Prop :=
  ∀ (s : State) (i : Instr) (q : List Instr), s.pending = i :: q → step s = exec i (s.withPending q)

/-- Every command in every state answers a next state, with no breach reset outstanding: none faults, none is refused, one whose happening cannot occur
changing nothing (the model's choice, log 7). With no command waiting one steady-clock cycle passes (the model's choice, log 6): while the FLL runs,
the fraction's cycle count is one higher and no counter is at its overflow, and nothing else changes unless a counter counts the steady clock or a
VERIFY, a cipher operation or a GNSS record waits to go on; while it does not run, nothing changes. -/
def Obligations.EveryCommandAnswersNext : Prop :=
  (∀ (i : Instr) (s : State), Gives i s State.quiet) ∧
  (∀ s : State, s.pending = [] → s.quiet →
    step s = .next s.steadyCycle.settle ∧
    (s.fllRuns = false → step s = .next s) ∧
    (s.fllRuns = true → (∀ n, s.counterCounts n = true → s.fld (F.CNT_CTL_SRC n.val) ≠ 2) → s.flash.op = none → s.cip.waiting = none →
      s.gnss.out = [] →
      step s = .next { s with time := { s.time with cyc := s.time.cyc + 1 }, cnt := s.cnt.map (fun p => { p with wrapped := false }) }))

/-- After any step no breach reset is outstanding (01 R59). -/
def Obligations.StepsKeepQuiet : Prop :=
 ∀ s u : State, s.quiet → step s = .next u → u.quiet

/-- Every step from a state whose memories and register images stand in their one canonical form, and whose accounts balance, answers such a state: a
grant is at every moment the sum of what is returned, held and in flight. -/
def Obligations.StepsKeepCanonical : Prop :=
  ∀ s u : State, s.canonical → s.books → step s = .next u → u.canonical ∧ u.books

/-- The part right after a power-on reset: quiet, canonical and its accounts balanced; the steady island lit, the other islands dark; thread 0 runs in
warden mode from 0, 8 and 9 are dark, the others stopped; the time base 0; the calendar at 2000-01-01; every ring OFF; spans 0 and 1 granted 8. -/
def Obligations.ResetState : Prop :=
  State.reset.quiet ∧ State.reset.canonical ∧ State.reset.books ∧ State.reset.pending = [] ∧
  (∀ i : Island, State.reset.lit i = (i == .steady)) ∧
  (∀ t : ThreadId, (State.reset.thr t).st = (if t = 0 then .run else if t.val < 8 then .stopped else .dark) ∧
    (State.reset.thr t).mode = true ∧ (State.reset.thr t).ent = false ∧ (State.reset.thr t).pc = 0) ∧
  State.reset.time.tick = 0 ∧ State.reset.bak.cal = ⟨0, 0, 0, 0, 6, 1, 1, 2000⟩ ∧
  (∀ n : RingId, State.reset.ringState n = ringOff) ∧
  (∀ k : Nat, State.reset.acct k = (if 0x40 ≤ k ∧ k < 0x44 then ⟨8, 8, 0, 0⟩ else ⟨0, 0, 0, 0⟩))

/-! ### Words -/

/-- Every well-formed instruction of the long form decodes from its word, every operand at every value. A word of the long form that is not reserved is
the encoding of the well-formed instruction it decodes to: no bit of it is dropped. The one exception is the model's choice (log 68): MFS, MTS and
MKKEY use four bits of imm10, and its other bits are taken not to be examined. A paired word's halves decode to the short operations it was made of,
unless both branch; two that branch are ILLPAIR. -/
def Obligations.WordsDecodeAndEncode : Prop :=
  (∀ (i : Instr) (w : Word), i.wf = true → encode i = some w → ∃ t : ThreadId, decodeLong t w = some i) ∧
  (∀ (i : Instr) (t : ThreadId) (w : Word), w.msb = false → decodeLong t w = some i →
    (0x3C ≤ (w.extractLsb' 20 7).toNat ∧ (w.extractLsb' 20 7).toNat ≤ 0x3E → w.extractLsb' 4 6 = 0) →
    i.wf = true ∧ encode i = some w) ∧
  (∀ (t : ThreadId) (a b : Short), (∀ off, a ≠ .bc .tv off) → (∀ off, b ≠ .bc .tv off) →
    decodeWord t (wordPair a b) = if a.branches = true ∧ b.branches = true then .illpair else .pair a b)

/-- The words that the spec writes out decode to the instructions it gives for them. -/
def Obligations.SpecWordsDecode : Prop :=
  ∀ t : ThreadId,
    decodeWord t 0x88D08AB2 = .pair (.add 3 4) (.ldw 5 6 1) ∧
    decodeWord t 0x01E14000 = .long (.movh t .al 2 0x4000) ∧
    decodeWord t 0x01C11020 = .long (.orl t .al 2 0x1020) ∧
    decodeWord t 0x01710802 = .long (.retag t .al 2 2 2) ∧
    decodeWord t 0x12038800 = .long (.ldw t .ne 7 2 0) ∧
    decodeWord t 0x038214C0 = .long (.bcopy t .al 4 5 6)

/-! ### Computing instructions -/

/-- ADD to REMS: where the condition holds and Table 4.2 gives the source tags a result tag, rd takes the result with that tag, the thread goes to its
next word, and nothing else changes. `A`, `B` are the sources as unsigned numbers, `I`, `J` as signed ones. -/
def Obligations.ThreeRegisterArithmetic : Prop :=
  ∀ (s : State) (t : ThreadId) (c : Cond) (rd ra rb : Reg) (g : Tag), s.ready t → condHolds (s.thr t) c ra = true →
    let a := (s.thr t).get ra
    let b := (s.thr t).get rb
    let A := a.data.toNat
    let B := b.data.toNat
    let I := a.data.toInt
    let J := b.data.toInt
    let out (i : Instr) (h : Option Tag) (v : Int) : Prop := h = some g → exec i s = .next (s.wrote t rd ⟨BitVec.ofInt 32 v, g⟩)
    out (.add t c rd ra rb) (tagAdd a.tag b.tag) (A + B) ∧
    out (.sub t c rd ra rb) (tagSub a.tag b.tag) (A - B) ∧
    out (.and t c rd ra rb) (tagAnd a.tag b.tag) ((A &&& B : Nat) : Int) ∧
    out (.or t c rd ra rb) (tagOr a.tag b.tag) ((A ||| B : Nat) : Int) ∧
    out (.xor t c rd ra rb) (tagOr a.tag b.tag) ((A ^^^ B : Nat) : Int) ∧
    out (.shl t c rd ra rb) (tagShift a.tag b.tag) (A * 2 ^ B) ∧
    out (.shr t c rd ra rb) (tagShift a.tag b.tag) ((A / 2 ^ B : Nat) : Int) ∧
    out (.sar t c rd ra rb) (tagShift a.tag b.tag) (I / 2 ^ B) ∧
    out (.mul t c rd ra rb) (tagMul a.tag b.tag) (A * B) ∧
    out (.mulhu t c rd ra rb) (tagMul a.tag b.tag) ((A * B / 2 ^ 32 : Nat) : Int) ∧
    out (.mulhs t c rd ra rb) (tagMul a.tag b.tag) (I * J / 2 ^ 32) ∧
    out (.divu t c rd ra rb) (tagMul a.tag b.tag) (if B = 0 then 2 ^ 32 - 1 else ((A / B : Nat) : Int)) ∧
    out (.divs t c rd ra rb) (tagMul a.tag b.tag) (if J = 0 then -1 else Int.tdiv I J) ∧
    out (.remu t c rd ra rb) (tagMul a.tag b.tag) (if B = 0 then (A : Int) else ((A % B : Nat) : Int)) ∧
    out (.rems t c rd ra rb) (tagMul a.tag b.tag) (if J = 0 then I else Int.tmod I J)

/-- ADDI to SARI, ORL, MOV, TAGOF, MOVH, ADRC and RETAG: rd takes the result, the thread goes to its next word, and nothing else changes. ADDI and ANDI
sign-extend imm10; ORI and XORI zero-extend it; a shift takes five bits. RETAG copies the data with the named tag where the source is no KEY and a
minted target finds the thread in warden mode. -/
def Obligations.ImmediateAndMoveForms : Prop :=
  ∀ (s : State) (t : ThreadId) (c : Cond) (rd ra : Reg) (imm : BitVec 10) (sh : BitVec 5) (i16 : BitVec 16) (i15 : BitVec 15)
    (tg : BitVec 4) (g : Tag), s.ready t →
    let x := s.thr t
    let a := x.get ra
    let A := a.data.toNat
    let out (i : Instr) (v : Int) (k : Tag) : Prop := exec i s = .next (s.wrote t rd ⟨BitVec.ofInt 32 v, k⟩)
    (condHolds x c ra = true →
      (tagAdd a.tag .int = some g → out (.addi t c rd ra imm) (A + imm.toInt) g) ∧
      (tagAnd a.tag .int = some g → out (.andi t c rd ra imm) ((A &&& (BitVec.ofInt 32 imm.toInt).toNat : Nat) : Int) g) ∧
      (tagOr a.tag .int = some g → out (.ori t c rd ra imm) ((A ||| imm.toNat : Nat) : Int) g) ∧
      (tagOr a.tag .int = some g → out (.xori t c rd ra imm) ((A ^^^ imm.toNat : Nat) : Int) g) ∧
      (tagShift a.tag .int = some g → out (.shli t c rd ra sh) (A * 2 ^ sh.toNat) g) ∧
      (tagShift a.tag .int = some g → out (.shri t c rd ra sh) ((A / 2 ^ sh.toNat : Nat) : Int) g) ∧
      (tagShift a.tag .int = some g → out (.sari t c rd ra sh) (a.data.toInt / 2 ^ sh.toNat) g) ∧
      exec (.mov t c rd ra) s = .next (s.wrote t rd a) ∧
      out (.tagof t c rd ra) a.tag.num .int ∧
      (tagNames tg = true → a.tag ≠ .key → (x.mode = true ∨ (tagOf tg.toNat ≠ .addr ∧ tagOf tg.toNat ≠ .code)) →
        exec (.retag t c rd ra tg) s = .next (s.wrote t rd ⟨a.data, tagOf tg.toNat⟩))) ∧
    (condHolds x c rd = true →
      (tagOr (x.get rd).tag .int = some g → out (.orl t c rd i16) (((x.get rd).data.toNat ||| i16.toNat : Nat) : Int) g) ∧
      out (.movh t c rd i16) (i16.toNat * 65536) .int ∧
      out (.adrc t c rd i15) (x.pc.toNat + 4 * i15.toInt) .code)

/-- CMP, CMPI and TST write the flags and the pc only. CMP and CMPI of a and b: Z is a = b, C is a ≥ b unsigned, and N ≠ V is a < b signed; over two SEQ
or two TIME words, with d = b − a modulo 2^32: Z is d = 0, N is 1 ≤ d < 2^31, C is d = 0 or d > 2^31, V is d = 2^31. TST sets Z and N of the
conjunction and keeps C and V. -/
def Obligations.ComparesSetFlags : Prop :=
  ∀ (s : State) (t : ThreadId) (c : Cond) (ra rb : Reg) (imm : BitVec 10), s.ready t → condHolds (s.thr t) c ra = true →
    let x := s.thr t
    let a := x.get ra
    let b := x.get rb
    let j : Word := BitVec.ofInt 32 imm.toInt
    let flags (i : Instr) (p : Bool → Bool → Bool → Bool → Prop) : Prop :=
      ∃ z n k v, exec i s = .next (s.setThr t { x with z := z, n := n, c := k, v := v, pc := x.pc + 4, bip := false, issued := Held.no }) ∧ p z n k v
    let plain (p q : Word) (z n k v : Bool) : Prop :=
      (z = true ↔ p = q) ∧ (k = true ↔ q.toNat ≤ p.toNat) ∧ (n ≠ v ↔ p.toInt < q.toInt) ∧ n = (p - q).msb
    let d := (b.data.toNat + (2 ^ 32 - a.data.toNat)) % 2 ^ 32
    (tagCmp a.tag b.tag = true → ¬(a.tag = b.tag ∧ (a.tag = .seq ∨ a.tag = .time)) →
      flags (.cmp t c ra rb) (plain a.data b.data)) ∧
    (a.tag = b.tag → a.tag = .seq ∨ a.tag = .time →
      flags (.cmp t c ra rb) (fun z n k v => (z = true ↔ d = 0) ∧ (n = true ↔ 1 ≤ d ∧ d < 2 ^ 31) ∧ (k = true ↔ d = 0 ∨ 2 ^ 31 < d) ∧
        (v = true ↔ d = 2 ^ 31))) ∧
    (tagCmp a.tag .int = true → flags (.cmpi t c ra imm) (plain a.data j)) ∧
    (tagTst a.tag b.tag = true →
      flags (.tst t c ra rb) (fun z n k v => (z = true ↔ a.data &&& b.data = 0) ∧ n = (a.data &&& b.data).msb ∧ k = x.c ∧ v = x.v))

/-- The source tags that Table 4.2 permits, and the result tags: all other pairs give none. CMP and TST, which give flags only, take the pairs of their
rows and no other. Sources that Table 4.2 does not permit fault before anything is written: in a thread whose entry is free and valid, warden entry
with the code of the first VOID source (0x20) or KEY source (0x21), else 0x22, EPC the faulting word, the pc at EVT_TENT, TSW.PMODE the old mode. -/
def Obligations.TagTableAndFaults : Prop :=
  (let both (g : Tag) : List (Tag × Tag) := [(g, .int), (.int, g)]
  (∀ a b g, tagAdd a b = some g ↔
    (a = .int ∧ b = .int ∧ g = .int) ∨ ((a, b) ∈ both .addr ∧ g = .addr) ∨ ((a, b) ∈ both .code ∧ g = .code) ∨
    ((a, b) ∈ both .time ∧ g = .time) ∨ ((a, b) ∈ both .seq ∧ g = .seq) ∨ ((a, b) ∈ (.raw, .raw) :: both .raw ∧ g = .raw)) ∧
  (∀ a b g, tagSub a b = some g ↔
    (a = .int ∧ b = .int ∧ g = .int) ∨ (b = .int ∧ a ∈ [Tag.addr, .code, .time, .seq] ∧ g = a) ∨
    (a = b ∧ a ∈ [Tag.addr, .code, .time, .seq] ∧ g = .int) ∨ ((a, b) ∈ (.raw, .raw) :: both .raw ∧ g = .raw)) ∧
  (∀ a b g, tagMul a b = some g ↔ a = .int ∧ b = .int ∧ g = .int) ∧
  (∀ a b g, tagOr a b = some g ↔ (a = .int ∧ b = .int ∧ g = .int) ∨ ((a, b) ∈ (.raw, .raw) :: both .raw ∧ g = .raw)) ∧
  (∀ a b g, tagAnd a b = some g ↔
    (a = .int ∧ b = .int ∧ g = .int) ∨ ((a, b) ∈ both .addr ∧ g = .addr) ∨ ((a, b) ∈ (.raw, .raw) :: both .raw ∧ g = .raw)) ∧
  (∀ a b g, tagShift a b = some g ↔ b = .int ∧ (a = .int ∨ a = .raw) ∧ g = a) ∧
  (∀ a b, tagCmp a b = true ↔
    (a = b ∧ a ∈ [Tag.int, .addr, .code, .time, .seq]) ∨ ((a = .int ∨ a = .raw) ∧ (b = .int ∨ b = .raw))) ∧
  (∀ a b, tagTst a b = true ↔ (a = .int ∨ a = .raw) ∧ (b = .int ∨ b = .raw))) ∧
  (∀ (s : State) (t : ThreadId) (c : Cond) (rd ra rb : Reg), s.ready t → condHolds (s.thr t) c ra = true → (s.thr t).ent = false →
    s.flag (F.EVT_TENT_VALID t.val) = true →
    let x := s.thr t
    let a := (x.get ra).tag
    let b := (x.get rb).tag
    let code : Nat := if a = .void then 0x20 else if a = .key then 0x21 else if b = .void then 0x20 else if b = .key then 0x21 else 0x22
    let enters (i : Instr) : Prop :=
      exec i s = .next (s.setThr t { x with
        epc := x.pc, ecause := BitVec.ofNat 32 code, eaddr := 0, pmode := x.mode, mode := true,
        ent := true, bip := false, issued := Held.no, pc := BitVec.ofNat 32 (s.fld (F.EVT_TENT_ADDR t.val) * 4) })
    (tagAdd a b = none → enters (.add t c rd ra rb)) ∧ (tagSub a b = none → enters (.sub t c rd ra rb)) ∧
    (tagAnd a b = none → enters (.and t c rd ra rb)) ∧ (tagOr a b = none → enters (.or t c rd ra rb)) ∧
    (tagOr a b = none → enters (.xor t c rd ra rb)) ∧ (tagShift a b = none → enters (.shl t c rd ra rb)) ∧
    (tagShift a b = none → enters (.shr t c rd ra rb)) ∧ (tagShift a b = none → enters (.sar t c rd ra rb)) ∧
    (tagMul a b = none → enters (.mul t c rd ra rb) ∧ enters (.mulhu t c rd ra rb) ∧ enters (.mulhs t c rd ra rb) ∧
      enters (.divu t c rd ra rb) ∧ enters (.divs t c rd ra rb) ∧ enters (.remu t c rd ra rb) ∧ enters (.rems t c rd ra rb)) ∧
    (tagCmp a b = false → enters (.cmp t c ra rb)) ∧ (tagTst a b = false → enters (.tst t c ra rb)))

/-- A false condition leaves everything but the pc as it is, TSW.BIP being 0 afterwards: every instruction of the long form, TV, which finds its register
VOID, among the conditions. A block instruction that stands in its middle, with TSW.BIP = 1, tests no condition: it goes on as with AL (the model's
choice, log 67). -/
def Obligations.FalseConditionSkips : Prop :=
  ∀ (s : State) (t : ThreadId) (w : Word) (i : Instr), s.ready t → decodeLong t w = some i →
    let op := (w.extractLsb' 20 7).toNat
    let wide : Bool := (0x1C ≤ op && op ≤ 0x1F) || op == 0x30 || op == 0x31 || op == 0x34 || op == 0x3F
    let block : Prop := 0x38 ≤ op ∧ op ≤ 0x3B
    (condHolds (s.thr t) (condOf (w.extractLsb' 27 4)) (if wide then regAt w 15 else regAt w 10) = false → (block → (s.thr t).bip = false) →
      exec i s = .next (s.setThr t { s.thr t with pc := (s.thr t).pc + 4, bip := false, issued := Held.no })) ∧
    (∀ (c : Cond) (rd ra rb : Reg), (s.thr t).bip = true →
      exec (.bcopy t c rd ra rb) s = exec (.bcopy t .al rd ra rb) s ∧ exec (.bfill t c rd ra rb) s = exec (.bfill t .al rd ra rb) s ∧
      exec (.bcrc t c rd ra rb) s = exec (.bcrc t .al rd ra rb) s ∧ exec (.bretag t c rd ra rb) s = exec (.bretag t .al rd ra rb) s)

/-! ### Memory -/

/-- LDW, LDWX and the halfword and byte loads, through an ADDR base and at an aligned address whose read is not refused: rd takes the word with its stored
tag, or the zero- or sign-extended part as INT (VOID where the word's tag is VOID; a KEY word is no case of it). In plain memory and in the boot ROM,
where the access's crossings leave the books as they are, nothing else changes, and no byte of memory; elsewhere the rest is what the word's read
leaves (`loadWord`). An access that waited is judged as it was issued (`thrRead`). -/
def Obligations.LoadsReadMemory : Prop :=
  ∀ (s : State) (t : ThreadId) (c : Cond) (rd ra rb : Reg) (imm : BitVec 10), s.ready t → condHolds (s.thr t) c ra = true →
    ((s.thr t).get ra).tag = .addr →
    let x := s.thr t
    let base := (x.get ra).data.toNat
    let at' (off : Int) : Nat := ((base + off) % 2 ^ 32).toNat
    let okay (n a : Nat) : Prop := a % n = 0 ∧ s.thrRead x.issued (ownBurst t) a n = .ok
    let plain (a : Nat) : Prop := (plainRam a || Region.rom.holds a) = true ∧ s.crosses t (wordAddr a) = s
    let read (a : Nat) : TWord × State := (s.clearBip t).loadWord t a
    let word (i : Instr) (a : Nat) : Prop :=
      okay 4 a →
        (plain a → exec i s = .next (s.wrote t rd ⟨s.mem.word a, s.mem.tag a⟩)) ∧
        exec i s = .next ((read a).2.write t rd (read a).1).settle
    let part (i : Instr) (n : Nat) (signed : Bool) (a : Nat) (v : Int) : Prop :=
      okay n a →
        (plain a → s.mem.tag a ≠ .key →
          exec i s = .next (s.wrote t rd ⟨BitVec.ofInt 32 v, if s.mem.tag a = .void then .void else .int⟩)) ∧
        let r := read (wordAddr a)
        let p : Nat := r.1.data.toNat / 2 ^ (8 * (a % 4)) % 2 ^ (8 * n)
        let k : Int := if signed = true ∧ 2 ^ (8 * n - 1) ≤ p then p - 2 ^ (8 * n) else p
        (r.1.tag ≠ .key → exec i s = .next (r.2.write t rd ⟨BitVec.ofInt 32 k, if r.1.tag = .void then .void else .int⟩).settle)
    let byte (a : Nat) := s.mem.byte a
    let half (a : Nat) : BitVec 16 := s.mem.byte (a + 1) ++ s.mem.byte a
    word (.ldw t c rd ra imm) (at' (4 * imm.toInt)) ∧
    ((x.get rb).tag = .int → word (.ldwx t c rd ra rb) (at' (x.get rb).data.toNat)) ∧
    part (.ldhu t c rd ra imm) 2 false (at' (2 * imm.toInt)) (half (at' (2 * imm.toInt))).toNat ∧
    part (.ldhs t c rd ra imm) 2 true (at' (2 * imm.toInt)) (half (at' (2 * imm.toInt))).toInt ∧
    part (.ldbu t c rd ra imm) 1 false (at' imm.toInt) (byte (at' imm.toInt)).toNat ∧
    part (.ldbs t c rd ra imm) 1 true (at' imm.toInt) (byte (at' imm.toInt)).toInt

/-- STW, STWX, STH and STB through an ADDR base, at an aligned address of plain memory whose store is not refused and that is no watched word: the stored
bytes are the source's low bytes, least significant first; every other byte of memory is as before; a word store writes its tag, a part store retags
its word RAW, no other tag changes; the thread goes to its next word, and registers and all else keep. In GNSS capture RAM no tag changes, and the
island counts as active now. Each is said of an address whose crossings leave the books as they are. A word store to a set-up register in warden mode
does what a write of that register does, after its crossings. -/
def Obligations.StoresWriteMemory : Prop :=
  ∀ (s : State) (t : ThreadId) (c : Cond) (rd ra rb : Reg) (imm : BitVec 10), s.ready t → condHolds (s.thr t) c ra = true →
    ((s.thr t).get ra).tag = .addr →
    let x := s.thr t
    let w := x.get rd
    let base := (x.get ra).data
    let into (i : Instr) (n a : Nat) : Prop :=
      a % n = 0 → s.thrWrite x.issued (ownBurst t) a n = .ok → s.crosses t a = s →
      let bytes (u : State) : Prop := (∀ k, k < n → u.mem.byte (a + k) = w.data.extractLsb' (8 * k) 8) ∧
        (∀ b, b < a ∨ a + n ≤ b → u.mem.byte b = s.mem.byte b)
      (plainRam a = true → s.watched (wordAddr a) = none → (n = 4 ∨ (w.tag ≠ .key ∧ w.tag ≠ .void)) →
        Gives i s (fun u => bytes u ∧ u.mem.tag a = (if n = 4 then w.tag else .raw) ∧
          (∀ b, wordAddr b ≠ wordAddr a → u.mem.tag b = s.mem.tag b) ∧ u = { s.advanced t with mem := u.mem })) ∧
      (Region.gnss.holds a = true → w.tag ≠ .key → (n = 4 ∨ w.tag ≠ .void) →
        Gives i s (fun u => bytes u ∧ u.mem.tags = s.mem.tags ∧ u = { (s.advanced t).touch .gnss with mem := u.mem }))
    let reg (i : Instr) (a : Nat) : Prop :=
      a % 4 = 0 → inRegs a = true → x.mode = true → w.tag ≠ .key → s.thrWrite x.issued (ownBurst t) a 4 = .ok →
      exec i s = .next (((s.advanced t).crosses t a).regWrite t a w.data).settle
    into (.stw t c rd ra imm) 4 (effAddr base (BitVec.ofInt 32 (4 * imm.toInt))) ∧
    reg (.stw t c rd ra imm) (effAddr base (BitVec.ofInt 32 (4 * imm.toInt))) ∧
    ((x.get rb).tag = .int → into (.stwx t c rd ra rb) 4 (effAddr base (x.get rb).data) ∧
      reg (.stwx t c rd ra rb) (effAddr base (x.get rb).data)) ∧
    into (.sth t c rd ra imm) 2 (effAddr base (BitVec.ofInt 32 (2 * imm.toInt))) ∧
    into (.stb t c rd ra imm) 1 (effAddr base (BitVec.ofInt 32 imm.toInt))

/-- The traps of loads, stores, jumps and the privileged forms, in a thread whose entry is free and valid: the warden is entered with the code, the
address that the fault reports and the word's own address, and nothing else changes. A base that is not ADDR comes first (0x23), then, of a store, a
guest that names a set-up register (0x12), then an index that is not INT, then what the word's own tag forbids (KEY 0x21 to a set-up register or
capture RAM, and KEY or VOID in any part store), then alignment (0x28), then what the address meets. A jump asks for CODE (0x24), then for a word's
address. A guest may not mint a key, write TSW, or retag to ADDR or CODE (0x12); a KEY word is not retagged, nor read in part (0x21); the sources of
MTS, WAIT and SEND are INT. -/
def Obligations.AccessFaultsEnterWarden : Prop :=
  ∀ (s : State) (t : ThreadId) (c : Cond) (rd ra rb : Reg) (imm : BitVec 10) (sr slot tg : BitVec 4), s.ready t →
    let x := s.thr t
    condHolds x c ra = true → condHolds x c 0 = true → x.ent = false → s.flag (F.EVT_TENT_VALID t.val) = true →
    let b := x.get ra
    let k := x.get rb
    let w := x.get rd
    let entered (r : State) (code : Nat) (addr : Word) : State := r.setThr t { x with
      epc := x.pc, ecause := BitVec.ofNat 32 code, eaddr := addr, pmode := x.mode, mode := true, ent := true, bip := false, issued := Held.no,
      pc := BitVec.ofNat 32 (s.fld (F.EVT_TENT_ADDR t.val) * 4) }
    let enters (i : Instr) (code : Nat) (addr : Word) : Prop := exec i s = .next (entered s code addr)
    let mix (g : Tag) : Nat := if g = .void then 0x20 else if g = .key then 0x21 else 0x22
    let mint : Prop := tagNames tg = true ∧ (tagOf tg.toNat = .addr ∨ tagOf tg.toNat = .code)
    let at' (n : Nat) : Word := b.data + BitVec.ofInt 32 (n * imm.toInt)
    let met (i : Instr) (r : Reach) (a : Word) : Prop := ∀ f, r = .fault f →
      exec i s = .next (entered (if f = .mempar then s.afterRead a.toNat else s) f.num a)
    let odd (i : Instr) (n : Nat) (a : Word) : Prop := a.toNat % n ≠ 0 → enters i 0x28 a
    let loads (i : Instr) (n : Nat) (a : Word) : Prop := a.toNat % n = 0 → met i (s.thrRead x.issued (ownBurst t) a.toNat n) a
    let part (i : Instr) (n : Nat) (a : Word) : Prop := a.toNat % n = 0 → s.thrRead x.issued (ownBurst t) a.toNat n = .ok → plainRam a.toNat = true →
      s.crosses t (wordAddr a.toNat) = s → s.mem.tag a.toNat = .key → enters i 0x21 0
    let barred (a : Word) : Bool := !x.mode && inRegs a.toNat
    let keyOff (n : Nat) (a : Word) : Bool := w.tag == .key && (n < 4 || inRegs a.toNat || Region.gnss.holds a.toNat)
    let stores (i : Instr) (n : Nat) (a : Word) : Prop :=
      (barred a = true → enters i 0x12 a) ∧ (barred a = false → keyOff n a = true → enters i 0x21 0) ∧
      (barred a = false → keyOff n a = false → n = 4 ∨ w.tag ≠ .void → a.toNat % n = 0 → met i (s.thrWrite x.issued (ownBurst t) a.toNat n) a)
    let oddStore (i : Instr) (n : Nat) (a : Word) : Prop :=
      barred a = false → keyOff n a = false → n = 4 ∨ w.tag ≠ .void → a.toNat % n ≠ 0 → enters i 0x28 a
    let empty (i : Instr) (a : Word) : Prop := barred a = false → w.tag = .void → enters i 0x20 0
    (b.tag ≠ .addr → ∀ i ∈ [.ldw t c rd ra imm, .ldhu t c rd ra imm, .ldhs t c rd ra imm, .ldbu t c rd ra imm, .ldbs t c rd ra imm,
      .ldwx t c rd ra rb, .stw t c rd ra imm, .sth t c rd ra imm, .stb t c rd ra imm, .stwx t c rd ra rb], enters i 0x23 0) ∧
    (b.tag = .addr →
      odd (.ldw t c rd ra imm) 4 (at' 4) ∧ odd (.ldhu t c rd ra imm) 2 (at' 2) ∧ odd (.ldhs t c rd ra imm) 2 (at' 2) ∧
      loads (.ldw t c rd ra imm) 4 (at' 4) ∧ loads (.ldhu t c rd ra imm) 2 (at' 2) ∧ loads (.ldhs t c rd ra imm) 2 (at' 2) ∧
      loads (.ldbu t c rd ra imm) 1 (at' 1) ∧ loads (.ldbs t c rd ra imm) 1 (at' 1) ∧
      part (.ldhu t c rd ra imm) 2 (at' 2) ∧ part (.ldhs t c rd ra imm) 2 (at' 2) ∧ part (.ldbu t c rd ra imm) 1 (at' 1) ∧
      part (.ldbs t c rd ra imm) 1 (at' 1) ∧
      (k.tag ≠ .int → enters (.ldwx t c rd ra rb) (mix k.tag) 0) ∧
      (k.tag = .int → odd (.ldwx t c rd ra rb) 4 (b.data + k.data) ∧ loads (.ldwx t c rd ra rb) 4 (b.data + k.data)) ∧
      stores (.stw t c rd ra imm) 4 (at' 4) ∧ stores (.sth t c rd ra imm) 2 (at' 2) ∧ stores (.stb t c rd ra imm) 1 (at' 1) ∧
      oddStore (.stw t c rd ra imm) 4 (at' 4) ∧ oddStore (.sth t c rd ra imm) 2 (at' 2) ∧
      empty (.sth t c rd ra imm) (at' 2) ∧ empty (.stb t c rd ra imm) (at' 1) ∧
      (barred (b.data + k.data) = true → enters (.stwx t c rd ra rb) 0x12 (b.data + k.data)) ∧
      (barred (b.data + k.data) = false → k.tag ≠ .int → enters (.stwx t c rd ra rb) (mix k.tag) 0) ∧
      (k.tag = .int → stores (.stwx t c rd ra rb) 4 (b.data + k.data) ∧ oddStore (.stwx t c rd ra rb) 4 (b.data + k.data))) ∧
    (∀ i ∈ [.jr t c ra, .jlr t c rd ra], (b.tag ≠ .code → enters i 0x24 0) ∧ (b.tag = .code → b.data.toNat % 4 ≠ 0 → enters i 0x28 b.data)) ∧
    (x.mode = false → enters (.mkkey t c rd slot) 0x12 0 ∧ enters (.mts t c ra 1) 0x12 0 ∧
      (mint → enters (.retag t c rd ra tg) 0x12 0)) ∧
    (x.mode = true ∨ sr ≠ 1 → b.tag ≠ .int → enters (.mts t c ra sr) (mix b.tag) 0) ∧
    (tagNames tg = true → x.mode = true ∨ ¬ mint → b.tag = .key → enters (.retag t c rd ra tg) 0x21 0) ∧
    (b.tag ≠ .int → enters (.wait t c rd ra) (mix b.tag) 0 ∧ enters (.send t c rd ra rb) (if b.tag = .void ∨ b.tag = .key then mix b.tag else mix k.tag) 0) ∧
    (b.tag = .int → k.tag ≠ .int → enters (.send t c rd ra rb) (mix k.tag) 0)

/-! ### Control -/

/-- B, BL, JR and JLR: the pc goes to the word at the offset, or to the aligned CODE address of the register, with the CODE address of the next word in
g31 or rd where the instruction links; nothing else changes. -/
def Obligations.BranchesSetPc : Prop :=
  ∀ (s : State) (t : ThreadId) (c : Cond) (rd ra : Reg) (off : BitVec 20), s.ready t →
    let x := s.thr t
    let dest : Word := BitVec.ofInt 32 (x.pc.toNat + 4 * (if c = .tv then (off.extractLsb' 0 15).toInt else off.toInt))
    let link (r : Reg) (pc : Word) : State := s.setThr t { (x.put r ⟨x.pc + 4, .code⟩) with pc := pc, bip := false, issued := Held.no }
    (condHolds x c ⟨(off.extractLsb' 15 5).toNat, (off.extractLsb' 15 5).isLt⟩ = true →
      exec (.b t c off) s = .next (s.jumped t dest) ∧ exec (.bl t c off) s = .next (link 31 dest)) ∧
    (condHolds x c ra = true → (x.get ra).tag = .code → (x.get ra).data.toNat % 4 = 0 →
      exec (.jr t c ra) s = .next (s.jumped t (x.get ra).data) ∧
      exec (.jlr t c rd ra) s = .next (link rd (x.get ra).data))

/-- SYS with the entry free and valid enters the warden with code 0x30 and its immediate, EPC past the word; WRET in warden mode restores pc, mode and
TSW.BIP; nothing else changes. With no entry to be had SYS leaves the thread FAULTED, its word's address in EVT_TFPC. -/
def Obligations.SysAndReturn : Prop :=
  ∀ (s : State) (t : ThreadId) (c : Cond) (imm : BitVec 15), s.ready t → condHolds (s.thr t) c 0 = true →
    let x := s.thr t
    (x.ent = false → s.flag (F.EVT_TENT_VALID t.val) = true →
      exec (.sys t c imm) s = .next (s.setThr t { x with
        epc := x.pc + 4, ecause := 0x30#32 ||| (0#1 ++ imm ++ 0#16), eaddr := 0,
        pmode := x.mode, mode := true, ent := true, bip := false, issued := Held.no, pc := BitVec.ofNat 32 (s.fld (F.EVT_TENT_ADDR t.val) * 4) })) ∧
    (x.ent = true ∨ s.flag (F.EVT_TENT_VALID t.val) = false → s.fld F.EVT_FROUTE_TMASK = 0 → s.flag F.CIP_LOCK_HELD = false →
      Gives (.sys t c imm) s (fun u => u = { s.setThr t { x with st := .faulted, bip := false, issued := Held.no } with live := u.live } ∧
        u.fld (F.EVT_TFPC_PC t.val) = x.pc.toNat ∧ u.reg (F.EVT_TFCAUSE_CAUSE t.val).addr = (0x30#32 ||| (0#1 ++ imm ++ 0#16)) ∧
        SameRegs [(F.EVT_TFPC_PC t.val).addr, (F.EVT_TFCAUSE_CAUSE t.val).addr] s u ∧ u.mem = s.mem ∧
        ∀ v, v ≠ t → u.thr v = s.thr v)) ∧
    (x.mode = true →
      exec (.wret t c) s = .next (s.setThr t { x with
        pc := x.epc, mode := x.pmode, bip := x.ecause.getLsbD 9, ent := false, issued := Held.no })) ∧
    (x.mode = false → x.ent = false → s.flag (F.EVT_TENT_VALID t.val) = true →
      exec (.wret t c) s = .next (s.setThr t { x with
        epc := x.pc, ecause := 0x12, eaddr := 0, pmode := false, mode := true, ent := true,
        bip := false, issued := Held.no, pc := BitVec.ofNat 32 (s.fld (F.EVT_TENT_ADDR t.val) * 4) }))

/-- WAIT with an INT mask sets WMASK; where a bit of it is pending the pending bits go to rd and are cleared, the thread going on, otherwise it waits.
WAIT_WAKE ends the WAIT of a thread with a bit of its mask pending in the same way. SEND with two INT sources: bits [31:24] of rb are set in the PEND
of a thread that runs or waits and can be reached, rd is INT 1, and the sender goes on; no memory changes but the target's event ring, and no account;
with no such thread or no bit set, rd is INT 0 and nothing else changes. -/
def Obligations.WaitAndSend : Prop :=
  (∀ (s : State) (t : ThreadId) (c : Cond) (rd ra : Reg), s.quiet →
    let x := s.thr t
    let m := (x.get ra).data
    (s.ready t → condHolds x c ra = true → (x.get ra).tag = .int →
      (x.pend &&& m ≠ 0 →
        exec (.wait t c rd ra) s = .next (s.setThr t { (x.put rd ⟨x.pend &&& m, .int⟩) with
          pend := x.pend &&& ~~~m, wmask := m, waitRd := rd, pc := x.pc + 4, bip := false, issued := Held.no, st := .run })) ∧
      (x.pend &&& m = 0 →
        exec (.wait t c rd ra) s = .next (s.setThr t { x with wmask := m, waitRd := rd, bip := false, issued := Held.no, st := .wait }))) ∧
    (s.coreRuns t = true → x.st = .wait → x.pend &&& x.wmask ≠ 0 →
      exec (.waitWake t) s = .next (s.unhold.setThr t { (x.put x.waitRd ⟨x.pend &&& x.wmask, .int⟩) with
        pend := x.pend &&& ~~~x.wmask, pc := x.pc + 4, st := .run }))) ∧
  (∀ (s : State) (t v : ThreadId) (c : Cond) (rd ra rb : Reg), s.ready t → condHolds (s.thr t) c ra = true →
    ((s.thr t).get ra).tag = .int → ((s.thr t).get rb).tag = .int →
    let x := s.thr t
    let bits := (x.get rb).data &&& 0xFF000000
    let free (u : ThreadId) : Prop := ((s.thr u).st = .run ∨ (s.thr u).st = .wait) ∧ (u.val < 8 ∨ s.lit .burst = true)
    ((x.get ra).data.toNat = v.val → free v → bits ≠ 0 →
      Gives (.send t c rd ra rb) s (fun u => (u.thr v).pend = (s.thr v).pend ||| bits ∧
        (u.thr t).regs = (x.put rd ⟨1, .int⟩).regs ∧ (u.thr t).pc = x.pc + 4 ∧
        (∀ k, k ≠ t → k ≠ v → u.thr k = s.thr k) ∧ u.ledger = s.ledger ∧ (s.flag (F.EVT_TRING_EN v.val) = false → u.mem = s.mem ∧ SameRegs [] s u) ∧
        (let hdr := s.fld (F.EVT_TRING_ADDR v.val) * 64
         let e := vget s.evring v
         let at' := e.base + e.prod % e.size * 16
         ∀ b, b < at' ∨ at' + 16 ≤ b → b < hdr + 8 ∨ hdr + 12 ≤ b → u.mem.byte b = s.mem.byte b) ∧
        SameRegs [F.LDG_SEQ_NEXT.addr, F.LDG_EPOCH_WRAPS.addr, (F.EVT_TOVF_COUNT v.val).addr] s u)) ∧
    (bits = 0 ∨ 10 ≤ (x.get ra).data.toNat ∨ ((x.get ra).data.toNat = v.val ∧ ¬ free v) →
      exec (.send t c rd ra rb) s = .next (s.wrote t rd ⟨0, .int⟩)))

/-- MFS reads a special register as INT; MTS writes one from an INT source and leaves the read-only ones and the other numbers; MKKEY writes a KEY handle
of a slot, in warden mode. A guest that mints a key or writes TSW changes nothing but to enter the warden with code 0x12. -/
def Obligations.SpecialRegisters : Prop :=
  ∀ (s : State) (t : ThreadId) (c : Cond) (rd ra : Reg) (sr slot : BitVec 4), s.ready t →
    let x := s.thr t
    let v := (x.get ra).data
    let bit (b : Bool) (n : Nat) : Nat := if b then 2 ^ n else 0
    (condHolds x c 0 = true →
      exec (.mfs t c rd sr) s = .next (s.wrote t rd ⟨
        match sr.toNat with
        | 0x0 => BitVec.ofNat 32 (bit x.z 0 + bit x.n 1 + bit x.c 2 + bit x.v 3)
        | 0x1 => BitVec.ofNat 32 (bit x.mode 0 + bit x.ent 2 + bit x.pmode 3 + bit x.snuff 4)
        | 0x2 => BitVec.ofNat 32 t.val
        | 0x8 => x.epc | 0x9 => x.ecause | 0xA => x.eaddr | 0xB => x.pend | 0xC => x.wmask
        | 0xD => s.reg (F.EVT_TENT_ADDR t.val).addr
        | _ => 0, .int⟩)) ∧
    (condHolds x c 0 = true → x.mode = true → exec (.mkkey t c rd slot) s = .next (s.wrote t rd ⟨slot.setWidth 32, .key⟩)) ∧
    (x.mode = false → x.ent = false → s.flag (F.EVT_TENT_VALID t.val) = true →
      ∀ i ∈ [.mkkey t c rd slot, .mts t c ra 1], condHolds x c (match i with | .mkkey _ _ _ _ => 0 | _ => ra) = true →
        exec i s = .next (s.setThr t { x with
          epc := x.pc, ecause := 0x12, eaddr := 0, pmode := false, mode := true, ent := true, bip := false, issued := Held.no,
          pc := BitVec.ofNat 32 (s.fld (F.EVT_TENT_ADDR t.val) * 4) })) ∧
    (condHolds x c ra = true → (x.get ra).tag = .int → (sr = 1 → x.mode = true) →
      exec (.mts t c ra sr) s = .next (s.setThr t
        { (match sr.toNat with
          | 0x0 => { x with z := v.getLsbD 0, n := v.getLsbD 1, c := v.getLsbD 2, v := v.getLsbD 3 }
          | 0x1 => { x with mode := v.getLsbD 0, ent := v.getLsbD 2, snuff := x.snuff && !v.getLsbD 4 }
          | 0x8 => { x with epc := v }
          | 0xB => { x with pend := x.pend &&& ~~~v }
          | _ => x) with pc := x.pc + 4, bip := false, issued := Held.no }))

/-! ### Block instructions, paired words, reserved words, fetch -/

/-- One chunk step of BCOPY, BFILL, BCRC and BRETAG over system SRAM that no comparator watches, whose words pass their check and whose crossings leave
the books as they are, with a count of whole words, not zero, its condition true or TSW.BIP = 1 (a word in its middle tests none: log 67): n =
min(count, 64) bytes. Registers are updated in the order rd, ra, rb, so that a later one named twice has the last word (log 78). BCOPY stores the n /
4 words read, data and tags, all of them read before any is written; BFILL stores ra; BRETAG keeps the data and writes the named tag; BCRC writes no
memory, and rd takes the continued CRC-32. No other byte or tag changes. The pointers advance by n, the count falls by n; the word is left with
TSW.BIP 0 when the count is 0, and stays with BIP 1 otherwise. -/
def Obligations.BlockInstructionsStepByChunk : Prop :=
  ∀ (s : State) (t : ThreadId) (c : Cond) (rd ra rb : Reg), s.ready t → (s.thr t).bip = true ∨ condHolds (s.thr t) c ra = true →
    let x := s.thr t
    let d := x.get rd
    let a := x.get ra
    let cnt := (x.get rb).data.toNat
    let n := min cnt 64
    (x.get rb).tag = .int → cnt % 4 = 0 → 0 < cnt →
    let free (p : Nat) : Prop := p % 4 = 0 ∧ 0x20000000 ≤ p ∧ p + n ≤ 0x20100000 ∧
      ∀ q, p ≤ q → q < p + n → s.mem.parityBad q = false ∧ s.watched (wordAddr q) = none ∧ s.crosses t q = s
    let left : TWord := ⟨BitVec.ofNat 32 (cnt - n), .int⟩
    let move (r : Reg) (y : Thread) : Thread := y.put r ⟨(x.get r).data + BitVec.ofNat 32 n, (x.get r).tag⟩
    let fin (y : Thread) : Thread := if cnt ≤ 64 then { y with bip := false, issued := Held.no, pc := x.pc + 4 } else { y with bip := true, issued := Held.no }
    let wrote (u : State) (f : Nat → TWord) : Prop :=
      (∀ k, k < n / 4 → u.mem.tword (d.data.toNat + 4 * k) = f k) ∧
      (∀ q, q < d.data.toNat ∨ d.data.toNat + n ≤ q → u.mem.byte q = s.mem.byte q ∧ u.mem.tag q = s.mem.tag q)
    (d.tag = .addr → a.tag = .addr → free d.data.toNat → free a.data.toNat →
      Gives (.bcopy t c rd ra rb) s (fun u => wrote u (fun k => s.mem.tword (a.data.toNat + 4 * k)) ∧
        u = { s.setThr t (fin ((move ra (move rd x)).put rb left)) with mem := u.mem })) ∧
    (d.tag = .addr → a.tag ≠ .key → free d.data.toNat →
      Gives (.bfill t c rd ra rb) s (fun u => wrote u (fun _ => a) ∧
        u = { s.setThr t (fin ((move rd x).put rb left)) with mem := u.mem })) ∧
    (d.tag = .addr → a.tag = .int → tagNames (a.data.setWidth 4) = true →
      (x.mode = true ∨ (tagOf (a.data.setWidth 4).toNat ≠ .addr ∧ tagOf (a.data.setWidth 4).toNat ≠ .code)) → free d.data.toNat →
      (∀ k, k < n / 4 → s.mem.tag (d.data.toNat + 4 * k) ≠ .key) →
      Gives (.bretag t c rd ra rb) s (fun u =>
        wrote u (fun k => ⟨s.mem.word (d.data.toNat + 4 * k), tagOf (a.data.setWidth 4).toNat⟩) ∧
        u = { s.setThr t (fin ((move rd x).put rb left)) with mem := u.mem })) ∧
    ((d.tag = .int ∨ d.tag = .raw) → a.tag = .addr → free a.data.toNat →
      (∀ k, k < n / 4 → s.mem.tag (a.data.toNat + 4 * k) ≠ .key) →
      exec (.bcrc t c rd ra rb) s = .next (s.setThr t (fin
        ((move ra (x.put rd ⟨crc32Run d.data (s.mem.bytes a.data.toNat n), .int⟩)).put rb left))))

/-- The two halves of a paired word read the thread as it stands before the word: the moves d := b, b := d swap two registers; and in every pair whose
halves meet no fault and touch no memory the writes of half A are followed by those of half B, the pc taken by a half that branches. Each short
operation, paired with NOP in either half: its register takes the result with its tag, its flags follow Table 4.4, and all else but the pc is as
before; LDW reads and STW writes one word of plain memory; BC, BR and JR set the pc. `A`, `B` are the sources as unsigned numbers, `I`, `J` as signed
ones. Where one half faults neither writes anything: half A's fault is reported whatever half B would do, else half B's, with ECAUSE bit 8 set. -/
def Obligations.PairedHalvesAndShorts : Prop :=
  (∀ (s : State) (t : ThreadId), s.ready t →
    (∀ p q : SReg, exec (.pairedWord t (wordPair (.mov p q) (.mov q p))) s = .next (s.setThr t
      { (((s.thr t).put (wide p) ((s.thr t).get (wide q))).put (wide q) ((s.thr t).get (wide p))) with
        pc := (s.thr t).pc + 4, bip := false, issued := Held.no })) ∧
    (∀ (w : Word) (a b : Short) (ea eb : HalfFx), w.msb = true → decodeWord t w = .pair a b →
      ((s.clearBip t).half (s.thr t).issued t a).1 = .fx ea → ((s.clearBip t).half (s.thr t).issued t b).1 = .fx eb →
      (∀ d k n, a ≠ .ldw d k n ∧ b ≠ .ldw d k n) → ea.store = none → eb.store = none →
      exec (.pairedWord t w) s = .next (s.setThr t
        ((({ s.thr t with bip := false, issued := Held.no, pc := (s.thr t).pc + 4 }).half ea).half eb)))) ∧
  (∀ (s : State) (t : ThreadId) (d r : SReg) (i6 : BitVec 6) (sh : BitVec 5) (k : BitVec 2) (c : Cond) (off : BitVec 10) (first : Bool), s.ready t →
    let x := s.thr t
    let a := x.get (wide d)
    let b := x.get (wide r)
    let A := a.data.toNat
    let B := b.data.toNat
    let I := a.data.toInt
    let J := b.data.toInt
    let j : Word := BitVec.ofInt 32 i6.toInt
    let n := sh.toNat
    let runs (o : Short) : Host.Outcome State Fault Refusal := exec (.pairedWord t (if first then wordPair o .nop else wordPair .nop o)) s
    let does (o : Short) (y : Thread) : Prop := runs o = .next (s.setThr t { y with pc := x.pc + 4, bip := false, issued := Held.no })
    let flags (y : Thread) (v : Word) (q w : Bool) : Thread := { y with z := v == 0, n := v.msb, c := q, v := w }
    let put (v : Word) (g : Tag) : Thread := x.put (wide d) ⟨v, g⟩
    let oflow (q : Int) : Bool := decide (q < -2 ^ 31 ∨ 2 ^ 31 ≤ q)
    let res (o : Short) (g : Option Tag) (v : Word) (q w : Bool) : Prop := ∀ h, g = some h → does o (flags (put v h) v q w)
    let shifted (o : Short) (v : Int) (out : Bool) : Prop :=
      let w : Word := BitVec.ofInt 32 v
      res o (tagShift a.tag .int) w (if n = 0 then x.c else out) x.v
    let e := (b.data.toNat + (2 ^ 32 - a.data.toNat)) % 2 ^ 32
    let p := effAddr b.data (BitVec.ofNat 32 (4 * k.toNat))
    let quietly : Prop := b.tag = .addr ∧ p % 4 = 0 ∧ s.crosses t p = s
    let enters (w : Word) (code : Nat) : Prop := exec (.pairedWord t w) s = .next (s.setThr t { x with
      epc := x.pc, ecause := BitVec.ofNat 32 code, eaddr := 0, pmode := x.mode, mode := true, ent := true, bip := false, issued := Held.no,
      pc := BitVec.ofNat 32 (s.fld (F.EVT_TENT_ADDR t.val) * 4) })
    let mix : Nat := if a.tag = .void then 0x20 else if a.tag = .key then 0x21 else if b.tag = .void then 0x20 else if b.tag = .key then 0x21 else 0x22
    does .nop x ∧ does (.mov d r) (put b.data b.tag) ∧ does (.movi d i6) (put j .int) ∧ does (.tagof d r) (put (BitVec.ofNat 32 b.tag.num) .int) ∧
    res (.add d r) (tagAdd a.tag b.tag) (a.data + b.data) (decide (2 ^ 32 ≤ A + B)) (oflow (I + J)) ∧
    res (.sub d r) (tagSub a.tag b.tag) (a.data - b.data) (decide (B ≤ A)) (oflow (I - J)) ∧
    res (.and d r) (tagAnd a.tag b.tag) (a.data &&& b.data) x.c x.v ∧ res (.or d r) (tagOr a.tag b.tag) (a.data ||| b.data) x.c x.v ∧
    res (.xor d r) (tagOr a.tag b.tag) (a.data ^^^ b.data) x.c x.v ∧
    res (.addi d i6) (tagAdd a.tag .int) (a.data + j) (decide (2 ^ 32 ≤ A + j.toNat)) (oflow (I + j.toInt)) ∧
    ((b.tag = .int ∨ b.tag = .raw) → does (.neg d r) (flags (put (-b.data) b.tag) (-b.data) (B == 0) (oflow (-J))) ∧
      does (.not d r) (flags (put (~~~b.data) b.tag) (~~~b.data) x.c x.v)) ∧
    shifted (.shli d sh) (A * 2 ^ n) (A.testBit (32 - n)) ∧ shifted (.shri d sh) ((A / 2 ^ n : Nat) : Int) (A.testBit (n - 1)) ∧
    shifted (.sari d sh) (I / 2 ^ n) (A.testBit (n - 1)) ∧
    (tagCmp a.tag b.tag = true → ¬(a.tag = b.tag ∧ (a.tag = .seq ∨ a.tag = .time)) →
      does (.cmp d r) (flags x (a.data - b.data) (decide (B ≤ A)) (oflow (I - J)))) ∧
    (a.tag = b.tag → a.tag = .seq ∨ a.tag = .time →
      does (.cmp d r) { x with z := e == 0, n := decide (1 ≤ e ∧ e < 2 ^ 31), c := decide (e = 0 ∨ 2 ^ 31 < e), v := e == 2 ^ 31 }) ∧
    (tagCmp a.tag .int = true → does (.cmpi d i6) (flags x (a.data - j) (decide (j.toNat ≤ A)) (oflow (I - j.toInt)))) ∧
    (tagTst a.tag b.tag = true → does (.tst d r) (flags x (a.data &&& b.data) x.c x.v)) ∧
    (quietly → (plainRam p || Region.rom.holds p) = true → s.thrRead x.issued (ownBurst t) p 4 = .ok →
      does (.ldw d r k) (put (s.mem.word p) (s.mem.tag p))) ∧
    (quietly → plainRam p = true → s.thrWrite x.issued (ownBurst t) p 4 = .ok → s.watched p = none → ∃ u, runs (.stw d r k) = .next u ∧
      u.mem.tword p = a ∧ (∀ q, q < p ∨ p + 4 ≤ q → u.mem.byte q = s.mem.byte q) ∧ u = { s.advanced t with mem := u.mem }) ∧
    (c ≠ .tv → runs (.bc c i6) = .next (if condHolds x c 0 then s.jumped t (BitVec.ofInt 32 (x.pc.toNat + 4 * i6.toInt)) else s.advanced t)) ∧
    runs (.br off) = .next (s.jumped t (BitVec.ofInt 32 (x.pc.toNat + 4 * off.toInt))) ∧
    (b.tag = .code → B % 4 = 0 → runs (.jr r) = .next (s.jumped t b.data)) ∧
    (x.ent = false → s.flag (F.EVT_TENT_VALID t.val) = true → tagAdd a.tag b.tag = none →
      (∀ o : Short, (∀ z, o ≠ .bc .tv z) → enters (wordPair (.add d r) o) mix) ∧
      (∀ p q : SReg, enters (wordPair (.mov p q) (.add d r)) (mix + 0x100))))

/-- A fetch that meets no memory, a set-up block, failed parity or a word that is neither INT nor RAW faults before anything is decoded: with the entry
free and valid, warden entry with that code and ECAUSE.FETCH = 1, EPC and EADDR the word's address, and TSW.BIP as it was kept in ECAUSE. Every
instruction of the long form comes to that, whatever its word. A word that is fetched from a unit of flash with one bit in error is executed, here a
MOV, and is counted in FLC_ECC.CORR, the first such address standing in FLC_EADDR. A reserved word in a thread whose entry is free and valid either
enters the warden with code 0x11, or changes registers g1 to g31 and the flags of its own thread only: a register's tag stays or becomes VOID, INT or
RAW, and the pc is on the next word. Memory, the other threads, all registers of the block and the ledger stay as they are in both. Which of the two
happens is open. -/
def Obligations.FetchFaultsAndReservedWords : Prop :=
  (∀ (s : State) (t : ThreadId) (f : FaultCode), s.quiet → s.runs t = true → (s.thr t).ent = false → s.flag (F.EVT_TENT_VALID t.val) = true →
    let x := s.thr t
    let a := wordAddr x.pc.toNat
    let r := if f = .mempar ∨ f = .tagFetch then s.afterRead a else s
    s.crosses t a = s → x.stopping = false →
    (s.fetchStop t = some (.fault f) → ∀ (i : Instr) (w : Word), decodeLong t w = some i → exec i s = exec (.fetchFault t) s) ∧
    (s.fetchStop t = some (.fault f) → exec (.fetchFault t) s = .next (r.setThr t { x with
      epc := x.pc, ecause := BitVec.ofNat 32 (f.num + 0x400 + (if x.bip then 0x200 else 0)), eaddr := x.pc, pmode := x.mode, mode := true, ent := true,
      bip := false, issued := Held.no, pc := BitVec.ofNat 32 (s.fld (F.EVT_TENT_ADDR t.val) * 4) })) ∧
    (s.fetchStop t = none → inFlash a = true → s.ecc a = .corrected → nsMem s.flash.cut (unitOf a) = false → ∀ rd ra : Reg,
      Gives (.mov t .al rd ra) s (fun u =>
        u.fld F.FLC_ECC_CORR = min 0xFFFF (s.fld F.FLC_ECC_CORR + 1) ∧
        u.fld F.FLC_EADDR_ADDR = (if s.fld F.FLC_EADDR_ADDR = 0 then a else s.fld F.FLC_EADDR_ADDR) ∧
        SameRegs [F.FLC_ECC_CORR.addr, F.FLC_EADDR_ADDR.addr] s u ∧ u = { s.wrote t rd (x.get ra) with live := u.live }))) ∧
  (∀ (s : State) (t : ThreadId) (w : Word), s.ready t → decodeWord t w = .reserved → (s.thr t).ent = false →
    s.flag (F.EVT_TENT_VALID t.val) = true →
    let x := s.thr t
    Gives (.reservedWord t w) s (fun u =>
      u = { s.setThr t (u.thr t) with free := u.free } ∧
      (u.thr t = { x with
          epc := x.pc, ecause := 0x11, eaddr := 0, pmode := x.mode, mode := true, ent := true, bip := false, issued := Held.no,
          pc := BitVec.ofNat 32 (s.fld (F.EVT_TENT_ADDR t.val) * 4) } ∨
        (u.thr t = { x with
            regs := (u.thr t).regs, z := (u.thr t).z, n := (u.thr t).n, c := (u.thr t).c, v := (u.thr t).v,
            pc := x.pc + 4, bip := false, issued := Held.no } ∧
          ∀ r : Reg, ((u.thr t).get r).tag = (x.get r).tag ∨ ((u.thr t).get r).tag ∈ [Tag.void, .int, .raw]))))

/-! ### Set-up registers -/

/-- A write to a set-up register with no row of its own takes effect by the access codes: RW fields take the value, W1C fields clear where it is 1, RO and
reserved bits keep; WS fields are staged, and LK fields until the block's first GO since the full reset; no other register, no sealed set, no memory,
no thread, no account changes. An unassigned offset takes nothing, nor does an absent unit's register. A load of a register that shows no other state
than its own fields gives it as INT: RW, RO and W1C fields live, WS and LK fields staged, the rest and an absent unit's zero. -/
def Obligations.RegisterWriteFollowsAccessCodes : Prop :=
  ∀ (s : State) (t : ThreadId) (addr v : Word), s.quiet →
    let a := addr.toNat
    let here : Prop := s.presentMask a ≠ 0
    let rw := maskOf [.rw] a
    let st := maskOf (if s.lkLocked a then [.ws] else [.ws, .lk]) a
    (s.coreRuns t = true → regAddr a = true → ownWrite a = false → here → Gives (.registerWrite t addr v) s (fun u =>
      u.reg a = ((s.reg a &&& ~~~rw) ||| (v &&& rw)) &&& ~~~(v &&& maskOf [.w1c] a) ∧
      u.stg a = (s.stg a &&& ~~~st) ||| (v &&& st) ∧ SameRegs [a] s u ∧ (∀ b, b ≠ a → u.stg b = s.stg b) ∧
      u = { s with live := u.live, staged := u.staged })) ∧
    (s.coreRuns t = true → regAddr a = true → ownWrite a = false → maskOf [.rw, .ro, .w1c, .wo, .ws, .lk] a = 0 →
      Gives (.registerWrite t addr v) s (fun u => SameRegs [] s u ∧ (∀ b, u.stg b = s.stg b) ∧
        u = { s with live := u.live, staged := u.staged })) ∧
    (¬ here → exec (.registerWrite t addr v) s = .next s) ∧
    (∀ (c : Cond) (rd ra : Reg) (imm : BitVec 10), s.ready t → condHolds (s.thr t) c ra = true → ((s.thr t).get ra).tag = .addr →
      effAddr ((s.thr t).get ra).data (BitVec.ofInt 32 (4 * imm.toInt)) = a → regAddr a = true → ownRead a = false →
      s.thrRead (s.thr t).issued (ownBurst t) a 4 = .ok → s.crosses t a = s →
      exec (.ldw t c rd ra imm) s = .next (s.wrote t rd
        ⟨((s.reg a &&& maskOf [.rw, .ro, .w1c] a) ||| (s.stg a &&& maskOf [.ws, .lk] a)) &&& s.presentMask a, .int⟩))

/-- A write of GO copies the whole staged set of the block into its sealed set and sets PEND and LOCKED; over a pending set it sets REPL. The live set
does not change, but that a CNT set which waits commits before a SEAL written in the cycle of its overflow, and the new one waits for the next. At its
commit point a block's whole sealed set becomes live at one instant and PEND clears: every WS and LK field reads its sealed value, but that a field
with a range of its own reads the nearest value in it; what else RAD's FREQ, MSH's ADJ and FLC's nonce area do is not said here. No other register
changes but the block's status, and no memory, no thread and no account. CLK, EVT and BTS commit at the next tick edge, of which only EVT's contents
are said, at an edge to which nothing else is due; a counter's divider of N = 0 commits as 1 and no fraction. With nothing pending, or away from the
commit point, SEAL_COMMIT does nothing. -/
def Obligations.SealsMoveSets : Prop :=
  (∀ (s : State) (b : Blk) (v : Word), s.quiet → s.steadyRuns = true → s.blkHere b = true →
    let a := Blk.sealAt b
    let late : Prop := b = .cnt ∧ s.sealPend .cnt = true ∧ s.countersUp = true ∧ s.cntCommitDue = true
    (late → Gives (.sealGo b v) s (fun u => (∀ r, r ∈ stagedAddrs (Blk.base b) → u.sld r = s.stg r) ∧ u.sealPend b = true ∧
      u.flag (F.SEAL_REPL a) = (s.flag (F.SEAL_REPL a) && !v.getLsbD 3) ∧ (∀ n, (u.pre n).wrapped = false) ∧ SameCore s u)) ∧
    (¬ late → Gives (.sealGo b v) s (fun u =>
      (∀ r, r ∈ stagedAddrs (Blk.base b) → u.sld r = s.stg r) ∧ (∀ r, r ∉ stagedAddrs (Blk.base b) → u.sld r = s.sld r) ∧
      u.sealPend b = true ∧ u.flag (F.SEAL_LOCKED a) = true ∧
      u.flag (F.SEAL_REPL a) = (s.sealPend b || (s.flag (F.SEAL_REPL a) && !v.getLsbD 3)) ∧
      (∀ c, c ∈ u.lkDone ↔ c = b ∨ c ∈ s.lkDone) ∧ SameRegs [a] s u ∧
      u = { s with live := u.live, sealed := u.sealed, lkDone := u.lkDone, cnt := u.cnt } ∧
      u.cnt = if b = .cnt then s.cnt.map (fun p => { p with wrapped := false }) else s.cnt))) ∧
  (∀ (s : State) (b : Blk),
    let limits : List (Fld × Nat × Nat) := match b with
      | .csp => (List.range 4).map (fun n => (F.CSP_MSEL_DIV n, s.cspDivMin, 255))
      | .msh => [(F.MSH_CYC_SLOTLEN, 82, 1310), (F.MSH_CYC_CYCLEN, 1, 1024), (F.MSH_TIM_TXOFF, 200, 4000), (F.MSH_TIM_ACKGAP, 150, 1000),
          (F.MSH_LOST_MISS, 1, 15), (F.MSH_LOST_STEPN, 1, 15), (F.MSH_LOST_SPER, 1, 255)]
      | .rad => ([0, 1] : List Nat).flatMap (fun p => [(F.RAD_P_MOD_RATE p, 0, rateTop p), (F.RAD_P_MOD_PWR p, 0, if p = 0 then 80 else 68),
          (F.RAD_P_MOD_PRELEN p, 32, 512), (F.RAD_P_RX_THRESH p, 0, 64)]) ++ [(F.RAD_LANT_RATE0, 0, 5), (F.RAD_LANT_RATE1, 0, 3),
          (F.RAD_LANT_LMATCH, 0, 32), (F.RAD_SNIFF_WIN, 50, 4095), (F.RAD_SNPER_TICKS, 328, 16777215)]
      | .gns => [(F.GNS_MEAS_PERIOD, 1, 1000), (F.GNS_LOSS_LOSSMS, 1, 255), (F.GNS_LOOP_ACQNC, 1, 15)]
      | .tag => (List.range 4).map (fun l => (F.TAG_PRES_PER l, 1, 65535))
      | _ => []
    let others : List Fld := match b with
      | .rad => [F.RAD_P_FREQ_KHZ 0, F.RAD_P_FREQ_KHZ 1] | .msh => [F.MSH_ADJ_ADJ] | .flc => [F.FLC_NONCE_COUNT] | _ => []
    let status : List Nat := match b with
      | .csp => [F.CSP_SSTAT_CLAMP.addr] | .msh => [F.MSH_STAT_CLAMP.addr, F.MSH_OFFLO_OFF.addr, F.MSH_OFFHI_OFF.addr] | .rad => [F.RAD_STAT_CLAMP.addr]
      | .gns => [F.GNS_STAT_CLAMP.addr] | .tag => [F.TAG_STAT_CLAMP.addr] | .flc => [F.CIP_STAT_SCANNED.addr] | _ => []
    let made (u : State) : Prop :=
      (∀ r, r ∈ stagedAddrs (Blk.base b) → ∀ k : Fin 32, (maskOf [.ws, .lk] r).getLsbD k.val = true →
        (∀ f ∈ limits.map (·.1) ++ others, ¬ (f.addr = r ∧ f.lo ≤ k.val ∧ k.val < f.lo + f.w)) →
        (u.reg r).getLsbD k.val = (s.sld r).getLsbD k.val) ∧
      (∀ x ∈ limits, u.fld x.1 = max x.2.1 (min x.2.2 (fldGet (s.sld x.1.addr) x.1))) ∧
      u.sealPend b = false ∧ SameRegs (Blk.sealAt b :: status ++ stagedAddrs (Blk.base b)) s u ∧ u.mem = s.mem ∧ u.threads = s.threads ∧
      u.ledger.acct = s.ledger.acct
    let committed (b : Blk) (u : State) : Prop :=
      (∀ r, r ∈ stagedAddrs (Blk.base b) → u.reg r = (s.reg r &&& ~~~maskOf [.ws, .lk] r) ||| (s.sld r &&& maskOf [.ws, .lk] r)) ∧
      u.sealPend b = false ∧ SameRegs (Blk.sealAt b :: stagedAddrs (Blk.base b)) s u
    (s.quiet → s.sealPend b = false ∨ s.commitDue b = false → exec (.sealCommit b) s = .next s) ∧
    (s.sealPend b = true → s.commitDue b = true → Effect (.sealCommit b) s (fun u => u.sealPend b = false)) ∧
    (s.quiet → b ∈ [Blk.ldg, .flc, .csp, .tag, .cip, .rad, .msh, .gns] → s.sealPend b = true → s.commitDue b = true →
      Gives (.sealCommit b) s made) ∧
    (s.sealPend .cnt = true → s.commitDue .cnt = true → Effect (.sealCommit .cnt) s (fun u => ∀ n : Fin 8,
      (∀ f ∈ [F.CNT_CTL_EDGE n.val, F.CNT_CTL_SRC n.val, F.CNT_CTL_CAPSEL n.val], u.fld f = fldGet (s.sld f.addr) f) ∧
      u.reg (F.CNT_DIV_N n.val).addr =
        (if fldGet (s.sld (F.CNT_DIV_N n.val).addr) (F.CNT_DIV_N n.val) = 0 then 0x00010000 else s.sld (F.CNT_DIV_N n.val).addr))) ∧
    (s.quiet → s.sealPend .cip = true → s.commitDue .cip = true →
      Gives (.sealCommit .cip) s (fun u => committed .cip u ∧ u = { s with live := u.live })) ∧
    (s.quiet → s.on = true → s.edgeFree → s.sealPend .evt = true →
      Gives .timeBaseTick s (fun u => committed .evt u ∧ u = { s with live := u.live, time := u.time, power := u.power, isl := u.isl })))

/-! ### The ledger -/

/-- The sweeps: one that falls due starts at the first account and the next falls due one period later, or waits while one runs; LDG_AUDIT.GO starts one,
and is ignored while one runs; the one that waited starts when the other has ended, merged with one that starts then. Nothing else changes. One cycle
of a sweep checks one account. An account whose sum holds (G = R + H + F), whose units in flight have a window open and whose word passes its check
leaves everything as it is but the sweep, which goes on to the next account, or ends and is counted, and so does an absent unit's. One that does not
hold is a breach with cause 3, one whose word fails its check with cause 1: where it is the first its cause and account are recorded, a number is
issued and kept, and no account is changed. A window open beyond its age limit, and not reported before, is a breach with cause 4: recorded when it is
the first, marked MULTI over an earlier one, which stays as it is and orders no reset whatever BRACT then holds (the model's choice, log 97), and with
BRACT = 1 and no thread to tell the part has a full reset with cause BREACH. A SPAN window is reported before a SLOT one and that before a QUIESCE
one, each once while it stays open (the model's choice, log 65). No other window and no absent unit's account does anything. A write to LDG_SEL
captures the four terms of the account and its window bits with the age of the oldest; an index that Table 1.1 does not list, or an absent unit's,
reads zero terms. The accounts themselves do not change. -/
def Obligations.SweepsAndViews : Prop :=
  (∀ s : State, s.quiet →
    let L := s.ledger
    (s.on = true → L.due ≤ s.now →
      exec .periodicSweepDue s = .next { s with ledger := { L with
        due := L.due + 128 * 2 ^ s.fld F.LDG_CTL_SWEEP, sweep := some (L.sweep.getD 0), waiting := L.sweep.isSome } }) ∧
    (s.steadyRuns = true → exec .auditGo s = .next { s with ledger := { L with
      sweep := some (L.sweep.getD 0), waiting := L.waiting && L.sweep.isSome } }) ∧
    (s.on = true → L.waiting = true → L.sweep = none →
      exec .waitingSweepStart s = .next { s with ledger := { L with sweep := some 0, waiting := false } })) ∧
  (∀ (s : State) (k : Nat), s.quiet → s.on = true → s.ledger.sweep = some k → k < acctList.length →
    let i := acctList.getD k 0
    let a := s.acct i
    let bad := nsMem s.ledger.parity i
    let holds : Prop := a.g = a.r + a.h + a.f ∧ (a.f = 0 ∨ (s.win i).isOpen = true)
    let on (x : State) : State := { x with ledger := { x.ledger with sweep := if k + 1 < acctList.length then some (k + 1) else none } }
    let passes : Prop := s.acctAbsent i = true ∨ (bad = false ∧ holds)
    (passes → k + 1 < acctList.length → exec .sweepAccountCheck s = .next (on s)) ∧
    (passes → k + 1 = acctList.length →
      exec .sweepAccountCheck s = .next ((on s).setFld F.LDG_SWEEPS_COUNT (s.fld F.LDG_SWEEPS_COUNT + 1))) ∧
    (s.acctAbsent i = false → bad = true ∨ ¬ holds → s.flag F.LDG_STAT_BREACH = false →
      Effect .sweepAccountCheck s (fun u => u.flag F.LDG_STAT_BREACH = true ∧ u.fld F.LDG_STAT_CAUSE = (if bad then 1 else 3) ∧
        u.fld F.LDG_STAT_ACCT = i ∧ u.reg F.LDG_BRSEQ_SEQ.addr = s.reg F.LDG_SEQ_NEXT.addr ∧
        u.reg F.LDG_SEQ_NEXT.addr = s.reg F.LDG_SEQ_NEXT.addr + 1 ∧ u.ledger.acct = s.ledger.acct ∧
        (s.fld F.LDG_ROUTE_TMASK = 0 → u.mem = s.mem ∧ u.threads = s.threads)))) ∧
  (∀ (s : State) (n : Fin 192), s.quiet → s.on = true →
    let w := s.win n.val
    let span : Bool := 0 < w.span && 1 < s.now - w.spanAt && !w.spanAged
    let slot : Bool := 0 < w.slot && 2048 < s.now - w.slotAt && !w.slotAged
    let quiesce : Bool := w.quiesce && 65536 < s.now - w.quiesceAt && !w.quiesceAged
    let old : Prop := s.acctAbsent n.val = false ∧ (span || slot || quiesce) = true
    let marked : Window :=
      if span then { w with spanAged := true } else if slot then { w with slotAged := true } else { w with quiesceAged := true }
    (¬ old → exec (.windowAge n) s = .next s) ∧
    (old → s.flag F.LDG_STAT_BREACH = true → exec (.windowAge n) s = .next ((s.setWin n.val marked).setBit F.LDG_STAT_MULTI)) ∧
    (old → s.flag F.LDG_STAT_BREACH = false →
      Effect (.windowAge n) s (fun u => u.flag F.LDG_STAT_BREACH = true ∧ u.fld F.LDG_STAT_CAUSE = 4 ∧ u.fld F.LDG_STAT_ACCT = n.val ∧
        u.win n.val = marked ∧ u.ledger.acct = s.ledger.acct ∧ (s.fld F.LDG_ROUTE_TMASK = 0 → u.mem = s.mem ∧ u.threads = s.threads))) ∧
    (old → s.flag F.LDG_STAT_BREACH = false → s.fld F.LDG_ROUTE_TMASK = 0 → s.flag F.LDG_CTL_BRACT = true →
      Gives (.windowAge n) s (fun u => u.fld F.PWR_RCAUSE_CAUSE = 32 ∧ u.boot = .starting ∧ u.flag F.LDG_STAT_BREACH = false ∧
        (u.thr 0).pc = 0 ∧ u.time.tick = s.time.tick ∧ u.bak = s.bak))) ∧
  (∀ (s : State) (n : BitVec 8), s.quiet → s.steadyRuns = true → (s.acct n.toNat).fits = true →
    Gives (.ldgSelCapture n) s (fun u =>
      let a : Account := if acctListed n.toNat && !s.acctAbsent n.toNat then s.acct n.toNat else ⟨0, 0, 0, 0⟩
      let w := s.win n.toNat
      u.fld F.LDG_SEL_ACCT = n.toNat ∧ u.fld F.LDG_GRANT_G = a.g ∧ u.fld F.LDG_RETURNED_R = a.r ∧ u.fld F.LDG_HELD_H = a.h ∧
      u.fld F.LDG_FLIGHT_F = a.f ∧ u.flag F.LDG_WIN_SPAN = (w.span != 0) ∧ u.flag F.LDG_WIN_SLOT = (w.slot != 0) ∧
      u.flag F.LDG_WIN_QUIESCE = w.quiesce ∧ u.fld F.LDG_WIN_AGE = min 0xFFFF (s.winAge n.toNat) ∧
      SameRegs [0x40001020, 0x40001024, 0x40001028, 0x4000102C, 0x40001030, 0x40001034] s u ∧ u = { s with live := u.live }))

/-- A crossing conserves its account: the request moves one unit from R to F and opens the SPAN window, the acknowledge moves it back (to R: the model's
choice, log 103) and closes the window, and a request that was held for that direction is then presented. A request toward a quiescing island, or
behind one that is held, is held; across a span that is not powered none is made. In Dim one at a span of the steady island counts as arrived. -/
def Obligations.CrossingsConserveAccounts : Prop :=
  ∀ (s : State) (sp : Fin 7) (rev : Bool), s.quiet → s.ledger.parity = [] →
    let i := 0x40 + 2 * sp.val + (if rev then 1 else 0)
    let a := s.acct i
    let w := s.win i
    let d := if rev then 1 else 0
    let held := s.power.heldReq
    let free : Prop := s.spanUp sp.val = true ∧ s.destQuiesces sp.val d = false
    s.acctAbsent i = false → a.fits = true → a.g = a.r + a.h + a.f →
    (s.on = true → free → (sp.val, d) ∉ held → w.span = 0 → 1 ≤ a.r →
      exec (.spanRequest sp rev) s =
        .next (let u := (s.setWin i { w with span := 1, spanAt := s.now }).setAcct i { a with r := a.r - 1, f := a.f + 1 }
               if Island.steady ∈ spanEnds sp.val ∧ s.pstate = 2 then { u with power := { u.power with arrived := true } } else u)) ∧
    (s.on = true → s.destQuiesces sp.val d = true ∨ (sp.val, d) ∈ held →
      exec (.spanRequest sp rev) s = .next { s with power := { s.power with heldReq := held ++ [(sp.val, d)] } }) ∧
    (s.spanUp sp.val = false → s.destQuiesces sp.val d = false → (sp.val, d) ∉ held → exec (.spanRequest sp rev) s = .next s) ∧
    (w.span = 1 → a.f = 1 → held = [] →
      exec (.spanAcknowledge sp rev) s =
        .next ((s.setAcct i { a with r := a.r + 1, f := 0 }).setWin i { w with span := 0, spanAt := 0, spanAged := false })) ∧
    (w.span = 1 → a.f = 1 → held = [(sp.val, d)] → free →
      Gives (.spanAcknowledge sp rev) s (fun u => u.acct i = a ∧ (u.win i).span = 1 ∧ (u.win i).spanAt = s.now ∧ u.power.heldReq = [] ∧
        u = { s with ledger := u.ledger, power := u.power }))

/-! ### Power states and start -/

/-- With no steady thread running and the burst island dark the chip descends to the state that DEPTH names, or to Dim with a REFUSE code, or to Ember:
Dim is entered at once, FLL stopped unless DIMFLL = 1; for Ember and Vigil the entry opens and the steady quiesce follows. In Dim an event for a
waiting steady thread or a request at a steady span, arrived or under way, returns the chip to Lit; the boot ROM starts once the steady island runs;
flash becomes readable. Nothing else changes. -/
def Obligations.PowerStatesMove : Prop :=
  (∀ s : State, s.quiet → s.mayDescend = true → s.power.entry = none → s.power.arrived = false → s.snuffHolds = false →
    let dim (why : Nat) : Prop := s.pstate = 3 →
      exec .enterLowerState s = .next
        (let u := (s.setFld F.PWR_STAT_STATE 2).setFld F.PWR_STAT_REFUSE why
         if s.flag F.PWR_CTL_DIMFLL then u else u.fllStop)
    let opens (d why : Nat) : Prop :=
      exec .enterLowerState s = .next { s with power := { s.power with entry := some (d, why), latched := 0 } }
    let deep : Prop := s.fld F.PWR_CTL_DEPTH = 1 ∨ s.fld F.PWR_CTL_DEPTH = 2
    (¬ deep → dim 0) ∧ (deep → s.busyHold = true → dim 1) ∧ (deep → s.busyHold = false → s.bankHold = true → dim 2) ∧
    (s.fld F.PWR_CTL_DEPTH = 1 → s.busyHold = false → s.bankHold = false → opens 1 0) ∧
    (s.fld F.PWR_CTL_DEPTH = 2 → s.busyHold = false → s.bankHold = false → s.emberHold = true → opens 1 3) ∧
    (s.fld F.PWR_CTL_DEPTH = 2 → s.busyHold = false → s.bankHold = false → s.emberHold = false → opens 0 0)) ∧
  (∀ s : State, s.quiet →
    (s.on = true → s.pstate = 2 → s.power.arrived = true ∨ (∃ t : ThreadId, t.val < 8 ∧ (s.thr t).wakeable = true) ∨
        (∃ sp ∈ islandSpans .steady, ∃ a ∈ spanAccts sp, (s.win a).span ≠ 0) →
      exec .dimWake s =
        .next (({ s with power := { s.power with arrived := false, entry := none } }).setFld F.PWR_STAT_STATE 3)) ∧
    (s.steadyRuns = true → s.boot = .starting → exec .bootRomStart s = .next { s with boot := .rom }) ∧
    (s.on = true → s.lit .steady = true → exec .flashReady s = .next (s.setBit F.PWR_STAT_FLRDY)))

/-- The boot ROM hands off to the bank it selects: thread 0 in warden mode at the bank's base plus ENTRY (WARM at a warm start where it is not 0), g1 the
base as ADDR, g2 PWR_RCAUSE, g3 PWR_WAKE and g4 whether the start is warm as INT. With both banks bootable bank B is selected where bank A's sequence
number precedes its; with none, host recovery is entered. -/
def Obligations.BootHandsOff : Prop :=
  ∀ s : State, s.quiet → s.steadyRuns = true → s.boot = .rom → s.romReady = true →
    let at' (b : Nat) : Word := BitVec.ofNat 32 (0x08000000 + b * 0x200000)
    let enters (b : Nat) : Prop := Gives .bootHandoff s (fun u =>
      (u.thr 0).pc = at' b + (if s.warmStart = true ∧ s.hdrWord b 0x0C ≠ 0 then s.hdrWord b 0x0C else s.hdrWord b 0x08) ∧
      (u.thr 0).mode = true ∧ (u.thr 0).st = (s.thr 0).st ∧
      (u.thr 0).get 1 = ⟨at' b, .addr⟩ ∧ (u.thr 0).get 2 = ⟨s.reg F.PWR_RCAUSE_CAUSE.addr, .int⟩ ∧
      (u.thr 0).get 3 = ⟨s.reg F.PWR_WAKE_SRC.addr, .int⟩ ∧ (u.thr 0).get 4 = ⟨if s.warmStart then 1 else 0, .int⟩ ∧
      u.boot = .done ∧ (∀ t, t ≠ 0 → u.thr t = s.thr t))
    (s.bootable 0 = true → s.bootable 1 = false → enters 0) ∧ (s.bootable 0 = false → s.bootable 1 = true → enters 1) ∧
    (s.bootable 0 = true → s.bootable 1 = true → enters (if precedes (s.hdrWord 0 4) (s.hdrWord 1 4) then 1 else 0)) ∧
    (s.bootable 0 = false → s.bootable 1 = false → Gives .bootHandoff s (fun u => u.boot = .recovery))

/-! ### Islands -/

/-- The burst island: ON begins to light a dark one, and has one that quiesces lit again afterwards; once XT32M is confirmed it is lit, the PLL locked,
the chip in Blaze, thread 8 running in warden mode at PWR_BENTRY with nothing pending and thread 9 stopped; OFF, or AUTO with both threads at rest,
begins its quiesce. A ring-lit island that is being lit becomes lit, and its spans between lit islands are granted 8 units; one that does not light
stays dark, its LITFAIL bit set, and so does a burst island. The steady island that fails to come up from Ember or Vigil leaves the chip in the state
it woke from, and one that does so after a full reset stays dark (the model's choice, log 104). An idle ring-lit island begins its quiesce. -/
def Obligations.IslandsComeAndGo : Prop :=
  (∀ s : State, s.on = true → s.has .burst = true →
    let x := s.island .burst
    (s.quiet → x.st = .dark →
      exec .burstOn s = .next (s.setIsland .burst { x with st := .lighting, since := s.now, relight := false })) ∧
    (x.st = .lighting → s.flag F.CLK_STAT_XT32MOK = true → s.ledger.parity = [] → s.power.heldReq = [] →
      Effect .burstLit s (fun u => u.lit .burst = true ∧ u.pstate = 4 ∧ u.flag F.CLK_STAT_PLLLOCK = true ∧
        (u.thr 8).st = .run ∧ (u.thr 8).mode = true ∧ (u.thr 8).pend = 0 ∧
        (u.thr 8).pc = BitVec.ofNat 32 (s.fld F.PWR_BENTRY_ADDR * 4) ∧ (u.thr 9).st = .stopped ∧ u.mem = s.mem)) ∧
    (s.quiet → x.st = .quiescing → exec .burstOn s = .next (s.setIsland .burst { x with relight := true })) ∧
    (s.quiet → x.st = .lit → exec .burstOff s = .next (s.beginQuiesce .burst false)) ∧
    (s.quiet → x.st = .lighting → exec .burstOff s = .next (s.setIsland .burst { x with downReq := true })) ∧
    (s.quiet → x.st = .lit → s.flag F.PWR_BURST_AUTO = true →
      (∀ t : ThreadId, 8 ≤ t.val → (s.thr t).st ≠ .run ∧ (s.thr t).wakeable = false) →
      exec .burstAutoDark s = .next (s.beginQuiesce .burst false))) ∧
  (∀ (s : State) (i : Island), s.on = true →
  (s.islandHere i = true → i = .cipher ∨ i = .radio ∨ i = .gnss →
    ((s.island i).st = .lighting → (i = .radio → s.flag F.CLK_STAT_XT32MOK = true) → s.ledger.parity = [] → s.power.heldReq = [] →
      s.cip.claim = none → s.cip.postLater = false →
      Effect (.islandLit i) s (fun u => u.lit i = true ∧
        ∀ sp ∈ islandSpans i, ∀ a ∈ spanAccts sp, (spanEnds sp).all (fun j => j == i || s.lit j) = true → u.acct a = ⟨8, 8, 0, 0⟩)) ∧
    (s.lit i = true → s.ringsEmpty i = true → s.islandBusy i = false → s.fld F.PWR_IDLE_TICKS ≤ s.now - (s.island i).since → s.quiet →
      exec (.islandIdleDark i) s = .next (s.beginQuiesce i true))) ∧
  (s.quiet → s.fld F.PWR_ROUTE_TMASK = 0 →
    (s.island i).st = .lighting →
    Gives (.lightFail i) s (fun u => (u.island i).st = .dark ∧
      u.fld F.PWR_STAT_LITFAIL = s.fld F.PWR_STAT_LITFAIL ||| 2 ^ (Island.idx i).val ∧
      u.pstate = (if i = .steady then s.fld F.PWR_STAT_LAST else s.pstate) ∧
      SameRegs [F.PWR_STAT_LITFAIL.addr, F.CLK_STAT_XT32MOK.addr] s u ∧ SameCore s u)) ∧
  (s.quiet → s.fld F.PWR_ROUTE_TMASK = 0 → s.firstRising = true → Gives (.lightFail .steady) s (fun u => (u.island .steady).st = .dark ∧
    u.fldBit F.PWR_STAT_LITFAIL (Island.idx .steady).val = true ∧ u.pstate = s.pstate ∧ u.mem = s.mem ∧ u.threads = s.threads)))

/-- A quiesce that is due begins: one of an island other than steady that was held while it was being lit, or that a reset of it or of the steady island
asks for; the steady one of a reset once the other islands are dark; that of an entry into Ember or Vigil while its conditions still hold. It opens a
window on every account of the island's spans and rings, and the island accepts no new work; no register, no memory, no thread and no account changes.
An entry whose conditions no longer hold is abandoned; where no quiesce is due nothing happens. A drain ends once the island's replies have crossed,
the crossings and accesses presented are over, and its work is done or QDRAIN has passed. An island other than the steady one is then dark, or lights
again where a request is held, its span accounts at zero with no window open. The burst island leaves threads 8 and 9 DARK and, with RET = 0, its RAM
lost, which then reads as unwritten memory does (the model's choice, log 2); the cipher island leaves no operation waiting and, reset, every key slot
EMPTY. The steady island is dark in the state that its entry names, with its REFUSE code, or, reset, lit anew with thread 0 in RUN from 0 and the
others STOPPED. ISLAND_RESET with the key: every lit island that it names quiesces, to be reset at its end; one being lit or quiescing already will be
reset at the end of its quiesce; a dark one stays dark and is reset at once (the model's choice, log 71): it loses a sealed set that waits and, the
cipher island, its keys; one that is not named stays as it is and may count as active now. Where the steady island is named every other lit island
quiesces, and the steady one waits for its own quiesce. Without the key nothing happens. -/
def Obligations.QuiesceTakesIslandsDown : Prop :=
  (∀ (s : State) (i : Island), s.quiet → s.on = true → s.lit i = true →
    let x := s.island i
    let asked : Prop := i ≠ .steady ∧ (x.downReq = true ∨ x.resetAtEnd = true ∨ (s.island .steady).resetAtEnd = true)
    let reset : Prop := i = .steady ∧ x.resetAtEnd = true
    let entry : Prop := i = .steady ∧ x.resetAtEnd = false ∧ s.power.entry.isSome = true
    let mayEnter : Prop := s.mayDescend = true ∧ s.descent.1 < 2
    let idle : Prop := s.flash.op = none
    let opens (power : Power) : Prop := Gives (.quiesce i) s (fun u =>
      u.island i = { x with st := .quiescing, drainFrom := s.now, idle := false, wins := s.quiesceAccts i } ∧
      (∀ a, a ∈ s.quiesceAccts i → (u.win a).quiesce = true ∧ (u.win a).span = (s.win a).span ∧ (u.win a).slot = (s.win a).slot) ∧
      (∀ a, a ∉ s.quiesceAccts i → u.win a = s.win a) ∧ u.ledger.acct = s.ledger.acct ∧ (∀ j, j ≠ i → u.island j = s.island j) ∧
      u = { s with isl := u.isl, ledger := u.ledger, power := power })
    (asked → opens s.power) ∧
    (reset → idle → (∀ j, j ≠ .steady → (s.island j).st = .dark) → opens s.power) ∧
    (entry → idle → mayEnter → opens { s.power with entry := some s.descent }) ∧
    (entry → ¬ mayEnter → exec (.quiesce i) s = .next { s with power := { s.power with entry := none } }) ∧
    (reset → (∃ j, j ≠ .steady ∧ (s.island j).st ≠ .dark) → exec (.quiesce i) s = .next s) ∧
    (¬ asked → ¬ reset → ¬ entry → exec (.quiesce i) s = .next s)) ∧
  (∀ (s : State) (i : Island), s.on = true → (s.island i).st = .quiescing → s.stepsOver i = true → s.islandHere i = true →
    s.workDone i = true ∨ s.drainExpired i = true → s.mustFinish i = false →
    (i ≠ .steady → Effect (.quiesceDrainEnd i) s (fun u =>
      ((u.island i).st = .dark ∨ (u.island i).st = .lighting) ∧ ((s.island i).relight = true → (u.island i).st = .lighting) ∧
      (∀ sp ∈ islandSpans i, ∀ a ∈ spanAccts sp, u.acct a = ⟨0, 0, 0, 0⟩ ∧ (u.win a).isOpen = false) ∧
      (i = .burst → (u.thr 8).st = .dark ∧ (u.thr 9).st = .dark ∧
        (s.flag F.PWR_BURST_RET = false → ∀ a, Region.burst.holds a = true → u.mem.byte a = memDefault a)) ∧
      (i = .cipher → u.cip.waiting = none ∧
        ((s.island i).resetAtEnd = true → ∀ n : Fin 16, u.kst n = 0 ∧ (u.keySlot n).key = [])))) ∧
    (∀ d why, s.power.entry = some (d, why) → i = .steady → (s.island i).resetAtEnd = false → d < 2 → why < 4 → s.power.latched = 0 →
      Effect (.quiesceDrainEnd i) s (fun u => (u.island i).st = .dark ∧ u.pstate = d ∧ u.fld F.PWR_STAT_REFUSE = why ∧
        u.flag F.PWR_STAT_FLRDY = false ∧ u.power.entry = none)) ∧
    (i = .steady → (s.island i).resetAtEnd = true →
      Effect (.quiesceDrainEnd i) s (fun u => u.lit i = true ∧ u.pstate = 3 ∧ u.boot = .starting ∧ (u.thr 0).st = .run ∧
        (u.thr 0).pc = 0 ∧ (u.thr 0).mode = true ∧ (∀ t : ThreadId, t ≠ 0 → t.val < 8 → (u.thr t).st = .stopped) ∧
        u.fld F.PWR_STAT_LAST = 3 ∧ u.flag F.PWR_WAKE_ISLAND = true ∧ u.flag F.PWR_STAT_FLRDY = false))) ∧
  (∀ (s : State) (v : Word), s.steadyRuns = true →
    let named (i : Island) : Prop := s.islandHere i = true ∧ v.getLsbD (Island.idx i).val = true
    (s.quiet → v.toNat / 256 % 256 ≠ 0xA5 → exec (.islandReset v) s = .next s) ∧
    (v.toNat / 256 % 256 = 0xA5 → Effect (.islandReset v) s (fun u =>
      (∀ i, i ≠ .steady → (s.island i).st = .lit → v.getLsbD 0 = true ∨ named i →
        (u.island i).st = .quiescing ∧ (u.island i).drainFrom = s.now) ∧
      (∀ i, i ≠ .steady → (s.island i).st ≠ .dark → named i → (u.island i).resetAtEnd = true) ∧
      (∀ i, i ≠ .steady → (s.island i).st = .lighting ∨ (s.island i).st = .quiescing ∨ (s.island i).st = .dark →
        (u.island i).st = (s.island i).st) ∧
      (∀ i, i ≠ .steady → (s.island i).st = .dark → named i → ∀ b ∈ islandBlks i, u.sealPend b = false) ∧
      ((s.island .cipher).st = .dark → named .cipher → ∀ n : Fin 16, u.kst n = 0 ∧ (u.keySlot n).key = []) ∧
      (∀ i, i ≠ .steady → ¬ named i → v.getLsbD 0 = false → u.island i = { s.island i with since := (u.island i).since }) ∧
      u.island .steady = { s.island .steady with
        resetAtEnd := v.getLsbD 0 || (s.island .steady).resetAtEnd, since := (u.island .steady).since })))

/-! ### Resets, snuff, tick -/

/-- The full resets: each leaves the reset machine with its own cause, keeps what the backup domain holds and the flash bytes, and, unless the supply
went, the time base; POWER_ON brings the supply back, BROWN_OUT takes it away, RESETN low for 1 µs holds the part in reset until it rises, for 100 ns
to 1 µs does so or does nothing, and for less does nothing. -/
def Obligations.FullResets : Prop :=
  ∀ s : State,
    let fresh (u : State) (cause : Nat) (tick : BitVec 48) : Prop :=
      u.fld F.PWR_RCAUSE_CAUSE = cause ∧ u.pstate = 3 ∧ u.boot = .starting ∧ (u.thr 0).st = .run ∧ (u.thr 0).pc = 0 ∧
      (∀ t : ThreadId, t ≠ 0 → t.val < 8 → (u.thr t).st = .stopped) ∧ (∀ n : RingId, u.ringState n = ringOff) ∧ u.handed = [] ∧
      (∀ k, u.acct k = if 0x40 ≤ k ∧ k < 0x44 then ⟨8, 8, 0, 0⟩ else ⟨0, 0, 0, 0⟩) ∧ u.time.tick = tick ∧ u.bak = s.bak ∧
      (∀ a, inFlash a = true → u.mem.byte a = s.mem.byte a)
    (s.on = true → ∀ v : Word, v.toNat % 256 = 0xD2 → Gives (.softReset v) s (fun u => fresh u 8 s.time.tick)) ∧
    (s.on = true → ∀ n, 1000 ≤ n → Gives (.resetnQualify n) s (fun u => fresh u 4 s.time.tick ∧ u.power.inReset = true)) ∧
    (s.on = true → ∀ n, 100 ≤ n → n < 1000 → Gives (.resetnQualify n) s (fun u => fresh u 4 s.time.tick ∧ u.power.inReset = true) ∨
      (s.quiet → exec (.resetnQualify n) s = .next s.fresh)) ∧
    (s.on = true → s.quiet → ∀ n, n < 100 → exec (.resetnQualify n) s = .next s) ∧
    (s.quiet → s.power.inReset = true →
      exec .resetnRelease s = .next { s with power := { s.power with inReset := false } }) ∧
    (s.power.vdd = false → ∀ below, Gives (.powerOn below) s (fun u => fresh u (if below then 1 else 2) 0 ∧ u.power.vdd = true)) ∧
    (s.power.vdd = true → Gives .brownOut s (fun u => fresh u 2 0 ∧ u.power.vdd = false))

/-- With the snuff condition held over two tick edges the chip is reset with cause SNUFF, or, with ACT = 1 and a rescue thread in WAIT, that thread runs
again past its WAIT with rd 0, TSW.SNUFF set and bit 23 pending, while no other thread runs. A tick edge advances the 48-bit tick by one, restarts the
fraction and opens the comparisons of the edge. Held in reset the part does no more. To a part to which nothing else is due it counts the snuff hold
while the snuff condition holds and else restarts it, the islands that rings light may count as active, and nothing else changes. -/
def Obligations.SnuffAndTick : Prop :=
  (∀ s : State, s.on = true → s.snuffHolds = true → 2 ≤ s.power.snuffHold →
    (s.flag F.EVT_SNUFF_ACT = false → Gives .snuff s (fun u => u.fld F.PWR_RCAUSE_CAUSE = 16 ∧ u.boot = .starting ∧ u.bak = s.bak)) ∧
    (∀ t : ThreadId, s.flag F.EVT_SNUFF_ACT = true → s.fld F.EVT_SNUFF_RESCUE = t.val → (s.thr t).st = .wait → 2 ≤ s.pstate →
      s.lit .steady = true → s.quiet →
      Gives .snuff s (fun u => u.flag F.EVT_STAT_SNUFF = true ∧ (u.thr t).st = .run ∧ (u.thr t).snuff = true ∧
        (u.thr t).pc = (s.thr t).pc + 4 ∧ (u.thr t).pend = (s.thr t).pend ||| 0x00800000 ∧ u.power.snuffHold = 0 ∧
        (∀ v, v ≠ t → u.thr v = s.thr v)))) ∧
  (∀ s : State, s.power.vdd = true →
    Effect .timeBaseTick s (fun u => u.time.tick = s.time.tick + 1 ∧ u.time.cyc = 0 ∧ u.time.judged = 0) ∧
    (s.quiet → s.on = false → exec .timeBaseTick s =
      .next { s with time := { s.time with tick := s.time.tick + 1, cyc := 0, judged := 0, per := none, floor := 0 } }) ∧
    (s.quiet → s.on = true → s.edgeFree → s.sealPend .evt = false →
      Gives .timeBaseTick s (fun u =>
        u.time = { s.time with tick := s.time.tick + 1, cyc := 0, judged := 0, floor := 0,
                               per := if s.fllRuns then some (if s.time.per = none then 0 else s.time.cyc) else none } ∧
        u.power = { s.power with snuffHold := if s.snuffHolds then s.power.snuffHold + 1 else 0 } ∧
        (∀ j, u.island j = { s.island j with since := (u.island j).since }) ∧
        u = { s with time := u.time, power := u.power, isl := u.isl })))

/-! ### Clocks -/

/-- The oscillators: XT32 that misses more than four cycles is given up for LFRC with XT32FAIL; confirmed, it falls due to take the vigil clock while AUTO
= 1, and does so at the next tick edge. XT32M out of 850 to 1,100 cycles in a tick fails and the radio and burst islands quiesce; within, it is
confirmed, and the FLL takes it as its reference where that is committed. FLL_LOCKED sets FLLLOCK, CLK_FREQ and the wait states of the frequency
reached. -/
def Obligations.ClocksFollowTheirChecks : Prop :=
  ∀ (s : State) (n : Nat),
    (s.power.vdd = true → s.flag F.CLK_STAT_XT32OK = true → 4 < n → s.fld F.PWR_ROUTE_TMASK = 0 → s.quiet →
      Gives (.xt32Fail n) s (fun u => u.flag F.CLK_STAT_VSRC = false ∧ u.flag F.CLK_STAT_XT32OK = false ∧
        u.flag F.CLK_STAT_XT32FAIL = true ∧ u.clk.switchDue = false ∧ SameCore s u)) ∧
    (s.power.vdd = true → s.flag F.CLK_STAT_XT32OK = false → s.quiet →
      exec .xt32Confirmed s = .next { s.setBit F.CLK_STAT_XT32OK with clk := { s.clk with switchDue := s.flag F.CLK_VSRC_AUTO } }) ∧
    (s.power.vdd = true → s.clk.switchDue = true → s.flag F.CLK_STAT_XT32OK = true → s.flag F.CLK_STAT_VSRC = false → s.quiet →
      Gives .vigilClockSwitch s (fun u => u.flag F.CLK_STAT_VSRC = true ∧ u.clk.switchDue = false ∧ SameCore s u)) ∧
    (s.on = true → s.xt32mWanted = true → s.flag F.CLK_STAT_XT32MOK = true → n < 850 ∨ 1100 < n → s.fld F.PWR_ROUTE_TMASK = 0 → s.quiet →
      Gives (.xt32mFail n) s (fun u => u.flag F.CLK_STAT_XT32MOK = false ∧ u.flag F.CLK_STAT_XT32MFAIL = true ∧
        u.clk.xt32mFailed = true ∧ (s.lit .radio = true → (u.island .radio).st = .quiescing) ∧
        (s.lit .burst = true → (u.island .burst).st = .quiescing) ∧ u.mem = s.mem ∧ u.threads = s.threads)) ∧
    (s.on = true → s.xt32mWanted = true → s.flag F.CLK_STAT_XT32MOK = false → 850 ≤ n → n ≤ 1100 → s.quiet →
      Gives (.xt32mConfirmed n) s (fun u => u.flag F.CLK_STAT_XT32MOK = true ∧
        u.clk.refDue = (s.flag F.CLK_FLL_REF && !s.clk.xt32mFailed && !s.clk.onXt32m) ∧ SameRegs [F.CLK_STAT_XT32MOK.addr] s u ∧
        SameCore s u)) ∧
    (s.on = true → 2 ≤ s.pstate → s.clk.refDue = true → s.fllOnXt = true → s.quiet →
      Gives .fllRefSwitch s (fun u => u.clk.onXt32m = true ∧ u.clk.mul = s.fld F.CLK_FLL_MUL ∧ u.clk.refDue = false ∧ SameCore s u)) ∧
    (s.on = true → s.lit .steady = true → 3 ≤ s.pstate ∨ s.flag F.PWR_CTL_DIMFLL = true → s.quiet →
      exec (.fllLocked n) s = .next (((s.setBit F.CLK_STAT_FLLLOCK).setFld F.CLK_FREQ_KHZ n).setWs))

/-! ### Threads and event rings -/

/-- START of a stopped or faulted thread: it runs at EVT_TPC in warden mode with its registers VOID, nothing pending, ENT and BIP 0; of any other nothing
happens. STOP of a running or waiting thread: it is STOPPED, and no other thread, no register and no memory changes; where it owns the cipher lock
that is broken and free. One whose word has an access that waits is STOPPED when that word is done, here by a MOV. A write that enables an event ring
whose header lies in system SRAM or vigil RAM latches base, size and producer count from it; any other address leaves EN at 0. Of a header with a word
that fails its check nothing is latched, so that the ring is unusable (the model's choice, log 52). EVT_TOVF.CLR clears the overflow count and nothing
else. An event delivered to a thread that is not DARK sets its bits in PEND and, with its ring enabled, usable and not full, writes the 16-byte record
at the next entry (bit, code, low stamp; the next sequence number tagged SEQ; high stamp tagged TIME; detail), then PROD. The number is issued by it.
A full ring counts the loss in EVT_TOVF and writes nothing; that one whose CONS fails its check, or of which more than its size is unread, counts as
full is the model's choice (logs 52, 96). -/
def Obligations.ThreadsAndEventRings : Prop :=
  (∀ (s : State) (t : ThreadId), s.quiet → s.steadyRuns = true →
    let x := s.thr t
    (x.st = .stopped ∨ x.st = .faulted →
      Gives (.threadStart t) s (fun u => let y := u.thr t
        y.st = .run ∧ y.mode = true ∧ y.pc = BitVec.ofNat 32 (s.fld (F.EVT_TPC_ADDR t.val) * 4) ∧ y.pend = 0 ∧ y.ent = false ∧
        y.bip = false ∧ (∀ r : Reg, r ≠ 0 → (y.get r).tag = .void) ∧ u = { s.setThr t y with free := u.free })) ∧
    (x.st ≠ .stopped → x.st ≠ .faulted → exec (.threadStart t) s = .next s) ∧
    (x.st = .run ∧ x.issued = Held.no ∨ x.st = .wait → s.flag F.CIP_LOCK_HELD = false ∨ s.fld F.CIP_LOCK_OWNER ≠ t.val →
      exec (.threadStop t) s = .next (s.setThr t { x with st := .stopped })) ∧
    (x.st = .run → x.issued ≠ Held.no → exec (.threadStop t) s = .next (s.setThr t { x with stopping := true })) ∧
    (x.st = .run → x.stopping = true → s.coreRuns t = true → s.fetchStop t = none → s.fetchRead t = s →
      s.flag F.CIP_LOCK_HELD = false ∨ s.fld F.CIP_LOCK_OWNER ≠ t.val → ∀ rd ra : Reg,
      exec (.mov t .al rd ra) s = .next (s.setThr t { (x.put rd (x.get ra)) with
        pc := x.pc + 4, bip := false, issued := Held.no, st := .stopped, stopping := false })) ∧
    (x.st = .run ∧ x.issued = Held.no ∨ x.st = .wait → s.flag F.CIP_LOCK_HELD = true → s.fld F.CIP_LOCK_OWNER = t.val →
      Effect (.threadStop t) s (fun u => (u.thr t).st = .stopped ∧ u.flag F.CIP_LOCK_HELD = false ∧ u.cip.waiting = none ∧
        (∀ v, v ≠ t → (u.thr v).st = (s.thr v).st ∧ (u.thr v).pc = (s.thr v).pc))) ∧
    (x.st ≠ .run → x.st ≠ .wait → exec (.threadStop t) s = .next s)) ∧
  (∀ (s : State) (t : ThreadId) (v : Word), s.quiet → s.steadyRuns = true →
    let h := v.toNat / 64 * 64
    let bad := s.mem.parityBad h || s.mem.parityBad (h + 4) || s.mem.parityBad (h + 8)
    (v.getLsbD 0 = true → 0x20000000 ≤ h → h + 64 ≤ 0x20110000 →
      Gives (.evtTringWrite t v) s (fun u => u.flag (F.EVT_TRING_EN t.val) = true ∧ u.fld (F.EVT_TRING_ADDR t.val) * 64 = h ∧
        vget u.evring t = (if bad then ⟨0, 0, 0⟩ else
          ⟨(s.mem.word h).toNat, (s.mem.word (h + 4)).toNat, (s.mem.word (h + 8)).toNat % 65536⟩) ∧
        SameRegs [(F.EVT_TRING_EN t.val).addr] s u ∧ SameCore s u)) ∧
    (v.getLsbD 0 = false ∨ h < 0x20000000 ∨ 0x20110000 < h + 64 →
      Gives (.evtTringWrite t v) s (fun u => u.flag (F.EVT_TRING_EN t.val) = false ∧
        SameRegs [(F.EVT_TRING_EN t.val).addr] s u ∧ SameCore s u)) ∧
    Gives (.evtTovfClr t) s (fun u => u.fld (F.EVT_TOVF_COUNT t.val) = 0 ∧ SameRegs [(F.EVT_TOVF_COUNT t.val).addr] s u ∧ SameCore s u)) ∧
  (∀ (s : State) (t : ThreadId) (bits : Word) (bit code : Nat) (detail : Word) (stamp : BitVec 48), (s.thr t).st ≠ .dark →
    s.lit .steady = true → s.flag (F.EVT_TRING_EN t.val) = true →
    let e := vget s.evring t
    let hdr := s.fld (F.EVT_TRING_ADDR t.val) * 64
    let cons := (s.mem.word (hdr + 12)).toNat % 65536
    let at' := e.base + e.prod % e.size * 16
    let u := s.deliver t bits bit code detail stamp none
    let free := (e.prod + 65536 - cons) % 65536 < e.size
    (u.thr t).pend = (s.thr t).pend ||| bits ∧
    (e.usable = true → s.mem.parityBad (hdr + 12) = false → free → e.prod < 65536 →
      (hdr + 16 ≤ e.base ∨ e.base + e.size * 16 ≤ hdr) → bit < 32 → code < 256 →
      u.mem.word at' = BitVec.ofNat 32 (bit + 256 * code + 65536 * (stamp.toNat % 65536)) ∧
      u.mem.tword (at' + 4) = ⟨s.reg F.LDG_SEQ_NEXT.addr, .seq⟩ ∧ u.mem.tword (at' + 8) = ⟨BitVec.ofNat 32 (stamp.toNat / 65536), .time⟩ ∧
      u.mem.tword (at' + 12) = ⟨detail, .int⟩ ∧ u.mem.word (hdr + 8) = BitVec.ofNat 32 ((e.prod + 1) % 65536) ∧
      u.reg F.LDG_SEQ_NEXT.addr = s.reg F.LDG_SEQ_NEXT.addr + 1) ∧
    (s.mem.parityBad (hdr + 12) = true ∨ ¬ free →
      u.mem = s.mem ∧ u.fld (F.EVT_TOVF_COUNT t.val) = min (s.fld (F.EVT_TOVF_COUNT t.val) + 1) (2 ^ (F.EVT_TOVF_COUNT t.val).w - 1) ∧
      u.reg F.LDG_SEQ_NEXT.addr = s.reg F.LDG_SEQ_NEXT.addr))

/-! ### Rings -/

/-- A ring that is OFF and whose header passes the checks is ON, with base, size, completion base and indices from its header, all its credit free and
CREDIT equal to its size; one that fails a check stays OFF with the check's ERR code and nothing else changed. Disabling a ring that is ON makes it
DRAINING, and every descriptor not yet taken completes FLUSHED in posting order; disabling any other does nothing. A draining ring with nothing held
and nothing in flight is OFF, its account withdrawn. QUE_OVP.CLR clears the overpost count. -/
def Obligations.RingsOpenAndDrain : Prop :=
  (∀ (s : State) (n : RingId) (v : Word), s.quiet → s.steadyRuns = true → s.ringState n = ringOff → s.ledger.parity = [] →
    let s1 := s.rcfgFields n (v ||| 1)
    let h := s.ringHdr n
    let size := (s.mem.word (h + 4)).toNat
    (s1.enableErr n = 0 → Gives (.ringEnable n v) s (fun u =>
      u.ringState n = ringOn ∧ u.fld (F.QUE_RSTAT_ERR n.val) = 0 ∧ u.acct n.val = ⟨size, size, 0, 0⟩ ∧
      (u.ring n).base = (s.mem.word h).toNat ∧ (u.ring n).size = size ∧ (u.ring n).cbase = (s.mem.word (h + 0x14)).toNat ∧
      (u.ring n).prod = (s.mem.word (h + 8)).setWidth 16 ∧ (u.ring n).cons = (u.ring n).prod ∧
      (u.ring n).ccons = (s.mem.word (h + 0x1C)).setWidth 16 ∧ (u.ring n).cprod = (u.ring n).ccons ∧
      u.mem.word (h + 0x10) = BitVec.ofNat 32 size ∧ (∀ a, a < h + 0xC ∨ h + 0x28 ≤ a → u.mem.byte a = s.mem.byte a) ∧
      (∀ m, m ≠ n → u.ring m = s.ring m) ∧ u.threads = s.threads)) ∧
    (s1.enableErr n ≠ 0 →
      exec (.ringEnable n v) s = .next (s1.setFld (F.QUE_RSTAT_ERR n.val) (s1.enableErr n)))) ∧
  (∀ (s : State) (n : RingId), s.quiet →
    let r := s.ring n
    (s.steadyRuns = true → s.ringState n = ringOn → Gives (.ringDisable n) s (fun u =>
      u.ringState n = ringDraining ∧ (u.ring n).cons = r.prod ∧
      (u.ring n).done.map (fun x => (x.idx, x.status)) =
        r.done.map (fun x => (x.idx, x.status)) ++ (List.range r.untaken).map (fun i => (r.cons + BitVec.ofNat 16 i, stFlushed)) ∧
      SameRegs [(F.QUE_RSTAT_STATE n.val).addr] s u ∧ SameCore s u)) ∧
    (s.steadyRuns = true → s.ringState n ≠ ringOn → exec (.ringDisable n) s = .next s) ∧
    (s.on = true → s.ringState n = ringDraining → (s.acct n.val).h = 0 → (s.acct n.val).f = 0 → s.ledger.parity = [] →
      Gives (.ringDrainEnd n) s (fun u => u.ringState n = ringOff ∧ u.acct n.val = ⟨0, 0, 0, 0⟩ ∧
        (∀ m, m ≠ n.val → u.acct m = s.acct m) ∧ SameRegs [(F.QUE_RSTAT_STATE n.val).addr] s u ∧ u.mem = s.mem ∧ u.threads = s.threads)) ∧
    (s.steadyRuns = true → Gives .queOvpClr s (fun u => u.fld F.QUE_OVP_COUNT = 0 ∧ SameRegs [F.QUE_OVP_COUNT.addr] s u ∧ SameCore s u)))

/-- A word store by a thread to a watched header word of an enabled ring. PROD is the doorbell: k new descriptors within the credit move k units from R to
H, PROD and its mirror take the new index and CREDIT falls; more than the credit, or any store over a draining ring, is an overpost, which changes no
account, no index and no memory. What names an absent unit is completed ABSENT at once. A store to CCONS takes an index up to CPROD, else sets CERR;
one to CREDIT is a breach with cause 2. A halfword or byte store stores nothing in these words: PROD and CCONS set OVP, CREDIT is the breach. The
completion whose turn it is on a ring, the oldest of its source (the model's choice of order, log 98), is written: the descriptor leaves the ring's
finished list, the turn and CPROD move on, and one unit goes from H back to R. Where nothing else is recorded meanwhile (no event record of the ring's
source, no break of the cipher lock's account) the next sequence number stands in the descriptor's SEQ word and in the record with the status, the
ring, the stamp and RESULT at the old CPROD, CPROD's mirror, CREDIT and LASTSEQ follow, and CUT is set by a CUTOFF. A SILENT one reaches no thread;
any other sets the bit to which the ring's source is routed. With none finished in its turn, or an older one of the source on another ring, nothing
happens. -/
def Obligations.DoorbellsAndCompletions : Prop :=
  (∀ (s : State) (t : ThreadId) (n : RingId) (c : Cond) (rd ra : Reg) (imm : BitVec 10), s.ready t → condHolds (s.thr t) c ra = true →
    ((s.thr t).get ra).tag = .addr → s.ringState n ≠ ringOff → inSram (s.ringHdr n) 64 = true →
    (∀ m, m ≠ n → s.ringState m = ringOff ∨ s.ringHdr m ≠ s.ringHdr n) → s.ledger.parity = [] →
    let x := s.thr t
    let w := x.get rd
    let r := s.ring n
    let a := s.acct n.val
    let h := s.ringHdr n
    let v : BitVec 16 := w.data.setWidth 16
    let k := (v - r.prod).toNat
    let at' : Nat := effAddr (x.get ra).data (BitVec.ofInt 32 (4 * imm.toInt))
    let stores (o : Nat) : Prop := at' = h + o ∧ s.thrWrite x.issued (ownBurst t) at' 4 = .ok ∧ s.crosses t at' = s
    let answers (P : State → Prop) : Prop := Effect (.stw t c rd ra imm) s (fun u => u.threads = (s.advanced t).threads ∧ P u)
    let first : Desc := ⟨n, r.cons, (s.poke (h + 8) w).readDesc (r.descAt r.cons)⟩
    let part (i : Instr) (z o : Nat) (b : Word) : Prop := w.tag ≠ .key → w.tag ≠ .void → b.toNat % z = 0 → wordAddr b.toNat = h + o →
      s.thrWrite x.issued (ownBurst t) b.toNat z = .ok → s.crosses t b.toNat = s →
      (o = 8 ∨ o = 0x1C → exec i s = .next ((s.advanced t).setBit (F.QUE_RSTAT_OVP n.val))) ∧
      (o = 0x10 → s.flag F.LDG_STAT_BREACH = false → s.fld F.LDG_ROUTE_TMASK = 0 → Effect i s (fun u => u.flag F.LDG_STAT_BREACH = true ∧
        u.fld F.LDG_STAT_CAUSE = 2 ∧ u.fld F.LDG_STAT_ACCT = n.val ∧ u.mem = s.mem))
    a.fits = true → a.g = a.r + a.h + a.f → (a.f = 0 ∨ (s.win n.val).isOpen = true) →
    (stores 8 → s.ringState n = ringOn → k ≠ 0 → k ≤ s.credit n →
      (s.namesAbsent first = false → s.descBad first = false → h + 0x14 ≤ r.descAt r.cons ∨ r.descAt r.cons + 32 ≤ h + 0x10 → answers (fun u =>
        u.acct n.val = { a with r := a.r - k, h := a.h + k } ∧ (u.ring n).prod = v ∧ (u.ring n).cons = r.cons ∧
        u.mem.tword (h + 8) = w ∧ u.mem.word (h + 0x10) = BitVec.ofNat 32 (a.r - k) ∧
        (∀ b, b < h + 8 ∨ h + 0x14 ≤ b ∨ (h + 12 ≤ b ∧ b < h + 16) → u.mem.byte b = s.mem.byte b) ∧ u.live = s.live)) ∧
      (s.unitHere (s.ringUnit n) = false → r.cons = r.prod → k ≤ r.size →
        Effect (.stw t c rd ra imm) s (fun u => (u.ring n).cons = v ∧ (u.ring n).prod = v))) ∧
    (stores 8 → s.ringState n = ringOn → k = 0 → answers (fun u => u.mem.tword (h + 8) = w ∧ u = { s.advanced t with mem := u.mem })) ∧
    (stores 8 → s.ringState n ≠ ringOn ∨ s.credit n < k → answers (fun u =>
      u.flag (F.QUE_RSTAT_OVP n.val) = true ∧ u.fld F.QUE_OVP_RING = n.val ∧ u.ledger = s.ledger ∧ u.rings = s.rings ∧ u.mem = s.mem ∧
      SameRegs [(F.QUE_RSTAT_OVP n.val).addr, F.QUE_OVP_RING.addr] s u)) ∧
    (stores 0x1C →
      ((r.cprod - v).toNat ≤ r.unread → answers (fun u => (u.ring n) = { r with ccons := v } ∧ u.mem.tword (h + 0x1C) = w ∧ u.live = s.live ∧
        u.ledger = s.ledger ∧ ∀ b, b < h + 0x1C ∨ h + 0x20 ≤ b → u.mem.byte b = s.mem.byte b)) ∧
      (r.unread < (r.cprod - v).toNat → exec (.stw t c rd ra imm) s = .next ((s.advanced t).setBit (F.QUE_RSTAT_CERR n.val)))) ∧
    (stores 0x10 → s.flag F.LDG_STAT_BREACH = false → s.fld F.LDG_ROUTE_TMASK = 0 → answers (fun u => u.flag F.LDG_STAT_BREACH = true ∧
      u.fld F.LDG_STAT_CAUSE = 2 ∧ u.fld F.LDG_STAT_ACCT = n.val ∧ u.mem = s.mem)) ∧
    (∀ o, o = 8 ∨ o = 0x1C ∨ o = 0x10 →
      part (.sth t c rd ra imm) 2 o (effAddr (x.get ra).data (BitVec.ofInt 32 (2 * imm.toInt))) ∧
      part (.stb t c rd ra imm) 1 o (effAddr (x.get ra).data (BitVec.ofInt 32 imm.toInt)))) ∧
  (∀ (s : State) (n : RingId),
    let r := s.ring n
    let a := s.acct n.val
    let h := s.ringHdr n
    let at' := r.compAt r.cprod
    let seq := s.reg F.LDG_SEQ_NEXT.addr
    (∀ d, s.nextDone n = some d → s.queueUp = true → s.inOrder n = true → s.hdrBad n = false → s.compBad n = false →
      s.ledger.parity = [] → a.fits = true → a.g = a.r + a.h + a.f → (a.f = 0 ∨ (s.win n.val).isOpen = true) → 1 ≤ a.h → d.status < 256 →
      let da := r.descAt d.idx + 4
      let unseen : Prop := (d.silent = true ∨ ∀ t b, s.route n.val = some (t, b) → s.flag (F.EVT_TRING_EN t.val) = false) ∧
        (s.ringUnit n = 2 → s.cip.freeAfter = false)
      Effect (.completionWrite n) s (fun u =>
        u.acct n.val = { a with r := a.r + 1, h := a.h - 1 } ∧ (u.ring n).cprod = r.cprod + 1 ∧ (u.ring n).next = r.next + 1 ∧
        (u.ring n).done = r.done.filter (fun x => x.idx != d.idx) ∧ (∀ m, m ≠ n → u.ring m = s.ring m) ∧
        (d.status = 2 → u.flag (F.QUE_RSTAT_CUT n.val) = true) ∧
        (d.silent = true → unseen → u.threads = s.threads) ∧
        (∀ t b, d.silent = false → s.route n.val = some (t, b) → (s.thr t).st ≠ .dark → s.steadyUp = true → unseen →
          (u.thr t).pend = (s.thr t).pend ||| 1#32 <<< b) ∧
        (unseen → u.reg F.LDG_SEQ_NEXT.addr = seq + 1 ∧
          (at' + 16 ≤ h ∨ h + 64 ≤ at' →
            u.mem.word at' = BitVec.ofNat 32 (d.status + 256 * n.val + 65536 * (d.stamp.toNat % 65536)) ∧ u.mem.tword (at' + 4) = ⟨seq, .seq⟩ ∧
            u.mem.tword (at' + 8) = ⟨BitVec.ofNat 32 (d.stamp.toNat / 65536), .time⟩ ∧ u.mem.tword (at' + 12) = ⟨d.result, .int⟩ ∧
            u.mem.word (h + 0x18) = (r.cprod + 1).setWidth 32 ∧ u.mem.word (h + 0x10) = BitVec.ofNat 32 (a.r + 1) ∧
            u.mem.word (h + 0x20) = seq ∧
            (at' + 16 ≤ da ∨ da + 4 ≤ at' → h + 64 ≤ da ∨ da + 4 ≤ h → u.mem.tword da = ⟨seq, .seq⟩))))) ∧
    (s.quiet → s.nextDone n = none ∨ s.inOrder n = false → exec (.completionWrite n) s = .next s))

/-! ### Flash -/

/-- The controller at an operation boundary takes a PROGRAM, ERASE or VERIFY: one that a check of R302 refuses ends with that check's status; otherwise it
starts on its first unit or sector, its bank busy and no suspension counted. -/
def Obligations.FlashOperationsStart : Prop :=
  ∀ (s : State) (d : Desc), s.quiet → s.flashIdle = true → s.flag F.FLC_STAT_SUSP = false → s.offers 1 0 d → s.flashCanStart d = true →
    let t := s.taken 1 0 d
    let cmd : Instr := if d.op = 1 then .program else if d.op = 2 then .erase else .verify
    let fa := d.opd 4
    d.op = 1 ∨ d.op = 2 ∨ d.op = 3 →
    (∀ st r, t.flashCheck d = some (st, some r) → Gives cmd s (fun u => TakenFrom s u d ∧ Finished u d st (BitVec.ofNat 32 r) ∧
      u.flash = s.flash ∧ u.live = s.live ∧ u.threads = s.threads)) ∧
    (∀ st, t.flashCheck d = some (st, none) → Gives cmd s (fun u => TakenFrom s u d ∧ EndedWith u d st ∧ u.flash = s.flash ∧
      u.live = s.live ∧ u.threads = s.threads)) ∧
    (t.flashCheck d = none → Gives cmd s (fun u => TakenFrom s u d ∧
      u.flash = { s.flash with op := some (if d.op = 2 then ⟨d, .erase, sectorOf fa, d.opd 5, 0, false, false⟩
        else ⟨d, if d.op = 3 then .verify else .program, unitOf fa, d.len / 16, 0, false, false⟩) } ∧
      u.bankBusy (bankOf fa) = true ∧ u.fld F.FLC_STAT_SUSPN = 0 ∧ u.mem = t.mem ∧ u.threads = s.threads))

/-- A unit that finishes programming holds the source's four words with their tags, read as it is programmed (the model's choice, log 55), and no other
byte changes; a sector that is erased reads 0xFF with tag RAW throughout; a unit that VERIFY reads without error and finds equal to the reference
changes nothing. The operation goes on to the next, or ends OK after the last, with RESULT the count, of VERIFY 0; a unit that does not compare ends
it PROG_FAIL, a sector that is not erased ERASE_FAIL, with RESULT how many were done, a unit that differs MISMATCH with RESULT its offset, and one
that cannot be read, or whose source cannot, MEMPAR. SUSPEND asks a running operation to pause and counts it, or past 32 suspensions sets SREF; once
paused, no reservation being in hand, its bank is free, unless other work is on it, and SUSP set; RESUME makes the bank busy again and clears SUSP. -/
def Obligations.FlashProgress : Prop :=
  (∀ (s : State) (o : FlashOp), s.quiet → s.flashActive = some o →
    let k := o.first + o.done
    let src := o.desc.buf + 16 * o.done
    let fa := o.desc.opd 4 + 16 * o.done
    let sourceGood : Prop := ∀ j, j < 4 → s.mem.parityBad (src + 4 * j) = false
    let goesOn (u : State) : Prop :=
      (o.done + 1 = o.total → u.flash.op = none ∧ Finished u o.desc stOk (BitVec.ofNat 32 (if o.kind = .verify then 0 else o.total))) ∧
      (o.done + 1 ≠ o.total → u.flash.op = some { o with done := o.done + 1, stopped := (s.island .steady).st == .quiescing }) ∧
      u.threads = s.threads ∧ (s.flash.resv = [] → u.live = s.live)
    (o.kind = .program → k < 262144 → sourceGood →
      Gives (.flashUnitProgrammed true) s (fun u =>
        (∀ j, j < 4 → u.mem.tword (0x08000000 + 16 * k + 4 * j) = s.mem.tword (src + 4 * j)) ∧
        (∀ a, a < 0x08000000 + 16 * k ∨ 0x08000000 + 16 * k + 16 ≤ a → u.mem.byte a = s.mem.byte a) ∧ goesOn u) ∧
      Gives (.flashUnitProgrammed false) s (fun u => u.flash.op = none ∧ Finished u o.desc fsProgFail (BitVec.ofNat 32 o.done))) ∧
    (∀ good, o.kind = .program → ¬ sourceGood →
      Gives (.flashUnitProgrammed good) s (fun u => u.flash.op = none ∧ EndedWith u o.desc stMemPar ∧ u.mem = s.mem)) ∧
    (o.kind = .erase → k < 512 →
      Gives (.flashSectorErased true) s (fun u =>
        (∀ a, inFlash a = true → sectorOf a = k → u.mem.byte a = 0xFF ∧ u.mem.tag a = .raw) ∧
        (∀ a, ¬ (inFlash a = true ∧ sectorOf a = k) → u.mem.byte a = s.mem.byte a) ∧ goesOn u) ∧
      Gives (.flashSectorErased false) s (fun u => u.flash.op = none ∧ Finished u o.desc fsEraseFail (BitVec.ofNat 32 o.done))) ∧
    (o.kind = .verify → s.steadyRuns = true → o.pausing = false →
      let u := s.flashCycle
      (sourceGood → s.ecc fa = .good → nsMem s.flash.cut (unitOf fa) = false →
        ((∀ j, j < 4 → s.mem.tword (fa + 4 * j) = s.mem.tword (src + 4 * j)) → u.mem = s.mem ∧ goesOn u) ∧
        ((∃ j, j < 4 ∧ s.mem.tword (fa + 4 * j) ≠ s.mem.tword (src + 4 * j)) → inFlash (fa + 12) = true → fa % 16 = 0 →
          u.mem = s.mem ∧ u.flash.op = none ∧ Finished u o.desc fsMismatch (BitVec.ofNat 32 (16 * o.done)))) ∧
      (¬ sourceGood ∨ s.ecc fa = .failed → u.mem = s.mem ∧ u.flash.op = none ∧ EndedWith u o.desc stMemPar))) ∧
  (∀ (s : State) (o : FlashOp), s.quiet →
    (s.steadyRuns = true → s.flashRunning = some o → o.pausing = false → s.fld F.FLC_STAT_SUSPN < 32 →
      Gives .suspend s (fun u => u.flash = { s.flash with op := some { o with pausing := true } } ∧
        u.fld F.FLC_STAT_SUSPN = s.fld F.FLC_STAT_SUSPN + 1 ∧ SameRegs [F.FLC_STAT_SUSPN.addr] s u ∧ SameCore s u)) ∧
    (s.steadyRuns = true → s.flashRunning = some o → o.pausing = false → 32 ≤ s.fld F.FLC_STAT_SUSPN →
      exec .suspend s = .next (s.setBit F.FLC_STAT_SREF)) ∧
    (s.flashRunning = some o → s.flash.resvOn = true → exec .flashPaused s = .next s) ∧
    (s.flashActive = some o → o.pausing = true →
      Gives .flashPaused s (fun u => u.flash = { s.flash with op := some { o with pausing := false } } ∧ u.flag F.FLC_STAT_SUSP = true ∧
        (s.flash.ended = none → u.bankBusy o.bank = false) ∧ SameRegs [F.FLC_STAT_SUSP.addr] s u ∧ SameCore s u)) ∧
    (s.steadyRuns = true → s.flash.op = some o → s.flag F.FLC_STAT_SUSP = true →
      Gives .resume s (fun u => u.flag F.FLC_STAT_SUSP = false ∧ (o.bank < 2 → u.bankBusy o.bank = true) ∧ u.flash = s.flash ∧
        SameRegs [F.FLC_STAT_SUSP.addr] s u ∧ SameCore s u)))

/-- With flash readable, nothing suspended and room in the head sector, the oldest request's record is programmed at the head, four words tagged INT, and
the request is done: one unit is granted and held on the slot's account, no register but FLC_STAT changed, and a slot that wants the record may use
its block; a retirement record retires the slot, and all that it holds is returned. A unit that does not verify is left indeterminate and the request
waits (the model's choice, log 35). -/
def Obligations.ReservationIsProgrammed : Prop :=
  ∀ (s : State) (r : Resv) (more : List Resv) (h : Nat) (g : Word) (n : Nat), s.quiet → s.flash.resv = r :: more →
    s.resvReady = true → s.flash.op = none ∨ s.flash.resvOn = true → s.headSector = some (h, g) → s.appendUnit h = some n → s.has .cipher = true →
    s.cip.waiting = none → s.ledger.parity = [] → s.flag F.CIP_STAT_SCANNED = false ∨ s.nonceSectors.any s.sectorErased = true →
    let sp := s.acct 0x48
    sp.fits = true → sp.sound (s.win 0x48) = true →
    let i := 0x60 + r.slot.val
    let a := s.acct i
    let k := s.keySlot r.slot
    a.g + 1 < 2 ^ 32 → a.g = a.r + a.h + a.f → (a.f = 0 ∨ (s.win i).isOpen = true) →
    let written (u : State) : Prop := u.flash.resv = more ∧ (∀ j, j < 4 → u.mem.tword (unitAddr n + 4 * j) = ⟨r.words.getD j 0, .int⟩) ∧
      (∀ b, b < unitAddr n ∨ unitAddr n + 16 ≤ b → u.mem.byte b = s.mem.byte b) ∧ u.threads = s.threads
    (s.wants r = true → r.ret = false → Gives (.reservationProgram true) s (fun u => written u ∧ u.acct i = { a with g := a.g + 1, h := a.h + 1 } ∧
      (u.keySlot r.slot).resblk = some (max r.block (k.resblk.getD 0)) ∧ SameRegs [0x40006004] s u)) ∧
    (s.wants r = true → r.ret = true → Gives (.reservationProgram true) s (fun u => written u ∧
      u.acct i = { a with g := a.g + 1, r := a.r + a.h + 1, h := 0 } ∧ u.kst r.slot = 2)) ∧
    (s.wants r = false → Gives (.reservationProgram true) s (fun u => written u ∧ u.acct i = { a with g := a.g + 1, h := a.h + 1 } ∧
      u.keySlot r.slot = k ∧ SameRegs [0x40006004] s u)) ∧
    Gives (.reservationProgram false) s (fun u => u.flash.resv = s.flash.resv ∧ nsMem u.flash.cut n = true ∧
      u.live = s.live ∧ u.threads = s.threads ∧ u.ledger = s.ledger)

/-- Scrub reads the unit at POS once flash can be read and when its bank is not skipped: a good one moves POS on, wrapping after the last unit with PASSES
one higher; over a foreground access DEFER counts, and the 64th forces a hold. The hold's end lets accesses go ahead. The error registers clear by
software. A report descriptor is handed to scrub. -/
def Obligations.ScrubMovesOn : Prop :=
  ∀ (s : State) (d : Desc), s.quiet → s.steadyRuns = true → s.flag F.FLC_SCRUB_EN = true → s.flag F.PWR_STAT_FLRDY = true →
    s.scrubSkips s.scrubBank = false →
    let pos := s.fld F.FLC_SSTAT_POS
    (s.flag F.FLC_STAT_FORCED = false → s.ecc (unitAddr pos) = .good → nsMem s.flash.cut pos = false →
      Gives (.scrubRead false) s (fun u => u.fld F.FLC_SSTAT_DEFER = 0 ∧
        (pos + 1 < s.flashUnits → u.fld F.FLC_SSTAT_POS = pos + 1 ∧ u.fld F.FLC_SPASS_PASSES = s.fld F.FLC_SPASS_PASSES) ∧
        (s.flashUnits ≤ pos + 1 → u.fld F.FLC_SSTAT_POS = 0 ∧
          u.fld F.FLC_SPASS_PASSES = (s.fld F.FLC_SPASS_PASSES + 1) % 2 ^ F.FLC_SPASS_PASSES.w) ∧
        SameRegs [F.FLC_SSTAT_POS.addr, F.FLC_SPASS_PASSES.addr] s u ∧ u.flash = s.flash ∧ SameCore s u)) ∧
    (s.flag F.FLC_STAT_FORCED = false → s.fld F.FLC_SSTAT_DEFER < 63 →
      exec (.scrubRead true) s = .next (s.setFld F.FLC_SSTAT_DEFER (s.fld F.FLC_SSTAT_DEFER + 1))) ∧
    (s.flag F.FLC_STAT_FORCED = false → s.fld F.FLC_SSTAT_DEFER = 63 →
      Gives (.scrubRead true) s (fun u => u.flag F.FLC_STAT_FORCED = true ∧ u.flash.hold = 16 ∧ u.fld F.FLC_SSTAT_DEFER = 0 ∧ SameCore s u)) ∧
    (s.flag F.FLC_STAT_FORCED = true →
      Gives .scrubForcedHoldEnd s (fun u => u.flag F.FLC_STAT_FORCED = false ∧ u.flash.hold = 0 ∧
        SameRegs [F.FLC_STAT_FORCED.addr] s u ∧ SameCore s u)) ∧
    Gives .flcEccClr s (fun u => u.fld F.FLC_ECC_CORR = 0 ∧ u.fld F.FLC_EADDR_ADDR = 0 ∧
      SameRegs [F.FLC_ECC_CORR.addr, F.FLC_EADDR_ADDR.addr] s u ∧ SameCore s u) ∧
    (s.handedTo 1 1 = none → s.offers 1 1 d → d.op = 0x10 → d.uflags = 0 → d.uparam = 0 → d.lenTop = 0 → d.buf = 0 → d.len = 0 → d.opd 4 = 0 →
      d.opd 5 = 0 → d.opd 6 = 0 → d.opd 7 = 0 → Takes .scrubReportDesc s d (fun u => u.handedTo 1 1 = some d ∧ u.live = s.live))

/-! ### Time -/

/-- A read of TMB_LO latches the upper half for its reader; writes to a compare channel cross span 1 and wait with BUSY set, in order; a PPS edge captures
the whole time base, and marks one that was not read. The crossing is made whole within the command, so that its account stands afterwards as before
(the model's choice, log 122). A channel whose value equals the tick at an edge not yet judged fires once, after every lower-numbered one that is due
at the edge: FIRED is set, a one-shot is disabled, a periodic one's value moves by its period, modulo 2^32; one not routed and that wakes nothing
changes nothing else. A write that was accepted before the last tick edge, waiting alone at a channel that does not fire at this edge, is applied and
BUSY clears: CMP_VAL takes the value, or the tick plus the lead (at least 1), and LATE is set where d = value − tick is 0 or at least 2^31. -/
def Obligations.TimeBaseAndChannels : Prop :=
  (∀ (s : State) (t : ThreadId) (n : Fin 16) (v : Word), s.quiet →
    (s.steadyRuns = true → Gives (.tmbLoRead t) s (fun u => vget u.time.hil t = s.timeBase.extractLsb' 32 32 ∧
      (∀ k, k ≠ t → vget u.time.hil k = vget s.time.hil k) ∧ u = { s with time := { s.time with hil := u.time.hil } })) ∧
    (s.steadyRuns = true →
      let waits (i : Instr) (w : CmpWrite) : Prop := Effect i s (fun u => vget u.cmpw n = vget s.cmpw n ++ [(s.now, w)] ∧
        (∀ k, k ≠ n → vget u.cmpw k = vget s.cmpw k) ∧ u.flag (F.CMP_CTL_BUSY n.val) = true ∧
        (s.ledger.parity = [] → (s.acct 0x43).g = (s.acct 0x43).r + (s.acct 0x43).h + (s.acct 0x43).f → (s.acct 0x43).f = 0 →
          (s.acct 0x43).fits = true → SameRegs [(F.CMP_CTL_BUSY n.val).addr] s u ∧ u.mem = s.mem ∧ u.threads = s.threads ∧
          ∀ k, u.acct k = s.acct k))
      waits (.cmpValWrite n v) (.val v) ∧ waits (.cmpRel n v) (.rel v)) ∧
    (s.on = true → s.has .gnss = true → s.lit .gnss = true → 1 ≤ s.fld F.GNS_PPSSTAT_STATE → s.fld F.GNS_PPSSTAT_STATE ≤ 3 →
      Gives .ppsCapture s (fun u => u.fld F.TMB_PPSLO_LO = s.timeBase.toNat % 2 ^ 32 ∧ u.fld F.TMB_PPSHI_HI = s.timeBase.toNat / 2 ^ 32 ∧
        u.flag F.TMB_PPSST_NEW = true ∧ u.flag F.TMB_PPSST_OVR = (s.flag F.TMB_PPSST_OVR || s.flag F.TMB_PPSST_NEW) ∧
        SameRegs [F.TMB_PPSLO_LO.addr, F.TMB_PPSHI_HI.addr, F.TMB_PPSST_NEW.addr] s u ∧ SameCore s u))) ∧
  (∀ (s : State) (n : Fin 16), s.quiet → s.on = true → s.flag (F.CMP_CTL_EN n.val) = true →
    s.fld (F.CMP_VAL_VAL n.val) = s.tick32.toNat → s.time.judged.getLsbD n.val = false → s.route (0x40 + n.val) = none →
    s.flag (F.CMP_CTL_WAKE n.val) = false → (∀ m, m < n → s.cmpDue m = false) →
    Gives (.compareFire n) s (fun u => u.fldBit F.TMB_FIRED_CH n.val = true ∧ u.time.judged.getLsbD n.val = true ∧
      (s.fld (F.CMP_CTL_MODE n.val) = 1 → u.flag (F.CMP_CTL_EN n.val) = false ∧ u.reg (F.CMP_VAL_VAL n.val).addr = s.tick32) ∧
      (s.fld (F.CMP_CTL_MODE n.val) = 2 → u.flag (F.CMP_CTL_EN n.val) = true ∧
        u.reg (F.CMP_VAL_VAL n.val).addr = s.tick32 + s.reg (F.CMP_PER_PER n.val).addr) ∧
      SameRegs [F.TMB_FIRED_CH.addr, (F.CMP_CTL_EN n.val).addr, (F.CMP_VAL_VAL n.val).addr] s u ∧ SameCore s u)) ∧
  (∀ (s : State) (n : Fin 16) (v : Word) (rel : Bool), s.quiet → s.on = true → s.cmpDue n = false →
    ∀ at', at' < s.now → vget s.cmpw n = [(at', if rel then CmpWrite.rel v else CmpWrite.val v)] →
    let x : Word := if rel then s.tick32 + (if v = 0 then 1 else v) else v
    Gives (.compareWriteApply n) s (fun u => u.reg (F.CMP_VAL_VAL n.val).addr = x ∧ u.flag (F.CMP_CTL_BUSY n.val) = false ∧
      vget u.cmpw n = [] ∧
      u.flag (F.CMP_CTL_LATE n.val) = (s.flag (F.CMP_CTL_LATE n.val) || decide (x = s.tick32) || decide (2 ^ 31 ≤ (x - s.tick32).toNat)) ∧
      u.time.judged.getLsbD n.val = true ∧
      u.flag (F.CMP_CTL_EN n.val) = s.flag (F.CMP_CTL_EN n.val) ∧ SameRegs [(F.CMP_VAL_VAL n.val).addr, (F.CMP_CTL_BUSY n.val).addr] s u ∧
      SameCore s u))

/-! ### Counters -/

/-- RUN clears the accumulator; an edge of a counter's source is counted by its prescaler, which gives an output pulse after N, or N + 1, of them; that
pulse adds one to the count, modulo 2^32, sets CMPF at the compare value and OVF at the wrap, and adds the fraction to the accumulator; an active edge
of the capture signal copies the count; writes of CNT_CMPV and CNT_CREL set the compare value and judge LATE; CNT_COUNT is written only while stopped,
and a pulse that has come is counted before either. An edge of XT32M comes with COUNTER_INCREMENT (the model's choice, log 106). A counter whose
events are off reaches no thread. -/
def Obligations.CountersCount : Prop :=
  ∀ (s : State) (n : Fin 8) (v : Word), s.quiet →
    let cnt := s.fld (F.CNT_COUNT_COUNT n.val)
    let ctl := (F.CNT_CTL_RUN n.val).addr
    let stat := (F.CNT_STAT_CMPF n.val).addr
    let now' := if (s.pre n).due then (cnt + 1) % 2 ^ 32 else cnt
    let still : Prop := s.flag (F.CNT_CTL_CMPEV n.val) = false ∧ s.flag (F.CNT_CTL_OVFEV n.val) = false ∧ s.flag (F.CNT_CTL_CMODE n.val) = false
    (s.steadyRuns = true → s.has .cnt = true → s.flag (F.CNT_CTL_RUN n.val) = false →
      Gives (.counterRun n) s (fun u => u.flag (F.CNT_CTL_RUN n.val) = true ∧ (u.pre n).acc = 0 ∧ (u.pre n).long = false ∧
        SameRegs [ctl] s u ∧ SameCore s u)) ∧
    (s.counterCounts n = true → (s.pre n).due = false → 1 ≤ s.fld (F.CNT_DIV_N n.val) →
      let u := s.sourceEdge n
      let last := s.fld (F.CNT_DIV_N n.val) + (if (s.pre n).long then 1 else 0) ≤ (s.pre n).edges + 1
      u.pre n = { s.pre n with edges := if last then 0 else (s.pre n).edges + 1, due := last } ∧ u = { s with cnt := u.cnt }) ∧
    (s.on = true → s.has .cnt = true → s.lit .steady = true → (s.pre n).due = true → s.flag (F.CNT_CTL_CMPEV n.val) = false → s.flag (F.CNT_CTL_OVFEV n.val) = false →
      s.flag (F.CNT_CTL_CMODE n.val) = false →
      Gives (.counterIncrement n) s (fun u => u.fld (F.CNT_COUNT_COUNT n.val) = (cnt + 1) % 2 ^ 32 ∧
        u.flag (F.CNT_STAT_CMPF n.val) = (s.flag (F.CNT_STAT_CMPF n.val) || decide ((cnt + 1) % 2 ^ 32 = s.fld (F.CNT_CMPV_CMPV n.val))) ∧
        u.flag (F.CNT_STAT_OVF n.val) = (s.flag (F.CNT_STAT_OVF n.val) || decide (cnt = 2 ^ 32 - 1)) ∧
        (u.pre n).acc.toNat = ((s.pre n).acc.toNat + s.fld (F.CNT_DIV_F n.val)) % 2 ^ 16 ∧
        ((u.pre n).long = true ↔ 2 ^ 16 ≤ (s.pre n).acc.toNat + s.fld (F.CNT_DIV_F n.val)) ∧
        (u.pre n).due = false ∧ SameRegs [(F.CNT_COUNT_COUNT n.val).addr, stat] s u ∧ SameCore s u)) ∧
    (s.counterCounts n = true → s.fld (F.CNT_CTL_SRC n.val) = 1 → (s.pre n).due = false → (∀ m, m ≠ n → s.fld (F.CNT_CTL_SRC m.val) ≠ 1) → still →
      let last : Prop := max 1 (s.fld (F.CNT_DIV_N n.val)) + (if (s.pre n).long then 1 else 0) ≤ (s.pre n).edges + 1
      Gives (.counterIncrement n) s (fun u =>
        u.fld (F.CNT_COUNT_COUNT n.val) = (if last then (cnt + 1) % 2 ^ 32 else cnt) ∧ (u.pre n).edges = (if last then 0 else (s.pre n).edges + 1) ∧
        (u.pre n).due = false ∧ SameRegs [(F.CNT_COUNT_COUNT n.val).addr, stat] s u ∧ SameCore s u)) ∧
    (s.on = true → s.has .cnt = true → s.lit .steady = true → (s.pre n).due = false → (s.pre n).capDue = true →
      Gives (.counterCapture n) s (fun u => u.fld (F.CNT_CAP_CAP n.val) = cnt ∧ u.flag (F.CNT_STAT_CAPNEW n.val) = true ∧
        u.flag (F.CNT_STAT_CAPOVR n.val) = (s.flag (F.CNT_STAT_CAPOVR n.val) || s.flag (F.CNT_STAT_CAPNEW n.val)) ∧
        (u.pre n).capDue = false ∧ SameRegs [(F.CNT_CAP_CAP n.val).addr, stat] s u ∧ SameCore s u)) ∧
    (s.steadyRuns = true → s.has .cnt = true →
      let sets (i : Instr) (x : Word) : Prop := Gives i s (fun u => u.fld (F.CNT_CMPV_CMPV n.val) = x.toNat ∧
        u.fld (F.CNT_COUNT_COUNT n.val) = now' ∧ (u.pre n).due = false ∧
        u.flag (F.CNT_STAT_LATE n.val) = (s.flag (F.CNT_STAT_LATE n.val) || decide (x.toNat = now') ||
          decide (2 ^ 31 ≤ (x - BitVec.ofNat 32 now').toNat)) ∧
        SameRegs [(F.CNT_CMPV_CMPV n.val).addr, (F.CNT_COUNT_COUNT n.val).addr, stat] s u ∧ SameCore s u)
      (((s.pre n).due = true → still) →
        sets (.cntCmpvWrite n v) v ∧ sets (.cntCrel n v) (BitVec.ofNat 32 now' + (if v = 0 then 1 else v))) ∧
      (s.flag (F.CNT_CTL_RUN n.val) = false → exec (.cntCountWrite n v) s = .next (s.setFld (F.CNT_COUNT_COUNT n.val) v.toNat)) ∧
      (s.flag (F.CNT_CTL_RUN n.val) = true → exec (.cntCountWrite n v) s = .next s))

/-! ### Calendar and backup domain -/

/-- A read of the shadow group while unfrozen copies the calendar and the tick and freezes; while frozen it changes nothing; the read of CAL_CLOSE
releases the freeze; one held for 1,024 SUB edges sets HELDLONG. A calendar whose fields are in range stays in range at every SUB edge at which no set
commits, wherever the carry ends: 1,024 SUBs to a second, month lengths with 29 February in years divisible by 4 but 2100, WDAY one further each
midnight, and after the end of 2199 the year 2000 with WRAP set. At the first SUB edge after a SEAL write the sealed set becomes the calendar, its
WDAY that of its date, and PEND clears. Writes of CAL_STIME and CAL_SDATE whose fields are in range are staged; others are ignored whole with BADSET. -/
def Obligations.CalendarKeepsTime : Prop :=
  (∀ s : State, s.quiet →
    let c := s.bak.cal
    let shadow : List Nat := [0x50000000, 0x50000004, 0x50000008, 0x5000000C, 0x50000010]
    (s.steadyRuns = true → s.flag F.CAL_STAT_FROZEN = false →
      Gives .calFreezeRead s (fun u => u.flag F.CAL_STAT_FROZEN = true ∧ u.reg F.CAL_SUB_SUB.addr = BitVec.ofNat 32 c.sub ∧
        u.reg F.CAL_TIME_SEC.addr = BitVec.ofNat 32 (c.sec + 256 * c.min + 65536 * c.hour) ∧
        u.reg F.CAL_DATE_DAY.addr = BitVec.ofNat 32 (c.day + 256 * c.month + 4096 * c.wday + 65536 * c.year) ∧
        u.reg F.CAL_FTICK_TICK.addr = s.tick32 ∧ u.bak = { s.bak with age := 0 } ∧ SameRegs shadow s u ∧ SameCore s u)) ∧
    (s.steadyRuns = true → s.flag F.CAL_STAT_FROZEN = true → exec .calFreezeRead s = .next s) ∧
    (s.steadyRuns = true → Gives .calCloseRead s (fun u => u.flag F.CAL_STAT_FROZEN = false ∧ u.bak = s.bak ∧
      SameRegs [F.CAL_STAT_FROZEN.addr] s u ∧ SameCore s u)) ∧
    (s.flag F.CAL_STAT_FROZEN = true → 1024 ≤ s.bak.age → exec .heldlong s = .next (s.setBit F.CAL_STAT_HELDLONG))) ∧
  (∀ (s : State) (mv : Nat) (sw : Bool), s.quiet →
    let c := s.bak.cal
    let inRange (c : Calendar) : Prop := c.sub < 1024 ∧ c.sec < 60 ∧ c.min < 60 ∧ c.hour < 24 ∧ 1 ≤ c.wday ∧ c.wday ≤ 7 ∧
      2000 ≤ c.year ∧ c.year ≤ 2199 ∧ 1 ≤ c.month ∧ c.month ≤ 12 ∧ 1 ≤ c.day ∧ c.day ≤ monthDays c.year c.month
    (s.flag (F.SEAL_PEND 0x5000002C) = true →
      let t := (s.sld 0x50000024).toNat
      let d := (s.sld 0x50000028).toNat
      Gives (.calendarSubCarry mv sw) s (fun u =>
        u.bak.cal = ⟨(s.sld 0x50000020).toNat % 1024, t % 64, t / 256 % 64, t / 65536 % 32,
          weekday (d / 65536 % 4096) (d / 256 % 16) (d % 32), d % 32, d / 256 % 16, d / 65536 % 4096⟩ ∧
        u.flag (F.SEAL_PEND 0x5000002C) = false ∧ SameRegs [0x5000002C] s u ∧ SameCore s u)) ∧
    (s.flag (F.SEAL_PEND 0x5000002C) = false → inRange c →
    let last : Prop := c.year = 2199 ∧ c.month = 12 ∧ c.day = 31 ∧ c.hour = 23 ∧ c.min = 59 ∧ c.sec = 59 ∧ c.sub = 1023
    Gives (.calendarSubCarry mv sw) s (fun u =>
      let k := u.bak.cal
      inRange k ∧ k.sub = (c.sub + 1) % 1024 ∧ (c.sub < 1023 → k = { c with sub := c.sub + 1 }) ∧
      (¬ last → c.sub = 1023 → k.sec = (c.sec + 1) % 60) ∧
      (c.hour = 23 → c.min = 59 → c.sec = 59 → c.sub = 1023 → ¬ last → k.wday = c.wday % 7 + 1 ∧
        (k.day, k.month, k.year) = (if c.day < monthDays c.year c.month then (c.day + 1, c.month, c.year)
          else if c.month < 12 then (1, c.month + 1, c.year) else (1, 1, c.year + 1))) ∧
      (last → k = ⟨0, 0, 0, 0, 6, 1, 1, 2000⟩) ∧ u.flag F.CAL_STAT_WRAP = (s.flag F.CAL_STAT_WRAP || decide last) ∧
      SameRegs [F.CAL_STAT_WRAP.addr] s u ∧ SameCore s u))) ∧
  (∀ (s : State) (date : Bool) (v : Word), s.quiet → s.steadyRuns = true →
    let good : Bool :=
      if date then
        2000 ≤ v.toNat / 65536 % 4096 && v.toNat / 65536 % 4096 ≤ 2199 && 1 ≤ v.toNat / 256 % 16 && v.toNat / 256 % 16 ≤ 12 &&
          1 ≤ v.toNat % 32 && v.toNat % 32 ≤ monthDays (v.toNat / 65536 % 4096) (v.toNat / 256 % 16)
      else v.toNat % 64 < 60 && v.toNat / 256 % 64 < 60 && v.toNat / 65536 % 32 < 24
    (good = true → Gives (.calSetWrite date v) s (fun u =>
      u.stg (if date then 0x50000028 else 0x50000024) = v &&& (if date then 0x0FFF0F1F else 0x001F3F3F) ∧
      (∀ a, a ≠ (if date then 0x50000028 else 0x50000024) → u.stg a = s.stg a) ∧ u = { s with staged := u.staged })) ∧
    (good = false → exec (.calSetWrite date v) s = .next (s.setBit F.CAL_STAT_BADSET)))

/-- The backup domain: an oscillator that misses more than four cycles sets OSF with cause OSC; without VDD a loss of state restarts the calendar at
2000-01-01 and its registers at their reset values; the supply switches follow VDD; the write of 0x5C clears the tamper latch. On VBAK, every 32 SUB
edges, an enabled loop whose samples do not follow the driven chips is latched as a tamper event with the calendar, NOVDD and PASSIVE set; where the
latch already holds one, the event only counts in MORE. -/
def Obligations.BackupDomain : Prop :=
  (∀ (s : State) (n : Nat) (v : Word), s.quiet →
    (4 < n → Gives (.backupOscFail n) s (fun u => u.flag F.CAL_STAT_OSF = true ∧ u.fldBit F.CAL_STAT_OSFWHY 1 = true ∧
      u.bak = { s.bak with oscStopped := true } ∧ SameRegs [F.CAL_STAT_OSF.addr] s u ∧ SameCore s u)) ∧
    (s.power.vdd = false → Gives .backupStateLoss s (fun u => u.bak.cal = ⟨0, 0, 0, 0, 6, 1, 1, 2000⟩ ∧
      (∀ a, a / 0x1000 = 0x50000 → u.reg a = resetWord a) ∧ (∀ a, a / 0x1000 ≠ 0x50000 → u.reg a = s.reg a) ∧ SameCore s u)) ∧
    (s.power.vdd = false →
      exec .supplySwitchVbak s = .next ((s.setBak { s.bak with onVbak := true, sense := 0 }).clrFld F.CAL_STAT_FROZEN)) ∧
    (s.power.vdd = true → exec .supplySwitchVdd s = .next (s.setBak { s.bak with onVbak := false, sense := 0 })) ∧
    (s.steadyRuns = true → v.toNat % 256 = 0x5C →
      Gives (.tamperLatchClear v) s (fun u => u.flag F.CAL_TSRC_VALID = false ∧ u.fld F.CAL_TSRC_MORE = 0 ∧
        SameRegs [0x50000040, 0x50000044, 0x50000048, 0x5000004C] s u ∧ SameCore s u)) ∧
    (s.steadyRuns = true → v.toNat % 256 ≠ 0x5C → exec (.tamperLatchClear v) s = .next s)) ∧
  (∀ (s : State) (high low : BitVec 8) (n : Fin 8), s.quiet → s.bak.onVbak = true → 32 ≤ s.bak.sense →
    s.fldBit F.CAL_BSENSE_EN n.val = true → (high.getLsbD n.val = false ∨ low.getLsbD n.val = true) →
    (∀ m : Fin 8, m ≠ n → s.fldBit F.CAL_BSENSE_EN m.val = false) →
    let c := s.bak.cal
    let list : List Nat := [0x50000040, 0x50000044, 0x50000048, 0x5000004C]
    (s.flag F.CAL_TSRC_VALID = false →
      Gives (.backupSenseCheck high low) s (fun u => u.flag F.CAL_TSRC_VALID = true ∧ u.fld F.CAL_TSRC_LOOP = n.val ∧
        u.flag F.CAL_TSRC_PASSIVE = true ∧ u.flag F.CAL_TSRC_NOVDD = true ∧ u.flag F.CAL_TSRC_CALBAD = s.flag F.CAL_STAT_OSF ∧
        u.reg 0x50000040 = BitVec.ofNat 32 c.sub ∧ u.reg 0x50000044 = BitVec.ofNat 32 (c.sec + 256 * c.min + 65536 * c.hour) ∧
        u.bak = { s.bak with sense := 0 } ∧ SameRegs list s u ∧ SameCore s u)) ∧
    (s.flag F.CAL_TSRC_VALID = true →
      exec (.backupSenseCheck high low) s = .next ((s.setBak { s.bak with sense := 0 }).satInc F.CAL_TSRC_MORE)))

/-- The checks of a descriptor, in the order of each unit's rule: of a flash operation, of a radio operation, of a SEND, of a cipher operation, of a SNAP,
a START or STOP and a GNSS buffer, of a master transfer and a port's RECV, of a tag-bus operation and its RECV, of a MOVE; and of a ring's header when
it is enabled. The first that applies gives the status. That a parity failure of a source is met where its words are first wanted is the model's
choice (log 24). -/
def Obligations.DescriptorChecksInOrder : Prop :=
  ∀ (s : State) (d : Desc) (n : RingId) (b : Fin 2) (ch : Nat),
    let first (l : List (Bool × Nat)) : Option Nat := (l.find? (fun c => c.1)).map (fun c => c.2)
    let addrErr (e : Eng) : Bool := e.badStatus == some 0x03
    let fa := d.opd 4
    let src := (s.engRead d.buf d.len).badStatus
    let modes := d.flashSectors.map s.sectorMode
    let buffer : Bool := d.buf % 4 != 0 || !inSramVigil d.buf d.len
    let slot := s.kst d.keySlot
    let acc := s.cipAccess d
    let g := s.chan (Fin.ofNat 16 fa)
    let x := s.xferSource d
    let h := s.ringHdr n
    let base := (s.word h).toNat
    let size := (s.word (h + 4)).toNat
    let cbase := (s.word (h + 0x14)).toNat
    (s.flashCheck d).map (fun c => c.1) = first [(s.namesAbsent d, 0x01), (d.flashBadOp, 0x04), (s.dtagBad d, 0x05),
      (d.op != 2 && (d.len < 16 || d.len % 16 != 0 || (d.op == 1 && d.len > 8192) || d.len > 2097152), 0x0A),
      (fa % (if d.op = 2 then 0x2000 else 16) != 0, 0x26),
      (!inFlash fa || fa + d.flashSize > 0x08000000 + (bankOf fa + 1) * 0x200000 || (d.op != 2 && (d.buf % 4 != 0 || src == some 0x03)), 0x03),
      (d.op != 2 && !inSram d.buf d.len && !(Region.vigil.holds d.buf && d.buf + d.len ≤ Region.vigil.stop), 0x27),
      (d.op != 3 && modes.any (fun m => m != 1), 0x20), (d.op == 3 && modes.any (fun m => m == 3), 0x06), (d.op == 1 && src.isSome, src.getD 0),
      (d.op == 1 && (s.firstKey d.buf d.len).isSome, 0x25), (d.op == 1 && (s.firstUsed fa d.len).isSome, 0x21)] ∧
    (s.radioCheck d).map (fun c => c.1) = first [(!s.has (pathUnit d.band), 0x01), (d.radioBadOp, 0x04), (s.dtagBad d, 0x05),
      (d.op ≤ 2 && (d.len == 0 || d.len > 252), 0x0A), (d.op == 1 && src == some 0x03 || d.op == 2 && addrErr (s.engWrite d.buf d.len), 0x03),
      (d.sends && !s.dutyBears d.band (s.dutyAt d.band) (s.opUs d), 0x27), (d.at' && (s.untilStart d < 6 || s.untilStart d ≥ 2 ^ 31), 0x24),
      (d.at' && s.meshRuns && s.overlaps (s.meshAtStart d) (s.opTime d), 0x25)] ∧
    s.sendCheck d = first [(d.sendBadOp, 0x04), (s.dtagBad d, 0x05), (d.len < 11 || d.len > 252, 0x0A), (src == some 0x03, 0x03),
      (!s.softBuf d.buf, 0x22), (d.unicast && s.nbrSt fa == 0, 0x23), (d.unicast && (s.acct (fwd fa)).r == 0, 0x21)] ∧
    (s.cipCheck d).or (s.keyCheck d) = first [(d.cipBadOp, 0x04), (!s.flag F.CIP_LOCK_HELD || d.uparam != s.fld F.CIP_LOCK_TOKEN, 0x20),
      (s.dtagBad d, 0x05), (!d.cipLenOk, 0x0A), (acc.any addrErr, 0x03), (d.cipOverlap, 0x2B),
      ((vget d.w 4).tag != .key || 16 ≤ (vget d.w 4).data.toNat, 0x21), (3 ≤ d.op && slot == 0, 0x22), (4 ≤ d.op && slot == 2, 0x23),
      (d.op == 6 && slot == 3, 0x26), ((firstBad acc).isSome, (firstBad acc).getD 0), ((s.keyCheck d).isSome, (s.keyCheck d).getD 0)] ∧
    s.snapCheck d = first [(d.op != 1 || d.uflags > 3 || d.uparam != 0 || d.lenTop != 0 || fa % 16 != 0 || d.opd 5 == 0 || d.opd 5 > 64 ||
        d.opd 6 != 0 || d.opd 7 != 0, 0x04), (s.dtagBad d, 0x05), (d.len != 32, 0x0A), (d.buf % 4 != 0 || addrErr (s.engWrite d.buf 32), 0x03),
      (fa + d.opd 5 * 2046 > 131072, 0x21), (!s.flag F.GNS_FE_EN, 0x20), (!s.flag F.GNS_STAT_TCXOOK, 0x22)] ∧
    (d.op = 1 → s.trackCheck d = first [(d.uflags != 0 || d.uparam != 0 || d.lenTop != 0 || d.buf != 0 || d.len != 0 || fa / 16 % 16 != 0 ||
        2 ^ 14 ≤ fa || fa / 256 % 64 == 0 || fa / 256 % 64 > 32 || 2 ^ 26 ≤ d.opd 5 || d.opd 7 / 1024 % 64 != 0 || 2 ^ 24 ≤ d.opd 7 ||
        d.opd 7 % 1024 > 512 || d.opd 7 / 65536 > 40, 0x04), (!s.flag F.GNS_FE_EN, 0x20), (!s.flag F.GNS_STAT_TCXOOK, 0x22), (g.st != .idle, 0x23)]) ∧
    (d.op = 2 → s.trackCheck d = first [(d.uflags != 0 || d.uparam != 0 || d.lenTop != 0 || d.buf != 0 || d.len != 0 || 16 ≤ fa || d.opd 5 != 0 ||
        d.opd 6 != 0 || d.opd 7 != 0, 0x04), (!s.flag F.GNS_STAT_TCXOOK, 0x22), (g.st == .idle, 0x24)]) ∧
    (ch = 2 ∨ ch = 3 → s.gnssBufCheck ch d = first [(d.op != 0x0E + ch || d.uflags != 0 || d.uparam != 0 || d.lenTop != 0 || fa != 0 ||
        d.opd 5 != 0 || d.opd 6 != 0 || d.opd 7 != 0, 0x04), (s.dtagBad d, 0x05),
      (d.len == 0 || d.len % (if ch = 2 then 32 else 16) != 0 || d.len > (if ch = 2 then 512 else 4096), 0x0A),
      (d.buf % 4 != 0 || addrErr (s.engWrite d.buf d.len), 0x03)]) ∧
    s.xferCheck d = first [(d.op != 1 || d.uflags != 0 || d.uparam ≥ 8 || d.lenTop != 0 || d.opd 5 != 0 || d.opd 6 != 0 || d.opd 7 != 0, 0x04),
      (s.dtagBad d, 0x05), (d.len == 0 || d.len > 4096, 0x0A), (d.len % s.cspWord d.csel != 0, 0x21),
      (addrErr x || fa != 0 && !inSramVigil fa d.len, 0x03), (x.badStatus == some 0x06, 0x06), (!s.flag F.CSP_SCFG_ROLE, 0x20),
      (fa != 0 && s.edgeBad fa d.len, 0x09), (x.badStatus.isSome, x.badStatus.getD 0)] ∧
    s.cspRecvCheck d = first [(d.op != 0x10 || d.uflags != 0 || d.uparam != 0 || d.lenTop != 0 || fa != 0 || d.opd 5 != 0 || d.opd 6 != 0 ||
        d.opd 7 != 0, 0x04), (s.dtagBad d, 0x05), (d.len < 4 || d.len > 1024 || d.len % 4 != 0, 0x0A), (buffer, 0x03), (s.flag F.CSP_SCFG_ROLE, 0x20)] ∧
    s.tagCheck d = first [(!(d.op == 1 || d.op == 2) || d.uflags != 0 || d.uparam != 0 || d.lenTop != 0 || d.buf != 0 || d.len != 0 || fa ≥ 4 ||
        d.opd 7 != 0 || d.op == 1 && (d.opd 5 != 0 || d.opd 6 != 0), 0x04), (!s.lineOn (Fin.ofNat 4 fa), 0x20)] ∧
    s.tagRecvCheck d = first [(d.op != 0x10 || d.uflags != 0 || d.uparam != 0 || d.lenTop != 0 || fa != 0 || d.opd 5 != 0 || d.opd 6 != 0 ||
        d.opd 7 != 0, 0x04), (s.dtagBad d, 0x05), (d.len < 16 || d.len > 1024 || d.len % 16 != 0, 0x0A), (buffer, 0x03)] ∧
    s.moveCheck b d = first [(d.op != 1 || d.uflags != 0 || d.uparam > 1 || d.lenTop != 0 || d.buf != 0 || d.len != 0 || fa == 0 || fa > 255 ||
        d.opd 5 == 0 || d.opd 5 > 65535 || d.opd 6 / 256 == 0 || d.opd 6 / 256 > 255 || d.opd 7 > 65535, 0x04), (s.flag F.BTS_STAT_VMOTLOW, 0x23),
      (s.fldBit F.BTS_STAT_ES (2 * b.val) && s.fldBit F.BTS_STAT_ES (2 * b.val + 1), 0x24), (d.uparam % 2 == 1 && s.lockedOut, 0x25)] ∧
    s.enableErr n = (first [(!inSram h 64 || (indices 64).any (fun m => m ≠ n && s.ringState m != ringOff && s.ringHdr m == h), 1),
      ((List.range 10).any (fun i => s.mem.parityBad (h + 4 * i)), 6), (!sizeOk size, 2),
      (base % 32 != 0 || cbase % 16 != 0 || !inSram base (size * 32) || !inSram cbase (size * 16) || !apart base (size * 32) cbase (size * 16) ||
        !apart base (size * 32) h 64 || !apart cbase (size * 16) h 64, 3), (s.ringUnit n = 0 || s.ringUnit n > 9, 4),
      (!chanOk (s.ringUnit n) (s.ringChan n), 5)]).getD 0

/-! ### Radio -/

/-- A radio with no operation takes a TX, RX, LANTERN, LSEARCH or CAL from channel 0: one that a check of R444 refuses ends with that check's status, and
with its RESULT where the table gives one, the radio as it was; otherwise the radio holds the operation, not yet begun. An operation that may begin
goes on the air: LOCK is set; a listening one sets RXON; a transmission sends the frame or the lantern, sets TXON and charges its on-air time to the
path's duty budget; one that the budget does not allow ends DUTY with RESULT the time used so far; a calibration calibrates its path. One with AT = 1
in whose way the schedule or a transmission of the link controller now stands ends BLOCKED (the model's choice, log 110); a calibration before what
the link controller has due within 300 µs is deferred, and waits. An operation on the air ends with its outcome, a transmission not before its ramp-
down is over, and a listening one that heard nothing, with NOSYNC and RESULT 0, not before its window is; TXON, RXON and LOCK clear; the payload of an
RX stands at its buffer, and no other byte of memory changes. Sync below the threshold, or after the window, is not heard; a header whose CRC fails is
HDRBAD; a plain frame is received with RESULT LEN, SYNCQ and RSSI. A lantern that an LSEARCH hears is its outcome. A synthesiser that unlocks makes it
UNLOCK with RESULT what it was on the air when its ramp-down is over, and what was charged beyond that is given back. -/
def Obligations.RadioOperations : Prop :=
  (∀ (s : State) (d : Desc), s.quiet → s.radio.op = none → s.offers 4 0 d → 1 ≤ d.op → d.op ≤ 5 →
    let t := s.taken 4 0 d
    let cmd : Instr := match d.op with | 1 => .tx | 2 => .rx | 3 => .lantern | 4 => .lsearch | _ => .cal
    (t.radioCheck d = none → Takes cmd s d (fun u =>
      u.radio = { s.radio with op := some ⟨d, false, s.timeBase.toNat, none, 0, 0, false, none, []⟩ } ∧ u.live = s.live ∧ u.mem = t.mem ∧ u.threads = s.threads)) ∧
    (∀ st r, t.radioCheck d = some (st, r) → Takes cmd s d (fun u => EndedWith u d st ∧
      (∀ k, r = some k → Finished u d st (BitVec.ofNat 32 k)) ∧ u.radio = s.radio ∧ u.live = s.live ∧ u.mem = t.mem ∧ u.threads = s.threads))) ∧
  (∀ (s : State) (o : RadioOp), s.quiet → s.on = true → s.lit .radio = true → s.radio.op = some o → o.active = false →
    s.opMayBegin o = true → s.fld F.RAD_STAT_CALDEF < 16 → vget s.radio.relock (Fin.ofNat 2 o.desc.band) = false →
    let d := o.desc
    let us := s.opUs d
    let used := F.RAD_P_DUSED_US d.band
    let stat := F.RAD_STAT_LOCK.addr
    let bears := s.dutyBears d.band (s.dutyAt d.band) us
    let clear : Prop := s.linkSends = false ∧ (s.meshRuns = false ∨ s.overlaps (s.mt * oneFrac) (s.opTime d) = false)
    let x : RadioOp := { o with active := true, began := if d.at' && !o.held then s.now * 65536 else s.timeBase.toNat }
    let begun (u : State) (x : RadioOp) : Prop := u.radio = { s.radio with op := some x } ∧ u.flag F.RAD_STAT_LOCK = true
    let sends (e : Emission) : Prop := bears = true →
      Gives .radioOpBegin s (fun u =>
        begun u { x with air := some e, airUs := us, win := s.dutyAt d.band, outcome := some (stOk, BitVec.ofNat 32 us) } ∧
        u.flag F.RAD_STAT_TXON = true ∧ u.fld used = min (2 ^ 32 - 1) (s.fld used + us) ∧ Keeps [stat, used.addr] s u)
    (clear → d.op = 2 ∨ d.op = 4 → Gives .radioOpBegin s (fun u => begun u { x with outcome := none } ∧ u.flag F.RAD_STAT_RXON = true ∧
      Keeps [stat] s u)) ∧
    (clear → d.op = 1 → (s.engView 4 0).engRead d.buf d.len = .ok → plainRam d.buf = true →
      sends (s.frameAir d.band d.profile (s.mem.bytes d.buf d.len) d.fCrc d.fWhite d.fCode d.fIlv)) ∧
    (clear → d.op = 3 → sends (s.lanternAir d.band d.profile (d.opd 6) d.alarm)) ∧
    (clear → d.sends = true → bears = false → Gives .radioOpBegin s (fun u => u.radio = { s.radio with op := none } ∧
      Finished u d rsDuty (BitVec.ofNat 32 (s.fld used)) ∧ Keeps [] s u)) ∧
    (clear → d.op = 5 → s.linkSoon = true → o.held = false → Gives .radioOpBegin s (fun u => u.radio.op = some { o with held := true } ∧
      u.fld F.RAD_STAT_CALDEF = s.fld F.RAD_STAT_CALDEF + 1 ∧ u.flag F.RAD_STAT_CALSTALE = true ∧
      u.radio.calWait = vset s.radio.calWait (Fin.ofNat 2 d.band) true ∧ u.radio.calAt = s.radio.calAt ∧ Keeps [stat] s u)) ∧
    (clear → d.op = 5 → s.linkSoon = false → Gives .radioOpBegin s (fun u => u.radio.op = some { x with outcome := some (stOk, 0) } ∧
      u.flag F.RAD_STAT_LOCK = true ∧ u.fld F.RAD_STAT_CALDEF = 0 ∧ vget u.radio.calAt (Fin.ofNat 2 d.band) = some s.now ∧ Keeps [stat] s u)) ∧
    (d.at' = true → ¬ clear → Gives .radioOpBegin s (fun u => u.radio = { s.radio with op := none } ∧ Finished u d rsBlocked 0 ∧ Keeps [] s u))) ∧
  (∀ (s : State) (o : RadioOp) (x : RxChips) (first second : Word), s.quiet → s.radio.op = some o → o.active = true →
    let d := o.desc
    let us := s.onAirUs o
    let used := F.RAD_P_DUSED_US d.band
    let down (u : State) : Prop := u.radio = { s.radio with op := none } ∧ u.flag F.RAD_STAT_TXON = false ∧ u.flag F.RAD_STAT_RXON = false ∧
      u.flag F.RAD_STAT_LOCK = false ∧ SameRegs [F.RAD_STAT_LOCK.addr] s u ∧ u.threads = s.threads ∧ u.ledger = s.ledger
    let outcome (i : Instr) (base : State) (st : Nat) (r : Word) (l : List Byte) : Prop :=
      exec i s = .next { base with radio := { s.radio with op := some { o with outcome := some (st, r), bytes := l } } }
    let window : Nat := o.began * oneFrac + s.opTime d
    let over' : Prop := if d.sends then o.began * oneFrac + o.airUs * oneUs ≤ s.nowU else o.outcome = none → window ≤ s.nowU
    (¬ over' → exec .radioOpEnd s = .next s) ∧
    (s.on = true → over' → o.outcome = none → Gives .radioOpEnd s (fun u => down u ∧ Finished u d rsNoSync 0 ∧ u.mem = s.mem)) ∧
    (∀ st r, o.outcome = some (st, r) → s.on = true → over' → o.bytes = [] → Gives .radioOpEnd s (fun u => down u ∧ Finished u d st r ∧ u.mem = s.mem)) ∧
    (∀ st r, o.outcome = some (st, r) → s.on = true → over' → o.bytes ≠ [] → (s.engView 4 0).engWrite d.buf o.bytes.length = .ok → plainRam d.buf = true →
      s.unwatched d.buf o.bytes.length →
      Gives .radioOpEnd s (fun u => down u ∧ Finished u d st r ∧ u.mem.bytes d.buf o.bytes.length = o.bytes ∧
        ∀ a, a < d.buf ∨ d.buf + o.bytes.length ≤ a → u.mem.byte a = s.mem.byte a)) ∧
    (d.op = 2 → o.outcome = none →
      let q := s.syncAgree x.sync
      let h : BitVec 24 := BitVec.ofNat 24
        (bitsNum (viterbi (Config.pathTie s.free) 24 ((x.soft ++ List.replicate 60 (false, 0)).take 60)))
      let crcHolds : Prop := headerCrc (h.extractLsb' 0 16) = h.extractLsb' 16 8
      let len := (h.extractLsb' 0 8).toNat
      let air := bytesOf (((x.soft.drop 60 ++ List.replicate (8 * len) (false, 0)).take (8 * len)).map Prod.fst)
      let inTime (chips : Nat) : Prop := s.nowU - chipTime chips (s.rate d.band) ≤ window
      (q < s.fld (F.RAD_P_RX_THRESH d.band) ∨ (crcHolds ∧ h.extractLsb' 8 4 = 0 ∧ ¬ inTime (60 + 8 * len)) ∨ (¬ crcHolds ∧ ¬ inTime 60) →
        exec (.syncDetect x) s = .next s) ∧
      (s.fld (F.RAD_P_RX_THRESH d.band) ≤ q → ¬ crcHolds → inTime 60 →
        outcome (.syncDetect x) s.fresh rsHdrBad (BitVec.ofNat 32 (q * 0x100 + x.rssi.toNat * 0x10000)) []) ∧
      (s.fld (F.RAD_P_RX_THRESH d.band) ≤ q → crcHolds → h.extractLsb' 8 4 = 0 → inTime (60 + 8 * len) → len ≤ d.len →
        outcome (.syncDetect x) s.fresh stOk (BitVec.ofNat 32 (len + q * 0x100 + x.rssi.toNat * 0x10000)) (air.take len))) ∧
    (d.op = 4 → o.outcome = none → s.radio.verify = false →
      (∀ alarm n, s.lanternCode first second = some (alarm, n) → s.nowU ≤ window →
        outcome (.lanternDetect first second) s stOk (BitVec.ofNat 32 ((if alarm then 1 else 0) + n * 0x100)) o.bytes) ∧
      (s.lanternCode first second = none ∨ window < s.nowU → exec (.lanternDetect first second) s = .next s)) ∧
    (s.on = true → Gives (.synthUnlock (Fin.ofNat 2 d.band)) s (fun u => u.flag F.RAD_STAT_LOCK = false ∧ Keeps [F.RAD_STAT_LOCK.addr, used.addr] s u ∧
        u.radio.op = some { o with airUs := us, outcome := some (rsUnlock, BitVec.ofNat 32 us), bytes := [] } ∧
        u.radio.relock = vset s.radio.relock (Fin.ofNat 2 d.band) true ∧
        (o.win = s.dutyAt d.band → u.fld used = s.fld used - (o.airUs - us)))))

/-- ALLOC gives the lowest-numbered FREE buffer and moves one unit of the pool's account from R to H, or ends POOLEMPTY; FREE of a buffer in SOFT gives it
and its unit back, and of any other ends NOTHELD with the buffer's state. A calibration that is due runs, or is counted as deferred before something
on the air. In Ember with SNIFF = 1 XT32M starts and the radio island is lit seventeen ticks ahead of a sniff window (the model's choice, log 112),
and at no other tick; the window opens at its tick on the sniff path, energy above the level begins a verify, and a verify that met no lantern counts
in FALSE, and no other window does (the model's choice, log 30); one that meets the wake lantern in its time sets HIT and begins to wake the chip
where that source is enabled. A duty window that is over gives way to the next, with what is charged to that one. -/
def Obligations.RadioPoolAndHousekeeping : Prop :=
  (∀ (s : State) (d : Desc), s.quiet → s.offers 4 1 d → s.has (pathUnit d.band) = true → d.poolBadOp = false → s.ledger.parity = [] →
    let t := s.taken 4 1 d
    let a := s.acct 0x50
    let sound : Prop := a.fits = true ∧ a.g = a.r + a.h + a.f ∧ (a.f = 0 ∨ (s.win 0x50).isOpen = true)
    let others (u : State) (i : Nat) : Prop := (∀ j, j ≠ i → u.bufSt j = s.bufSt j) ∧ (∀ k, k ≠ 0x50 → u.acct k = s.acct k) ∧
      u.live = s.live ∧ u.mem = t.mem ∧ u.threads = s.threads
    (d.op = 0x10 → s.lowestFree = none → Takes .alloc s d (fun u => Finished u d rsPoolEmpty 0 ∧ u.radio = s.radio ∧ u.ledger = s.ledger)) ∧
    (∀ i, d.op = 0x10 → s.lowestFree = some i → sound → 1 ≤ a.r → Takes .alloc s d (fun u => Finished u d stOk (BitVec.ofNat 32 i) ∧
      u.bufSt i = .soft ∧ u.acct 0x50 = { a with r := a.r - 1, h := a.h + 1 } ∧ others u i)) ∧
    (d.op = 0x11 → s.bufSt (d.opd 4) = .soft → sound → 1 ≤ a.h → Takes .free s d (fun u => Finished u d stOk 0 ∧
      u.bufSt (d.opd 4) = .free ∧ u.acct 0x50 = { a with r := a.r + 1, h := a.h - 1 } ∧ others u (d.opd 4))) ∧
    (d.op = 0x11 → s.bufSt (d.opd 4) ≠ .soft → Takes .free s d (fun u =>
      Finished u d rsNotHeld (BitVec.ofNat 32 (s.bufSt (d.opd 4)).num) ∧ u.radio = s.radio ∧ u.ledger = s.ledger))) ∧
  (∀ (s : State) (p : Fin 2) (deg dbm : Int) (first second : Word), s.quiet →
    let r := s.radio
    let stat := F.RAD_STAT_LOCK.addr
    let edge := vget r.dutyAt p + s.dutyWindow p.val
    let now' : State := { s with radio := { r with temp := deg } }
    let measured : Instr := .radioCalibrate p deg.natAbs (decide (deg < 0))
    let verifies : Prop := r.verify = true ∧ s.nowU ≤ r.verifyTo
    (s.on = true → s.lit .radio = true →
      (now'.calDue p = true → now'.airSoon = false → Gives measured s (fun u => u.fld F.RAD_STAT_CALDEF = 0 ∧
        u.flag F.RAD_STAT_CALSTALE = (vget r.calWait (p + 1) && s.flag F.RAD_STAT_CALSTALE) ∧
        u.radio = { r with temp := deg, calAt := vset r.calAt p (some s.now), calTemp := vset r.calTemp p deg,
                           calWait := vset r.calWait p false, calFull := none, relock := vset r.relock p false } ∧
        Keeps [stat] s u)) ∧
      (now'.calDue p = true → now'.airSoon = true → Gives measured s (fun u =>
        u.fld F.RAD_STAT_CALDEF = min 255 (s.fld F.RAD_STAT_CALDEF + 1) ∧ u.flag F.RAD_STAT_CALSTALE = true ∧
        u.radio.calWait = vset r.calWait p true ∧ u.radio.calAt = r.calAt ∧ u.radio.op = r.op ∧ Keeps [stat] s u)) ∧
      (now'.calDue p = false → exec measured s = .next now')) ∧
    (s.sniffs = true → r.lead = false → r.sniffNext ≠ s.now + 17 → exec .sniffLead s = .next s) ∧
    (s.sniffs = true → r.lead = false → r.sniffNext = s.now + 17 →
      Gives .sniffLead s (fun u => u.radio = { r with lead := true, sniffLit := r.sniffLit || (s.island .radio).st == .dark } ∧
        ((s.island .radio).st = .dark → (u.island .radio).st = .lighting) ∧ (∀ j, j ≠ .radio → u.island j = s.island j) ∧
        u = { s with radio := u.radio, isl := u.isl })) ∧
    (s.sniffs = true → s.lit .radio = true → r.lead = true → r.sniffNext = s.now → s.flag F.RAD_STAT_SNIFFING = false →
      Gives (.sniffWindow dbm) s (fun u => u.flag F.RAD_STAT_SNIFFING = true ∧ Keeps [stat] s u ∧
        u.radio.sniffNext = s.now + s.fld F.RAD_SNPER_TICKS ∧ u.radio.sniffPath = s.fld F.RAD_SNIFF_BAND ∧
        u.radio.verify = decide ((s.fld F.RAD_SNIFF_LEVEL : Int) - 128 < dbm) ∧ u.radio.op = r.op)) ∧
    (s.flag F.RAD_STAT_SNIFFING = true → Gives .sniffWindowEnd s (fun u => u.flag F.RAD_STAT_SNIFFING = false ∧
      u.radio = { r with verify := false, lead := false } ∧
      u.fld F.RAD_LSTAT_FALSE = (if r.verify then min 255 (s.fld F.RAD_LSTAT_FALSE + 1) else s.fld F.RAD_LSTAT_FALSE) ∧
      SameRegs [stat, F.RAD_LSTAT_FALSE.addr, F.CLK_STAT_XT32MOK.addr] s u ∧ u.mem = s.mem ∧ u.threads = s.threads ∧
      u.ledger.acct = s.ledger.acct ∧ (s.pstate ≠ 1 → u.ledger = s.ledger))) ∧
    (∀ n, verifies → s.lanternCode first second = some (false, n) → s.fldBit F.PWR_WAKEEN_SRC 2 = false →
      Gives (.lanternDetect first second) s (fun u => u.flag F.RAD_LSTAT_HIT = true ∧ u.flag F.RAD_LSTAT_ALARM = false ∧
        u.flag F.RAD_STAT_SNIFFING = false ∧ u.radio = { r with verify := false, lead := false } ∧
        Keeps [stat, F.RAD_LSTAT_HIT.addr, F.CLK_STAT_XT32MOK.addr] s u)) ∧
    (∀ n, verifies → s.lanternCode first second = some (false, n) → s.fldBit F.PWR_WAKEEN_SRC 2 = true → s.on = true →
      s.pstate = 1 → s.power.entry = none → s.late = [] → s.power.heldReq = [] → s.flag F.CIP_LOCK_HELD = false →
      Effect (.lanternDetect first second) s (fun u => (u.island .steady).st = .lighting ∧
        u.fld F.PWR_WAKE_SRC = 4 ∧ u.flag F.RAD_LSTAT_HIT = true)) ∧
    (s.on = true → edge ≤ s.now → Gives (.dutyWindowStart p) s (fun u =>
      u.fld (F.RAD_P_DUSED_US p.val) = vget r.dutyNext p % 2 ^ 32 ∧
      u.radio = { r with dutyAt := vset r.dutyAt p edge, dutyNext := vset r.dutyNext p 0 } ∧ Keeps [(F.RAD_P_DUSED_US p.val).addr] s u)))

/-! ### Mesh -/

/-- SEND: refused by a check of R491 it ends with that check's status, the queues as they were; otherwise its frame is last in the queue of its entry, of
broadcasts or of shared slots, its buffer in QUEUE, one forwarding credit of its entry taken. A RECV or NOTE is handed to its channel. ADMIT of a free
entry writes its address, identifiers and time-source flag, unsynced, with the forwarding credit granted; an entry or address in use ends INUSE. EVICT
of an entry with nothing queued frees it and withdraws its account; of a free one ends NONBR. WAKEREQ without a holiday ends OK with RESULT 0, during
one it is held. PROPOSE within Table 11.7's limits begins a holiday with this node the coordinator, otherwise it ends HBAD. -/
def Obligations.MeshDescriptors : Prop :=
  (∀ (s : State) (d : Desc) (ch : Nat), s.quiet → s.ledger.parity = [] → s.handedTo 5 ch = none → s.offers 5 ch d →
    let t := s.taken 5 ch d
    let i := (s.bufIndex d.buf).getD 0
    let e := d.opd 4
    let a := s.acct (fwd e)
    let f : MFrame := ⟨d, i, 0⟩
    let cmd : Instr := if ch = 2 then .meshRecv else .meshNote
    let code : Nat := if ch = 2 then 0x10 else 0x11
    (ch = 0 → (∀ st, t.sendCheck d = some st → Takes .sendDesc s d (fun u => EndedWith u d st ∧ u.mesh = s.mesh ∧ u.radio = s.radio ∧
        u.ledger = s.ledger)) ∧
      (t.sendCheck d = none → d.mBcast = true → Takes .sendDesc s d (fun u => u.mesh = { s.mesh with bcast := s.mesh.bcast ++ [f] } ∧
        u.bufSt i = .queue ∧ u.ledger = s.ledger)) ∧
      (t.sendCheck d = none → d.mShared = true → Takes .sendDesc s d (fun u => u.mesh = { s.mesh with shared := s.mesh.shared ++ [f] } ∧
        u.bufSt i = .queue ∧ u.ledger = s.ledger)) ∧
      (t.sendCheck d = none → d.unicast = true → a.fits = true → a.g = a.r + a.h + a.f → (a.f = 0 ∨ (s.win (fwd e)).isOpen = true) →
        Takes .sendDesc s d (fun u => (u.nbr e).queue = (s.nbr e).queue ++ [f] ∧ u.bufSt i = .queue ∧
          u.acct (fwd e) = { a with r := a.r - 1, h := a.h + 1 } ∧ (∀ j, j ≠ e → u.nbr j = s.nbr j) ∧ u.live = s.live ∧ u.mem = t.mem))) ∧
    (ch = 2 ∨ ch = 3 →
      (d.slotBad code = false → Takes cmd s d (fun u => u.handedTo 5 ch = some d ∧ u.mesh = s.mesh ∧
        u.live = s.live ∧ u.mem = t.mem)) ∧
      (d.slotBad code = true → Takes cmd s d (fun u => EndedWith u d stBadOp ∧ u.handedTo 5 ch = none ∧
        u.mesh = s.mesh)))) ∧
  (∀ (s : State) (d : Desc), s.quiet → s.ledger.parity = [] → s.offers 5 1 d → d.ctlBadOp = false →
    let e := d.entry
    let a := d.opd 4 % 2 ^ 16
    let c := d.opd 5 / 2 ^ 24
    let used : Prop := s.nbrSt e ≠ 0 ∨ ∃ j, j < 64 ∧ s.nbrSt j ≠ 0 ∧ s.fld (F.NBR_ST_ADDR j) = a
    (d.op = 1 → ¬ used → Takes .meshAdmit s d (fun u => Finished u d stOk 0 ∧ u.nbrSt e = 1 ∧ u.fld (F.NBR_ST_ADDR e) = a ∧
      u.flag (F.NBR_ST_TSRC e) = (d.opd 4).testBit 23 ∧ u.fld (F.NBR_MID_MID e) = d.opd 5 % 2 ^ 24 ∧ u.nbr e = Nbr.empty ∧
      u.acct (fwd e) = ⟨c, c, 0, 0⟩ ∧
      SameRegs [(F.NBR_ST_ADDR e).addr, (F.NBR_MID_MID e).addr, (F.NBR_DRIFT_D e).addr, (F.NBR_SYNC_TICK e).addr] s u)) ∧
    (d.op = 1 → used → Takes .meshAdmit s d (fun u => EndedWith u d msInUse ∧ u.mesh = s.mesh ∧ u.live = s.live ∧ u.ledger = s.ledger)) ∧
    (d.op = 2 → s.nbrSt e ≠ 0 → (s.nbr e).evict = none → s.slotOn e = false → (s.nbr e).queue = [] → Takes .evict s d (fun u =>
      Finished u d stOk 0 ∧ u.nbrSt e = 0 ∧ u.acct (fwd e) = ⟨0, 0, 0, 0⟩ ∧ u.nbr e = Nbr.empty)) ∧
    (d.op = 2 → s.nbrSt e = 0 → Takes .evict s d (fun u => EndedWith u d msNoNbr ∧ u.mesh = s.mesh ∧ u.live = s.live)) ∧
    (d.op = 3 → s.hst = 0 → Takes .wakereq s d (fun u => Finished u d stOk 0 ∧ u.mesh = s.mesh ∧ u.live = s.live)) ∧
    (d.op = 3 → s.hst = 2 ∨ s.hst = 3 → d.uparam = 0 → Takes .wakereq s d (fun u =>
      u.mesh = { s.mesh with held := s.mesh.held ++ [d] } ∧ u.live = s.live)) ∧
    (d.op = 4 → s.proposeOk d = true → Takes .propose s d (fun u => Finished u d stOk (BitVec.ofNat 32 (u.fld F.MSH_HSTAT_HID)) ∧
      u.hst = 1 ∧ u.flag F.MSH_HSTAT_COORD = true ∧ u.fld F.MSH_HCOMMIT_CYCLE = d.opd 4 ∧ u.fld F.MSH_HSTART_CYCLE = d.opd 5 ∧
      u.fld F.MSH_HLEN_N = d.opd 6)) ∧
    (d.op = 4 → s.proposeOk d = false → Takes .propose s d (fun u => EndedWith u d msHbad ∧ u.mesh = s.mesh ∧ u.live = s.live)))

/-- RUN from 0 to 1 lights the radio island; a root runs, another node joins. A stop with nothing queued and nothing on the air takes effect at the slot
boundary: OFF, no slot, no holiday. At a slot boundary SLOT follows mesh time; an RX slot takes the lowest FREE buffer into flight under a SLOT
window, a TX slot its entry's head frame, where the radio is lit and the link controller sends nothing; an RX slot that heard nothing gives its buffer
and its unit back. At a cycle boundary CYCNO follows, and a broken holiday ends. The holiday: the coordinator commits at C_c; at C_s the node sleeps
and the holiday compare channel is written; at C_s + N the schedule resumes and no holiday is left; the end of a flood clears it. A search sends its
lantern once SPER cycles have passed, charged to the window it begins in, and a beacon is due 500 µs after its end; that the beacon is formed when its
time comes is the model's choice (log 143). MSH_CNTCLR clears the four counts. -/
def Obligations.MeshScheduleAndHoliday : Prop :=
  (∀ s : State, s.quiet → s.ledger.parity = [] →
    let k := s.slotAbs
    let w := s.schedWord k
    let e := entryNbr w
    let a := s.acct 0x50
    let sound : Prop := a.fits = true ∧ a.g = a.r + a.h + a.f ∧ (a.f = 0 ∨ (s.win 0x50).isOpen = true)
    let calm : Prop := s.on = true ∧ s.meshRuns = true ∧ s.mesh.stopping = false ∧ s.boundaryDue = true ∧ s.mesh.slot = none ∧
      s.badSlot k = false ∧ s.sealPend .rad = false ∧ s.mesh.step = none ∧ s.mesh.flood = false ∧ s.lit .radio = true ∧ s.linkSends = false ∧
      s.mesh.wide = [] ∧ s.mesh.deaf = [] ∧ vget s.radio.relock (Fin.ofNat 2 (entryBand w)) = false
    let heard : Prop := s.nbrSt e = 1 ∧ s.fld (F.NBR_ST_MISSN e) < s.fld F.MSH_LOST_MISS
    let placed (u : State) : Prop := u.fld F.MSH_STAT_SLOT = k % s.cycLen ∧ u.mesh.slotNo = some k
    (s.steadyRuns = true → s.flag F.MSH_CTL_RUN = false → s.mesh.stopping = false → Gives .meshRunStart s (fun u =>
      u.flag F.MSH_CTL_RUN = true ∧ u.fld F.MSH_STAT_STATE = (if s.flag F.MSH_CTL_ROOT then 2 else 1) ∧
      (s.islandHere .radio = true → (s.island .radio).st = .dark → (u.island .radio).st = .lighting) ∧ SameCore s u)) ∧
    (s.on = true → s.mesh.stopping = true → s.boundaryDue = true → s.flag F.MSH_CTL_RUN = false → s.mesh.slot = none →
      (∀ j, (s.nbr j).queue = []) → s.mesh.bcast = [] → s.mesh.shared = [] → s.mesh.held = [] → s.radio.air = [] → s.hst = 0 →
      Gives .meshRunStop s (fun u => u.fld F.MSH_STAT_STATE = 0 ∧ u.mesh.stopping = false ∧ u.mesh.slotNo = none ∧ u.hst = 0 ∧
        Keeps [F.MSH_STAT_STATE.addr, F.MSH_HSTAT_COORD.addr] s u)) ∧
    (calm → entryType w = 0 → Gives .slotBoundary s (fun u => placed u ∧ u.mesh = { s.mesh with slotNo := some k } ∧
      Keeps [F.MSH_STAT_SLOT.addr] s u)) ∧
    (∀ i, calm → entryType w = 2 → heard → s.lowestFree = some i → sound → 1 ≤ a.r → Gives .slotBoundary s (fun u => placed u ∧
      u.mesh.slot = some { Slot.begin s.slotT0 w with buf := some i } ∧ u.bufSt i = .slot ∧ u.acct 0x50 = { a with r := a.r - 1, f := a.f + 1 } ∧
      (u.win 0x50).slot = (s.win 0x50).slot + 1 ∧ SameRegs [F.MSH_STAT_SLOT.addr] s u ∧ u.mem = s.mem)) ∧
    (∀ f r, calm → entryType w = 1 → heard → s.voteDue e = false → s.mesh.hveto = false → (s.nbr e).queue = f :: r →
      s.fitsSlot (entryBand w) f.desc = true → (s.engRead (f.desc.buf + 8) (f.desc.len - 8)).badStatus = none →
      s.fld (F.RAD_P_DUTY_BUDGET (entryBand w)) = 0 → Effect .slotBoundary s (fun u => placed u ∧
        u.mesh.slot = some { Slot.begin s.slotT0 w with buf := some f.buf, frame := some { f with attempts := f.attempts + 1 }, sent := true } ∧
        (u.nbr e).queue = r ∧ u.bufSt f.buf = .slot)) ∧
    (∀ x i, s.on = true → s.boundaryDue = true → s.mesh.slot = some x → x.frame = none → x.buf = some i → s.bufSt i = .slot → x.synced = true →
      sound → 1 ≤ a.f → (a.f = 1 ∨ 1 < (s.win 0x50).slot) → Gives .slotEnd s (fun u => u.mesh = { s.mesh with slot := none } ∧
        u.bufSt i = .free ∧ u.acct 0x50 = { a with r := a.r + 1, f := a.f - 1 } ∧ (u.win 0x50).slot = (s.win 0x50).slot - 1 ∧
        u.live = s.live ∧ u.mem = s.mem ∧ u.threads = s.threads)) ∧
    (s.on = true → s.flag F.MSH_CTL_RUN = true → s.fld F.MSH_CYCNO_CYCLE ≠ s.cycleNow → s.sealPend .msh = false →
      (s.hst = 0 → exec .cycleBoundary s = .next (s.setFld F.MSH_CYCNO_CYCLE s.cycleNow)) ∧
      (s.hst = 4 → s.mesh.flood = false → Gives .cycleBoundary s (fun u => u.hst = 0 ∧ u.fld F.MSH_CYCNO_CYCLE = s.cycleNow ∧
        u.flag F.MSH_HSTAT_COORD = false)))) ∧
  (∀ (s : State) (e : Fin 64), s.quiet → s.on = true →
    let ch : Fin 16 := Fin.ofNat 16 (s.fld F.MSH_HOL_CH)
    let p := s.searchBand e.val
    let used := F.RAD_P_DUSED_US p
    let em := s.lanternAir p 0 (s.fld F.MSH_LANT_LDUR) false
    let us := inUs em.time
    (s.hst = 1 → s.flag F.MSH_HSTAT_COORD = true → s.cycleReached (s.fld F.MSH_HCOMMIT_CYCLE) = true →
      Gives .holidayCommit s (fun u => u.hst = 2 ∧ u.mesh = s.mesh)) ∧
    (s.hst = 1 ∨ s.hst = 2 → s.cycleReached (s.fld F.MSH_HSTART_CYCLE) = true → s.mesh.slot = none →
      Effect .holidaySleep s (fun u => u.hst = 3 ∧ u.mesh = { s.mesh with beacon := none } ∧ vget u.cmpw ch = vget s.cmpw ch ++ [
        (s.now, .val (BitVec.ofNat 32 (s.cycleTick s.holidayEndCycle + 2 ^ 32 - s.fld F.MSH_HOL_WLEAD))), (s.now, .ctl 0x0B)] ∧
        (∀ n, n ≠ ch → vget u.cmpw n = vget s.cmpw n))) ∧
    (s.hst = 3 → s.cycleReached s.holidayEndCycle = true → s.mesh.held = [] →
      Gives .holidayEnd s (fun u => u.hst = 0 ∧ u.flag F.MSH_HSTAT_COORD = false ∧ u.fld F.MSH_CYCNO_CYCLE = s.cycleNow ∧
        u.mesh = { s.mesh with hveto := false, voteDone := false, flood := false, slotNo := some s.slotAbs })) ∧
    exec .floodEnd s = .next { s with mesh := { s.mesh with flood := false } } ∧
    (s.meshRuns = true → s.nbrSt e.val = 4 → s.fld F.MSH_LOST_SPER ≤ (s.cycleNow + 2 ^ 32 - (s.nbr e.val).lastLantern) % 2 ^ 32 →
      s.slotOwned s.slotAbs = false → s.linkSends = false → s.opOnAir = false → vget s.radio.relock (Fin.ofNat 2 p) = false →
      s.fld (F.RAD_P_DUTY_BUDGET p) = 0 → s.fld used + us < 2 ^ 32 → s.now < s.dutyAt p + s.dutyWindow p →
      Gives (.searchLantern e) s (fun u => (u.nbr e.val).lastLantern = s.cycleNow ∧ u.fld used = s.fld used + us ∧
        u.mesh.beacon = some (p, s.nowU + em.time + 500 * oneUs) ∧ (∃ y ∈ u.radio.air, y.em = em ∧ y.start = s.nowU) ∧
        Keeps [used.addr] s u)) ∧
    (s.steadyRuns = true → Gives .mshCntclr s (fun u => u.fld F.MSH_CNT_DUP = 0 ∧ u.fld F.MSH_CNT_RXSKIP = 0 ∧ u.fld F.MSH_CNT_YIELD = 0 ∧
      u.fld F.MSH_CNT_DUTYSK = 0 ∧ Keeps [F.MSH_CNT_DUP.addr] s u)))

/-- A frame that the receiver does not make out, or too short for a link header, does nothing, and one that failed its check in a shared slot only counts
as heard. A data frame to this node from no neighbour, heard in a shared slot, is delivered: its bytes in the slot's buffer, the buffer SOFT, its unit
held, the RECV complete with the buffer, length and level; from a neighbour whose last LSEQ it repeats, it is only counted. Where it asks for one, the
slot owes an ACK, its ramp-up ACKGAP after the frame's end. That ACK is charged and goes on the air then with the addresses exchanged, the LSEQ kept
and the frame's coding flags, or is skipped and counted where the budget refuses it. An ACK that answers the frame sent gives its buffer and credit
back and completes the SEND with its attempts, one that answers a control frame moves the LSEQ on; any other changes nothing. -/
def Obligations.MeshFrames : Prop :=
  ∀ (s : State) (f : RxFrame) (x : Slot) (i b : Nat) (d : Desc) (g : Heard), s.quiet → s.on = true → s.mesh.slot = some x →
    let l := g.bytes
    let src := leNum l 4 2
    let p := entryBand x.entry
    let a := s.acct 0x50
    let received := s.hear p f = some g
    let heard : Slot := { x with heard := true }
    let after : Slot := if b = 0x20 then { heard with ack := some (s.nowU + s.fld F.MSH_TIM_ACKGAP * oneUs, g.flags, l.take 10) } else heard
    let hears : Prop := received ∧ s.lit .radio = true ∧ s.fld F.MSH_STAT_STATE = 2 ∧ s.meshRuns = true ∧ x.sent = false ∧ x.heard = false ∧
      x.void = false ∧ x.buf = some i ∧ entryType x.entry = 5 ∧ 10 ≤ l.length
    let data : Prop := hears ∧ g.ok = true ∧ (b = 0 ∨ b = 0x20) ∧ (l.getD 0 0).toNat = b ∧ leNum l 6 2 = s.fld F.MSH_ADDR_ADDR ∧
      leNum l 1 3 = s.fld F.MSH_ID_MESHID ∧ s.handedTo 5 2 = some d
    (s.hear p f = none → exec (.meshFrameReceived f) s = .next s ∧ exec (.ackJudge (some f)) s = .next s) ∧
    (received → l.length < 10 → exec (.meshFrameReceived f) s = .next s.fresh) ∧
    (hears → g.ok = false → exec (.meshFrameReceived f) s = .next (s.fresh.setSlot (some heard))) ∧
    (data → s.senderEntry src (leNum l 1 3) = none → l.length ≤ 252 → i < 256 →
      s.fld F.RAD_POOL_BANK < 16 → s.engWrite (s.bufAddr i) l.length = .ok → s.unwatched (s.bufAddr i) l.length → s.ledger.parity = [] →
      a.fits = true → a.g = a.r + a.h + a.f → 1 ≤ a.f → (a.f = 1 ∨ (s.win 0x50).isOpen = true) → Gives (.meshFrameReceived f) s (fun u =>
        u.mem.bytes (s.bufAddr i) l.length = l ∧ u.bufSt i = .soft ∧ u.acct 0x50 = { a with h := a.h + 1, f := a.f - 1 } ∧
        Finished u d stOk (BitVec.ofNat 32 (i + l.length * 0x100 + g.rssi.toNat * 0x1000000)) ∧ u.handedTo 5 2 = none ∧
        u.mesh = { s.mesh with slot := some after } ∧ u.live = s.live)) ∧
    (∀ j, s.senderEntry src (leNum l 1 3) = some j → data → (s.nbr j).rxLseq = some (l.getD 8 0) →
      Gives (.meshFrameReceived f) s (fun u => u.fld F.MSH_CNT_DUP = min 255 (s.fld F.MSH_CNT_DUP + 1) ∧
        u.mesh = { s.mesh with slot := some after } ∧ u.radio = s.radio ∧ Keeps [F.MSH_CNT_DUP.addr] s u)) ∧
    (∀ up fl m, x.ack = some (up, fl, m) → x.void = false →
      let reply := linkHeader 1 false false (leNum m 1 3) (leNum m 6 2) (leNum m 4 2) (m.getD 8 0) (s.ackInfo m)
      let em := s.frameAir p 0 reply (fl.getLsbD 0) (fl.getLsbD 1) (fl.getLsbD 2) (fl.getLsbD 3)
      let us := inUs em.time
      (s.mayTransmit em up = true → Gives .ackSend s (fun u =>
        u.mesh = { s.mesh with slot := some { x with ack := none, ctrl := some reply } } ∧
        (∃ y ∈ u.radio.air, y.em = em ∧ y.start = up ∧ y.us = us) ∧
        (tickOf up < s.dutyAt p + s.dutyWindow p →
          u.fld (F.RAD_P_DUSED_US p) = min (2 ^ 32 - 1) (s.fld (F.RAD_P_DUSED_US p) + us)) ∧ Keeps [(F.RAD_P_DUSED_US p).addr] s u)) ∧
      (s.mayTransmit em up = false → Gives .ackSend s (fun u =>
        u.mesh = { s.mesh with slot := some { x with ack := none, ctrl := none } } ∧
        u.fld F.MSH_CNT_DUTYSK = min 255 (s.fld F.MSH_CNT_DUTYSK + 1) ∧ u.radio = s.radio ∧ Keeps [F.MSH_CNT_DUTYSK.addr] s u))) ∧
    (x.ack = none ∨ x.void = true → exec .ackSend s = .next s) ∧
    (∀ q, x.frame = some q → received → x.sent = true → x.judged = false → x.void = false → q.desc.wantsAck = true →
      let good := s.ackValid p (s.engBytes q.desc.buf 10) g
      (good = true → Effect (.ackJudge (some f)) s (fun u => u.mesh.slot = some { x with judged := true } ∧ u.bufSt q.buf = .free ∧
        Finished u q.desc stOk (BitVec.ofNat 32 (q.attempts % 16)))) ∧
      (good = false → exec (.ackJudge (some f)) s = .next s.fresh)) ∧
    (∀ c, x.ctrl = some c → received → x.frame = none → x.sent = true → x.judged = false → x.void = false → (c.getD 0 0).getLsbD 5 = true →
      let e := entryNbr x.entry
      (s.ackValid p c g = true → Effect (.ackJudge (some f)) s (fun u => u.mesh.slot = some { x with judged := true } ∧
        (u.nbr e).txLseq = (s.nbr e).txLseq + 1)) ∧
      (s.ackValid p c g = false → exec (.ackJudge (some f)) s = .next s.fresh)) ∧
    exec (.ackJudge none) s = .next s

/-! ### Cipher and entropy -/

/-- CLAIM of the free lock gives it to the writer: HELD, OWNER, TOKEN one higher, account 0x51 from R to H. That one before the account's first grant
waits for the island, and that one which finds another waiting does no more than light it, is the model's choice (log 63). RELEASE by the owner frees
the lock and gives the unit back, at once or, where an operation is in hand, after its completion. A claim of a held lock, or a release by another or
of a free lock, does no more than light the island. A zeroisation leaves every slot EMPTY with no key, an operation in hand ends TAMPER, the accounts
post later where the island is dark; a parity fault empties its slot, is recorded, and ends an operation in hand on it KPARITY. The purge mark takes
the keys with records that no slot holds. -/
def Obligations.CipherLockAndZero : Prop :=
  ∀ (s : State) (t : ThreadId) (n : Fin 16) (v : Word) (tamper : Bool), s.quiet → s.has .cipher = true →
    let a := s.acct 0x51
    let sound : Prop := s.ledger.parity = [] ∧ a.fits = true ∧ a.g = a.r + a.h + a.f ∧ (a.f = 0 ∨ (s.win 0x51).isOpen = true)
    let lock := [F.CIP_LOCK_HELD.addr]
    let held := s.flag F.CIP_LOCK_HELD
    let mine : Prop := held = true ∧ s.fld F.CIP_LOCK_OWNER = t.val
    let lit := s.wakeIsland .cipher
    let ends (u : State) (d : Desc) (st : Nat) : Prop := ∀ x ∈ (u.ring d.ring).done, x.idx = d.idx → x.status = st
    (s.steadyRuns = true → held = false → sound → 1 ≤ a.r → Gives (.cipLockClaim t) s (fun u =>
      u.flag F.CIP_LOCK_HELD = true ∧ u.fld F.CIP_LOCK_OWNER = t.val ∧ u.fld F.CIP_LOCK_TOKEN = (s.fld F.CIP_LOCK_TOKEN + 1) % 65536 ∧
      u.acct 0x51 = { a with r := a.r - 1, h := a.h + 1 } ∧ SameRegs lock s u ∧ u.mem = s.mem ∧ u.threads = s.threads)) ∧
    (s.steadyRuns = true → held = false → a.r = 0 → exec (.cipLockClaim t) s =
      .next (if s.cip.claim = none then { lit with cip := { s.cip with claim := some t } } else lit)) ∧
    (s.steadyRuns = true → held = true → exec (.cipLockClaim t) s = .next lit) ∧
    (s.steadyRuns = true → mine → s.cip.waiting = none → s.cip.last = none → sound → 1 ≤ a.h →
      Gives (.cipLockRelease t) s (fun u => u.flag F.CIP_LOCK_HELD = false ∧ u.acct 0x51 = { a with r := a.r + 1, h := a.h - 1 } ∧
        SameRegs lock s u ∧ u.mem = s.mem ∧ u.threads = s.threads)) ∧
    (s.steadyRuns = true → mine → s.cip.waiting ≠ none ∨ s.cip.last ≠ none →
      exec (.cipLockRelease t) s = .next { lit with cip := { s.cip with freeAfter := true } }) ∧
    (s.steadyRuns = true → ¬ mine → exec (.cipLockRelease t) s = .next lit) ∧
    (s.power.vdd = true → tamper = true ∨ s.steadyRuns = true → Effect (.zeroise tamper) s (fun u =>
      (∀ m, u.keySlot m = KeySlot.empty ∧ u.kst m = 0) ∧ u.cip.waiting = none ∧ (tamper = true → u.flag F.CIP_STAT_TZERO = true) ∧
      (∀ d, s.cip.waiting = some d → EndedWith u d csTamper) ∧ (∀ d, s.cip.last = some d → s.cip.waiting = none → ends u d csTamper) ∧
      (s.lit .cipher = false → u.cip.postLater = true ∧ u.ledger = s.ledger))) ∧
    (s.power.vdd = false ∨ (tamper = false ∧ s.steadyRuns = false) → exec (.zeroise tamper) s = .next s) ∧
    (s.on = true → s.lit .cipher = true → Effect (.keyParityFault n) s (fun u =>
      u.keySlot n = KeySlot.empty ∧ u.kst n = 0 ∧ u.flag F.CIP_STAT_PFAULT = true ∧ u.fld F.CIP_STAT_FSLOT = n.val ∧
      (∀ d, s.cip.waiting = some d → if d.keySlot = n then u.cip.waiting = none ∧ EndedWith u d csKParity else u.cip.waiting = some d) ∧
      (∀ d, s.cip.last = some d → s.cip.waiting = none →
        if d.keySlot = n then ends u d csKParity else (u.ring d.ring).done = (s.ring d.ring).done) ∧
      ∀ m, m ≠ n → u.keySlot m = s.keySlot m ∧ u.kst m = s.kst m)) ∧
    (s.on = false ∨ s.lit .cipher = false → exec (.keyParityFault n) s = .next s) ∧
    (s.steadyRuns = true → v.toNat % 256 = 0x96 → Gives (.cipNpurge v) s (fun u =>
      (∀ k, k ∈ u.cip.purge ↔ k ∈ s.liveKcvs ∧ ∀ m, (s.keySlot m).key ≠ [] → (s.keySlot m).kcv ≠ k) ∧
      u = { s with cip := { s.cip with purge := u.cip.purge } })) ∧
    (s.steadyRuns = false ∨ v.toNat % 256 ≠ 0x96 → exec (.cipNpurge v) s = .next s)

/-- A cipher operation that a check of R541 refuses ends with that check's status, as does a KLOAD whose key another slot holds or no record can be had
for. Otherwise KLOAD without a nonce area puts the key in its slot with counter 0 and state LOADED-NN, and wipes its source where asked; KZERO leaves
the slot EMPTY; KRETIRE retires it, with a record first where the slot is LOADED; each ends with RESULT 0. ENC and DEC write the AES of every block
under the slot's key; CCMENC writes nonce, ciphertext and tag, the nonce being the sender identifier and the slot's counter, which moves on, and
RESULT is the counter used; CCMDEC writes the plaintext where the tag is right, else zeros and AUTHFAIL. No byte outside the output changes, and the
operation is the engine's last, whose completion is still to be written. -/
def Obligations.CipherDescriptors : Prop :=
  (∀ (s : State) (d : Desc), s.quiet → s.ledger.parity = [] → s.cip.waiting = none → s.offers 2 0 d → 1 ≤ d.op → d.op ≤ 7 →
    ((s.engView 2 0).cipNeeds d).all (fun e => !e.waits) = true →
    let t := s.taken 2 0 d
    let n := d.keySlot
    let cmd : Instr := match d.op with | 1 => .kload | 2 => .kzero | 3 => .kretire | 4 => .enc | 5 => .dec | 6 => .ccmenc | _ => .ccmdec
    let acctOk : Prop := ∀ m : Fin 16, let a := s.acct (0x60 + m.val)
      a.fits = true ∧ a.g = a.r + a.h + a.f ∧ (a.f = 0 ∨ (s.win (0x60 + m.val)).isOpen = true)
    let slots (u : State) : Prop := ∀ m, m ≠ n → u.keySlot m = s.keySlot m ∧ u.kst m = s.kst m
    (∀ st, t.cipCheck d = some st → Takes cmd s d (fun u => EndedWith u d st ∧ u.cip = s.cip ∧ (st ≠ stMemPar → u.live = s.live) ∧
      u.mem = t.mem ∧ u.ledger = s.ledger)) ∧
    (∀ st, t.keyCheck d = some st → t.cipCheck d = none → s.nonceArea = false → Takes .kload s d (fun u => EndedWith u d st ∧ u.cip = s.cip ∧
      u.mem = t.mem ∧ u.ledger = s.ledger)) ∧
    (t.cipCheck d = none → acctOk →
      (d.op = 1 → s.nonceArea = false → t.keyCheck d = none → plainRam d.buf = true → s.unwatched d.buf d.len → Takes .kload s d (fun u =>
        u.keySlot n = ⟨t.mem.bytes d.buf d.len, 0, none, kcvOf (t.mem.bytes d.buf d.len)⟩ ∧ u.kst n = 3 ∧ Finished u d stOk 0 ∧ slots u ∧
        (d.wipe = true → ∀ k, k < d.len → u.mem.byte (d.buf + k) = 0) ∧ (d.wipe = false → u.mem = t.mem))) ∧
      (d.op = 2 → Takes .kzero s d (fun u => u.keySlot n = KeySlot.empty ∧ u.kst n = 0 ∧ Finished u d stOk 0 ∧ slots u ∧ u.mem = t.mem)) ∧
      (d.op = 3 → s.kst n = 3 → Takes .kretire s d (fun u => u.kst n = 2 ∧ u.keySlot n = s.keySlot n ∧ Finished u d stOk 0 ∧ slots u)) ∧
      (d.op = 3 → s.kst n = 1 → TakesEffect .kretire s d (fun u => u.cip.waiting = some d ∧ u.kst n = 1 ∧
        ∃ r ∈ u.flash.resv, r.slot = n ∧ r.ret = true ∧ r.kcv = (s.keySlot n).kcv)))) ∧
  (∀ (s : State) (d : Desc), s.quiet → s.ledger.parity = [] → s.cip.waiting = none → s.offers 2 0 d →
    ((s.engView 2 0).cipNeeds d).all (fun e => !e.waits) = true → (d.len ≠ 0 → plainRam d.buf = true) → (d.outLen ≠ 0 → plainRam (d.opd 6) = true) →
    (d.ccm = true → d.alen ≠ 0 → plainRam (d.opd 5) = true) →
    let t := s.taken 2 0 d
    t.cipCheck d = none → s.unwatched (d.opd 6) d.outLen →
    let k := s.keySlot d.keySlot
    let text := t.mem.bytes d.buf d.len
    let aad := t.mem.bytes (d.opd 5) d.alen
    let out (u : State) (l : List Byte) : Prop := u.mem.bytes (d.opd 6) l.length = l ∧
      ∀ a, a < d.opd 6 ∨ d.opd 6 + l.length ≤ a → u.mem.byte a = t.mem.byte a
    let plain := ccmStream k.key (text.take 13) ((text.drop 13).take d.pay)
    let tagOk : Prop := ccmTag k.key (text.take 13) aad plain d.mcode d.mlen = text.drop (13 + d.pay)
    let n := beBytes (s.fld F.CIP_SIDHI_SID * 2 ^ 32 + s.fld F.CIP_SIDLO_SID) 8 ++ beBytes k.ctr 5
    let a := s.acct (0x60 + d.keySlot.val)
    let half : Prop := (k.ctr + 1) % 65536 = 0x8000
    let b := s.acct 0x49
    let span : Prop := b.fits = true ∧ b.g = b.r + b.h + b.f ∧ (b.f = 0 ∨ (s.win 0x49).slot ≠ 0 ∨ (s.win 0x49).quiesce = true)
    let last : Cipher := { s.cip with last := some d }
    (d.op = 4 → Takes .enc s d (fun u => out u ((blocksOf text).flatMap (aesEnc k.key)) ∧ Finished u d stOk 0 ∧ u.cip = last ∧ u.live = s.live)) ∧
    (d.op = 5 → Takes .dec s d (fun u => out u ((blocksOf text).flatMap (aesDec k.key)) ∧ Finished u d stOk 0 ∧ u.cip = last ∧ u.live = s.live)) ∧
    (d.op = 6 → k.ctr < 2 ^ 40 → k.reserved (k.ctr / 65536) = true → a.fits = true → a.g = a.r + a.h + a.f →
      (a.f = 0 ∨ (s.win (0x60 + d.keySlot.val)).isOpen = true) → (half → span) → Takes .ccmenc s d (fun u =>
        out u (n ++ ccmStream k.key n text ++ ccmTag k.key n aad text d.mcode d.mlen) ∧ Finished u d stOk (BitVec.ofNat 32 k.ctr) ∧
        u.keySlot d.keySlot = { k with ctr := k.ctr + 1 } ∧ (¬ half → u.live = s.live))) ∧
    (d.op = 7 → tagOk → Takes .ccmdec s d (fun u => out u plain ∧ Finished u d stOk 0 ∧ u.cip = last ∧ u.live = s.live)) ∧
    (d.op = 7 → ¬ tagOk → Takes .ccmdec s d (fun u => out u (List.replicate d.pay 0) ∧ EndedWith u d csAuthFail ∧ u.cip = last)))

/-- The entropy source. Its descriptors wait while READY = 0, and all end HEALTH while it is halted. A good GET or RAW takes its samples: with 41 alike in
a row, or with a window of 1,024 whose first occurs 840 times or more after itself, the source halts with that test's flag and the descriptor ends
HEALTH with nothing written; otherwise it ends OK and writes no byte outside its buffer. That the tests of a descriptor begin with its own samples,
and that HEALTH_FAIL tells of samples no descriptor takes, is the model's choice (log 125). The start-up test sets READY, a failed test halts the
source, RESTART clears both. -/
def Obligations.EntropySource : Prop :=
  ∀ (s : State) (d : Desc) (ad : Bool), s.quiet →
    let t := s.taken 3 0 d
    let cmd : Instr := if d.op = 1 then .get else .raw
    let halted := s.flag F.CIP_ESTAT_HALTED
    let ready := s.flag F.CIP_ESTAT_READY
    let stat := [F.CIP_ESTAT_READY.addr]
    let l := samples s.free (if d.op = 1 then 32 * d.len else 8 * d.len)
    let rep := repFails none 0 l
    let fails := rep || propFails l
    (s.offers 3 0 d → d.op = 1 ∨ d.op = 2 →
      (halted = true → Takes cmd s d (fun u => EndedWith u d esHealth ∧ u.mem = t.mem ∧ u.live = s.live)) ∧
      (halted = false → ready = false → exec cmd s = .next s) ∧
      (halted = false → ready = true → s.entropyCheck d = t.entropyCheck d →
        (∀ st, t.entropyCheck d = some st → Takes cmd s d (fun u => EndedWith u d st ∧ u.mem = t.mem ∧ u.live = s.live)) ∧
        (t.entropyCheck d = none → ((s.engView 3 0).engWrite d.buf d.len).waits = false → plainRam d.buf = true → s.unwatched d.buf d.len →
          Takes cmd s d (fun u =>
            (fails = false → EndedWith u d stOk ∧ (∀ a, a < d.buf ∨ d.buf + d.len ≤ a → u.mem.byte a = t.mem.byte a) ∧ u.live = s.live) ∧
            (fails = true → EndedWith u d esHealth ∧ u.mem = t.mem ∧ u.flag F.CIP_ESTAT_HALTED = true ∧ u.flag F.CIP_ESTAT_READY = false ∧
              u.flag (if rep then F.CIP_ESTAT_RCTFAIL else F.CIP_ESTAT_APTFAIL) = true ∧ SameRegs stat s u))))) ∧
    (∀ x : List Bool, (repFails none 0 x = true ↔ ∃ i, i + 41 ≤ x.length ∧ ∀ k, k < 41 → x.getD (i + k) false = x.getD i false) ∧
      (propFails x = true ↔ ∃ w, 1024 * (w + 1) ≤ x.length ∧ 840 ≤ ((x.drop (1024 * w + 1)).take 1023).count (x.getD (1024 * w) false))) ∧
    (s.entropyRuns = true → Gives .entropyReady s (fun u => u.flag F.CIP_ESTAT_READY = true ∧ Keeps stat s u)) ∧
    (s.entropyRuns = true → Gives (.healthFail ad) s (fun u => u.flag F.CIP_ESTAT_HALTED = true ∧ u.flag F.CIP_ESTAT_READY = false ∧
      u.flag (if ad then F.CIP_ESTAT_APTFAIL else F.CIP_ESTAT_RCTFAIL) = true ∧ Keeps stat s u)) ∧
    (s.steadyRuns = true → s.has .cipher = true → Gives .entropyRestart s (fun u => u.flag F.CIP_ESTAT_HALTED = false ∧
      u.flag F.CIP_ESTAT_READY = false ∧ Keeps stat s u))

/-! ### GNSS -/

/-- A SNAP that no check refuses is in hand; at an epoch boundary after its hand-over it begins, with words 0 to 7 of its record latched; after its last
sample the samples stand in capture RAM, the record at its buffer, and it ends OK with RESULT the bytes captured. That WAITSET begins at the 16th
boundary is the model's choice (log 126). START of an idle channel begins its search, or pulls in at once where the search space is one cell; STOP
leaves it IDLE; both end OK with RESULT 0, and one that a check refuses ends with that status. The buffers of MEAS, NAV and GNSS_NOTE are handed to
their channels. -/
def Obligations.GnssDescriptors : Prop :=
  (∀ (s : State) (d : Desc) (x : Snap) (l : List (BitVec 8)), s.quiet →
    let t := s.taken 6 0 d
    (s.gnss.snap = none → s.gnss.out.any (fun o => o.chan == 0) = false → s.offers 6 0 d →
      (∀ st, t.snapCheck d = some st → Takes .snap s d (fun u => EndedWith u d st ∧ u.gnss = s.gnss ∧ u.live = s.live ∧ u.mem = t.mem)) ∧
      (t.snapCheck d = none → Takes .snap s d (fun u => u.gnss = { s.gnss with snap := some ⟨d, 0, false, 0, []⟩ } ∧ u.live = s.live ∧ u.mem = t.mem))) ∧
    (s.gnss.snap = some x → x.capturing = false → s.gnssDrains = true → s.flag F.GNS_STAT_FERDY = true → 1 ≤ x.waited →
      x.desc.waitSet = false ∨ 16 ≤ x.waited → Gives .snapBegin s (fun u => u.flag F.GNS_STAT_CAPT = true ∧ Keeps [F.GNS_STAT_CAPT.addr] s u ∧
        ∃ w, u.gnss = { s.gnss with snap := some { x with capturing := true, left := x.desc.opd 5, w := w } } ∧ w.length = 8 ∧
          w.getD 1 0 = s.gnss.lastTick ∧ w.getD 3 0 = (vget x.desc.w 4).data ∧ w.getD 6 0 = s.reg F.GNS_EPOCH_EPOCH.addr)) ∧
    (s.gnss.snap = some x → x.capturing = true → x.left = 0 → s.gnssDrains = true → l.length = x.desc.snapBytes →
      x.desc.opd 4 + x.desc.snapBytes ≤ 131072 → s.gnss.out = [] → (s.engView 6 0).engWrite x.desc.buf 32 = .ok → plainRam x.desc.buf = true →
      s.unwatched x.desc.buf 32 → x.desc.buf % 4 = 0 → x.w.length = 8 →
      Gives (.snapEnd l) s (fun u => Finished u x.desc stOk (BitVec.ofNat 32 x.desc.snapBytes) ∧ u.gnss = { s.gnss with snap := none } ∧
        u.mem.bytes (0x28000000 + x.desc.opd 4) l.length = l ∧ (∀ k, k < 8 → u.mem.word (x.desc.buf + 4 * k) = x.w.getD k 0) ∧
        u.flag F.GNS_STAT_CAPT = false ∧ SameRegs [F.GNS_STAT_CAPT.addr] s u))) ∧
  (∀ (s : State) (d : Desc) (ch : Nat), s.quiet → s.handedTo 6 ch = none → s.offers 6 ch d →
    let t := s.taken 6 ch d
    let n : Fin 16 := Fin.ofNat 16 (d.opd 4)
    let track : Instr := if d.op = 1 then .start else .stop
    let cmd : Instr := if ch = 2 then .meas else if ch = 3 then .nav else .gnssNote
    (ch = 1 → d.op = 1 ∨ d.op = 2 →
      (∀ st, t.trackCheck d = some st → Takes track s d (fun u => EndedWith u d st ∧ u.gnss = s.gnss ∧ u.live = s.live ∧ u.mem = t.mem)) ∧
      (t.trackCheck d = none → Takes track s d (fun u => Finished u d stOk 0 ∧
        (u.chan n).st = (if d.op = 2 then .idle else if d.opd 7 % 1024 = 0 ∧ d.opd 7 / 65536 = 0 then .pull else .search) ∧
        (d.op = 1 → (u.chan n).prn = d.opd 4 / 256 % 64 ∧ (u.chan n).bitSync = false ∧ (u.chan n).wordSync = false) ∧
        (∀ m, m ≠ n → u.chan m = s.chan m) ∧ u.live = s.live ∧ u.mem = t.mem))) ∧
    (2 ≤ ch → ch ≤ 4 →
      (∀ st, t.gnssBufCheck ch d = some st → Takes cmd s d (fun u => EndedWith u d st ∧ u.handedTo 6 ch = none ∧ u.gnss = s.gnss)) ∧
      (t.gnssBufCheck ch d = none → Takes cmd s d (fun u => u.handedTo 6 ch = some d ∧ u.live = s.live ∧ u.mem = t.mem ∧
        u.gnss = { s.gnss with navCount := if ch = 3 then 0 else s.gnss.navCount }))))

/-- FERDY begins epoch 0. An epoch boundary with every channel IDLE counts the epoch, takes the gain, and lets the snapshot in hand wait or capture one
more epoch; that one due at the boundary before has begun is the model's choice (log 126). A navigation word whose parity fails the third time running
loses word sync; before word sync a preamble and two words that pass give it, from word 3 on; the parity equations are the model's (log 39). A tick
that held too few or too many TCXO cycles fails the TCXO: the front end stops and every channel is IDLE. -/
def Obligations.GnssEpochsAndWords : Prop :=
  ∀ (s : State) (obs : GnssEpoch) (n : Fin 16) (w : BitVec 30) (d29 d30 : Bool) (sub : BitVec 9) (cycles : Nat), s.quiet → s.gnssUp = true →
    let c := s.chan n
    let pass : Prop := navSyndrome w d29 d30 = 0
    let stat := F.GNS_STAT_FERDY.addr
    let z := s.snapBegin
    let e := z.gnsEdge
    (s.flag F.GNS_FE_EN = true → s.flag F.GNS_STAT_TCXOOK = true → s.flag F.GNS_STAT_FERDY = false → Gives .ferdy s (fun u =>
      u.flag F.GNS_STAT_FERDY = true ∧ u.fld F.GNS_EPOCH_EPOCH = 0 ∧ Keeps [stat, F.GNS_EPOCH_EPOCH.addr] s u)) ∧
    (s.flag F.GNS_STAT_FERDY = true → (∀ m, (s.chan m).st = .idle) → Gives (.epochBoundary obs) s (fun u =>
      u.fld F.GNS_EPOCH_EPOCH = (s.fld F.GNS_EPOCH_EPOCH + 1) % 2 ^ 32 ∧
      u.fld F.GNS_STAT_GAIN = (if e.flag F.GNS_FE_AGCMAN then e.fld F.GNS_FE_GAIN else obs.gain) % 128 ∧ u.gnss.chan = s.gnss.chan ∧
      u.gnss.lastTcxo = obs.tcxoSub ∧ u.gnss.lastTick = s.tick32 ∧
      u.gnss.snap = z.gnss.snap.map (fun x => if x.capturing then { x with left := x.left - 1 } else { x with waited := x.waited + 1 }))) ∧
    (s.flag F.GNS_STAT_FERDY = true → c.st = .pull ∨ c.st = .track → c.bitSync = true →
      (c.wordSync = true → Effect (.navWord n w d29 d30 sub) s (fun u =>
        ((u.chan n).wordSync = true ↔ pass ∨ c.bad ≠ 2) ∧ ((u.chan n).wordSync = true → (u.chan n).word = c.word % 10 + 1) ∧
        (pass → (u.chan n).bad = 0) ∧ ∀ m, m ≠ n → u.chan m = s.chan m)) ∧
      (c.wordSync = false → Gives (.navWord n w d29 d30 sub) s (fun u =>
        ((u.chan n).wordSync = true ↔ c.good = some 1 ∧ pass) ∧ ((u.chan n).wordSync = true → (u.chan n).word = 3) ∧
        (c.good = none → navPreamble w = true → (u.chan n).good = some 0) ∧ ∀ m, m ≠ n → u.chan m = s.chan m))) ∧
    (cycles < 400 ∨ 600 < cycles → Gives (.tcxoFail cycles) s (fun u => u.flag F.GNS_STAT_TCXOFAIL = true ∧
      u.flag F.GNS_STAT_TCXOOK = false ∧ u.flag F.GNS_STAT_FERDY = false ∧ (∀ m, u.chan m = GChan.idle) ∧ u.gnss.snap = none ∧
      (s.ppsState = 1 → u.ppsState = 0) ∧ ((s.ppsState = 2 ∨ s.ppsState = 3) → u.ppsState = 3 ∧ u.flag F.GNS_PPSSTAT_COARSE = true))) ∧
    exec .tcxoReturn s = .next (s.setBit F.GNS_STAT_TCXOOK)

/-- The 1 PPS generator: EN starts it FREE and stops it OFF, the pulse width held within 1 to 200 ms; a FIX write with VALID sets the bound to the
accuracy plus 61 ns at once while LOCKED, and locks at the next edge from FREE, HOLDOVER or EXPIRED; ADJ waits, limited, for the next period; without
a FIX write for TIMEOUT seconds LOCKED falls to HOLDOVER, its periods by the measured drift, and coarse while the TCXO is absent. A pulse in FREE
takes the steered period with the fraction carried. That COARSE stands until a lock, and that EXPIRED locks with no pulse at that edge, is the model's
choice (logs 16, 129). -/
def Obligations.PulseGenerator : Prop :=
  ∀ (s : State) (v : Word) (x : Int), s.quiet →
    let p := s.gnss.pps
    let acts : Prop := s.steadyRuns = true ∧ s.has .gnss = true
    let o := s.ppsOut
    let total : Int := 16368000 * (2 ^ 40 + (s.reg F.GNS_PPSSTEER_STEER.addr).toInt) + p.carry
    (acts → s.lit .gnss = true → s.ppsState = 0 → v.getLsbD 0 = true → Gives (.ppsEnable v) s (fun u => u.ppsState = 1 ∧
      u.flag F.GNS_PPSCTL_EN = true ∧ u.gnss = { s.gnss with pps := Pps.off } ∧ u.fld F.GNS_PPSERR_ERR = 0xFFFFFFFF)) ∧
    (acts → s.ppsState ≠ 0 → v.getLsbD 0 = false → Gives (.ppsEnable v) s (fun u => u.ppsState = 0 ∧ u.flag F.GNS_PPSCTL_EN = false ∧
      u.gnss = { s.gnss with pps := Pps.off } ∧ u.fld F.GNS_PPSERR_ERR = 0xFFFFFFFF)) ∧
    (acts → Gives (.ppsEnable v) s (fun u => 1 ≤ u.fld F.GNS_PPSCTL_WIDTH ∧ u.fld F.GNS_PPSCTL_WIDTH ≤ 200 ∧
      (1 ≤ fldGet v F.GNS_PPSCTL_WIDTH → fldGet v F.GNS_PPSCTL_WIDTH ≤ 200 → u.fld F.GNS_PPSCTL_WIDTH = fldGet v F.GNS_PPSCTL_WIDTH))) ∧
    (acts → v.getLsbD 31 = true → s.ppsState = 2 → Gives (.ppsFix v) s (fun u =>
      u.gnss = { s.gnss with pps := { p with bound := (v.toNat % 65536 + 61) * 256, sinceFix := 0 } } ∧
      u.fld F.GNS_PPSERR_ERR = v.toNat % 65536 + 61 ∧ Keeps [F.GNS_PPSERR_ERR.addr] s u)) ∧
    (acts → v.getLsbD 31 = true → s.ppsState ≠ 0 → s.ppsState ≠ 2 →
      exec (.ppsFix v) s = .next (s.setPps { p with fix := some (v.toNat % 65536 + 61), sinceFix := 0 })) ∧
    (acts → v.getLsbD 31 = false ∨ s.ppsState = 0 → exec (.ppsFix v) s = .next s) ∧
    (acts → exec (.ppsAdj v) s = .next (s.setPps { p with adj := max (-8184000) (min 8184000 v.toInt) })) ∧
    (∀ b, s.gnssUp = true → p.fix = some b → s.ppsState = 1 ∨ s.ppsState = 3 ∨ s.ppsState = 4 → Gives (.ppsPulse x) s (fun u => u.ppsState = 2 ∧
      u.fld F.GNS_PPSERR_ERR = min 0xFFFFFFFE b ∧ u.gnss.pps.bound = b * 256 ∧ u.gnss.pps.fix = none ∧ u.flag F.GNS_PPSSTAT_COARSE = false ∧
      (s.ppsState ≠ 4 → u.gnss.pps.edge = some s.timeBase.toNat))) ∧
    (s.gnssUp = true → p.fix = none → s.ppsState = 1 →
      exec (.ppsPulse x) s = .next (o.setPps { p with edge := some s.timeBase.toNat, period := total / 2 ^ 40 + p.adj, carry := total % 2 ^ 40, adj := 0 })) ∧
    (s.gnssUp = true → p.fix = none → s.ppsState = 3 → s.fld F.GNS_HLIM_LIMIT = 0 → Gives (.ppsPulse x) s (fun u =>
      let b := p.bound + (if s.flag F.GNS_PPSSTAT_HVALID then s.fld F.GNS_HUNC_U else 20000) * 256 + s.fld F.GNS_HCTL_WANDER * (p.n + 1)
      u.ppsState = 3 ∧ u.gnss.pps.bound = b ∧ u.gnss.pps.n = p.n + 1 ∧ u.fld F.GNS_PPSERR_ERR = min 0xFFFFFFFE (b / 256))) ∧
    (s.gnssUp = true → s.ppsState = 2 → s.fld F.GNS_HCTL_TIMEOUT ≤ p.sinceFix → Gives .holdoverEntry s (fun u =>
      let b := if s.flag F.GNS_STAT_TCXOOK then p.bound else p.bound + 30518 * 256
      let drift : Int := if s.flag F.GNS_PPSSTAT_HVALID then (s.reg F.GNS_HDRIFT_DRIFT.addr).toInt else 0
      u.ppsState = 3 ∧ u.gnss = { s.gnss with pps := { p with n := 0, periods := [], bound := b, period := 32768 * (2 ^ 40 + drift) } } ∧
      u.fld F.GNS_PPSERR_ERR = min 0xFFFFFFFE (b / 256) ∧ u.fld F.GNS_PPSSTAT_HSEC = 0 ∧
      (s.flag F.GNS_STAT_TCXOOK = false → u.flag F.GNS_PPSSTAT_COARSE = true)))

/-! ### Clocked serial port -/

/-- The bits of a frame form units in words of WSIZE bits, most significant bit first, the first word of a unit least significant; SDO sends the STATUS
unit, then the read buffer, in the same words. The older of the frames in the port is judged: one with bits left over is discarded and counted; a
refused one changes nothing but RES, FSEQ and the read buffer; KIND 0x5 to 0xF is refused with CMD, as a frame of no unit is, which is the model's
choice (log 19). A committed WRITE stores its units tagged RAW, a READ fills the read buffer, a RECORD fills the handed descriptor's buffer and
completes it, a GO starts thread 0 in warden mode at its address, a NOP does no more than count. SSEL falling with the slave enabled begins a frame
and takes the STATUS unit and the read buffer; a frame in progress has ended by then and is being committed, and where both buffers are occupied the
new one is discarded and counted. A CHAN 0 descriptor is handed, or refused. A master transfer that no check refuses asserts its select, sends its
source and receives, in words of the select's WSIZE with the most significant bit first; it stays in progress until its bits are all there, which is
how the model takes its operand (log 20), then stores what it received and ends OK with RESULT its length, its select kept where it asks; DROP lets a
kept select go. CSP_SCLR clears the discard count. -/
def Obligations.SerialPort : Prop :=
  (∀ (s : State) (f : HostFrame) (k : Nat), s.quiet → s.on = true → s.steadyUp = true → s.csp.inFrame = true ∨ s.csp.committing ≠ none →
    (frameKind (slaveFrame s.slaveBits f)).getD 5 = k →
    let g := slaveFrame s.slaveBits f
    let w := s.slaveBits
    let place (p : Nat) : Nat := p / w * w + (w - 1 - p % w)
    let shown : Word × List Word := s.csp.committing.getD (s.csp.status, s.csp.offer)
    let left : Csp := if s.csp.committing = none then { s.csp with inFrame := false } else { s.csp with committing := none }
    let sent (u : State) : Prop := u.csp.sdo.length = f.bits.length ∧ ∀ p, p < f.bits.length → u.csp.sdo.getD p false =
      (if p / 32 = 0 then shown.1 else shown.2.getD (p / 32 - 1) 0).getLsbD (place (p % 32))
    let cmd : Instr := match k with | 0 => .nop f | 1 => .write f | 2 => .read f | 3 => .record f | 4 => .go f | _ => .reservedKindFrame f
    let stat := F.CSP_SSTAT_RES.addr
    let n := frameCount g
    let a := frameAddr g
    let judged (u : State) (res : Nat) : Prop := u.fld F.CSP_SSTAT_RES = res ∧
      u.fld F.CSP_SSTAT_FSEQ = (s.fld F.CSP_SSTAT_FSEQ + 1) % 256 ∧ u.csp.inFrame = left.inFrame ∧ u.csp.committing = none ∧ sent u
    let stored (u : State) (at' : Nat) (l : List Word) : Prop := (∀ i, i < n → u.mem.tword (at' + 4 * i) = ⟨l.getD i 0, .raw⟩) ∧
      ∀ b, b < at' ∨ at' + 4 * n ≤ b → u.mem.byte b = s.mem.byte b
    let okay : Prop := f.bits.length % 32 = 0 ∧ s.frameRes g k = resOk
    (w = (match s.fld F.CSP_SCFG_WSIZE with | 0 => 8 | 1 => 16 | _ => 32) ∧ g.units.length = f.bits.length / 32 ∧
      (∀ i p, i < f.bits.length / 32 → p < 32 → (g.units.getD i 0).getLsbD (place p) = f.bits.getD (32 * i + p) false)) ∧
    (f.bits.length % 32 ≠ 0 → Gives cmd s (fun u => sent u ∧ u.csp = { left with sdo := u.csp.sdo } ∧
      u.fld F.CSP_SSTAT_DISC = min 255 (s.fld F.CSP_SSTAT_DISC + 1) ∧ Keeps [stat] s u)) ∧
    (f.bits.length % 32 = 0 → s.frameRes g k ≠ resOk → s.frameRes g k ≠ resNoBuf → Gives cmd s (fun u => judged u (s.frameRes g k) ∧
      u.csp.rbuf = none ∧ u.flag F.CSP_SSTAT_RBUF = false ∧ Keeps [stat] s u)) ∧
    (f.bits.length % 32 = 0 → s.frameRes g k = resNoBuf → Gives cmd s (fun u => judged u resNoBuf ∧ u.csp.rbuf = none ∧
      u.flag F.CSP_SSTAT_RBUF = false)) ∧
    (5 ≤ k → s.frameRes g k = resCmd) ∧
    (okay → k = 0 → Gives cmd s (fun u => judged u resOk ∧ Keeps [stat] s u)) ∧
    (okay → k = 1 → s.unwatched a (4 * n) → Gives cmd s (fun u => judged u resOk ∧ stored u a (g.units.drop 2) ∧ SameRegs [stat] s u ∧
      u.threads = s.threads ∧ u.ledger = s.ledger)) ∧
    (okay → k = 2 → Gives cmd s (fun u => judged u resOk ∧ u.csp.rbuf = some ((List.range n).map (fun i => s.mem.word (a + 4 * i))) ∧
      u.flag F.CSP_SSTAT_RBUF = true ∧ Keeps [stat] s u)) ∧
    (∀ d, okay → k = 3 → s.handedTo 7 0 = some d → plainRam d.buf = true → d.buf % 4 = 0 → s.unwatched d.buf (4 * n) →
      Gives cmd s (fun u => judged u resOk ∧ stored u d.buf (g.units.drop 1) ∧ Finished u d stOk (BitVec.ofNat 32 (4 * n)) ∧
        u.handedTo 7 0 = none ∧ SameRegs [stat] s u)) ∧
    (okay → k = 4 → Gives cmd s (fun u => judged u resOk ∧ (u.thr 0).st = .run ∧ (u.thr 0).mode = true ∧ (u.thr 0).pc = BitVec.ofNat 32 a ∧
      (u.thr 0).get 1 = ⟨BitVec.ofNat 32 a, .code⟩ ∧ u.flag F.CSP_SSTAT_RECOVERY = false ∧ u.boot = .done ∧ u.mem = s.mem ∧
      ∀ t, t ≠ 0 → u.thr t = s.thr t))) ∧
  (∀ (s : State) (d : Desc) (l : List Bool), s.quiet →
    let r := s.taken 7 0 d
    let t := s.taken 7 1 d
    let c := s.csp
    let w := 8 * s.cspWord d.csel
    let place (p : Nat) : Nat := p / w * w + (w - 1 - p % w)
    let status := s.fld F.CSP_SSTAT_RES + s.fld F.CSP_SSTAT_FSEQ * 2 ^ 8 + s.fld F.CSP_SMAIL_MAIL * 2 ^ 16
    let begun : Csp := { c with inFrame := true, status := BitVec.ofNat 32 status, offer := c.rbuf.getD [] }
    let disc (u : State) : Prop := u.fld F.CSP_SSTAT_DISC = min 255 (s.fld F.CSP_SSTAT_DISC + 1) ∧ Keeps [F.CSP_SSTAT_DISC.addr] s u
    let over' (m : Memory) (o : List Byte) (b : List Bool) (u : State) : Prop := Finished u d stOk (BitVec.ofNat 32 d.len) ∧
      u.csp = { c with kept := if d.keep then some d.csel else none, xfer := none, sdo := u.csp.sdo } ∧ u.csp.sdo.length = 8 * d.len ∧
      (∀ p, p < 8 * d.len → u.csp.sdo.getD p false = (o.getD (place p / 8) 0).getLsbD (place p % 8)) ∧
      (d.opd 4 = 0 → u.mem = m) ∧ (d.opd 4 ≠ 0 →
        (∀ p, p < 8 * d.len → (u.mem.byte (d.opd 4 + p / 8)).getLsbD (p % 8) = b.getD (place p) false) ∧
        ∀ a, a < d.opd 4 ∨ d.opd 4 + d.len ≤ a → u.mem.byte a = m.byte a)
    (s.on = true → s.lit .steady = true → s.cspSlave = true →
      (c.inFrame = false → Gives .sselFall s (fun u => u.csp = begun ∧ Keeps [] s u)) ∧
      (c.inFrame = true → c.committing = none → Gives .sselFall s (fun u =>
        u.csp = { begun with committing := some (c.status, c.offer) } ∧ Keeps [] s u)) ∧
      (c.inFrame = true → c.committing ≠ none → Gives .sselFall s (fun u => u.csp = { c with shut := true } ∧ Keeps [] s u))) ∧
    (s.on = true → s.steadyUp = true →
      (c.shut = true → Gives .frameDiscard s (fun u => u.csp = { c with shut := false } ∧ disc u)) ∧
      (c.shut = false → c.inFrame = true → Gives .frameDiscard s (fun u => u.csp = { c with inFrame := false, sdo := [] } ∧ disc u))) ∧
    (s.handedTo 7 0 = none → s.offers 7 0 d →
      (∀ st, r.cspRecvCheck d = some st → Takes .cspRecv s d (fun u => EndedWith u d st ∧ u.handedTo 7 0 = none)) ∧
      (r.cspRecvCheck d = none → Takes .cspRecv s d (fun u => u.handedTo 7 0 = some d ∧ u.live = s.live ∧ u.mem = r.mem))) ∧
    (c.xfer = none → s.nextXfer = some d → s.descBad d = false →
      (∀ st, t.xferCheck d = some st → Takes (.xfer l) s d (fun u => EndedWith u d st ∧ u.csp = c ∧ u.mem = t.mem)) ∧
      (t.xferCheck d = none → (t.xferSource d).waits = true → Takes (.xfer l) s d (fun u => u.csp = { c with xfer := some ⟨d, none, []⟩ })) ∧
      (t.xferCheck d = none → (t.xferSource d).waits = false → l.length < 8 * d.len → Takes (.xfer l) s d (fun u =>
        u.csp = { c with xfer := some ⟨d, some (t.xferBytes d), l⟩ } ∧ u.mem = t.mem)) ∧
      (t.xferCheck d = none → (t.xferSource d).waits = false → 8 * d.len ≤ l.length → s.unwatched (d.opd 4) d.len →
        Takes (.xfer l) s d (over' t.mem (t.xferBytes d) l))) ∧
    (∀ o b, c.xfer = some ⟨d, some o, b⟩ → s.engineUp 7 = true → o.length = d.len → d.len % s.cspWord d.csel = 0 →
      ((b ++ l).length < 8 * d.len → exec (.xfer l) s = .next { s with csp := { c with xfer := some ⟨d, some o, b ++ l⟩ } }) ∧
      (8 * d.len ≤ (b ++ l).length → s.unwatched (d.opd 4) d.len → Gives (.xfer l) s (over' s.mem o (b ++ l)))) ∧
    (s.steadyRuns = true → s.has .csp = true → exec .drop s = .next { s with csp := { c with kept := none } } ∧
      exec .cspSclr s = .next (s.clrFld F.CSP_SSTAT_DISC)))

/-! ### Tag bus -/

/-- A line whose table lies in system SRAM is enabled with an empty table and signature, its fobs powered now; another address leaves it off. A CHECK of
an armed fob gives presence, a right code and the code, of an absent one 0, and ends a presence check in progress; a SEARCH of an empty line with an
empty table ends OK with no identity, SSEQ one higher; one of a line with one armed fob finds it: its record in the RECV's buffer, its entry in the
table, the signature its slot. A RECV is handed. A presence check that finds other slots than the signature sets PCHG; one that meets a search is
deferred and counted. That a CHECK checks once, that 2 ms are 66 ticks, and that checks which fell due meanwhile are one, is the model's choice (logs
22, 23, 117). A search that paused for want of a buffer goes on once a RECV is handed: one with nothing left to do ends OK with its RESULT; without a
buffer for one second it ends NODELTA; either way PAUSED and BUSY clear and no search is in hand. -/
def Obligations.TagBus : Prop :=
  (∀ (s : State) (l : Fin 4) (d r : Desc) (f : Fob) (id : BitVec 64) (code : BitVec 8), s.quiet →
    let x := s.line l
    let on := F.TAG_LCFG_EN l.val
    let lstat := (F.TAG_LSTAT_COUNT l.val).addr
    let psig := F.TAG_PSIG_SIG l.val
    let per := max 1 (s.fld (F.TAG_PRES_PER l.val)) * 32768
    let t := s.taken 8 1 d
    let takes (i : Instr) (P : State → Prop) : Prop := s.tag.walk = none → s.offers 8 0 d → s.lineOn d.tagLine = true →
      66 ≤ s.now - (s.line d.tagLine).since → s.tagCheck d = none → d.tagLine = l → s.presDue l = false → x.undriven = false → Takes i s d P
    let armed : Prop := f.armed = true ∨ 66 ≤ s.now - f.since
    let at' := s.tableAt l
    let n := (s.sseq l + 1) % 65536
    let check : Word := BitVec.ofNat 32 f.code.toNat
    let inRam (a : Nat) : Prop := 0x20000000 ≤ a ∧ a + 16 ≤ 0x20100000 ∧ a % 4 = 0 ∧ s.unwatched a 16
    let words (u : State) (a : Nat) (w : List Word) : Prop := ∀ k, k < 4 → u.mem.tword (a + 4 * k) = ⟨w.getD k 0, .int⟩
    (s.tagWrites = true → s.lineOn l = false → 0x20000000 ≤ s.tableAt l → s.tableAt l + 1024 ≤ 0x20100000 → Gives (.lineEnable l) s (fun u =>
      u.lineOn l = true ∧ u.tableCount l = 0 ∧ u.fld psig = 0 ∧ (u.line l).since = s.now ∧
      (u.line l).fobs = x.fobs.map (fun f => { f with since := s.now, armed := false }) ∧ Keeps [on.addr, lstat, psig.addr] s u)) ∧
    (s.tagWrites = true → s.lineOn l = false → s.tableAt l < 0x20000000 ∨ 0x20100000 < s.tableAt l + 1024 →
      exec (.lineEnable l) s = .next s) ∧
    exec (.fobAttached l id code) s = .next (s.setLine l { x with fobs := x.fobs ++ [⟨id, code, s.now, false⟩] }) ∧
    exec (.fobRemoved l id) s = .next (s.setLine l { x with fobs := x.fobs.filter (fun f => f.id != id) }) ∧
    (d.op = 2 → x.fobs = [f] → x.pres = none → takes (.check []) (fun u =>
      let here : Prop := f.id = (vget d.w 6).data ++ (vget d.w 5).data ∧ armed
      (here → Finished u d stOk (BitVec.ofNat 32 (1 + (if f.code = checkCode f.id then 2 else 0) + f.code.toNat * 256))) ∧
      (¬ here → Finished u d stOk 0) ∧ u.live = s.live)) ∧
    (∀ p, x.pres = some p → d.op = 2 → 2 ≤ p.left.length → p.noise = [] → takes (.check []) (fun u => (u.line l).pres = none ∧
      u.fld (F.TAG_PSIG_PDEF l.val) = min 255 (s.fld (F.TAG_PSIG_PDEF l.val) + 1))) ∧
    (d.op = 1 → x.fobs = [f] → x.pres = none → armed → f.code = checkCode f.id → s.tableCount l = 0 → s.tag.written = 0 →
      s.handedTo 8 1 = some r → 32 ≤ r.len → inRam at' → inRam r.buf → (r.buf + 16 ≤ at' ∨ at' + 16 ≤ r.buf) →
      takes (.search []) (fun u => u.tag.walk = none ∧ u.fld psig = 2 ^ (f.id.toNat / 2 ^ 62) ∧ u.sseq l = n ∧ u.tableCount l = 1 ∧
        words u at' [f.id.extractLsb' 0 32, f.id.extractLsb' 32 32, check, BitVec.ofNat 32 n] ∧
        words u r.buf [BitVec.ofNat 32 (1 + l.val * 16 + 32 * 64 + n * 65536), f.id.extractLsb' 0 32, f.id.extractLsb' 32 32, check] ∧
        Finished u d stOk (BitVec.ofNat 32 (0x101 + n * 65536)) ∧ Finished u r stOk 1)) ∧
    (d.op = 1 → x.fobs = [] → x.pres = none → s.tableCount l = 0 → s.tag.written = 0 → takes (.search []) (fun u => u.tag.walk = none ∧ u.fld psig = 0 ∧
      u.sseq l = n ∧ Finished u d stOk (BitVec.ofNat 32 (n * 65536)) ∧ u.threads = s.threads)) ∧
    (s.handedTo 8 1 = none → (∀ w, s.tag.walk = some w → s.now - w.pausedAt < 32768) → s.offers 8 1 d →
      (∀ st, t.tagRecvCheck d = some st → Takes .tagRecv s d (fun u => EndedWith u d st ∧ u.handedTo 8 1 = none)) ∧
      (t.tagRecvCheck d = none → Takes .tagRecv s d (fun u => u.handedTo 8 1 = some d ∧ u.tag = { s.tag with written := 0 } ∧ u.live = s.live))) ∧
    (s.steadyRuns = true → s.has .tag = true → s.lineOn l = true → s.flag (F.TAG_PRES_EN l.val) = true → x.presDue ≤ s.now * 100 →
      66 ≤ s.now - x.since → x.pres = none →
      ((∀ w, s.tag.walk = some w → w.line ≠ l) → s.flag (F.TAG_PRES_VERIFY l.val) = false → x.fobs = [] → Effect (.presenceCheck l []) s (fun u =>
        u.flag (F.TAG_LSTAT_PCHG l.val) = (s.flag (F.TAG_LSTAT_PCHG l.val) || s.fld psig != 0) ∧ (u.line l).pres = none ∧
        (u.line l).presDue = x.presDue + ((s.now * 100 - x.presDue) / per + 1) * per)) ∧
      (∀ w, s.tag.walk = some w → w.line = l → x.deferred = false → Gives (.presenceCheck l []) s (fun u =>
        u.fld (F.TAG_PSIG_PDEF l.val) = min 255 (s.fld (F.TAG_PSIG_PDEF l.val) + 1) ∧ (u.line l).deferred = true ∧ Keeps [psig.addr] s u)) ∧
      (∀ w, s.tag.walk = some w → w.line = l → x.deferred = true → exec (.presenceCheck l []) s = .next s))) ∧
  (∀ (s : State) (w : TagWalk), s.quiet → s.on = true → s.steadyUp = true → s.tag.walk = some w → s.tag.written = 0 →
    let ended (u : State) : Prop := u.tag = { s.tag with walk := none } ∧ u.flag (F.TAG_LSTAT_PAUSED w.line.val) = false ∧
      u.fldBit F.TAG_STAT_BUSY w.line.val = false ∧ SameCore s u
    (s.handedTo 8 1 ≠ none → w.out = [] → w.stack = [] → w.recon = some [] → w.found.length < 256 → w.posted < 256 →
      Gives .searchResume s (fun u => ended u ∧ u.fld (F.TAG_PSIG_SIG w.line.val) = w.sig.toNat ∧
        Finished u w.desc stOk (BitVec.ofNat 32 (w.found.length + w.posted * 256 + s.sseq w.line * 65536)))) ∧
    (s.handedTo 8 1 = none → 32768 ≤ s.now - w.pausedAt → Gives .searchPauseTimeout s (fun u => ended u ∧ EndedWith u w.desc tsNoDelta)))

/-! ### Bolts, tamper loops, pins -/

/-- A MOVE that no check refuses drives its bridge, or ends OK at once where its end stop is active. A driving bridge brakes with STALL after STALLT ms of
samples at or above STALLI, with TIMEOUT after TIMEOUT ms, and with OK at its end stop; when it has braked for BRAKE ms the MOVE completes with drive
time and peak current. 2 A or a supply below 2.7 V ends it at once, the bridge coasting. That bolt 0 takes first, that a stall counts before a timeout
of the same period, and the RESULT of the two ends at once, are the model's choice (logs 42, 127). An enabled loop sends its next chip, PER ticks or
more after the last: a sample that follows it clears the mismatches, and FAILN mismatches in a row trip the loop, which is latched and, with ZERO set,
empties every key slot. Re-arming clears the trip and starts the pattern from SEED. A notice descriptor is handed. -/
def Obligations.BoltsAndTamperLoops : Prop :=
  (∀ (s : State) (b : Fin 2) (d : Desc) (x : Bridge) (i : Byte) (ma : Nat) (e : Fin 4), s.quiet →
    let t := s.taken 9 b.val d
    let x0 := s.brg b
    let others (u : State) : Prop := (∀ c, c ≠ b → u.brg c = s.brg c) ∧ u.mem = s.mem ∧ u.threads = s.threads ∧ u.ledger = s.ledger
    let result (p : Nat) : Word := BitVec.ofNat 32 (min 65535 (x.periods / 25) + min 255 p * 65536)
    let braked (c : Instr) (y : Bridge) (st : Nat) : Prop :=
      Gives c s (fun u => u.brg b = { y with st := .brake, status := st, since := s.timeBase.toNat } ∧ u.fldBit F.BTS_STAT_MOVING b.val = true ∧
        others u)
    (s.offers 9 b.val d → x0.desc = none → (b = 1 → s.nextMove 0 = none) →
      (∀ st, t.moveCheck b d = some st → Takes .move s d (fun u => EndedWith u d st ∧ u.bridge = s.bridge)) ∧
      (t.moveCheck b d = none → s.endActive (2 * b.val + d.dir) = true → Takes .move s d (fun u =>
        Finished u d stOk (BitVec.ofNat 32 (2 ^ 24)) ∧ u.bridge = s.bridge)) ∧
      (t.moveCheck b d = none → s.endActive (2 * b.val + d.dir) = false → Takes .move s d (fun u => u.brg b = ⟨.drive, some d, 0, 0, 0, 0, 0⟩ ∧
        u.fldBit F.BTS_STAT_MOVING b.val = true ∧ SameRegs [F.BTS_STAT_MOVING.addr] s u))) ∧
    (s.boltUp = true → x0 = x → x.desc = some d → x.st = .drive → 1 ≤ d.stallT →
      (d.stallI ≤ i.toNat → d.blank * 25 ≤ x.periods → x.run = 0 → x.periods + d.stallT * 25 ≤ d.timeout * 25 →
        braked (.stall b (List.replicate (d.stallT * 25) i))
          { x with periods := x.periods + d.stallT * 25, run := d.stallT * 25, peak := max x.peak i.toNat } bsStall) ∧
      (i.toNat < d.stallI → x.periods < d.timeout * 25 → braked (.moveTimeout b (List.replicate (d.timeout * 25 - x.periods) i))
        { x with periods := d.timeout * 25, run := 0, peak := max x.peak i.toNat } bsTimeout) ∧
      (e.val = 2 * b.val + d.dir → i.toNat < d.stallI →
        braked (.endStop e (if s.fldBit F.BTS_CTL_ESPOL e.val then 0xFF else 0) [i])
          { x with periods := x.periods + 1, run := 0, peak := max x.peak i.toNat } stOk)) ∧
    (s.boltUp = true → x0 = x → x.desc = some d →
      (x.st = .brake → x.since + d.brakeMs * 32768 * 65536 / 1000 ≤ s.timeBase.toNat → Gives (.brakeEnd b) s (fun u => u.brg b = Bridge.coast ∧
        Finished u d x.status (result x.peak) ∧ others u)) ∧
      (x.st ≠ .coast → 2000 ≤ ma → Gives (.overcur b ma) s (fun u => u.brg b = Bridge.coast ∧
        Finished u d bsOvercur (result (max x.peak (ma / 8))) ∧ others u)) ∧
      (x.st = .drive → (∀ c, c ≠ b → (s.brg c).st ≠ .drive) → Gives (.vmotlow true) s (fun u => u.flag F.BTS_STAT_VMOTLOW = true ∧
        u.brg b = Bridge.coast ∧ Finished u d bsVmotLow (result x.peak) ∧ others u))) ∧
    (s.boltUp = true → Gives (.vmotlow false) s (fun u => u.flag F.BTS_STAT_VMOTLOW = false ∧ Keeps [F.BTS_STAT_VMOTLOW.addr] s u))) ∧
  (∀ (s : State) (n : Fin 8) (smp : Bool) (v : Word) (d : Desc), s.quiet →
    let x := s.tloop n
    let live : Prop := s.power.vdd = true ∧ s.has .bts = true ∧ s.fldBit F.BTS_TEN_EN n.val = true ∧ s.fldBit F.BTS_TSTAT_TRIP n.val = false ∧
      x.due ≤ s.now
    let due := s.now + s.fld F.BTS_TPER_PER
    let p := x.s
    let next : BitVec 16 := BitVec.cons (p.getLsbD 0 ^^ p.getLsbD 2 ^^ p.getLsbD 3 ^^ p.getLsbD 5) (p.extractLsb' 1 15)
    (live → 1 ≤ s.fld F.BTS_TPER_FAILN →
      (smp = x.s.getLsbD 0 → exec (.tamperChip n smp) s = .next (s.setTloop n ⟨next, 0, x.chips + 1, due⟩)) ∧
      (smp ≠ x.s.getLsbD 0 → x.miss + 1 < s.fld F.BTS_TPER_FAILN →
        exec (.tamperChip n smp) s = .next (s.setTloop n ⟨next, x.miss + 1, x.chips + 1, due⟩)) ∧
      (smp ≠ x.s.getLsbD 0 → s.fld F.BTS_TPER_FAILN ≤ x.miss + 1 →
        Effect (.tamperChip n smp) s (fun u => u.fldBit F.BTS_TSTAT_TRIP n.val = true ∧ u.flag F.CAL_TSRC_VALID = true ∧
          (s.flag F.CAL_TSRC_VALID = false → u.fld F.CAL_TSRC_LOOP = n.val) ∧
          (s.flag (F.BTS_TCFG_ZERO n.val) = true → s.has .cipher = true → ∀ m, u.kst m = 0 ∧ u.keySlot m = KeySlot.empty)))) ∧
    (¬ live → exec (.tamperChip n smp) s = .next s) ∧
    (s.btsWrites = true → (∀ m : Fin 8, v.getLsbD m.val = (m == n)) → s.fldBit F.BTS_TEN_EN n.val = true → Gives (.loopRearm v) s (fun u =>
      u.fldBit F.BTS_TSTAT_TRIP n.val = false ∧ u.tloop n = ⟨BitVec.ofNat 16 (s.fld (F.BTS_TCFG_SEED n.val)), 0, 0, s.now⟩ ∧
      (∀ m, m ≠ n → u.tloop m = s.tloop m) ∧ Keeps [F.BTS_TSTAT_TRIP.addr] s u)) ∧
    (s.handedTo 9 2 = none → s.offers 9 2 d → d.op = 0x10 → d.uflags = 0 → d.uparam = 0 → d.lenTop = 0 → d.buf = 0 → d.len = 0 → d.opd 4 = 0 →
      d.opd 5 = 0 → d.opd 6 = 0 → d.opd 7 = 0 → Takes .tamperNoticeDesc s d (fun u => u.handedTo 9 2 = some d ∧ u.live = s.live)))

/-- PIN_SET sets and PIN_CLR clears the named output bits, and with no edge selected nothing else changes. The world puts a level on a pad: where the
level of the pin changes, and its EDGE field selects the change on a pin that is not disabled, its PIN_EDGE bit is set; a pin with its alternate
function feeds the counters; otherwise only the pad changes. A write to PIN_CFG takes its value, and a level change that it causes itself is no edge:
nothing else changes but the level at which an undriven pad floats, and the snuff hold where it arms the pin; that it feeds no counter is the model's
choice (log 81). -/
def Obligations.PinsAndEdges : Prop :=
  ∀ (s : State) (v : Word) (n : Fin 24) (level : Bool), s.quiet →
    let m : BitVec 24 := 1#24 <<< n.val
    let cfg := 0x40010100 + 4 * n.val
    let moved : State := { s with pads := if level then s.pads ||| m else s.pads &&& ~~~m, driven := s.driven ||| m }
    let edge := s.fld (F.PIN_CFG_EDGE n.val)
    let func := s.pinFunc n.val
    let now := moved.padLevel n.val
    let fed : State := if func = 2 then moved.cntinEdge (n.val - 8) now else moved
    let changed : Prop := s.on = true ∧ now = !s.padLevel n.val
    let selected : Prop := func ≠ 3 ∧ (edge = 3 ∨ edge = if now then 1 else 2)
    (s.steadyRuns = true → (∀ k, k < 24 → s.fld (F.PIN_CFG_EDGE k) = 0) →
      Gives (.pinSet v) s (fun u => u.fld F.PIN_OUT_OUT = (s.fld F.PIN_OUT_OUT ||| v.toNat % 2 ^ 24) ∧
        u = { s with live := u.live } ∧ SameRegs [F.PIN_OUT_OUT.addr] s u) ∧
      Gives (.pinClr v) s (fun u => (∀ k, k < 24 → u.fldBit F.PIN_OUT_OUT k = (s.fldBit F.PIN_OUT_OUT k && !v.getLsbD k)) ∧
        u = { s with live := u.live } ∧ SameRegs [F.PIN_OUT_OUT.addr] s u)) ∧
    (∀ t, s.coreRuns t = true →
      Gives (.registerWrite t (BitVec.ofNat 32 cfg) v) s (fun u => u.reg cfg = (s.reg cfg &&& ~~~0x1FF#32) ||| (v &&& 0x1FF#32) ∧
        (u = { s with live := u.live, pads := u.pads } ∨
          u = { s with live := u.live, pads := u.pads, power := { s.power with snuffHold := 0 } } ∧ v.extractLsb' 6 2 ≠ 0) ∧
        SameRegs [cfg] s u ∧ (s.driven.getLsbD n.val = true → u.pads = s.pads))) ∧
    (func ≠ 1 → now = level) ∧
    (¬ changed → exec (.pinEdge n level) s = .next moved) ∧
    (changed → ¬ selected → exec (.pinEdge n level) s = .next fed) ∧
    (changed → selected → Effect (.pinEdge n level) s (fun u => u.fldBit F.PIN_EDGE_EDGE n.val = true)) ∧
    (changed → selected → s.route (0x58 + n.val) = none → s.flag (F.PIN_CFG_WAKE n.val) = false → Gives (.pinEdge n level) s (fun u =>
      u.fldBit F.PIN_EDGE_EDGE n.val = true ∧ u = { fed with live := u.live } ∧ SameRegs [F.PIN_EDGE_EDGE.addr] fed u))
end

