-- ==== Sys2Proof/Laws/SMap.lean ====
section
/-! SUPPORT. What a sparse table reads after a write, and that every operation keeps the canonical form. -/

namespace Sys2Proof

variable {α : Type}

theorem smGet_insert_self (d : Nat → α) (m : List (Nat × α)) (k : Nat) (v : α) (h : ∀ p ∈ m, p.1 ≠ k) :
    smGet d (smInsert k v m) k = v := by
  induction m with
  | nil => simp [smInsert, smGet]
  | cons p r ih =>
    have hp : k ≠ p.1 := fun e => h p (by simp) e.symm
    by_cases hk : k < p.1
    · simp [smInsert, hk, smGet]
    · simp [smInsert, hk, smGet, hp, ih fun q hq => h q (by simp [hq])]

theorem smGet_insert_ne (d : Nat → α) (m : List (Nat × α)) {k j : Nat} (v : α) (h : j ≠ k) :
    smGet d (smInsert k v m) j = smGet d m j := by
  induction m with
  | nil => simp [smInsert, smGet, h]
  | cons p r ih =>
    by_cases hk : k < p.1
    · simp [smInsert, hk, smGet, h]
    · simp [smInsert, hk, smGet, ih]

theorem smGet_filter_self (d : Nat → α) (m : List (Nat × α)) (k : Nat) :
    smGet d (m.filter (fun p => p.1 ≠ k)) k = d k := by
  induction m with
  | nil => rfl
  | cons p r ih =>
    by_cases hp : p.1 = k
    · simpa [hp] using ih
    · have : k ≠ p.1 := fun e => hp e.symm
      simpa [hp, smGet, this] using ih

theorem smGet_filter_ne (d : Nat → α) (m : List (Nat × α)) {k j : Nat} (h : j ≠ k) :
    smGet d (m.filter (fun p => p.1 ≠ k)) j = smGet d m j := by
  induction m with
  | nil => rfl
  | cons p r ih =>
    by_cases hp : p.1 = k
    · have : j ≠ p.1 := fun e => h (e.trans hp)
      simpa [hp, smGet, this, h] using ih
    · by_cases hj : j = p.1
      · simp [hp, smGet, hj]
      · simpa [hp, smGet, hj] using ih

/-- A read after a write to the same key gives what was written. -/
@[simp] theorem smGet_set_self [DecidableEq α] (d : Nat → α) (m : List (Nat × α)) (k : Nat) (v : α) :
    smGet d (smSet d m k v) k = v := by
  unfold smSet
  by_cases hv : v = d k
  · simp only [hv, if_true]; exact smGet_filter_self d m k
  · simp only [hv, if_false]
    exact smGet_insert_self d _ k v (fun p hp => by simpa using (List.mem_filter.mp hp).2)

/-- A write leaves every other key alone. -/
theorem smGet_set_ne [DecidableEq α] (d : Nat → α) (m : List (Nat × α)) {k j : Nat} (v : α) (h : j ≠ k) :
    smGet d (smSet d m k v) j = smGet d m j := by
  unfold smSet
  by_cases hv : v = d k
  · simp only [hv, if_true]; exact smGet_filter_ne d m h
  · simp only [hv, if_false]
    rw [smGet_insert_ne d _ v h]; exact smGet_filter_ne d m h

theorem smGet_set [DecidableEq α] (d : Nat → α) (m : List (Nat × α)) (k j : Nat) (v : α) :
    smGet d (smSet d m k v) j = if j = k then v else smGet d m j := by
  by_cases h : j = k
  · simp [h]
  · simp [h, smGet_set_ne d m v h]

/-- The rising form as a pairwise order on the keys. -/
theorem smRising_iff (m : List (Nat × α)) : smRising m = true ↔ m.Pairwise (fun p q => p.1 < q.1) := by
  induction m with
  | nil => simp [smRising]
  | cons p r ih =>
    cases r with
    | nil => simp [smRising]
    | cons q t =>
      rw [smRising, Bool.and_eq_true, ih, List.pairwise_cons (a := p)]
      constructor
      · rintro ⟨h1, h2⟩
        refine ⟨fun x hx => ?_, h2⟩
        have hpq : p.1 < q.1 := by simpa using h1
        rcases List.mem_cons.mp hx with rfl | hx
        · exact hpq
        · exact lt_trans hpq ((List.pairwise_cons.mp h2).1 x hx)
      · rintro ⟨h1, h2⟩
        exact ⟨by simpa using h1 q (by simp), h2⟩

theorem smInsert_pairwise (k : Nat) (v : α) (m : List (Nat × α)) (hm : m.Pairwise (fun p q => p.1 < q.1))
    (hk : ∀ p ∈ m, p.1 ≠ k) : (smInsert k v m).Pairwise (fun p q => p.1 < q.1) := by
  induction m with
  | nil => simp [smInsert]
  | cons p r ih =>
    have ⟨h1, h2⟩ := List.pairwise_cons.mp hm
    by_cases h : k < p.1
    · rw [smInsert, if_pos h, List.pairwise_cons]
      refine ⟨fun q hq => ?_, hm⟩
      rcases List.mem_cons.mp hq with rfl | hq
      · exact h
      · exact lt_trans h (h1 q hq)
    · rw [smInsert, if_neg h, List.pairwise_cons]
      refine ⟨fun q hq => ?_, ih h2 fun q hq => hk q (by simp [hq])⟩
      have hpk : p.1 < k := lt_of_le_of_ne (not_lt.mp h) (hk p (by simp))
      have key : ∀ (l : List (Nat × α)), q ∈ smInsert k v l → q = (k, v) ∨ q ∈ l := by
        intro l
        induction l with
        | nil => simp [smInsert]
        | cons a t iht =>
          by_cases h' : k < a.1
          · simp [smInsert, h']
          · simp only [smInsert, h', if_false, List.mem_cons]
            rintro (rfl | hq)
            · exact Or.inr (Or.inl rfl)
            · rcases iht hq with e | e
              · exact Or.inl e
              · exact Or.inr (Or.inr e)
      rcases key r hq with e | hq
      · rw [e]; exact hpk
      · exact h1 q hq

theorem smInsert_all (k : Nat) (v : α) (m : List (Nat × α)) (P : Nat × α → Bool) (hv : P (k, v) = true)
    (hm : m.all P = true) : (smInsert k v m).all P = true := by
  induction m with
  | nil => simp [smInsert, hv]
  | cons p r ih =>
    simp only [List.all_cons, Bool.and_eq_true] at hm
    by_cases h : k < p.1
    · simp [smInsert, h, hv, hm.1, hm.2]
    · simp [smInsert, h, hm.1, ih hm.2]

/-- Every write keeps the canonical form. -/
theorem smSet_wf [DecidableEq α] (d : Nat → α) (m : List (Nat × α)) (k : Nat) (v : α) (h : smWf d m = true) :
    smWf d (smSet d m k v) = true := by
  rw [smWf, Bool.and_eq_true, smRising_iff] at h
  have hf := h.1.filter (fun p => decide (p.1 ≠ k))
  have ha : (m.filter (fun p => p.1 ≠ k)).all (fun p => decide (p.2 ≠ d p.1)) = true := by
    rw [List.all_eq_true] at h ⊢
    exact fun p hp => h.2 p (List.mem_of_mem_filter hp)
  rw [smWf, Bool.and_eq_true, smRising_iff]
  unfold smSet
  by_cases hv : v = d k
  · simp only [hv, if_true]; exact ⟨hf, ha⟩
  · simp only [hv, if_false]
    exact ⟨smInsert_pairwise k v _ hf (fun p hp => by simpa using (List.mem_filter.mp hp).2),
      smInsert_all k v _ _ (by simpa using hv) ha⟩

/-- Dropping keys keeps the canonical form. -/
theorem smDrop_wf [DecidableEq α] (d : Nat → α) (drop : Nat → Bool) (m : List (Nat × α)) (h : smWf d m = true) :
    smWf d (smDrop drop m) = true := by
  rw [smWf, Bool.and_eq_true, smRising_iff] at h ⊢
  refine ⟨h.1.filter _, ?_⟩
  rw [List.all_eq_true] at h ⊢
  exact fun p hp => h.2 p (List.mem_of_mem_filter hp)

end Sys2Proof
end

