-- ==== Sys2Proof/Laws/State.lean ====
section
/-! SUPPORT. The small lemmas of State: what each update leaves as it was, field by field; reads after writes of the named accessors. -/

namespace Sys2Proof.Machine

variable (s : State)

@[simp] theorem State.setReg_pending (a : Nat) (v : Word) : (s.setReg a v).pending = s.pending := rfl
@[simp] theorem State.setReg_free (a : Nat) (v : Word) : (s.setReg a v).free = s.free := rfl
@[simp] theorem State.setReg_staged (a : Nat) (v : Word) : (s.setReg a v).staged = s.staged := rfl
@[simp] theorem State.setReg_sealed (a : Nat) (v : Word) : (s.setReg a v).sealed = s.sealed := rfl
@[simp] theorem State.setReg_mem (a : Nat) (v : Word) : (s.setReg a v).mem = s.mem := rfl
@[simp] theorem State.setReg_ledger (a : Nat) (v : Word) : (s.setReg a v).ledger = s.ledger := rfl
@[simp] theorem State.setReg_isl (a : Nat) (v : Word) : (s.setReg a v).isl = s.isl := rfl
@[simp] theorem State.setReg_power (a : Nat) (v : Word) : (s.setReg a v).power = s.power := rfl
@[simp] theorem State.setReg_clk (a : Nat) (v : Word) : (s.setReg a v).clk = s.clk := rfl
@[simp] theorem State.setReg_boot (a : Nat) (v : Word) : (s.setReg a v).boot = s.boot := rfl
@[simp] theorem State.setReg_threads (a : Nat) (v : Word) : (s.setReg a v).threads = s.threads := rfl
@[simp] theorem State.setReg_evring (a : Nat) (v : Word) : (s.setReg a v).evring = s.evring := rfl
@[simp] theorem State.setReg_late (a : Nat) (v : Word) : (s.setReg a v).late = s.late := rfl
@[simp] theorem State.setReg_made (a : Nat) (v : Word) : (s.setReg a v).made = s.made := rfl
@[simp] theorem State.setReg_lkDone (a : Nat) (v : Word) : (s.setReg a v).lkDone = s.lkDone := rfl
@[simp] theorem State.setReg_issued (a : Nat) (v : Word) : (s.setReg a v).issued = s.issued := rfl
@[simp] theorem State.setReg_rings (a : Nat) (v : Word) : (s.setReg a v).rings = s.rings := rfl
@[simp] theorem State.setReg_handed (a : Nat) (v : Word) : (s.setReg a v).handed = s.handed := rfl
@[simp] theorem State.setReg_rr (a : Nat) (v : Word) : (s.setReg a v).rr = s.rr := rfl
@[simp] theorem State.setReg_flash (a : Nat) (v : Word) : (s.setReg a v).flash = s.flash := rfl
@[simp] theorem State.setReg_time (a : Nat) (v : Word) : (s.setReg a v).time = s.time := rfl
@[simp] theorem State.setReg_cmpw (a : Nat) (v : Word) : (s.setReg a v).cmpw = s.cmpw := rfl
@[simp] theorem State.setReg_cnt (a : Nat) (v : Word) : (s.setReg a v).cnt = s.cnt := rfl
@[simp] theorem State.setReg_bak (a : Nat) (v : Word) : (s.setReg a v).bak = s.bak := rfl
@[simp] theorem State.setReg_radio (a : Nat) (v : Word) : (s.setReg a v).radio = s.radio := rfl
@[simp] theorem State.setReg_mesh (a : Nat) (v : Word) : (s.setReg a v).mesh = s.mesh := rfl
@[simp] theorem State.setReg_cip (a : Nat) (v : Word) : (s.setReg a v).cip = s.cip := rfl
@[simp] theorem State.setReg_gnss (a : Nat) (v : Word) : (s.setReg a v).gnss = s.gnss := rfl
@[simp] theorem State.setReg_csp (a : Nat) (v : Word) : (s.setReg a v).csp = s.csp := rfl
@[simp] theorem State.setReg_tag (a : Nat) (v : Word) : (s.setReg a v).tag = s.tag := rfl
@[simp] theorem State.setReg_bridge (a : Nat) (v : Word) : (s.setReg a v).bridge = s.bridge := rfl
@[simp] theorem State.setReg_loops (a : Nat) (v : Word) : (s.setReg a v).loops = s.loops := rfl
@[simp] theorem State.setReg_pads (a : Nat) (v : Word) : (s.setReg a v).pads = s.pads := rfl
@[simp] theorem State.setReg_driven (a : Nat) (v : Word) : (s.setReg a v).driven = s.driven := rfl

@[simp] theorem State.setFld_pending (f : Fld) (v : Nat) : (s.setFld f v).pending = s.pending := rfl
@[simp] theorem State.setFld_free (f : Fld) (v : Nat) : (s.setFld f v).free = s.free := rfl
@[simp] theorem State.setFld_staged (f : Fld) (v : Nat) : (s.setFld f v).staged = s.staged := rfl
@[simp] theorem State.setFld_sealed (f : Fld) (v : Nat) : (s.setFld f v).sealed = s.sealed := rfl
@[simp] theorem State.setFld_mem (f : Fld) (v : Nat) : (s.setFld f v).mem = s.mem := rfl
@[simp] theorem State.setFld_ledger (f : Fld) (v : Nat) : (s.setFld f v).ledger = s.ledger := rfl
@[simp] theorem State.setFld_isl (f : Fld) (v : Nat) : (s.setFld f v).isl = s.isl := rfl
@[simp] theorem State.setFld_power (f : Fld) (v : Nat) : (s.setFld f v).power = s.power := rfl
@[simp] theorem State.setFld_clk (f : Fld) (v : Nat) : (s.setFld f v).clk = s.clk := rfl
@[simp] theorem State.setFld_boot (f : Fld) (v : Nat) : (s.setFld f v).boot = s.boot := rfl
@[simp] theorem State.setFld_threads (f : Fld) (v : Nat) : (s.setFld f v).threads = s.threads := rfl
@[simp] theorem State.setFld_evring (f : Fld) (v : Nat) : (s.setFld f v).evring = s.evring := rfl
@[simp] theorem State.setFld_late (f : Fld) (v : Nat) : (s.setFld f v).late = s.late := rfl
@[simp] theorem State.setFld_made (f : Fld) (v : Nat) : (s.setFld f v).made = s.made := rfl
@[simp] theorem State.setFld_lkDone (f : Fld) (v : Nat) : (s.setFld f v).lkDone = s.lkDone := rfl
@[simp] theorem State.setFld_issued (f : Fld) (v : Nat) : (s.setFld f v).issued = s.issued := rfl
@[simp] theorem State.setFld_rings (f : Fld) (v : Nat) : (s.setFld f v).rings = s.rings := rfl
@[simp] theorem State.setFld_handed (f : Fld) (v : Nat) : (s.setFld f v).handed = s.handed := rfl
@[simp] theorem State.setFld_rr (f : Fld) (v : Nat) : (s.setFld f v).rr = s.rr := rfl
@[simp] theorem State.setFld_flash (f : Fld) (v : Nat) : (s.setFld f v).flash = s.flash := rfl
@[simp] theorem State.setFld_time (f : Fld) (v : Nat) : (s.setFld f v).time = s.time := rfl
@[simp] theorem State.setFld_cmpw (f : Fld) (v : Nat) : (s.setFld f v).cmpw = s.cmpw := rfl
@[simp] theorem State.setFld_cnt (f : Fld) (v : Nat) : (s.setFld f v).cnt = s.cnt := rfl
@[simp] theorem State.setFld_bak (f : Fld) (v : Nat) : (s.setFld f v).bak = s.bak := rfl
@[simp] theorem State.setFld_radio (f : Fld) (v : Nat) : (s.setFld f v).radio = s.radio := rfl
@[simp] theorem State.setFld_mesh (f : Fld) (v : Nat) : (s.setFld f v).mesh = s.mesh := rfl
@[simp] theorem State.setFld_cip (f : Fld) (v : Nat) : (s.setFld f v).cip = s.cip := rfl
@[simp] theorem State.setFld_gnss (f : Fld) (v : Nat) : (s.setFld f v).gnss = s.gnss := rfl
@[simp] theorem State.setFld_csp (f : Fld) (v : Nat) : (s.setFld f v).csp = s.csp := rfl
@[simp] theorem State.setFld_tag (f : Fld) (v : Nat) : (s.setFld f v).tag = s.tag := rfl
@[simp] theorem State.setFld_bridge (f : Fld) (v : Nat) : (s.setFld f v).bridge = s.bridge := rfl
@[simp] theorem State.setFld_loops (f : Fld) (v : Nat) : (s.setFld f v).loops = s.loops := rfl
@[simp] theorem State.setFld_pads (f : Fld) (v : Nat) : (s.setFld f v).pads = s.pads := rfl
@[simp] theorem State.setFld_driven (f : Fld) (v : Nat) : (s.setFld f v).driven = s.driven := rfl

@[simp] theorem State.setBit_pending (f : Fld) : (s.setBit f).pending = s.pending := rfl
@[simp] theorem State.setBit_free (f : Fld) : (s.setBit f).free = s.free := rfl
@[simp] theorem State.setBit_staged (f : Fld) : (s.setBit f).staged = s.staged := rfl
@[simp] theorem State.setBit_sealed (f : Fld) : (s.setBit f).sealed = s.sealed := rfl
@[simp] theorem State.setBit_mem (f : Fld) : (s.setBit f).mem = s.mem := rfl
@[simp] theorem State.setBit_ledger (f : Fld) : (s.setBit f).ledger = s.ledger := rfl
@[simp] theorem State.setBit_isl (f : Fld) : (s.setBit f).isl = s.isl := rfl
@[simp] theorem State.setBit_power (f : Fld) : (s.setBit f).power = s.power := rfl
@[simp] theorem State.setBit_clk (f : Fld) : (s.setBit f).clk = s.clk := rfl
@[simp] theorem State.setBit_boot (f : Fld) : (s.setBit f).boot = s.boot := rfl
@[simp] theorem State.setBit_threads (f : Fld) : (s.setBit f).threads = s.threads := rfl
@[simp] theorem State.setBit_evring (f : Fld) : (s.setBit f).evring = s.evring := rfl
@[simp] theorem State.setBit_late (f : Fld) : (s.setBit f).late = s.late := rfl
@[simp] theorem State.setBit_made (f : Fld) : (s.setBit f).made = s.made := rfl
@[simp] theorem State.setBit_lkDone (f : Fld) : (s.setBit f).lkDone = s.lkDone := rfl
@[simp] theorem State.setBit_issued (f : Fld) : (s.setBit f).issued = s.issued := rfl
@[simp] theorem State.setBit_rings (f : Fld) : (s.setBit f).rings = s.rings := rfl
@[simp] theorem State.setBit_handed (f : Fld) : (s.setBit f).handed = s.handed := rfl
@[simp] theorem State.setBit_rr (f : Fld) : (s.setBit f).rr = s.rr := rfl
@[simp] theorem State.setBit_flash (f : Fld) : (s.setBit f).flash = s.flash := rfl
@[simp] theorem State.setBit_time (f : Fld) : (s.setBit f).time = s.time := rfl
@[simp] theorem State.setBit_cmpw (f : Fld) : (s.setBit f).cmpw = s.cmpw := rfl
@[simp] theorem State.setBit_cnt (f : Fld) : (s.setBit f).cnt = s.cnt := rfl
@[simp] theorem State.setBit_bak (f : Fld) : (s.setBit f).bak = s.bak := rfl
@[simp] theorem State.setBit_radio (f : Fld) : (s.setBit f).radio = s.radio := rfl
@[simp] theorem State.setBit_mesh (f : Fld) : (s.setBit f).mesh = s.mesh := rfl
@[simp] theorem State.setBit_cip (f : Fld) : (s.setBit f).cip = s.cip := rfl
@[simp] theorem State.setBit_gnss (f : Fld) : (s.setBit f).gnss = s.gnss := rfl
@[simp] theorem State.setBit_csp (f : Fld) : (s.setBit f).csp = s.csp := rfl
@[simp] theorem State.setBit_tag (f : Fld) : (s.setBit f).tag = s.tag := rfl
@[simp] theorem State.setBit_bridge (f : Fld) : (s.setBit f).bridge = s.bridge := rfl
@[simp] theorem State.setBit_loops (f : Fld) : (s.setBit f).loops = s.loops := rfl
@[simp] theorem State.setBit_pads (f : Fld) : (s.setBit f).pads = s.pads := rfl
@[simp] theorem State.setBit_driven (f : Fld) : (s.setBit f).driven = s.driven := rfl

@[simp] theorem State.clrFld_pending (f : Fld) : (s.clrFld f).pending = s.pending := rfl
@[simp] theorem State.clrFld_free (f : Fld) : (s.clrFld f).free = s.free := rfl
@[simp] theorem State.clrFld_staged (f : Fld) : (s.clrFld f).staged = s.staged := rfl
@[simp] theorem State.clrFld_sealed (f : Fld) : (s.clrFld f).sealed = s.sealed := rfl
@[simp] theorem State.clrFld_mem (f : Fld) : (s.clrFld f).mem = s.mem := rfl
@[simp] theorem State.clrFld_ledger (f : Fld) : (s.clrFld f).ledger = s.ledger := rfl
@[simp] theorem State.clrFld_isl (f : Fld) : (s.clrFld f).isl = s.isl := rfl
@[simp] theorem State.clrFld_power (f : Fld) : (s.clrFld f).power = s.power := rfl
@[simp] theorem State.clrFld_clk (f : Fld) : (s.clrFld f).clk = s.clk := rfl
@[simp] theorem State.clrFld_boot (f : Fld) : (s.clrFld f).boot = s.boot := rfl
@[simp] theorem State.clrFld_threads (f : Fld) : (s.clrFld f).threads = s.threads := rfl
@[simp] theorem State.clrFld_evring (f : Fld) : (s.clrFld f).evring = s.evring := rfl
@[simp] theorem State.clrFld_late (f : Fld) : (s.clrFld f).late = s.late := rfl
@[simp] theorem State.clrFld_made (f : Fld) : (s.clrFld f).made = s.made := rfl
@[simp] theorem State.clrFld_lkDone (f : Fld) : (s.clrFld f).lkDone = s.lkDone := rfl
@[simp] theorem State.clrFld_issued (f : Fld) : (s.clrFld f).issued = s.issued := rfl
@[simp] theorem State.clrFld_rings (f : Fld) : (s.clrFld f).rings = s.rings := rfl
@[simp] theorem State.clrFld_handed (f : Fld) : (s.clrFld f).handed = s.handed := rfl
@[simp] theorem State.clrFld_rr (f : Fld) : (s.clrFld f).rr = s.rr := rfl
@[simp] theorem State.clrFld_flash (f : Fld) : (s.clrFld f).flash = s.flash := rfl
@[simp] theorem State.clrFld_time (f : Fld) : (s.clrFld f).time = s.time := rfl
@[simp] theorem State.clrFld_cmpw (f : Fld) : (s.clrFld f).cmpw = s.cmpw := rfl
@[simp] theorem State.clrFld_cnt (f : Fld) : (s.clrFld f).cnt = s.cnt := rfl
@[simp] theorem State.clrFld_bak (f : Fld) : (s.clrFld f).bak = s.bak := rfl
@[simp] theorem State.clrFld_radio (f : Fld) : (s.clrFld f).radio = s.radio := rfl
@[simp] theorem State.clrFld_mesh (f : Fld) : (s.clrFld f).mesh = s.mesh := rfl
@[simp] theorem State.clrFld_cip (f : Fld) : (s.clrFld f).cip = s.cip := rfl
@[simp] theorem State.clrFld_gnss (f : Fld) : (s.clrFld f).gnss = s.gnss := rfl
@[simp] theorem State.clrFld_csp (f : Fld) : (s.clrFld f).csp = s.csp := rfl
@[simp] theorem State.clrFld_tag (f : Fld) : (s.clrFld f).tag = s.tag := rfl
@[simp] theorem State.clrFld_bridge (f : Fld) : (s.clrFld f).bridge = s.bridge := rfl
@[simp] theorem State.clrFld_loops (f : Fld) : (s.clrFld f).loops = s.loops := rfl
@[simp] theorem State.clrFld_pads (f : Fld) : (s.clrFld f).pads = s.pads := rfl
@[simp] theorem State.clrFld_driven (f : Fld) : (s.clrFld f).driven = s.driven := rfl

@[simp] theorem State.satInc_pending (f : Fld) : (s.satInc f).pending = s.pending := rfl
@[simp] theorem State.satInc_free (f : Fld) : (s.satInc f).free = s.free := rfl
@[simp] theorem State.satInc_staged (f : Fld) : (s.satInc f).staged = s.staged := rfl
@[simp] theorem State.satInc_sealed (f : Fld) : (s.satInc f).sealed = s.sealed := rfl
@[simp] theorem State.satInc_mem (f : Fld) : (s.satInc f).mem = s.mem := rfl
@[simp] theorem State.satInc_ledger (f : Fld) : (s.satInc f).ledger = s.ledger := rfl
@[simp] theorem State.satInc_isl (f : Fld) : (s.satInc f).isl = s.isl := rfl
@[simp] theorem State.satInc_power (f : Fld) : (s.satInc f).power = s.power := rfl
@[simp] theorem State.satInc_clk (f : Fld) : (s.satInc f).clk = s.clk := rfl
@[simp] theorem State.satInc_boot (f : Fld) : (s.satInc f).boot = s.boot := rfl
@[simp] theorem State.satInc_threads (f : Fld) : (s.satInc f).threads = s.threads := rfl
@[simp] theorem State.satInc_evring (f : Fld) : (s.satInc f).evring = s.evring := rfl
@[simp] theorem State.satInc_late (f : Fld) : (s.satInc f).late = s.late := rfl
@[simp] theorem State.satInc_made (f : Fld) : (s.satInc f).made = s.made := rfl
@[simp] theorem State.satInc_lkDone (f : Fld) : (s.satInc f).lkDone = s.lkDone := rfl
@[simp] theorem State.satInc_issued (f : Fld) : (s.satInc f).issued = s.issued := rfl
@[simp] theorem State.satInc_rings (f : Fld) : (s.satInc f).rings = s.rings := rfl
@[simp] theorem State.satInc_handed (f : Fld) : (s.satInc f).handed = s.handed := rfl
@[simp] theorem State.satInc_rr (f : Fld) : (s.satInc f).rr = s.rr := rfl
@[simp] theorem State.satInc_flash (f : Fld) : (s.satInc f).flash = s.flash := rfl
@[simp] theorem State.satInc_time (f : Fld) : (s.satInc f).time = s.time := rfl
@[simp] theorem State.satInc_cmpw (f : Fld) : (s.satInc f).cmpw = s.cmpw := rfl
@[simp] theorem State.satInc_cnt (f : Fld) : (s.satInc f).cnt = s.cnt := rfl
@[simp] theorem State.satInc_bak (f : Fld) : (s.satInc f).bak = s.bak := rfl
@[simp] theorem State.satInc_radio (f : Fld) : (s.satInc f).radio = s.radio := rfl
@[simp] theorem State.satInc_mesh (f : Fld) : (s.satInc f).mesh = s.mesh := rfl
@[simp] theorem State.satInc_cip (f : Fld) : (s.satInc f).cip = s.cip := rfl
@[simp] theorem State.satInc_gnss (f : Fld) : (s.satInc f).gnss = s.gnss := rfl
@[simp] theorem State.satInc_csp (f : Fld) : (s.satInc f).csp = s.csp := rfl
@[simp] theorem State.satInc_tag (f : Fld) : (s.satInc f).tag = s.tag := rfl
@[simp] theorem State.satInc_bridge (f : Fld) : (s.satInc f).bridge = s.bridge := rfl
@[simp] theorem State.satInc_loops (f : Fld) : (s.satInc f).loops = s.loops := rfl
@[simp] theorem State.satInc_pads (f : Fld) : (s.satInc f).pads = s.pads := rfl
@[simp] theorem State.satInc_driven (f : Fld) : (s.satInc f).driven = s.driven := rfl

@[simp] theorem State.orFld_pending (f : Fld) (v : Nat) : (s.orFld f v).pending = s.pending := rfl
@[simp] theorem State.orFld_free (f : Fld) (v : Nat) : (s.orFld f v).free = s.free := rfl
@[simp] theorem State.orFld_staged (f : Fld) (v : Nat) : (s.orFld f v).staged = s.staged := rfl
@[simp] theorem State.orFld_sealed (f : Fld) (v : Nat) : (s.orFld f v).sealed = s.sealed := rfl
@[simp] theorem State.orFld_mem (f : Fld) (v : Nat) : (s.orFld f v).mem = s.mem := rfl
@[simp] theorem State.orFld_ledger (f : Fld) (v : Nat) : (s.orFld f v).ledger = s.ledger := rfl
@[simp] theorem State.orFld_isl (f : Fld) (v : Nat) : (s.orFld f v).isl = s.isl := rfl
@[simp] theorem State.orFld_power (f : Fld) (v : Nat) : (s.orFld f v).power = s.power := rfl
@[simp] theorem State.orFld_clk (f : Fld) (v : Nat) : (s.orFld f v).clk = s.clk := rfl
@[simp] theorem State.orFld_boot (f : Fld) (v : Nat) : (s.orFld f v).boot = s.boot := rfl
@[simp] theorem State.orFld_threads (f : Fld) (v : Nat) : (s.orFld f v).threads = s.threads := rfl
@[simp] theorem State.orFld_evring (f : Fld) (v : Nat) : (s.orFld f v).evring = s.evring := rfl
@[simp] theorem State.orFld_late (f : Fld) (v : Nat) : (s.orFld f v).late = s.late := rfl
@[simp] theorem State.orFld_made (f : Fld) (v : Nat) : (s.orFld f v).made = s.made := rfl
@[simp] theorem State.orFld_lkDone (f : Fld) (v : Nat) : (s.orFld f v).lkDone = s.lkDone := rfl
@[simp] theorem State.orFld_issued (f : Fld) (v : Nat) : (s.orFld f v).issued = s.issued := rfl
@[simp] theorem State.orFld_rings (f : Fld) (v : Nat) : (s.orFld f v).rings = s.rings := rfl
@[simp] theorem State.orFld_handed (f : Fld) (v : Nat) : (s.orFld f v).handed = s.handed := rfl
@[simp] theorem State.orFld_rr (f : Fld) (v : Nat) : (s.orFld f v).rr = s.rr := rfl
@[simp] theorem State.orFld_flash (f : Fld) (v : Nat) : (s.orFld f v).flash = s.flash := rfl
@[simp] theorem State.orFld_time (f : Fld) (v : Nat) : (s.orFld f v).time = s.time := rfl
@[simp] theorem State.orFld_cmpw (f : Fld) (v : Nat) : (s.orFld f v).cmpw = s.cmpw := rfl
@[simp] theorem State.orFld_cnt (f : Fld) (v : Nat) : (s.orFld f v).cnt = s.cnt := rfl
@[simp] theorem State.orFld_bak (f : Fld) (v : Nat) : (s.orFld f v).bak = s.bak := rfl
@[simp] theorem State.orFld_radio (f : Fld) (v : Nat) : (s.orFld f v).radio = s.radio := rfl
@[simp] theorem State.orFld_mesh (f : Fld) (v : Nat) : (s.orFld f v).mesh = s.mesh := rfl
@[simp] theorem State.orFld_cip (f : Fld) (v : Nat) : (s.orFld f v).cip = s.cip := rfl
@[simp] theorem State.orFld_gnss (f : Fld) (v : Nat) : (s.orFld f v).gnss = s.gnss := rfl
@[simp] theorem State.orFld_csp (f : Fld) (v : Nat) : (s.orFld f v).csp = s.csp := rfl
@[simp] theorem State.orFld_tag (f : Fld) (v : Nat) : (s.orFld f v).tag = s.tag := rfl
@[simp] theorem State.orFld_bridge (f : Fld) (v : Nat) : (s.orFld f v).bridge = s.bridge := rfl
@[simp] theorem State.orFld_loops (f : Fld) (v : Nat) : (s.orFld f v).loops = s.loops := rfl
@[simp] theorem State.orFld_pads (f : Fld) (v : Nat) : (s.orFld f v).pads = s.pads := rfl
@[simp] theorem State.orFld_driven (f : Fld) (v : Nat) : (s.orFld f v).driven = s.driven := rfl

@[simp] theorem State.clrBits_pending (f : Fld) (v : Nat) : (s.clrBits f v).pending = s.pending := rfl
@[simp] theorem State.clrBits_free (f : Fld) (v : Nat) : (s.clrBits f v).free = s.free := rfl
@[simp] theorem State.clrBits_staged (f : Fld) (v : Nat) : (s.clrBits f v).staged = s.staged := rfl
@[simp] theorem State.clrBits_sealed (f : Fld) (v : Nat) : (s.clrBits f v).sealed = s.sealed := rfl
@[simp] theorem State.clrBits_mem (f : Fld) (v : Nat) : (s.clrBits f v).mem = s.mem := rfl
@[simp] theorem State.clrBits_ledger (f : Fld) (v : Nat) : (s.clrBits f v).ledger = s.ledger := rfl
@[simp] theorem State.clrBits_isl (f : Fld) (v : Nat) : (s.clrBits f v).isl = s.isl := rfl
@[simp] theorem State.clrBits_power (f : Fld) (v : Nat) : (s.clrBits f v).power = s.power := rfl
@[simp] theorem State.clrBits_clk (f : Fld) (v : Nat) : (s.clrBits f v).clk = s.clk := rfl
@[simp] theorem State.clrBits_boot (f : Fld) (v : Nat) : (s.clrBits f v).boot = s.boot := rfl
@[simp] theorem State.clrBits_threads (f : Fld) (v : Nat) : (s.clrBits f v).threads = s.threads := rfl
@[simp] theorem State.clrBits_evring (f : Fld) (v : Nat) : (s.clrBits f v).evring = s.evring := rfl
@[simp] theorem State.clrBits_late (f : Fld) (v : Nat) : (s.clrBits f v).late = s.late := rfl
@[simp] theorem State.clrBits_made (f : Fld) (v : Nat) : (s.clrBits f v).made = s.made := rfl
@[simp] theorem State.clrBits_lkDone (f : Fld) (v : Nat) : (s.clrBits f v).lkDone = s.lkDone := rfl
@[simp] theorem State.clrBits_issued (f : Fld) (v : Nat) : (s.clrBits f v).issued = s.issued := rfl
@[simp] theorem State.clrBits_rings (f : Fld) (v : Nat) : (s.clrBits f v).rings = s.rings := rfl
@[simp] theorem State.clrBits_handed (f : Fld) (v : Nat) : (s.clrBits f v).handed = s.handed := rfl
@[simp] theorem State.clrBits_rr (f : Fld) (v : Nat) : (s.clrBits f v).rr = s.rr := rfl
@[simp] theorem State.clrBits_flash (f : Fld) (v : Nat) : (s.clrBits f v).flash = s.flash := rfl
@[simp] theorem State.clrBits_time (f : Fld) (v : Nat) : (s.clrBits f v).time = s.time := rfl
@[simp] theorem State.clrBits_cmpw (f : Fld) (v : Nat) : (s.clrBits f v).cmpw = s.cmpw := rfl
@[simp] theorem State.clrBits_cnt (f : Fld) (v : Nat) : (s.clrBits f v).cnt = s.cnt := rfl
@[simp] theorem State.clrBits_bak (f : Fld) (v : Nat) : (s.clrBits f v).bak = s.bak := rfl
@[simp] theorem State.clrBits_radio (f : Fld) (v : Nat) : (s.clrBits f v).radio = s.radio := rfl
@[simp] theorem State.clrBits_mesh (f : Fld) (v : Nat) : (s.clrBits f v).mesh = s.mesh := rfl
@[simp] theorem State.clrBits_cip (f : Fld) (v : Nat) : (s.clrBits f v).cip = s.cip := rfl
@[simp] theorem State.clrBits_gnss (f : Fld) (v : Nat) : (s.clrBits f v).gnss = s.gnss := rfl
@[simp] theorem State.clrBits_csp (f : Fld) (v : Nat) : (s.clrBits f v).csp = s.csp := rfl
@[simp] theorem State.clrBits_tag (f : Fld) (v : Nat) : (s.clrBits f v).tag = s.tag := rfl
@[simp] theorem State.clrBits_bridge (f : Fld) (v : Nat) : (s.clrBits f v).bridge = s.bridge := rfl
@[simp] theorem State.clrBits_loops (f : Fld) (v : Nat) : (s.clrBits f v).loops = s.loops := rfl
@[simp] theorem State.clrBits_pads (f : Fld) (v : Nat) : (s.clrBits f v).pads = s.pads := rfl
@[simp] theorem State.clrBits_driven (f : Fld) (v : Nat) : (s.clrBits f v).driven = s.driven := rfl

@[simp] theorem State.setStg_pending (a : Nat) (v : Word) : (s.setStg a v).pending = s.pending := rfl
@[simp] theorem State.setStg_free (a : Nat) (v : Word) : (s.setStg a v).free = s.free := rfl
@[simp] theorem State.setStg_live (a : Nat) (v : Word) : (s.setStg a v).live = s.live := rfl
@[simp] theorem State.setStg_sealed (a : Nat) (v : Word) : (s.setStg a v).sealed = s.sealed := rfl
@[simp] theorem State.setStg_mem (a : Nat) (v : Word) : (s.setStg a v).mem = s.mem := rfl
@[simp] theorem State.setStg_ledger (a : Nat) (v : Word) : (s.setStg a v).ledger = s.ledger := rfl
@[simp] theorem State.setStg_isl (a : Nat) (v : Word) : (s.setStg a v).isl = s.isl := rfl
@[simp] theorem State.setStg_power (a : Nat) (v : Word) : (s.setStg a v).power = s.power := rfl
@[simp] theorem State.setStg_clk (a : Nat) (v : Word) : (s.setStg a v).clk = s.clk := rfl
@[simp] theorem State.setStg_boot (a : Nat) (v : Word) : (s.setStg a v).boot = s.boot := rfl
@[simp] theorem State.setStg_threads (a : Nat) (v : Word) : (s.setStg a v).threads = s.threads := rfl
@[simp] theorem State.setStg_evring (a : Nat) (v : Word) : (s.setStg a v).evring = s.evring := rfl
@[simp] theorem State.setStg_late (a : Nat) (v : Word) : (s.setStg a v).late = s.late := rfl
@[simp] theorem State.setStg_made (a : Nat) (v : Word) : (s.setStg a v).made = s.made := rfl
@[simp] theorem State.setStg_lkDone (a : Nat) (v : Word) : (s.setStg a v).lkDone = s.lkDone := rfl
@[simp] theorem State.setStg_issued (a : Nat) (v : Word) : (s.setStg a v).issued = s.issued := rfl
@[simp] theorem State.setStg_rings (a : Nat) (v : Word) : (s.setStg a v).rings = s.rings := rfl
@[simp] theorem State.setStg_handed (a : Nat) (v : Word) : (s.setStg a v).handed = s.handed := rfl
@[simp] theorem State.setStg_rr (a : Nat) (v : Word) : (s.setStg a v).rr = s.rr := rfl
@[simp] theorem State.setStg_flash (a : Nat) (v : Word) : (s.setStg a v).flash = s.flash := rfl
@[simp] theorem State.setStg_time (a : Nat) (v : Word) : (s.setStg a v).time = s.time := rfl
@[simp] theorem State.setStg_cmpw (a : Nat) (v : Word) : (s.setStg a v).cmpw = s.cmpw := rfl
@[simp] theorem State.setStg_cnt (a : Nat) (v : Word) : (s.setStg a v).cnt = s.cnt := rfl
@[simp] theorem State.setStg_bak (a : Nat) (v : Word) : (s.setStg a v).bak = s.bak := rfl
@[simp] theorem State.setStg_radio (a : Nat) (v : Word) : (s.setStg a v).radio = s.radio := rfl
@[simp] theorem State.setStg_mesh (a : Nat) (v : Word) : (s.setStg a v).mesh = s.mesh := rfl
@[simp] theorem State.setStg_cip (a : Nat) (v : Word) : (s.setStg a v).cip = s.cip := rfl
@[simp] theorem State.setStg_gnss (a : Nat) (v : Word) : (s.setStg a v).gnss = s.gnss := rfl
@[simp] theorem State.setStg_csp (a : Nat) (v : Word) : (s.setStg a v).csp = s.csp := rfl
@[simp] theorem State.setStg_tag (a : Nat) (v : Word) : (s.setStg a v).tag = s.tag := rfl
@[simp] theorem State.setStg_bridge (a : Nat) (v : Word) : (s.setStg a v).bridge = s.bridge := rfl
@[simp] theorem State.setStg_loops (a : Nat) (v : Word) : (s.setStg a v).loops = s.loops := rfl
@[simp] theorem State.setStg_pads (a : Nat) (v : Word) : (s.setStg a v).pads = s.pads := rfl
@[simp] theorem State.setStg_driven (a : Nat) (v : Word) : (s.setStg a v).driven = s.driven := rfl

@[simp] theorem State.poke_pending (a : Nat) (w : TWord) : (s.poke a w).pending = s.pending := rfl
@[simp] theorem State.poke_free (a : Nat) (w : TWord) : (s.poke a w).free = s.free := rfl
@[simp] theorem State.poke_live (a : Nat) (w : TWord) : (s.poke a w).live = s.live := rfl
@[simp] theorem State.poke_staged (a : Nat) (w : TWord) : (s.poke a w).staged = s.staged := rfl
@[simp] theorem State.poke_sealed (a : Nat) (w : TWord) : (s.poke a w).sealed = s.sealed := rfl
@[simp] theorem State.poke_ledger (a : Nat) (w : TWord) : (s.poke a w).ledger = s.ledger := rfl
@[simp] theorem State.poke_isl (a : Nat) (w : TWord) : (s.poke a w).isl = s.isl := rfl
@[simp] theorem State.poke_power (a : Nat) (w : TWord) : (s.poke a w).power = s.power := rfl
@[simp] theorem State.poke_clk (a : Nat) (w : TWord) : (s.poke a w).clk = s.clk := rfl
@[simp] theorem State.poke_boot (a : Nat) (w : TWord) : (s.poke a w).boot = s.boot := rfl
@[simp] theorem State.poke_threads (a : Nat) (w : TWord) : (s.poke a w).threads = s.threads := rfl
@[simp] theorem State.poke_evring (a : Nat) (w : TWord) : (s.poke a w).evring = s.evring := rfl
@[simp] theorem State.poke_late (a : Nat) (w : TWord) : (s.poke a w).late = s.late := rfl
@[simp] theorem State.poke_made (a : Nat) (w : TWord) : (s.poke a w).made = s.made := rfl
@[simp] theorem State.poke_lkDone (a : Nat) (w : TWord) : (s.poke a w).lkDone = s.lkDone := rfl
@[simp] theorem State.poke_issued (a : Nat) (w : TWord) : (s.poke a w).issued = s.issued := rfl
@[simp] theorem State.poke_rings (a : Nat) (w : TWord) : (s.poke a w).rings = s.rings := rfl
@[simp] theorem State.poke_handed (a : Nat) (w : TWord) : (s.poke a w).handed = s.handed := rfl
@[simp] theorem State.poke_rr (a : Nat) (w : TWord) : (s.poke a w).rr = s.rr := rfl
@[simp] theorem State.poke_flash (a : Nat) (w : TWord) : (s.poke a w).flash = s.flash := rfl
@[simp] theorem State.poke_time (a : Nat) (w : TWord) : (s.poke a w).time = s.time := rfl
@[simp] theorem State.poke_cmpw (a : Nat) (w : TWord) : (s.poke a w).cmpw = s.cmpw := rfl
@[simp] theorem State.poke_cnt (a : Nat) (w : TWord) : (s.poke a w).cnt = s.cnt := rfl
@[simp] theorem State.poke_bak (a : Nat) (w : TWord) : (s.poke a w).bak = s.bak := rfl
@[simp] theorem State.poke_radio (a : Nat) (w : TWord) : (s.poke a w).radio = s.radio := rfl
@[simp] theorem State.poke_mesh (a : Nat) (w : TWord) : (s.poke a w).mesh = s.mesh := rfl
@[simp] theorem State.poke_cip (a : Nat) (w : TWord) : (s.poke a w).cip = s.cip := rfl
@[simp] theorem State.poke_gnss (a : Nat) (w : TWord) : (s.poke a w).gnss = s.gnss := rfl
@[simp] theorem State.poke_csp (a : Nat) (w : TWord) : (s.poke a w).csp = s.csp := rfl
@[simp] theorem State.poke_tag (a : Nat) (w : TWord) : (s.poke a w).tag = s.tag := rfl
@[simp] theorem State.poke_bridge (a : Nat) (w : TWord) : (s.poke a w).bridge = s.bridge := rfl
@[simp] theorem State.poke_loops (a : Nat) (w : TWord) : (s.poke a w).loops = s.loops := rfl
@[simp] theorem State.poke_pads (a : Nat) (w : TWord) : (s.poke a w).pads = s.pads := rfl
@[simp] theorem State.poke_driven (a : Nat) (w : TWord) : (s.poke a w).driven = s.driven := rfl

@[simp] theorem State.setThr_pending (t : ThreadId) (x : Thread) : (s.setThr t x).pending = s.pending := rfl
@[simp] theorem State.setThr_free (t : ThreadId) (x : Thread) : (s.setThr t x).free = s.free := rfl
@[simp] theorem State.setThr_live (t : ThreadId) (x : Thread) : (s.setThr t x).live = s.live := rfl
@[simp] theorem State.setThr_staged (t : ThreadId) (x : Thread) : (s.setThr t x).staged = s.staged := rfl
@[simp] theorem State.setThr_sealed (t : ThreadId) (x : Thread) : (s.setThr t x).sealed = s.sealed := rfl
@[simp] theorem State.setThr_mem (t : ThreadId) (x : Thread) : (s.setThr t x).mem = s.mem := rfl
@[simp] theorem State.setThr_ledger (t : ThreadId) (x : Thread) : (s.setThr t x).ledger = s.ledger := rfl
@[simp] theorem State.setThr_isl (t : ThreadId) (x : Thread) : (s.setThr t x).isl = s.isl := rfl
@[simp] theorem State.setThr_power (t : ThreadId) (x : Thread) : (s.setThr t x).power = s.power := rfl
@[simp] theorem State.setThr_clk (t : ThreadId) (x : Thread) : (s.setThr t x).clk = s.clk := rfl
@[simp] theorem State.setThr_boot (t : ThreadId) (x : Thread) : (s.setThr t x).boot = s.boot := rfl
@[simp] theorem State.setThr_evring (t : ThreadId) (x : Thread) : (s.setThr t x).evring = s.evring := rfl
@[simp] theorem State.setThr_late (t : ThreadId) (x : Thread) : (s.setThr t x).late = s.late := rfl
@[simp] theorem State.setThr_made (t : ThreadId) (x : Thread) : (s.setThr t x).made = s.made := rfl
@[simp] theorem State.setThr_lkDone (t : ThreadId) (x : Thread) : (s.setThr t x).lkDone = s.lkDone := rfl
@[simp] theorem State.setThr_issued (t : ThreadId) (x : Thread) : (s.setThr t x).issued = s.issued := rfl
@[simp] theorem State.setThr_rings (t : ThreadId) (x : Thread) : (s.setThr t x).rings = s.rings := rfl
@[simp] theorem State.setThr_handed (t : ThreadId) (x : Thread) : (s.setThr t x).handed = s.handed := rfl
@[simp] theorem State.setThr_rr (t : ThreadId) (x : Thread) : (s.setThr t x).rr = s.rr := rfl
@[simp] theorem State.setThr_flash (t : ThreadId) (x : Thread) : (s.setThr t x).flash = s.flash := rfl
@[simp] theorem State.setThr_time (t : ThreadId) (x : Thread) : (s.setThr t x).time = s.time := rfl
@[simp] theorem State.setThr_cmpw (t : ThreadId) (x : Thread) : (s.setThr t x).cmpw = s.cmpw := rfl
@[simp] theorem State.setThr_cnt (t : ThreadId) (x : Thread) : (s.setThr t x).cnt = s.cnt := rfl
@[simp] theorem State.setThr_bak (t : ThreadId) (x : Thread) : (s.setThr t x).bak = s.bak := rfl
@[simp] theorem State.setThr_radio (t : ThreadId) (x : Thread) : (s.setThr t x).radio = s.radio := rfl
@[simp] theorem State.setThr_mesh (t : ThreadId) (x : Thread) : (s.setThr t x).mesh = s.mesh := rfl
@[simp] theorem State.setThr_cip (t : ThreadId) (x : Thread) : (s.setThr t x).cip = s.cip := rfl
@[simp] theorem State.setThr_gnss (t : ThreadId) (x : Thread) : (s.setThr t x).gnss = s.gnss := rfl
@[simp] theorem State.setThr_csp (t : ThreadId) (x : Thread) : (s.setThr t x).csp = s.csp := rfl
@[simp] theorem State.setThr_tag (t : ThreadId) (x : Thread) : (s.setThr t x).tag = s.tag := rfl
@[simp] theorem State.setThr_bridge (t : ThreadId) (x : Thread) : (s.setThr t x).bridge = s.bridge := rfl
@[simp] theorem State.setThr_loops (t : ThreadId) (x : Thread) : (s.setThr t x).loops = s.loops := rfl
@[simp] theorem State.setThr_pads (t : ThreadId) (x : Thread) : (s.setThr t x).pads = s.pads := rfl
@[simp] theorem State.setThr_driven (t : ThreadId) (x : Thread) : (s.setThr t x).driven = s.driven := rfl

@[simp] theorem State.setIsland_pending (i : Island) (x : IslandSt) : (s.setIsland i x).pending = s.pending := rfl
@[simp] theorem State.setIsland_free (i : Island) (x : IslandSt) : (s.setIsland i x).free = s.free := rfl
@[simp] theorem State.setIsland_live (i : Island) (x : IslandSt) : (s.setIsland i x).live = s.live := rfl
@[simp] theorem State.setIsland_staged (i : Island) (x : IslandSt) : (s.setIsland i x).staged = s.staged := rfl
@[simp] theorem State.setIsland_sealed (i : Island) (x : IslandSt) : (s.setIsland i x).sealed = s.sealed := rfl
@[simp] theorem State.setIsland_mem (i : Island) (x : IslandSt) : (s.setIsland i x).mem = s.mem := rfl
@[simp] theorem State.setIsland_ledger (i : Island) (x : IslandSt) : (s.setIsland i x).ledger = s.ledger := rfl
@[simp] theorem State.setIsland_power (i : Island) (x : IslandSt) : (s.setIsland i x).power = s.power := rfl
@[simp] theorem State.setIsland_clk (i : Island) (x : IslandSt) : (s.setIsland i x).clk = s.clk := rfl
@[simp] theorem State.setIsland_boot (i : Island) (x : IslandSt) : (s.setIsland i x).boot = s.boot := rfl
@[simp] theorem State.setIsland_threads (i : Island) (x : IslandSt) : (s.setIsland i x).threads = s.threads := rfl
@[simp] theorem State.setIsland_evring (i : Island) (x : IslandSt) : (s.setIsland i x).evring = s.evring := rfl
@[simp] theorem State.setIsland_late (i : Island) (x : IslandSt) : (s.setIsland i x).late = s.late := rfl
@[simp] theorem State.setIsland_made (i : Island) (x : IslandSt) : (s.setIsland i x).made = s.made := rfl
@[simp] theorem State.setIsland_lkDone (i : Island) (x : IslandSt) : (s.setIsland i x).lkDone = s.lkDone := rfl
@[simp] theorem State.setIsland_issued (i : Island) (x : IslandSt) : (s.setIsland i x).issued = s.issued := rfl
@[simp] theorem State.setIsland_rings (i : Island) (x : IslandSt) : (s.setIsland i x).rings = s.rings := rfl
@[simp] theorem State.setIsland_handed (i : Island) (x : IslandSt) : (s.setIsland i x).handed = s.handed := rfl
@[simp] theorem State.setIsland_rr (i : Island) (x : IslandSt) : (s.setIsland i x).rr = s.rr := rfl
@[simp] theorem State.setIsland_flash (i : Island) (x : IslandSt) : (s.setIsland i x).flash = s.flash := rfl
@[simp] theorem State.setIsland_time (i : Island) (x : IslandSt) : (s.setIsland i x).time = s.time := rfl
@[simp] theorem State.setIsland_cmpw (i : Island) (x : IslandSt) : (s.setIsland i x).cmpw = s.cmpw := rfl
@[simp] theorem State.setIsland_cnt (i : Island) (x : IslandSt) : (s.setIsland i x).cnt = s.cnt := rfl
@[simp] theorem State.setIsland_bak (i : Island) (x : IslandSt) : (s.setIsland i x).bak = s.bak := rfl
@[simp] theorem State.setIsland_radio (i : Island) (x : IslandSt) : (s.setIsland i x).radio = s.radio := rfl
@[simp] theorem State.setIsland_mesh (i : Island) (x : IslandSt) : (s.setIsland i x).mesh = s.mesh := rfl
@[simp] theorem State.setIsland_cip (i : Island) (x : IslandSt) : (s.setIsland i x).cip = s.cip := rfl
@[simp] theorem State.setIsland_gnss (i : Island) (x : IslandSt) : (s.setIsland i x).gnss = s.gnss := rfl
@[simp] theorem State.setIsland_csp (i : Island) (x : IslandSt) : (s.setIsland i x).csp = s.csp := rfl
@[simp] theorem State.setIsland_tag (i : Island) (x : IslandSt) : (s.setIsland i x).tag = s.tag := rfl
@[simp] theorem State.setIsland_bridge (i : Island) (x : IslandSt) : (s.setIsland i x).bridge = s.bridge := rfl
@[simp] theorem State.setIsland_loops (i : Island) (x : IslandSt) : (s.setIsland i x).loops = s.loops := rfl
@[simp] theorem State.setIsland_pads (i : Island) (x : IslandSt) : (s.setIsland i x).pads = s.pads := rfl
@[simp] theorem State.setIsland_driven (i : Island) (x : IslandSt) : (s.setIsland i x).driven = s.driven := rfl

@[simp] theorem State.setRing_pending (n : RingId) (x : Ring) : (s.setRing n x).pending = s.pending := rfl
@[simp] theorem State.setRing_free (n : RingId) (x : Ring) : (s.setRing n x).free = s.free := rfl
@[simp] theorem State.setRing_live (n : RingId) (x : Ring) : (s.setRing n x).live = s.live := rfl
@[simp] theorem State.setRing_staged (n : RingId) (x : Ring) : (s.setRing n x).staged = s.staged := rfl
@[simp] theorem State.setRing_sealed (n : RingId) (x : Ring) : (s.setRing n x).sealed = s.sealed := rfl
@[simp] theorem State.setRing_mem (n : RingId) (x : Ring) : (s.setRing n x).mem = s.mem := rfl
@[simp] theorem State.setRing_ledger (n : RingId) (x : Ring) : (s.setRing n x).ledger = s.ledger := rfl
@[simp] theorem State.setRing_isl (n : RingId) (x : Ring) : (s.setRing n x).isl = s.isl := rfl
@[simp] theorem State.setRing_power (n : RingId) (x : Ring) : (s.setRing n x).power = s.power := rfl
@[simp] theorem State.setRing_clk (n : RingId) (x : Ring) : (s.setRing n x).clk = s.clk := rfl
@[simp] theorem State.setRing_boot (n : RingId) (x : Ring) : (s.setRing n x).boot = s.boot := rfl
@[simp] theorem State.setRing_threads (n : RingId) (x : Ring) : (s.setRing n x).threads = s.threads := rfl
@[simp] theorem State.setRing_evring (n : RingId) (x : Ring) : (s.setRing n x).evring = s.evring := rfl
@[simp] theorem State.setRing_late (n : RingId) (x : Ring) : (s.setRing n x).late = s.late := rfl
@[simp] theorem State.setRing_made (n : RingId) (x : Ring) : (s.setRing n x).made = s.made := rfl
@[simp] theorem State.setRing_lkDone (n : RingId) (x : Ring) : (s.setRing n x).lkDone = s.lkDone := rfl
@[simp] theorem State.setRing_issued (n : RingId) (x : Ring) : (s.setRing n x).issued = s.issued := rfl
@[simp] theorem State.setRing_handed (n : RingId) (x : Ring) : (s.setRing n x).handed = s.handed := rfl
@[simp] theorem State.setRing_rr (n : RingId) (x : Ring) : (s.setRing n x).rr = s.rr := rfl
@[simp] theorem State.setRing_flash (n : RingId) (x : Ring) : (s.setRing n x).flash = s.flash := rfl
@[simp] theorem State.setRing_time (n : RingId) (x : Ring) : (s.setRing n x).time = s.time := rfl
@[simp] theorem State.setRing_cmpw (n : RingId) (x : Ring) : (s.setRing n x).cmpw = s.cmpw := rfl
@[simp] theorem State.setRing_cnt (n : RingId) (x : Ring) : (s.setRing n x).cnt = s.cnt := rfl
@[simp] theorem State.setRing_bak (n : RingId) (x : Ring) : (s.setRing n x).bak = s.bak := rfl
@[simp] theorem State.setRing_radio (n : RingId) (x : Ring) : (s.setRing n x).radio = s.radio := rfl
@[simp] theorem State.setRing_mesh (n : RingId) (x : Ring) : (s.setRing n x).mesh = s.mesh := rfl
@[simp] theorem State.setRing_cip (n : RingId) (x : Ring) : (s.setRing n x).cip = s.cip := rfl
@[simp] theorem State.setRing_gnss (n : RingId) (x : Ring) : (s.setRing n x).gnss = s.gnss := rfl
@[simp] theorem State.setRing_csp (n : RingId) (x : Ring) : (s.setRing n x).csp = s.csp := rfl
@[simp] theorem State.setRing_tag (n : RingId) (x : Ring) : (s.setRing n x).tag = s.tag := rfl
@[simp] theorem State.setRing_bridge (n : RingId) (x : Ring) : (s.setRing n x).bridge = s.bridge := rfl
@[simp] theorem State.setRing_loops (n : RingId) (x : Ring) : (s.setRing n x).loops = s.loops := rfl
@[simp] theorem State.setRing_pads (n : RingId) (x : Ring) : (s.setRing n x).pads = s.pads := rfl
@[simp] theorem State.setRing_driven (n : RingId) (x : Ring) : (s.setRing n x).driven = s.driven := rfl

@[simp] theorem State.fresh_pending : (s.fresh).pending = s.pending := rfl
@[simp] theorem State.fresh_live : (s.fresh).live = s.live := rfl
@[simp] theorem State.fresh_staged : (s.fresh).staged = s.staged := rfl
@[simp] theorem State.fresh_sealed : (s.fresh).sealed = s.sealed := rfl
@[simp] theorem State.fresh_mem : (s.fresh).mem = s.mem := rfl
@[simp] theorem State.fresh_ledger : (s.fresh).ledger = s.ledger := rfl
@[simp] theorem State.fresh_isl : (s.fresh).isl = s.isl := rfl
@[simp] theorem State.fresh_power : (s.fresh).power = s.power := rfl
@[simp] theorem State.fresh_clk : (s.fresh).clk = s.clk := rfl
@[simp] theorem State.fresh_boot : (s.fresh).boot = s.boot := rfl
@[simp] theorem State.fresh_threads : (s.fresh).threads = s.threads := rfl
@[simp] theorem State.fresh_evring : (s.fresh).evring = s.evring := rfl
@[simp] theorem State.fresh_late : (s.fresh).late = s.late := rfl
@[simp] theorem State.fresh_made : (s.fresh).made = s.made := rfl
@[simp] theorem State.fresh_lkDone : (s.fresh).lkDone = s.lkDone := rfl
@[simp] theorem State.fresh_issued : (s.fresh).issued = s.issued := rfl
@[simp] theorem State.fresh_rings : (s.fresh).rings = s.rings := rfl
@[simp] theorem State.fresh_handed : (s.fresh).handed = s.handed := rfl
@[simp] theorem State.fresh_rr : (s.fresh).rr = s.rr := rfl
@[simp] theorem State.fresh_flash : (s.fresh).flash = s.flash := rfl
@[simp] theorem State.fresh_time : (s.fresh).time = s.time := rfl
@[simp] theorem State.fresh_cmpw : (s.fresh).cmpw = s.cmpw := rfl
@[simp] theorem State.fresh_cnt : (s.fresh).cnt = s.cnt := rfl
@[simp] theorem State.fresh_bak : (s.fresh).bak = s.bak := rfl
@[simp] theorem State.fresh_radio : (s.fresh).radio = s.radio := rfl
@[simp] theorem State.fresh_mesh : (s.fresh).mesh = s.mesh := rfl
@[simp] theorem State.fresh_cip : (s.fresh).cip = s.cip := rfl
@[simp] theorem State.fresh_gnss : (s.fresh).gnss = s.gnss := rfl
@[simp] theorem State.fresh_csp : (s.fresh).csp = s.csp := rfl
@[simp] theorem State.fresh_tag : (s.fresh).tag = s.tag := rfl
@[simp] theorem State.fresh_bridge : (s.fresh).bridge = s.bridge := rfl
@[simp] theorem State.fresh_loops : (s.fresh).loops = s.loops := rfl
@[simp] theorem State.fresh_pads : (s.fresh).pads = s.pads := rfl
@[simp] theorem State.fresh_driven : (s.fresh).driven = s.driven := rfl

@[simp] theorem State.unhold_pending : (s.unhold).pending = s.pending := rfl
@[simp] theorem State.unhold_free : (s.unhold).free = s.free := rfl
@[simp] theorem State.unhold_live : (s.unhold).live = s.live := rfl
@[simp] theorem State.unhold_staged : (s.unhold).staged = s.staged := rfl
@[simp] theorem State.unhold_sealed : (s.unhold).sealed = s.sealed := rfl
@[simp] theorem State.unhold_mem : (s.unhold).mem = s.mem := rfl
@[simp] theorem State.unhold_ledger : (s.unhold).ledger = s.ledger := rfl
@[simp] theorem State.unhold_isl : (s.unhold).isl = s.isl := rfl
@[simp] theorem State.unhold_clk : (s.unhold).clk = s.clk := rfl
@[simp] theorem State.unhold_boot : (s.unhold).boot = s.boot := rfl
@[simp] theorem State.unhold_threads : (s.unhold).threads = s.threads := rfl
@[simp] theorem State.unhold_evring : (s.unhold).evring = s.evring := rfl
@[simp] theorem State.unhold_late : (s.unhold).late = s.late := rfl
@[simp] theorem State.unhold_made : (s.unhold).made = s.made := rfl
@[simp] theorem State.unhold_lkDone : (s.unhold).lkDone = s.lkDone := rfl
@[simp] theorem State.unhold_issued : (s.unhold).issued = s.issued := rfl
@[simp] theorem State.unhold_rings : (s.unhold).rings = s.rings := rfl
@[simp] theorem State.unhold_handed : (s.unhold).handed = s.handed := rfl
@[simp] theorem State.unhold_rr : (s.unhold).rr = s.rr := rfl
@[simp] theorem State.unhold_flash : (s.unhold).flash = s.flash := rfl
@[simp] theorem State.unhold_time : (s.unhold).time = s.time := rfl
@[simp] theorem State.unhold_cmpw : (s.unhold).cmpw = s.cmpw := rfl
@[simp] theorem State.unhold_cnt : (s.unhold).cnt = s.cnt := rfl
@[simp] theorem State.unhold_bak : (s.unhold).bak = s.bak := rfl
@[simp] theorem State.unhold_radio : (s.unhold).radio = s.radio := rfl
@[simp] theorem State.unhold_mesh : (s.unhold).mesh = s.mesh := rfl
@[simp] theorem State.unhold_cip : (s.unhold).cip = s.cip := rfl
@[simp] theorem State.unhold_gnss : (s.unhold).gnss = s.gnss := rfl
@[simp] theorem State.unhold_csp : (s.unhold).csp = s.csp := rfl
@[simp] theorem State.unhold_tag : (s.unhold).tag = s.tag := rfl
@[simp] theorem State.unhold_bridge : (s.unhold).bridge = s.bridge := rfl
@[simp] theorem State.unhold_loops : (s.unhold).loops = s.loops := rfl
@[simp] theorem State.unhold_pads : (s.unhold).pads = s.pads := rfl
@[simp] theorem State.unhold_driven : (s.unhold).driven = s.driven := rfl

@[simp] theorem State.withPending_free (q : List Instr) : (s.withPending q).free = s.free := rfl
@[simp] theorem State.withPending_live (q : List Instr) : (s.withPending q).live = s.live := rfl
@[simp] theorem State.withPending_staged (q : List Instr) : (s.withPending q).staged = s.staged := rfl
@[simp] theorem State.withPending_sealed (q : List Instr) : (s.withPending q).sealed = s.sealed := rfl
@[simp] theorem State.withPending_mem (q : List Instr) : (s.withPending q).mem = s.mem := rfl
@[simp] theorem State.withPending_ledger (q : List Instr) : (s.withPending q).ledger = s.ledger := rfl
@[simp] theorem State.withPending_isl (q : List Instr) : (s.withPending q).isl = s.isl := rfl
@[simp] theorem State.withPending_power (q : List Instr) : (s.withPending q).power = s.power := rfl
@[simp] theorem State.withPending_clk (q : List Instr) : (s.withPending q).clk = s.clk := rfl
@[simp] theorem State.withPending_boot (q : List Instr) : (s.withPending q).boot = s.boot := rfl
@[simp] theorem State.withPending_threads (q : List Instr) : (s.withPending q).threads = s.threads := rfl
@[simp] theorem State.withPending_evring (q : List Instr) : (s.withPending q).evring = s.evring := rfl
@[simp] theorem State.withPending_late (q : List Instr) : (s.withPending q).late = s.late := rfl
@[simp] theorem State.withPending_made (q : List Instr) : (s.withPending q).made = s.made := rfl
@[simp] theorem State.withPending_lkDone (q : List Instr) : (s.withPending q).lkDone = s.lkDone := rfl
@[simp] theorem State.withPending_issued (q : List Instr) : (s.withPending q).issued = s.issued := rfl
@[simp] theorem State.withPending_rings (q : List Instr) : (s.withPending q).rings = s.rings := rfl
@[simp] theorem State.withPending_handed (q : List Instr) : (s.withPending q).handed = s.handed := rfl
@[simp] theorem State.withPending_rr (q : List Instr) : (s.withPending q).rr = s.rr := rfl
@[simp] theorem State.withPending_flash (q : List Instr) : (s.withPending q).flash = s.flash := rfl
@[simp] theorem State.withPending_time (q : List Instr) : (s.withPending q).time = s.time := rfl
@[simp] theorem State.withPending_cmpw (q : List Instr) : (s.withPending q).cmpw = s.cmpw := rfl
@[simp] theorem State.withPending_cnt (q : List Instr) : (s.withPending q).cnt = s.cnt := rfl
@[simp] theorem State.withPending_bak (q : List Instr) : (s.withPending q).bak = s.bak := rfl
@[simp] theorem State.withPending_radio (q : List Instr) : (s.withPending q).radio = s.radio := rfl
@[simp] theorem State.withPending_mesh (q : List Instr) : (s.withPending q).mesh = s.mesh := rfl
@[simp] theorem State.withPending_cip (q : List Instr) : (s.withPending q).cip = s.cip := rfl
@[simp] theorem State.withPending_gnss (q : List Instr) : (s.withPending q).gnss = s.gnss := rfl
@[simp] theorem State.withPending_csp (q : List Instr) : (s.withPending q).csp = s.csp := rfl
@[simp] theorem State.withPending_tag (q : List Instr) : (s.withPending q).tag = s.tag := rfl
@[simp] theorem State.withPending_bridge (q : List Instr) : (s.withPending q).bridge = s.bridge := rfl
@[simp] theorem State.withPending_loops (q : List Instr) : (s.withPending q).loops = s.loops := rfl
@[simp] theorem State.withPending_pads (q : List Instr) : (s.withPending q).pads = s.pads := rfl
@[simp] theorem State.withPending_driven (q : List Instr) : (s.withPending q).driven = s.driven := rfl

@[simp] theorem State.setAcct_pending (i : Nat) (a : Account) : (s.setAcct i a).pending = s.pending := rfl
@[simp] theorem State.setAcct_free (i : Nat) (a : Account) : (s.setAcct i a).free = s.free := rfl
@[simp] theorem State.setAcct_live (i : Nat) (a : Account) : (s.setAcct i a).live = s.live := rfl
@[simp] theorem State.setAcct_staged (i : Nat) (a : Account) : (s.setAcct i a).staged = s.staged := rfl
@[simp] theorem State.setAcct_sealed (i : Nat) (a : Account) : (s.setAcct i a).sealed = s.sealed := rfl
@[simp] theorem State.setAcct_mem (i : Nat) (a : Account) : (s.setAcct i a).mem = s.mem := rfl
@[simp] theorem State.setAcct_isl (i : Nat) (a : Account) : (s.setAcct i a).isl = s.isl := rfl
@[simp] theorem State.setAcct_power (i : Nat) (a : Account) : (s.setAcct i a).power = s.power := rfl
@[simp] theorem State.setAcct_clk (i : Nat) (a : Account) : (s.setAcct i a).clk = s.clk := rfl
@[simp] theorem State.setAcct_boot (i : Nat) (a : Account) : (s.setAcct i a).boot = s.boot := rfl
@[simp] theorem State.setAcct_threads (i : Nat) (a : Account) : (s.setAcct i a).threads = s.threads := rfl
@[simp] theorem State.setAcct_evring (i : Nat) (a : Account) : (s.setAcct i a).evring = s.evring := rfl
@[simp] theorem State.setAcct_late (i : Nat) (a : Account) : (s.setAcct i a).late = s.late := rfl
@[simp] theorem State.setAcct_made (i : Nat) (a : Account) : (s.setAcct i a).made = s.made := rfl
@[simp] theorem State.setAcct_lkDone (i : Nat) (a : Account) : (s.setAcct i a).lkDone = s.lkDone := rfl
@[simp] theorem State.setAcct_issued (i : Nat) (a : Account) : (s.setAcct i a).issued = s.issued := rfl
@[simp] theorem State.setAcct_rings (i : Nat) (a : Account) : (s.setAcct i a).rings = s.rings := rfl
@[simp] theorem State.setAcct_handed (i : Nat) (a : Account) : (s.setAcct i a).handed = s.handed := rfl
@[simp] theorem State.setAcct_rr (i : Nat) (a : Account) : (s.setAcct i a).rr = s.rr := rfl
@[simp] theorem State.setAcct_flash (i : Nat) (a : Account) : (s.setAcct i a).flash = s.flash := rfl
@[simp] theorem State.setAcct_time (i : Nat) (a : Account) : (s.setAcct i a).time = s.time := rfl
@[simp] theorem State.setAcct_cmpw (i : Nat) (a : Account) : (s.setAcct i a).cmpw = s.cmpw := rfl
@[simp] theorem State.setAcct_cnt (i : Nat) (a : Account) : (s.setAcct i a).cnt = s.cnt := rfl
@[simp] theorem State.setAcct_bak (i : Nat) (a : Account) : (s.setAcct i a).bak = s.bak := rfl
@[simp] theorem State.setAcct_radio (i : Nat) (a : Account) : (s.setAcct i a).radio = s.radio := rfl
@[simp] theorem State.setAcct_mesh (i : Nat) (a : Account) : (s.setAcct i a).mesh = s.mesh := rfl
@[simp] theorem State.setAcct_cip (i : Nat) (a : Account) : (s.setAcct i a).cip = s.cip := rfl
@[simp] theorem State.setAcct_gnss (i : Nat) (a : Account) : (s.setAcct i a).gnss = s.gnss := rfl
@[simp] theorem State.setAcct_csp (i : Nat) (a : Account) : (s.setAcct i a).csp = s.csp := rfl
@[simp] theorem State.setAcct_tag (i : Nat) (a : Account) : (s.setAcct i a).tag = s.tag := rfl
@[simp] theorem State.setAcct_bridge (i : Nat) (a : Account) : (s.setAcct i a).bridge = s.bridge := rfl
@[simp] theorem State.setAcct_loops (i : Nat) (a : Account) : (s.setAcct i a).loops = s.loops := rfl
@[simp] theorem State.setAcct_pads (i : Nat) (a : Account) : (s.setAcct i a).pads = s.pads := rfl
@[simp] theorem State.setAcct_driven (i : Nat) (a : Account) : (s.setAcct i a).driven = s.driven := rfl

@[simp] theorem State.setWin_pending (i : Nat) (w : Window) : (s.setWin i w).pending = s.pending := rfl
@[simp] theorem State.setWin_free (i : Nat) (w : Window) : (s.setWin i w).free = s.free := rfl
@[simp] theorem State.setWin_live (i : Nat) (w : Window) : (s.setWin i w).live = s.live := rfl
@[simp] theorem State.setWin_staged (i : Nat) (w : Window) : (s.setWin i w).staged = s.staged := rfl
@[simp] theorem State.setWin_sealed (i : Nat) (w : Window) : (s.setWin i w).sealed = s.sealed := rfl
@[simp] theorem State.setWin_mem (i : Nat) (w : Window) : (s.setWin i w).mem = s.mem := rfl
@[simp] theorem State.setWin_isl (i : Nat) (w : Window) : (s.setWin i w).isl = s.isl := rfl
@[simp] theorem State.setWin_power (i : Nat) (w : Window) : (s.setWin i w).power = s.power := rfl
@[simp] theorem State.setWin_clk (i : Nat) (w : Window) : (s.setWin i w).clk = s.clk := rfl
@[simp] theorem State.setWin_boot (i : Nat) (w : Window) : (s.setWin i w).boot = s.boot := rfl
@[simp] theorem State.setWin_threads (i : Nat) (w : Window) : (s.setWin i w).threads = s.threads := rfl
@[simp] theorem State.setWin_evring (i : Nat) (w : Window) : (s.setWin i w).evring = s.evring := rfl
@[simp] theorem State.setWin_late (i : Nat) (w : Window) : (s.setWin i w).late = s.late := rfl
@[simp] theorem State.setWin_made (i : Nat) (w : Window) : (s.setWin i w).made = s.made := rfl
@[simp] theorem State.setWin_lkDone (i : Nat) (w : Window) : (s.setWin i w).lkDone = s.lkDone := rfl
@[simp] theorem State.setWin_issued (i : Nat) (w : Window) : (s.setWin i w).issued = s.issued := rfl
@[simp] theorem State.setWin_rings (i : Nat) (w : Window) : (s.setWin i w).rings = s.rings := rfl
@[simp] theorem State.setWin_handed (i : Nat) (w : Window) : (s.setWin i w).handed = s.handed := rfl
@[simp] theorem State.setWin_rr (i : Nat) (w : Window) : (s.setWin i w).rr = s.rr := rfl
@[simp] theorem State.setWin_flash (i : Nat) (w : Window) : (s.setWin i w).flash = s.flash := rfl
@[simp] theorem State.setWin_time (i : Nat) (w : Window) : (s.setWin i w).time = s.time := rfl
@[simp] theorem State.setWin_cmpw (i : Nat) (w : Window) : (s.setWin i w).cmpw = s.cmpw := rfl
@[simp] theorem State.setWin_cnt (i : Nat) (w : Window) : (s.setWin i w).cnt = s.cnt := rfl
@[simp] theorem State.setWin_bak (i : Nat) (w : Window) : (s.setWin i w).bak = s.bak := rfl
@[simp] theorem State.setWin_radio (i : Nat) (w : Window) : (s.setWin i w).radio = s.radio := rfl
@[simp] theorem State.setWin_mesh (i : Nat) (w : Window) : (s.setWin i w).mesh = s.mesh := rfl
@[simp] theorem State.setWin_cip (i : Nat) (w : Window) : (s.setWin i w).cip = s.cip := rfl
@[simp] theorem State.setWin_gnss (i : Nat) (w : Window) : (s.setWin i w).gnss = s.gnss := rfl
@[simp] theorem State.setWin_csp (i : Nat) (w : Window) : (s.setWin i w).csp = s.csp := rfl
@[simp] theorem State.setWin_tag (i : Nat) (w : Window) : (s.setWin i w).tag = s.tag := rfl
@[simp] theorem State.setWin_bridge (i : Nat) (w : Window) : (s.setWin i w).bridge = s.bridge := rfl
@[simp] theorem State.setWin_loops (i : Nat) (w : Window) : (s.setWin i w).loops = s.loops := rfl
@[simp] theorem State.setWin_pads (i : Nat) (w : Window) : (s.setWin i w).pads = s.pads := rfl
@[simp] theorem State.setWin_driven (i : Nat) (w : Window) : (s.setWin i w).driven = s.driven := rfl

@[simp] theorem State.clearBip_pending (t : ThreadId) : (s.clearBip t).pending = s.pending := rfl
@[simp] theorem State.clearBip_free (t : ThreadId) : (s.clearBip t).free = s.free := rfl
@[simp] theorem State.clearBip_live (t : ThreadId) : (s.clearBip t).live = s.live := rfl
@[simp] theorem State.clearBip_staged (t : ThreadId) : (s.clearBip t).staged = s.staged := rfl
@[simp] theorem State.clearBip_sealed (t : ThreadId) : (s.clearBip t).sealed = s.sealed := rfl
@[simp] theorem State.clearBip_mem (t : ThreadId) : (s.clearBip t).mem = s.mem := rfl
@[simp] theorem State.clearBip_ledger (t : ThreadId) : (s.clearBip t).ledger = s.ledger := rfl
@[simp] theorem State.clearBip_isl (t : ThreadId) : (s.clearBip t).isl = s.isl := rfl
@[simp] theorem State.clearBip_power (t : ThreadId) : (s.clearBip t).power = s.power := rfl
@[simp] theorem State.clearBip_clk (t : ThreadId) : (s.clearBip t).clk = s.clk := rfl
@[simp] theorem State.clearBip_boot (t : ThreadId) : (s.clearBip t).boot = s.boot := rfl
@[simp] theorem State.clearBip_evring (t : ThreadId) : (s.clearBip t).evring = s.evring := rfl
@[simp] theorem State.clearBip_late (t : ThreadId) : (s.clearBip t).late = s.late := rfl
@[simp] theorem State.clearBip_made (t : ThreadId) : (s.clearBip t).made = s.made := rfl
@[simp] theorem State.clearBip_lkDone (t : ThreadId) : (s.clearBip t).lkDone = s.lkDone := rfl
@[simp] theorem State.clearBip_issued (t : ThreadId) : (s.clearBip t).issued = s.issued := rfl
@[simp] theorem State.clearBip_rings (t : ThreadId) : (s.clearBip t).rings = s.rings := rfl
@[simp] theorem State.clearBip_handed (t : ThreadId) : (s.clearBip t).handed = s.handed := rfl
@[simp] theorem State.clearBip_rr (t : ThreadId) : (s.clearBip t).rr = s.rr := rfl
@[simp] theorem State.clearBip_flash (t : ThreadId) : (s.clearBip t).flash = s.flash := rfl
@[simp] theorem State.clearBip_time (t : ThreadId) : (s.clearBip t).time = s.time := rfl
@[simp] theorem State.clearBip_cmpw (t : ThreadId) : (s.clearBip t).cmpw = s.cmpw := rfl
@[simp] theorem State.clearBip_cnt (t : ThreadId) : (s.clearBip t).cnt = s.cnt := rfl
@[simp] theorem State.clearBip_bak (t : ThreadId) : (s.clearBip t).bak = s.bak := rfl
@[simp] theorem State.clearBip_radio (t : ThreadId) : (s.clearBip t).radio = s.radio := rfl
@[simp] theorem State.clearBip_mesh (t : ThreadId) : (s.clearBip t).mesh = s.mesh := rfl
@[simp] theorem State.clearBip_cip (t : ThreadId) : (s.clearBip t).cip = s.cip := rfl
@[simp] theorem State.clearBip_gnss (t : ThreadId) : (s.clearBip t).gnss = s.gnss := rfl
@[simp] theorem State.clearBip_csp (t : ThreadId) : (s.clearBip t).csp = s.csp := rfl
@[simp] theorem State.clearBip_tag (t : ThreadId) : (s.clearBip t).tag = s.tag := rfl
@[simp] theorem State.clearBip_bridge (t : ThreadId) : (s.clearBip t).bridge = s.bridge := rfl
@[simp] theorem State.clearBip_loops (t : ThreadId) : (s.clearBip t).loops = s.loops := rfl
@[simp] theorem State.clearBip_pads (t : ThreadId) : (s.clearBip t).pads = s.pads := rfl
@[simp] theorem State.clearBip_driven (t : ThreadId) : (s.clearBip t).driven = s.driven := rfl

@[simp] theorem State.unissue_pending (t : ThreadId) : (s.unissue t).pending = s.pending := rfl
@[simp] theorem State.unissue_free (t : ThreadId) : (s.unissue t).free = s.free := rfl
@[simp] theorem State.unissue_live (t : ThreadId) : (s.unissue t).live = s.live := rfl
@[simp] theorem State.unissue_staged (t : ThreadId) : (s.unissue t).staged = s.staged := rfl
@[simp] theorem State.unissue_sealed (t : ThreadId) : (s.unissue t).sealed = s.sealed := rfl
@[simp] theorem State.unissue_mem (t : ThreadId) : (s.unissue t).mem = s.mem := rfl
@[simp] theorem State.unissue_ledger (t : ThreadId) : (s.unissue t).ledger = s.ledger := rfl
@[simp] theorem State.unissue_isl (t : ThreadId) : (s.unissue t).isl = s.isl := rfl
@[simp] theorem State.unissue_power (t : ThreadId) : (s.unissue t).power = s.power := rfl
@[simp] theorem State.unissue_clk (t : ThreadId) : (s.unissue t).clk = s.clk := rfl
@[simp] theorem State.unissue_boot (t : ThreadId) : (s.unissue t).boot = s.boot := rfl
@[simp] theorem State.unissue_evring (t : ThreadId) : (s.unissue t).evring = s.evring := rfl
@[simp] theorem State.unissue_late (t : ThreadId) : (s.unissue t).late = s.late := rfl
@[simp] theorem State.unissue_made (t : ThreadId) : (s.unissue t).made = s.made := rfl
@[simp] theorem State.unissue_lkDone (t : ThreadId) : (s.unissue t).lkDone = s.lkDone := rfl
@[simp] theorem State.unissue_issued (t : ThreadId) : (s.unissue t).issued = s.issued := rfl
@[simp] theorem State.unissue_rings (t : ThreadId) : (s.unissue t).rings = s.rings := rfl
@[simp] theorem State.unissue_handed (t : ThreadId) : (s.unissue t).handed = s.handed := rfl
@[simp] theorem State.unissue_rr (t : ThreadId) : (s.unissue t).rr = s.rr := rfl
@[simp] theorem State.unissue_flash (t : ThreadId) : (s.unissue t).flash = s.flash := rfl
@[simp] theorem State.unissue_time (t : ThreadId) : (s.unissue t).time = s.time := rfl
@[simp] theorem State.unissue_cmpw (t : ThreadId) : (s.unissue t).cmpw = s.cmpw := rfl
@[simp] theorem State.unissue_cnt (t : ThreadId) : (s.unissue t).cnt = s.cnt := rfl
@[simp] theorem State.unissue_bak (t : ThreadId) : (s.unissue t).bak = s.bak := rfl
@[simp] theorem State.unissue_radio (t : ThreadId) : (s.unissue t).radio = s.radio := rfl
@[simp] theorem State.unissue_mesh (t : ThreadId) : (s.unissue t).mesh = s.mesh := rfl
@[simp] theorem State.unissue_cip (t : ThreadId) : (s.unissue t).cip = s.cip := rfl
@[simp] theorem State.unissue_gnss (t : ThreadId) : (s.unissue t).gnss = s.gnss := rfl
@[simp] theorem State.unissue_csp (t : ThreadId) : (s.unissue t).csp = s.csp := rfl
@[simp] theorem State.unissue_tag (t : ThreadId) : (s.unissue t).tag = s.tag := rfl
@[simp] theorem State.unissue_bridge (t : ThreadId) : (s.unissue t).bridge = s.bridge := rfl
@[simp] theorem State.unissue_loops (t : ThreadId) : (s.unissue t).loops = s.loops := rfl
@[simp] theorem State.unissue_pads (t : ThreadId) : (s.unissue t).pads = s.pads := rfl
@[simp] theorem State.unissue_driven (t : ThreadId) : (s.unissue t).driven = s.driven := rfl

@[simp] theorem State.skip_pending (t : ThreadId) : (s.skip t).pending = s.pending := rfl
@[simp] theorem State.skip_free (t : ThreadId) : (s.skip t).free = s.free := rfl
@[simp] theorem State.skip_live (t : ThreadId) : (s.skip t).live = s.live := rfl
@[simp] theorem State.skip_staged (t : ThreadId) : (s.skip t).staged = s.staged := rfl
@[simp] theorem State.skip_sealed (t : ThreadId) : (s.skip t).sealed = s.sealed := rfl
@[simp] theorem State.skip_mem (t : ThreadId) : (s.skip t).mem = s.mem := rfl
@[simp] theorem State.skip_ledger (t : ThreadId) : (s.skip t).ledger = s.ledger := rfl
@[simp] theorem State.skip_isl (t : ThreadId) : (s.skip t).isl = s.isl := rfl
@[simp] theorem State.skip_power (t : ThreadId) : (s.skip t).power = s.power := rfl
@[simp] theorem State.skip_clk (t : ThreadId) : (s.skip t).clk = s.clk := rfl
@[simp] theorem State.skip_boot (t : ThreadId) : (s.skip t).boot = s.boot := rfl
@[simp] theorem State.skip_evring (t : ThreadId) : (s.skip t).evring = s.evring := rfl
@[simp] theorem State.skip_late (t : ThreadId) : (s.skip t).late = s.late := rfl
@[simp] theorem State.skip_made (t : ThreadId) : (s.skip t).made = s.made := rfl
@[simp] theorem State.skip_lkDone (t : ThreadId) : (s.skip t).lkDone = s.lkDone := rfl
@[simp] theorem State.skip_issued (t : ThreadId) : (s.skip t).issued = s.issued := rfl
@[simp] theorem State.skip_rings (t : ThreadId) : (s.skip t).rings = s.rings := rfl
@[simp] theorem State.skip_handed (t : ThreadId) : (s.skip t).handed = s.handed := rfl
@[simp] theorem State.skip_rr (t : ThreadId) : (s.skip t).rr = s.rr := rfl
@[simp] theorem State.skip_flash (t : ThreadId) : (s.skip t).flash = s.flash := rfl
@[simp] theorem State.skip_time (t : ThreadId) : (s.skip t).time = s.time := rfl
@[simp] theorem State.skip_cmpw (t : ThreadId) : (s.skip t).cmpw = s.cmpw := rfl
@[simp] theorem State.skip_cnt (t : ThreadId) : (s.skip t).cnt = s.cnt := rfl
@[simp] theorem State.skip_bak (t : ThreadId) : (s.skip t).bak = s.bak := rfl
@[simp] theorem State.skip_radio (t : ThreadId) : (s.skip t).radio = s.radio := rfl
@[simp] theorem State.skip_mesh (t : ThreadId) : (s.skip t).mesh = s.mesh := rfl
@[simp] theorem State.skip_cip (t : ThreadId) : (s.skip t).cip = s.cip := rfl
@[simp] theorem State.skip_gnss (t : ThreadId) : (s.skip t).gnss = s.gnss := rfl
@[simp] theorem State.skip_csp (t : ThreadId) : (s.skip t).csp = s.csp := rfl
@[simp] theorem State.skip_tag (t : ThreadId) : (s.skip t).tag = s.tag := rfl
@[simp] theorem State.skip_bridge (t : ThreadId) : (s.skip t).bridge = s.bridge := rfl
@[simp] theorem State.skip_loops (t : ThreadId) : (s.skip t).loops = s.loops := rfl
@[simp] theorem State.skip_pads (t : ThreadId) : (s.skip t).pads = s.pads := rfl
@[simp] theorem State.skip_driven (t : ThreadId) : (s.skip t).driven = s.driven := rfl

@[simp] theorem State.write_pending (t : ThreadId) (r : Reg) (w : TWord) : (s.write t r w).pending = s.pending := rfl
@[simp] theorem State.write_free (t : ThreadId) (r : Reg) (w : TWord) : (s.write t r w).free = s.free := rfl
@[simp] theorem State.write_live (t : ThreadId) (r : Reg) (w : TWord) : (s.write t r w).live = s.live := rfl
@[simp] theorem State.write_staged (t : ThreadId) (r : Reg) (w : TWord) : (s.write t r w).staged = s.staged := rfl
@[simp] theorem State.write_sealed (t : ThreadId) (r : Reg) (w : TWord) : (s.write t r w).sealed = s.sealed := rfl
@[simp] theorem State.write_mem (t : ThreadId) (r : Reg) (w : TWord) : (s.write t r w).mem = s.mem := rfl
@[simp] theorem State.write_ledger (t : ThreadId) (r : Reg) (w : TWord) : (s.write t r w).ledger = s.ledger := rfl
@[simp] theorem State.write_isl (t : ThreadId) (r : Reg) (w : TWord) : (s.write t r w).isl = s.isl := rfl
@[simp] theorem State.write_power (t : ThreadId) (r : Reg) (w : TWord) : (s.write t r w).power = s.power := rfl
@[simp] theorem State.write_clk (t : ThreadId) (r : Reg) (w : TWord) : (s.write t r w).clk = s.clk := rfl
@[simp] theorem State.write_boot (t : ThreadId) (r : Reg) (w : TWord) : (s.write t r w).boot = s.boot := rfl
@[simp] theorem State.write_evring (t : ThreadId) (r : Reg) (w : TWord) : (s.write t r w).evring = s.evring := rfl
@[simp] theorem State.write_late (t : ThreadId) (r : Reg) (w : TWord) : (s.write t r w).late = s.late := rfl
@[simp] theorem State.write_made (t : ThreadId) (r : Reg) (w : TWord) : (s.write t r w).made = s.made := rfl
@[simp] theorem State.write_lkDone (t : ThreadId) (r : Reg) (w : TWord) : (s.write t r w).lkDone = s.lkDone := rfl
@[simp] theorem State.write_issued (t : ThreadId) (r : Reg) (w : TWord) : (s.write t r w).issued = s.issued := rfl
@[simp] theorem State.write_rings (t : ThreadId) (r : Reg) (w : TWord) : (s.write t r w).rings = s.rings := rfl
@[simp] theorem State.write_handed (t : ThreadId) (r : Reg) (w : TWord) : (s.write t r w).handed = s.handed := rfl
@[simp] theorem State.write_rr (t : ThreadId) (r : Reg) (w : TWord) : (s.write t r w).rr = s.rr := rfl
@[simp] theorem State.write_flash (t : ThreadId) (r : Reg) (w : TWord) : (s.write t r w).flash = s.flash := rfl
@[simp] theorem State.write_time (t : ThreadId) (r : Reg) (w : TWord) : (s.write t r w).time = s.time := rfl
@[simp] theorem State.write_cmpw (t : ThreadId) (r : Reg) (w : TWord) : (s.write t r w).cmpw = s.cmpw := rfl
@[simp] theorem State.write_cnt (t : ThreadId) (r : Reg) (w : TWord) : (s.write t r w).cnt = s.cnt := rfl
@[simp] theorem State.write_bak (t : ThreadId) (r : Reg) (w : TWord) : (s.write t r w).bak = s.bak := rfl
@[simp] theorem State.write_radio (t : ThreadId) (r : Reg) (w : TWord) : (s.write t r w).radio = s.radio := rfl
@[simp] theorem State.write_mesh (t : ThreadId) (r : Reg) (w : TWord) : (s.write t r w).mesh = s.mesh := rfl
@[simp] theorem State.write_cip (t : ThreadId) (r : Reg) (w : TWord) : (s.write t r w).cip = s.cip := rfl
@[simp] theorem State.write_gnss (t : ThreadId) (r : Reg) (w : TWord) : (s.write t r w).gnss = s.gnss := rfl
@[simp] theorem State.write_csp (t : ThreadId) (r : Reg) (w : TWord) : (s.write t r w).csp = s.csp := rfl
@[simp] theorem State.write_tag (t : ThreadId) (r : Reg) (w : TWord) : (s.write t r w).tag = s.tag := rfl
@[simp] theorem State.write_bridge (t : ThreadId) (r : Reg) (w : TWord) : (s.write t r w).bridge = s.bridge := rfl
@[simp] theorem State.write_loops (t : ThreadId) (r : Reg) (w : TWord) : (s.write t r w).loops = s.loops := rfl
@[simp] theorem State.write_pads (t : ThreadId) (r : Reg) (w : TWord) : (s.write t r w).pads = s.pads := rfl
@[simp] theorem State.write_driven (t : ThreadId) (r : Reg) (w : TWord) : (s.write t r w).driven = s.driven := rfl

@[simp] theorem State.setCsp_pending (c : Csp) : (s.setCsp c).pending = s.pending := rfl
@[simp] theorem State.setCsp_free (c : Csp) : (s.setCsp c).free = s.free := rfl
@[simp] theorem State.setCsp_live (c : Csp) : (s.setCsp c).live = s.live := rfl
@[simp] theorem State.setCsp_staged (c : Csp) : (s.setCsp c).staged = s.staged := rfl
@[simp] theorem State.setCsp_sealed (c : Csp) : (s.setCsp c).sealed = s.sealed := rfl
@[simp] theorem State.setCsp_mem (c : Csp) : (s.setCsp c).mem = s.mem := rfl
@[simp] theorem State.setCsp_ledger (c : Csp) : (s.setCsp c).ledger = s.ledger := rfl
@[simp] theorem State.setCsp_isl (c : Csp) : (s.setCsp c).isl = s.isl := rfl
@[simp] theorem State.setCsp_power (c : Csp) : (s.setCsp c).power = s.power := rfl
@[simp] theorem State.setCsp_clk (c : Csp) : (s.setCsp c).clk = s.clk := rfl
@[simp] theorem State.setCsp_boot (c : Csp) : (s.setCsp c).boot = s.boot := rfl
@[simp] theorem State.setCsp_threads (c : Csp) : (s.setCsp c).threads = s.threads := rfl
@[simp] theorem State.setCsp_evring (c : Csp) : (s.setCsp c).evring = s.evring := rfl
@[simp] theorem State.setCsp_late (c : Csp) : (s.setCsp c).late = s.late := rfl
@[simp] theorem State.setCsp_made (c : Csp) : (s.setCsp c).made = s.made := rfl
@[simp] theorem State.setCsp_lkDone (c : Csp) : (s.setCsp c).lkDone = s.lkDone := rfl
@[simp] theorem State.setCsp_issued (c : Csp) : (s.setCsp c).issued = s.issued := rfl
@[simp] theorem State.setCsp_rings (c : Csp) : (s.setCsp c).rings = s.rings := rfl
@[simp] theorem State.setCsp_handed (c : Csp) : (s.setCsp c).handed = s.handed := rfl
@[simp] theorem State.setCsp_rr (c : Csp) : (s.setCsp c).rr = s.rr := rfl
@[simp] theorem State.setCsp_flash (c : Csp) : (s.setCsp c).flash = s.flash := rfl
@[simp] theorem State.setCsp_time (c : Csp) : (s.setCsp c).time = s.time := rfl
@[simp] theorem State.setCsp_cmpw (c : Csp) : (s.setCsp c).cmpw = s.cmpw := rfl
@[simp] theorem State.setCsp_cnt (c : Csp) : (s.setCsp c).cnt = s.cnt := rfl
@[simp] theorem State.setCsp_bak (c : Csp) : (s.setCsp c).bak = s.bak := rfl
@[simp] theorem State.setCsp_radio (c : Csp) : (s.setCsp c).radio = s.radio := rfl
@[simp] theorem State.setCsp_mesh (c : Csp) : (s.setCsp c).mesh = s.mesh := rfl
@[simp] theorem State.setCsp_cip (c : Csp) : (s.setCsp c).cip = s.cip := rfl
@[simp] theorem State.setCsp_gnss (c : Csp) : (s.setCsp c).gnss = s.gnss := rfl
@[simp] theorem State.setCsp_tag (c : Csp) : (s.setCsp c).tag = s.tag := rfl
@[simp] theorem State.setCsp_bridge (c : Csp) : (s.setCsp c).bridge = s.bridge := rfl
@[simp] theorem State.setCsp_loops (c : Csp) : (s.setCsp c).loops = s.loops := rfl
@[simp] theorem State.setCsp_pads (c : Csp) : (s.setCsp c).pads = s.pads := rfl
@[simp] theorem State.setCsp_driven (c : Csp) : (s.setCsp c).driven = s.driven := rfl

/-! ### Changed fields -/

@[simp] theorem State.fresh_free : s.fresh.free = s.free + 1 := rfl
@[simp] theorem State.withPending_pending (q : List Instr) : (s.withPending q).pending = q := rfl
@[simp] theorem State.poke_mem (a : Nat) (w : TWord) : (s.poke a w).mem = s.mem.setWord a w := rfl

/-! ### Tables -/

theorem vget_eq {α : Type} {n : Nat} (v : Vector α n) (i : Fin n) : vget v i = v[i.val] := rfl

@[simp] theorem vget_vset_self {α : Type} {n : Nat} (v : Vector α n) (i : Fin n) (x : α) : vget (vset v i x) i = x := by
  rw [vget_eq]
  exact Vector.getElem_set_self i.isLt

theorem vget_vset_ne {α : Type} {n : Nat} (v : Vector α n) {i j : Fin n} (x : α) (h : i ≠ j) :
    vget (vset v i x) j = vget v j := by
  rw [vget_eq, vget_eq]
  exact Vector.getElem_set_ne i.isLt j.isLt (fun e => h (Fin.ext e))

@[simp] theorem State.thr_setThr_self (t : ThreadId) (x : Thread) : (s.setThr t x).thr t = x := vget_vset_self _ _ _

theorem State.thr_setThr_ne {t u : ThreadId} (x : Thread) (h : t ≠ u) : (s.setThr t x).thr u = s.thr u := vget_vset_ne _ _ h

@[simp] theorem State.ring_setRing_self (n : RingId) (x : Ring) : (s.setRing n x).ring n = x := vget_vset_self _ _ _

theorem State.ring_setRing_ne {n m : RingId} (x : Ring) (h : n ≠ m) : (s.setRing n x).ring m = s.ring m := vget_vset_ne _ _ h

theorem Island.idx_ne {i j : Island} (h : i ≠ j) : Island.idx i ≠ Island.idx j := by
  revert h
  cases i <;> cases j <;> simp [Island.idx]

@[simp] theorem State.island_setIsland_self (i : Island) (x : IslandSt) : (s.setIsland i x).island i = x := vget_vset_self _ _ _

theorem State.island_setIsland_ne {i j : Island} (x : IslandSt) (h : i ≠ j) : (s.setIsland i x).island j = s.island j :=
  vget_vset_ne _ _ (Island.idx_ne h)

/-! ### Threads -/

/-- A register reads back what was put there, but for g0, which reads INT 0 (04 R152). -/
theorem Thread.get_put_self (x : Thread) (r : Reg) (w : TWord) : (x.put r w).get r = if r = 0 then ⟨0, .int⟩ else w := by
  by_cases h : r = 0 <;> simp [Thread.put, Thread.get, h]

/-- The other registers read as before. -/
theorem Thread.get_put_ne (x : Thread) {r q : Reg} (w : TWord) (h : r ≠ q) : (x.put r w).get q = x.get q := by
  by_cases h0 : r = 0
  · simp [Thread.put, h0]
  · by_cases hq : q = 0
    · simp [Thread.get, hq]
    · simp [Thread.put, Thread.get, h0, hq, vget_vset_ne _ _ h]

/-- g0 reads INT 0 (04 R152). -/
@[simp] theorem Thread.get_zero (x : Thread) : x.get 0 = ⟨0, .int⟩ := by simp [Thread.get]

@[simp] theorem Thread.put_pc (x : Thread) (r : Reg) (w : TWord) : (x.put r w).pc = x.pc := by
  unfold Thread.put; split <;> rfl
@[simp] theorem Thread.put_z (x : Thread) (r : Reg) (w : TWord) : (x.put r w).z = x.z := by
  unfold Thread.put; split <;> rfl
@[simp] theorem Thread.put_n (x : Thread) (r : Reg) (w : TWord) : (x.put r w).n = x.n := by
  unfold Thread.put; split <;> rfl
@[simp] theorem Thread.put_c (x : Thread) (r : Reg) (w : TWord) : (x.put r w).c = x.c := by
  unfold Thread.put; split <;> rfl
@[simp] theorem Thread.put_v (x : Thread) (r : Reg) (w : TWord) : (x.put r w).v = x.v := by
  unfold Thread.put; split <;> rfl
@[simp] theorem Thread.put_mode (x : Thread) (r : Reg) (w : TWord) : (x.put r w).mode = x.mode := by
  unfold Thread.put; split <;> rfl
@[simp] theorem Thread.put_bip (x : Thread) (r : Reg) (w : TWord) : (x.put r w).bip = x.bip := by
  unfold Thread.put; split <;> rfl
@[simp] theorem Thread.put_ent (x : Thread) (r : Reg) (w : TWord) : (x.put r w).ent = x.ent := by
  unfold Thread.put; split <;> rfl
@[simp] theorem Thread.put_pmode (x : Thread) (r : Reg) (w : TWord) : (x.put r w).pmode = x.pmode := by
  unfold Thread.put; split <;> rfl
@[simp] theorem Thread.put_snuff (x : Thread) (r : Reg) (w : TWord) : (x.put r w).snuff = x.snuff := by
  unfold Thread.put; split <;> rfl
@[simp] theorem Thread.put_st (x : Thread) (r : Reg) (w : TWord) : (x.put r w).st = x.st := by
  unfold Thread.put; split <;> rfl
@[simp] theorem Thread.put_pend (x : Thread) (r : Reg) (w : TWord) : (x.put r w).pend = x.pend := by
  unfold Thread.put; split <;> rfl
@[simp] theorem Thread.put_wmask (x : Thread) (r : Reg) (w : TWord) : (x.put r w).wmask = x.wmask := by
  unfold Thread.put; split <;> rfl
@[simp] theorem Thread.put_epc (x : Thread) (r : Reg) (w : TWord) : (x.put r w).epc = x.epc := by
  unfold Thread.put; split <;> rfl
@[simp] theorem Thread.put_ecause (x : Thread) (r : Reg) (w : TWord) : (x.put r w).ecause = x.ecause := by
  unfold Thread.put; split <;> rfl
@[simp] theorem Thread.put_eaddr (x : Thread) (r : Reg) (w : TWord) : (x.put r w).eaddr = x.eaddr := by
  unfold Thread.put; split <;> rfl
@[simp] theorem Thread.put_waitRd (x : Thread) (r : Reg) (w : TWord) : (x.put r w).waitRd = x.waitRd := by
  unfold Thread.put; split <;> rfl
@[simp] theorem Thread.put_issued (x : Thread) (r : Reg) (w : TWord) : (x.put r w).issued = x.issued := by
  unfold Thread.put; split <;> rfl
@[simp] theorem Thread.put_stopping (x : Thread) (r : Reg) (w : TWord) : (x.put r w).stopping = x.stopping := by
  unfold Thread.put; split <;> rfl
@[simp] theorem Thread.next_regs (x : Thread) : x.next.regs = x.regs := rfl
@[simp] theorem Thread.next_z (x : Thread) : x.next.z = x.z := rfl
@[simp] theorem Thread.next_n (x : Thread) : x.next.n = x.n := rfl
@[simp] theorem Thread.next_c (x : Thread) : x.next.c = x.c := rfl
@[simp] theorem Thread.next_v (x : Thread) : x.next.v = x.v := rfl
@[simp] theorem Thread.next_mode (x : Thread) : x.next.mode = x.mode := rfl
@[simp] theorem Thread.next_bip (x : Thread) : x.next.bip = x.bip := rfl
@[simp] theorem Thread.next_ent (x : Thread) : x.next.ent = x.ent := rfl
@[simp] theorem Thread.next_pmode (x : Thread) : x.next.pmode = x.pmode := rfl
@[simp] theorem Thread.next_snuff (x : Thread) : x.next.snuff = x.snuff := rfl
@[simp] theorem Thread.next_st (x : Thread) : x.next.st = x.st := rfl
@[simp] theorem Thread.next_pend (x : Thread) : x.next.pend = x.pend := rfl
@[simp] theorem Thread.next_wmask (x : Thread) : x.next.wmask = x.wmask := rfl
@[simp] theorem Thread.next_epc (x : Thread) : x.next.epc = x.epc := rfl
@[simp] theorem Thread.next_ecause (x : Thread) : x.next.ecause = x.ecause := rfl
@[simp] theorem Thread.next_eaddr (x : Thread) : x.next.eaddr = x.eaddr := rfl
@[simp] theorem Thread.next_waitRd (x : Thread) : x.next.waitRd = x.waitRd := rfl
@[simp] theorem Thread.next_issued (x : Thread) : x.next.issued = x.issued := rfl
@[simp] theorem Thread.next_stopping (x : Thread) : x.next.stopping = x.stopping := rfl
@[simp] theorem Thread.next_pc (x : Thread) : x.next.pc = x.pc + 4 := rfl
@[simp] theorem Thread.setFlags_regs (x : Thread) (g : FlagSet) : (x.setFlags g).regs = x.regs := rfl
@[simp] theorem Thread.setFlags_pc (x : Thread) (g : FlagSet) : (x.setFlags g).pc = x.pc := rfl
@[simp] theorem Thread.setFlags_mode (x : Thread) (g : FlagSet) : (x.setFlags g).mode = x.mode := rfl
@[simp] theorem Thread.setFlags_bip (x : Thread) (g : FlagSet) : (x.setFlags g).bip = x.bip := rfl
@[simp] theorem Thread.setFlags_ent (x : Thread) (g : FlagSet) : (x.setFlags g).ent = x.ent := rfl
@[simp] theorem Thread.setFlags_pmode (x : Thread) (g : FlagSet) : (x.setFlags g).pmode = x.pmode := rfl
@[simp] theorem Thread.setFlags_snuff (x : Thread) (g : FlagSet) : (x.setFlags g).snuff = x.snuff := rfl
@[simp] theorem Thread.setFlags_st (x : Thread) (g : FlagSet) : (x.setFlags g).st = x.st := rfl
@[simp] theorem Thread.setFlags_pend (x : Thread) (g : FlagSet) : (x.setFlags g).pend = x.pend := rfl
@[simp] theorem Thread.setFlags_wmask (x : Thread) (g : FlagSet) : (x.setFlags g).wmask = x.wmask := rfl
@[simp] theorem Thread.setFlags_epc (x : Thread) (g : FlagSet) : (x.setFlags g).epc = x.epc := rfl
@[simp] theorem Thread.setFlags_ecause (x : Thread) (g : FlagSet) : (x.setFlags g).ecause = x.ecause := rfl
@[simp] theorem Thread.setFlags_eaddr (x : Thread) (g : FlagSet) : (x.setFlags g).eaddr = x.eaddr := rfl
@[simp] theorem Thread.setFlags_waitRd (x : Thread) (g : FlagSet) : (x.setFlags g).waitRd = x.waitRd := rfl
@[simp] theorem Thread.setFlags_issued (x : Thread) (g : FlagSet) : (x.setFlags g).issued = x.issued := rfl
@[simp] theorem Thread.setFlags_stopping (x : Thread) (g : FlagSet) : (x.setFlags g).stopping = x.stopping := rfl

@[simp] theorem Thread.next_get (x : Thread) (r : Reg) : x.next.get r = x.get r := rfl
@[simp] theorem Thread.setFlags_get (x : Thread) (g : FlagSet) (r : Reg) : (x.setFlags g).get r = x.get r := rfl

/-- A thread's registers, flags and the rest as an instruction meets them: TSW.BIP is clear, and no access waits. -/
@[simp] theorem State.thr_clearBip (t : ThreadId) : (s.clearBip t).thr t = { s.thr t with bip := false, issued := Held.no } := by
  simp [State.clearBip]

@[simp] theorem State.thr_unissue (t : ThreadId) : (s.unissue t).thr t = { s.thr t with issued := Held.no } := by
  simp [State.unissue]

theorem State.thr_unissue_ne {t u : ThreadId} (h : t ≠ u) : (s.unissue t).thr u = s.thr u := s.thr_setThr_ne _ h

theorem State.thr_clearBip_ne {t u : ThreadId} (h : t ≠ u) : (s.clearBip t).thr u = s.thr u := s.thr_setThr_ne _ h

@[simp] theorem State.thr_write (t : ThreadId) (r : Reg) (w : TWord) : (s.write t r w).thr t = ((s.thr t).put r w).next := by
  simp [State.write]

theorem State.thr_write_ne {t u : ThreadId} (r : Reg) (w : TWord) (h : t ≠ u) : (s.write t r w).thr u = s.thr u :=
  s.thr_setThr_ne _ h

@[simp] theorem State.thr_skip (t : ThreadId) : (s.skip t).thr t = (s.thr t).next := by simp [State.skip]

theorem State.thr_skip_ne {t u : ThreadId} (h : t ≠ u) : (s.skip t).thr u = s.thr u := s.thr_setThr_ne _ h

/-! ### Accessors that an update does not touch -/

@[simp] theorem State.stg_setReg (a : Nat) (v : Word) (b : Nat) : (s.setReg a v).stg b = s.stg b := rfl
@[simp] theorem State.thr_setReg (a : Nat) (v : Word) (u : ThreadId) : (s.setReg a v).thr u = s.thr u := rfl
@[simp] theorem State.island_setReg (a : Nat) (v : Word) (j : Island) : (s.setReg a v).island j = s.island j := rfl
@[simp] theorem State.lit_setReg (a : Nat) (v : Word) (j : Island) : (s.setReg a v).lit j = s.lit j := rfl
@[simp] theorem State.ring_setReg (a : Nat) (v : Word) (m : RingId) : (s.setReg a v).ring m = s.ring m := rfl
@[simp] theorem State.acct_setReg (a : Nat) (v : Word) (k : Nat) : (s.setReg a v).acct k = s.acct k := rfl
@[simp] theorem State.win_setReg (a : Nat) (v : Word) (k : Nat) : (s.setReg a v).win k = s.win k := rfl
@[simp] theorem State.word_setReg (a : Nat) (v : Word) (b : Nat) : (s.setReg a v).word b = s.word b := rfl
@[simp] theorem State.now_setReg (a : Nat) (v : Word) : (s.setReg a v).now = s.now := rfl
@[simp] theorem State.on_setReg (a : Nat) (v : Word) : (s.setReg a v).on = s.on := rfl
@[simp] theorem State.stg_setFld (f : Fld) (v : Nat) (b : Nat) : (s.setFld f v).stg b = s.stg b := rfl
@[simp] theorem State.thr_setFld (f : Fld) (v : Nat) (u : ThreadId) : (s.setFld f v).thr u = s.thr u := rfl
@[simp] theorem State.island_setFld (f : Fld) (v : Nat) (j : Island) : (s.setFld f v).island j = s.island j := rfl
@[simp] theorem State.lit_setFld (f : Fld) (v : Nat) (j : Island) : (s.setFld f v).lit j = s.lit j := rfl
@[simp] theorem State.ring_setFld (f : Fld) (v : Nat) (m : RingId) : (s.setFld f v).ring m = s.ring m := rfl
@[simp] theorem State.acct_setFld (f : Fld) (v : Nat) (k : Nat) : (s.setFld f v).acct k = s.acct k := rfl
@[simp] theorem State.win_setFld (f : Fld) (v : Nat) (k : Nat) : (s.setFld f v).win k = s.win k := rfl
@[simp] theorem State.word_setFld (f : Fld) (v : Nat) (b : Nat) : (s.setFld f v).word b = s.word b := rfl
@[simp] theorem State.now_setFld (f : Fld) (v : Nat) : (s.setFld f v).now = s.now := rfl
@[simp] theorem State.on_setFld (f : Fld) (v : Nat) : (s.setFld f v).on = s.on := rfl
@[simp] theorem State.stg_setBit (f : Fld) (b : Nat) : (s.setBit f).stg b = s.stg b := rfl
@[simp] theorem State.thr_setBit (f : Fld) (u : ThreadId) : (s.setBit f).thr u = s.thr u := rfl
@[simp] theorem State.island_setBit (f : Fld) (j : Island) : (s.setBit f).island j = s.island j := rfl
@[simp] theorem State.lit_setBit (f : Fld) (j : Island) : (s.setBit f).lit j = s.lit j := rfl
@[simp] theorem State.ring_setBit (f : Fld) (m : RingId) : (s.setBit f).ring m = s.ring m := rfl
@[simp] theorem State.acct_setBit (f : Fld) (k : Nat) : (s.setBit f).acct k = s.acct k := rfl
@[simp] theorem State.win_setBit (f : Fld) (k : Nat) : (s.setBit f).win k = s.win k := rfl
@[simp] theorem State.word_setBit (f : Fld) (b : Nat) : (s.setBit f).word b = s.word b := rfl
@[simp] theorem State.now_setBit (f : Fld) : (s.setBit f).now = s.now := rfl
@[simp] theorem State.on_setBit (f : Fld) : (s.setBit f).on = s.on := rfl
@[simp] theorem State.stg_clrFld (f : Fld) (b : Nat) : (s.clrFld f).stg b = s.stg b := rfl
@[simp] theorem State.thr_clrFld (f : Fld) (u : ThreadId) : (s.clrFld f).thr u = s.thr u := rfl
@[simp] theorem State.island_clrFld (f : Fld) (j : Island) : (s.clrFld f).island j = s.island j := rfl
@[simp] theorem State.lit_clrFld (f : Fld) (j : Island) : (s.clrFld f).lit j = s.lit j := rfl
@[simp] theorem State.ring_clrFld (f : Fld) (m : RingId) : (s.clrFld f).ring m = s.ring m := rfl
@[simp] theorem State.acct_clrFld (f : Fld) (k : Nat) : (s.clrFld f).acct k = s.acct k := rfl
@[simp] theorem State.win_clrFld (f : Fld) (k : Nat) : (s.clrFld f).win k = s.win k := rfl
@[simp] theorem State.word_clrFld (f : Fld) (b : Nat) : (s.clrFld f).word b = s.word b := rfl
@[simp] theorem State.now_clrFld (f : Fld) : (s.clrFld f).now = s.now := rfl
@[simp] theorem State.on_clrFld (f : Fld) : (s.clrFld f).on = s.on := rfl
@[simp] theorem State.stg_satInc (f : Fld) (b : Nat) : (s.satInc f).stg b = s.stg b := rfl
@[simp] theorem State.thr_satInc (f : Fld) (u : ThreadId) : (s.satInc f).thr u = s.thr u := rfl
@[simp] theorem State.island_satInc (f : Fld) (j : Island) : (s.satInc f).island j = s.island j := rfl
@[simp] theorem State.lit_satInc (f : Fld) (j : Island) : (s.satInc f).lit j = s.lit j := rfl
@[simp] theorem State.ring_satInc (f : Fld) (m : RingId) : (s.satInc f).ring m = s.ring m := rfl
@[simp] theorem State.acct_satInc (f : Fld) (k : Nat) : (s.satInc f).acct k = s.acct k := rfl
@[simp] theorem State.win_satInc (f : Fld) (k : Nat) : (s.satInc f).win k = s.win k := rfl
@[simp] theorem State.word_satInc (f : Fld) (b : Nat) : (s.satInc f).word b = s.word b := rfl
@[simp] theorem State.now_satInc (f : Fld) : (s.satInc f).now = s.now := rfl
@[simp] theorem State.on_satInc (f : Fld) : (s.satInc f).on = s.on := rfl
@[simp] theorem State.stg_orFld (f : Fld) (v : Nat) (b : Nat) : (s.orFld f v).stg b = s.stg b := rfl
@[simp] theorem State.thr_orFld (f : Fld) (v : Nat) (u : ThreadId) : (s.orFld f v).thr u = s.thr u := rfl
@[simp] theorem State.island_orFld (f : Fld) (v : Nat) (j : Island) : (s.orFld f v).island j = s.island j := rfl
@[simp] theorem State.lit_orFld (f : Fld) (v : Nat) (j : Island) : (s.orFld f v).lit j = s.lit j := rfl
@[simp] theorem State.ring_orFld (f : Fld) (v : Nat) (m : RingId) : (s.orFld f v).ring m = s.ring m := rfl
@[simp] theorem State.acct_orFld (f : Fld) (v : Nat) (k : Nat) : (s.orFld f v).acct k = s.acct k := rfl
@[simp] theorem State.win_orFld (f : Fld) (v : Nat) (k : Nat) : (s.orFld f v).win k = s.win k := rfl
@[simp] theorem State.word_orFld (f : Fld) (v : Nat) (b : Nat) : (s.orFld f v).word b = s.word b := rfl
@[simp] theorem State.now_orFld (f : Fld) (v : Nat) : (s.orFld f v).now = s.now := rfl
@[simp] theorem State.on_orFld (f : Fld) (v : Nat) : (s.orFld f v).on = s.on := rfl
@[simp] theorem State.stg_clrBits (f : Fld) (v : Nat) (b : Nat) : (s.clrBits f v).stg b = s.stg b := rfl
@[simp] theorem State.thr_clrBits (f : Fld) (v : Nat) (u : ThreadId) : (s.clrBits f v).thr u = s.thr u := rfl
@[simp] theorem State.island_clrBits (f : Fld) (v : Nat) (j : Island) : (s.clrBits f v).island j = s.island j := rfl
@[simp] theorem State.lit_clrBits (f : Fld) (v : Nat) (j : Island) : (s.clrBits f v).lit j = s.lit j := rfl
@[simp] theorem State.ring_clrBits (f : Fld) (v : Nat) (m : RingId) : (s.clrBits f v).ring m = s.ring m := rfl
@[simp] theorem State.acct_clrBits (f : Fld) (v : Nat) (k : Nat) : (s.clrBits f v).acct k = s.acct k := rfl
@[simp] theorem State.win_clrBits (f : Fld) (v : Nat) (k : Nat) : (s.clrBits f v).win k = s.win k := rfl
@[simp] theorem State.word_clrBits (f : Fld) (v : Nat) (b : Nat) : (s.clrBits f v).word b = s.word b := rfl
@[simp] theorem State.now_clrBits (f : Fld) (v : Nat) : (s.clrBits f v).now = s.now := rfl
@[simp] theorem State.on_clrBits (f : Fld) (v : Nat) : (s.clrBits f v).on = s.on := rfl
@[simp] theorem State.reg_setStg (a : Nat) (v : Word) (b : Nat) : (s.setStg a v).reg b = s.reg b := rfl
@[simp] theorem State.fld_setStg (a : Nat) (v : Word) (g : Fld) : (s.setStg a v).fld g = s.fld g := rfl
@[simp] theorem State.flag_setStg (a : Nat) (v : Word) (g : Fld) : (s.setStg a v).flag g = s.flag g := rfl
@[simp] theorem State.thr_setStg (a : Nat) (v : Word) (u : ThreadId) : (s.setStg a v).thr u = s.thr u := rfl
@[simp] theorem State.island_setStg (a : Nat) (v : Word) (j : Island) : (s.setStg a v).island j = s.island j := rfl
@[simp] theorem State.lit_setStg (a : Nat) (v : Word) (j : Island) : (s.setStg a v).lit j = s.lit j := rfl
@[simp] theorem State.ring_setStg (a : Nat) (v : Word) (m : RingId) : (s.setStg a v).ring m = s.ring m := rfl
@[simp] theorem State.acct_setStg (a : Nat) (v : Word) (k : Nat) : (s.setStg a v).acct k = s.acct k := rfl
@[simp] theorem State.win_setStg (a : Nat) (v : Word) (k : Nat) : (s.setStg a v).win k = s.win k := rfl
@[simp] theorem State.word_setStg (a : Nat) (v : Word) (b : Nat) : (s.setStg a v).word b = s.word b := rfl
@[simp] theorem State.now_setStg (a : Nat) (v : Word) : (s.setStg a v).now = s.now := rfl
@[simp] theorem State.on_setStg (a : Nat) (v : Word) : (s.setStg a v).on = s.on := rfl
@[simp] theorem State.has_setStg (a : Nat) (v : Word) (p : PartUnit) : (s.setStg a v).has p = s.has p := rfl
@[simp] theorem State.reg_poke (a : Nat) (w : TWord) (b : Nat) : (s.poke a w).reg b = s.reg b := rfl
@[simp] theorem State.fld_poke (a : Nat) (w : TWord) (g : Fld) : (s.poke a w).fld g = s.fld g := rfl
@[simp] theorem State.flag_poke (a : Nat) (w : TWord) (g : Fld) : (s.poke a w).flag g = s.flag g := rfl
@[simp] theorem State.stg_poke (a : Nat) (w : TWord) (b : Nat) : (s.poke a w).stg b = s.stg b := rfl
@[simp] theorem State.thr_poke (a : Nat) (w : TWord) (u : ThreadId) : (s.poke a w).thr u = s.thr u := rfl
@[simp] theorem State.island_poke (a : Nat) (w : TWord) (j : Island) : (s.poke a w).island j = s.island j := rfl
@[simp] theorem State.lit_poke (a : Nat) (w : TWord) (j : Island) : (s.poke a w).lit j = s.lit j := rfl
@[simp] theorem State.ring_poke (a : Nat) (w : TWord) (m : RingId) : (s.poke a w).ring m = s.ring m := rfl
@[simp] theorem State.acct_poke (a : Nat) (w : TWord) (k : Nat) : (s.poke a w).acct k = s.acct k := rfl
@[simp] theorem State.win_poke (a : Nat) (w : TWord) (k : Nat) : (s.poke a w).win k = s.win k := rfl
@[simp] theorem State.now_poke (a : Nat) (w : TWord) : (s.poke a w).now = s.now := rfl
@[simp] theorem State.on_poke (a : Nat) (w : TWord) : (s.poke a w).on = s.on := rfl
@[simp] theorem State.has_poke (a : Nat) (w : TWord) (p : PartUnit) : (s.poke a w).has p = s.has p := rfl
@[simp] theorem State.reg_setThr (t : ThreadId) (x : Thread) (b : Nat) : (s.setThr t x).reg b = s.reg b := rfl
@[simp] theorem State.fld_setThr (t : ThreadId) (x : Thread) (g : Fld) : (s.setThr t x).fld g = s.fld g := rfl
@[simp] theorem State.flag_setThr (t : ThreadId) (x : Thread) (g : Fld) : (s.setThr t x).flag g = s.flag g := rfl
@[simp] theorem State.stg_setThr (t : ThreadId) (x : Thread) (b : Nat) : (s.setThr t x).stg b = s.stg b := rfl
@[simp] theorem State.island_setThr (t : ThreadId) (x : Thread) (j : Island) : (s.setThr t x).island j = s.island j := rfl
@[simp] theorem State.lit_setThr (t : ThreadId) (x : Thread) (j : Island) : (s.setThr t x).lit j = s.lit j := rfl
@[simp] theorem State.ring_setThr (t : ThreadId) (x : Thread) (m : RingId) : (s.setThr t x).ring m = s.ring m := rfl
@[simp] theorem State.acct_setThr (t : ThreadId) (x : Thread) (k : Nat) : (s.setThr t x).acct k = s.acct k := rfl
@[simp] theorem State.win_setThr (t : ThreadId) (x : Thread) (k : Nat) : (s.setThr t x).win k = s.win k := rfl
@[simp] theorem State.word_setThr (t : ThreadId) (x : Thread) (b : Nat) : (s.setThr t x).word b = s.word b := rfl
@[simp] theorem State.now_setThr (t : ThreadId) (x : Thread) : (s.setThr t x).now = s.now := rfl
@[simp] theorem State.on_setThr (t : ThreadId) (x : Thread) : (s.setThr t x).on = s.on := rfl
@[simp] theorem State.has_setThr (t : ThreadId) (x : Thread) (p : PartUnit) : (s.setThr t x).has p = s.has p := rfl
@[simp] theorem State.reg_setIsland (i : Island) (x : IslandSt) (b : Nat) : (s.setIsland i x).reg b = s.reg b := rfl
@[simp] theorem State.fld_setIsland (i : Island) (x : IslandSt) (g : Fld) : (s.setIsland i x).fld g = s.fld g := rfl
@[simp] theorem State.flag_setIsland (i : Island) (x : IslandSt) (g : Fld) : (s.setIsland i x).flag g = s.flag g := rfl
@[simp] theorem State.stg_setIsland (i : Island) (x : IslandSt) (b : Nat) : (s.setIsland i x).stg b = s.stg b := rfl
@[simp] theorem State.thr_setIsland (i : Island) (x : IslandSt) (u : ThreadId) : (s.setIsland i x).thr u = s.thr u := rfl
@[simp] theorem State.ring_setIsland (i : Island) (x : IslandSt) (m : RingId) : (s.setIsland i x).ring m = s.ring m := rfl
@[simp] theorem State.acct_setIsland (i : Island) (x : IslandSt) (k : Nat) : (s.setIsland i x).acct k = s.acct k := rfl
@[simp] theorem State.win_setIsland (i : Island) (x : IslandSt) (k : Nat) : (s.setIsland i x).win k = s.win k := rfl
@[simp] theorem State.word_setIsland (i : Island) (x : IslandSt) (b : Nat) : (s.setIsland i x).word b = s.word b := rfl
@[simp] theorem State.now_setIsland (i : Island) (x : IslandSt) : (s.setIsland i x).now = s.now := rfl
@[simp] theorem State.on_setIsland (i : Island) (x : IslandSt) : (s.setIsland i x).on = s.on := rfl
@[simp] theorem State.has_setIsland (i : Island) (x : IslandSt) (p : PartUnit) : (s.setIsland i x).has p = s.has p := rfl
@[simp] theorem State.reg_setRing (n : RingId) (x : Ring) (b : Nat) : (s.setRing n x).reg b = s.reg b := rfl
@[simp] theorem State.fld_setRing (n : RingId) (x : Ring) (g : Fld) : (s.setRing n x).fld g = s.fld g := rfl
@[simp] theorem State.flag_setRing (n : RingId) (x : Ring) (g : Fld) : (s.setRing n x).flag g = s.flag g := rfl
@[simp] theorem State.stg_setRing (n : RingId) (x : Ring) (b : Nat) : (s.setRing n x).stg b = s.stg b := rfl
@[simp] theorem State.thr_setRing (n : RingId) (x : Ring) (u : ThreadId) : (s.setRing n x).thr u = s.thr u := rfl
@[simp] theorem State.island_setRing (n : RingId) (x : Ring) (j : Island) : (s.setRing n x).island j = s.island j := rfl
@[simp] theorem State.lit_setRing (n : RingId) (x : Ring) (j : Island) : (s.setRing n x).lit j = s.lit j := rfl
@[simp] theorem State.acct_setRing (n : RingId) (x : Ring) (k : Nat) : (s.setRing n x).acct k = s.acct k := rfl
@[simp] theorem State.win_setRing (n : RingId) (x : Ring) (k : Nat) : (s.setRing n x).win k = s.win k := rfl
@[simp] theorem State.word_setRing (n : RingId) (x : Ring) (b : Nat) : (s.setRing n x).word b = s.word b := rfl
@[simp] theorem State.now_setRing (n : RingId) (x : Ring) : (s.setRing n x).now = s.now := rfl
@[simp] theorem State.on_setRing (n : RingId) (x : Ring) : (s.setRing n x).on = s.on := rfl
@[simp] theorem State.has_setRing (n : RingId) (x : Ring) (p : PartUnit) : (s.setRing n x).has p = s.has p := rfl
@[simp] theorem State.reg_fresh (b : Nat) : (s.fresh).reg b = s.reg b := rfl
@[simp] theorem State.fld_fresh (g : Fld) : (s.fresh).fld g = s.fld g := rfl
@[simp] theorem State.flag_fresh (g : Fld) : (s.fresh).flag g = s.flag g := rfl
@[simp] theorem State.stg_fresh (b : Nat) : (s.fresh).stg b = s.stg b := rfl
@[simp] theorem State.thr_fresh (u : ThreadId) : (s.fresh).thr u = s.thr u := rfl
@[simp] theorem State.island_fresh (j : Island) : (s.fresh).island j = s.island j := rfl
@[simp] theorem State.lit_fresh (j : Island) : (s.fresh).lit j = s.lit j := rfl
@[simp] theorem State.ring_fresh (m : RingId) : (s.fresh).ring m = s.ring m := rfl
@[simp] theorem State.acct_fresh (k : Nat) : (s.fresh).acct k = s.acct k := rfl
@[simp] theorem State.win_fresh (k : Nat) : (s.fresh).win k = s.win k := rfl
@[simp] theorem State.word_fresh (b : Nat) : (s.fresh).word b = s.word b := rfl
@[simp] theorem State.now_fresh : (s.fresh).now = s.now := rfl
@[simp] theorem State.on_fresh : (s.fresh).on = s.on := rfl
@[simp] theorem State.has_fresh (p : PartUnit) : (s.fresh).has p = s.has p := rfl
@[simp] theorem State.reg_unhold (b : Nat) : (s.unhold).reg b = s.reg b := rfl
@[simp] theorem State.fld_unhold (g : Fld) : (s.unhold).fld g = s.fld g := rfl
@[simp] theorem State.flag_unhold (g : Fld) : (s.unhold).flag g = s.flag g := rfl
@[simp] theorem State.stg_unhold (b : Nat) : (s.unhold).stg b = s.stg b := rfl
@[simp] theorem State.thr_unhold (u : ThreadId) : (s.unhold).thr u = s.thr u := rfl
@[simp] theorem State.island_unhold (j : Island) : (s.unhold).island j = s.island j := rfl
@[simp] theorem State.lit_unhold (j : Island) : (s.unhold).lit j = s.lit j := rfl
@[simp] theorem State.ring_unhold (m : RingId) : (s.unhold).ring m = s.ring m := rfl
@[simp] theorem State.acct_unhold (k : Nat) : (s.unhold).acct k = s.acct k := rfl
@[simp] theorem State.win_unhold (k : Nat) : (s.unhold).win k = s.win k := rfl
@[simp] theorem State.word_unhold (b : Nat) : (s.unhold).word b = s.word b := rfl
@[simp] theorem State.now_unhold : (s.unhold).now = s.now := rfl
@[simp] theorem State.has_unhold (p : PartUnit) : (s.unhold).has p = s.has p := rfl
@[simp] theorem State.reg_withPending (q : List Instr) (b : Nat) : (s.withPending q).reg b = s.reg b := rfl
@[simp] theorem State.fld_withPending (q : List Instr) (g : Fld) : (s.withPending q).fld g = s.fld g := rfl
@[simp] theorem State.flag_withPending (q : List Instr) (g : Fld) : (s.withPending q).flag g = s.flag g := rfl
@[simp] theorem State.stg_withPending (q : List Instr) (b : Nat) : (s.withPending q).stg b = s.stg b := rfl
@[simp] theorem State.thr_withPending (q : List Instr) (u : ThreadId) : (s.withPending q).thr u = s.thr u := rfl
@[simp] theorem State.island_withPending (q : List Instr) (j : Island) : (s.withPending q).island j = s.island j := rfl
@[simp] theorem State.lit_withPending (q : List Instr) (j : Island) : (s.withPending q).lit j = s.lit j := rfl
@[simp] theorem State.ring_withPending (q : List Instr) (m : RingId) : (s.withPending q).ring m = s.ring m := rfl
@[simp] theorem State.acct_withPending (q : List Instr) (k : Nat) : (s.withPending q).acct k = s.acct k := rfl
@[simp] theorem State.win_withPending (q : List Instr) (k : Nat) : (s.withPending q).win k = s.win k := rfl
@[simp] theorem State.word_withPending (q : List Instr) (b : Nat) : (s.withPending q).word b = s.word b := rfl
@[simp] theorem State.now_withPending (q : List Instr) : (s.withPending q).now = s.now := rfl
@[simp] theorem State.on_withPending (q : List Instr) : (s.withPending q).on = s.on := rfl
@[simp] theorem State.has_withPending (q : List Instr) (p : PartUnit) : (s.withPending q).has p = s.has p := rfl
@[simp] theorem State.reg_setAcct (i : Nat) (a : Account) (b : Nat) : (s.setAcct i a).reg b = s.reg b := rfl
@[simp] theorem State.fld_setAcct (i : Nat) (a : Account) (g : Fld) : (s.setAcct i a).fld g = s.fld g := rfl
@[simp] theorem State.flag_setAcct (i : Nat) (a : Account) (g : Fld) : (s.setAcct i a).flag g = s.flag g := rfl
@[simp] theorem State.stg_setAcct (i : Nat) (a : Account) (b : Nat) : (s.setAcct i a).stg b = s.stg b := rfl
@[simp] theorem State.thr_setAcct (i : Nat) (a : Account) (u : ThreadId) : (s.setAcct i a).thr u = s.thr u := rfl
@[simp] theorem State.island_setAcct (i : Nat) (a : Account) (j : Island) : (s.setAcct i a).island j = s.island j := rfl
@[simp] theorem State.lit_setAcct (i : Nat) (a : Account) (j : Island) : (s.setAcct i a).lit j = s.lit j := rfl
@[simp] theorem State.ring_setAcct (i : Nat) (a : Account) (m : RingId) : (s.setAcct i a).ring m = s.ring m := rfl
@[simp] theorem State.word_setAcct (i : Nat) (a : Account) (b : Nat) : (s.setAcct i a).word b = s.word b := rfl
@[simp] theorem State.now_setAcct (i : Nat) (a : Account) : (s.setAcct i a).now = s.now := rfl
@[simp] theorem State.on_setAcct (i : Nat) (a : Account) : (s.setAcct i a).on = s.on := rfl
@[simp] theorem State.has_setAcct (i : Nat) (a : Account) (p : PartUnit) : (s.setAcct i a).has p = s.has p := rfl
@[simp] theorem State.reg_setWin (i : Nat) (w : Window) (b : Nat) : (s.setWin i w).reg b = s.reg b := rfl
@[simp] theorem State.fld_setWin (i : Nat) (w : Window) (g : Fld) : (s.setWin i w).fld g = s.fld g := rfl
@[simp] theorem State.flag_setWin (i : Nat) (w : Window) (g : Fld) : (s.setWin i w).flag g = s.flag g := rfl
@[simp] theorem State.stg_setWin (i : Nat) (w : Window) (b : Nat) : (s.setWin i w).stg b = s.stg b := rfl
@[simp] theorem State.thr_setWin (i : Nat) (w : Window) (u : ThreadId) : (s.setWin i w).thr u = s.thr u := rfl
@[simp] theorem State.island_setWin (i : Nat) (w : Window) (j : Island) : (s.setWin i w).island j = s.island j := rfl
@[simp] theorem State.lit_setWin (i : Nat) (w : Window) (j : Island) : (s.setWin i w).lit j = s.lit j := rfl
@[simp] theorem State.ring_setWin (i : Nat) (w : Window) (m : RingId) : (s.setWin i w).ring m = s.ring m := rfl
@[simp] theorem State.word_setWin (i : Nat) (w : Window) (b : Nat) : (s.setWin i w).word b = s.word b := rfl
@[simp] theorem State.now_setWin (i : Nat) (w : Window) : (s.setWin i w).now = s.now := rfl
@[simp] theorem State.on_setWin (i : Nat) (w : Window) : (s.setWin i w).on = s.on := rfl
@[simp] theorem State.has_setWin (i : Nat) (w : Window) (p : PartUnit) : (s.setWin i w).has p = s.has p := rfl
@[simp] theorem State.reg_clearBip (t : ThreadId) (b : Nat) : (s.clearBip t).reg b = s.reg b := rfl
@[simp] theorem State.fld_clearBip (t : ThreadId) (g : Fld) : (s.clearBip t).fld g = s.fld g := rfl
@[simp] theorem State.flag_clearBip (t : ThreadId) (g : Fld) : (s.clearBip t).flag g = s.flag g := rfl
@[simp] theorem State.stg_clearBip (t : ThreadId) (b : Nat) : (s.clearBip t).stg b = s.stg b := rfl
@[simp] theorem State.island_clearBip (t : ThreadId) (j : Island) : (s.clearBip t).island j = s.island j := rfl
@[simp] theorem State.lit_clearBip (t : ThreadId) (j : Island) : (s.clearBip t).lit j = s.lit j := rfl
@[simp] theorem State.ring_clearBip (t : ThreadId) (m : RingId) : (s.clearBip t).ring m = s.ring m := rfl
@[simp] theorem State.acct_clearBip (t : ThreadId) (k : Nat) : (s.clearBip t).acct k = s.acct k := rfl
@[simp] theorem State.win_clearBip (t : ThreadId) (k : Nat) : (s.clearBip t).win k = s.win k := rfl
@[simp] theorem State.word_clearBip (t : ThreadId) (b : Nat) : (s.clearBip t).word b = s.word b := rfl
@[simp] theorem State.now_clearBip (t : ThreadId) : (s.clearBip t).now = s.now := rfl
@[simp] theorem State.on_clearBip (t : ThreadId) : (s.clearBip t).on = s.on := rfl
@[simp] theorem State.has_clearBip (t : ThreadId) (p : PartUnit) : (s.clearBip t).has p = s.has p := rfl
@[simp] theorem State.reg_unissue (t : ThreadId) (b : Nat) : (s.unissue t).reg b = s.reg b := rfl
@[simp] theorem State.fld_unissue (t : ThreadId) (g : Fld) : (s.unissue t).fld g = s.fld g := rfl
@[simp] theorem State.flag_unissue (t : ThreadId) (g : Fld) : (s.unissue t).flag g = s.flag g := rfl
@[simp] theorem State.stg_unissue (t : ThreadId) (b : Nat) : (s.unissue t).stg b = s.stg b := rfl
@[simp] theorem State.island_unissue (t : ThreadId) (j : Island) : (s.unissue t).island j = s.island j := rfl
@[simp] theorem State.lit_unissue (t : ThreadId) (j : Island) : (s.unissue t).lit j = s.lit j := rfl
@[simp] theorem State.ring_unissue (t : ThreadId) (m : RingId) : (s.unissue t).ring m = s.ring m := rfl
@[simp] theorem State.acct_unissue (t : ThreadId) (k : Nat) : (s.unissue t).acct k = s.acct k := rfl
@[simp] theorem State.win_unissue (t : ThreadId) (k : Nat) : (s.unissue t).win k = s.win k := rfl
@[simp] theorem State.word_unissue (t : ThreadId) (b : Nat) : (s.unissue t).word b = s.word b := rfl
@[simp] theorem State.now_unissue (t : ThreadId) : (s.unissue t).now = s.now := rfl
@[simp] theorem State.on_unissue (t : ThreadId) : (s.unissue t).on = s.on := rfl
@[simp] theorem State.has_unissue (t : ThreadId) (p : PartUnit) : (s.unissue t).has p = s.has p := rfl
@[simp] theorem State.reg_skip (t : ThreadId) (b : Nat) : (s.skip t).reg b = s.reg b := rfl
@[simp] theorem State.fld_skip (t : ThreadId) (g : Fld) : (s.skip t).fld g = s.fld g := rfl
@[simp] theorem State.flag_skip (t : ThreadId) (g : Fld) : (s.skip t).flag g = s.flag g := rfl
@[simp] theorem State.stg_skip (t : ThreadId) (b : Nat) : (s.skip t).stg b = s.stg b := rfl
@[simp] theorem State.island_skip (t : ThreadId) (j : Island) : (s.skip t).island j = s.island j := rfl
@[simp] theorem State.lit_skip (t : ThreadId) (j : Island) : (s.skip t).lit j = s.lit j := rfl
@[simp] theorem State.ring_skip (t : ThreadId) (m : RingId) : (s.skip t).ring m = s.ring m := rfl
@[simp] theorem State.acct_skip (t : ThreadId) (k : Nat) : (s.skip t).acct k = s.acct k := rfl
@[simp] theorem State.win_skip (t : ThreadId) (k : Nat) : (s.skip t).win k = s.win k := rfl
@[simp] theorem State.word_skip (t : ThreadId) (b : Nat) : (s.skip t).word b = s.word b := rfl
@[simp] theorem State.now_skip (t : ThreadId) : (s.skip t).now = s.now := rfl
@[simp] theorem State.on_skip (t : ThreadId) : (s.skip t).on = s.on := rfl
@[simp] theorem State.has_skip (t : ThreadId) (p : PartUnit) : (s.skip t).has p = s.has p := rfl
@[simp] theorem State.reg_write (t : ThreadId) (r : Reg) (w : TWord) (b : Nat) : (s.write t r w).reg b = s.reg b := rfl
@[simp] theorem State.fld_write (t : ThreadId) (r : Reg) (w : TWord) (g : Fld) : (s.write t r w).fld g = s.fld g := rfl
@[simp] theorem State.flag_write (t : ThreadId) (r : Reg) (w : TWord) (g : Fld) : (s.write t r w).flag g = s.flag g := rfl
@[simp] theorem State.stg_write (t : ThreadId) (r : Reg) (w : TWord) (b : Nat) : (s.write t r w).stg b = s.stg b := rfl
@[simp] theorem State.island_write (t : ThreadId) (r : Reg) (w : TWord) (j : Island) : (s.write t r w).island j = s.island j := rfl
@[simp] theorem State.lit_write (t : ThreadId) (r : Reg) (w : TWord) (j : Island) : (s.write t r w).lit j = s.lit j := rfl
@[simp] theorem State.ring_write (t : ThreadId) (r : Reg) (w : TWord) (m : RingId) : (s.write t r w).ring m = s.ring m := rfl
@[simp] theorem State.acct_write (t : ThreadId) (r : Reg) (w : TWord) (k : Nat) : (s.write t r w).acct k = s.acct k := rfl
@[simp] theorem State.win_write (t : ThreadId) (r : Reg) (w : TWord) (k : Nat) : (s.write t r w).win k = s.win k := rfl
@[simp] theorem State.word_write (t : ThreadId) (r : Reg) (w : TWord) (b : Nat) : (s.write t r w).word b = s.word b := rfl
@[simp] theorem State.now_write (t : ThreadId) (r : Reg) (w : TWord) : (s.write t r w).now = s.now := rfl
@[simp] theorem State.on_write (t : ThreadId) (r : Reg) (w : TWord) : (s.write t r w).on = s.on := rfl
@[simp] theorem State.has_write (t : ThreadId) (r : Reg) (w : TWord) (p : PartUnit) : (s.write t r w).has p = s.has p := rfl
@[simp] theorem State.reg_setCsp (c : Csp) (b : Nat) : (s.setCsp c).reg b = s.reg b := rfl
@[simp] theorem State.fld_setCsp (c : Csp) (g : Fld) : (s.setCsp c).fld g = s.fld g := rfl
@[simp] theorem State.flag_setCsp (c : Csp) (g : Fld) : (s.setCsp c).flag g = s.flag g := rfl
@[simp] theorem State.stg_setCsp (c : Csp) (b : Nat) : (s.setCsp c).stg b = s.stg b := rfl
@[simp] theorem State.thr_setCsp (c : Csp) (u : ThreadId) : (s.setCsp c).thr u = s.thr u := rfl
@[simp] theorem State.island_setCsp (c : Csp) (j : Island) : (s.setCsp c).island j = s.island j := rfl
@[simp] theorem State.lit_setCsp (c : Csp) (j : Island) : (s.setCsp c).lit j = s.lit j := rfl
@[simp] theorem State.ring_setCsp (c : Csp) (m : RingId) : (s.setCsp c).ring m = s.ring m := rfl
@[simp] theorem State.acct_setCsp (c : Csp) (k : Nat) : (s.setCsp c).acct k = s.acct k := rfl
@[simp] theorem State.win_setCsp (c : Csp) (k : Nat) : (s.setCsp c).win k = s.win k := rfl
@[simp] theorem State.word_setCsp (c : Csp) (b : Nat) : (s.setCsp c).word b = s.word b := rfl
@[simp] theorem State.now_setCsp (c : Csp) : (s.setCsp c).now = s.now := rfl
@[simp] theorem State.on_setCsp (c : Csp) : (s.setCsp c).on = s.on := rfl
@[simp] theorem State.has_setCsp (c : Csp) (p : PartUnit) : (s.setCsp c).has p = s.has p := rfl
@[simp] theorem State.on_unhold : s.unhold.on = s.on := rfl

end Sys2Proof.Machine
end

