-- ==== Sys2Proof/Laws/Image.lean ====
section
/-! SUPPORT. Fields of the register images: what a read gives after a write of the same field, of another one, of another register. -/

namespace Sys2Proof.Machine

/-- A field that lies inside its word. -/
def Fld.fits (f : Fld) : Prop := f.lo + f.w ≤ 32

theorem fldGet_testBit (w : Word) (f : Fld) (i : Nat) : (fldGet w f).testBit i = (decide (i < f.w) && w.getLsbD (f.lo + i)) := by
  simp only [fldGet, Nat.testBit_mod_two_pow, Nat.testBit_div_two_pow, BitVec.getLsbD]
  rw [Nat.add_comm]

theorem fldPut_getLsbD (w : Word) (f : Fld) (v j : Nat) :
    (fldPut w f v).getLsbD j =
      (decide (j < 32) && if f.lo ≤ j ∧ j < f.lo + f.w then v.testBit (j - f.lo) else w.getLsbD j) := by
  simp only [fldPut, BitVec.getLsbD_or, BitVec.getLsbD_and, BitVec.getLsbD_not, BitVec.getLsbD_ofNat, Nat.testBit_mul_two_pow,
    Nat.testBit_mod_two_pow, Nat.testBit_two_pow_sub_one]
  by_cases h32 : j < 32
  · by_cases hlo : f.lo ≤ j
    · by_cases hhi : j < f.lo + f.w
      · have : j - f.lo < f.w := by omega
        simp [h32, hlo, hhi, this]
      · have : ¬ j - f.lo < f.w := by omega
        simp [h32, hlo, hhi, this]
    · simp [h32, hlo]
  · simp [h32]

/-- A field reads back as it was written, modulo its width. -/
theorem fldGet_fldPut_self (w : Word) (f : Fld) (v : Nat) (hf : Fld.fits f) : fldGet (fldPut w f v) f = v % 2 ^ f.w := by
  have hf' : f.lo + f.w ≤ 32 := hf
  apply Nat.eq_of_testBit_eq
  intro i
  rw [fldGet_testBit, fldPut_getLsbD, Nat.testBit_mod_two_pow]
  by_cases hi : i < f.w
  · have h1 : f.lo + i < 32 := by omega
    have h2 : f.lo + i < f.lo + f.w := by omega
    simp [hi, h1]
  · simp [hi]

/-- A write of one field leaves another of the same register, where they do not overlap. -/
theorem fldGet_fldPut_other (w : Word) (f g : Fld) (v : Nat) (h : f.lo + f.w ≤ g.lo ∨ g.lo + g.w ≤ f.lo) :
    fldGet (fldPut w f v) g = fldGet w g := by
  apply Nat.eq_of_testBit_eq
  intro i
  rw [fldGet_testBit, fldGet_testBit, fldPut_getLsbD]
  by_cases hi : i < g.w
  · have hn : ¬ (f.lo ≤ g.lo + i ∧ g.lo + i < f.lo + f.w) := by omega
    by_cases h32 : g.lo + i < 32
    · simp [hn, h32]
    · have : w.getLsbD (g.lo + i) = false := BitVec.getLsbD_of_ge w _ (by omega)
      simp [h32, this]
  · simp [hi]

variable (s : State)

@[simp] theorem State.reg_setReg_self (a : Nat) (v : Word) : (s.setReg a v).reg a = v := by
  simp [State.reg, State.setReg]

theorem State.reg_setReg_ne {a b : Nat} (v : Word) (h : b ≠ a) : (s.setReg a v).reg b = s.reg b :=
  smGet_set_ne _ _ _ h

@[simp] theorem State.stg_setStg_self (a : Nat) (v : Word) : (s.setStg a v).stg a = v := by
  simp [State.stg, State.setStg]

theorem State.stg_setStg_ne {a b : Nat} (v : Word) (h : b ≠ a) : (s.setStg a v).stg b = s.stg b :=
  smGet_set_ne _ _ _ h

/-- A live field reads back as it was written, modulo its width. -/
theorem State.fld_setFld_self (f : Fld) (v : Nat) (hf : Fld.fits f) : (s.setFld f v).fld f = v % 2 ^ f.w := by
  simp only [State.fld, State.setFld, State.reg_setReg_self]
  exact fldGet_fldPut_self _ _ _ hf

/-- A write of a field leaves the fields of other registers. -/
theorem State.fld_setFld_reg (f g : Fld) (v : Nat) (h : g.addr ≠ f.addr) : (s.setFld f v).fld g = s.fld g := by
  simp only [State.fld, State.setFld]
  rw [s.reg_setReg_ne _ h]

/-- A write of a field leaves the other fields of its register. -/
theorem State.fld_setFld_other (f g : Fld) (v : Nat) (h : f.lo + f.w ≤ g.lo ∨ g.lo + g.w ≤ f.lo) :
    (s.setFld f v).fld g = s.fld g := by
  by_cases ha : g.addr = f.addr
  · simp only [State.fld, State.setFld, ha, State.reg_setReg_self]
    exact fldGet_fldPut_other _ _ _ _ h
  · exact s.fld_setFld_reg f g v ha

theorem State.reg_setFld_ne (f : Fld) (v b : Nat) (h : b ≠ f.addr) : (s.setFld f v).reg b = s.reg b := s.reg_setReg_ne _ h

theorem State.flag_setBit_self (f : Fld) (hf : Fld.fits f) (hw : 0 < f.w) : (s.setBit f).flag f = true := by
  simp only [State.flag, State.setBit, s.fld_setFld_self f 1 hf]
  rw [Nat.mod_eq_of_lt (Nat.one_lt_two_pow (by omega))]
  decide

theorem State.flag_clrFld_self (f : Fld) (hf : Fld.fits f) : (s.clrFld f).flag f = false := by
  simp [State.flag, State.clrFld, s.fld_setFld_self f 0 hf]

end Sys2Proof.Machine
end

