-- ==== Sys2Proof/Laws/Events.lean ====
section
/-! SUPPORT. What the sequencer, event records and postings can change, said once. -/

namespace Sys2Proof.Machine

variable (s : State) (t : ThreadId)

/-! ### The sequencer -/

/-- Issuing a number changes registers only (01 R28, R29). -/
theorem State.seqIssued_frame : ∃ v, s.seqIssued = { s with live := v } := by
  simp only [State.seqIssued]
  split
  · exact ⟨_, rfl⟩
  · exact ⟨_, rfl⟩

/-- Issuing a number writes LDG_SEQ and, at a wrap, LDG_EPOCH. -/
theorem State.seqIssued_reg {a : Nat} (h1 : a ≠ F.LDG_SEQ_NEXT.addr) (h2 : a ≠ F.LDG_EPOCH_WRAPS.addr) : s.seqIssued.reg a = s.reg a := by
  simp only [State.seqIssued]
  split <;> simp [State.reg_setFld_ne, h1, h2]

/-! ### Event records -/

/-- Words written one after another change memory only. -/
theorem State.pokes_frame (l : List TWord) : ∀ (s : State) (a : Nat), ∃ m, s.pokes a l = { s with mem := m } := by
  induction l with
  | nil => exact fun s _ => ⟨s.mem, rfl⟩
  | cons w r ih =>
    intro s a
    obtain ⟨m, h⟩ := ih (s.poke a w) (a + 4)
    exact ⟨m, h.trans rfl⟩

theorem State.pokes_reg (l : List TWord) (a b : Nat) : (s.pokes a l).reg b = s.reg b := by
  obtain ⟨m, h⟩ := State.pokes_frame l s a
  rw [h]
  rfl

/-- A record changes memory, registers and the thread's event ring only (05 R207 to R209). -/
theorem State.writeRecord_frame (bit code : Nat) (detail : Word) (stamp : BitVec 48) (seq : Option Word) :
    ∃ v m e, s.writeRecord t bit code detail stamp seq = { s with live := v, mem := m, evring := e } := by
  simp only [State.writeRecord]
  split
  · exact ⟨s.live, s.mem, s.evring, rfl⟩
  · split
    · simp only [State.satInc, State.setFld, State.setReg]
      exact ⟨_, s.mem, s.evring, rfl⟩
    · split
      · obtain ⟨m, h⟩ := State.pokes_frame (recordWords bit code detail stamp (seq.getD s.seqNext)) s
          ((vget s.evring t).base + (vget s.evring t).prod % (vget s.evring t).size * 16)
        rw [h]
        exact ⟨_, _, _, rfl⟩
      · obtain ⟨m, h⟩ := State.pokes_frame (recordWords bit code detail stamp (seq.getD s.seqNext)) s.seqIssued
          ((vget s.evring t).base + (vget s.evring t).prod % (vget s.evring t).size * 16)
        obtain ⟨v, hv⟩ := s.seqIssued_frame
        rw [h, hv]
        exact ⟨_, _, _, rfl⟩

/-- A record writes no register but LDG_SEQ, LDG_EPOCH and the thread's EVT_TOVF. -/
theorem State.writeRecord_reg {a : Nat} (bit code : Nat) (detail : Word) (stamp : BitVec 48) (seq : Option Word)
    (h1 : a ≠ F.LDG_SEQ_NEXT.addr) (h2 : a ≠ F.LDG_EPOCH_WRAPS.addr) (h3 : a ≠ (F.EVT_TOVF_COUNT t.val).addr) :
    (s.writeRecord t bit code detail stamp seq).reg a = s.reg a := by
  simp only [State.writeRecord]
  split
  · rfl
  · split
    · exact State.reg_setFld_ne _ _ _ _ h3
    · split
      · obtain ⟨m, h⟩ := State.pokes_frame (recordWords bit code detail stamp (seq.getD s.seqNext)) s
          ((vget s.evring t).base + (vget s.evring t).prod % (vget s.evring t).size * 16)
        rw [h]
        rfl
      · obtain ⟨m, h⟩ := State.pokes_frame (recordWords bit code detail stamp (seq.getD s.seqNext)) s.seqIssued
          ((vget s.evring t).base + (vget s.evring t).prod % (vget s.evring t).size * 16)
        rw [h]
        change s.seqIssued.reg a = s.reg a
        exact s.seqIssued_reg h1 h2

/-- A record sent changes memory, registers, the thread's event ring and the waiting records only (02 R75; 05 R207). -/
theorem State.sendRecord_frame (bit code : Nat) (detail : Word) (stamp : BitVec 48) (seq : Option Word) :
    ∃ v m e l, s.sendRecord t bit code detail stamp seq = { s with live := v, mem := m, evring := e, late := l } := by
  simp only [State.sendRecord]
  split
  · obtain ⟨v, m, e, h⟩ := s.writeRecord_frame t bit code detail stamp seq
    exact ⟨v, m, e, s.late, h⟩
  · exact ⟨s.live, s.mem, s.evring, _, rfl⟩

/-- A record sent writes no register but LDG_SEQ, LDG_EPOCH and the thread's EVT_TOVF. -/
theorem State.sendRecord_reg {a : Nat} (bit code : Nat) (detail : Word) (stamp : BitVec 48) (seq : Option Word)
    (h1 : a ≠ F.LDG_SEQ_NEXT.addr) (h2 : a ≠ F.LDG_EPOCH_WRAPS.addr) (h3 : a ≠ (F.EVT_TOVF_COUNT t.val).addr) :
    (s.sendRecord t bit code detail stamp seq).reg a = s.reg a := by
  simp only [State.sendRecord]
  split
  · exact State.writeRecord_reg _ t bit code detail stamp seq h1 h2 h3
  · rfl

/-- A delivered event changes memory, registers, the thread, its event ring, the waiting records and the snuff hold only (05 R202). -/
theorem State.deliver_frame (bits : Word) (bit code : Nat) (detail : Word) (stamp : BitVec 48) (seq : Option Word) :
    ∃ v m x e l p, s.deliver t bits bit code detail stamp seq =
      { s with live := v, mem := m, threads := x, evring := e, late := l, power := p } := by
  unfold State.deliver
  split
  · obtain ⟨v, m, e, l, h⟩ := State.sendRecord_frame (s.unhold.setThr t { s.thr t with pend := (s.thr t).pend ||| bits }) t bit code detail
      stamp seq
    exact ⟨v, m, _, e, l, _, h.trans rfl⟩
  · obtain ⟨v, m, e, l, h⟩ := State.sendRecord_frame (s.setThr t { s.thr t with pend := (s.thr t).pend ||| bits }) t bit code detail stamp seq
    exact ⟨v, m, _, e, l, s.power, h.trans rfl⟩

/-- A delivered event writes no register but LDG_SEQ, LDG_EPOCH and the thread's EVT_TOVF. -/
theorem State.deliver_reg {a : Nat} (bits : Word) (bit code : Nat) (detail : Word) (stamp : BitVec 48) (seq : Option Word)
    (h1 : a ≠ F.LDG_SEQ_NEXT.addr) (h2 : a ≠ F.LDG_EPOCH_WRAPS.addr) (h3 : a ≠ (F.EVT_TOVF_COUNT t.val).addr) :
    (s.deliver t bits bit code detail stamp seq).reg a = s.reg a := by
  unfold State.deliver
  split <;> exact (State.sendRecord_reg _ t bit code detail stamp seq h1 h2 h3).trans rfl

@[simp] theorem State.deliver_ledger (bits : Word) (bit code : Nat) (detail : Word) (stamp : BitVec 48) (seq : Option Word) :
    (s.deliver t bits bit code detail stamp seq).ledger = s.ledger := by
  obtain ⟨v, m, x, e, l, p, h⟩ := s.deliver_frame t bits bit code detail stamp seq
  rw [h]

@[simp] theorem State.deliver_isl (bits : Word) (bit code : Nat) (detail : Word) (stamp : BitVec 48) (seq : Option Word) :
    (s.deliver t bits bit code detail stamp seq).isl = s.isl := by
  obtain ⟨v, m, x, e, l, p, h⟩ := s.deliver_frame t bits bit code detail stamp seq
  rw [h]

@[simp] theorem State.deliver_rings (bits : Word) (bit code : Nat) (detail : Word) (stamp : BitVec 48) (seq : Option Word) :
    (s.deliver t bits bit code detail stamp seq).rings = s.rings := by
  obtain ⟨v, m, x, e, l, p, h⟩ := s.deliver_frame t bits bit code detail stamp seq
  rw [h]

/-- A system record leaves the ledger as it is. -/
@[simp] theorem State.deliverSystem_ledger (bits : Word) (bit code : Nat) (detail : Word) (stamp : BitVec 48) (seq : Option Word) :
    (s.deliverSystem t bits bit code detail stamp seq).ledger = s.ledger := by
  unfold State.deliverSystem
  split
  · obtain ⟨v, m, e, l, h⟩ := s.sendRecord_frame t bit code detail stamp seq
    rw [h]
  · exact s.deliver_ledger t bits bit code detail stamp seq

/-- A system record to no thread changes nothing (05 R224). -/
@[simp] theorem State.system_nil (code : Nat) (detail : Word) (seq : Option Word) : s.system [] code detail seq = s := rfl

/-- System records leave the ledger as it is. -/
@[simp] theorem State.system_ledger (ts : List ThreadId) (code : Nat) (detail : Word) (seq : Option Word) :
    (s.system ts code detail seq).ledger = s.ledger := by
  have arrive : s.arrive.ledger = s.ledger := by unfold State.arrive; split <;> rfl
  have fold : ∀ (l : List ThreadId) (u : State),
      (l.foldl (fun acc t => acc.deliverSystem t (1#32 <<< 23) 23 code detail s.stamp seq) u).ledger = u.ledger := by
    intro l
    induction l with
    | nil => intro u; rfl
    | cons x r ih => intro u; rw [List.foldl_cons, ih, State.deliverSystem_ledger]
  simp only [State.system]
  rw [fold]
  split
  · rfl
  · exact arrive

/-! ### Postings -/

/-- A sound account whose word passes its check is left as it is by a check (01 R26, R55). -/
theorem State.check_sound (i : Nat) (hp : nsMem s.ledger.parity i = false) (hs : (s.acct i).sound (s.win i) = true) : s.check i = s := by
  simp [State.check, hp, hs]

/-- A posting that keeps its account sound replaces it and does nothing else (01 R26). -/
theorem State.posted_sound (i : Nat) (f : Account → Option Account) (a : Account) (hi : s.acctAbsent i = false) (hf : f (s.acct i) = some a)
    (hr : a.fits = true) (hp : nsMem s.ledger.parity i = false) (hs : a.sound (s.win i) = true) : s.posted i f = s.setAcct i a := by
  have hw : (s.setAcct i a).win i = s.win i := rfl
  have ha : (s.setAcct i a).acct i = a := by simp [State.acct, State.setAcct]
  have hc : (s.setAcct i a).check i = s.setAcct i a :=
    State.check_sound _ i hp (by rw [ha, hw]; exact hs)
  simp [State.posted, State.post, hi, hf, hr, hc, Option.filter]

end Sys2Proof.Machine
end

