-- ==== Sys2Proof/Laws/Exec.lean ====
section
/-! SUPPORT. The dispatcher, arm by arm: what `exec` is for each command. -/

namespace Sys2Proof.Machine

variable (s : State)

@[simp] theorem exec_registerWrite (t : ThreadId) (addr value : Word) :
    exec (.registerWrite t addr value) s = execRegisterWrite t addr value s := rfl
@[simp] theorem exec_sealGo (b : Blk) (value : Word) :
    exec (.sealGo b value) s = execSealGo b value s := rfl
@[simp] theorem exec_sealCommit (b : Blk) :
    exec (.sealCommit b) s = execSealCommit b s := rfl
@[simp] theorem exec_periodicSweepDue :
    exec (.periodicSweepDue) s = execPeriodicSweepDue s := rfl
@[simp] theorem exec_auditGo :
    exec (.auditGo) s = execAuditGo s := rfl
@[simp] theorem exec_waitingSweepStart :
    exec (.waitingSweepStart) s = execWaitingSweepStart s := rfl
@[simp] theorem exec_sweepAccountCheck :
    exec (.sweepAccountCheck) s = execSweepAccountCheck s := rfl
@[simp] theorem exec_windowAge (acct : Fin 192) :
    exec (.windowAge acct) s = execWindowAge acct s := rfl
@[simp] theorem exec_ldgSelCapture (acct : BitVec 8) :
    exec (.ldgSelCapture acct) s = execLdgSelCapture acct s := rfl
@[simp] theorem exec_spanRequest (span : Fin 7) (reverse : Bool) :
    exec (.spanRequest span reverse) s = execSpanRequest span reverse s := rfl
@[simp] theorem exec_spanAcknowledge (span : Fin 7) (reverse : Bool) :
    exec (.spanAcknowledge span reverse) s = execSpanAcknowledge span reverse s := rfl
@[simp] theorem exec_enterLowerState :
    exec (.enterLowerState) s = execEnterLowerState s := rfl
@[simp] theorem exec_dimWake :
    exec (.dimWake) s = execDimWake s := rfl
@[simp] theorem exec_bootRomStart :
    exec (.bootRomStart) s = execBootRomStart s := rfl
@[simp] theorem exec_bootHandoff :
    exec (.bootHandoff) s = execBootHandoff s := rfl
@[simp] theorem exec_flashReady :
    exec (.flashReady) s = execFlashReady s := rfl
@[simp] theorem exec_burstOn :
    exec (.burstOn) s = execBurstOn s := rfl
@[simp] theorem exec_burstLit :
    exec (.burstLit) s = execBurstLit s := rfl
@[simp] theorem exec_burstOff :
    exec (.burstOff) s = execBurstOff s := rfl
@[simp] theorem exec_burstAutoDark :
    exec (.burstAutoDark) s = execBurstAutoDark s := rfl
@[simp] theorem exec_islandLit (i : Island) :
    exec (.islandLit i) s = execIslandLit i s := rfl
@[simp] theorem exec_lightFail (i : Island) :
    exec (.lightFail i) s = execLightFail i s := rfl
@[simp] theorem exec_islandIdleDark (i : Island) :
    exec (.islandIdleDark i) s = execIslandIdleDark i s := rfl
@[simp] theorem exec_quiesce (i : Island) :
    exec (.quiesce i) s = execQuiesce i s := rfl
@[simp] theorem exec_quiesceDrainEnd (i : Island) :
    exec (.quiesceDrainEnd i) s = execQuiesceDrainEnd i s := rfl
@[simp] theorem exec_islandReset (value : Word) :
    exec (.islandReset value) s = execIslandReset value s := rfl
@[simp] theorem exec_softReset (value : Word) :
    exec (.softReset value) s = execSoftReset value s := rfl
@[simp] theorem exec_resetnQualify (lowNs : Nat) :
    exec (.resetnQualify lowNs) s = execResetnQualify lowNs s := rfl
@[simp] theorem exec_resetnRelease :
    exec (.resetnRelease) s = execResetnRelease s := rfl
@[simp] theorem exec_powerOn (belowVvret : Bool) :
    exec (.powerOn belowVvret) s = execPowerOn belowVvret s := rfl
@[simp] theorem exec_brownOut :
    exec (.brownOut) s = execBrownOut s := rfl
@[simp] theorem exec_xt32Fail (missed : Nat) :
    exec (.xt32Fail missed) s = execXt32Fail missed s := rfl
@[simp] theorem exec_xt32Confirmed :
    exec (.xt32Confirmed) s = execXt32Confirmed s := rfl
@[simp] theorem exec_vigilClockSwitch :
    exec (.vigilClockSwitch) s = execVigilClockSwitch s := rfl
@[simp] theorem exec_xt32mFail (cycles : Nat) :
    exec (.xt32mFail cycles) s = execXt32mFail cycles s := rfl
@[simp] theorem exec_xt32mConfirmed (cycles : Nat) :
    exec (.xt32mConfirmed cycles) s = execXt32mConfirmed cycles s := rfl
@[simp] theorem exec_fllRefSwitch :
    exec (.fllRefSwitch) s = execFllRefSwitch s := rfl
@[simp] theorem exec_pairedWord (t : ThreadId) (w : Word) :
    exec (.pairedWord t w) s = execPairedWord t w s := rfl
@[simp] theorem exec_add (t : ThreadId) (c : Cond) (rd ra rb : Reg) :
    exec (.add t c rd ra rb) s = execAdd t c rd ra rb s := rfl
@[simp] theorem exec_sub (t : ThreadId) (c : Cond) (rd ra rb : Reg) :
    exec (.sub t c rd ra rb) s = execSub t c rd ra rb s := rfl
@[simp] theorem exec_and (t : ThreadId) (c : Cond) (rd ra rb : Reg) :
    exec (.and t c rd ra rb) s = execAnd t c rd ra rb s := rfl
@[simp] theorem exec_or (t : ThreadId) (c : Cond) (rd ra rb : Reg) :
    exec (.or t c rd ra rb) s = execOr t c rd ra rb s := rfl
@[simp] theorem exec_xor (t : ThreadId) (c : Cond) (rd ra rb : Reg) :
    exec (.xor t c rd ra rb) s = execXor t c rd ra rb s := rfl
@[simp] theorem exec_shl (t : ThreadId) (c : Cond) (rd ra rb : Reg) :
    exec (.shl t c rd ra rb) s = execShl t c rd ra rb s := rfl
@[simp] theorem exec_shr (t : ThreadId) (c : Cond) (rd ra rb : Reg) :
    exec (.shr t c rd ra rb) s = execShr t c rd ra rb s := rfl
@[simp] theorem exec_sar (t : ThreadId) (c : Cond) (rd ra rb : Reg) :
    exec (.sar t c rd ra rb) s = execSar t c rd ra rb s := rfl
@[simp] theorem exec_mul (t : ThreadId) (c : Cond) (rd ra rb : Reg) :
    exec (.mul t c rd ra rb) s = execMul t c rd ra rb s := rfl
@[simp] theorem exec_mulhu (t : ThreadId) (c : Cond) (rd ra rb : Reg) :
    exec (.mulhu t c rd ra rb) s = execMulhu t c rd ra rb s := rfl
@[simp] theorem exec_mulhs (t : ThreadId) (c : Cond) (rd ra rb : Reg) :
    exec (.mulhs t c rd ra rb) s = execMulhs t c rd ra rb s := rfl
@[simp] theorem exec_divu (t : ThreadId) (c : Cond) (rd ra rb : Reg) :
    exec (.divu t c rd ra rb) s = execDivu t c rd ra rb s := rfl
@[simp] theorem exec_divs (t : ThreadId) (c : Cond) (rd ra rb : Reg) :
    exec (.divs t c rd ra rb) s = execDivs t c rd ra rb s := rfl
@[simp] theorem exec_remu (t : ThreadId) (c : Cond) (rd ra rb : Reg) :
    exec (.remu t c rd ra rb) s = execRemu t c rd ra rb s := rfl
@[simp] theorem exec_rems (t : ThreadId) (c : Cond) (rd ra rb : Reg) :
    exec (.rems t c rd ra rb) s = execRems t c rd ra rb s := rfl
@[simp] theorem exec_mov (t : ThreadId) (c : Cond) (rd ra : Reg) :
    exec (.mov t c rd ra) s = execMov t c rd ra s := rfl
@[simp] theorem exec_addi (t : ThreadId) (c : Cond) (rd ra : Reg) (imm : BitVec 10) :
    exec (.addi t c rd ra imm) s = execAddi t c rd ra imm s := rfl
@[simp] theorem exec_andi (t : ThreadId) (c : Cond) (rd ra : Reg) (imm : BitVec 10) :
    exec (.andi t c rd ra imm) s = execAndi t c rd ra imm s := rfl
@[simp] theorem exec_ori (t : ThreadId) (c : Cond) (rd ra : Reg) (imm : BitVec 10) :
    exec (.ori t c rd ra imm) s = execOri t c rd ra imm s := rfl
@[simp] theorem exec_xori (t : ThreadId) (c : Cond) (rd ra : Reg) (imm : BitVec 10) :
    exec (.xori t c rd ra imm) s = execXori t c rd ra imm s := rfl
@[simp] theorem exec_shli (t : ThreadId) (c : Cond) (rd ra : Reg) (imm : BitVec 5) :
    exec (.shli t c rd ra imm) s = execShli t c rd ra imm s := rfl
@[simp] theorem exec_shri (t : ThreadId) (c : Cond) (rd ra : Reg) (imm : BitVec 5) :
    exec (.shri t c rd ra imm) s = execShri t c rd ra imm s := rfl
@[simp] theorem exec_sari (t : ThreadId) (c : Cond) (rd ra : Reg) (imm : BitVec 5) :
    exec (.sari t c rd ra imm) s = execSari t c rd ra imm s := rfl
@[simp] theorem exec_retag (t : ThreadId) (c : Cond) (rd ra : Reg) (tag : BitVec 4) :
    exec (.retag t c rd ra tag) s = execRetag t c rd ra tag s := rfl
@[simp] theorem exec_cmp (t : ThreadId) (c : Cond) (ra rb : Reg) :
    exec (.cmp t c ra rb) s = execCmp t c ra rb s := rfl
@[simp] theorem exec_cmpi (t : ThreadId) (c : Cond) (ra : Reg) (imm : BitVec 10) :
    exec (.cmpi t c ra imm) s = execCmpi t c ra imm s := rfl
@[simp] theorem exec_tst (t : ThreadId) (c : Cond) (ra rb : Reg) :
    exec (.tst t c ra rb) s = execTst t c ra rb s := rfl
@[simp] theorem exec_tagof (t : ThreadId) (c : Cond) (rd ra : Reg) :
    exec (.tagof t c rd ra) s = execTagof t c rd ra s := rfl
@[simp] theorem exec_orl (t : ThreadId) (c : Cond) (rd : Reg) (imm : BitVec 16) :
    exec (.orl t c rd imm) s = execOrl t c rd imm s := rfl
@[simp] theorem exec_movh (t : ThreadId) (c : Cond) (rd : Reg) (imm : BitVec 16) :
    exec (.movh t c rd imm) s = execMovh t c rd imm s := rfl
@[simp] theorem exec_ldw (t : ThreadId) (c : Cond) (rd ra : Reg) (imm : BitVec 10) :
    exec (.ldw t c rd ra imm) s = execLdw t c rd ra imm s := rfl
@[simp] theorem exec_stw (t : ThreadId) (c : Cond) (rd ra : Reg) (imm : BitVec 10) :
    exec (.stw t c rd ra imm) s = execStw t c rd ra imm s := rfl
@[simp] theorem exec_ldhu (t : ThreadId) (c : Cond) (rd ra : Reg) (imm : BitVec 10) :
    exec (.ldhu t c rd ra imm) s = execLdhu t c rd ra imm s := rfl
@[simp] theorem exec_ldhs (t : ThreadId) (c : Cond) (rd ra : Reg) (imm : BitVec 10) :
    exec (.ldhs t c rd ra imm) s = execLdhs t c rd ra imm s := rfl
@[simp] theorem exec_ldbu (t : ThreadId) (c : Cond) (rd ra : Reg) (imm : BitVec 10) :
    exec (.ldbu t c rd ra imm) s = execLdbu t c rd ra imm s := rfl
@[simp] theorem exec_ldbs (t : ThreadId) (c : Cond) (rd ra : Reg) (imm : BitVec 10) :
    exec (.ldbs t c rd ra imm) s = execLdbs t c rd ra imm s := rfl
@[simp] theorem exec_sth (t : ThreadId) (c : Cond) (rd ra : Reg) (imm : BitVec 10) :
    exec (.sth t c rd ra imm) s = execSth t c rd ra imm s := rfl
@[simp] theorem exec_stb (t : ThreadId) (c : Cond) (rd ra : Reg) (imm : BitVec 10) :
    exec (.stb t c rd ra imm) s = execStb t c rd ra imm s := rfl
@[simp] theorem exec_ldwx (t : ThreadId) (c : Cond) (rd ra rb : Reg) :
    exec (.ldwx t c rd ra rb) s = execLdwx t c rd ra rb s := rfl
@[simp] theorem exec_stwx (t : ThreadId) (c : Cond) (rd ra rb : Reg) :
    exec (.stwx t c rd ra rb) s = execStwx t c rd ra rb s := rfl
@[simp] theorem exec_b (t : ThreadId) (c : Cond) (off : BitVec 20) :
    exec (.b t c off) s = execB t c off s := rfl
@[simp] theorem exec_bl (t : ThreadId) (c : Cond) (off : BitVec 20) :
    exec (.bl t c off) s = execBl t c off s := rfl
@[simp] theorem exec_jr (t : ThreadId) (c : Cond) (ra : Reg) :
    exec (.jr t c ra) s = execJr t c ra s := rfl
@[simp] theorem exec_jlr (t : ThreadId) (c : Cond) (rd ra : Reg) :
    exec (.jlr t c rd ra) s = execJlr t c rd ra s := rfl
@[simp] theorem exec_sys (t : ThreadId) (c : Cond) (imm : BitVec 15) :
    exec (.sys t c imm) s = execSys t c imm s := rfl
@[simp] theorem exec_wret (t : ThreadId) (c : Cond) :
    exec (.wret t c) s = execWret t c s := rfl
@[simp] theorem exec_wait (t : ThreadId) (c : Cond) (rd ra : Reg) :
    exec (.wait t c rd ra) s = execWait t c rd ra s := rfl
@[simp] theorem exec_waitWake (t : ThreadId) :
    exec (.waitWake t) s = execWaitWake t s := rfl
@[simp] theorem exec_send (t : ThreadId) (c : Cond) (rd ra rb : Reg) :
    exec (.send t c rd ra rb) s = execSend t c rd ra rb s := rfl
@[simp] theorem exec_bcopy (t : ThreadId) (c : Cond) (rd ra rb : Reg) :
    exec (.bcopy t c rd ra rb) s = execBcopy t c rd ra rb s := rfl
@[simp] theorem exec_bfill (t : ThreadId) (c : Cond) (rd ra rb : Reg) :
    exec (.bfill t c rd ra rb) s = execBfill t c rd ra rb s := rfl
@[simp] theorem exec_bcrc (t : ThreadId) (c : Cond) (rd ra rb : Reg) :
    exec (.bcrc t c rd ra rb) s = execBcrc t c rd ra rb s := rfl
@[simp] theorem exec_bretag (t : ThreadId) (c : Cond) (rd ra rb : Reg) :
    exec (.bretag t c rd ra rb) s = execBretag t c rd ra rb s := rfl
@[simp] theorem exec_mfs (t : ThreadId) (c : Cond) (rd : Reg) (sr : BitVec 4) :
    exec (.mfs t c rd sr) s = execMfs t c rd sr s := rfl
@[simp] theorem exec_mts (t : ThreadId) (c : Cond) (ra : Reg) (sr : BitVec 4) :
    exec (.mts t c ra sr) s = execMts t c ra sr s := rfl
@[simp] theorem exec_mkkey (t : ThreadId) (c : Cond) (rd : Reg) (slot : BitVec 4) :
    exec (.mkkey t c rd slot) s = execMkkey t c rd slot s := rfl
@[simp] theorem exec_adrc (t : ThreadId) (c : Cond) (rd : Reg) (imm : BitVec 15) :
    exec (.adrc t c rd imm) s = execAdrc t c rd imm s := rfl
@[simp] theorem exec_reservedWord (t : ThreadId) (w : Word) :
    exec (.reservedWord t w) s = execReservedWord t w s := rfl
@[simp] theorem exec_threadStart (t : ThreadId) :
    exec (.threadStart t) s = execThreadStart t s := rfl
@[simp] theorem exec_threadStop (t : ThreadId) :
    exec (.threadStop t) s = execThreadStop t s := rfl
@[simp] theorem exec_evtTringWrite (t : ThreadId) (value : Word) :
    exec (.evtTringWrite t value) s = execEvtTringWrite t value s := rfl
@[simp] theorem exec_evtTovfClr (t : ThreadId) :
    exec (.evtTovfClr t) s = execEvtTovfClr t s := rfl
@[simp] theorem exec_snuff :
    exec (.snuff) s = execSnuff s := rfl
@[simp] theorem exec_ringEnable (n : RingId) (value : Word) :
    exec (.ringEnable n value) s = execRingEnable n value s := rfl
@[simp] theorem exec_ringDisable (n : RingId) :
    exec (.ringDisable n) s = execRingDisable n s := rfl
@[simp] theorem exec_ringDrainEnd (n : RingId) :
    exec (.ringDrainEnd n) s = execRingDrainEnd n s := rfl
@[simp] theorem exec_completionWrite (n : RingId) :
    exec (.completionWrite n) s = execCompletionWrite n s := rfl
@[simp] theorem exec_queOvpClr :
    exec (.queOvpClr) s = execQueOvpClr s := rfl
@[simp] theorem exec_program :
    exec (.program) s = execProgram s := rfl
@[simp] theorem exec_erase :
    exec (.erase) s = execErase s := rfl
@[simp] theorem exec_verify :
    exec (.verify) s = execVerify s := rfl
@[simp] theorem exec_flashUnitProgrammed (ok : Bool) :
    exec (.flashUnitProgrammed ok) s = execFlashUnitProgrammed ok s := rfl
@[simp] theorem exec_flashSectorErased (ok : Bool) :
    exec (.flashSectorErased ok) s = execFlashSectorErased ok s := rfl
@[simp] theorem exec_suspend :
    exec (.suspend) s = execSuspend s := rfl
@[simp] theorem exec_flashPaused :
    exec (.flashPaused) s = execFlashPaused s := rfl
@[simp] theorem exec_resume :
    exec (.resume) s = execResume s := rfl
@[simp] theorem exec_reservationProgram (ok : Bool) :
    exec (.reservationProgram ok) s = execReservationProgram ok s := rfl
@[simp] theorem exec_scrubRead (foreground : Bool) :
    exec (.scrubRead foreground) s = execScrubRead foreground s := rfl
@[simp] theorem exec_scrubForcedHoldEnd :
    exec (.scrubForcedHoldEnd) s = execScrubForcedHoldEnd s := rfl
@[simp] theorem exec_scrubReportDesc :
    exec (.scrubReportDesc) s = execScrubReportDesc s := rfl
@[simp] theorem exec_flcEccClr :
    exec (.flcEccClr) s = execFlcEccClr s := rfl
@[simp] theorem exec_tmbLoRead (t : ThreadId) :
    exec (.tmbLoRead t) s = execTmbLoRead t s := rfl
@[simp] theorem exec_timeBaseTick :
    exec (.timeBaseTick) s = execTimeBaseTick s := rfl
@[simp] theorem exec_cmpValWrite (n : Fin 16) (v : Word) :
    exec (.cmpValWrite n v) s = execCmpValWrite n v s := rfl
@[simp] theorem exec_cmpRel (n : Fin 16) (d : Word) :
    exec (.cmpRel n d) s = execCmpRel n d s := rfl
@[simp] theorem exec_compareWriteApply (n : Fin 16) :
    exec (.compareWriteApply n) s = execCompareWriteApply n s := rfl
@[simp] theorem exec_compareFire (n : Fin 16) :
    exec (.compareFire n) s = execCompareFire n s := rfl
@[simp] theorem exec_ppsCapture :
    exec (.ppsCapture) s = execPpsCapture s := rfl
@[simp] theorem exec_counterRun (n : Fin 8) :
    exec (.counterRun n) s = execCounterRun n s := rfl
@[simp] theorem exec_counterIncrement (n : Fin 8) :
    exec (.counterIncrement n) s = execCounterIncrement n s := rfl
@[simp] theorem exec_counterCapture (n : Fin 8) :
    exec (.counterCapture n) s = execCounterCapture n s := rfl
@[simp] theorem exec_cntCmpvWrite (n : Fin 8) (v : Word) :
    exec (.cntCmpvWrite n v) s = execCntCmpvWrite n v s := rfl
@[simp] theorem exec_cntCrel (n : Fin 8) (d : Word) :
    exec (.cntCrel n d) s = execCntCrel n d s := rfl
@[simp] theorem exec_cntCountWrite (n : Fin 8) (v : Word) :
    exec (.cntCountWrite n v) s = execCntCountWrite n v s := rfl
@[simp] theorem exec_calFreezeRead :
    exec (.calFreezeRead) s = execCalFreezeRead s := rfl
@[simp] theorem exec_calCloseRead :
    exec (.calCloseRead) s = execCalCloseRead s := rfl
@[simp] theorem exec_heldlong :
    exec (.heldlong) s = execHeldlong s := rfl
@[simp] theorem exec_calendarSubCarry (vbakMv : Nat) (switching : Bool) :
    exec (.calendarSubCarry vbakMv switching) s = execCalendarSubCarry vbakMv switching s := rfl
@[simp] theorem exec_calSetWrite (date : Bool) (v : Word) :
    exec (.calSetWrite date v) s = execCalSetWrite date v s := rfl
@[simp] theorem exec_backupOscFail (missed : Nat) :
    exec (.backupOscFail missed) s = execBackupOscFail missed s := rfl
@[simp] theorem exec_backupStateLoss :
    exec (.backupStateLoss) s = execBackupStateLoss s := rfl
@[simp] theorem exec_supplySwitchVbak :
    exec (.supplySwitchVbak) s = execSupplySwitchVbak s := rfl
@[simp] theorem exec_supplySwitchVdd :
    exec (.supplySwitchVdd) s = execSupplySwitchVdd s := rfl
@[simp] theorem exec_backupSenseCheck (high low : BitVec 8) :
    exec (.backupSenseCheck high low) s = execBackupSenseCheck high low s := rfl
@[simp] theorem exec_tamperLatchClear (v : Word) :
    exec (.tamperLatchClear v) s = execTamperLatchClear v s := rfl
@[simp] theorem exec_tx :
    exec (.tx) s = execTx s := rfl
@[simp] theorem exec_rx :
    exec (.rx) s = execRx s := rfl
@[simp] theorem exec_lantern :
    exec (.lantern) s = execLantern s := rfl
@[simp] theorem exec_lsearch :
    exec (.lsearch) s = execLsearch s := rfl
@[simp] theorem exec_cal :
    exec (.cal) s = execCal s := rfl
@[simp] theorem exec_alloc :
    exec (.alloc) s = execAlloc s := rfl
@[simp] theorem exec_free :
    exec (.free) s = execFree s := rfl
@[simp] theorem exec_radioOpBegin :
    exec (.radioOpBegin) s = execRadioOpBegin s := rfl
@[simp] theorem exec_syncDetect (rx : RxChips) :
    exec (.syncDetect rx) s = execSyncDetect rx s := rfl
@[simp] theorem exec_lanternDetect (first second : Word) :
    exec (.lanternDetect first second) s = execLanternDetect first second s := rfl
@[simp] theorem exec_radioOpEnd :
    exec (.radioOpEnd) s = execRadioOpEnd s := rfl
@[simp] theorem exec_radioCalibrate (p : Fin 2) (degrees : Nat) (below : Bool) :
    exec (.radioCalibrate p degrees below) s = execRadioCalibrate p degrees below s := rfl
@[simp] theorem exec_synthUnlock (p : Fin 2) :
    exec (.synthUnlock p) s = execSynthUnlock p s := rfl
@[simp] theorem exec_sniffLead :
    exec (.sniffLead) s = execSniffLead s := rfl
@[simp] theorem exec_sniffWindow (levelDbm : Int) :
    exec (.sniffWindow levelDbm) s = execSniffWindow levelDbm s := rfl
@[simp] theorem exec_sniffWindowEnd :
    exec (.sniffWindowEnd) s = execSniffWindowEnd s := rfl
@[simp] theorem exec_dutyWindowStart (p : Fin 2) :
    exec (.dutyWindowStart p) s = execDutyWindowStart p s := rfl
@[simp] theorem exec_sendDesc :
    exec (.sendDesc) s = execSendDesc s := rfl
@[simp] theorem exec_meshAdmit :
    exec (.meshAdmit) s = execAdmit s := rfl
@[simp] theorem exec_evict :
    exec (.evict) s = execEvict s := rfl
@[simp] theorem exec_wakereq :
    exec (.wakereq) s = execWakereq s := rfl
@[simp] theorem exec_propose :
    exec (.propose) s = execPropose s := rfl
@[simp] theorem exec_meshRecv :
    exec (.meshRecv) s = execMeshRecv s := rfl
@[simp] theorem exec_meshNote :
    exec (.meshNote) s = execMeshNote s := rfl
@[simp] theorem exec_meshRunStart :
    exec (.meshRunStart) s = execMeshRunStart s := rfl
@[simp] theorem exec_meshRunStop :
    exec (.meshRunStop) s = execMeshRunStop s := rfl
@[simp] theorem exec_slotBoundary :
    exec (.slotBoundary) s = execSlotBoundary s := rfl
@[simp] theorem exec_cycleBoundary :
    exec (.cycleBoundary) s = execCycleBoundary s := rfl
@[simp] theorem exec_meshFrameReceived (f : RxFrame) :
    exec (.meshFrameReceived f) s = execMeshFrameReceived f s := rfl
@[simp] theorem exec_ackSend :
    exec (.ackSend) s = execAckSend s := rfl
@[simp] theorem exec_ackJudge (ack : Option RxFrame) :
    exec (.ackJudge ack) s = execAckJudge ack s := rfl
@[simp] theorem exec_slotEnd :
    exec (.slotEnd) s = execSlotEnd s := rfl
@[simp] theorem exec_searchLantern (e : Fin 64) :
    exec (.searchLantern e) s = execSearchLantern e s := rfl
@[simp] theorem exec_holidayCommit :
    exec (.holidayCommit) s = execHolidayCommit s := rfl
@[simp] theorem exec_holidaySleep :
    exec (.holidaySleep) s = execHolidaySleep s := rfl
@[simp] theorem exec_holidayEnd :
    exec (.holidayEnd) s = execHolidayEnd s := rfl
@[simp] theorem exec_floodEnd :
    exec (.floodEnd) s = execFloodEnd s := rfl
@[simp] theorem exec_mshCntclr :
    exec (.mshCntclr) s = execMshCntclr s := rfl
@[simp] theorem exec_cipLockClaim (t : ThreadId) :
    exec (.cipLockClaim t) s = execCipLockClaim t s := rfl
@[simp] theorem exec_cipLockRelease (t : ThreadId) :
    exec (.cipLockRelease t) s = execCipLockRelease t s := rfl
@[simp] theorem exec_kload :
    exec (.kload) s = execKload s := rfl
@[simp] theorem exec_kzero :
    exec (.kzero) s = execKzero s := rfl
@[simp] theorem exec_kretire :
    exec (.kretire) s = execKretire s := rfl
@[simp] theorem exec_enc :
    exec (.enc) s = execEnc s := rfl
@[simp] theorem exec_dec :
    exec (.dec) s = execDec s := rfl
@[simp] theorem exec_ccmenc :
    exec (.ccmenc) s = execCcmenc s := rfl
@[simp] theorem exec_ccmdec :
    exec (.ccmdec) s = execCcmdec s := rfl
@[simp] theorem exec_cipNpurge (v : Word) :
    exec (.cipNpurge v) s = execCipNpurge v s := rfl
@[simp] theorem exec_zeroise (tamper : Bool) :
    exec (.zeroise tamper) s = execZeroise tamper s := rfl
@[simp] theorem exec_keyParityFault (slot : Fin 16) :
    exec (.keyParityFault slot) s = execKeyParityFault slot s := rfl
@[simp] theorem exec_get :
    exec (.get) s = execGet s := rfl
@[simp] theorem exec_raw :
    exec (.raw) s = execRaw s := rfl
@[simp] theorem exec_entropyReady :
    exec (.entropyReady) s = execEntropyReady s := rfl
@[simp] theorem exec_healthFail (adaptive : Bool) :
    exec (.healthFail adaptive) s = execHealthFail adaptive s := rfl
@[simp] theorem exec_entropyRestart :
    exec (.entropyRestart) s = execEntropyRestart s := rfl
@[simp] theorem exec_snap :
    exec (.snap) s = execSnap s := rfl
@[simp] theorem exec_snapBegin :
    exec (.snapBegin) s = execSnapBegin s := rfl
@[simp] theorem exec_snapEnd (samples : List (BitVec 8)) :
    exec (.snapEnd samples) s = execSnapEnd samples s := rfl
@[simp] theorem exec_start :
    exec (.start) s = execStart s := rfl
@[simp] theorem exec_stop :
    exec (.stop) s = execStop s := rfl
@[simp] theorem exec_meas :
    exec (.meas) s = execMeas s := rfl
@[simp] theorem exec_nav :
    exec (.nav) s = execNav s := rfl
@[simp] theorem exec_gnssNote :
    exec (.gnssNote) s = execGnssNote s := rfl
@[simp] theorem exec_ferdy :
    exec (.ferdy) s = execFerdy s := rfl
@[simp] theorem exec_epochBoundary (obs : GnssEpoch) :
    exec (.epochBoundary obs) s = execEpochBoundary obs s := rfl
@[simp] theorem exec_navWord (ch : Fin 16) (word : BitVec 30) (d29 d30 : Bool) (tcxoSub : BitVec 9) :
    exec (.navWord ch word d29 d30 tcxoSub) s = execNavWord ch word d29 d30 tcxoSub s := rfl
@[simp] theorem exec_ppsPulse (ticks40 : Int) :
    exec (.ppsPulse ticks40) s = execPpsPulse ticks40 s := rfl
@[simp] theorem exec_ppsEnable (value : Word) :
    exec (.ppsEnable value) s = execPpsEnable value s := rfl
@[simp] theorem exec_ppsFix (value : Word) :
    exec (.ppsFix value) s = execPpsFix value s := rfl
@[simp] theorem exec_ppsAdj (value : Word) :
    exec (.ppsAdj value) s = execPpsAdj value s := rfl
@[simp] theorem exec_holdoverEntry :
    exec (.holdoverEntry) s = execHoldoverEntry s := rfl
@[simp] theorem exec_tcxoFail (cycles : Nat) :
    exec (.tcxoFail cycles) s = execTcxoFail cycles s := rfl
@[simp] theorem exec_tcxoReturn :
    exec (.tcxoReturn) s = execTcxoReturn s := rfl
@[simp] theorem exec_sselFall :
    exec (.sselFall) s = execSselFall s := rfl
@[simp] theorem exec_nop (f : HostFrame) :
    exec (.nop f) s = execNop f s := rfl
@[simp] theorem exec_write (f : HostFrame) :
    exec (.write f) s = execWrite f s := rfl
@[simp] theorem exec_read (f : HostFrame) :
    exec (.read f) s = execRead f s := rfl
@[simp] theorem exec_record (f : HostFrame) :
    exec (.record f) s = execRecord f s := rfl
@[simp] theorem exec_go (f : HostFrame) :
    exec (.go f) s = execGo f s := rfl
@[simp] theorem exec_frameDiscard :
    exec (.frameDiscard) s = execFrameDiscard s := rfl
@[simp] theorem exec_cspRecv :
    exec (.cspRecv) s = execCspRecv s := rfl
@[simp] theorem exec_xfer (sdi : List Bool) :
    exec (.xfer sdi) s = execXfer sdi s := rfl
@[simp] theorem exec_drop :
    exec (.drop) s = execDrop s := rfl
@[simp] theorem exec_cspSclr :
    exec (.cspSclr) s = execCspSclr s := rfl
@[simp] theorem exec_lineEnable (l : Fin 4) :
    exec (.lineEnable l) s = execLineEnable l s := rfl
@[simp] theorem exec_search (noise : List TagNoise) :
    exec (.search noise) s = execSearch noise s := rfl
@[simp] theorem exec_check (noise : List TagNoise) :
    exec (.check noise) s = execCheck noise s := rfl
@[simp] theorem exec_tagRecv :
    exec (.tagRecv) s = execTagRecv s := rfl
@[simp] theorem exec_presenceCheck (l : Fin 4) (noise : List TagNoise) :
    exec (.presenceCheck l noise) s = execPresenceCheck l noise s := rfl
@[simp] theorem exec_searchResume :
    exec (.searchResume) s = execSearchResume s := rfl
@[simp] theorem exec_searchPauseTimeout :
    exec (.searchPauseTimeout) s = execSearchPauseTimeout s := rfl
@[simp] theorem exec_move :
    exec (.move) s = execMove s := rfl
@[simp] theorem exec_endStop (e : Fin 4) (levels : BitVec 8) (cur : List (BitVec 8)) :
    exec (.endStop e levels cur) s = execEndStop e levels cur s := rfl
@[simp] theorem exec_stall (b : Fin 2) (cur : List (BitVec 8)) :
    exec (.stall b cur) s = execStall b cur s := rfl
@[simp] theorem exec_moveTimeout (b : Fin 2) (cur : List (BitVec 8)) :
    exec (.moveTimeout b cur) s = execMoveTimeout b cur s := rfl
@[simp] theorem exec_brakeEnd (b : Fin 2) :
    exec (.brakeEnd b) s = execBrakeEnd b s := rfl
@[simp] theorem exec_overcur (b : Fin 2) (milliamps : Nat) :
    exec (.overcur b milliamps) s = execOvercur b milliamps s := rfl
@[simp] theorem exec_vmotlow (low : Bool) :
    exec (.vmotlow low) s = execVmotlow low s := rfl
@[simp] theorem exec_tamperChip (n : Fin 8) (sample : Bool) :
    exec (.tamperChip n sample) s = execTamperChip n sample s := rfl
@[simp] theorem exec_tamperNoticeDesc :
    exec (.tamperNoticeDesc) s = execTamperNoticeDesc s := rfl
@[simp] theorem exec_loopRearm (v : Word) :
    exec (.loopRearm v) s = execLoopRearm v s := rfl
@[simp] theorem exec_pinSet (v : Word) :
    exec (.pinSet v) s = execPinSet v s := rfl
@[simp] theorem exec_pinClr (v : Word) :
    exec (.pinClr v) s = execPinClr v s := rfl
@[simp] theorem exec_pinEdge (n : Fin 24) (level : Bool) :
    exec (.pinEdge n level) s = execPinEdge n level s := rfl
@[simp] theorem exec_fetchFault (t : ThreadId) :
    exec (.fetchFault t) s = execFetchFault t s := rfl
@[simp] theorem exec_reservedKindFrame (f : HostFrame) :
    exec (.reservedKindFrame f) s = execReservedKindFrame f s := rfl
@[simp] theorem exec_fobAttached (l : Fin 4) (id : BitVec 64) (code : BitVec 8) :
    exec (.fobAttached l id code) s = execFobAttached l id code s := rfl
@[simp] theorem exec_fobRemoved (l : Fin 4) (id : BitVec 64) :
    exec (.fobRemoved l id) s = execFobRemoved l id s := rfl
@[simp] theorem exec_fllLocked (khz : Nat) :
    exec (.fllLocked khz) s = execFllLocked khz s := rfl

end Sys2Proof.Machine
end

