-- ==== Sys2Proof/Laws/Ops.lean ====
section
/-! SUPPORT. What the shared operations can do, said once: the end of a command, the course of an instruction, warden entry and halt. -/

namespace Sys2Proof.Machine

variable (s : State) (t : ThreadId)

/-- A part with no breach reset ordered is left as it is at the end of a command. -/
theorem State.settle_of (h : s.ledger.resetDue = false) : s.settle = s := by simp [State.settle, h]

theorem ok_eq : ok s = .next s.settle := rfl

theorem ok_of (h : s.ledger.resetDue = false) : ok s = .next s := by rw [ok_eq, s.settle_of h]

/-- A full reset orders no further one (01 R59, R61). -/
@[simp] theorem State.fullReset_resetDue (c : Cause) : (s.fullReset c).ledger.resetDue = false := rfl

/-- After the end of a command no breach reset is ordered (01 R59). -/
theorem State.settle_resetDue : s.settle.ledger.resetDue = false := by
  unfold State.settle
  split
  · rfl
  · simpa using ‹¬ s.ledger.resetDue = true›

/-- A command that answers with `ok` answers a next state with no breach reset ordered. -/
theorem ok_next : ∃ u, ok s = .next u ∧ u.ledger.resetDue = false := ⟨s.settle, rfl, s.settle_resetDue⟩

/-- A step carries out the command at the front of the queue. -/
theorem step_front (i : Instr) (r : List Instr) (h : s.pending = i :: r) : step s = exec i (s.withPending r) := by
  unfold step
  rw [h]

/-- With no command waiting a steady cycle passes. -/
theorem step_idle (h : s.pending = []) : step s = ok s.steadyCycle := by
  unfold step
  rw [h]

/-! ### The course of an instruction -/

/-- A thread that does not run executes nothing. -/
theorem State.instr_idle (c : Cond) (cr : Reg) (body : State → Did) (h : s.runs t = false) : s.instr t c cr body = ok s := by
  simp only [State.instr, State.fetched, h, Bool.false_eq_true, if_false]

/-- A word that is fetched by a thread that runs does what it says on the state that the fetch leaves, and a STOP that waited for it then takes
effect (04 R193; 05 R200). -/
theorem State.fetched_run (run : State → Res) {u : State} (h : s.runs t = true) (hf : s.fetchStop t = none)
    (hr : run (s.fetchRead t) = .next u) : s.fetched t run = ok (u.stopLate t) := by
  simp only [State.fetched, h, hf, hr, if_true]

/-- A fetch that meets a stop ends the word (04 R193, R196). -/
theorem State.fetched_stop (run : State → Res) (r : Reach) (h : s.runs t = true) (hf : s.fetchStop t = some r) :
    s.fetched t run = ok ((s.fetchEnd t r).settle.stopLate t) := by
  simp only [State.fetched, h, hf, ok_eq, if_true]

/-- With no STOP waiting for the word there is none to take effect. -/
theorem State.stopLate_of (h : (s.thr t).stopping = false) : s.stopLate t = s := by simp [State.stopLate, h]

/-- A word of a thread that is ready answers what it says. -/
theorem State.fetched_ready (run : State → Res) {u : State} (h : s.ready t) (hr : run s = .next u) (hs : (u.thr t).stopping = false)
    (hq : u.ledger.resetDue = false) : s.fetched t run = .next u := by
  rw [s.fetched_run t run h.1 h.2.1 (by rw [h.2.2.2.1]; exact hr), u.stopLate_of t hs, ok_of u hq]

/-- A word answers a next state where what it says does. -/
theorem State.fetched_next (run : State → Res) (hr : ∀ v, ∃ u, run v = .next u) :
    ∃ u, s.fetched t run = .next u ∧ u.ledger.resetDue = false := by
  obtain ⟨u, hu⟩ := hr (s.fetchRead t)
  cases hr' : s.runs t with
  | false => rw [show s.fetched t run = ok s by simp [State.fetched, hr']]; exact ok_next s
  | true =>
    cases hf : s.fetchStop t with
    | none => rw [s.fetched_run t run hr' hf hu]; exact ok_next _
    | some r => rw [s.fetched_stop t run r hr' hf]; exact ok_next _

/-- A false condition skips the word (04 R165). -/
theorem State.instr_skip (c : Cond) (cr : Reg) (body : State → Did) (h : s.ready t)
    (hc : condHolds ((s.clearBip t).thr t) c cr = false) : s.instr t c cr body = .next ((s.clearBip t).skip t) := by
  refine s.fetched_ready t _ h ?_ (by simpa [State.skip, Thread.next] using h.2.2.2.2) h.2.2.1
  simp only [hc, Bool.false_eq_true, if_false]
  exact ok_of _ h.2.2.1

/-- A true condition runs the instruction's own effect. -/
theorem State.instr_run (c : Cond) (cr : Reg) (body : State → Did) {u : State} (h : s.ready t)
    (hc : condHolds ((s.clearBip t).thr t) c cr = true) (hb : State.conclude t (s.thr t).issued (body (s.clearBip t)) = .next u)
    (hs : (u.thr t).stopping = false) (hq : u.ledger.resetDue = false) : s.instr t c cr body = .next u := by
  refine s.fetched_ready t _ h ?_ hs hq
  simpa only [hc, if_true] using hb

theorem State.conclude_done (b : Held) (u : State) : State.conclude t b (.done u) = ok u := rfl
theorem State.conclude_wait (b : Held) (u : State) : State.conclude t b (.wait u) = ok (u.waits t b) := rfl
theorem State.conclude_fault (b : Held) (u : State) (f : FaultCode) (a : Word) :
    State.conclude t b (.fault u f a) = ok (u.trap t f a false false 0) := rfl

/-- The end of an instruction is a next state. -/
theorem State.conclude_next (b : Held) (d : Did) : ∃ u, State.conclude t b d = .next u ∧ u.ledger.resetDue = false := by
  cases d <;> exact ok_next _

/-- Every instruction of the long form but the block instructions answers a next state. -/
theorem State.instr_next (c : Cond) (cr : Reg) (body : State → Did) :
    ∃ u, s.instr t c cr body = .next u ∧ u.ledger.resetDue = false := by
  refine s.fetched_next t _ (fun v => ?_)
  dsimp only
  split
  · exact (State.conclude_next t _ _).imp fun _ h => h.1
  · exact (ok_next _).imp fun _ h => h.1

/-- A computation whose tags are permitted writes its register and goes on (04 R156). -/
theorem State.result_some (rd : Reg) (v : Word) (g : Tag) (l : List Tag) : s.result t rd v (some g) l = .done (s.write t rd ⟨v, g⟩) :=
  rfl

/-- A computation whose tags are not permitted faults (04 R157). -/
theorem State.result_none (rd : Reg) (v : Word) (l : List Tag) : s.result t rd v none l = .fault s (tagFault l) 0 := rfl

/-! ### Conditions see neither pc nor TSW -/

/-- The condition of an instruction does not depend on TSW.BIP, nor on an access that waited. -/
@[simp] theorem condHolds_bip (x : Thread) (b : Bool) (i : Held) (c : Cond) (r : Reg) :
    condHolds { x with bip := b, issued := i } c r = condHolds x c r := by
  cases c <;> rfl

/-! ### Warden entry and halt -/

/-- A thread whose entry is free and valid enters its warden (05 R212). -/
theorem State.trap_enter (f : FaultCode) (a : Word) (half fetch : Bool) (imm : BitVec 15) (he : (s.thr t).ent = false)
    (hv : s.flag (F.EVT_TENT_VALID t.val) = true) :
    s.trap t f a half fetch imm = s.setThr t ((s.thr t).enter (if f = .sys then (s.thr t).pc + 4 else (s.thr t).pc)
      (causeWord f half (s.thr t).bip fetch imm) a (BitVec.ofNat 32 (s.fld (F.EVT_TENT_ADDR t.val) * 4))) := by
  simp [State.trap, he, hv]

/-! ### Accesses that cross no span -/

/-- An access to memory on the thread's own side crosses nothing (03 R113). -/
theorem crossesOf_near (own : Bool) (a : Nat) (hb : Region.burst.holds a = own) (hg : Region.gnss.holds a = false) (hc : Region.cal.holds a = false) :
    crossesOf own a = [] := by
  simp [crossesOf, hb, hg, hc]

/-- Such an access leaves the ledger as it is. -/
theorem State.crosses_near (t : ThreadId) (a : Nat) (h : crossesOf (ownBurst t) a = []) : s.crosses t a = s := by
  simp [State.crosses, h]

end Sys2Proof.Machine
end

