-- ==== Sys2Proof/Laws/Instr.lean ====
section
/-! SUPPORT. The course of an instruction in the claims' terms: what a completed one leaves, what one that faults leaves. -/

namespace Sys2Proof.Machine

variable (s : State) (t : ThreadId)

@[simp] theorem vset_vset {α : Type} {n : Nat} (v : Vector α n) (i : Fin n) (a b : α) : vset (vset v i a) i b = vset v i b := by
  unfold vset
  ext j hj
  simp [Vector.getElem_set]

@[simp] theorem vset_vget {α : Type} {n : Nat} (v : Vector α n) (i : Fin n) : vset v i (vget v i) = v := by
  unfold vset vget
  ext j hj
  simp only [Vector.getElem_set]
  split
  · subst j
    rfl
  · rfl

@[simp] theorem State.setThr_setThr (x y : Thread) : (s.setThr t x).setThr t y = s.setThr t y := by simp [State.setThr]
@[simp] theorem State.setThr_thr : s.setThr t (s.thr t) = s := by simp [State.setThr, State.thr]
@[simp] theorem Thread.get_bip (x : Thread) (b : Bool) (i : Held) (r : Reg) : ({ x with bip := b, issued := i } : Thread).get r = x.get r := rfl
theorem Thread.put_next_bip (x : Thread) (r : Reg) (w : TWord) :
    (({ x with bip := false, issued := Held.no } : Thread).put r w).next = { (x.put r w) with pc := x.pc + 4, bip := false, issued := Held.no } := by
  unfold Thread.put Thread.next
  split <;> rfl

/-- With TSW.BIP = 0 and no access waiting there is nothing to clear. -/
theorem State.clearBip_eq (h : (s.thr t).bip = false) (hi : (s.thr t).issued = Held.no) : s.clearBip t = s := by
  unfold State.clearBip
  rw [show ({ s.thr t with bip := false, issued := Held.no } : Thread) = s.thr t by cases hx : s.thr t; simp_all]
  exact s.setThr_thr t

theorem State.write_eq (r : Reg) (w : TWord) : (s.clearBip t).write t r w = s.wrote t r w := by
  simp [State.write, State.clearBip, State.wrote, Thread.put_next_bip]

theorem State.skip_eq : (s.clearBip t).skip t = s.advanced t := by simp [State.skip, State.clearBip, State.advanced, Thread.next]

variable {s t} {c : Cond} {cr : Reg} {body : State → Did}

/-- An instruction whose body is done with `u` answers it. -/
theorem State.instr_done {u : State} (h : s.ready t) (hc : condHolds (s.thr t) c cr = true) (hb : body (s.clearBip t) = .done u)
    (hs : (u.thr t).stopping = false) (hq : u.ledger = s.ledger) : s.instr t c cr body = .next u := by
  have hl : u.ledger.resetDue = false := by rw [hq]; exact h.2.2.1
  exact State.instr_run s t c cr body h (by simpa using hc) (by rw [hb, State.conclude_done]; exact ok_of u hl) hs hl

/-- An instruction that writes one register and nothing else. -/
theorem State.instr_wrote {rd : Reg} {w : TWord} (h : s.ready t) (hc : condHolds (s.thr t) c cr = true)
    (hb : body (s.clearBip t) = .done ((s.clearBip t).write t rd w)) : s.instr t c cr body = .next (s.wrote t rd w) := by
  rw [← State.write_eq]
  refine State.instr_done h hc hb ?_ rfl
  rw [State.write_eq]
  have := h.2.2.2.2
  simp only [State.wrote, State.thr_setThr_self, Thread.put]
  split <;> exact this

/-- An instruction that faults in a thread whose entry is free and valid enters the warden. -/
theorem State.instr_enters {f : FaultCode} {a : Word} (h : s.ready t) (hc : condHolds (s.thr t) c cr = true)
    (he : (s.thr t).ent = false) (hv : s.flag (F.EVT_TENT_VALID t.val) = true) (hf : f ≠ .sys)
    (hb : body (s.clearBip t) = .fault (s.clearBip t) f a) :
    s.instr t c cr body = .next (s.setThr t (({ s.thr t with bip := false, issued := Held.no } : Thread).enter (s.thr t).pc (causeWord f false false false 0) a
      (BitVec.ofNat 32 (s.fld (F.EVT_TENT_ADDR t.val) * 4)))) := by
  refine State.instr_run s t c cr body h (by simpa using hc) ?_ (by simpa [Thread.enter] using h.2.2.2.2) h.2.2.1
  rw [hb, State.conclude_fault, State.trap_enter (s.clearBip t) t f a false false 0 (by simpa using he) hv, if_neg hf]
  simp only [State.clearBip, State.setThr_setThr, State.thr_setThr_self]
  exact ok_of _ h.2.2.1

end Sys2Proof.Machine
end

