-- ==== Sys2Proof/Laws/Mem.lean ====
section
/-! SUPPORT. The memories: every operation keeps the canonical form; what a byte and a tag read as after a write. -/

namespace Sys2Proof.Machine

theorem nsDel_rising (m : NatSet) (k : Nat) (h : smRising m = true) : smRising (nsDel m k) = true := by
  rw [smRising_iff] at h ⊢
  exact h.filter _

theorem nsAdd_rising (m : NatSet) (k : Nat) (h : smRising m = true) : smRising (nsAdd m k) = true := by
  rw [smRising_iff] at h ⊢
  exact smInsert_pairwise k () _ (h.filter _) (by
    intro p hp
    simpa using (List.mem_filter.mp hp).2)

theorem Memory.wf_iff (m : Memory) :
    m.wf = true ↔ smWf memDefault m.data = true ∧ smWf tagDefault m.tags = true ∧ smRising m.bad = true := by
  simp [Memory.wf, and_assoc]

theorem Memory.setByte_wf (m : Memory) (a : Nat) (b : Byte) (h : m.wf = true) : (m.setByte a b).wf = true := by
  rw [Memory.wf_iff] at h ⊢
  exact ⟨smSet_wf _ _ _ _ h.1, h.2.1, h.2.2⟩

theorem Memory.setTag_wf (m : Memory) (a : Nat) (t : Tag) (h : m.wf = true) : (m.setTag a t).wf = true := by
  rw [Memory.wf_iff] at h ⊢
  exact ⟨h.1, smSet_wf _ _ _ _ h.2.1, h.2.2⟩

theorem Memory.setData_wf (m : Memory) (a : Nat) (w : Word) (h : m.wf = true) : (m.setData a w).wf = true := by
  unfold Memory.setData
  exact Memory.setByte_wf _ _ _ (Memory.setByte_wf _ _ _ (Memory.setByte_wf _ _ _ (Memory.setByte_wf _ _ _ h)))

theorem Memory.setWord_wf (m : Memory) (a : Nat) (w : TWord) (h : m.wf = true) : (m.setWord a w).wf = true := by
  have h1 := Memory.setTag_wf _ a w.tag (Memory.setData_wf m a w.data h)
  rw [Memory.wf_iff] at h1 ⊢
  exact ⟨h1.1, h1.2.1, nsDel_rising _ _ h1.2.2⟩

theorem Memory.setBytes_wf (m : Memory) (a : Nat) (l : List Byte) (h : m.wf = true) : (m.setBytes a l).wf = true := by
  induction l generalizing m a with
  | nil => exact h
  | cons b r ih => exact ih _ _ (Memory.setByte_wf _ _ _ h)

theorem smDrop_rising (drop : Nat → Bool) (m : NatSet) (h : smRising m = true) : smRising (smDrop drop m) = true := by
  rw [smRising_iff] at h ⊢
  exact h.filter _

theorem Memory.clear_wf (m : Memory) (p : Nat → Bool) (h : m.wf = true) : (m.clear p).wf = true := by
  rw [Memory.wf_iff] at h ⊢
  exact ⟨smDrop_wf _ _ _ h.1, smDrop_wf _ _ _ h.2.1, smDrop_rising _ _ h.2.2⟩

theorem reset_mem_wf : State.reset.mem.wf = true := by decide

/-! ### Reads after writes -/

theorem Memory.byte_setByte (m : Memory) (a b : Nat) (x : Byte) : (m.setByte a x).byte b = if b = a then x else m.byte b := by
  simp only [Memory.byte, Memory.setByte, smGet_set]

@[simp] theorem Memory.byte_setTag (m : Memory) (a b : Nat) (t : Tag) : (m.setTag a t).byte b = m.byte b := rfl
@[simp] theorem Memory.tag_setByte (m : Memory) (a b : Nat) (x : Byte) : (m.setByte a x).tag b = m.tag b := rfl
@[simp] theorem Memory.tag_setData (m : Memory) (a b : Nat) (w : Word) : (m.setData a w).tag b = m.tag b := rfl

theorem Memory.tag_setTag (m : Memory) (a b : Nat) (t : Tag) :
    (m.setTag a t).tag b = if wordAddr b = wordAddr a then t else m.tag b := by
  simp only [Memory.tag, Memory.setTag, smGet_set]

/-- A byte outside the word written is as before. -/
theorem Memory.byte_setWord_out (m : Memory) (a b : Nat) (w : TWord) (h : b < a ∨ a + 4 ≤ b) : (m.setWord a w).byte b = m.byte b := by
  show (m.setData a w.data).byte b = m.byte b
  unfold Memory.setData
  simp only [Memory.byte_setByte]
  rw [if_neg (by omega), if_neg (by omega), if_neg (by omega), if_neg (by omega)]

theorem Memory.word_setData (m : Memory) (a : Nat) (w : Word) : (m.setData a w).word a = w := by
  unfold Memory.setData Memory.word
  simp only [Memory.byte_setByte]
  have e1 : ¬ a + 2 = a + 3 := by omega
  have e2 : ¬ a + 1 = a + 3 := by omega
  have e3 : ¬ a + 1 = a + 2 := by omega
  have e4 : ¬ a = a + 3 := by omega
  have e5 : ¬ a = a + 2 := by omega
  have e6 : ¬ a = a + 1 := by omega
  simp only [if_true, if_neg e1, if_neg e2, if_neg e3, if_neg e4, if_neg e5, if_neg e6]
  apply BitVec.eq_of_getLsbD_eq
  intro i hi
  simp only [BitVec.getLsbD_append, BitVec.getLsbD_extractLsb']
  by_cases h1 : i < 8
  · simp [h1]
  · by_cases h2 : i < 16
    · have : i - 8 < 8 := by omega
      have hs : 8 + (i - 8) = i := by omega
      simp [h1, this, hs]
    · by_cases h3 : i < 24
      · have g1 : ¬ i - 8 < 8 := by omega
        have g2 : i - 8 - 8 < 8 := by omega
        have hs : 16 + (i - 8 - 8) = i := by omega
        simp [h1, g1, g2, hs]
      · have g1 : ¬ i - 8 < 8 := by omega
        have g2 : ¬ i - 8 - 8 < 8 := by omega
        have g3 : i - 8 - 8 - 8 < 8 := by omega
        have hs : 24 + (i - 8 - 8 - 8) = i := by omega
        simp [h1, g1, g2, g3, hs]

/-- A word reads back as it was written, data and tag (03 R112). -/
theorem Memory.tword_setWord (m : Memory) (a : Nat) (w : TWord) : (m.setWord a w).tword a = w := by
  have h1 : (m.setWord a w).word a = w.data := Memory.word_setData m a w.data
  have h2 : (m.setWord a w).tag a = w.tag := by
    show ((m.setData a w.data).setTag a w.tag).tag a = w.tag
    rw [Memory.tag_setTag, if_pos rfl]
  simp only [Memory.tword, h1, h2]

/-- Another word's tag is as before. -/
theorem Memory.tag_setWord_out (m : Memory) (a b : Nat) (w : TWord) (h : wordAddr b ≠ wordAddr a) :
    (m.setWord a w).tag b = m.tag b := by
  show ((m.setData a w.data).setTag a w.tag).tag b = m.tag b
  rw [Memory.tag_setTag, if_neg h, Memory.tag_setData]

/-- A byte outside a run of bytes written is as before. -/
theorem Memory.byte_setBytes_out (m : Memory) (a b : Nat) (l : List Byte) (h : b < a ∨ a + l.length ≤ b) :
    (m.setBytes a l).byte b = m.byte b := by
  induction l generalizing m a with
  | nil => rfl
  | cons x r ih =>
    simp only [List.length_cons] at h
    rw [Memory.setBytes, ih _ _ (by omega), Memory.byte_setByte, if_neg (by omega)]

end Sys2Proof.Machine
end

