-- ==== Sys2Proof/Laws/Queue.lean ====
section
/-! SUPPORT. What taking and finishing a descriptor can change, said once. -/

namespace Sys2Proof.Machine

variable (s : State) (u ch : Nat) (d : Desc)

/-- A descriptor on offer that a command answers to is taken and its work done (06 R268). -/
theorem State.takeWith_offers (mine : Desc → Bool) (run : State → Desc → State) (h : s.offers u ch d) (hm : mine d = true) :
    s.takeWith u ch mine run = run (s.taken u ch d) d := by
  simp [State.takeWith, State.takeDesc, h.1, h.2, hm, Option.filter]

/-- With no descriptor on offer, or none that the command answers to, nothing happens. -/
theorem State.takeWith_none (mine : Desc → Bool) (run : State → Desc → State) (h : (s.headDesc u ch).filter (fun d => s.descBad d || mine d) = none) :
    s.takeWith u ch mine run = s := by simp [State.takeWith, State.takeDesc, h]

/-- An engine that counts as active changes its island's record only. -/
theorem State.touch_frame (i : Island) : s.touch i = { s with isl := (s.touch i).isl } := by
  simp only [State.touch]
  split <;> rfl

/-- Taking a descriptor changes memory, the rings, the round robin and the engine's island only. -/
theorem State.taken_frame : ∃ m r q i, s.taken u ch d = { s with mem := m, rings := r, rr := q, isl := i } := by
  simp only [State.taken]
  rw [State.touch_frame]
  exact ⟨_, _, _, _, rfl⟩

/-- Taking a descriptor writes its ring's mirror of CONS and no other word (06 Table 6.1). -/
theorem State.taken_mem : (s.taken u ch d).mem =
    s.mem.setWord (s.ringHdr d.ring + 0xC) (idxWord ((s.ring d.ring).cons + 1)) := by
  simp only [State.taken]
  rw [State.touch_frame]
  rfl

theorem State.taken_rings : (s.taken u ch d).rings =
    vset s.rings d.ring { s.ring d.ring with cons := (s.ring d.ring).cons + 1 } := by
  simp only [State.taken]
  rw [State.touch_frame]
  rfl

/-- CONS has moved past a descriptor that was taken. -/
theorem State.taken_from : TakenFrom s (s.taken u ch d) d := by
  simp [TakenFrom, State.ring, State.taken_rings]

/-- Finishing a descriptor changes its ring's record and the engine's island only, and counts it (06 R271; 01 R34). -/
theorem State.finish_frame (st : Nat) (r : Word) : ∃ q i, s.finish d st r = { s with rings := q, isl := i, made := s.made + 1 } := by
  simp only [State.finish, State.finishAt]
  rw [State.touch_frame]
  exact ⟨_, _, rfl⟩

theorem State.finish_rings (st : Nat) (r : Word) : (s.finish d st r).rings = vset s.rings d.ring { s.ring d.ring with
    done := (s.ring d.ring).done ++ [⟨d.idx, (vget d.w 0).data.getLsbD 8, st, r, s.stamp, s.made⟩] } := by
  simp only [State.finish, State.finishAt]
  rw [State.touch_frame]
  rfl

/-- A finished descriptor's completion waits on its ring. -/
theorem State.finish_finished (st : Nat) (r : Word) : Finished (s.finish d st r) d st r := by
  refine ⟨⟨d.idx, (vget d.w 0).data.getLsbD 8, st, r, s.stamp, s.made⟩, ?_, rfl, rfl, rfl⟩
  simp [State.ring, State.finish_rings]

theorem State.finish_cons (st : Nat) (r : Word) : ((s.finish d st r).ring d.ring).cons = (s.ring d.ring).cons := by
  simp [State.ring, State.finish_rings]

/-- A descriptor refused with a status alone leaves its ring with that status, and counts a free value (log 28). -/
theorem State.refuse_frame (st : Nat) : ∃ q i n, s.refuse d st = { s with rings := q, isl := i, made := s.made + 1, free := n } := by
  obtain ⟨q, i, h⟩ := s.fresh.finish_frame d st (Config.errorResult s.free)
  exact ⟨q, i, _, h.trans rfl⟩

theorem State.refuse_ended (st : Nat) : EndedWith (s.refuse d st) d st := by
  obtain ⟨x, hx, h1, h2, -⟩ := State.finish_finished s.fresh d st (Config.errorResult s.free)
  exact ⟨x, hx, h1, h2⟩

end Sys2Proof.Machine
end

