-- ==== Sys2Proof/Machine/Balls.lean ====
section
/-! DEFINITION. What the signal balls do, read off the state (17 R678, R683, R685, R695, R699, Table 17.14; 10 R424; 13 R575; 14 R586, R587,
R602; 15 R613, R638; 16 R644, R652, R654). -/

namespace Sys2Proof.Machine

/-- What the part does on a ball: nothing, a weak pull, a level, VMOT chopped with an on-time of DUTY ÷ 255 (16 Table 16.1), or RF received or
sent on it. -/
inductive Ball where
  | highZ | weakLow | weakHigh | low | high | chopped (duty : Nat) | rfIn | rfOut
  deriving DecidableEq, Repr

/-- A ball supplied from VDD: high-impedance while VDD is below VPOR (17 R695). -/
def State.vddBall (s : State) (b : Ball) : Ball := if s.power.vdd then b else .highZ

/-- Whether SDO is driven (14 R586, R587, At the boundary): in a frame of the slave role, throughout the master role; not with the steady
island down. What it sends is State.sdoBits. -/
def State.sdoDriven (s : State) : Bool :=
  s.on && s.has .csp && s.lit .steady && (s.flag F.CSP_SCFG_ROLE || (s.flag F.CSP_SCFG_SEN && s.csp.inFrame))

/-- Whether SCK is an output (14 R586, R587). -/
def State.sckDriven (s : State) : Bool := s.on && s.has .csp && s.lit .steady && s.flag F.CSP_SCFG_ROLE

/-- A level driven on a ball. -/
def Ball.level (b : Bool) : Ball := if b then .high else .low
/-- A weak pull on a ball. -/
def Ball.weak (b : Bool) : Ball := if b then .weakHigh else .weakLow

/-- RESETN and SSEL: inputs with a pull-up (17 R695, R699). -/
def State.pulledUp (s : State) : Ball := s.vddBall .weakHigh

/-- GNSS_PPS: an output (13 R575, R583; 17 R695). -/
def State.ppsBall (s : State) : Ball := s.vddBall (Ball.level s.ppsPin)

/-- RFIO_SUB (path 0) and RFIO_24 (path 1): what is sent or received there, and high-impedance otherwise, in Ember but for the sniff path in its
windows (17 R695, R699; 10 R424). -/
def State.rfioBall (s : State) (p : Fin 2) : Ball :=
  let op (b : Bool) : Bool := match s.radio.op with
    | none => false
    | some o => o.active && o.air.isSome == b && Fin.ofNat 2 o.desc.band == p
  let rx := s.meshListens && Fin.ofNat 2 s.rxPath == p || s.flag F.RAD_STAT_SNIFFING && Fin.ofNat 2 s.radio.sniffPath == p ||
    op false && s.flag F.RAD_STAT_RXON
  s.vddBall (if !s.lit .radio then .highZ
    else if op true || s.onAir && s.radio.air.any (fun x => Fin.ofNat 2 x.em.band == p) then .rfOut
    else if rx then .rfIn else .highZ)

/-- Pn (17 R683, R685): a push-pull output drives its level and has no pull; an open-drain one drives it low; the pull of PULL otherwise. -/
def State.padBall (s : State) (n : Nat) : Ball :=
  let pull : Ball := match s.fld (F.PIN_CFG_PULL n) with
    | 1 => .weakLow
    | 2 => .weakHigh
    | _ => .highZ
  s.vddBall (if s.pinFunc n = 1 then (if !s.fldBit F.PIN_OUT_OUT n then .low else if s.flag (F.PIN_CFG_OD n) then pull else .high) else pull)

/-- CSSn (14 R587, R602, R603; 17 Table 17.14): in the master role low while a transfer or KEEP asserts it and high otherwise, held in Ember and
Vigil; a pull-up in the slave role. -/
def State.cssBall (s : State) (n : Nat) : Ball :=
  let low := s.csp.kept == some n || (match s.csp.xfer with | some x => x.out.isSome && x.desc.csel == n | none => false)
  s.vddBall (if s.has .csp && s.flag F.CSP_SCFG_ROLE then (if low then .low else .high) else .weakHigh)

/-- TAGLINEn between the pulses and slots of an operation (15 R613, R638, At the boundary): a line in short circuit is left to its weak pull-up. -/
def State.tagBall (s : State) (l : Fin 4) : Ball :=
  s.vddBall (if !s.has .tag then .highZ else if !s.lineOn l then .low else if (s.line l).undriven then .weakHigh else .high)

/-- BOLTbA and BOLTbB (16 Table 16.1). -/
def Bridge.balls (x : Bridge) : Ball × Ball :=
  match x.st, x.desc with
  | .drive, some d => if d.dir = 0 then (.chopped d.duty, .low) else (.low, .chopped d.duty)
  | .brake, _ => (.low, .low)
  | _, _ => (.highZ, .highZ)

/-- Whether loop `n` runs: enabled and not tripped, with VDD there (16 R652, R654). -/
def State.tampRuns (s : State) (n : Fin 8) : Bool :=
  s.power.vdd && s.has .bts && s.fldBit F.BTS_TEN_EN n && !s.fldBit F.BTS_TSTAT_TRIP n

/-- TAMPn (16 R652, R654): from the tick at which a chip of a running loop is due, driven to the chip for its 30 µs, which is that tick's, and then
left to a weak pull toward the chip's complement until it is sampled. Before the chip, and where the loop does not run, the weak pull-down
(DESIGN CHOICE between chips, log 148). -/
def State.tampBall (s : State) (n : Fin 8) : Ball :=
  let x := s.tloop n
  let chip := x.s.getLsbD 0
  if !s.tampRuns n || s.now < x.due then .weakLow else if s.now = x.due then Ball.level chip else Ball.weak (!chip)

/-- ENDSTOPn: its pull-up is connected while the steady island is powered (17 R678). -/
def State.endStopBall (s : State) : Ball := s.vddBall (if (s.island .steady).st != .dark then .weakHigh else .highZ)

end Sys2Proof.Machine
end

