-- ==== Sys2Proof/Tests/Slice0.lean ====
section
/-! SUPPORT. The model's own tests. First the smoke test of well-formedness: for each check one ill-formed command that it refuses. Then, for
every obligation with hypotheses, concrete states and operands that meet the hypotheses of each of its clauses together (`witness_<part>`,
numbered where one case cannot meet every clause); then worked cases of the spec. Expected values stand in the spec's worked cases or in
the tables its rules give. -/

namespace Sys2Proof.Machine

/-- Registers set, as a builder of states. -/
def State.wr (s : State) (l : List (Fld × Nat)) : State := l.foldl (fun acc p => acc.setFld p.1 p.2) s
/-- Words in memory. -/
def State.ram (s : State) (a : Nat) (l : List TWord) : State := s.pokes a l
/-- A word tagged INT. -/
def tw (n : Nat) : TWord := ⟨BitVec.ofNat 32 n, .int⟩
/-- A tagged word. -/
def tg (n : Nat) (g : Tag) : TWord := ⟨BitVec.ofNat 32 n, g⟩
/-- Ring 0 ON for a unit's channel, with one descriptor of these words. -/
def State.offer (s : State) (u ch : Nat) (l : List TWord) : State :=
  ((s.wr [(F.QUE_RSTAT_STATE 0, 1), (F.QUE_RCFG_UNIT 0, u), (F.QUE_RCFG_CHAN 0, ch), (F.QUE_RHDR_ADDR 0, 0x20001000 / 64)]).setRing 0
    ⟨0x20001100, 16, 0x20001300, 1, 0, 0, 0, 0, [], false, 0⟩).ram 0x20001100 l
/-- An island lit. -/
def State.lightUp (s : State) (i : Island) : State := s.setIsland i { s.island i with st := .lit }
/-- General registers of a thread set. -/
def State.rg (s : State) (t : ThreadId) (l : List (Fin 32 × TWord)) : State :=
  s.setThr t { s.thr t with regs := l.foldl (fun acc p => vset acc p.1 p.2) (s.thr t).regs }

end Sys2Proof.Machine

namespace Sys2Proof.Tests

open Sys2Proof Sys2Proof.Machine

set_option linter.unusedVariables false
set_option linter.unnecessarySeqFocus false
set_option maxRecDepth 100000
set_option Elab.async false

/-! ### Ill-formed commands are refused -/

theorem test_wf_registerWrite : (Instr.registerWrite 0 0x60000000 0).wf = false := by decide
theorem test_wf_pairedWord : (Instr.pairedWord 0 0x01E14000).wf = false := by decide
theorem test_wf_reservedWord : (Instr.reservedWord 0 0x01E14000).wf = false := by decide
theorem test_wf_retag : (Instr.retag 0 .al 2 2 0xB).wf = false := by decide
theorem test_wf_epochBoundary : (Instr.epochBoundary ⟨0, [], [], 0, 0⟩).wf = false := by decide
theorem test_wf_syncDetect : ∀ c : RxChips, c.soft.length = 8193 → (Instr.syncDetect c).wf = false := by
  intro c h; simp [Instr.wf, h]
theorem test_wf_meshFrameReceived : ∀ f : RxFrame, f.rx.soft.length = 8193 → (Instr.meshFrameReceived f).wf = false := by
  intro f h; simp [Instr.wf, h]
theorem test_no_word_spells_a_command : decodeTableWord 32 0x88D08AB2 = none := by decide

/-! ### States the cases start from -/

namespace OnThreads
def f0 : State := { State.reset with boot := .done }
def f1 : State := (f0.rg 0 [(1, tw 7), (2, tw 3), (3, tg 0x20002000 .addr), (4, tg 0xF00F .raw), (5, tg 0x08000100 .code), (6, tg 100 .time), (7, tg 5 .seq),
  (8, tg 3 .key), (9, tw 0xFFFFFFF0), (10, tg 0x20003000 .addr), (11, tw 8), (12, tw 0), (13, tw 9)]).ram 0x20002000 [tw 0x11228384, tg 0x55667788 .raw, tw 3, tg 4 .time, tw 5]
def f1e : State := f1.wr [(F.EVT_TENT_VALID 0, 1), (F.EVT_TENT_ADDR 0, 0x08000400/4)]
def f1u : State := f1e.setThr 0 { f1e.thr 0 with mode := false }
def f2 : State := f1.rg 0 [(3, tg 0x40003004 .addr)]
def f2g : State := (f1.lightUp .gnss).rg 0 [(3, tg 0x28000000 .addr)]
def f1un : State := f1e.setThr 0 { f1e.thr 0 with mode := false, ent := false }
def f1t : State := f1.wr [(F.EVT_FROUTE_TMASK, 0)]
def f1p : State := f1e.setThr 0 { f1e.thr 0 with pend := 7 }
def f1w : State := (f1e.setThr 0 { f1e.thr 0 with pend := 6, wmask := 4, waitRd := 9, st := .wait })
def f3 : State := (f1e.rg 0 [(1, tw 1), (2, tg 0x81000000 .int), (12, tw 0), (14, tw 9)]).setThr 1 { f1e.thr 1 with st := .wait }
def f4 : State := f1.rg 0 [(11, tw 12), (14, tw 68), (1, tw 0xFFFFFFFF), (15, tw 2), (16, tg 0x20002008 .addr)]
def f5 : State := f1e.rg 0 [(3, tg 0x20002000 .addr), (20, tg 0x40003004 .addr), (21, tg 0x20002001 .addr), (22, tg 0x28000000 .addr), (23, tg 0x70000000 .addr), (24, tg 0 .void)]
def f5u : State := f5.setThr 0 { f5.thr 0 with mode := false }
def f5k : State := { f5 with mem := (f5.ram 0x20002004 [⟨7, .key⟩]).mem }
def ft (a : Nat) : State := f1e.setThr 0 {f1e.thr 0 with pc := BitVec.ofNat 32 a}
def ftc : State := {((ft 0x08001000).ram 0x08001000 [⟨0x02000000, .int⟩]) with flash := {f1e.flash with oneBit := [(256,())]}}.wr [(F.PWR_STAT_FLRDY,1)]
end OnThreads

namespace OnRegs
def f0 : State := { State.reset with boot := .done, time := {State.reset.time with tick := 5000} }
def isl (s : State) (i : Island) (f : IslandSt → IslandSt) : State := s.setIsland i (f (s.island i))
def sealed1 (b : Blk) : State := match exec (.sealGo b 1) f0 with | .next u => u | _ => f0
def L0 (f : Ledger → Ledger) : State := { f0 with ledger := f f0.ledger }
def sw0 : State := (L0 fun l => {l with sweep := some 3})
def swl : State := (L0 fun l => {l with sweep := some (acctList.length - 1)})
def swb3 : State := ((L0 fun l => {l with sweep := some 3}).setAcct (acctList.getD 3 0) ⟨9,8,0,0⟩).wr [(F.LDG_CTL_BRACT,0),(F.LDG_ROUTE_TMASK,0)]
def wa (r b : Nat): State := (f0.setWin 5 {f0.win 5 with slot := 2, slotAt := 0}).wr [(F.LDG_CTL_BRACT,r),(F.LDG_ROUTE_TMASK,0),(F.LDG_STAT_BREACH, b)]
def cA : State := (f0.setAcct 0x40 ⟨8,7,0,1⟩).setWin 0x40 {f0.win 0x40 with span := 1, spanAt := 4999}
def idl : State := (f0.setThr 0 {f0.thr 0 with st := .wait}).wr [(F.EVT_SNUFF_EN, 0)]
def bz (s : State) : State := isl s .radio (fun x => {x with st := .lighting})
def dimS : State := (idl.wr [(F.PWR_STAT_STATE, 2)])
end OnRegs

namespace OnPower
def f0 : State := { State.reset with boot := .done, time := {State.reset.time with tick := 500000} }
def isl (s : State) (i : Island) (f : IslandSt → IslandSt) : State := s.setIsland i (f (s.island i))
def hdr (s : State) (b seq : Nat) : State :=
  let ws := [0x464C5455, seq, 0x40, 0x80, 4, 0, 0, 0]
  let s1 := s.ram (headerAt b) (ws.map tw)
  let s2 := s1.ram (headerAt b + 32) [tw 0x1234]
  let s3 := s2.ram (headerAt b + 0x18) [⟨s2.romCrc (headerAt b + 32) 4, .int⟩]
  s3.ram (headerAt b + 0x1C) [⟨s3.romCrc (headerAt b) 28, .int⟩]
def rom : State := { f0 with boot := .rom }.wr [(F.PWR_STAT_FLRDY, 1)]
def bst (x : IslSt) : State := isl f0 .burst (fun y => {y with st := x})
def blit : State := match exec .burstLit ((bst .lighting).wr [(F.CLK_STAT_XT32MOK, 1)]) with | .next u => u | _ => f0
def ist (i : Island) (x : IslSt) : State := (isl f0 i (fun y => {y with st := x})).wr [(F.CLK_STAT_XT32MOK, 1),(F.PWR_ROUTE_TMASK,0)]
def ent0 (l : List (Fld × Nat)) : State := let s := (f0.setThr 0 {f0.thr 0 with st := .wait}).wr ([(F.EVT_SNUFF_EN, 0),(F.PWR_CTL_DEPTH, 1)] ++ l); {s with power := {s.power with entry := some (1, 2)}}
def srst : State := isl f0 .steady fun y => {y with resetAtEnd := true}
def ste (r : Bool) : State := isl {f0 with power := {f0.power with entry := some (1, 3)}} .steady fun y => {y with st := .quiescing, resetAtEnd := r}
def sn (a : Nat) : State := let s := {f0.setThr 0 {f0.thr 0 with st := .wait, wmask := 0} with power := {f0.power with snuffHold := 2}}; s.wr [(F.EVT_SNUFF_EN,1),(F.EVT_SNUFF_ACT,a),(F.EVT_SNUFF_RESCUE,0)]
def ck (l : List (Fld × Nat)) : State := (f0.wr [(F.PWR_ROUTE_TMASK,0)]).wr l
def ev (c : Nat) : State := let s := (f0.ram 0x20001000 [tw 0x20001100, tw 4, tw 7, tw c]); let s2 : State := {s with evring := vset s.evring 1 ⟨0x20001100,4,7⟩}; s2.wr [(F.EVT_TRING_EN 1, 1),(F.EVT_TRING_ADDR 1, 0x20001000/64)]
end OnPower

namespace OnRings
def f0 : State := { State.reset with boot := .done, time := {State.reset.time with tick := 500000} }
def hdrS (s : State) : State := (s.wr [(F.QUE_RHDR_ADDR 5, 0x20001000/64)]).ram 0x20001000 [tw 0x20001100, tw 4, tw 7, tw 0, tw 0, tw 0x20001300, tw 0, tw 9, tw 0, tw 0]
def dE (s : State) (d : Nat) : Desc := (s.headDesc d 0).getD ⟨0,0,Vector.replicate 8 (tw 0)⟩
def dsc (s : State) (u ch : Nat) : Desc := (s.headDesc u ch).getD ⟨0,0,Vector.replicate 8 (tw 0)⟩
def rOn (st : Nat): State := (((f0.wr [(F.QUE_RSTAT_STATE 5, st), (F.QUE_RCFG_UNIT 5, 1), (F.QUE_RHDR_ADDR 5, 0x20001000/64)]).setRing 5 ⟨0x20001100, 8, 0x20001300, 5, 2, 4, 3, 2, [], false, 0⟩).setAcct 5 ⟨8, 5, 3, 0⟩).ram 0x20001000 [tw 0x20001100, tw 8, tw 5, tw 2]
def dblS (s : State) (n : RingId) (v : Nat) (o : Nat) : State := s.setThr 0 {s.thr 0 with regs := vset (vset (s.thr 0).regs 20 (tw v)) 3 ⟨BitVec.ofNat 32 (s.ringHdr n + o), .addr⟩}
def dbl (n : RingId) (v : Nat) : State := dblS (rOn 1) n v 8
def cmpl : State := (rOn 1).setRing 5 {(rOn 1).ring 5 with done := [⟨3, false, 0, 9, 77, 0⟩, ⟨2, true, 0x22, 5, 0x123456789A, 1⟩]}
def fl (l : List Nat) : State := (f0.wr [(F.PWR_STAT_FLRDY, 1)]).offer 1 0 (l.map tw)
def src (s : State) : State := s.ram 0x20004000 ((List.range 16).map fun k => tw (k * 0x01010101))
def prg := src (fl [1, 0, 0x20004000, 32, 0x08001000, 0, 0, 0])
def ers := src (fl [2, 0, 0, 0, 0x08002000, 2, 0, 0])
def ver := (src (fl [3, 0, 0x20004000, 32, 0x08001000, 0, 0, 0])).ram 0x08001000 ((List.range 16).map fun k => tw (k * 0x01010101))
def run (i : Instr) (s : State) : State := match exec i s with | .next u => u | _ => s
def op (s : State) : FlashOp := s.flash.op.getD ⟨dE prg 1, .program, 0,0,0,false,false⟩
def p1 := run .program prg
def e1 := run .erase (ers.ram 0x08002010 [tw 1])
def v1 := run .verify ver
def v2 := run .verify (ver.ram 0x08001004 [tw 5])
def v3 := v1.flashCycle
def p3 := run .suspend p1
def p4 := run .flashPaused p3
def rv (ret : Bool) : State := let s := (fl [1]).wr [(F.FLC_NONCE_START, 100),(F.FLC_NONCE_COUNT, 4)]
  let s1 := s.openSector 101 5
  let s2 := {s1 with flash := {s1.flash with resv := [⟨3, (s1.keySlot 3).kcv, 7, ret⟩]}}
  s2
def rvK (ret : Bool) (st : Nat): State := let s := (rv ret).setKst 3 st; {s with cip := {s.cip with slots := vset s.cip.slots 3 ⟨List.replicate 16 1, 5, none, 0⟩}}
def sc (l : List (Fld × Nat)) := (fl []).wr ([(F.FLC_SCRUB_EN, 1)] ++ l)
def scd (l : List (Fld × Nat)) := ((f0.wr [(F.PWR_STAT_FLRDY, 1)]).offer 1 1 ([0x10,0,0,0,0,0,0,0].map tw)).wr ([(F.FLC_SCRUB_EN, 1)] ++ l)
end OnRings

namespace OnTimers
def f0 : State := { State.reset with boot := .done, time := {State.reset.time with tick := 500000, cyc := 400, per := some 900} }
def cm (m : Nat) (l : List (Fld × Nat)) := f0.wr ([(F.CMP_CTL_EN 2,1),(F.CMP_VAL_VAL 2, 500000),(F.CMP_CTL_MODE 2,m),(F.CMP_PER_PER 2, 4294967290)] ++ l)
def cw (v : Word) (r : Bool) : State := {f0 with cmpw := vset f0.cmpw 2 [(5, if r then CmpWrite.rel v else CmpWrite.val v)]}
def ct (r c : Nat) (l : List (Fld × Nat)) := f0.wr ([(F.CNT_CTL_RUN 2,r),(F.CNT_COUNT_COUNT 2,c),(F.CNT_CMPV_CMPV 2,8),(F.CNT_DIV_F 2, 0xFFFF),(F.CNT_CTL_CAPSEL 2, 2)] ++ l)
def fr : State := f0.wr [(F.CAL_STAT_FROZEN,1)]
def cl (y m d h mi sec sub w : Nat) : State := {f0 with bak := {f0.bak with cal := ⟨sub,sec,mi,h,w,d,m,y⟩}}
def bs (v : Nat) : State := {f0 with bak := {f0.bak with onVbak := true, sense := 32}}.wr [(F.CAL_BSENSE_EN, 8), (F.CAL_TSRC_VALID, v)]
end OnTimers

namespace OnRadio
def f0 : State := ({ State.reset with boot := .done, time := {State.reset.time with tick := 500000, cyc := 400, per := some 900} }.wr [(F.CLK_STAT_XT32MOK,1)]).lightUp .radio
def isl (s : State) (i : Island) (f : IslandSt → IslandSt) : State := s.setIsland i (f (s.island i))
def run (i : Instr) (s : State) : State := match exec i s with | .next u => u | _ => s
def dsc (s : State) (u ch : Nat) : Desc := (s.headDesc u ch).getD ⟨0,0,Vector.replicate 8 (tw 0)⟩
def ro (l : List Nat) : State := (f0.offer 4 0 (l.map tw)).ram 0x20004000 ((List.range 16).map fun k => tw (k*0x01020304))
def txd := [1 + 512*3, 0, 0x20004000, 30, 0,0,0,0]
def rxd := [2 + 0x10000, 0, 0x20005000, 30, 0,0,50000,0]
def ld := [3, 0, 0, 0, 0,0,500,0]
def ls := [4, 0, 0, 0, 0,0,500,0]
def cal := [5, 0, 0, 0, 0,0,0,0]
def late := [1, 0, 0x20004000, 30, 500001,1,0,0]
def taken (l : List Nat) : State := run (match l.getD 0 0 % 256 with | 1 => .tx | 2 => .rx | 3 => .lantern | 4 => .lsearch | _ => .cal) (ro l)
def opOf (s : State) : RadioOp := s.radio.op.getD ⟨dsc (ro txd) 4 0,false,0,none,0,0,false,none,[]⟩
def full (s : State) : State := s.wr [(F.RAD_P_DUTY_BUDGET 0, 1),(F.RAD_P_DUSED_US 0, 1000)]
def on (l : List Nat) : State := run .radioOpBegin (taken l)
def sy : BitVec 64 := 0x2dd4a7b15c0f9e37
def hc (h : BitVec 24) : List (Bool × Nat) := (headerChips h).zipIdx.map fun p => (p.1, 2 ^ p.2)
def rx1 : RxChips := ⟨sy, 0x55, hc (header 4 false false false false) ++ (List.range 32).map (fun i => (i % 3 == 0, 7))⟩
def po (l : List Nat) (g : Nat) : State := ((f0.offer 4 1 (l.map tw)).wr [(F.RAD_POOL_GRANTED,g)]).setAcct 0x50 ⟨256,255,1,0⟩ |>.setBuf 3 .soft
def vig : State := (isl (f0.wr [(F.PWR_STAT_STATE,1),(F.PWR_CTL_SNIFF,1)]) .radio fun x => {x with st := .dark})
def ver (s : State) : State := {s.wr [(F.RAD_STAT_SNIFFING,1)] with radio := {s.radio with verify := true}}
def vigD : State := isl vig .steady fun x => {x with st := .dark}
def now (s : State) (n : Nat) : State := {s with time := {s.time with tick := n}}
def rad (s : State) (f : Radio → Radio) : State := {s with radio := f s.radio}
def calr (s : State) : State := rad (s.wr [(F.RAD_CTL_CALAUTO,1)]) fun r => {r with calAt := vset r.calAt 0 none}
def vigL : State := vig.lightUp .radio
def at1 : State := taken [1, 0, 0x20004000, 30, 500040,1,0,0]
def at1n : State := rad (now at1 500040) fun r => {r with air := [⟨⟨0,0,0,[],0,1,[],1⟩, 0, 2^80, 5, 0, false⟩]}
def slr (s : State) : State := {s with mesh := {s.mesh with slot := some (Slot.begin 0 0)}}
def calSoon : State := let t := taken cal; rad t fun r => {r with air := [⟨⟨0,0,0,[],0,1,[],1⟩, t.nowU + 100 * oneUs, 2^80, 5, 0, false⟩]}
end OnRadio

namespace OnMesh
def f0 : State := (({ State.reset with boot := .done, time := {State.reset.time with tick := 500000, cyc := 400, per := some 900} }.wr [(F.CLK_STAT_XT32MOK,1),(F.RAD_POOL_GRANTED,1),(F.RAD_POOL_BANK,1),(F.MSH_SCHED_ADDR, 0x20006000/4),(F.MSH_STAT_STATE,2),(F.MSH_CTL_RUN,1),(F.MSH_ADDR_ADDR,5),(F.MSH_ID_MESHID,9)]).lightUp .radio).setAcct 0x50 ⟨256,255,1,0⟩ |>.setBuf 3 .soft
def run (i : Instr) (s : State) : State := match exec i s with | .next u => u | _ => s
def dsc (s : State) (u ch : Nat) : Desc := (s.headDesc u ch).getD ⟨0,0,Vector.replicate 8 (tw 0)⟩
def nb (s : State) (st : Nat) : State := (s.wr [(F.NBR_ST_STATE 2, st),(F.NBR_ST_ADDR 2, 7)]).setAcct (fwd 2) ⟨4,4,0,0⟩
def snd (l : List Nat) : State := ((nb f0 1).offer 5 0 (l.map tw)).ram 0x20010300 ((List.range 8).map fun k => tw (k*0x01020304))
def ctl (s : State) (l : List Nat) : State := s.offer 5 1 (l.map tw)
def hs (s : State) (k : Nat) := s.wr [(F.MSH_HSTAT_STATE, k)]
def k0 := f0.slotAbs
def sl (s : State) (w : Nat) : State := s.ram (s.schedAt k0) [tw w]
def sendQ : State := let s := snd [1,0,0x20010300,20,2,0,0,0]; run .sendDesc s
def slx (s : State) (x : Slot) : State := {s with mesh := {s.mesh with slot := some x}}
def rxs : State := run .slotBoundary (sl (nb f0 1) (2+16*2))
def hol (st cc cs n : Nat) : State := f0.wr [(F.MSH_HSTAT_STATE,st),(F.MSH_HSTAT_COORD,1),(F.MSH_HCOMMIT_CYCLE,cc),(F.MSH_HSTART_CYCLE,cs),(F.MSH_HLEN_N,n)]
def cy := f0.cycleNow
def frm (mid dst src typ ls : Nat) : List Byte := [BitVec.ofNat 8 typ, BitVec.ofNat 8 mid, 0, 0, BitVec.ofNat 8 src, 0, BitVec.ofNat 8 dst, 0, BitVec.ofNat 8 ls, 0, 0xAA, 0xBB]
def sy : BitVec 64 := 0x2dd4a7b15c0f9e37
def hc (h : BitVec 24) : List (Bool × Nat) := (headerChips h).zipIdx.map fun p => (p.1, 2 ^ p.2)
def xf (l : List Byte) (okb : Bool) : RxFrame := ⟨⟨if l == [] then 0 else sy, 0x55, hc (header l.length true false false false) ++ (payloadChain (if okb then l else l.map (fun b => b ^^^ 1)) true false false false |>.zipIdx |>.map fun p => (if !okb && p.2 == 0 then !p.1 else p.1, 7))⟩, 0⟩
def shs : State := (run .slotBoundary (sl (f0.offer 5 2 ([0x10,0,0,0,0,0,0,0].map tw) |> fun s => run .meshRecv s) 5))
def getX (s : State) : Slot := s.mesh.slot.getD (Slot.begin 0 0)
def dupS : State := let s := nb shs 1; s.setNbr 2 {s.nbr 2 with rxLseq := some 3}
def ackS (s : State) : State := slx s {getX s with ack := some (s.nowU + 1000, 1, frm 9 5 7 0 3)}
def txS : State := run .slotBoundary (sl (let s := snd [1,0,0x20010300,20,2,0,0,0]; run .sendDesc (s.offer 5 0 ([1+32*65536,0,0x20010300,20,2,0,0,0].map tw))) (1+16*2+1024))
def ackF : List Byte := let l := txS.engBytes 0x20010300 10; [1, l.getD 1 0, l.getD 2 0, l.getD 3 0, l.getD 6 0, l.getD 7 0, l.getD 4 0, l.getD 5 0, l.getD 8 0, 0]
def ctS : State := run .slotBoundary (sl ({nb (f0.wr [(F.MSH_HSTAT_HPAR,2)]) 1 with mesh := {(nb f0 1).mesh with hveto := true}}) (1+16*2+1024))
def ackC : List Byte := let l := (getX ctS).ctrl.getD []; [1, l.getD 1 0, l.getD 2 0, l.getD 3 0, l.getD 6 0, l.getD 7 0, l.getD 4 0, l.getD 5 0, l.getD 8 0, 0]
def sE : State := {rxs with time := {rxs.time with tick := 520000}}
end OnMesh

namespace OnCipher
def f0 : State := (({ State.reset with boot := .done, time := {State.reset.time with tick := 500000, cyc := 400, per := some 900} }.wr [(F.PWR_STAT_FLRDY,1)]).lightUp .cipher |>.lightUp .gnss).setAcct 0x51 ⟨1,1,0,0⟩
def run (i : Instr) (s : State) : State := match exec i s with | .next u => u | _ => s
def dsc (s : State) (u ch : Nat) : Desc := (s.headDesc u ch).getD ⟨0,0,Vector.replicate 8 (tw 0)⟩
def locked := run (.cipLockClaim 2) f0
def cdark := (locked.setIsland .cipher IslandSt.dark)
def wt (s : State) : State := {s with cip := {s.cip with waiting := some (⟨2,5,Vector.replicate 8 (tw 3)⟩)}}
def r0 := f0.setAcct 0x51 ⟨1,0,1,0⟩
def nost (s : State) : State := s.setIsland .steady IslandSt.dark
def kst (s : State) (n : Fin 16) (v : Nat) (k : KeySlot) : State := let s1 := s.setKst n v; {s1 with cip := {s1.cip with slots := vset s1.cip.slots n k}}
def key (n : Nat) : TWord := ⟨BitVec.ofNat 32 n, .key⟩
def tok (s : State) := s.fld F.CIP_LOCK_TOKEN * 65536
def K : List Byte := (List.range 16).map fun i => BitVec.ofNat 8 (i*7)
def base : State := (kst (kst locked 3 3 ⟨K,0,none,kcvOf K⟩) 4 1 ⟨K.map (· + 1),5,some 0,kcvOf (K.map (· + 1))⟩).ram 0x20004000 ((List.range 30).map fun k => tw (k*0x01020304)) |>.setAcct 0x64 ⟨1,0,1,0⟩
def cd (op uf buf len n aad out al : Nat) : State := base.offer 2 0 [tw (op + uf*512 + tok base), tw 0, tw buf, tw len, key n, tw aad, tw out, tw al]
def enc := cd 4 0 0x20004000 32 3 0 0x20005000 0
def dec := cd 5 0 0x20004000 32 4 0 0x20005000 0
def ccme := cd 6 1 0x20004000 20 4 0x20004040 0x20005000 8
def ccmz (t0 t1 : Nat) : State := (cd 7 1 0x20007000 17 4 0 0 0).ram 0x2000700C [tw t0, tw t1]
def fresh (l : List TWord) : State := locked.offer 2 0 (tw (1 + 512 + tok locked) :: l)
def ent (op len : Nat) (l : List (Fld × Nat)) : State := (f0.wr l).offer 3 0 ([op,0,0x20004000,len,0,0,0,0].map tw)
def g0 : State := f0.wr [(F.GNS_FE_EN,1),(F.GNS_STAT_TCXOOK,1)]
def gf : State := g0.wr [(F.GNS_STAT_FERDY,1),(F.GNS_EPOCH_EPOCH, 0xFFFFFFFF)]
def sn : State := gf.offer 6 0 ([1,0,0x20004000,32,16,1,0,0].map tw)
def sn1 := run .snap sn
def setS (s : State) (f : Snap → Snap) : State := {s with gnss := {s.gnss with snap := s.gnss.snap.map f}}
def sn2 := run .snapBegin (setS sn1 fun x => {x with waited := 1})
def sn3 := setS sn2 fun x => {x with left := 0}
def snp (s : State) : Snap := s.gnss.snap.getD ⟨dsc sn 6 0,0,false,0,[]⟩
def smp : List Byte := (List.range 2046).map (BitVec.ofNat 8)
def trk (l : List Nat) : State := gf.offer 6 1 (l.map tw)
def gb (ch : Nat) (l : List Nat) : State := gf.offer 6 ch (l.map tw)
def kdup : State := let s := cd 1 0 0x20004000 16 5 0 0 0; let K2 := s.mem.bytes 0x20004000 16; kst s 6 3 ⟨K2,0,none,kcvOf K2⟩
end OnCipher

namespace OnGnss
def f0 : State := (({ State.reset with boot := .done, time := {State.reset.time with tick := 500000, cyc := 400, per := some 900} }.wr [(F.PWR_STAT_FLRDY,1)]).lightUp .cipher |>.lightUp .gnss).setAcct 0x51 ⟨1,1,0,0⟩
def g0 : State := f0.wr [(F.GNS_FE_EN,1),(F.GNS_STAT_TCXOOK,1)]
def gf : State := g0.wr [(F.GNS_STAT_FERDY,1),(F.GNS_EPOCH_EPOCH, 0xFFFFFFFF)]
def ep : GnssEpoch := ⟨200, [], [], 0, 77⟩
def ch (s : State) (c : GChan) : State := s.setChan 3 c
def gc : GChan := {GChan.idle with st := .track, bitSync := true, prn := 4}
def w1 : BitVec 30 := 0x22C00000
def fixp (w : BitVec 30) : BitVec 30 := w ^^^ (navSyndrome w false false).setWidth 30
def ppsS (s : State) (k : Nat) : State := s.wr [(F.GNS_PPSSTAT_STATE, k)]
def pp (s : State) (f : Pps → Pps) : State := s.setPps (f s.gnss.pps)
end OnGnss

namespace OnPads
def f0 : State := ({ State.reset with boot := .done, time := {State.reset.time with tick := 500000, cyc := 400, per := some 900} }.wr [(F.PWR_STAT_FLRDY,1)]).lightUp .cipher
def run (i : Instr) (s : State) : State := match exec i s with | .next u => u | _ => s
def dsc (s : State) (u ch : Nat) : Desc := (s.headDesc u ch).getD ⟨0,0,Vector.replicate 8 (tw 0)⟩
def cs : State := run .sselFall (f0.wr [(F.CSP_SCFG_SEN,1),(F.CSP_SCFG_ROLE,0),(F.CSP_SCFG_FCRC,0)])
def bv (l : List Nat) : List Word := l.map (BitVec.ofNat 32)
def hfb (s : State) (l : List Nat) (x : Nat) : HostFrame := ⟨(List.range (32*l.length)).map (fun p => ((bv l).getD (p/32) 0).getLsbD ((p%32)/s.slaveBits*s.slaveBits + s.slaveBits - 1 - p%s.slaveBits)) ++ List.replicate x true⟩
def rec0 : State := run .cspRecv (cs.offer 7 0 ([0x10,0,0x20004000,64,0,0,0,0].map tw))
def xs (keep ln rx: Nat) : State := ((f0.wr [(F.CSP_SCFG_ROLE,1)]).offer 7 1 ([1+65536*(1+4*keep),0,0x20004000,ln,rx,0,0,0].map tw)).ram 0x20004000 [tw 7]
def tg0 : State := f0.wr [(F.TAG_LINV_ADDR 2, 0x20008000/16)]
def fb : Fob := ⟨0x123456789ABCDEF0, checkCode 0x123456789ABCDEF0, 0, false⟩
def tOn (s : State) (l : List Fob) : State := let t := run (.lineEnable 2) s; let u := {t with time := {t.time with tick := t.time.tick + 40000000}}; u.setLine 2 {u.line 2 with fobs := l}
def chk (op : Nat) (s : State) : State := s.offer 8 0 ([op,0,0,0,2,if op = 2 then 0x9ABCDEF0 else 0,if op = 2 then 0x12345678 else 0,0].map tw)
def wk (s : State) : TagWalk := ⟨dsc (chk 1 s) 8 0, 2, [], [5], [], 3, 2, 5, some [], [], 400000⟩
def paus (s : State) : State := {s with tag := {s.tag with walk := some (wk s)}}.wr [(F.TAG_LSTAT_PAUSED 2,1),(F.TAG_STAT_BUSY, 4)]
def dfr : State := let s := paus ((tOn tg0 []).wr [(F.TAG_PRES_EN 2,1)]); s.setLine 2 {s.line 2 with deferred := true}
def pRec : State := paus ((run .tagRecv ((tOn tg0 []).offer 8 1 ([0x10,0,0x20004000,64,0,0,0,0].map tw))))
def mv (es : Nat) (b : Nat) : State := (f0.wr [(F.BTS_STAT_ES, es)]).offer 9 b ([1+65536,0,0,0,200,300,100 + 256*5,30+256*2].map tw)
def drv (b : Fin 2) (p : Nat) : State := let s := run .move (mv 0 b.val); s.setBrg b {s.brg b with periods := p}
def brk (b : Fin 2) (p : Nat) : State := let s := drv b p; s.setBrg b {s.brg b with st := .brake, status := 0x20, peak := 77}
def tlS (z miss : Nat) : State := (f0.wr [(F.BTS_TEN_EN, 4),(F.BTS_TCFG_ZERO 2, z),(F.BTS_TPER_FAILN, 2)]).setTloop 2 ⟨0xACE1, miss, 9, 5⟩
def pn (l : List (Fld × Nat)) : State := {f0.wr l with pads := 0x00F0F0}
def cs2 : State := run .sselFall cs
def cs3 : State := run .sselFall cs2
def xprog : State := run (.xfer ((List.range 10).map (fun i => i % 3 == 0))) (xs 1 8 0x20005000)
def srcB : State := (((f0.wr [(F.CSP_SCFG_ROLE,1)]).wr [(F.FLC_STAT_BUSYA,1)]).offer 7 1 ([1+65536,0,0x08000000,8,0,0,0,0].map tw))
def rcv (s : State) : State := run .tagRecv (s.offer 8 1 ([0x10,0,0x20004000,64,0,0,0,0].map tw))
def sch : State := chk 1 (rcv (tOn tg0 [fb]))
def prs : State := let s := tOn tg0 [fb]; chk 2 (s.setLine 2 {s.line 2 with pres := some ⟨[5,6,7], 0, 0, 0, []⟩})
end OnPads

/-! ### StepRunsTheFrontCommand -/

theorem witness_StepRunsTheFrontCommand : ∃ (s : State) (i : Instr) (q : List Instr),
    (s.pending = i :: q) :=
  ⟨{ OnThreads.f0 with pending := [.timeBaseTick] }, .timeBaseTick, [],
    by decide +kernel⟩

/-! ### EveryCommandAnswersNext -/

theorem witness_EmptyQueuePassesOneCycle_1 : ∃ (s : State),
    (s.pending = []) ∧ s.quiet ∧ (s.fllRuns = true) ∧ ((∀ n, s.counterCounts n = true → s.fld (F.CNT_CTL_SRC n.val) ≠ 2)) ∧
    (s.flash.op = none) ∧ (s.cip.waiting = none) ∧ (s.gnss.out = []) :=
  ⟨OnThreads.f0,
    by (dsimp only [State.quiet]) <;> decide +kernel⟩

theorem witness_EmptyQueuePassesOneCycle_2 : ∃ (s : State),
    (s.pending = []) ∧ s.quiet ∧ (s.fllRuns = false) :=
  ⟨{ OnThreads.f0 with power := { OnThreads.f0.power with vdd := false } },
    by (dsimp only [State.quiet]) <;> decide +kernel⟩

/-! ### StepsKeepQuiet -/

theorem witness_StepsKeepQuiet : ∃ (s u : State),
    s.quiet ∧ (step s = .next u) :=
  ⟨{ State.reset with pending := [.timeBaseTick] }, _, rfl, rfl⟩

/-! ### StepsKeepCanonical -/

theorem witness_StepsKeepCanonical : ∃ (s u : State),
    s.canonical ∧ s.books ∧ (step s = .next u) :=
  ⟨{ State.reset with pending := [.timeBaseTick] }, _, by unfold State.canonical; decide +kernel, ⟨by decide +kernel, fun k => by
    dsimp only [State.acct, State.reset, Ledger.reset, smGet]
    repeat' split
    all_goals rfl⟩, rfl⟩

/-! ### WordsDecodeAndEncode -/

theorem witness_LongWordsDecode : ∃ (i : Instr) (w : Word), i.wf = true ∧ encode i = some w :=
  ⟨.ldw 0 .ne 7 2 0, 0x12038800, by decide +kernel, by decide +kernel⟩

theorem witness_DecodedWordsEncode : ∃ (i : Instr) (t : ThreadId) (w : Word), w.msb = false ∧ decodeLong t w = some i ∧
    (0x3C ≤ (w.extractLsb' 20 7).toNat ∧ (w.extractLsb' 20 7).toNat ≤ 0x3E → w.extractLsb' 4 6 = 0) :=
  ⟨.ldw 0 .ne 7 2 0, 0, 0x12038800, by decide +kernel, by decide +kernel, by decide +kernel⟩

theorem witness_PairedWordsDecode : ∃ (a b : Short), (∀ off, a ≠ .bc .tv off) ∧ (∀ off, b ≠ .bc .tv off) ∧ a.branches = false ∧ b.branches = true :=
  ⟨.add 3 4, .bc .ne 5, by simp, by simp, by decide, by decide⟩

/-! ### ThreeRegisterArithmetic -/

theorem witness_ThreeRegisterArithmetic_1 : ∃ (s : State) (t : ThreadId) (c : Cond) (rd ra rb : Reg) (g : Tag),
    s.ready t ∧ (condHolds (s.thr t) c ra = true) ∧ (let a := (s.thr t).get ra; (let b := (s.thr t).get rb;
    (let h : Option Tag := (tagAdd a.tag b.tag); (h = some g)))) :=
  ⟨OnThreads.f1, 0, .al, 20, 1, 2, .int,
    by (dsimp only [State.quiet, State.ready]) <;> decide +kernel⟩

theorem witness_ThreeRegisterArithmetic_2 : ∃ (s : State) (t : ThreadId) (c : Cond) (rd ra rb : Reg) (g : Tag),
    s.ready t ∧ (condHolds (s.thr t) c ra = true) ∧ (let a := (s.thr t).get ra; (let b := (s.thr t).get rb;
    (let h : Option Tag := (tagSub a.tag b.tag); (h = some g)))) :=
  ⟨OnThreads.f1, 0, .al, 20, 1, 2, .int,
    by (dsimp only [State.quiet, State.ready]) <;> decide +kernel⟩

theorem witness_ThreeRegisterArithmetic_3 : ∃ (s : State) (t : ThreadId) (c : Cond) (rd ra rb : Reg) (g : Tag),
    s.ready t ∧ (condHolds (s.thr t) c ra = true) ∧ (let a := (s.thr t).get ra; (let b := (s.thr t).get rb;
    (let h : Option Tag := (tagAnd a.tag b.tag); (h = some g)))) :=
  ⟨OnThreads.f1, 0, .al, 20, 1, 2, .int,
    by (dsimp only [State.quiet, State.ready]) <;> decide +kernel⟩

theorem witness_ThreeRegisterArithmetic_4 : ∃ (s : State) (t : ThreadId) (c : Cond) (rd ra rb : Reg) (g : Tag),
    s.ready t ∧ (condHolds (s.thr t) c ra = true) ∧ (let a := (s.thr t).get ra; (let b := (s.thr t).get rb;
    (let h : Option Tag := (tagOr a.tag b.tag); (h = some g)))) :=
  ⟨OnThreads.f1, 0, .al, 20, 1, 2, .int,
    by (dsimp only [State.quiet, State.ready]) <;> decide +kernel⟩

theorem witness_ThreeRegisterArithmetic_5 : ∃ (s : State) (t : ThreadId) (c : Cond) (rd ra rb : Reg) (g : Tag),
    s.ready t ∧ (condHolds (s.thr t) c ra = true) ∧ (let a := (s.thr t).get ra; (let b := (s.thr t).get rb;
    (let h : Option Tag := (tagShift a.tag b.tag); (h = some g)))) :=
  ⟨OnThreads.f1, 0, .al, 20, 1, 2, .int,
    by (dsimp only [State.quiet, State.ready]) <;> decide +kernel⟩

theorem witness_ThreeRegisterArithmetic_6 : ∃ (s : State) (t : ThreadId) (c : Cond) (rd ra rb : Reg) (g : Tag),
    s.ready t ∧ (condHolds (s.thr t) c ra = true) ∧ (let a := (s.thr t).get ra; (let b := (s.thr t).get rb;
    (let h : Option Tag := (tagMul a.tag b.tag); (h = some g)))) :=
  ⟨OnThreads.f1, 0, .al, 20, 1, 2, .int,
    by (dsimp only [State.quiet, State.ready]) <;> decide +kernel⟩

/-! ### ImmediateAndMoveForms -/

theorem witness_ImmediateAndMoveForms : ∃ (s : State) (t : ThreadId) (c : Cond) (rd ra : Reg) (imm : BitVec 10) (sh : BitVec 5) (i16 : BitVec 16) (i15 : BitVec 15) (tg : BitVec 4) (g : Tag),
    s.ready t ∧ (let x := s.thr t; (let a := x.get ra; (condHolds x c ra = true) ∧ (tagAdd a.tag .int = some g) ∧
    (tagAnd a.tag .int = some g) ∧ (tagOr a.tag .int = some g) ∧ (tagShift a.tag .int = some g) ∧ (tagNames tg = true) ∧ (a.tag ≠ .key) ∧
    ((x.mode = true ∨ (tagOf tg.toNat ≠ .addr ∧ tagOf tg.toNat ≠ .code))) ∧ (condHolds x c rd = true) ∧
    (tagOr (x.get rd).tag .int = some g))) :=
  ⟨OnThreads.f1, 0, .al, 1, 1, 0x1FF, 3, 0xFFFF, 0x3FFF, 3, .int,
    by (dsimp only [State.quiet, State.ready]) <;> decide +kernel⟩

/-! ### ComparesSetFlags -/

theorem witness_ComparesSetFlags_1 : ∃ (s : State) (t : ThreadId) (c : Cond) (ra rb : Reg) (imm : BitVec 10),
    s.ready t ∧ (condHolds (s.thr t) c ra = true) ∧ (let x := s.thr t; (let a := x.get ra; (let b := x.get rb; (tagCmp a.tag b.tag = true) ∧
    (¬(a.tag = b.tag ∧ (a.tag = .seq ∨ a.tag = .time))) ∧ (tagCmp a.tag .int = true) ∧ (tagTst a.tag b.tag = true)))) :=
  ⟨OnThreads.f1, 0, .al, 1, 2, 0x3FF,
    by (dsimp only [State.quiet, State.ready]) <;> decide +kernel⟩

theorem witness_ComparesSetFlags_2 : ∃ (s : State) (t : ThreadId) (c : Cond) (ra rb : Reg) (imm : BitVec 10),
    s.ready t ∧ (condHolds (s.thr t) c ra = true) ∧ (let x := s.thr t; (let a := x.get ra; (let b := x.get rb; (a.tag = b.tag) ∧
    (a.tag = .seq ∨ a.tag = .time)))) :=
  ⟨OnThreads.f1, 0, .al, 6, 6, 0x3FF,
    by (dsimp only [State.quiet, State.ready]) <;> decide +kernel⟩

/-! ### TagTableAndFaults -/

theorem witness_TagFaultsEnterWarden : ∃ (s : State) (t : ThreadId) (c : Cond) (rd ra rb : Reg),
    s.ready t ∧ (condHolds (s.thr t) c ra = true) ∧ ((s.thr t).ent = false) ∧ (s.flag (F.EVT_TENT_VALID t.val) = true) ∧
    (let x := s.thr t; (let a := (x.get ra).tag; (let b := (x.get rb).tag; (tagAdd a b = none) ∧ (tagSub a b = none) ∧ (tagAnd a b = none) ∧
    (tagOr a b = none) ∧ (tagShift a b = none) ∧ (tagMul a b = none) ∧ (tagCmp a b = false) ∧ (tagTst a b = false)))) :=
  ⟨OnThreads.f1e, 0, .al, 20, 1, 8,
    by (dsimp only [State.quiet, State.ready]) <;> decide +kernel⟩

/-! ### FalseConditionSkips -/

theorem witness_FalseConditionSkips_1 : ∃ (s : State) (t : ThreadId) (w : Word) (i : Instr),
    s.ready t ∧ (decodeLong t w = some i) ∧ (let op := (w.extractLsb' 20 7).toNat;
    (let wide : Bool := (0x1C ≤ op && op ≤ 0x1F) || op == 0x30 || op == 0x31 || op == 0x34 || op == 0x3F;
    (condHolds (s.thr t) (condOf (w.extractLsb' 27 4)) (if wide then regAt w 15 else regAt w 10) = false) ∧ (((0x38 ≤ op ∧
    op ≤ 0x3B) → (s.thr t).bip = false)))) :=
  ⟨OnThreads.f1, 0, 0x0A038800, .ldw 0 .eq 7 2 0,
    by (dsimp only [State.quiet, State.ready]) <;> decide +kernel⟩

theorem witness_FalseConditionSkips_2 : ∃ (s : State) (t : ThreadId) (w : Word) (i : Instr),
    s.ready t ∧ (decodeLong t w = some i) ∧ ((s.thr t).bip = true) :=
  ⟨(OnThreads.f1.setThr 0 {OnThreads.f1.thr 0 with bip := true}), 0, 0x02038800, .ldw 0 .al 7 2 0,
    by (dsimp only [State.quiet, State.ready]) <;> decide +kernel⟩

/-! ### LoadsReadMemory -/

theorem witness_LoadsReadMemory_1 : ∃ (s : State) (t : ThreadId) (c : Cond) (rd ra rb : Reg) (imm : BitVec 10),
    s.ready t ∧ (condHolds (s.thr t) c ra = true) ∧ (((s.thr t).get ra).tag = .addr) ∧ (let x := s.thr t;
    (let base := (x.get ra).data.toNat; (let at' (off : Int) : Nat := ((base + off) % 2 ^ 32).toNat;
    (let okay (n a : Nat) : Prop := a % n = 0 ∧ s.thrRead x.issued (ownBurst t) a n = .ok;
    (let plain (a : Nat) : Prop := (plainRam a || Region.rom.holds a) = true ∧ s.crosses t (wordAddr a) = s;
    (let a : Nat := (at' (4 * imm.toInt)); okay 4 a ∧ plain a)))))) :=
  ⟨OnThreads.f1, 0, .al, 20, 3, 11, 0,
    by (dsimp only [State.quiet, State.ready]) <;> decide +kernel⟩

theorem witness_LoadsReadMemory_2 : ∃ (s : State) (t : ThreadId) (c : Cond) (rd ra rb : Reg) (imm : BitVec 10),
    s.ready t ∧ (condHolds (s.thr t) c ra = true) ∧ (((s.thr t).get ra).tag = .addr) ∧ (let x := s.thr t;
    (let base := (x.get ra).data.toNat; (let at' (off : Int) : Nat := ((base + off) % 2 ^ 32).toNat;
    (let okay (n a : Nat) : Prop := a % n = 0 ∧ s.thrRead x.issued (ownBurst t) a n = .ok; (let a : Nat := (at' (4 * imm.toInt));
    okay 4 a))))) :=
  ⟨OnThreads.f1, 0, .al, 20, 3, 11, 0,
    by (dsimp only [State.quiet, State.ready]) <;> decide +kernel⟩

theorem witness_LoadsReadMemory_3 : ∃ (s : State) (t : ThreadId) (c : Cond) (rd ra rb : Reg) (imm : BitVec 10),
    s.ready t ∧ (condHolds (s.thr t) c ra = true) ∧ (((s.thr t).get ra).tag = .addr) ∧ (let x := s.thr t;
    (let base := (x.get ra).data.toNat; (let at' (off : Int) : Nat := ((base + off) % 2 ^ 32).toNat;
    (let okay (n a : Nat) : Prop := a % n = 0 ∧ s.thrRead x.issued (ownBurst t) a n = .ok;
    (let plain (a : Nat) : Prop := (plainRam a || Region.rom.holds a) = true ∧ s.crosses t (wordAddr a) = s; ((x.get rb).tag = .int) ∧
    (let a : Nat := (at' (x.get rb).data.toNat); okay 4 a ∧ plain a)))))) :=
  ⟨OnThreads.f1, 0, .al, 20, 3, 11, 0,
    by (dsimp only [State.quiet, State.ready]) <;> decide +kernel⟩

theorem witness_LoadsReadMemory_4 : ∃ (s : State) (t : ThreadId) (c : Cond) (rd ra rb : Reg) (imm : BitVec 10),
    s.ready t ∧ (condHolds (s.thr t) c ra = true) ∧ (((s.thr t).get ra).tag = .addr) ∧ (let x := s.thr t;
    (let base := (x.get ra).data.toNat; (let at' (off : Int) : Nat := ((base + off) % 2 ^ 32).toNat;
    (let okay (n a : Nat) : Prop := a % n = 0 ∧ s.thrRead x.issued (ownBurst t) a n = .ok; ((x.get rb).tag = .int) ∧
    (let a : Nat := (at' (x.get rb).data.toNat); okay 4 a))))) :=
  ⟨OnThreads.f1, 0, .al, 20, 3, 11, 0,
    by (dsimp only [State.quiet, State.ready]) <;> decide +kernel⟩

theorem witness_LoadsReadMemory_5 : ∃ (s : State) (t : ThreadId) (c : Cond) (rd ra rb : Reg) (imm : BitVec 10),
    s.ready t ∧ (condHolds (s.thr t) c ra = true) ∧ (((s.thr t).get ra).tag = .addr) ∧ (let x := s.thr t;
    (let base := (x.get ra).data.toNat; (let at' (off : Int) : Nat := ((base + off) % 2 ^ 32).toNat;
    (let okay (n a : Nat) : Prop := a % n = 0 ∧ s.thrRead x.issued (ownBurst t) a n = .ok;
    (let plain (a : Nat) : Prop := (plainRam a || Region.rom.holds a) = true ∧ s.crosses t (wordAddr a) = s; (let n : Nat := 2;
    (let a : Nat := (at' (2 * imm.toInt)); okay n a ∧ plain a ∧ (s.mem.tag a ≠ .key)))))))) :=
  ⟨OnThreads.f1, 0, .al, 20, 3, 11, 0,
    by (dsimp only [State.quiet, State.ready]) <;> decide +kernel⟩

theorem witness_LoadsReadMemory_6 : ∃ (s : State) (t : ThreadId) (c : Cond) (rd ra rb : Reg) (imm : BitVec 10),
    s.ready t ∧ (condHolds (s.thr t) c ra = true) ∧ (((s.thr t).get ra).tag = .addr) ∧ (let x := s.thr t;
    (let base := (x.get ra).data.toNat; (let at' (off : Int) : Nat := ((base + off) % 2 ^ 32).toNat;
    (let okay (n a : Nat) : Prop := a % n = 0 ∧ s.thrRead x.issued (ownBurst t) a n = .ok; (let n : Nat := 2;
    (let a : Nat := (at' (2 * imm.toInt)); okay n a)))))) :=
  ⟨OnThreads.f1, 0, .al, 20, 3, 11, 0,
    by (dsimp only [State.quiet, State.ready]) <;> decide +kernel⟩

theorem witness_LoadsReadMemory_7 : ∃ (s : State) (t : ThreadId) (c : Cond) (rd ra rb : Reg) (imm : BitVec 10),
    s.ready t ∧ (condHolds (s.thr t) c ra = true) ∧ (((s.thr t).get ra).tag = .addr) ∧ (let x := s.thr t;
    (let base := (x.get ra).data.toNat; (let at' (off : Int) : Nat := ((base + off) % 2 ^ 32).toNat;
    (let okay (n a : Nat) : Prop := a % n = 0 ∧ s.thrRead x.issued (ownBurst t) a n = .ok;
    (let plain (a : Nat) : Prop := (plainRam a || Region.rom.holds a) = true ∧ s.crosses t (wordAddr a) = s; (let n : Nat := 1;
    (let a : Nat := (at' imm.toInt); okay n a ∧ plain a ∧ (s.mem.tag a ≠ .key)))))))) :=
  ⟨OnThreads.f1, 0, .al, 20, 3, 11, 0,
    by (dsimp only [State.quiet, State.ready]) <;> decide +kernel⟩

theorem witness_LoadsReadMemory_8 : ∃ (s : State) (t : ThreadId) (c : Cond) (rd ra rb : Reg) (imm : BitVec 10),
    s.ready t ∧ (condHolds (s.thr t) c ra = true) ∧ (((s.thr t).get ra).tag = .addr) ∧ (let x := s.thr t;
    (let base := (x.get ra).data.toNat; (let at' (off : Int) : Nat := ((base + off) % 2 ^ 32).toNat;
    (let okay (n a : Nat) : Prop := a % n = 0 ∧ s.thrRead x.issued (ownBurst t) a n = .ok; (let n : Nat := 1;
    (let a : Nat := (at' imm.toInt); okay n a)))))) :=
  ⟨OnThreads.f1, 0, .al, 20, 3, 11, 0,
    by (dsimp only [State.quiet, State.ready]) <;> decide +kernel⟩

/-! ### StoresWriteMemory -/

theorem witness_StoresWriteMemory_1 : ∃ (s : State) (t : ThreadId) (c : Cond) (rd ra rb : Reg) (imm : BitVec 10),
    s.ready t ∧ (condHolds (s.thr t) c ra = true) ∧ (((s.thr t).get ra).tag = .addr) ∧ (let x := s.thr t; (let w := x.get rd;
    (let base := (x.get ra).data; (let n : Nat := 4; (let a : Nat := (effAddr base (BitVec.ofInt 32 (4 * imm.toInt))); (a % n = 0) ∧
    (s.thrWrite x.issued (ownBurst t) a n = .ok) ∧ (s.crosses t a = s) ∧ (plainRam a = true) ∧ (s.watched (wordAddr a) = none) ∧
    ((n = 4 ∨ (w.tag ≠ .key ∧ w.tag ≠ .void)))))))) :=
  ⟨OnThreads.f1, 0, .al, 1, 3, 11, 0,
    by (dsimp only [State.quiet, State.ready]) <;> decide +kernel⟩

theorem witness_StoresWriteMemory_2 : ∃ (s : State) (t : ThreadId) (c : Cond) (rd ra rb : Reg) (imm : BitVec 10),
    s.ready t ∧ (condHolds (s.thr t) c ra = true) ∧ (((s.thr t).get ra).tag = .addr) ∧ (let x := s.thr t; (let w := x.get rd;
    (let base := (x.get ra).data; ((x.get rb).tag = .int) ∧ (let n : Nat := 4; (let a : Nat := (effAddr base (x.get rb).data); (a % n = 0) ∧
    (s.thrWrite x.issued (ownBurst t) a n = .ok) ∧ (s.crosses t a = s) ∧ (plainRam a = true) ∧ (s.watched (wordAddr a) = none) ∧
    ((n = 4 ∨ (w.tag ≠ .key ∧ w.tag ≠ .void)))))))) :=
  ⟨OnThreads.f1, 0, .al, 1, 3, 11, 0,
    by (dsimp only [State.quiet, State.ready]) <;> decide +kernel⟩

theorem witness_StoresWriteMemory_3 : ∃ (s : State) (t : ThreadId) (c : Cond) (rd ra rb : Reg) (imm : BitVec 10),
    s.ready t ∧ (condHolds (s.thr t) c ra = true) ∧ (((s.thr t).get ra).tag = .addr) ∧ (let x := s.thr t; (let w := x.get rd;
    (let base := (x.get ra).data; (let n : Nat := 2; (let a : Nat := (effAddr base (BitVec.ofInt 32 (2 * imm.toInt))); (a % n = 0) ∧
    (s.thrWrite x.issued (ownBurst t) a n = .ok) ∧ (s.crosses t a = s) ∧ (plainRam a = true) ∧ (s.watched (wordAddr a) = none) ∧
    ((n = 4 ∨ (w.tag ≠ .key ∧ w.tag ≠ .void)))))))) :=
  ⟨OnThreads.f1, 0, .al, 1, 3, 11, 0,
    by (dsimp only [State.quiet, State.ready]) <;> decide +kernel⟩

theorem witness_StoresWriteMemory_4 : ∃ (s : State) (t : ThreadId) (c : Cond) (rd ra rb : Reg) (imm : BitVec 10),
    s.ready t ∧ (condHolds (s.thr t) c ra = true) ∧ (((s.thr t).get ra).tag = .addr) ∧ (let x := s.thr t; (let w := x.get rd;
    (let base := (x.get ra).data; (let n : Nat := 1; (let a : Nat := (effAddr base (BitVec.ofInt 32 imm.toInt)); (a % n = 0) ∧
    (s.thrWrite x.issued (ownBurst t) a n = .ok) ∧ (s.crosses t a = s) ∧ (plainRam a = true) ∧ (s.watched (wordAddr a) = none) ∧
    ((n = 4 ∨ (w.tag ≠ .key ∧ w.tag ≠ .void)))))))) :=
  ⟨OnThreads.f1, 0, .al, 1, 3, 11, 0,
    by (dsimp only [State.quiet, State.ready]) <;> decide +kernel⟩

theorem witness_StoresWriteMemory_5 : ∃ (s : State) (t : ThreadId) (c : Cond) (rd ra rb : Reg) (imm : BitVec 10),
    s.ready t ∧ (condHolds (s.thr t) c ra = true) ∧ (((s.thr t).get ra).tag = .addr) ∧ (let x := s.thr t; (let w := x.get rd;
    (let base := (x.get ra).data; (let n : Nat := 4; (let a : Nat := (effAddr base (BitVec.ofInt 32 (4 * imm.toInt))); (a % n = 0) ∧
    (s.thrWrite x.issued (ownBurst t) a n = .ok) ∧ (s.crosses t a = s) ∧ (Region.gnss.holds a = true) ∧ (w.tag ≠ .key) ∧
    ((n = 4 ∨ w.tag ≠ .void))))))) :=
  ⟨OnThreads.f2g, 0, .al, 1, 3, 11, 0,
    by (dsimp only [State.quiet, State.ready]) <;> decide +kernel⟩

theorem witness_StoresWriteMemory_6 : ∃ (s : State) (t : ThreadId) (c : Cond) (rd ra rb : Reg) (imm : BitVec 10),
    s.ready t ∧ (condHolds (s.thr t) c ra = true) ∧ (((s.thr t).get ra).tag = .addr) ∧ (let x := s.thr t; (let w := x.get rd;
    (let base := (x.get ra).data; ((x.get rb).tag = .int) ∧ (let n : Nat := 4; (let a : Nat := (effAddr base (x.get rb).data); (a % n = 0) ∧
    (s.thrWrite x.issued (ownBurst t) a n = .ok) ∧ (s.crosses t a = s) ∧ (Region.gnss.holds a = true) ∧ (w.tag ≠ .key) ∧
    ((n = 4 ∨ w.tag ≠ .void))))))) :=
  ⟨OnThreads.f2g, 0, .al, 1, 3, 11, 0,
    by (dsimp only [State.quiet, State.ready]) <;> decide +kernel⟩

theorem witness_StoresWriteMemory_7 : ∃ (s : State) (t : ThreadId) (c : Cond) (rd ra rb : Reg) (imm : BitVec 10),
    s.ready t ∧ (condHolds (s.thr t) c ra = true) ∧ (((s.thr t).get ra).tag = .addr) ∧ (let x := s.thr t; (let w := x.get rd;
    (let base := (x.get ra).data; (let n : Nat := 2; (let a : Nat := (effAddr base (BitVec.ofInt 32 (2 * imm.toInt))); (a % n = 0) ∧
    (s.thrWrite x.issued (ownBurst t) a n = .ok) ∧ (s.crosses t a = s) ∧ (Region.gnss.holds a = true) ∧ (w.tag ≠ .key) ∧
    ((n = 4 ∨ w.tag ≠ .void))))))) :=
  ⟨OnThreads.f2g, 0, .al, 1, 3, 11, 0,
    by (dsimp only [State.quiet, State.ready]) <;> decide +kernel⟩

theorem witness_StoresWriteMemory_8 : ∃ (s : State) (t : ThreadId) (c : Cond) (rd ra rb : Reg) (imm : BitVec 10),
    s.ready t ∧ (condHolds (s.thr t) c ra = true) ∧ (((s.thr t).get ra).tag = .addr) ∧ (let x := s.thr t; (let w := x.get rd;
    (let base := (x.get ra).data; (let n : Nat := 1; (let a : Nat := (effAddr base (BitVec.ofInt 32 imm.toInt)); (a % n = 0) ∧
    (s.thrWrite x.issued (ownBurst t) a n = .ok) ∧ (s.crosses t a = s) ∧ (Region.gnss.holds a = true) ∧ (w.tag ≠ .key) ∧
    ((n = 4 ∨ w.tag ≠ .void))))))) :=
  ⟨OnThreads.f2g, 0, .al, 1, 3, 11, 0,
    by (dsimp only [State.quiet, State.ready]) <;> decide +kernel⟩

theorem witness_StoresWriteMemory_9 : ∃ (s : State) (t : ThreadId) (c : Cond) (rd ra rb : Reg) (imm : BitVec 10),
    s.ready t ∧ (condHolds (s.thr t) c ra = true) ∧ (((s.thr t).get ra).tag = .addr) ∧ (let x := s.thr t; (let w := x.get rd;
    (let base := (x.get ra).data; (let a : Nat := (effAddr base (BitVec.ofInt 32 (4 * imm.toInt))); (a % 4 = 0) ∧ (inRegs a = true) ∧
    (x.mode = true) ∧ (w.tag ≠ .key) ∧ (s.thrWrite x.issued (ownBurst t) a 4 = .ok))))) :=
  ⟨OnThreads.f2, 0, .al, 1, 3, 11, 0,
    by (dsimp only [State.quiet, State.ready]) <;> decide +kernel⟩

theorem witness_StoresWriteMemory_10 : ∃ (s : State) (t : ThreadId) (c : Cond) (rd ra rb : Reg) (imm : BitVec 10),
    s.ready t ∧ (condHolds (s.thr t) c ra = true) ∧ (((s.thr t).get ra).tag = .addr) ∧ (let x := s.thr t; (let w := x.get rd;
    (let base := (x.get ra).data; ((x.get rb).tag = .int) ∧ (let a : Nat := (effAddr base (x.get rb).data); (a % 4 = 0) ∧
    (inRegs a = true) ∧ (x.mode = true) ∧ (w.tag ≠ .key) ∧ (s.thrWrite x.issued (ownBurst t) a 4 = .ok))))) :=
  ⟨OnThreads.f2, 0, .al, 1, 3, 11, 0,
    by (dsimp only [State.quiet, State.ready]) <;> decide +kernel⟩

/-! ### AccessFaultsEnterWarden -/

theorem witness_AccessFaultsEnterWarden_1 : ∃ (s : State) (t : ThreadId) (c : Cond) (rd ra rb : Reg) (imm : BitVec 10) (sr slot tg : BitVec 4),
    s.ready t ∧ (let x := s.thr t; (condHolds x c ra = true) ∧ (condHolds x c 0 = true) ∧ (x.ent = false) ∧
    (s.flag (F.EVT_TENT_VALID t.val) = true) ∧ (let b := x.get ra; (let at' (n : Nat) : Word := b.data + BitVec.ofInt 32 (n * imm.toInt);
    (b.tag = .addr) ∧ (let n : Nat := 4; (let a : Word := (at' 4); (a.toNat % n = 0) ∧
    (let r : Reach := (s.thrRead x.issued (ownBurst t) a.toNat n); (let f : FaultCode := (match r with | .fault g => g | _ => .nomap); (r = .fault f)))))))) :=
  ⟨OnThreads.f5u, 0, .al, 9, 23, 12, 0, 1, 3, 3,
    by (dsimp only [State.quiet, State.ready]) <;> decide +kernel⟩

theorem witness_AccessFaultsEnterWarden_2 : ∃ (s : State) (t : ThreadId) (c : Cond) (rd ra rb : Reg) (imm : BitVec 10) (sr slot tg : BitVec 4),
    s.ready t ∧ (let x := s.thr t; (condHolds x c ra = true) ∧ (condHolds x c 0 = true) ∧ (x.ent = false) ∧
    (s.flag (F.EVT_TENT_VALID t.val) = true) ∧ (let b := x.get ra; (let at' (n : Nat) : Word := b.data + BitVec.ofInt 32 (n * imm.toInt);
    (b.tag = .addr) ∧ (let n : Nat := 2; (let a : Word := (at' 2); (a.toNat % n = 0) ∧
    (let r : Reach := (s.thrRead x.issued (ownBurst t) a.toNat n); (let f : FaultCode := (match r with | .fault g => g | _ => .nomap); (r = .fault f)))))))) :=
  ⟨OnThreads.f5u, 0, .al, 9, 23, 12, 0, 1, 3, 3,
    by (dsimp only [State.quiet, State.ready]) <;> decide +kernel⟩

theorem witness_AccessFaultsEnterWarden_3 : ∃ (s : State) (t : ThreadId) (c : Cond) (rd ra rb : Reg) (imm : BitVec 10) (sr slot tg : BitVec 4),
    s.ready t ∧ (let x := s.thr t; (condHolds x c ra = true) ∧ (condHolds x c 0 = true) ∧ (x.ent = false) ∧
    (s.flag (F.EVT_TENT_VALID t.val) = true) ∧ (let b := x.get ra; (let at' (n : Nat) : Word := b.data + BitVec.ofInt 32 (n * imm.toInt);
    (b.tag = .addr) ∧ (let n : Nat := 1; (let a : Word := (at' 1); (a.toNat % n = 0) ∧
    (let r : Reach := (s.thrRead x.issued (ownBurst t) a.toNat n); (let f : FaultCode := (match r with | .fault g => g | _ => .nomap); (r = .fault f)))))))) :=
  ⟨OnThreads.f5u, 0, .al, 9, 23, 12, 0, 1, 3, 3,
    by (dsimp only [State.quiet, State.ready]) <;> decide +kernel⟩

theorem witness_AccessFaultsEnterWarden_4 : ∃ (s : State) (t : ThreadId) (c : Cond) (rd ra rb : Reg) (imm : BitVec 10) (sr slot tg : BitVec 4),
    s.ready t ∧ (let x := s.thr t; (condHolds x c ra = true) ∧ (condHolds x c 0 = true) ∧ (x.ent = false) ∧
    (s.flag (F.EVT_TENT_VALID t.val) = true) ∧ (let b := x.get ra; (let k := x.get rb; (b.tag = .addr) ∧ (k.tag = .int) ∧
    (let n : Nat := 4; (let a : Word := (b.data + k.data); (a.toNat % n = 0) ∧
    (let r : Reach := (s.thrRead x.issued (ownBurst t) a.toNat n); (let f : FaultCode := (match r with | .fault g => g | _ => .nomap); (r = .fault f)))))))) :=
  ⟨OnThreads.f5u, 0, .al, 9, 23, 12, 0, 1, 3, 3,
    by (dsimp only [State.quiet, State.ready]) <;> decide +kernel⟩

theorem witness_AccessFaultsEnterWarden_5 : ∃ (s : State) (t : ThreadId) (c : Cond) (rd ra rb : Reg) (imm : BitVec 10) (sr slot tg : BitVec 4),
    s.ready t ∧ (let x := s.thr t; (condHolds x c ra = true) ∧ (condHolds x c 0 = true) ∧ (x.ent = false) ∧
    (s.flag (F.EVT_TENT_VALID t.val) = true) ∧ (let b := x.get ra; (let w := x.get rd;
    (let at' (n : Nat) : Word := b.data + BitVec.ofInt 32 (n * imm.toInt); (let barred (a : Word) : Bool := !x.mode && inRegs a.toNat;
    (let keyOff (n : Nat) (a : Word) : Bool := w.tag == .key && (n < 4 || inRegs a.toNat || Region.gnss.holds a.toNat); (b.tag = .addr) ∧
    (let n : Nat := 4; (let a : Word := (at' 4); (barred a = false) ∧ (keyOff n a = false) ∧ (n = 4 ∨ w.tag ≠ .void) ∧ (a.toNat % n = 0) ∧
    (let r : Reach := (s.thrWrite x.issued (ownBurst t) a.toNat n); (let f : FaultCode := (match r with | .fault g => g | _ => .nomap); (r = .fault f))))))))))) :=
  ⟨OnThreads.f5u, 0, .al, 9, 23, 12, 0, 1, 3, 3,
    by (dsimp only [State.quiet, State.ready]) <;> decide +kernel⟩

theorem witness_AccessFaultsEnterWarden_6 : ∃ (s : State) (t : ThreadId) (c : Cond) (rd ra rb : Reg) (imm : BitVec 10) (sr slot tg : BitVec 4),
    s.ready t ∧ (let x := s.thr t; (condHolds x c ra = true) ∧ (condHolds x c 0 = true) ∧ (x.ent = false) ∧
    (s.flag (F.EVT_TENT_VALID t.val) = true) ∧ (let b := x.get ra; (let w := x.get rd;
    (let at' (n : Nat) : Word := b.data + BitVec.ofInt 32 (n * imm.toInt); (let barred (a : Word) : Bool := !x.mode && inRegs a.toNat;
    (let keyOff (n : Nat) (a : Word) : Bool := w.tag == .key && (n < 4 || inRegs a.toNat || Region.gnss.holds a.toNat); (b.tag = .addr) ∧
    (let n : Nat := 2; (let a : Word := (at' 2); (barred a = false) ∧ (keyOff n a = false) ∧ (n = 4 ∨ w.tag ≠ .void) ∧ (a.toNat % n = 0) ∧
    (let r : Reach := (s.thrWrite x.issued (ownBurst t) a.toNat n); (let f : FaultCode := (match r with | .fault g => g | _ => .nomap); (r = .fault f))))))))))) :=
  ⟨OnThreads.f5u, 0, .al, 9, 23, 12, 0, 1, 3, 3,
    by (dsimp only [State.quiet, State.ready]) <;> decide +kernel⟩

theorem witness_AccessFaultsEnterWarden_7 : ∃ (s : State) (t : ThreadId) (c : Cond) (rd ra rb : Reg) (imm : BitVec 10) (sr slot tg : BitVec 4),
    s.ready t ∧ (let x := s.thr t; (condHolds x c ra = true) ∧ (condHolds x c 0 = true) ∧ (x.ent = false) ∧
    (s.flag (F.EVT_TENT_VALID t.val) = true) ∧ (let b := x.get ra; (let w := x.get rd;
    (let at' (n : Nat) : Word := b.data + BitVec.ofInt 32 (n * imm.toInt); (let barred (a : Word) : Bool := !x.mode && inRegs a.toNat;
    (let keyOff (n : Nat) (a : Word) : Bool := w.tag == .key && (n < 4 || inRegs a.toNat || Region.gnss.holds a.toNat); (b.tag = .addr) ∧
    (let n : Nat := 1; (let a : Word := (at' 1); (barred a = false) ∧ (keyOff n a = false) ∧ (n = 4 ∨ w.tag ≠ .void) ∧ (a.toNat % n = 0) ∧
    (let r : Reach := (s.thrWrite x.issued (ownBurst t) a.toNat n); (let f : FaultCode := (match r with | .fault g => g | _ => .nomap); (r = .fault f))))))))))) :=
  ⟨OnThreads.f5u, 0, .al, 9, 23, 12, 0, 1, 3, 3,
    by (dsimp only [State.quiet, State.ready]) <;> decide +kernel⟩

theorem witness_AccessFaultsEnterWarden_8 : ∃ (s : State) (t : ThreadId) (c : Cond) (rd ra rb : Reg) (imm : BitVec 10) (sr slot tg : BitVec 4),
    s.ready t ∧ (let x := s.thr t; (condHolds x c ra = true) ∧ (condHolds x c 0 = true) ∧ (x.ent = false) ∧
    (s.flag (F.EVT_TENT_VALID t.val) = true) ∧ (let b := x.get ra; (let k := x.get rb; (let w := x.get rd;
    (let barred (a : Word) : Bool := !x.mode && inRegs a.toNat;
    (let keyOff (n : Nat) (a : Word) : Bool := w.tag == .key && (n < 4 || inRegs a.toNat || Region.gnss.holds a.toNat); (b.tag = .addr) ∧
    (k.tag = .int) ∧ (let n : Nat := 4; (let a : Word := (b.data + k.data); (barred a = false) ∧ (keyOff n a = false) ∧
    (n = 4 ∨ w.tag ≠ .void) ∧ (a.toNat % n = 0) ∧ (let r : Reach := (s.thrWrite x.issued (ownBurst t) a.toNat n); (let f : FaultCode := (match r with | .fault g => g | _ => .nomap); (r = .fault f))))))))))) :=
  ⟨OnThreads.f5u, 0, .al, 9, 23, 12, 0, 1, 3, 3,
    by (dsimp only [State.quiet, State.ready]) <;> decide +kernel⟩

theorem witness_AccessFaultsEnterWarden_9 : ∃ (s : State) (t : ThreadId) (c : Cond) (rd ra rb : Reg) (imm : BitVec 10) (sr slot tg : BitVec 4),
    s.ready t ∧ (let x := s.thr t; (condHolds x c ra = true) ∧ (condHolds x c 0 = true) ∧ (x.ent = false) ∧
    (s.flag (F.EVT_TENT_VALID t.val) = true) ∧ (x.mode = false)) :=
  ⟨OnThreads.f5u, 0, .al, 9, 23, 12, 0, 1, 3, 3,
    by (dsimp only [State.quiet, State.ready]) <;> decide +kernel⟩

theorem witness_AccessFaultsEnterWarden_10 : ∃ (s : State) (t : ThreadId) (c : Cond) (rd ra rb : Reg) (imm : BitVec 10) (sr slot tg : BitVec 4),
    s.ready t ∧ (let x := s.thr t; (condHolds x c ra = true) ∧ (condHolds x c 0 = true) ∧ (x.ent = false) ∧
    (s.flag (F.EVT_TENT_VALID t.val) = true) ∧ (x.mode = false) ∧ ((tagNames tg = true ∧
    (tagOf tg.toNat = .addr ∨ tagOf tg.toNat = .code)))) :=
  ⟨OnThreads.f5u, 0, .al, 9, 23, 12, 0, 1, 3, 3,
    by (dsimp only [State.quiet, State.ready]) <;> decide +kernel⟩

theorem witness_AccessFaultsEnterWarden_11 : ∃ (s : State) (t : ThreadId) (c : Cond) (rd ra rb : Reg) (imm : BitVec 10) (sr slot tg : BitVec 4),
    s.ready t ∧ (let x := s.thr t; (condHolds x c ra = true) ∧ (condHolds x c 0 = true) ∧ (x.ent = false) ∧
    (s.flag (F.EVT_TENT_VALID t.val) = true) ∧ (let b := x.get ra; (b.tag ≠ .int))) :=
  ⟨OnThreads.f5u, 0, .al, 9, 23, 12, 0, 1, 3, 3,
    by (dsimp only [State.quiet, State.ready]) <;> decide +kernel⟩

theorem witness_AccessFaultsEnterWarden_12 : ∃ (s : State) (t : ThreadId) (c : Cond) (rd ra rb : Reg) (imm : BitVec 10) (sr slot tg : BitVec 4),
    s.ready t ∧ (let x := s.thr t; (condHolds x c ra = true) ∧ (condHolds x c 0 = true) ∧ (x.ent = false) ∧
    (s.flag (F.EVT_TENT_VALID t.val) = true) ∧ (let b := x.get ra; (b.tag ≠ .code))) :=
  ⟨OnThreads.f5u, 0, .al, 9, 23, 12, 0, 1, 3, 3,
    by (dsimp only [State.quiet, State.ready]) <;> decide +kernel⟩

theorem witness_AccessFaultsEnterWarden_13 : ∃ (s : State) (t : ThreadId) (c : Cond) (rd ra rb : Reg) (imm : BitVec 10) (sr slot tg : BitVec 4),
    s.ready t ∧ (let x := s.thr t; (condHolds x c ra = true) ∧ (condHolds x c 0 = true) ∧ (x.ent = false) ∧
    (s.flag (F.EVT_TENT_VALID t.val) = true) ∧ (let b := x.get ra; (let at' (n : Nat) : Word := b.data + BitVec.ofInt 32 (n * imm.toInt);
    (b.tag = .addr) ∧ (let n : Nat := 4; (let a : Word := (at' 4); (a.toNat % n ≠ 0)))))) :=
  ⟨OnThreads.f5, 0, .al, 24, 21, 12, 1, 1, 3, 3,
    by (dsimp only [State.quiet, State.ready]) <;> decide +kernel⟩

theorem witness_AccessFaultsEnterWarden_14 : ∃ (s : State) (t : ThreadId) (c : Cond) (rd ra rb : Reg) (imm : BitVec 10) (sr slot tg : BitVec 4),
    s.ready t ∧ (let x := s.thr t; (condHolds x c ra = true) ∧ (condHolds x c 0 = true) ∧ (x.ent = false) ∧
    (s.flag (F.EVT_TENT_VALID t.val) = true) ∧ (let b := x.get ra; (let at' (n : Nat) : Word := b.data + BitVec.ofInt 32 (n * imm.toInt);
    (b.tag = .addr) ∧ (let n : Nat := 2; (let a : Word := (at' 2); (a.toNat % n ≠ 0)))))) :=
  ⟨OnThreads.f5, 0, .al, 24, 21, 12, 1, 1, 3, 3,
    by (dsimp only [State.quiet, State.ready]) <;> decide +kernel⟩

theorem witness_AccessFaultsEnterWarden_15 : ∃ (s : State) (t : ThreadId) (c : Cond) (rd ra rb : Reg) (imm : BitVec 10) (sr slot tg : BitVec 4),
    s.ready t ∧ (let x := s.thr t; (condHolds x c ra = true) ∧ (condHolds x c 0 = true) ∧ (x.ent = false) ∧
    (s.flag (F.EVT_TENT_VALID t.val) = true) ∧ (let b := x.get ra; (let k := x.get rb; (b.tag = .addr) ∧ (k.tag = .int) ∧
    (let n : Nat := 4; (let a : Word := (b.data + k.data); (a.toNat % n ≠ 0)))))) :=
  ⟨OnThreads.f5, 0, .al, 24, 21, 12, 1, 1, 3, 3,
    by (dsimp only [State.quiet, State.ready]) <;> decide +kernel⟩

theorem witness_AccessFaultsEnterWarden_16 : ∃ (s : State) (t : ThreadId) (c : Cond) (rd ra rb : Reg) (imm : BitVec 10) (sr slot tg : BitVec 4),
    s.ready t ∧ (let x := s.thr t; (condHolds x c ra = true) ∧ (condHolds x c 0 = true) ∧ (x.ent = false) ∧
    (s.flag (F.EVT_TENT_VALID t.val) = true) ∧ (let b := x.get ra; (let w := x.get rd;
    (let at' (n : Nat) : Word := b.data + BitVec.ofInt 32 (n * imm.toInt); (let barred (a : Word) : Bool := !x.mode && inRegs a.toNat;
    (let keyOff (n : Nat) (a : Word) : Bool := w.tag == .key && (n < 4 || inRegs a.toNat || Region.gnss.holds a.toNat); (b.tag = .addr) ∧
    (let n : Nat := 4; (let a : Word := (at' 4); (barred a = false) ∧ (keyOff n a = false) ∧ (n = 4 ∨ w.tag ≠ .void) ∧
    (a.toNat % n ≠ 0))))))))) :=
  ⟨OnThreads.f5, 0, .al, 24, 21, 12, 1, 1, 3, 3,
    by (dsimp only [State.quiet, State.ready]) <;> decide +kernel⟩

theorem witness_AccessFaultsEnterWarden_17 : ∃ (s : State) (t : ThreadId) (c : Cond) (rd ra rb : Reg) (imm : BitVec 10) (sr slot tg : BitVec 4),
    s.ready t ∧ (let x := s.thr t; (condHolds x c ra = true) ∧ (condHolds x c 0 = true) ∧ (x.ent = false) ∧
    (s.flag (F.EVT_TENT_VALID t.val) = true) ∧ (let b := x.get ra; (let w := x.get rd;
    (let at' (n : Nat) : Word := b.data + BitVec.ofInt 32 (n * imm.toInt); (let barred (a : Word) : Bool := !x.mode && inRegs a.toNat;
    (b.tag = .addr) ∧ (let a : Word := (at' 2); (barred a = false) ∧ (w.tag = .void))))))) :=
  ⟨OnThreads.f5, 0, .al, 24, 21, 12, 1, 1, 3, 3,
    by (dsimp only [State.quiet, State.ready]) <;> decide +kernel⟩

theorem witness_AccessFaultsEnterWarden_18 : ∃ (s : State) (t : ThreadId) (c : Cond) (rd ra rb : Reg) (imm : BitVec 10) (sr slot tg : BitVec 4),
    s.ready t ∧ (let x := s.thr t; (condHolds x c ra = true) ∧ (condHolds x c 0 = true) ∧ (x.ent = false) ∧
    (s.flag (F.EVT_TENT_VALID t.val) = true) ∧ (let b := x.get ra; (let w := x.get rd;
    (let at' (n : Nat) : Word := b.data + BitVec.ofInt 32 (n * imm.toInt); (let barred (a : Word) : Bool := !x.mode && inRegs a.toNat;
    (b.tag = .addr) ∧ (let a : Word := (at' 1); (barred a = false) ∧ (w.tag = .void))))))) :=
  ⟨OnThreads.f5, 0, .al, 24, 21, 12, 1, 1, 3, 3,
    by (dsimp only [State.quiet, State.ready]) <;> decide +kernel⟩

theorem witness_AccessFaultsEnterWarden_19 : ∃ (s : State) (t : ThreadId) (c : Cond) (rd ra rb : Reg) (imm : BitVec 10) (sr slot tg : BitVec 4),
    s.ready t ∧ (let x := s.thr t; (condHolds x c ra = true) ∧ (condHolds x c 0 = true) ∧ (x.ent = false) ∧
    (s.flag (F.EVT_TENT_VALID t.val) = true) ∧ (let b := x.get ra; (let k := x.get rb; (let w := x.get rd;
    (let barred (a : Word) : Bool := !x.mode && inRegs a.toNat;
    (let keyOff (n : Nat) (a : Word) : Bool := w.tag == .key && (n < 4 || inRegs a.toNat || Region.gnss.holds a.toNat); (b.tag = .addr) ∧
    (k.tag = .int) ∧ (let n : Nat := 4; (let a : Word := (b.data + k.data); (barred a = false) ∧ (keyOff n a = false) ∧
    (n = 4 ∨ w.tag ≠ .void) ∧ (a.toNat % n ≠ 0))))))))) :=
  ⟨OnThreads.f5, 0, .al, 24, 21, 12, 1, 1, 3, 3,
    by (dsimp only [State.quiet, State.ready]) <;> decide +kernel⟩

theorem witness_AccessFaultsEnterWarden_20 : ∃ (s : State) (t : ThreadId) (c : Cond) (rd ra rb : Reg) (imm : BitVec 10) (sr slot tg : BitVec 4),
    s.ready t ∧ (let x := s.thr t; (condHolds x c ra = true) ∧ (condHolds x c 0 = true) ∧ (x.ent = false) ∧
    (s.flag (F.EVT_TENT_VALID t.val) = true) ∧ (let b := x.get ra; (x.mode = true ∨ sr ≠ 1) ∧ (b.tag ≠ .int))) :=
  ⟨OnThreads.f5, 0, .al, 24, 21, 12, 1, 1, 3, 3,
    by (dsimp only [State.quiet, State.ready]) <;> decide +kernel⟩

theorem witness_AccessFaultsEnterWarden_21 : ∃ (s : State) (t : ThreadId) (c : Cond) (rd ra rb : Reg) (imm : BitVec 10) (sr slot tg : BitVec 4),
    s.ready t ∧ (let x := s.thr t; (condHolds x c ra = true) ∧ (condHolds x c 0 = true) ∧ (x.ent = false) ∧
    (s.flag (F.EVT_TENT_VALID t.val) = true) ∧ (let b := x.get ra; (let at' (n : Nat) : Word := b.data + BitVec.ofInt 32 (n * imm.toInt);
    (let barred (a : Word) : Bool := !x.mode && inRegs a.toNat; (b.tag = .addr) ∧ (let a : Word := (at' 4); (barred a = true)))))) :=
  ⟨OnThreads.f5u, 0, .al, 8, 20, 12, 0, 1, 3, 3,
    by (dsimp only [State.quiet, State.ready]) <;> decide +kernel⟩

theorem witness_AccessFaultsEnterWarden_22 : ∃ (s : State) (t : ThreadId) (c : Cond) (rd ra rb : Reg) (imm : BitVec 10) (sr slot tg : BitVec 4),
    s.ready t ∧ (let x := s.thr t; (condHolds x c ra = true) ∧ (condHolds x c 0 = true) ∧ (x.ent = false) ∧
    (s.flag (F.EVT_TENT_VALID t.val) = true) ∧ (let b := x.get ra; (let at' (n : Nat) : Word := b.data + BitVec.ofInt 32 (n * imm.toInt);
    (let barred (a : Word) : Bool := !x.mode && inRegs a.toNat; (b.tag = .addr) ∧ (let a : Word := (at' 2); (barred a = true)))))) :=
  ⟨OnThreads.f5u, 0, .al, 8, 20, 12, 0, 1, 3, 3,
    by (dsimp only [State.quiet, State.ready]) <;> decide +kernel⟩

theorem witness_AccessFaultsEnterWarden_23 : ∃ (s : State) (t : ThreadId) (c : Cond) (rd ra rb : Reg) (imm : BitVec 10) (sr slot tg : BitVec 4),
    s.ready t ∧ (let x := s.thr t; (condHolds x c ra = true) ∧ (condHolds x c 0 = true) ∧ (x.ent = false) ∧
    (s.flag (F.EVT_TENT_VALID t.val) = true) ∧ (let b := x.get ra; (let at' (n : Nat) : Word := b.data + BitVec.ofInt 32 (n * imm.toInt);
    (let barred (a : Word) : Bool := !x.mode && inRegs a.toNat; (b.tag = .addr) ∧ (let a : Word := (at' 1); (barred a = true)))))) :=
  ⟨OnThreads.f5u, 0, .al, 8, 20, 12, 0, 1, 3, 3,
    by (dsimp only [State.quiet, State.ready]) <;> decide +kernel⟩

theorem witness_AccessFaultsEnterWarden_24 : ∃ (s : State) (t : ThreadId) (c : Cond) (rd ra rb : Reg) (imm : BitVec 10) (sr slot tg : BitVec 4),
    s.ready t ∧ (let x := s.thr t; (condHolds x c ra = true) ∧ (condHolds x c 0 = true) ∧ (x.ent = false) ∧
    (s.flag (F.EVT_TENT_VALID t.val) = true) ∧ (let b := x.get ra; (let k := x.get rb;
    (let barred (a : Word) : Bool := !x.mode && inRegs a.toNat; (b.tag = .addr) ∧ (barred (b.data + k.data) = true))))) :=
  ⟨OnThreads.f5u, 0, .al, 8, 20, 12, 0, 1, 3, 3,
    by (dsimp only [State.quiet, State.ready]) <;> decide +kernel⟩

theorem witness_AccessFaultsEnterWarden_25 : ∃ (s : State) (t : ThreadId) (c : Cond) (rd ra rb : Reg) (imm : BitVec 10) (sr slot tg : BitVec 4),
    s.ready t ∧ (let x := s.thr t; (condHolds x c ra = true) ∧ (condHolds x c 0 = true) ∧ (x.ent = false) ∧
    (s.flag (F.EVT_TENT_VALID t.val) = true) ∧ (let b := x.get ra; (let k := x.get rb;
    (let barred (a : Word) : Bool := !x.mode && inRegs a.toNat; (b.tag = .addr) ∧ (k.tag = .int) ∧ (let a : Word := (b.data + k.data);
    (barred a = true)))))) :=
  ⟨OnThreads.f5u, 0, .al, 8, 20, 12, 0, 1, 3, 3,
    by (dsimp only [State.quiet, State.ready]) <;> decide +kernel⟩

theorem witness_AccessFaultsEnterWarden_26 : ∃ (s : State) (t : ThreadId) (c : Cond) (rd ra rb : Reg) (imm : BitVec 10) (sr slot tg : BitVec 4),
    s.ready t ∧ (let x := s.thr t; (condHolds x c ra = true) ∧ (condHolds x c 0 = true) ∧ (x.ent = false) ∧
    (s.flag (F.EVT_TENT_VALID t.val) = true) ∧ (let b := x.get ra; (let w := x.get rd;
    (let at' (n : Nat) : Word := b.data + BitVec.ofInt 32 (n * imm.toInt); (let barred (a : Word) : Bool := !x.mode && inRegs a.toNat;
    (let keyOff (n : Nat) (a : Word) : Bool := w.tag == .key && (n < 4 || inRegs a.toNat || Region.gnss.holds a.toNat); (b.tag = .addr) ∧
    (let n : Nat := 4; (let a : Word := (at' 4); (barred a = false) ∧ (keyOff n a = true))))))))) :=
  ⟨OnThreads.f5, 0, .al, 8, 20, 12, 0, 1, 3, 3,
    by (dsimp only [State.quiet, State.ready]) <;> decide +kernel⟩

theorem witness_AccessFaultsEnterWarden_27 : ∃ (s : State) (t : ThreadId) (c : Cond) (rd ra rb : Reg) (imm : BitVec 10) (sr slot tg : BitVec 4),
    s.ready t ∧ (let x := s.thr t; (condHolds x c ra = true) ∧ (condHolds x c 0 = true) ∧ (x.ent = false) ∧
    (s.flag (F.EVT_TENT_VALID t.val) = true) ∧ (let b := x.get ra; (let w := x.get rd;
    (let at' (n : Nat) : Word := b.data + BitVec.ofInt 32 (n * imm.toInt); (let barred (a : Word) : Bool := !x.mode && inRegs a.toNat;
    (let keyOff (n : Nat) (a : Word) : Bool := w.tag == .key && (n < 4 || inRegs a.toNat || Region.gnss.holds a.toNat); (b.tag = .addr) ∧
    (let n : Nat := 2; (let a : Word := (at' 2); (barred a = false) ∧ (keyOff n a = true))))))))) :=
  ⟨OnThreads.f5, 0, .al, 8, 20, 12, 0, 1, 3, 3,
    by (dsimp only [State.quiet, State.ready]) <;> decide +kernel⟩

theorem witness_AccessFaultsEnterWarden_28 : ∃ (s : State) (t : ThreadId) (c : Cond) (rd ra rb : Reg) (imm : BitVec 10) (sr slot tg : BitVec 4),
    s.ready t ∧ (let x := s.thr t; (condHolds x c ra = true) ∧ (condHolds x c 0 = true) ∧ (x.ent = false) ∧
    (s.flag (F.EVT_TENT_VALID t.val) = true) ∧ (let b := x.get ra; (let w := x.get rd;
    (let at' (n : Nat) : Word := b.data + BitVec.ofInt 32 (n * imm.toInt); (let barred (a : Word) : Bool := !x.mode && inRegs a.toNat;
    (let keyOff (n : Nat) (a : Word) : Bool := w.tag == .key && (n < 4 || inRegs a.toNat || Region.gnss.holds a.toNat); (b.tag = .addr) ∧
    (let n : Nat := 1; (let a : Word := (at' 1); (barred a = false) ∧ (keyOff n a = true))))))))) :=
  ⟨OnThreads.f5, 0, .al, 8, 20, 12, 0, 1, 3, 3,
    by (dsimp only [State.quiet, State.ready]) <;> decide +kernel⟩

theorem witness_AccessFaultsEnterWarden_29 : ∃ (s : State) (t : ThreadId) (c : Cond) (rd ra rb : Reg) (imm : BitVec 10) (sr slot tg : BitVec 4),
    s.ready t ∧ (let x := s.thr t; (condHolds x c ra = true) ∧ (condHolds x c 0 = true) ∧ (x.ent = false) ∧
    (s.flag (F.EVT_TENT_VALID t.val) = true) ∧ (let b := x.get ra; (let k := x.get rb; (let w := x.get rd;
    (let barred (a : Word) : Bool := !x.mode && inRegs a.toNat;
    (let keyOff (n : Nat) (a : Word) : Bool := w.tag == .key && (n < 4 || inRegs a.toNat || Region.gnss.holds a.toNat); (b.tag = .addr) ∧
    (k.tag = .int) ∧ (let n : Nat := 4; (let a : Word := (b.data + k.data); (barred a = false) ∧ (keyOff n a = true))))))))) :=
  ⟨OnThreads.f5, 0, .al, 8, 20, 12, 0, 1, 3, 3,
    by (dsimp only [State.quiet, State.ready]) <;> decide +kernel⟩

theorem witness_AccessFaultsEnterWarden_30 : ∃ (s : State) (t : ThreadId) (c : Cond) (rd ra rb : Reg) (imm : BitVec 10) (sr slot tg : BitVec 4),
    s.ready t ∧ (let x := s.thr t; (condHolds x c ra = true) ∧ (condHolds x c 0 = true) ∧ (x.ent = false) ∧
    (s.flag (F.EVT_TENT_VALID t.val) = true) ∧ (let b := x.get ra; (let k := x.get rb; (b.tag = .addr) ∧ (k.tag ≠ .int) ∧
    (let barred (a : Word) : Bool := !x.mode && inRegs a.toNat; (barred (b.data + k.data) = false))))) :=
  ⟨OnThreads.f5, 0, .al, 9, 3, 4, 0, 0, 3, 3,
    by (dsimp only [State.quiet, State.ready]) <;> decide +kernel⟩

theorem witness_AccessFaultsEnterWarden_31 : ∃ (s : State) (t : ThreadId) (c : Cond) (rd ra rb : Reg) (imm : BitVec 10) (sr slot tg : BitVec 4),
    s.ready t ∧ (let x := s.thr t; (condHolds x c ra = true) ∧ (condHolds x c 0 = true) ∧ (x.ent = false) ∧
    (s.flag (F.EVT_TENT_VALID t.val) = true) ∧ (let b := x.get ra; (b.tag ≠ .addr) ∧ (tagNames tg = true) ∧
    (x.mode = true ∨ ¬ (tagNames tg = true ∧ (tagOf tg.toNat = .addr ∨ tagOf tg.toNat = .code))) ∧ (b.tag = .key))) :=
  ⟨OnThreads.f5, 0, .al, 9, 8, 4, 0, 0, 3, 2,
    by (dsimp only [State.quiet, State.ready]) <;> decide +kernel⟩

theorem witness_AccessFaultsEnterWarden_32 : ∃ (s : State) (t : ThreadId) (c : Cond) (rd ra rb : Reg) (imm : BitVec 10) (sr slot tg : BitVec 4),
    s.ready t ∧ (let x := s.thr t; (condHolds x c ra = true) ∧ (condHolds x c 0 = true) ∧ (x.ent = false) ∧
    (s.flag (F.EVT_TENT_VALID t.val) = true) ∧ (let b := x.get ra; (let at' (n : Nat) : Word := b.data + BitVec.ofInt 32 (n * imm.toInt);
    (b.tag = .addr) ∧ (let n : Nat := 1; (let a : Word := (at' 1); (a.toNat % n = 0) ∧ (s.thrRead x.issued (ownBurst t) a.toNat n = .ok) ∧
    (plainRam a.toNat = true) ∧ (s.crosses t (wordAddr a.toNat) = s) ∧ (s.mem.tag a.toNat = .key)))))) :=
  ⟨OnThreads.f5k, 0, .al, 9, 21, 11, 3, 0, 3, 3,
    by (dsimp only [State.quiet, State.ready]) <;> decide +kernel⟩

theorem witness_AccessFaultsEnterWarden_33 : ∃ (s : State) (t : ThreadId) (c : Cond) (rd ra rb : Reg) (imm : BitVec 10) (sr slot tg : BitVec 4),
    s.ready t ∧ (let x := s.thr t; (condHolds x c ra = true) ∧ (condHolds x c 0 = true) ∧ (x.ent = false) ∧
    (s.flag (F.EVT_TENT_VALID t.val) = true) ∧ (let b := x.get ra; (let w := x.get rd;
    (let at' (n : Nat) : Word := b.data + BitVec.ofInt 32 (n * imm.toInt); (let barred (a : Word) : Bool := !x.mode && inRegs a.toNat;
    (let keyOff (n : Nat) (a : Word) : Bool := w.tag == .key && (n < 4 || inRegs a.toNat || Region.gnss.holds a.toNat); (b.tag = .addr) ∧
    (let n : Nat := 2; (let a : Word := (at' 2); (barred a = false) ∧ (keyOff n a = false) ∧ (n = 4 ∨ w.tag ≠ .void) ∧
    (a.toNat % n ≠ 0))))))))) :=
  ⟨OnThreads.f5k, 0, .al, 9, 21, 11, 3, 0, 3, 3,
    by (dsimp only [State.quiet, State.ready]) <;> decide +kernel⟩

theorem witness_AccessFaultsEnterWarden_34 : ∃ (s : State) (t : ThreadId) (c : Cond) (rd ra rb : Reg) (imm : BitVec 10) (sr slot tg : BitVec 4),
    s.ready t ∧ (let x := s.thr t; (condHolds x c ra = true) ∧ (condHolds x c 0 = true) ∧ (x.ent = false) ∧
    (s.flag (F.EVT_TENT_VALID t.val) = true) ∧ (let b := x.get ra; (let k := x.get rb; (b.tag = .int) ∧ (k.tag ≠ .int)))) :=
  ⟨OnThreads.f5, 0, .al, 9, 1, 4, 0, 0, 3, 2,
    by (dsimp only [State.quiet, State.ready]) <;> decide +kernel⟩

theorem witness_AccessFaultsEnterWarden_35 : ∃ (s : State) (t : ThreadId) (c : Cond) (rd ra rb : Reg) (imm : BitVec 10) (sr slot tg : BitVec 4),
    s.ready t ∧ (let x := s.thr t; (condHolds x c ra = true) ∧ (condHolds x c 0 = true) ∧ (x.ent = false) ∧
    (s.flag (F.EVT_TENT_VALID t.val) = true) ∧ (let b := x.get ra; (b.tag = .code) ∧ (b.data.toNat % 4 ≠ 0))) :=
  ⟨(OnThreads.f5.rg 0 [(5, ⟨0x08000102, .code⟩)]), 0, .al, 9, 5, 4, 0, 0, 3, 3,
    by (dsimp only [State.quiet, State.ready]) <;> decide +kernel⟩

theorem witness_AccessFaultsEnterWarden_36 : ∃ (s : State) (t : ThreadId) (c : Cond) (rd ra rb : Reg) (imm : BitVec 10) (sr slot tg : BitVec 4),
    s.ready t ∧ (let x := s.thr t; (condHolds x c ra = true) ∧ (condHolds x c 0 = true) ∧ (x.ent = false) ∧
    (s.flag (F.EVT_TENT_VALID t.val) = true) ∧ (let b := x.get ra; (let at' (n : Nat) : Word := b.data + BitVec.ofInt 32 (n * imm.toInt);
    (b.tag = .addr) ∧ (let n : Nat := 2; (let a : Word := (at' 2); (a.toNat % n = 0) ∧ (s.thrRead x.issued (ownBurst t) a.toNat n = .ok) ∧
    (plainRam a.toNat = true) ∧ (s.crosses t (wordAddr a.toNat) = s) ∧ (s.mem.tag a.toNat = .key)))))) :=
  ⟨OnThreads.f5k, 0, .al, 9, 3, 11, 2, 0, 3, 3,
    by (dsimp only [State.quiet, State.ready]) <;> decide +kernel⟩

/-! ### BranchesSetPc -/

theorem witness_BranchesSetPc : ∃ (s : State) (t : ThreadId) (c : Cond) (rd ra : Reg) (off : BitVec 20),
    s.ready t ∧ (let x := s.thr t; (condHolds x c ⟨(off.extractLsb' 15 5).toNat, (off.extractLsb' 15 5).isLt⟩ = true) ∧
    (condHolds x c ra = true) ∧ ((x.get ra).tag = .code) ∧ ((x.get ra).data.toNat % 4 = 0)) :=
  ⟨OnThreads.f1, 0, .al, 1, 5, 0xFFFFF,
    by (dsimp only [State.quiet, State.ready]) <;> decide +kernel⟩

/-! ### SysAndReturn -/

theorem witness_SysAndReturn_1 : ∃ (s : State) (t : ThreadId) (c : Cond) (imm : BitVec 15),
    s.ready t ∧ (condHolds (s.thr t) c 0 = true) ∧ (let x := s.thr t; (x.ent = true ∨ s.flag (F.EVT_TENT_VALID t.val) = false) ∧
    (s.fld F.EVT_FROUTE_TMASK = 0) ∧ (s.flag F.CIP_LOCK_HELD = false) ∧ (x.mode = true)) :=
  ⟨OnThreads.f1t, 0, .al, 5,
    by (dsimp only [State.quiet, State.ready]) <;> decide +kernel⟩

theorem witness_SysAndReturn_2 : ∃ (s : State) (t : ThreadId) (c : Cond) (imm : BitVec 15),
    s.ready t ∧ (condHolds (s.thr t) c 0 = true) ∧ (let x := s.thr t; (x.ent = false) ∧ (s.flag (F.EVT_TENT_VALID t.val) = true) ∧
    (x.mode = false)) :=
  ⟨OnThreads.f1un, 0, .al, 5,
    by (dsimp only [State.quiet, State.ready]) <;> decide +kernel⟩

/-! ### WaitAndSend -/

theorem witness_WaitAndWake_1 : ∃ (s : State) (t : ThreadId) (c : Cond) (rd ra : Reg),
    s.quiet ∧ (let x := s.thr t; (let m := (x.get ra).data; s.ready t ∧ (condHolds x c ra = true) ∧ ((x.get ra).tag = .int) ∧
    (x.pend &&& m ≠ 0))) :=
  ⟨OnThreads.f1p, 0, .al, 20, 2,
    by (dsimp only [State.quiet, State.ready]) <;> decide +kernel⟩

theorem witness_WaitAndWake_2 : ∃ (s : State) (t : ThreadId) (c : Cond) (rd ra : Reg),
    s.quiet ∧ (let x := s.thr t; (let m := (x.get ra).data; s.ready t ∧ (condHolds x c ra = true) ∧ ((x.get ra).tag = .int) ∧
    (x.pend &&& m = 0))) :=
  ⟨OnThreads.f1e, 0, .al, 20, 2,
    by (dsimp only [State.quiet, State.ready]) <;> decide +kernel⟩

theorem witness_WaitAndWake_3 : ∃ (s : State) (t : ThreadId) (c : Cond) (rd ra : Reg),
    s.quiet ∧ (let x := s.thr t; (s.coreRuns t = true) ∧ (x.st = .wait) ∧ (x.pend &&& x.wmask ≠ 0)) :=
  ⟨OnThreads.f1w, 0, .al, 20, 2,
    by (dsimp only [State.quiet]) <;> decide +kernel⟩

theorem witness_SendSetsPending_1 : ∃ (s : State) (t v : ThreadId) (c : Cond) (rd ra rb : Reg),
    s.ready t ∧ (condHolds (s.thr t) c ra = true) ∧ (((s.thr t).get ra).tag = .int) ∧ (((s.thr t).get rb).tag = .int) ∧
    (let x := s.thr t; (let bits := (x.get rb).data &&& 0xFF000000;
    (let free (u : ThreadId) : Prop := ((s.thr u).st = .run ∨ (s.thr u).st = .wait) ∧ (u.val < 8 ∨ s.lit .burst = true);
    ((x.get ra).data.toNat = v.val) ∧ free v ∧ (bits ≠ 0)))) :=
  ⟨OnThreads.f3, 0, 1, .al, 20, 1, 2,
    by (dsimp only [State.quiet, State.ready]) <;> decide +kernel⟩

theorem witness_SendSetsPending_2 : ∃ (s : State) (t v : ThreadId) (c : Cond) (rd ra rb : Reg),
    s.ready t ∧ (condHolds (s.thr t) c ra = true) ∧ (((s.thr t).get ra).tag = .int) ∧ (((s.thr t).get rb).tag = .int) ∧
    (let x := s.thr t; (let bits := (x.get rb).data &&& 0xFF000000;
    (let free (u : ThreadId) : Prop := ((s.thr u).st = .run ∨ (s.thr u).st = .wait) ∧ (u.val < 8 ∨ s.lit .burst = true);
    (bits = 0 ∨ 10 ≤ (x.get ra).data.toNat ∨ ((x.get ra).data.toNat = v.val ∧ ¬ free v))))) :=
  ⟨OnThreads.f3, 0, 1, .al, 20, 1, 12,
    by (dsimp only [State.quiet, State.ready]) <;> decide +kernel⟩

/-! ### SpecialRegisters -/

theorem witness_SpecialRegisters_1 : ∃ (s : State) (t : ThreadId) (c : Cond) (rd ra : Reg) (sr slot : BitVec 4),
    s.ready t ∧ (let x := s.thr t; (condHolds x c 0 = true) ∧ (x.mode = true) ∧ (condHolds x c ra = true) ∧ ((x.get ra).tag = .int) ∧
    ((sr = 1 → x.mode = true))) :=
  ⟨OnThreads.f1e, 0, .al, 0, 1, 0, 5,
    by (dsimp only [State.quiet, State.ready]) <;> decide +kernel⟩

theorem witness_SpecialRegisters_2 : ∃ (s : State) (t : ThreadId) (c : Cond) (rd ra : Reg) (sr slot : BitVec 4),
    s.ready t ∧ (let x := s.thr t; (x.mode = false) ∧ (x.ent = false) ∧ (s.flag (F.EVT_TENT_VALID t.val) = true) ∧
    (let i : Instr := .mkkey t c rd slot; (condHolds x c (match i with | .mkkey _ _ _ _ => 0 | _ => ra) = true))) :=
  ⟨OnThreads.f1u, 0, .al, 0, 1, 0, 5,
    by (dsimp only [State.quiet, State.ready]) <;> decide +kernel⟩

/-! ### BlockInstructionsStepByChunk -/

theorem witness_BlockInstructionsStepByChunk_1 : ∃ (s : State) (t : ThreadId) (c : Cond) (rd ra rb : Reg),
    s.ready t ∧ ((s.thr t).bip = true ∨ condHolds (s.thr t) c ra = true) ∧ (let x := s.thr t; (let d := x.get rd; (let a := x.get ra;
    (let cnt := (x.get rb).data.toNat; (let n := min cnt 64; ((x.get rb).tag = .int) ∧ (cnt % 4 = 0) ∧ (0 < cnt) ∧
    (let free (p : Nat) : Prop := p % 4 = 0 ∧ 0x20000000 ≤ p ∧ p + n ≤ 0x20100000 ∧ ∀ q, p ≤ q → q < p + n → s.mem.parityBad q = false ∧
        s.watched (wordAddr q) = none ∧ s.crosses t q = s; (d.tag = .addr) ∧ (a.tag = .addr) ∧ free d.data.toNat ∧ free a.data.toNat ∧
    (a.tag ≠ .key))))))) :=
  ⟨OnThreads.f4, 0, .al, 10, 3, 11,
    by (dsimp only [State.quiet, State.ready]) <;> decide +kernel⟩

theorem witness_BlockInstructionsStepByChunk_2 : ∃ (s : State) (t : ThreadId) (c : Cond) (rd ra rb : Reg),
    s.ready t ∧ ((s.thr t).bip = true ∨ condHolds (s.thr t) c ra = true) ∧ (let x := s.thr t; (let d := x.get rd; (let a := x.get ra;
    (let cnt := (x.get rb).data.toNat; (let n := min cnt 64; ((x.get rb).tag = .int) ∧ (cnt % 4 = 0) ∧ (0 < cnt) ∧
    (let free (p : Nat) : Prop := p % 4 = 0 ∧ 0x20000000 ≤ p ∧ p + n ≤ 0x20100000 ∧ ∀ q, p ≤ q → q < p + n → s.mem.parityBad q = false ∧
        s.watched (wordAddr q) = none ∧ s.crosses t q = s; ((d.tag = .int ∨ d.tag = .raw)) ∧ (a.tag = .addr) ∧ free a.data.toNat ∧
    ((∀ k, k < n / 4 → s.mem.tag (a.data.toNat + 4 * k) ≠ .key)))))))) :=
  ⟨OnThreads.f4, 0, .al, 1, 3, 11,
    by (dsimp only [State.quiet, State.ready]) <;> decide +kernel⟩

theorem witness_BlockInstructionsStepByChunk_3 : ∃ (s : State) (t : ThreadId) (c : Cond) (rd ra rb : Reg),
    s.ready t ∧ ((s.thr t).bip = true ∨ condHolds (s.thr t) c ra = true) ∧ (let x := s.thr t; (let d := x.get rd; (let a := x.get ra;
    (let cnt := (x.get rb).data.toNat; (let n := min cnt 64; ((x.get rb).tag = .int) ∧ (cnt % 4 = 0) ∧ (0 < cnt) ∧
    (let free (p : Nat) : Prop := p % 4 = 0 ∧ 0x20000000 ≤ p ∧ p + n ≤ 0x20100000 ∧ ∀ q, p ≤ q → q < p + n → s.mem.parityBad q = false ∧
        s.watched (wordAddr q) = none ∧ s.crosses t q = s; (d.tag = .addr) ∧ (a.tag = .int) ∧ (tagNames (a.data.setWidth 4) = true) ∧
    ((x.mode = true ∨ (tagOf (a.data.setWidth 4).toNat ≠ .addr ∧ tagOf (a.data.setWidth 4).toNat ≠ .code))) ∧ free d.data.toNat ∧
    ((∀ k, k < n / 4 → s.mem.tag (d.data.toNat + 4 * k) ≠ .key)))))))) :=
  ⟨OnThreads.f4, 0, .al, 3, 15, 14,
    by (dsimp only [State.quiet, State.ready]) <;> decide +kernel⟩

/-! ### PairedHalvesAndShorts -/

theorem witness_PairedHalvesReadFirst : ∃ (s : State) (t : ThreadId),
    s.ready t :=
  ⟨OnThreads.f1, 0,
    by (dsimp only [State.quiet, State.ready]) <;> decide +kernel⟩

/-- Two register halves with bit 31 set, neither a load nor a store. -/
theorem witness_PairedHalvesReadFirst_pair : ∃ (s : State) (t : ThreadId) (w : Word) (a b : Short) (ea eb : HalfFx),
    s.ready t ∧ w.msb = true ∧ decodeWord t w = .pair a b ∧ ((s.clearBip t).half (s.thr t).issued t a).1 = .fx ea ∧ ((s.clearBip t).half (s.thr t).issued t b).1 = .fx eb ∧
    (∀ d k n, a ≠ .ldw d k n ∧ b ≠ .ldw d k n) ∧ ea.store = none ∧ eb.store = none :=
  ⟨OnThreads.f1, 0, wordPair (.add 1 2) (.add 2 1), .add 1 2, .add 2 1, _, _, by dsimp only [State.ready, State.quiet]; decide +kernel,
    by decide +kernel, by decide +kernel, rfl, rfl, by simp, rfl, rfl⟩

theorem witness_ShortOperations_1 : ∃ (s : State) (t : ThreadId) (d r : SReg) (i6 : BitVec 6) (sh : BitVec 5) (k : BitVec 2) (c : Cond) (off : BitVec 10) (first : Bool),
    s.ready t ∧ (let x := s.thr t; (let b := x.get (wide r); ((b.tag = .int ∨ b.tag = .raw)) ∧ (let a := x.get (wide d);
    (tagCmp a.tag b.tag = true) ∧ (¬(a.tag = b.tag ∧ (a.tag = .seq ∨ a.tag = .time))) ∧ (tagCmp a.tag .int = true) ∧
    (tagTst a.tag b.tag = true) ∧ (c ≠ .tv)))) :=
  ⟨OnThreads.f1e, 0, 1, 2, 0x3F, 31, 0, .eq, 0x155, true,
    by (dsimp only [State.quiet, State.ready]) <;> decide +kernel⟩

theorem witness_ShortOperations_2 : ∃ (s : State) (t : ThreadId) (d r : SReg) (i6 : BitVec 6) (sh : BitVec 5) (k : BitVec 2) (c : Cond) (off : BitVec 10) (first : Bool),
    s.ready t ∧ (let x := s.thr t; (let a := x.get (wide d); (let b := x.get (wide r); (let g : Option Tag := (tagAdd a.tag b.tag);
    (g).isSome = true)))) :=
  ⟨OnThreads.f1e, 0, 1, 2, 0x3F, 31, 0, .eq, 0x155, true,
    by (dsimp only [State.quiet, State.ready]) <;> decide +kernel⟩

theorem witness_ShortOperations_3 : ∃ (s : State) (t : ThreadId) (d r : SReg) (i6 : BitVec 6) (sh : BitVec 5) (k : BitVec 2) (c : Cond) (off : BitVec 10) (first : Bool),
    s.ready t ∧ (let x := s.thr t; (let a := x.get (wide d); (let b := x.get (wide r); (let g : Option Tag := (tagSub a.tag b.tag);
    (g).isSome = true)))) :=
  ⟨OnThreads.f1e, 0, 1, 2, 0x3F, 31, 0, .eq, 0x155, true,
    by (dsimp only [State.quiet, State.ready]) <;> decide +kernel⟩

theorem witness_ShortOperations_4 : ∃ (s : State) (t : ThreadId) (d r : SReg) (i6 : BitVec 6) (sh : BitVec 5) (k : BitVec 2) (c : Cond) (off : BitVec 10) (first : Bool),
    s.ready t ∧ (let x := s.thr t; (let a := x.get (wide d); (let b := x.get (wide r); (let g : Option Tag := (tagAnd a.tag b.tag);
    (g).isSome = true)))) :=
  ⟨OnThreads.f1e, 0, 1, 2, 0x3F, 31, 0, .eq, 0x155, true,
    by (dsimp only [State.quiet, State.ready]) <;> decide +kernel⟩

theorem witness_ShortOperations_5 : ∃ (s : State) (t : ThreadId) (d r : SReg) (i6 : BitVec 6) (sh : BitVec 5) (k : BitVec 2) (c : Cond) (off : BitVec 10) (first : Bool),
    s.ready t ∧ (let x := s.thr t; (let a := x.get (wide d); (let b := x.get (wide r); (let g : Option Tag := (tagOr a.tag b.tag);
    (g).isSome = true)))) :=
  ⟨OnThreads.f1e, 0, 1, 2, 0x3F, 31, 0, .eq, 0x155, true,
    by (dsimp only [State.quiet, State.ready]) <;> decide +kernel⟩

theorem witness_ShortOperations_6 : ∃ (s : State) (t : ThreadId) (d r : SReg) (i6 : BitVec 6) (sh : BitVec 5) (k : BitVec 2) (c : Cond) (off : BitVec 10) (first : Bool),
    s.ready t ∧ (let x := s.thr t; (let a := x.get (wide d); (let g : Option Tag := (tagAdd a.tag .int); (g).isSome = true))) :=
  ⟨OnThreads.f1e, 0, 1, 2, 0x3F, 31, 0, .eq, 0x155, true,
    by (dsimp only [State.quiet, State.ready]) <;> decide +kernel⟩

theorem witness_ShortOperations_7 : ∃ (s : State) (t : ThreadId) (d r : SReg) (i6 : BitVec 6) (sh : BitVec 5) (k : BitVec 2) (c : Cond) (off : BitVec 10) (first : Bool),
    s.ready t ∧ (let x := s.thr t; (let a := x.get (wide d); (let g : Option Tag := (tagShift a.tag .int); (g).isSome = true))) :=
  ⟨OnThreads.f1e, 0, 1, 2, 0x3F, 31, 0, .eq, 0x155, true,
    by (dsimp only [State.quiet, State.ready]) <;> decide +kernel⟩

theorem witness_ShortOperations_8 : ∃ (s : State) (t : ThreadId) (d r : SReg) (i6 : BitVec 6) (sh : BitVec 5) (k : BitVec 2) (c : Cond) (off : BitVec 10) (first : Bool),
    s.ready t ∧ (let x := s.thr t; (let b := x.get (wide r); (let p := effAddr b.data (BitVec.ofNat 32 (4 * k.toNat)); ((b.tag = .addr ∧
    p % 4 = 0 ∧ s.crosses t p = s)) ∧ ((plainRam p || Region.rom.holds p) = true) ∧ (s.thrRead x.issued (ownBurst t) p 4 = .ok) ∧
    (plainRam p = true) ∧ (s.thrWrite x.issued (ownBurst t) p 4 = .ok) ∧ (s.watched p = none) ∧ (let q : Nat := p + 4; (q < p ∨ p + 4 ≤ q) ∧
    (let a := x.get (wide d); (x.ent = false) ∧ (s.flag (F.EVT_TENT_VALID t.val) = true) ∧ (tagAdd a.tag b.tag = none) ∧
    (let o : Short := .nop; ((∀ z, o ≠ .bc .tv z)))))))) :=
  ⟨OnThreads.f1e, 0, 10, 10, 0x3F, 31, 0, .eq, 0x155, true,
    by (dsimp only [State.quiet, State.ready]) <;> decide +kernel⟩

theorem witness_ShortOperations_9 : ∃ (s : State) (t : ThreadId) (d r : SReg) (i6 : BitVec 6) (sh : BitVec 5) (k : BitVec 2) (c : Cond) (off : BitVec 10) (first : Bool),
    s.ready t ∧ (let x := s.thr t; (let a := x.get (wide d); (let b := x.get (wide r); (a.tag = b.tag) ∧ (a.tag = .seq ∨ a.tag = .time)))) :=
  ⟨OnThreads.f1e, 0, 6, 6, 0x3F, 31, 0, .eq, 0x155, true,
    by (dsimp only [State.quiet, State.ready]) <;> decide +kernel⟩

theorem witness_ShortOperations_10 : ∃ (s : State) (t : ThreadId) (d r : SReg) (i6 : BitVec 6) (sh : BitVec 5) (k : BitVec 2) (c : Cond) (off : BitVec 10) (first : Bool),
    s.ready t ∧ (let x := s.thr t; (let b := x.get (wide r); (let B := b.data.toNat; (b.tag = .code) ∧ (B % 4 = 0)))) :=
  ⟨OnThreads.f1e, 0, 1, 5, 0x3F, 31, 0, .eq, 0x155, true,
    by (dsimp only [State.quiet, State.ready]) <;> decide +kernel⟩

/-! ### FetchFaultsAndReservedWords -/

theorem witness_ReservedWordsStayInBounds : ∃ (s : State) (t : ThreadId) (w : Word),
    s.ready t ∧ (decodeWord t w = .reserved) ∧ ((s.thr t).ent = false) ∧ (s.flag (F.EVT_TENT_VALID t.val) = true) :=
  ⟨OnThreads.f1e, 0, 0x7F000000,
    by (dsimp only [State.quiet, State.ready]) <;> decide +kernel⟩

theorem witness_FetchFaultsEnterWarden_1 : ∃ (s : State) (t : ThreadId) (f : FaultCode),
    s.quiet ∧ (s.runs t = true) ∧ ((s.thr t).ent = false) ∧ (s.flag (F.EVT_TENT_VALID t.val) = true) ∧ (let x := s.thr t;
    (let a := wordAddr x.pc.toNat; (s.crosses t a = s) ∧ (x.stopping = false) ∧ (s.fetchStop t = some (.fault f)) ∧
    (let i : Instr := .ldw 0 .ne 7 2 0; (let w : Word := 0x12038800; (decodeLong t w = some i))))) :=
  ⟨(OnThreads.f1e.setThr 0 {OnThreads.f1e.thr 0 with pc := 0x2000200C}), 0, .tagFetch,
    by (dsimp only [State.quiet]) <;> decide +kernel⟩

theorem witness_FetchFaultsEnterWarden_2 : ∃ (s : State) (t : ThreadId) (f : FaultCode),
    s.quiet ∧ (s.runs t = true) ∧ ((s.thr t).ent = false) ∧ (s.flag (F.EVT_TENT_VALID t.val) = true) ∧ (let x := s.thr t;
    (let a := wordAddr x.pc.toNat; (s.crosses t a = s) ∧ (x.stopping = false) ∧ (s.fetchStop t = none) ∧ (inFlash a = true) ∧
    (s.ecc a = .corrected) ∧ (nsMem s.flash.cut (unitOf a) = false))) :=
  ⟨OnThreads.ftc, 0, .nomap,
    by (dsimp only [State.quiet]) <;> decide +kernel⟩

/-! ### RegisterWriteFollowsAccessCodes -/

theorem witness_RegisterWriteFollowsAccessCodes_1 : ∃ (s : State) (t : ThreadId) (addr v : Word),
    s.quiet ∧ (let a := addr.toNat; (s.coreRuns t = true) ∧ (regAddr a = true) ∧ (ownWrite a = false) ∧ ((s.presentMask a ≠ 0)) ∧
    (let c : Cond := .al; (let ra : Reg := 3; (let imm : BitVec 10 := 0; s.ready t ∧ (condHolds (s.thr t) c ra = true) ∧
    (((s.thr t).get ra).tag = .addr) ∧ (effAddr ((s.thr t).get ra).data (BitVec.ofInt 32 (4 * imm.toInt)) = a) ∧ (ownRead a = false) ∧
    (s.thrRead (s.thr t).issued (ownBurst t) a 4 = .ok) ∧ (s.crosses t a = s))))) :=
  ⟨(OnThreads.f1.rg 0 [(3, ⟨0x40001040, .addr⟩)]), 0, 0x40001040, 5,
    by (dsimp only [State.quiet, State.ready]) <;> decide +kernel⟩

theorem witness_RegisterWriteFollowsAccessCodes_2 : ∃ (s : State) (t : ThreadId) (addr v : Word),
    s.quiet ∧ (let a := addr.toNat; (¬ (s.presentMask a ≠ 0))) :=
  ⟨OnRegs.f0.wr [(F.IDN_UNITS_UNITS,0)], 0, 0x4000F000, 5,
    by (dsimp only [State.quiet]) <;> decide +kernel⟩

theorem witness_RegisterWriteFollowsAccessCodes_3 : ∃ (s : State) (t : ThreadId) (addr v : Word),
    s.quiet ∧ (let a := addr.toNat; (let rw := maskOf [.rw] a; (s.coreRuns t = true) ∧ (regAddr a = true) ∧ (ownWrite a = false) ∧
    (maskOf [.rw, .ro, .w1c, .wo, .ws, .lk] a = 0))) :=
  ⟨OnRegs.f0, 0, 0x40001FF0, 5,
    by (dsimp only [State.quiet]) <;> decide +kernel⟩

/-! ### SealsMoveSets -/

theorem witness_SealGoCopiesStagedSet_1 : ∃ (s : State) (b : Blk) (v : Word),
    s.quiet ∧ (s.steadyRuns = true) ∧ (s.blkHere b = true) ∧ (¬ (b = .cnt ∧ s.sealPend .cnt = true ∧ s.countersUp = true ∧
    s.cntCommitDue = true)) :=
  ⟨OnRegs.f0, .ldg, 9,
    by (dsimp only [State.quiet]) <;> decide +kernel⟩

theorem witness_SealGoCopiesStagedSet_2 : ∃ (s : State) (b : Blk) (v : Word),
    s.quiet ∧ (s.steadyRuns = true) ∧ (s.blkHere b = true) ∧ ((b = .cnt ∧ s.sealPend .cnt = true ∧ s.countersUp = true ∧
    s.cntCommitDue = true)) :=
  ⟨OnRegs.sealed1 .cnt, .cnt, 1,
    by (dsimp only [State.quiet]) <;> decide +kernel⟩

theorem witness_SealCommitMakesSetLive_1 : ∃ (s : State) (b : Blk),
    (s.sealPend b = true) ∧ (s.commitDue b = true) ∧ s.quiet ∧ (b ∈ [Blk.ldg, .flc, .csp, .tag, .cip, .rad, .msh, .gns]) ∧
    (s.sealPend .cip = true) ∧ (s.commitDue .cip = true) :=
  ⟨OnRegs.sealed1 .cip, .cip,
    by (dsimp only [State.quiet]) <;> decide +kernel⟩

theorem witness_SealCommitMakesSetLive_2 : ∃ (s : State) (b : Blk),
    s.quiet ∧ (s.sealPend b = false ∨ s.commitDue b = false) ∧ (s.on = true) ∧ s.edgeFree ∧ (s.sealPend .evt = true) :=
  ⟨OnRegs.sealed1 .evt, .ldg,
    by (dsimp only [State.quiet, State.edgeFree]) <;> decide +kernel⟩

theorem witness_SealCommitMakesSetLive_3 : ∃ (s : State) (b : Blk),
    (s.sealPend .cnt = true) ∧ (s.commitDue .cnt = true) :=
  ⟨OnRegs.sealed1 .cnt, .ldg,
    by decide +kernel⟩

/-! ### SweepsAndViews -/

theorem witness_SweepsStart : ∃ (s : State),
    s.quiet ∧ (let L := s.ledger; (s.on = true) ∧ (L.due ≤ s.now) ∧ (s.steadyRuns = true) ∧ (L.waiting = true) ∧ (L.sweep = none)) :=
  ⟨OnRegs.L0 fun l => {l with waiting := true},
    by (dsimp only [State.quiet]) <;> decide +kernel⟩

theorem witness_SweepChecksOneAccount_1 : ∃ (s : State) (k : Nat),
    s.quiet ∧ (s.on = true) ∧ (s.ledger.sweep = some k) ∧ (k < acctList.length) ∧ (let i := acctList.getD k 0; (let a := s.acct i;
    (let bad := nsMem s.ledger.parity i; ((s.acctAbsent i = true ∨ (bad = false ∧ (a.g = a.r + a.h + a.f ∧
    (a.f = 0 ∨ (s.win i).isOpen = true))))) ∧ (k + 1 < acctList.length)))) :=
  ⟨OnRegs.sw0, 3,
    by (dsimp only [State.quiet]) <;> decide +kernel⟩

theorem witness_SweepChecksOneAccount_2 : ∃ (s : State) (k : Nat),
    s.quiet ∧ (s.on = true) ∧ (s.ledger.sweep = some k) ∧ (k < acctList.length) ∧ (let i := acctList.getD k 0; (let a := s.acct i;
    (let bad := nsMem s.ledger.parity i; ((s.acctAbsent i = true ∨ (bad = false ∧ (a.g = a.r + a.h + a.f ∧
    (a.f = 0 ∨ (s.win i).isOpen = true))))) ∧ (k + 1 = acctList.length)))) :=
  ⟨OnRegs.swl, (acctList.length - 1),
    by (dsimp only [State.quiet]) <;> decide +kernel⟩

theorem witness_SweepChecksOneAccount_3 : ∃ (s : State) (k : Nat),
    s.quiet ∧ (s.on = true) ∧ (s.ledger.sweep = some k) ∧ (k < acctList.length) ∧ (let i := acctList.getD k 0; (let a := s.acct i;
    (let bad := nsMem s.ledger.parity i; (s.acctAbsent i = false) ∧ (bad = true ∨ ¬ (a.g = a.r + a.h + a.f ∧
    (a.f = 0 ∨ (s.win i).isOpen = true))) ∧ (s.flag F.LDG_STAT_BREACH = false)))) :=
  ⟨OnRegs.swb3, 3,
    by (dsimp only [State.quiet]) <;> decide +kernel⟩

theorem witness_WindowAgeBreaches_1 : ∃ (s : State) (n : Fin 192),
    s.quiet ∧ (s.on = true) ∧ (let w := s.win n.val; (let span : Bool := 0 < w.span && 1 < s.now - w.spanAt && !w.spanAged;
    (let slot : Bool := 0 < w.slot && 2048 < s.now - w.slotAt && !w.slotAged;
    (let quiesce : Bool := w.quiesce && 65536 < s.now - w.quiesceAt && !w.quiesceAged; ((s.acctAbsent n.val = false ∧
    (span || slot || quiesce) = true)) ∧ (s.flag F.LDG_STAT_BREACH = false) ∧ (s.fld F.LDG_ROUTE_TMASK = 0) ∧
    (s.flag F.LDG_CTL_BRACT = true))))) :=
  ⟨OnRegs.wa 1 0, 5,
    by (dsimp only [State.quiet]) <;> decide +kernel⟩

theorem witness_WindowAgeBreaches_2 : ∃ (s : State) (n : Fin 192),
    s.quiet ∧ (s.on = true) ∧ (let w := s.win n.val; (let span : Bool := 0 < w.span && 1 < s.now - w.spanAt && !w.spanAged;
    (let slot : Bool := 0 < w.slot && 2048 < s.now - w.slotAt && !w.slotAged;
    (let quiesce : Bool := w.quiesce && 65536 < s.now - w.quiesceAt && !w.quiesceAged; ((s.acctAbsent n.val = false ∧
    (span || slot || quiesce) = true)) ∧ (s.flag F.LDG_STAT_BREACH = true))))) :=
  ⟨OnRegs.wa 1 1, 5,
    by (dsimp only [State.quiet]) <;> decide +kernel⟩

theorem witness_WindowAgeBreaches_3 : ∃ (s : State) (n : Fin 192),
    s.quiet ∧ (s.on = true) ∧ (let w := s.win n.val; (let span : Bool := 0 < w.span && 1 < s.now - w.spanAt && !w.spanAged;
    (let slot : Bool := 0 < w.slot && 2048 < s.now - w.slotAt && !w.slotAged;
    (let quiesce : Bool := w.quiesce && 65536 < s.now - w.quiesceAt && !w.quiesceAged; (¬ (s.acctAbsent n.val = false ∧
    (span || slot || quiesce) = true)))))) :=
  ⟨OnRegs.wa 1 1, 6,
    by (dsimp only [State.quiet]) <;> decide +kernel⟩

theorem witness_LedgerViewCapture : ∃ (s : State) (n : BitVec 8),
    s.quiet ∧ (s.steadyRuns = true) ∧ ((s.acct n.toNat).fits = true) :=
  ⟨OnRegs.wa 0 0, 5,
    by (dsimp only [State.quiet]) <;> decide +kernel⟩

/-! ### CrossingsConserveAccounts -/

theorem witness_CrossingsConserveAccounts_1 : ∃ (s : State) (sp : Fin 7) (rev : Bool),
    s.quiet ∧ (s.ledger.parity = []) ∧ (let i := 0x40 + 2 * sp.val + (if rev then 1 else 0); (let a := s.acct i;
    (let d := if rev then 1 else 0; (let held := s.power.heldReq; (s.acctAbsent i = false) ∧ (a.fits = true) ∧ (a.g = a.r + a.h + a.f) ∧
    (s.on = true) ∧ (s.destQuiesces sp.val d = true ∨ (sp.val, d) ∈ held) ∧ (let w := s.win i; (w.span = 1) ∧ (a.f = 1) ∧
    (held = [(sp.val, d)]) ∧ ((s.spanUp sp.val = true ∧ s.destQuiesces sp.val d = false))))))) :=
  ⟨{OnRegs.cA with power := {OnRegs.cA.power with heldReq := [(0,0)]}}, 0, false,
    by (dsimp only [State.quiet]) <;> decide +kernel⟩

theorem witness_CrossingsConserveAccounts_2 : ∃ (s : State) (sp : Fin 7) (rev : Bool),
    s.quiet ∧ (s.ledger.parity = []) ∧ (let i := 0x40 + 2 * sp.val + (if rev then 1 else 0); (let a := s.acct i; (let w := s.win i;
    (let d := if rev then 1 else 0; (let held := s.power.heldReq; (s.acctAbsent i = false) ∧ (a.fits = true) ∧ (a.g = a.r + a.h + a.f) ∧
    (s.on = true) ∧ ((s.spanUp sp.val = true ∧ s.destQuiesces sp.val d = false)) ∧ ((sp.val, d) ∉ held) ∧ (w.span = 0) ∧ (1 ≤ a.r)))))) :=
  ⟨OnRegs.f0, 0, false,
    by (dsimp only [State.quiet]) <;> decide +kernel⟩

theorem witness_CrossingsConserveAccounts_3 : ∃ (s : State) (sp : Fin 7) (rev : Bool),
    s.quiet ∧ (s.ledger.parity = []) ∧ (let i := 0x40 + 2 * sp.val + (if rev then 1 else 0); (let a := s.acct i;
    (let d := if rev then 1 else 0; (let held := s.power.heldReq; (s.acctAbsent i = false) ∧ (a.fits = true) ∧ (a.g = a.r + a.h + a.f) ∧
    (s.spanUp sp.val = false) ∧ (s.destQuiesces sp.val d = false) ∧ ((sp.val, d) ∉ held))))) :=
  ⟨OnRegs.f0, 2, false,
    by (dsimp only [State.quiet]) <;> decide +kernel⟩

theorem witness_CrossingsConserveAccounts_4 : ∃ (s : State) (sp : Fin 7) (rev : Bool),
    s.quiet ∧ (s.ledger.parity = []) ∧ (let i := 0x40 + 2 * sp.val + (if rev then 1 else 0); (let a := s.acct i; (let w := s.win i;
    (let held := s.power.heldReq; (s.acctAbsent i = false) ∧ (a.fits = true) ∧ (a.g = a.r + a.h + a.f) ∧ (w.span = 1) ∧ (a.f = 1) ∧
    (held = []))))) :=
  ⟨OnRegs.cA, 0, false,
    by (dsimp only [State.quiet]) <;> decide +kernel⟩

/-! ### PowerStatesMove -/

theorem witness_DescentFollowsDepth_1 : ∃ (s : State),
    s.quiet ∧ (s.mayDescend = true) ∧ (s.power.entry = none) ∧ (s.power.arrived = false) ∧ (s.snuffHolds = false) ∧
    (¬ (s.fld F.PWR_CTL_DEPTH = 1 ∨ s.fld F.PWR_CTL_DEPTH = 2)) ∧ (s.pstate = 3) :=
  ⟨OnRegs.idl.wr [(F.PWR_CTL_DEPTH, 0)],
    by (dsimp only [State.quiet]) <;> decide +kernel⟩

theorem witness_DescentFollowsDepth_2 : ∃ (s : State),
    s.quiet ∧ (s.mayDescend = true) ∧ (s.power.entry = none) ∧ (s.power.arrived = false) ∧ (s.snuffHolds = false) ∧
    (s.fld F.PWR_CTL_DEPTH = 1) ∧ (s.busyHold = false) ∧ (s.bankHold = false) :=
  ⟨OnRegs.idl.wr [(F.PWR_CTL_DEPTH, 1)],
    by (dsimp only [State.quiet]) <;> decide +kernel⟩

theorem witness_DescentFollowsDepth_3 : ∃ (s : State),
    s.quiet ∧ (s.mayDescend = true) ∧ (s.power.entry = none) ∧ (s.power.arrived = false) ∧ (s.snuffHolds = false) ∧
    ((s.fld F.PWR_CTL_DEPTH = 1 ∨ s.fld F.PWR_CTL_DEPTH = 2)) ∧ (s.busyHold = true) ∧ (s.pstate = 3) :=
  ⟨OnRegs.bz (OnRegs.idl.wr [(F.PWR_CTL_DEPTH, 1)]),
    by (dsimp only [State.quiet]) <;> decide +kernel⟩

theorem witness_DescentFollowsDepth_4 : ∃ (s : State),
    s.quiet ∧ (s.mayDescend = true) ∧ (s.power.entry = none) ∧ (s.power.arrived = false) ∧ (s.snuffHolds = false) ∧
    ((s.fld F.PWR_CTL_DEPTH = 1 ∨ s.fld F.PWR_CTL_DEPTH = 2)) ∧ (s.busyHold = false) ∧ (s.bankHold = true) ∧ (s.pstate = 3) :=
  ⟨(OnRegs.idl.wr [(F.PWR_CTL_DEPTH, 1)]).wr [(F.PWR_SRET_BANKS, 0),(F.QUE_RSTAT_STATE 0, 1),(F.QUE_RHDR_ADDR 0, 0x20010000/64)],
    by (dsimp only [State.quiet]) <;> decide +kernel⟩

theorem witness_DescentFollowsDepth_5 : ∃ (s : State),
    s.quiet ∧ (s.mayDescend = true) ∧ (s.power.entry = none) ∧ (s.power.arrived = false) ∧ (s.snuffHolds = false) ∧
    (s.fld F.PWR_CTL_DEPTH = 2) ∧ (s.busyHold = false) ∧ (s.bankHold = false) ∧ (s.emberHold = false) :=
  ⟨OnRegs.idl.wr [(F.PWR_CTL_DEPTH, 2)],
    by (dsimp only [State.quiet]) <;> decide +kernel⟩

theorem witness_DescentFollowsDepth_6 : ∃ (s : State),
    s.quiet ∧ (s.mayDescend = true) ∧ (s.power.entry = none) ∧ (s.power.arrived = false) ∧ (s.snuffHolds = false) ∧
    (s.fld F.PWR_CTL_DEPTH = 2) ∧ (s.busyHold = false) ∧ (s.bankHold = false) ∧ (s.emberHold = true) :=
  ⟨(OnRegs.idl.wr [(F.PWR_CTL_DEPTH, 2)]).wr [(F.PWR_SRET_BANKS, 0xFFFF)],
    by (dsimp only [State.quiet]) <;> decide +kernel⟩

theorem witness_WakeAndStart_1 : ∃ (s : State),
    s.quiet ∧ (s.on = true) ∧ (s.pstate = 2) ∧ (s.power.arrived = true ∨ (∃ t : ThreadId, t.val < 8 ∧
    (s.thr t).wakeable = true) ∨ (∃ sp ∈ islandSpans .steady, ∃ a ∈ spanAccts sp, (s.win a).span ≠ 0)) ∧ (s.lit .steady = true) :=
  ⟨{OnRegs.dimS with power := {OnRegs.dimS.power with arrived := true}},
    by (dsimp only [State.quiet]) <;> decide +kernel⟩

theorem witness_WakeAndStart_2 : ∃ (s : State),
    s.quiet ∧ (s.steadyRuns = true) ∧ (s.boot = .starting) :=
  ⟨State.reset,
    by (dsimp only [State.quiet]) <;> decide +kernel⟩

/-! ### BootHandsOff -/

theorem witness_BootHandsOff_1 : ∃ (s : State),
    s.quiet ∧ (s.steadyRuns = true) ∧ (s.boot = .rom) ∧ (s.romReady = true) ∧ (s.bootable 0 = false) ∧ (s.bootable 1 = false) :=
  ⟨OnPower.rom,
    by (dsimp only [State.quiet]) <;> decide +kernel⟩

theorem witness_BootHandsOff_2 : ∃ (s : State),
    s.quiet ∧ (s.steadyRuns = true) ∧ (s.boot = .rom) ∧ (s.romReady = true) ∧ (s.bootable 0 = true) ∧ (s.bootable 1 = false) :=
  ⟨OnPower.hdr OnPower.rom 0 1,
    by (dsimp only [State.quiet]) <;> decide +kernel⟩

theorem witness_BootHandsOff_3 : ∃ (s : State),
    s.quiet ∧ (s.steadyRuns = true) ∧ (s.boot = .rom) ∧ (s.romReady = true) ∧ (s.bootable 0 = false) ∧ (s.bootable 1 = true) :=
  ⟨OnPower.hdr OnPower.rom 1 1,
    by (dsimp only [State.quiet]) <;> decide +kernel⟩

theorem witness_BootHandsOff_4 : ∃ (s : State),
    s.quiet ∧ (s.steadyRuns = true) ∧ (s.boot = .rom) ∧ (s.romReady = true) ∧ (s.bootable 0 = true) ∧ (s.bootable 1 = true) :=
  ⟨OnPower.hdr (OnPower.hdr OnPower.rom 1 2) 0 1,
    by (dsimp only [State.quiet]) <;> decide +kernel⟩

/-! ### IslandsComeAndGo -/

theorem witness_BurstIslandComesAndGoes_1 : ∃ (s : State),
    (s.on = true) ∧ (s.has .burst = true) ∧ (let x := s.island .burst; (x.st = .lighting) ∧ (s.flag F.CLK_STAT_XT32MOK = true) ∧
    (s.ledger.parity = []) ∧ (s.power.heldReq = []) ∧ s.quiet) :=
  ⟨(OnPower.bst .lighting).wr [(F.CLK_STAT_XT32MOK, 1)],
    by (dsimp only [State.quiet]) <;> decide +kernel⟩

theorem witness_BurstIslandComesAndGoes_2 : ∃ (s : State),
    (s.on = true) ∧ (s.has .burst = true) ∧ (let x := s.island .burst; s.quiet ∧ (x.st = .lit) ∧ (s.flag F.PWR_BURST_AUTO = true) ∧
    ((∀ t : ThreadId, 8 ≤ t.val → (s.thr t).st ≠ .run ∧ (s.thr t).wakeable = false))) :=
  ⟨(OnPower.blit.setThr 8 {OnPower.blit.thr 8 with st := .wait}).wr [(F.PWR_BURST_AUTO,1)],
    by (dsimp only [State.quiet]) <;> decide +kernel⟩

theorem witness_BurstIslandComesAndGoes_3 : ∃ (s : State),
    (s.on = true) ∧ (s.has .burst = true) ∧ (let x := s.island .burst; s.quiet ∧ (x.st = .dark)) :=
  ⟨OnPower.bst .dark,
    by (dsimp only [State.quiet]) <;> decide +kernel⟩

theorem witness_BurstIslandComesAndGoes_4 : ∃ (s : State),
    (s.on = true) ∧ (s.has .burst = true) ∧ (let x := s.island .burst; s.quiet ∧ (x.st = .quiescing)) :=
  ⟨OnPower.bst .quiescing,
    by (dsimp only [State.quiet]) <;> decide +kernel⟩

theorem witness_RingLitIslands_1 : ∃ (s : State) (i : Island),
    (s.on = true) ∧ (s.islandHere i = true) ∧ (i = .cipher ∨ i = .radio ∨ i = .gnss) ∧ ((s.island i).st = .lighting) ∧
    ((i = .radio → s.flag F.CLK_STAT_XT32MOK = true)) ∧ (s.ledger.parity = []) ∧ (s.power.heldReq = []) ∧ (s.cip.claim = none) ∧
    (s.cip.postLater = false) ∧ s.quiet ∧ (s.fld F.PWR_ROUTE_TMASK = 0) :=
  ⟨OnPower.ist .cipher .lighting, .cipher,
    by (dsimp only [State.quiet]) <;> decide +kernel⟩

theorem witness_RingLitIslands_2 : ∃ (s : State) (i : Island),
    (s.on = true) ∧ (s.islandHere i = true) ∧ (i = .cipher ∨ i = .radio ∨ i = .gnss) ∧ (s.lit i = true) ∧ (s.ringsEmpty i = true) ∧
    (s.islandBusy i = false) ∧ (s.fld F.PWR_IDLE_TICKS ≤ s.now - (s.island i).since) ∧ s.quiet :=
  ⟨OnPower.ist .cipher .lit, .cipher,
    by (dsimp only [State.quiet]) <;> decide +kernel⟩

theorem witness_RingLitIslands_3 : ∃ (s : State) (i : Island),
    (s.on = true) ∧ s.quiet ∧ (s.fld F.PWR_ROUTE_TMASK = 0) ∧ (s.firstRising = true) :=
  ⟨({OnPower.f0 with boot := .starting}.wr [(F.PWR_ROUTE_TMASK,0),(F.PWR_STAT_LAST,3)]), .steady,
    by (dsimp only [State.quiet]) <;> decide +kernel⟩

/-! ### QuiesceTakesIslandsDown -/

theorem witness_QuiesceOpensWindows_1 : ∃ (s : State) (i : Island),
    s.quiet ∧ (s.on = true) ∧ (s.lit i = true) ∧ (let x := s.island i; ((i ≠ .steady ∧
    (x.downReq = true ∨ x.resetAtEnd = true ∨ (s.island .steady).resetAtEnd = true)))) :=
  ⟨(OnPower.isl OnPower.f0 .cipher fun y => {y with st := .lit, downReq := true}), .cipher,
    by (dsimp only [State.quiet]) <;> decide +kernel⟩

theorem witness_QuiesceOpensWindows_2 : ∃ (s : State) (i : Island),
    s.quiet ∧ (s.on = true) ∧ (s.lit i = true) ∧ (let x := s.island i; ((i = .steady ∧ x.resetAtEnd = true)) ∧ ((s.flash.op = none)) ∧
    ((∀ j, j ≠ .steady → (s.island j).st = .dark))) :=
  ⟨OnPower.srst, .steady,
    by
    dsimp only [State.quiet]
    repeat' apply And.intro
    all_goals first
      | decide +kernel
      | (intro j; cases j <;> decide +kernel)⟩

theorem witness_QuiesceOpensWindows_3 : ∃ (s : State) (i : Island),
    s.quiet ∧ (s.on = true) ∧ (s.lit i = true) ∧ (let x := s.island i; ((i = .steady ∧ x.resetAtEnd = true)) ∧ ((∃ j, j ≠ .steady ∧
    (s.island j).st ≠ .dark))) :=
  ⟨(OnPower.srst.lightUp .gnss), .steady,
    by
    dsimp only [State.quiet]
    repeat' apply And.intro
    all_goals first
      | decide +kernel
      | exact ⟨.gnss, by decide +kernel⟩⟩

theorem witness_QuiesceOpensWindows_4 : ∃ (s : State) (i : Island),
    s.quiet ∧ (s.on = true) ∧ (s.lit i = true) ∧ (let x := s.island i; ((i = .steady ∧ x.resetAtEnd = false ∧
    s.power.entry.isSome = true)) ∧ ((s.flash.op = none)) ∧ ((s.mayDescend = true ∧ s.descent.1 < 2))) :=
  ⟨OnPower.ent0 [], .steady,
    by (dsimp only [State.quiet]) <;> decide +kernel⟩

theorem witness_QuiesceOpensWindows_5 : ∃ (s : State) (i : Island),
    s.quiet ∧ (s.on = true) ∧ (s.lit i = true) ∧ (let x := s.island i; ((i = .steady ∧ x.resetAtEnd = false ∧
    s.power.entry.isSome = true)) ∧ (¬ (s.mayDescend = true ∧ s.descent.1 < 2))) :=
  ⟨(OnPower.ent0 [(F.PWR_CTL_DEPTH, 0)]), .steady,
    by (dsimp only [State.quiet]) <;> decide +kernel⟩

theorem witness_QuiesceOpensWindows_6 : ∃ (s : State) (i : Island),
    s.quiet ∧ (s.on = true) ∧ (s.lit i = true) ∧ (let x := s.island i; (¬ (i ≠ .steady ∧
    (x.downReq = true ∨ x.resetAtEnd = true ∨ (s.island .steady).resetAtEnd = true))) ∧ (¬ (i = .steady ∧ x.resetAtEnd = true)) ∧
    (¬ (i = .steady ∧ x.resetAtEnd = false ∧ s.power.entry.isSome = true))) :=
  ⟨OnPower.f0, .steady,
    by (dsimp only [State.quiet]) <;> decide +kernel⟩

theorem witness_DrainEndTakesIslandDown_1 : ∃ (s : State) (i : Island),
    (s.on = true) ∧ ((s.island i).st = .quiescing) ∧ (s.stepsOver i = true) ∧ (s.islandHere i = true) ∧
    (s.workDone i = true ∨ s.drainExpired i = true) ∧ (s.mustFinish i = false) ∧ (i ≠ .steady) :=
  ⟨(OnPower.isl OnPower.f0 .cipher fun y => {y with st := .quiescing}), .cipher,
    by decide +kernel⟩

theorem witness_DrainEndTakesIslandDown_2 : ∃ (s : State) (i : Island),
    (s.on = true) ∧ ((s.island i).st = .quiescing) ∧ (s.stepsOver i = true) ∧ (s.islandHere i = true) ∧
    (s.workDone i = true ∨ s.drainExpired i = true) ∧ (s.mustFinish i = false) ∧
    (s.power.entry).any (fun (d, why) => decide ((i = .steady) ∧ ((s.island i).resetAtEnd = false) ∧ (d < 2) ∧ (why < 4) ∧
    (s.power.latched = 0))) = true :=
  ⟨OnPower.ste false, .steady,
    by decide +kernel⟩

theorem witness_DrainEndTakesIslandDown_3 : ∃ (s : State) (i : Island),
    (s.on = true) ∧ ((s.island i).st = .quiescing) ∧ (s.stepsOver i = true) ∧ (s.islandHere i = true) ∧
    (s.workDone i = true ∨ s.drainExpired i = true) ∧ (s.mustFinish i = false) ∧ (i = .steady) ∧ ((s.island i).resetAtEnd = true) :=
  ⟨OnPower.ste true, .steady,
    by decide +kernel⟩

theorem witness_IslandResetTakesKey_1 : ∃ (s : State) (v : Word),
    (s.steadyRuns = true) ∧ s.quiet ∧ (v.toNat / 256 % 256 ≠ 0xA5) :=
  ⟨OnPower.f0, 0x1E,
    by (dsimp only [State.quiet]) <;> decide +kernel⟩

theorem witness_IslandResetTakesKey_2 : ∃ (s : State) (v : Word),
    (s.steadyRuns = true) ∧ (v.toNat / 256 % 256 = 0xA5) :=
  ⟨OnPower.blit, 0xA51E,
    by decide +kernel⟩

/-! ### FullResets -/

theorem witness_FullResets_1 : ∃ (s : State),
    (s.on = true) ∧ (let v : Word := 0x5D2; (v.toNat % 256 = 0xD2)) :=
  ⟨OnPower.blit,
    by (dsimp only) <;> decide +kernel⟩

theorem witness_FullResets_2 : ∃ (s : State),
    (s.on = true) ∧ (let n : Nat := 1000; (1000 ≤ n)) :=
  ⟨OnPower.blit,
    by (dsimp only) <;> decide +kernel⟩

theorem witness_FullResets_3 : ∃ (s : State),
    (s.on = true) ∧ (let n : Nat := 500; (100 ≤ n) ∧ (n < 1000)) :=
  ⟨OnPower.blit,
    by (dsimp only) <;> decide +kernel⟩

theorem witness_FullResets_4 : ∃ (s : State),
    (s.on = true) ∧ s.quiet ∧ (let n : Nat := 99; (n < 100)) :=
  ⟨OnPower.blit,
    by (dsimp only [State.quiet]) <;> decide +kernel⟩

theorem witness_FullResets_5 : ∃ (s : State),
    (s.power.vdd = true) :=
  ⟨OnPower.blit,
    by decide +kernel⟩

theorem witness_FullResets_6 : ∃ (s : State),
    (s.power.vdd = false) :=
  ⟨{OnPower.blit with power := {OnPower.blit.power with vdd := false}},
    by decide +kernel⟩

theorem witness_FullResets_7 : ∃ (s : State),
    s.quiet ∧ (s.power.inReset = true) :=
  ⟨{OnPower.blit with power := {OnPower.blit.power with inReset := true}},
    by (dsimp only [State.quiet]) <;> decide +kernel⟩

/-! ### SnuffAndTick -/

theorem witness_SnuffResetsOrRescues_1 : ∃ (s : State),
    (s.on = true) ∧ (s.snuffHolds = true) ∧ (2 ≤ s.power.snuffHold) ∧ (s.flag F.EVT_SNUFF_ACT = false) :=
  ⟨OnPower.sn 0,
    by decide +kernel⟩

theorem witness_SnuffResetsOrRescues_2 : ∃ (s : State),
    (s.on = true) ∧ (s.snuffHolds = true) ∧ (2 ≤ s.power.snuffHold) ∧ (let t : ThreadId := 0; (s.flag F.EVT_SNUFF_ACT = true) ∧
    (s.fld F.EVT_SNUFF_RESCUE = t.val) ∧ ((s.thr t).st = .wait) ∧ (2 ≤ s.pstate) ∧ (s.lit .steady = true) ∧ s.quiet) :=
  ⟨OnPower.sn 1,
    by (dsimp only [State.quiet]) <;> decide +kernel⟩

theorem witness_TickAdvancesTimeBase_1 : ∃ (s : State),
    (s.power.vdd = true) ∧ s.quiet ∧ (s.on = true) ∧ s.edgeFree ∧ (s.sealPend .evt = false) :=
  ⟨OnPower.f0,
    by (dsimp only [State.quiet, State.edgeFree]) <;> decide +kernel⟩

theorem witness_TickAdvancesTimeBase_2 : ∃ (s : State),
    (s.power.vdd = true) ∧ s.quiet ∧ (s.on = false) :=
  ⟨{OnPower.f0 with power := {OnPower.f0.power with inReset := true}},
    by (dsimp only [State.quiet]) <;> decide +kernel⟩

/-! ### ClocksFollowTheirChecks -/

theorem witness_ClocksFollowTheirChecks_1 : ∃ (s : State) (n : Nat),
    (s.power.vdd = true) ∧ (s.flag F.CLK_STAT_XT32OK = true) ∧ (4 < n) ∧ (s.fld F.PWR_ROUTE_TMASK = 0) ∧ s.quiet ∧
    (s.clk.switchDue = true) ∧ (s.flag F.CLK_STAT_VSRC = false) ∧ (s.on = true) ∧ (s.xt32mWanted = true) ∧
    (s.flag F.CLK_STAT_XT32MOK = true) ∧ (n < 850 ∨ 1100 < n) ∧ (2 ≤ s.pstate) ∧ (s.clk.refDue = true) ∧ (s.fllOnXt = true) ∧
    (s.lit .steady = true) ∧ (3 ≤ s.pstate ∨ s.flag F.PWR_CTL_DIMFLL = true) :=
  ⟨{(OnPower.ck [(F.CLK_STAT_XT32OK,1),(F.CLK_STAT_VSRC,0),(F.CLK_FLL_REF,1),(F.CLK_STAT_XT32MOK,1)]) with clk := {OnPower.f0.clk with switchDue := true, refDue := true}}, 5,
    by (dsimp only [State.quiet]) <;> decide +kernel⟩

theorem witness_ClocksFollowTheirChecks_2 : ∃ (s : State) (n : Nat),
    (s.power.vdd = true) ∧ (s.flag F.CLK_STAT_XT32OK = false) ∧ s.quiet ∧ (s.on = true) ∧ (s.xt32mWanted = true) ∧
    (s.flag F.CLK_STAT_XT32MOK = false) ∧ (850 ≤ n) ∧ (n ≤ 1100) :=
  ⟨(OnPower.ck [(F.CLK_FLL_REF,1),(F.CLK_STAT_XT32MOK,0)]), 900,
    by (dsimp only [State.quiet]) <;> decide +kernel⟩

/-! ### ThreadsAndEventRings -/

theorem witness_ThreadsStartAndStop_1 : ∃ (s : State) (t : ThreadId),
    s.quiet ∧ (s.steadyRuns = true) ∧ (let x := s.thr t; (x.st ≠ .stopped) ∧ (x.st ≠ .faulted) ∧ (x.st = .run ∧
    x.issued = Held.no ∨ x.st = .wait) ∧ (s.flag F.CIP_LOCK_HELD = false ∨ s.fld F.CIP_LOCK_OWNER ≠ t.val) ∧ (x.st = .run) ∧
    (x.stopping = true) ∧ (s.coreRuns t = true) ∧ (s.fetchStop t = none) ∧ (s.fetchRead t = s)) :=
  ⟨(OnPower.f0.setThr 0 {OnPower.f0.thr 0 with stopping := true}), 0,
    by (dsimp only [State.quiet]) <;> decide +kernel⟩

theorem witness_ThreadsStartAndStop_2 : ∃ (s : State) (t : ThreadId),
    s.quiet ∧ (s.steadyRuns = true) ∧ (let x := s.thr t; (x.st = .stopped ∨ x.st = .faulted) ∧ (x.st ≠ .run) ∧ (x.st ≠ .wait)) :=
  ⟨OnPower.f0, 1,
    by (dsimp only [State.quiet]) <;> decide +kernel⟩

theorem witness_ThreadsStartAndStop_3 : ∃ (s : State) (t : ThreadId),
    s.quiet ∧ (s.steadyRuns = true) ∧ (let x := s.thr t; (x.st = .run ∧ x.issued = Held.no ∨ x.st = .wait) ∧
    (s.flag F.CIP_LOCK_HELD = true) ∧ (s.fld F.CIP_LOCK_OWNER = t.val)) :=
  ⟨(OnPower.f0.wr [(F.CIP_LOCK_HELD, 1), (F.CIP_LOCK_OWNER, 0)] |>.setAcct 0x51 ⟨1,0,1,0⟩), 0,
    by (dsimp only [State.quiet]) <;> decide +kernel⟩

theorem witness_ThreadsStartAndStop_4 : ∃ (s : State) (t : ThreadId),
    s.quiet ∧ (s.steadyRuns = true) ∧ (let x := s.thr t; (x.st = .run) ∧ (x.issued ≠ Held.no)) :=
  ⟨(OnPower.f0.setThr 0 {OnPower.f0.thr 0 with issued := ⟨true,false⟩}), 0,
    by (dsimp only [State.quiet]) <;> decide +kernel⟩

theorem witness_EventRingLatchAndOverflow_1 : ∃ (s : State) (t : ThreadId) (v : Word),
    s.quiet ∧ (s.steadyRuns = true) ∧ (let h := v.toNat / 64 * 64; (v.getLsbD 0 = true) ∧ (0x20000000 ≤ h) ∧ (h + 64 ≤ 0x20110000)) :=
  ⟨(OnPower.f0.ram 0x20001000 [tw 0x20001100, tw 4, tw 7, tw 5]), 3, 0x20001001,
    by (dsimp only [State.quiet]) <;> decide +kernel⟩

theorem witness_EventRingLatchAndOverflow_2 : ∃ (s : State) (t : ThreadId) (v : Word),
    s.quiet ∧ (s.steadyRuns = true) ∧ (let h := v.toNat / 64 * 64; (v.getLsbD 0 = false ∨ h < 0x20000000 ∨ 0x20110000 < h + 64)) :=
  ⟨(OnPower.f0.ram 0x20001000 [tw 0x20001100, tw 4, tw 7, tw 5]), 3, 0x20001000,
    by (dsimp only [State.quiet]) <;> decide +kernel⟩

theorem witness_EventRecordsReachTheRing_1 : ∃ (s : State) (t : ThreadId) (bits : Word) (bit code : Nat) (detail : Word) (stamp : BitVec 48),
    ((s.thr t).st ≠ .dark) ∧ (s.lit .steady = true) ∧ (s.flag (F.EVT_TRING_EN t.val) = true) ∧ (let e := vget s.evring t;
    (let hdr := s.fld (F.EVT_TRING_ADDR t.val) * 64; (let cons := (s.mem.word (hdr + 12)).toNat % 65536;
    (let free := (e.prod + 65536 - cons) % 65536 < e.size; (e.usable = true) ∧ (s.mem.parityBad (hdr + 12) = false) ∧ free ∧
    (e.prod < 65536) ∧ ((hdr + 16 ≤ e.base ∨ e.base + e.size * 16 ≤ hdr)) ∧ (bit < 32) ∧ (code < 256))))) :=
  ⟨OnPower.ev 5, 1, 4, 2, 7, 99, 0x123456789,
    by (dsimp only) <;> decide +kernel⟩

theorem witness_EventRecordsReachTheRing_2 : ∃ (s : State) (t : ThreadId) (bits : Word) (bit code : Nat) (detail : Word) (stamp : BitVec 48),
    ((s.thr t).st ≠ .dark) ∧ (s.lit .steady = true) ∧ (s.flag (F.EVT_TRING_EN t.val) = true) ∧ (let e := vget s.evring t;
    (let hdr := s.fld (F.EVT_TRING_ADDR t.val) * 64; (let cons := (s.mem.word (hdr + 12)).toNat % 65536;
    (let free := (e.prod + 65536 - cons) % 65536 < e.size; (s.mem.parityBad (hdr + 12) = true ∨ ¬ free))))) :=
  ⟨OnPower.ev 3, 1, 4, 2, 7, 99, 0x123456789,
    by (dsimp only) <;> decide +kernel⟩

/-! ### RingsOpenAndDrain -/

theorem witness_RingEnableGrantsPool_1 : ∃ (s : State) (n : RingId) (v : Word),
    s.quiet ∧ (s.steadyRuns = true) ∧ (s.ringState n = ringOff) ∧ (s.ledger.parity = []) ∧ (let s1 := s.rcfgFields n (v ||| 1);
    (s1.enableErr n = 0)) :=
  ⟨OnRings.hdrS OnRings.f0, 5, 0x1081,
    by (dsimp only [State.quiet]) <;> decide +kernel⟩

theorem witness_RingEnableGrantsPool_2 : ∃ (s : State) (n : RingId) (v : Word),
    s.quiet ∧ (s.steadyRuns = true) ∧ (s.ringState n = ringOff) ∧ (s.ledger.parity = []) ∧ (let s1 := s.rcfgFields n (v ||| 1);
    (s1.enableErr n ≠ 0)) :=
  ⟨OnRings.f0, 5, 1,
    by (dsimp only [State.quiet]) <;> decide +kernel⟩

theorem witness_RingsDrain_1 : ∃ (s : State) (n : RingId),
    s.quiet ∧ (s.steadyRuns = true) ∧ (s.ringState n ≠ ringOn) ∧ (s.on = true) ∧ (s.ringState n = ringDraining) ∧ ((s.acct n.val).h = 0) ∧
    ((s.acct n.val).f = 0) ∧ (s.ledger.parity = []) :=
  ⟨(OnRings.rOn 2).setAcct 5 ⟨8,8,0,0⟩, 5,
    by (dsimp only [State.quiet]) <;> decide +kernel⟩

theorem witness_RingsDrain_2 : ∃ (s : State) (n : RingId),
    s.quiet ∧ (s.steadyRuns = true) ∧ (s.ringState n = ringOn) :=
  ⟨OnRings.rOn 1, 5,
    by (dsimp only [State.quiet]) <;> decide +kernel⟩

/-! ### DoorbellsAndCompletions -/

theorem witness_DoorbellTakesCredit_1 : ∃ (s : State) (t : ThreadId) (n : RingId) (c : Cond) (rd ra : Reg) (imm : BitVec 10),
    s.ready t ∧ (condHolds (s.thr t) c ra = true) ∧ (((s.thr t).get ra).tag = .addr) ∧ (s.ringState n ≠ ringOff) ∧
    (inSram (s.ringHdr n) 64 = true) ∧ ((∀ m, m ≠ n → s.ringState m = ringOff ∨ s.ringHdr m ≠ s.ringHdr n)) ∧ (s.ledger.parity = []) ∧
    (let x := s.thr t; (let w := x.get rd; (let r := s.ring n; (let a := s.acct n.val; (let h := s.ringHdr n;
    (let v : BitVec 16 := w.data.setWidth 16; (let k := (v - r.prod).toNat;
    (let at' : Nat := effAddr (x.get ra).data (BitVec.ofInt 32 (4 * imm.toInt));
    (let stores (o : Nat) : Prop := at' = h + o ∧ s.thrWrite x.issued (ownBurst t) at' 4 = .ok ∧ s.crosses t at' = s;
    (let first : Desc := ⟨n, r.cons, (s.poke (h + 8) w).readDesc (r.descAt r.cons)⟩; (a.fits = true) ∧ (a.g = a.r + a.h + a.f) ∧
    ((a.f = 0 ∨ (s.win n.val).isOpen = true)) ∧ stores 8 ∧ (s.ringState n = ringOn) ∧ (k ≠ 0) ∧ (k ≤ s.credit n) ∧
    (s.namesAbsent first = false) ∧ (s.descBad first = false) ∧ (h + 0x14 ≤ r.descAt r.cons ∨ r.descAt r.cons + 32 ≤ h + 0x10))))))))))) :=
  ⟨OnRings.dbl 5 8, 0, 5, .al, 20, 3, 0,
    by (dsimp only [State.quiet, State.ready]) <;> decide +kernel⟩

theorem witness_DoorbellTakesCredit_2 : ∃ (s : State) (t : ThreadId) (n : RingId) (c : Cond) (rd ra : Reg) (imm : BitVec 10),
    s.ready t ∧ (condHolds (s.thr t) c ra = true) ∧ (((s.thr t).get ra).tag = .addr) ∧ (s.ringState n ≠ ringOff) ∧
    (inSram (s.ringHdr n) 64 = true) ∧ ((∀ m, m ≠ n → s.ringState m = ringOff ∨ s.ringHdr m ≠ s.ringHdr n)) ∧ (s.ledger.parity = []) ∧
    (let x := s.thr t; (let w := x.get rd; (let r := s.ring n; (let a := s.acct n.val; (let h := s.ringHdr n; (a.fits = true) ∧
    (a.g = a.r + a.h + a.f) ∧ ((a.f = 0 ∨ (s.win n.val).isOpen = true)) ∧ (let o : Nat := wordAddr (effAddr (x.get ra).data 0) - h;
    (o = 8 ∨ o = 0x1C ∨ o = 0x10) ∧ (let z : Nat := 2; (let b : Word := (effAddr (x.get ra).data (BitVec.ofInt 32 (2 * imm.toInt)));
    (w.tag ≠ .key) ∧ (w.tag ≠ .void) ∧ (b.toNat % z = 0) ∧ (wordAddr b.toNat = h + o) ∧ (s.thrWrite x.issued (ownBurst t) b.toNat z = .ok) ∧
    (s.crosses t b.toNat = s) ∧ (o = 8 ∨ o = 0x1C))))))))) :=
  ⟨OnRings.dbl 5 8, 0, 5, .al, 20, 3, 0,
    by (dsimp only [State.quiet, State.ready]) <;> decide +kernel⟩

theorem witness_DoorbellTakesCredit_3 : ∃ (s : State) (t : ThreadId) (n : RingId) (c : Cond) (rd ra : Reg) (imm : BitVec 10),
    s.ready t ∧ (condHolds (s.thr t) c ra = true) ∧ (((s.thr t).get ra).tag = .addr) ∧ (s.ringState n ≠ ringOff) ∧
    (inSram (s.ringHdr n) 64 = true) ∧ ((∀ m, m ≠ n → s.ringState m = ringOff ∨ s.ringHdr m ≠ s.ringHdr n)) ∧ (s.ledger.parity = []) ∧
    (let x := s.thr t; (let w := x.get rd; (let r := s.ring n; (let a := s.acct n.val; (let h := s.ringHdr n; (a.fits = true) ∧
    (a.g = a.r + a.h + a.f) ∧ ((a.f = 0 ∨ (s.win n.val).isOpen = true)) ∧ (let o : Nat := wordAddr (effAddr (x.get ra).data 0) - h;
    (o = 8 ∨ o = 0x1C ∨ o = 0x10) ∧ (let z : Nat := 1; (let b : Word := (effAddr (x.get ra).data (BitVec.ofInt 32 imm.toInt));
    (w.tag ≠ .key) ∧ (w.tag ≠ .void) ∧ (b.toNat % z = 0) ∧ (wordAddr b.toNat = h + o) ∧ (s.thrWrite x.issued (ownBurst t) b.toNat z = .ok) ∧
    (s.crosses t b.toNat = s) ∧ (o = 8 ∨ o = 0x1C))))))))) :=
  ⟨OnRings.dbl 5 8, 0, 5, .al, 20, 3, 0,
    by (dsimp only [State.quiet, State.ready]) <;> decide +kernel⟩

theorem witness_DoorbellTakesCredit_4 : ∃ (s : State) (t : ThreadId) (n : RingId) (c : Cond) (rd ra : Reg) (imm : BitVec 10),
    s.ready t ∧ (condHolds (s.thr t) c ra = true) ∧ (((s.thr t).get ra).tag = .addr) ∧ (s.ringState n ≠ ringOff) ∧
    (inSram (s.ringHdr n) 64 = true) ∧ ((∀ m, m ≠ n → s.ringState m = ringOff ∨ s.ringHdr m ≠ s.ringHdr n)) ∧ (s.ledger.parity = []) ∧
    (let x := s.thr t; (let r := s.ring n; (let a := s.acct n.val; (let h := s.ringHdr n;
    (let at' : Nat := effAddr (x.get ra).data (BitVec.ofInt 32 (4 * imm.toInt));
    (let stores (o : Nat) : Prop := at' = h + o ∧ s.thrWrite x.issued (ownBurst t) at' 4 = .ok ∧ s.crosses t at' = s; (a.fits = true) ∧
    (a.g = a.r + a.h + a.f) ∧ ((a.f = 0 ∨ (s.win n.val).isOpen = true)) ∧ stores 0x10 ∧ (s.flag F.LDG_STAT_BREACH = false) ∧
    (s.fld F.LDG_ROUTE_TMASK = 0))))))) :=
  ⟨(OnRings.dblS (OnRings.rOn 1) 5 3 0x10).wr [(F.LDG_ROUTE_TMASK,0)], 0, 5, .al, 20, 3, 0,
    by (dsimp only [State.quiet, State.ready]) <;> decide +kernel⟩

theorem witness_DoorbellTakesCredit_5 : ∃ (s : State) (t : ThreadId) (n : RingId) (c : Cond) (rd ra : Reg) (imm : BitVec 10),
    s.ready t ∧ (condHolds (s.thr t) c ra = true) ∧ (((s.thr t).get ra).tag = .addr) ∧ (s.ringState n ≠ ringOff) ∧
    (inSram (s.ringHdr n) 64 = true) ∧ ((∀ m, m ≠ n → s.ringState m = ringOff ∨ s.ringHdr m ≠ s.ringHdr n)) ∧ (s.ledger.parity = []) ∧
    (let x := s.thr t; (let w := x.get rd; (let r := s.ring n; (let a := s.acct n.val; (let h := s.ringHdr n; (a.fits = true) ∧
    (a.g = a.r + a.h + a.f) ∧ ((a.f = 0 ∨ (s.win n.val).isOpen = true)) ∧ (let o : Nat := wordAddr (effAddr (x.get ra).data 0) - h;
    (o = 8 ∨ o = 0x1C ∨ o = 0x10) ∧ (let z : Nat := 2; (let b : Word := (effAddr (x.get ra).data (BitVec.ofInt 32 (2 * imm.toInt)));
    (w.tag ≠ .key) ∧ (w.tag ≠ .void) ∧ (b.toNat % z = 0) ∧ (wordAddr b.toNat = h + o) ∧ (s.thrWrite x.issued (ownBurst t) b.toNat z = .ok) ∧
    (s.crosses t b.toNat = s) ∧ (o = 0x10) ∧ (s.flag F.LDG_STAT_BREACH = false) ∧ (s.fld F.LDG_ROUTE_TMASK = 0))))))))) :=
  ⟨(OnRings.dblS (OnRings.rOn 1) 5 3 0x10).wr [(F.LDG_ROUTE_TMASK,0)], 0, 5, .al, 20, 3, 0,
    by (dsimp only [State.quiet, State.ready]) <;> decide +kernel⟩

theorem witness_DoorbellTakesCredit_6 : ∃ (s : State) (t : ThreadId) (n : RingId) (c : Cond) (rd ra : Reg) (imm : BitVec 10),
    s.ready t ∧ (condHolds (s.thr t) c ra = true) ∧ (((s.thr t).get ra).tag = .addr) ∧ (s.ringState n ≠ ringOff) ∧
    (inSram (s.ringHdr n) 64 = true) ∧ ((∀ m, m ≠ n → s.ringState m = ringOff ∨ s.ringHdr m ≠ s.ringHdr n)) ∧ (s.ledger.parity = []) ∧
    (let x := s.thr t; (let w := x.get rd; (let r := s.ring n; (let a := s.acct n.val; (let h := s.ringHdr n; (a.fits = true) ∧
    (a.g = a.r + a.h + a.f) ∧ ((a.f = 0 ∨ (s.win n.val).isOpen = true)) ∧ (let o : Nat := wordAddr (effAddr (x.get ra).data 0) - h;
    (o = 8 ∨ o = 0x1C ∨ o = 0x10) ∧ (let z : Nat := 1; (let b : Word := (effAddr (x.get ra).data (BitVec.ofInt 32 imm.toInt));
    (w.tag ≠ .key) ∧ (w.tag ≠ .void) ∧ (b.toNat % z = 0) ∧ (wordAddr b.toNat = h + o) ∧ (s.thrWrite x.issued (ownBurst t) b.toNat z = .ok) ∧
    (s.crosses t b.toNat = s) ∧ (o = 0x10) ∧ (s.flag F.LDG_STAT_BREACH = false) ∧ (s.fld F.LDG_ROUTE_TMASK = 0))))))))) :=
  ⟨(OnRings.dblS (OnRings.rOn 1) 5 3 0x10).wr [(F.LDG_ROUTE_TMASK,0)], 0, 5, .al, 20, 3, 0,
    by (dsimp only [State.quiet, State.ready]) <;> decide +kernel⟩

theorem witness_DoorbellTakesCredit_7 : ∃ (s : State) (t : ThreadId) (n : RingId) (c : Cond) (rd ra : Reg) (imm : BitVec 10),
    s.ready t ∧ (condHolds (s.thr t) c ra = true) ∧ (((s.thr t).get ra).tag = .addr) ∧ (s.ringState n ≠ ringOff) ∧
    (inSram (s.ringHdr n) 64 = true) ∧ ((∀ m, m ≠ n → s.ringState m = ringOff ∨ s.ringHdr m ≠ s.ringHdr n)) ∧ (s.ledger.parity = []) ∧
    (let x := s.thr t; (let w := x.get rd; (let r := s.ring n; (let a := s.acct n.val; (let h := s.ringHdr n;
    (let v : BitVec 16 := w.data.setWidth 16; (let k := (v - r.prod).toNat;
    (let at' : Nat := effAddr (x.get ra).data (BitVec.ofInt 32 (4 * imm.toInt));
    (let stores (o : Nat) : Prop := at' = h + o ∧ s.thrWrite x.issued (ownBurst t) at' 4 = .ok ∧ s.crosses t at' = s; (a.fits = true) ∧
    (a.g = a.r + a.h + a.f) ∧ ((a.f = 0 ∨ (s.win n.val).isOpen = true)) ∧ stores 8 ∧ (s.ringState n = ringOn) ∧ (k = 0)))))))))) :=
  ⟨OnRings.dbl 5 5, 0, 5, .al, 20, 3, 0,
    by (dsimp only [State.quiet, State.ready]) <;> decide +kernel⟩

theorem witness_DoorbellTakesCredit_8 : ∃ (s : State) (t : ThreadId) (n : RingId) (c : Cond) (rd ra : Reg) (imm : BitVec 10),
    s.ready t ∧ (condHolds (s.thr t) c ra = true) ∧ (((s.thr t).get ra).tag = .addr) ∧ (s.ringState n ≠ ringOff) ∧
    (inSram (s.ringHdr n) 64 = true) ∧ ((∀ m, m ≠ n → s.ringState m = ringOff ∨ s.ringHdr m ≠ s.ringHdr n)) ∧ (s.ledger.parity = []) ∧
    (let x := s.thr t; (let w := x.get rd; (let r := s.ring n; (let a := s.acct n.val; (let h := s.ringHdr n;
    (let v : BitVec 16 := w.data.setWidth 16; (let at' : Nat := effAddr (x.get ra).data (BitVec.ofInt 32 (4 * imm.toInt));
    (let stores (o : Nat) : Prop := at' = h + o ∧ s.thrWrite x.issued (ownBurst t) at' 4 = .ok ∧ s.crosses t at' = s; (a.fits = true) ∧
    (a.g = a.r + a.h + a.f) ∧ ((a.f = 0 ∨ (s.win n.val).isOpen = true)) ∧ stores 0x1C ∧ ((r.cprod - v).toNat ≤ r.unread))))))))) :=
  ⟨OnRings.dblS (OnRings.rOn 1) 5 3 0x1C, 0, 5, .al, 20, 3, 0,
    by (dsimp only [State.quiet, State.ready]) <;> decide +kernel⟩

theorem witness_DoorbellTakesCredit_9 : ∃ (s : State) (t : ThreadId) (n : RingId) (c : Cond) (rd ra : Reg) (imm : BitVec 10),
    s.ready t ∧ (condHolds (s.thr t) c ra = true) ∧ (((s.thr t).get ra).tag = .addr) ∧ (s.ringState n ≠ ringOff) ∧
    (inSram (s.ringHdr n) 64 = true) ∧ ((∀ m, m ≠ n → s.ringState m = ringOff ∨ s.ringHdr m ≠ s.ringHdr n)) ∧ (s.ledger.parity = []) ∧
    (let x := s.thr t; (let w := x.get rd; (let r := s.ring n; (let a := s.acct n.val; (let h := s.ringHdr n;
    (let v : BitVec 16 := w.data.setWidth 16; (let at' : Nat := effAddr (x.get ra).data (BitVec.ofInt 32 (4 * imm.toInt));
    (let stores (o : Nat) : Prop := at' = h + o ∧ s.thrWrite x.issued (ownBurst t) at' 4 = .ok ∧ s.crosses t at' = s; (a.fits = true) ∧
    (a.g = a.r + a.h + a.f) ∧ ((a.f = 0 ∨ (s.win n.val).isOpen = true)) ∧ stores 0x1C ∧ (r.unread < (r.cprod - v).toNat))))))))) :=
  ⟨OnRings.dblS (OnRings.rOn 1) 5 8 0x1C, 0, 5, .al, 20, 3, 0,
    by (dsimp only [State.quiet, State.ready]) <;> decide +kernel⟩

theorem witness_DoorbellTakesCredit_10 : ∃ (s : State) (t : ThreadId) (n : RingId) (c : Cond) (rd ra : Reg) (imm : BitVec 10),
    s.ready t ∧ (condHolds (s.thr t) c ra = true) ∧ (((s.thr t).get ra).tag = .addr) ∧ (s.ringState n ≠ ringOff) ∧
    (inSram (s.ringHdr n) 64 = true) ∧ ((∀ m, m ≠ n → s.ringState m = ringOff ∨ s.ringHdr m ≠ s.ringHdr n)) ∧ (s.ledger.parity = []) ∧
    (let x := s.thr t; (let w := x.get rd; (let r := s.ring n; (let a := s.acct n.val; (let h := s.ringHdr n;
    (let v : BitVec 16 := w.data.setWidth 16; (let k := (v - r.prod).toNat;
    (let at' : Nat := effAddr (x.get ra).data (BitVec.ofInt 32 (4 * imm.toInt));
    (let stores (o : Nat) : Prop := at' = h + o ∧ s.thrWrite x.issued (ownBurst t) at' 4 = .ok ∧ s.crosses t at' = s; (a.fits = true) ∧
    (a.g = a.r + a.h + a.f) ∧ ((a.f = 0 ∨ (s.win n.val).isOpen = true)) ∧ stores 8 ∧ (s.ringState n ≠ ringOn ∨ s.credit n < k)))))))))) :=
  ⟨OnRings.dblS (OnRings.rOn 2) 5 8 8, 0, 5, .al, 20, 3, 0,
    by (dsimp only [State.quiet, State.ready]) <;> decide +kernel⟩

theorem witness_DoorbellTakesCredit_11 : ∃ (s : State) (t : ThreadId) (n : RingId) (c : Cond) (rd ra : Reg) (imm : BitVec 10),
    s.ready t ∧ (condHolds (s.thr t) c ra = true) ∧ (((s.thr t).get ra).tag = .addr) ∧ (s.ringState n ≠ ringOff) ∧
    (inSram (s.ringHdr n) 64 = true) ∧ ((∀ m, m ≠ n → s.ringState m = ringOff ∨ s.ringHdr m ≠ s.ringHdr n)) ∧ (s.ledger.parity = []) ∧
    (let x := s.thr t; (let w := x.get rd; (let r := s.ring n; (let a := s.acct n.val; (let h := s.ringHdr n;
    (let v : BitVec 16 := w.data.setWidth 16; (let k := (v - r.prod).toNat;
    (let at' : Nat := effAddr (x.get ra).data (BitVec.ofInt 32 (4 * imm.toInt));
    (let stores (o : Nat) : Prop := at' = h + o ∧ s.thrWrite x.issued (ownBurst t) at' 4 = .ok ∧ s.crosses t at' = s; (a.fits = true) ∧
    (a.g = a.r + a.h + a.f) ∧ ((a.f = 0 ∨ (s.win n.val).isOpen = true)) ∧ stores 8 ∧ (s.ringState n = ringOn) ∧ (k ≠ 0) ∧ (k ≤ s.credit n) ∧
    (s.unitHere (s.ringUnit n) = false) ∧ (r.cons = r.prod) ∧ (k ≤ r.size)))))))))) :=
  ⟨(OnRings.dblS ((OnRings.rOn 1).setRing 5 {(OnRings.rOn 1).ring 5 with cons := 5, prod := 5, next := 5, cprod := 5, ccons := 5}) 5 8 8).wr [(F.QUE_RCFG_UNIT 5, 6),(F.IDN_UNITS_UNITS,1023-8)], 0, 5, .al, 20, 3, 0,
    by (dsimp only [State.quiet, State.ready]) <;> decide +kernel⟩

theorem witness_CompletionIsWritten_1 : ∃ (s : State) (n : RingId),
    (let r := s.ring n; (let a := s.acct n.val; (let h := s.ringHdr n; (s.nextDone n).any (fun d => decide ((s.queueUp = true) ∧
    (s.inOrder n = true) ∧ (s.hdrBad n = false) ∧ (s.compBad n = false) ∧ (s.ledger.parity = []) ∧ (a.fits = true) ∧
    (a.g = a.r + a.h + a.f) ∧ ((a.f = 0 ∨ (s.win n.val).isOpen = true)) ∧ (1 ≤ a.h) ∧ (d.status < 256))) = true))) :=
  ⟨OnRings.cmpl, 5,
    by (dsimp only) <;> decide +kernel⟩

theorem witness_CompletionIsWritten_2 : ∃ (s : State) (n : RingId),
    s.quiet ∧ (s.nextDone n = none ∨ s.inOrder n = false) :=
  ⟨OnRings.rOn 1, 5,
    by (dsimp only [State.quiet]) <;> decide +kernel⟩

/-! ### FlashOperationsStart -/

theorem witness_FlashOperationsStart_1 : ∃ (s : State) (d : Desc),
    s.quiet ∧ (s.flashIdle = true) ∧ (s.flag F.FLC_STAT_SUSP = false) ∧ s.offers 1 0 d ∧ (s.flashCanStart d = true) ∧
    (let t := s.taken 1 0 d; (d.op = 1 ∨ d.op = 2 ∨ d.op = 3) ∧ (t.flashCheck d = none)) :=
  ⟨OnRings.prg, OnRings.dE OnRings.prg 1,
    by (dsimp only [State.quiet, State.offers]) <;> decide +kernel⟩

theorem witness_FlashOperationsStart_2 : ∃ (s : State) (d : Desc),
    s.quiet ∧ (s.flashIdle = true) ∧ (s.flag F.FLC_STAT_SUSP = false) ∧ (s.headDesc 1 0 = some d ∧ s.descBad d = false) ∧
    (s.flashCanStart d = true) ∧ (let t := s.taken 1 0 d; (d.op = 1 ∨ d.op = 2 ∨ d.op = 3) ∧ (t.flashCheck d).any (fun q => match q with | (st, some r) => true | _ => false) = true) :=
  ⟨(OnRings.fl [1, 0, 0x20004000, 32, 0x08001001, 0, 0, 0]), OnRings.dE (OnRings.fl [1, 0, 0x20004000, 32, 0x08001001, 0, 0, 0]) 1,
    by (dsimp only [State.quiet]) <;> decide +kernel⟩

theorem witness_FlashOperationsStart_3 : ∃ (s : State) (d : Desc),
    s.quiet ∧ (s.flashIdle = true) ∧ (s.flag F.FLC_STAT_SUSP = false) ∧ (s.headDesc 1 0 = some d ∧ s.descBad d = false) ∧
    (s.flashCanStart d = true) ∧ (let t := s.taken 1 0 d; (d.op = 1 ∨ d.op = 2 ∨ d.op = 3) ∧ (t.flashCheck d).any (fun q => match q with | (st, none) => true | _ => false) = true) :=
  ⟨(OnRings.fl [1, 0, 0x20004000, 8, 0x08001000, 0, 0, 0]), OnRings.dE (OnRings.fl [1, 0, 0x20004000, 8, 0x08001000, 0, 0, 0]) 1,
    by (dsimp only [State.quiet]) <;> decide +kernel⟩

/-! ### FlashProgress -/

theorem witness_FlashUnitsAndSectors_1 : ∃ (s : State) (o : FlashOp),
    s.quiet ∧ (s.flashActive = some o) ∧ (let src := o.desc.buf + 16 * o.done; (let fa := o.desc.opd 4 + 16 * o.done; (o.kind = .verify) ∧
    (s.steadyRuns = true) ∧ (o.pausing = false) ∧ ((∀ j, j < 4 → s.mem.parityBad (src + 4 * j) = false)) ∧ (s.ecc fa = .good) ∧
    (nsMem s.flash.cut (unitOf fa) = false) ∧ ((∀ j, j < 4 → s.mem.tword (fa + 4 * j) = s.mem.tword (src + 4 * j))) ∧
    (o.done + 1 ≠ o.total) ∧ (s.flash.resv = []))) :=
  ⟨OnRings.v1, OnRings.op OnRings.v1,
    by (dsimp only [State.quiet]) <;> decide +kernel⟩

theorem witness_FlashUnitsAndSectors_2 : ∃ (s : State) (o : FlashOp),
    s.quiet ∧ (s.flashActive = some o) ∧ (let k := o.first + o.done; (let src := o.desc.buf + 16 * o.done; (o.kind = .program) ∧
    (k < 262144) ∧ ((∀ j, j < 4 → s.mem.parityBad (src + 4 * j) = false)))) :=
  ⟨OnRings.p1, OnRings.op OnRings.p1,
    by (dsimp only [State.quiet]) <;> decide +kernel⟩

theorem witness_FlashUnitsAndSectors_3 : ∃ (s : State) (o : FlashOp),
    s.quiet ∧ (s.flashActive = some o) ∧ (let k := o.first + o.done; (o.kind = .erase) ∧ (k < 512)) :=
  ⟨OnRings.e1, OnRings.op OnRings.e1,
    by (dsimp only [State.quiet]) <;> decide +kernel⟩

theorem witness_FlashUnitsAndSectors_4 : ∃ (s : State) (o : FlashOp),
    s.quiet ∧ (s.flashActive = some o) ∧ (let src := o.desc.buf + 16 * o.done; (let fa := o.desc.opd 4 + 16 * o.done; (o.kind = .verify) ∧
    (s.steadyRuns = true) ∧ (o.pausing = false) ∧ ((∀ j, j < 4 → s.mem.parityBad (src + 4 * j) = false)) ∧ (s.ecc fa = .good) ∧
    (nsMem s.flash.cut (unitOf fa) = false) ∧ ((∃ j, j < 4 ∧ s.mem.tword (fa + 4 * j) ≠ s.mem.tword (src + 4 * j))) ∧
    (inFlash (fa + 12) = true) ∧ (fa % 16 = 0))) :=
  ⟨OnRings.v2, OnRings.op OnRings.v2,
    by (dsimp only [State.quiet]) <;> decide +kernel⟩

theorem witness_FlashUnitsAndSectors_5 : ∃ (s : State) (o : FlashOp),
    s.quiet ∧ (s.flashActive = some o) ∧ (let src := o.desc.buf + 16 * o.done; (let fa := o.desc.opd 4 + 16 * o.done; (o.kind = .verify) ∧
    (s.steadyRuns = true) ∧ (o.pausing = false) ∧ ((∀ j, j < 4 → s.mem.parityBad (src + 4 * j) = false)) ∧ (s.ecc fa = .good) ∧
    (nsMem s.flash.cut (unitOf fa) = false) ∧ ((∀ j, j < 4 → s.mem.tword (fa + 4 * j) = s.mem.tword (src + 4 * j))) ∧
    (o.done + 1 = o.total))) :=
  ⟨OnRings.v3, OnRings.op OnRings.v3,
    by (dsimp only [State.quiet]) <;> decide +kernel⟩

theorem witness_FlashUnitsAndSectors_6 : ∃ (s : State) (o : FlashOp),
    s.quiet ∧ (s.flashActive = some o) ∧ (let src := o.desc.buf + 16 * o.done; (o.kind = .program) ∧
    (¬ (∀ j, j < 4 → s.mem.parityBad (src + 4 * j) = false))) :=
  ⟨{OnRings.p1 with mem := {OnRings.p1.mem with bad := [(0x20004004, ())]}}, OnRings.op ({OnRings.p1 with mem := {OnRings.p1.mem with bad := [(0x20004004, ())]}}),
    by (dsimp only [State.quiet]) <;> decide +kernel⟩

theorem witness_FlashUnitsAndSectors_7 : ∃ (s : State) (o : FlashOp),
    s.quiet ∧ (s.flashActive = some o) ∧ (let src := o.desc.buf + 16 * o.done; (let fa := o.desc.opd 4 + 16 * o.done; (o.kind = .verify) ∧
    (s.steadyRuns = true) ∧ (o.pausing = false) ∧ (¬ (∀ j, j < 4 → s.mem.parityBad (src + 4 * j) = false) ∨ s.ecc fa = .failed))) :=
  ⟨{OnRings.v1 with mem := {OnRings.v1.mem with bad := [(0x20004004, ())]}}, OnRings.op ({OnRings.v1 with mem := {OnRings.v1.mem with bad := [(0x20004004, ())]}}),
    by (dsimp only [State.quiet]) <;> decide +kernel⟩

theorem witness_FlashSuspension_1 : ∃ (s : State) (o : FlashOp),
    s.quiet ∧ (s.steadyRuns = true) ∧ (s.flashRunning = some o) ∧ (o.pausing = false) ∧ (s.fld F.FLC_STAT_SUSPN < 32) ∧
    (s.flash.resvOn = true) :=
  ⟨{OnRings.p1 with flash := {OnRings.p1.flash with resvOn := true}}, OnRings.op OnRings.p1,
    by (dsimp only [State.quiet]) <;> decide +kernel⟩

theorem witness_FlashSuspension_2 : ∃ (s : State) (o : FlashOp),
    s.quiet ∧ (s.flashActive = some o) ∧ (o.pausing = true) :=
  ⟨OnRings.p3, OnRings.op OnRings.p3,
    by (dsimp only [State.quiet]) <;> decide +kernel⟩

theorem witness_FlashSuspension_3 : ∃ (s : State) (o : FlashOp),
    s.quiet ∧ (s.steadyRuns = true) ∧ (s.flash.op = some o) ∧ (s.flag F.FLC_STAT_SUSP = true) :=
  ⟨OnRings.p4, OnRings.op OnRings.p4,
    by (dsimp only [State.quiet]) <;> decide +kernel⟩

theorem witness_FlashSuspension_4 : ∃ (s : State) (o : FlashOp),
    s.quiet ∧ (s.steadyRuns = true) ∧ (s.flashRunning = some o) ∧ (o.pausing = false) ∧ (32 ≤ s.fld F.FLC_STAT_SUSPN) :=
  ⟨(OnRings.p1.wr [(F.FLC_STAT_SUSPN, 32)]), OnRings.op (OnRings.p1.wr [(F.FLC_STAT_SUSPN, 32)]),
    by (dsimp only [State.quiet]) <;> decide +kernel⟩

/-! ### ReservationIsProgrammed -/

theorem witness_ReservationIsProgrammed_1 : ∃ (s : State) (r : Resv) (more : List Resv) (h : Nat) (g : Word) (n : Nat),
    s.quiet ∧ (s.flash.resv = r :: more) ∧ (s.resvReady = true) ∧ (s.flash.op = none ∨ s.flash.resvOn = true) ∧
    (s.headSector = some (h, g)) ∧ (s.appendUnit h = some n) ∧ (s.has .cipher = true) ∧ (s.cip.waiting = none) ∧ (s.ledger.parity = []) ∧
    (s.flag F.CIP_STAT_SCANNED = false ∨ s.nonceSectors.any s.sectorErased = true) ∧ (let sp := s.acct 0x48; (sp.fits = true) ∧
    (sp.sound (s.win 0x48) = true) ∧ (let i := 0x60 + r.slot.val; (let a := s.acct i; (a.g + 1 < 2 ^ 32) ∧ (a.g = a.r + a.h + a.f) ∧
    ((a.f = 0 ∨ (s.win i).isOpen = true)) ∧ (s.wants r = true) ∧ (r.ret = false)))) :=
  ⟨OnRings.rvK false 1, ⟨3, 0, 7, false⟩, [], 101, 5, (101*512+1),
    by (dsimp only [State.quiet]) <;> decide +kernel⟩

theorem witness_ReservationIsProgrammed_2 : ∃ (s : State) (r : Resv) (more : List Resv) (h : Nat) (g : Word) (n : Nat),
    s.quiet ∧ (s.flash.resv = r :: more) ∧ (s.resvReady = true) ∧ (s.flash.op = none ∨ s.flash.resvOn = true) ∧
    (s.headSector = some (h, g)) ∧ (s.appendUnit h = some n) ∧ (s.has .cipher = true) ∧ (s.cip.waiting = none) ∧ (s.ledger.parity = []) ∧
    (s.flag F.CIP_STAT_SCANNED = false ∨ s.nonceSectors.any s.sectorErased = true) ∧ (let sp := s.acct 0x48; (sp.fits = true) ∧
    (sp.sound (s.win 0x48) = true) ∧ (let i := 0x60 + r.slot.val; (let a := s.acct i; (a.g + 1 < 2 ^ 32) ∧ (a.g = a.r + a.h + a.f) ∧
    ((a.f = 0 ∨ (s.win i).isOpen = true)) ∧ (s.wants r = false)))) :=
  ⟨OnRings.rvK false 3, ⟨3, 0, 7, false⟩, [], 101, 5, (101*512+1),
    by (dsimp only [State.quiet]) <;> decide +kernel⟩

theorem witness_ReservationIsProgrammed_3 : ∃ (s : State) (r : Resv) (more : List Resv) (h : Nat) (g : Word) (n : Nat),
    s.quiet ∧ (s.flash.resv = r :: more) ∧ (s.resvReady = true) ∧ (s.flash.op = none ∨ s.flash.resvOn = true) ∧
    (s.headSector = some (h, g)) ∧ (s.appendUnit h = some n) ∧ (s.has .cipher = true) ∧ (s.cip.waiting = none) ∧ (s.ledger.parity = []) ∧
    (s.flag F.CIP_STAT_SCANNED = false ∨ s.nonceSectors.any s.sectorErased = true) ∧ (let sp := s.acct 0x48; (sp.fits = true) ∧
    (sp.sound (s.win 0x48) = true) ∧ (let i := 0x60 + r.slot.val; (let a := s.acct i; (a.g + 1 < 2 ^ 32) ∧ (a.g = a.r + a.h + a.f) ∧
    ((a.f = 0 ∨ (s.win i).isOpen = true)) ∧ (s.wants r = true) ∧ (r.ret = true)))) :=
  ⟨OnRings.rvK true 1, ⟨3, 0, 7, true⟩, [], 101, 5, (101*512+1),
    by (dsimp only [State.quiet]) <;> decide +kernel⟩

/-! ### ScrubMovesOn -/

theorem witness_ScrubMovesOn_1 : ∃ (s : State) (d : Desc),
    s.quiet ∧ (s.steadyRuns = true) ∧ (s.flag F.FLC_SCRUB_EN = true) ∧ (s.flag F.PWR_STAT_FLRDY = true) ∧
    (s.scrubSkips s.scrubBank = false) ∧ (let pos := s.fld F.FLC_SSTAT_POS; (s.flag F.FLC_STAT_FORCED = false) ∧
    (s.ecc (unitAddr pos) = .good) ∧ (nsMem s.flash.cut pos = false) ∧ (s.fld F.FLC_SSTAT_DEFER < 63) ∧ (s.handedTo 1 1 = none) ∧
    s.offers 1 1 d ∧ (d.op = 0x10) ∧ (d.uflags = 0) ∧ (d.uparam = 0) ∧ (d.lenTop = 0) ∧ (d.buf = 0) ∧ (d.len = 0) ∧ (d.opd 4 = 0) ∧
    (d.opd 5 = 0) ∧ (d.opd 6 = 0) ∧ (d.opd 7 = 0)) :=
  ⟨(OnRings.scd []), OnRings.dsc (OnRings.scd []) 1 1,
    by (dsimp only [State.quiet, State.offers]) <;> decide +kernel⟩

theorem witness_ScrubMovesOn_2 : ∃ (s : State) (d : Desc),
    s.quiet ∧ (s.steadyRuns = true) ∧ (s.flag F.FLC_SCRUB_EN = true) ∧ (s.flag F.PWR_STAT_FLRDY = true) ∧
    (s.scrubSkips s.scrubBank = false) ∧ (s.flag F.FLC_STAT_FORCED = false) ∧ (s.fld F.FLC_SSTAT_DEFER = 63) :=
  ⟨(OnRings.sc [(F.FLC_SSTAT_DEFER, 63)]), OnRings.dsc (OnRings.sc [(F.FLC_SSTAT_DEFER, 63)]) 1 1,
    by (dsimp only [State.quiet]) <;> decide +kernel⟩

theorem witness_ScrubMovesOn_3 : ∃ (s : State) (d : Desc),
    s.quiet ∧ (s.steadyRuns = true) ∧ (s.flag F.FLC_SCRUB_EN = true) ∧ (s.flag F.PWR_STAT_FLRDY = true) ∧
    (s.scrubSkips s.scrubBank = false) ∧ (s.flag F.FLC_STAT_FORCED = true) :=
  ⟨(OnRings.sc [(F.FLC_STAT_FORCED, 1)]), OnRings.dsc (OnRings.sc [(F.FLC_STAT_FORCED, 1)]) 1 1,
    by (dsimp only [State.quiet]) <;> decide +kernel⟩

/-! ### TimeBaseAndChannels -/

theorem witness_TimeBaseReadsAndWrites : ∃ (s : State) (t : ThreadId) (n : Fin 16) (v : Word),
    s.quiet ∧ (s.steadyRuns = true) ∧ (s.on = true) ∧ (s.has .gnss = true) ∧ (s.lit .gnss = true) ∧ (1 ≤ s.fld F.GNS_PPSSTAT_STATE) ∧
    (s.fld F.GNS_PPSSTAT_STATE ≤ 3) :=
  ⟨(OnTimers.f0.lightUp .gnss).wr [(F.GNS_PPSSTAT_STATE, 1)], 3, 2, 0x700,
    by (dsimp only [State.quiet]) <;> decide +kernel⟩

theorem witness_CompareChannelsFire : ∃ (s : State) (n : Fin 16),
    s.quiet ∧ (s.on = true) ∧ (s.flag (F.CMP_CTL_EN n.val) = true) ∧ (s.fld (F.CMP_VAL_VAL n.val) = s.tick32.toNat) ∧
    (s.time.judged.getLsbD n.val = false) ∧ (s.route (0x40 + n.val) = none) ∧ (s.flag (F.CMP_CTL_WAKE n.val) = false) ∧
    ((∀ m, m < n → s.cmpDue m = false)) :=
  ⟨OnTimers.cm 1 [], 2,
    by (dsimp only [State.quiet]) <;> decide +kernel⟩

theorem witness_CompareWritesApply : ∃ (s : State) (n : Fin 16) (v : Word) (rel : Bool),
    s.quiet ∧ (s.on = true) ∧ (s.cmpDue n = false) ∧ (let at' : Nat := ((vget s.cmpw n).headD (0, CmpWrite.val 0)).1; (at' < s.now) ∧
    (vget s.cmpw n = [(at', if rel then CmpWrite.rel v else CmpWrite.val v)])) :=
  ⟨OnTimers.cw 0x80000000 true, 2, 0x80000000, true,
    by (dsimp only [State.quiet]) <;> decide +kernel⟩

/-! ### CountersCount -/

theorem witness_CountersCount_1 : ∃ (s : State) (n : Fin 8) (v : Word),
    s.quiet ∧ (s.counterCounts n = true) ∧ ((s.pre n).due = false) ∧ (1 ≤ s.fld (F.CNT_DIV_N n.val)) ∧ (s.fld (F.CNT_CTL_SRC n.val) = 1) ∧
    ((∀ m, m ≠ n → s.fld (F.CNT_CTL_SRC m.val) ≠ 1)) ∧ ((s.flag (F.CNT_CTL_CMPEV n.val) = false ∧ s.flag (F.CNT_CTL_OVFEV n.val) = false ∧
    s.flag (F.CNT_CTL_CMODE n.val) = false)) ∧ (let cnt := s.fld (F.CNT_COUNT_COUNT n.val); (s.on = true) ∧ (s.has .cnt = true) ∧
    (s.lit .steady = true) ∧ ((s.pre n).capDue = true) ∧ (s.steadyRuns = true) ∧
    (((s.pre n).due = true → (s.flag (F.CNT_CTL_CMPEV n.val) = false ∧ s.flag (F.CNT_CTL_OVFEV n.val) = false ∧
    s.flag (F.CNT_CTL_CMODE n.val) = false))) ∧ (s.flag (F.CNT_CTL_RUN n.val) = true)) :=
  ⟨{OnTimers.ct 1 7 [(F.CNT_CTL_SRC 2, 1),(F.CNT_DIV_N 2, 4)] with cnt := vset OnTimers.f0.cnt 2 ⟨5,true,false,false,3,false,true⟩}, 2, 0,
    by (dsimp only [State.quiet]) <;> decide +kernel⟩

theorem witness_CountersCount_2 : ∃ (s : State) (n : Fin 8) (v : Word),
    s.quiet ∧ (let cnt := s.fld (F.CNT_COUNT_COUNT n.val); (s.steadyRuns = true) ∧ (s.has .cnt = true) ∧
    (s.flag (F.CNT_CTL_RUN n.val) = false)) :=
  ⟨OnTimers.ct 0 4 [], 2, 0,
    by (dsimp only [State.quiet]) <;> decide +kernel⟩

theorem witness_CountersCount_3 : ∃ (s : State) (n : Fin 8) (v : Word),
    s.quiet ∧ (let cnt := s.fld (F.CNT_COUNT_COUNT n.val); (s.on = true) ∧ (s.has .cnt = true) ∧ (s.lit .steady = true) ∧
    ((s.pre n).due = true) ∧ (s.flag (F.CNT_CTL_CMPEV n.val) = false) ∧ (s.flag (F.CNT_CTL_OVFEV n.val) = false) ∧
    (s.flag (F.CNT_CTL_CMODE n.val) = false)) :=
  ⟨{OnTimers.ct 1 7 [] with cnt := vset OnTimers.f0.cnt 2 ⟨5,true,false,false,3,true,true⟩}, 2, 0,
    by (dsimp only [State.quiet]) <;> decide +kernel⟩

/-! ### CalendarKeepsTime -/

theorem witness_CalendarShadow_1 : ∃ (s : State),
    s.quiet ∧ (s.steadyRuns = true) ∧ (s.flag F.CAL_STAT_FROZEN = true) ∧ (1024 ≤ s.bak.age) :=
  ⟨{OnTimers.fr with bak := {OnTimers.fr.bak with age := 1024}},
    by (dsimp only [State.quiet]) <;> decide +kernel⟩

theorem witness_CalendarShadow_2 : ∃ (s : State),
    s.quiet ∧ (s.steadyRuns = true) ∧ (s.flag F.CAL_STAT_FROZEN = false) :=
  ⟨OnTimers.f0,
    by (dsimp only [State.quiet]) <;> decide +kernel⟩

theorem witness_CalendarCarries_1 : ∃ (s : State) (mv : Nat) (sw : Bool),
    s.quiet ∧ (let c := s.bak.cal;
    (let inRange (c : Calendar) : Prop := c.sub < 1024 ∧ c.sec < 60 ∧ c.min < 60 ∧ c.hour < 24 ∧ 1 ≤ c.wday ∧ c.wday ≤ 7 ∧ 2000 ≤ c.year ∧
        c.year ≤ 2199 ∧ 1 ≤ c.month ∧ c.month ≤ 12 ∧ 1 ≤ c.day ∧ c.day ≤ monthDays c.year c.month;
    (s.flag (F.SEAL_PEND 0x5000002C) = false) ∧ inRange c)) :=
  ⟨(OnTimers.cl 2199 12 31 23 59 59 1023 2), 2800, true,
    by (dsimp only [State.quiet]) <;> decide +kernel⟩

theorem witness_CalendarCarries_2 : ∃ (s : State) (mv : Nat) (sw : Bool),
    s.quiet ∧ (s.flag (F.SEAL_PEND 0x5000002C) = true) :=
  ⟨((OnTimers.cl 2100 2 28 23 59 59 1023 7).wr [(F.SEAL_PEND 0x5000002C, 1)]), 2800, true,
    by (dsimp only [State.quiet]) <;> decide +kernel⟩

theorem witness_CalendarSetStages_1 : ∃ (s : State) (date : Bool) (v : Word),
    s.quiet ∧ (s.steadyRuns = true) ∧
    (let good : Bool := if date then 2000 ≤ v.toNat / 65536 % 4096 && v.toNat / 65536 % 4096 ≤ 2199 && 1 ≤ v.toNat / 256 % 16 && v.toNat / 256 % 16 ≤ 12 && 1 ≤ v.toNat % 32 && v.toNat % 32 ≤ monthDays (v.toNat / 65536 % 4096) (v.toNat / 256 % 16) else v.toNat % 64 < 60 && v.toNat / 256 % 64 < 60 && v.toNat / 65536 % 32 < 24;
    (good = false)) :=
  ⟨OnTimers.f0, true, 0x0834021D,
    by (dsimp only [State.quiet]) <;> decide +kernel⟩

theorem witness_CalendarSetStages_2 : ∃ (s : State) (date : Bool) (v : Word),
    s.quiet ∧ (s.steadyRuns = true) ∧
    (let good : Bool := if date then 2000 ≤ v.toNat / 65536 % 4096 && v.toNat / 65536 % 4096 ≤ 2199 && 1 ≤ v.toNat / 256 % 16 && v.toNat / 256 % 16 ≤ 12 && 1 ≤ v.toNat % 32 && v.toNat % 32 ≤ monthDays (v.toNat / 65536 % 4096) (v.toNat / 256 % 16) else v.toNat % 64 < 60 && v.toNat / 256 % 64 < 60 && v.toNat / 65536 % 32 < 24;
    (good = true)) :=
  ⟨OnTimers.f0, false, 0x0834021D,
    by (dsimp only [State.quiet]) <;> decide +kernel⟩

/-! ### BackupDomain -/

theorem witness_BackupDomainEvents_1 : ∃ (s : State) (n : Nat) (v : Word),
    s.quiet ∧ (4 < n) ∧ (s.power.vdd = true) ∧ (s.steadyRuns = true) ∧ (v.toNat % 256 = 0x5C) :=
  ⟨OnTimers.f0, 5, 0x5C,
    by (dsimp only [State.quiet]) <;> decide +kernel⟩

theorem witness_BackupDomainEvents_2 : ∃ (s : State) (n : Nat) (v : Word),
    s.quiet ∧ (s.steadyRuns = true) ∧ (v.toNat % 256 ≠ 0x5C) :=
  ⟨OnTimers.f0, 3, 0x5D,
    by (dsimp only [State.quiet]) <;> decide +kernel⟩

theorem witness_BackupDomainEvents_3 : ∃ (s : State) (n : Nat) (v : Word),
    s.quiet ∧ (s.power.vdd = false) :=
  ⟨{OnTimers.f0 with power := {OnTimers.f0.power with vdd := false}}, 5, 0x5C,
    by (dsimp only [State.quiet]) <;> decide +kernel⟩

theorem witness_BackupSenseLatchesTamper_1 : ∃ (s : State) (high low : BitVec 8) (n : Fin 8),
    s.quiet ∧ (s.bak.onVbak = true) ∧ (32 ≤ s.bak.sense) ∧ (s.fldBit F.CAL_BSENSE_EN n.val = true) ∧
    ((high.getLsbD n.val = false ∨ low.getLsbD n.val = true)) ∧ ((∀ m : Fin 8, m ≠ n → s.fldBit F.CAL_BSENSE_EN m.val = false)) ∧
    (s.flag F.CAL_TSRC_VALID = false) :=
  ⟨OnTimers.bs 0, 0xFF, 8, 3,
    by (dsimp only [State.quiet]) <;> decide +kernel⟩

theorem witness_BackupSenseLatchesTamper_2 : ∃ (s : State) (high low : BitVec 8) (n : Fin 8),
    s.quiet ∧ (s.bak.onVbak = true) ∧ (32 ≤ s.bak.sense) ∧ (s.fldBit F.CAL_BSENSE_EN n.val = true) ∧
    ((high.getLsbD n.val = false ∨ low.getLsbD n.val = true)) ∧ ((∀ m : Fin 8, m ≠ n → s.fldBit F.CAL_BSENSE_EN m.val = false)) ∧
    (s.flag F.CAL_TSRC_VALID = true) :=
  ⟨OnTimers.bs 1, 0xFF, 8, 3,
    by (dsimp only [State.quiet]) <;> decide +kernel⟩

/-! ### DescriptorChecksInOrder -/

theorem witness_DescriptorChecksInOrder_1 : ∃ (s : State) (d : Desc) (n : RingId) (b : Fin 2) (ch : Nat),
    (d.op = 1) ∧ (ch = 2 ∨ ch = 3) :=
  ⟨OnThreads.f1, {OnCipher.dsc OnCipher.f0 2 0 with w := (OnCipher.dsc OnCipher.f0 2 0).w.set 0 (tw 1)}, 5, 0, 2,
    by decide +kernel⟩

theorem witness_DescriptorChecksInOrder_2 : ∃ (s : State) (d : Desc) (n : RingId) (b : Fin 2) (ch : Nat),
    (d.op = 2) :=
  ⟨OnThreads.f1, {OnCipher.dsc OnCipher.f0 2 0 with w := (OnCipher.dsc OnCipher.f0 2 0).w.set 0 (tw 2)}, 5, 0, 2,
    by decide +kernel⟩

/-! ### RadioOperations -/

theorem witness_RadioTakesOperations_1 : ∃ (s : State) (d : Desc),
    s.quiet ∧ (s.radio.op = none) ∧ s.offers 4 0 d ∧ (1 ≤ d.op) ∧ (d.op ≤ 5) ∧ (let t := s.taken 4 0 d; (t.radioCheck d = none)) :=
  ⟨OnRadio.ro OnRadio.txd, OnRadio.dsc (OnRadio.ro OnRadio.txd) 4 0,
    by (dsimp only [State.quiet, State.offers]) <;> decide +kernel⟩

theorem witness_RadioTakesOperations_2 : ∃ (s : State) (d : Desc),
    s.quiet ∧ (s.radio.op = none) ∧ (s.headDesc 4 0 = some d ∧ s.descBad d = false) ∧ (1 ≤ d.op) ∧ (d.op ≤ 5) ∧ (let t := s.taken 4 0 d;
    (t.radioCheck d).any (fun (st, r) => true) = true) :=
  ⟨OnRadio.ro OnRadio.late, OnRadio.dsc (OnRadio.ro OnRadio.late) 4 0,
    by (dsimp only [State.quiet]) <;> decide +kernel⟩

theorem witness_RadioOperationsBegin_1 : ∃ (s : State) (o : RadioOp),
    s.quiet ∧ (s.on = true) ∧ (s.lit .radio = true) ∧ (s.radio.op = some o) ∧ (o.active = false) ∧ (s.opMayBegin o = true) ∧
    (s.fld F.RAD_STAT_CALDEF < 16) ∧ (vget s.radio.relock (Fin.ofNat 2 o.desc.band) = false) ∧ (let d := o.desc; (let us := s.opUs d;
    (let bears := s.dutyBears d.band (s.dutyAt d.band) us; ((s.linkSends = false ∧
    (s.meshRuns = false ∨ s.overlaps (s.mt * oneFrac) (s.opTime d) = false))) ∧ (d.op = 1) ∧ ((s.engView 4 0).engRead d.buf d.len = .ok) ∧
    (plainRam d.buf = true) ∧ (bears = true)))) :=
  ⟨(OnRadio.taken OnRadio.txd), OnRadio.opOf (OnRadio.taken OnRadio.txd),
    by (dsimp only [State.quiet]) <;> decide +kernel⟩

theorem witness_RadioOperationsBegin_2 : ∃ (s : State) (o : RadioOp),
    s.quiet ∧ (s.on = true) ∧ (s.lit .radio = true) ∧ (s.radio.op = some o) ∧ (o.active = false) ∧ (s.opMayBegin o = true) ∧
    (s.fld F.RAD_STAT_CALDEF < 16) ∧ (vget s.radio.relock (Fin.ofNat 2 o.desc.band) = false) ∧ (let d := o.desc; ((s.linkSends = false ∧
    (s.meshRuns = false ∨ s.overlaps (s.mt * oneFrac) (s.opTime d) = false))) ∧ (d.op = 2 ∨ d.op = 4)) :=
  ⟨(OnRadio.taken OnRadio.rxd), OnRadio.opOf (OnRadio.taken OnRadio.rxd),
    by (dsimp only [State.quiet]) <;> decide +kernel⟩

theorem witness_RadioOperationsBegin_3 : ∃ (s : State) (o : RadioOp),
    s.quiet ∧ (s.on = true) ∧ (s.lit .radio = true) ∧ (s.radio.op = some o) ∧ (o.active = false) ∧ (s.opMayBegin o = true) ∧
    (s.fld F.RAD_STAT_CALDEF < 16) ∧ (vget s.radio.relock (Fin.ofNat 2 o.desc.band) = false) ∧ (let d := o.desc; (let us := s.opUs d;
    (let bears := s.dutyBears d.band (s.dutyAt d.band) us; ((s.linkSends = false ∧
    (s.meshRuns = false ∨ s.overlaps (s.mt * oneFrac) (s.opTime d) = false))) ∧ (d.op = 3) ∧ (bears = true)))) :=
  ⟨(OnRadio.taken OnRadio.ld), OnRadio.opOf (OnRadio.taken OnRadio.ld),
    by (dsimp only [State.quiet]) <;> decide +kernel⟩

theorem witness_RadioOperationsBegin_4 : ∃ (s : State) (o : RadioOp),
    s.quiet ∧ (s.on = true) ∧ (s.lit .radio = true) ∧ (s.radio.op = some o) ∧ (o.active = false) ∧ (s.opMayBegin o = true) ∧
    (s.fld F.RAD_STAT_CALDEF < 16) ∧ (vget s.radio.relock (Fin.ofNat 2 o.desc.band) = false) ∧ (let d := o.desc; ((s.linkSends = false ∧
    (s.meshRuns = false ∨ s.overlaps (s.mt * oneFrac) (s.opTime d) = false))) ∧ (d.op = 5) ∧ (s.linkSoon = false)) :=
  ⟨(OnRadio.taken OnRadio.cal), OnRadio.opOf (OnRadio.taken OnRadio.cal),
    by (dsimp only [State.quiet]) <;> decide +kernel⟩

theorem witness_RadioOperationsBegin_5 : ∃ (s : State) (o : RadioOp),
    s.quiet ∧ (s.on = true) ∧ (s.lit .radio = true) ∧ (s.radio.op = some o) ∧ (o.active = false) ∧ (s.opMayBegin o = true) ∧
    (s.fld F.RAD_STAT_CALDEF < 16) ∧ (vget s.radio.relock (Fin.ofNat 2 o.desc.band) = false) ∧ (let d := o.desc; (let us := s.opUs d;
    (let used := F.RAD_P_DUSED_US d.band; (let stat := F.RAD_STAT_LOCK.addr; (let bears := s.dutyBears d.band (s.dutyAt d.band) us;
    (let x : RadioOp := { o with active := true, began := if d.at' && !o.held then s.now * 65536 else s.timeBase.toNat };
    (let begun (u : State) (x : RadioOp) : Prop := u.radio = { s.radio with op := some x } ∧ u.flag F.RAD_STAT_LOCK = true;
    (let sends (e : Emission) : Prop := bears = true → Gives .radioOpBegin s (fun u => begun u { x with air := some e, airUs := us, win := s.dutyAt d.band, outcome := some (stOk, BitVec.ofNat 32 us) } ∧
        u.flag F.RAD_STAT_TXON = true ∧ u.fld used = min (2 ^ 32 - 1) (s.fld used + us) ∧ Keeps [stat, used.addr] s u);
    ((s.linkSends = false ∧ (s.meshRuns = false ∨ s.overlaps (s.mt * oneFrac) (s.opTime d) = false))) ∧ (d.sends = true) ∧
    (bears = false))))))))) :=
  ⟨(OnRadio.full (OnRadio.taken OnRadio.txd)), OnRadio.opOf (OnRadio.full (OnRadio.taken OnRadio.txd)),
    by (dsimp only [State.quiet]) <;> decide +kernel⟩

theorem witness_RadioOperationsBegin_6 : ∃ (s : State) (o : RadioOp),
    s.quiet ∧ (s.on = true) ∧ (s.lit .radio = true) ∧ (s.radio.op = some o) ∧ (o.active = false) ∧ (s.opMayBegin o = true) ∧
    (s.fld F.RAD_STAT_CALDEF < 16) ∧ (vget s.radio.relock (Fin.ofNat 2 o.desc.band) = false) ∧ (let d := o.desc; (d.at' = true) ∧
    (¬ (s.linkSends = false ∧ (s.meshRuns = false ∨ s.overlaps (s.mt * oneFrac) (s.opTime d) = false)))) :=
  ⟨OnRadio.at1n, OnRadio.opOf OnRadio.at1,
    by (dsimp only [State.quiet]) <;> decide +kernel⟩

theorem witness_RadioOperationsBegin_7 : ∃ (s : State) (o : RadioOp),
    s.quiet ∧ (s.on = true) ∧ (s.lit .radio = true) ∧ (s.radio.op = some o) ∧ (o.active = false) ∧ (s.opMayBegin o = true) ∧
    (s.fld F.RAD_STAT_CALDEF < 16) ∧ (vget s.radio.relock (Fin.ofNat 2 o.desc.band) = false) ∧ (let d := o.desc; ((s.linkSends = false ∧
    (s.meshRuns = false ∨ s.overlaps (s.mt * oneFrac) (s.opTime d) = false))) ∧ (d.op = 5) ∧ (s.linkSoon = true) ∧ (o.held = false)) :=
  ⟨OnRadio.calSoon, OnRadio.opOf OnRadio.calSoon,
    by (dsimp only [State.quiet]) <;> decide +kernel⟩

theorem witness_RadioOperationsEnd_1 : ∃ (s : State) (o : RadioOp) (x : RxChips) (first second : Word),
    s.quiet ∧ (s.radio.op = some o) ∧ (o.active = true) ∧ (let d := o.desc;
    (let outcome (i : Instr) (base : State) (st : Nat) (r : Word) (l : List Byte) : Prop := exec i s = .next { base with radio := { s.radio with op := some { o with outcome := some (st, r), bytes := l } } };
    (let window : Nat := o.began * oneFrac + s.opTime d;
    (¬ (if d.sends then o.began * oneFrac + o.airUs * oneUs ≤ s.nowU else o.outcome = none → window ≤ s.nowU)) ∧ (d.op = 2) ∧
    (o.outcome = none) ∧ (let q := s.syncAgree x.sync;
    (let h : BitVec 24 := BitVec.ofNat 24 (bitsNum (viterbi (Config.pathTie s.free) 24 ((x.soft ++ List.replicate 60 (false, 0)).take 60)));
    (let len := (h.extractLsb' 0 8).toNat;
    (let inTime (chips : Nat) : Prop := s.nowU - chipTime chips (s.rate d.band) ≤ window; (s.fld (F.RAD_P_RX_THRESH d.band) ≤ q) ∧
    ((headerCrc (h.extractLsb' 0 16) = h.extractLsb' 16 8)) ∧ (h.extractLsb' 8 4 = 0) ∧ (inTime (60 + 8 * len)) ∧ (len ≤ d.len) ∧
    (s.on = true)))))))) :=
  ⟨(OnRadio.on OnRadio.rxd), OnRadio.opOf (OnRadio.on OnRadio.rxd), OnRadio.rx1, 0xb38f0a65, 0xb38f0a65,
    by (dsimp only [State.quiet]) <;> decide +kernel⟩

theorem witness_RadioOperationsEnd_2 : ∃ (s : State) (o : RadioOp) (x : RxChips) (first second : Word),
    s.quiet ∧ (s.radio.op = some o) ∧ (o.active = true) ∧ (let d := o.desc;
    (let outcome (i : Instr) (base : State) (st : Nat) (r : Word) (l : List Byte) : Prop := exec i s = .next { base with radio := { s.radio with op := some { o with outcome := some (st, r), bytes := l } } };
    (let window : Nat := o.began * oneFrac + s.opTime d; (s.on = true) ∧
    ((if d.sends then o.began * oneFrac + o.airUs * oneUs ≤ s.nowU else o.outcome = none → window ≤ s.nowU)) ∧ (o.outcome = none) ∧
    (d.op = 2) ∧ (let q := s.syncAgree x.sync;
    (let h : BitVec 24 := BitVec.ofNat 24 (bitsNum (viterbi (Config.pathTie s.free) 24 ((x.soft ++ List.replicate 60 (false, 0)).take 60)));
    (let len := (h.extractLsb' 0 8).toNat;
    (let inTime (chips : Nat) : Prop := s.nowU - chipTime chips (s.rate d.band) ≤ window;
    (q < s.fld (F.RAD_P_RX_THRESH d.band) ∨ ((headerCrc (h.extractLsb' 0 16) = h.extractLsb' 16 8) ∧ h.extractLsb' 8 4 = 0 ∧
    ¬ inTime (60 + 8 * len)) ∨ (¬ (headerCrc (h.extractLsb' 0 16) = h.extractLsb' 16 8) ∧ ¬ inTime 60))))))))) :=
  ⟨(OnRadio.now (OnRadio.on OnRadio.rxd) 600000), OnRadio.opOf (OnRadio.now (OnRadio.on OnRadio.rxd) 600000), OnRadio.rx1, 0, 0,
    by (dsimp only [State.quiet]) <;> decide +kernel⟩

theorem witness_RadioOperationsEnd_3 : ∃ (s : State) (o : RadioOp) (x : RxChips) (first second : Word),
    s.quiet ∧ (s.radio.op = some o) ∧ (o.active = true) ∧ (let d := o.desc;
    (let outcome (i : Instr) (base : State) (st : Nat) (r : Word) (l : List Byte) : Prop := exec i s = .next { base with radio := { s.radio with op := some { o with outcome := some (st, r), bytes := l } } };
    (let window : Nat := o.began * oneFrac + s.opTime d; (d.op = 2) ∧ (o.outcome = none) ∧ (let q := s.syncAgree x.sync;
    (let h : BitVec 24 := BitVec.ofNat 24 (bitsNum (viterbi (Config.pathTie s.free) 24 ((x.soft ++ List.replicate 60 (false, 0)).take 60)));
    (let inTime (chips : Nat) : Prop := s.nowU - chipTime chips (s.rate d.band) ≤ window; (s.fld (F.RAD_P_RX_THRESH d.band) ≤ q) ∧
    (¬ (headerCrc (h.extractLsb' 0 16) = h.extractLsb' 16 8)) ∧ inTime 60)))))) :=
  ⟨(OnRadio.on OnRadio.rxd), OnRadio.opOf (OnRadio.on OnRadio.rxd), {OnRadio.rx1 with soft := OnRadio.hc (header 4 false false false false ^^^ 0x800000)}, 0xb38f0a65, 0xb38f0a65,
    by (dsimp only [State.quiet]) <;> decide +kernel⟩

theorem witness_RadioOperationsEnd_4 : ∃ (s : State) (o : RadioOp) (x : RxChips) (first second : Word),
    s.quiet ∧ (s.radio.op = some o) ∧ (o.active = true) ∧ (let d := o.desc;
    (let outcome (i : Instr) (base : State) (st : Nat) (r : Word) (l : List Byte) : Prop := exec i s = .next { base with radio := { s.radio with op := some { o with outcome := some (st, r), bytes := l } } };
    (let window : Nat := o.began * oneFrac + s.opTime d; (d.op = 4) ∧ (o.outcome = none) ∧ (s.radio.verify = false) ∧
    (s.lanternCode first second).any (fun (alarm, n) => decide ((s.nowU ≤ window))) = true))) :=
  ⟨(OnRadio.on OnRadio.ls), OnRadio.opOf (OnRadio.on OnRadio.ls), OnRadio.rx1, 0xb38f0a65, 0xb38f0a65,
    by (dsimp only [State.quiet]) <;> decide +kernel⟩

theorem witness_RadioOperationsEnd_5 : ∃ (s : State) (o : RadioOp) (x : RxChips) (first second : Word),
    s.quiet ∧ (s.radio.op = some o) ∧ (o.active = true) ∧ (let d := o.desc;
    (let outcome (i : Instr) (base : State) (st : Nat) (r : Word) (l : List Byte) : Prop := exec i s = .next { base with radio := { s.radio with op := some { o with outcome := some (st, r), bytes := l } } };
    (let window : Nat := o.began * oneFrac + s.opTime d; (d.op = 4) ∧ (o.outcome = none) ∧ (s.radio.verify = false) ∧
    (s.lanternCode first second = none ∨ window < s.nowU)))) :=
  ⟨(OnRadio.on OnRadio.ls), OnRadio.opOf (OnRadio.on OnRadio.ls), OnRadio.rx1, 0, 0,
    by (dsimp only [State.quiet]) <;> decide +kernel⟩

theorem witness_RadioOperationsEnd_6 : ∃ (s : State) (o : RadioOp) (x : RxChips) (first second : Word),
    s.quiet ∧ (s.radio.op = some o) ∧ (o.active = true) ∧ (let d := o.desc;
    (let outcome (i : Instr) (base : State) (st : Nat) (r : Word) (l : List Byte) : Prop := exec i s = .next { base with radio := { s.radio with op := some { o with outcome := some (st, r), bytes := l } } };
    (let window : Nat := o.began * oneFrac + s.opTime d; (o.outcome).any (fun (st, r) => decide ((s.on = true) ∧
    ((if d.sends then o.began * oneFrac + o.airUs * oneUs ≤ s.nowU else o.outcome = none → window ≤ s.nowU)) ∧ (o.bytes ≠ []) ∧
    ((s.engView 4 0).engWrite d.buf o.bytes.length = .ok) ∧ (plainRam d.buf = true) ∧
    (∀ k, k < o.bytes.length → s.watched (wordAddr (d.buf + k)) = none))) = true))) :=
  ⟨(OnRadio.run (.syncDetect OnRadio.rx1) (OnRadio.on OnRadio.rxd)), OnRadio.opOf (OnRadio.run (.syncDetect OnRadio.rx1) (OnRadio.on OnRadio.rxd)), OnRadio.rx1, 0xb38f0a65, 0xb38f0a65,
    by (dsimp only [State.quiet]) <;> decide +kernel⟩

theorem witness_RadioOperationsEnd_7 : ∃ (s : State) (o : RadioOp) (x : RxChips) (first second : Word),
    s.quiet ∧ (s.radio.op = some o) ∧ (o.active = true) ∧ (let d := o.desc;
    (let outcome (i : Instr) (base : State) (st : Nat) (r : Word) (l : List Byte) : Prop := exec i s = .next { base with radio := { s.radio with op := some { o with outcome := some (st, r), bytes := l } } };
    (let window : Nat := o.began * oneFrac + s.opTime d; (o.outcome).any (fun (st, r) => decide ((s.on = true) ∧
    ((if d.sends then o.began * oneFrac + o.airUs * oneUs ≤ s.nowU else o.outcome = none → window ≤ s.nowU)) ∧ (o.bytes = []))) = true))) :=
  ⟨(OnRadio.now (OnRadio.on OnRadio.txd) 600000), OnRadio.opOf (OnRadio.now (OnRadio.on OnRadio.txd) 600000), OnRadio.rx1, 0, 0,
    by (dsimp only [State.quiet]) <;> decide +kernel⟩

/-! ### RadioPoolAndHousekeeping -/

theorem witness_PoolBuffersMove_1 : ∃ (s : State) (d : Desc),
    s.quiet ∧ (s.headDesc 4 1 = some d ∧ s.descBad d = false) ∧ (s.has (pathUnit d.band) = true) ∧ (d.poolBadOp = false) ∧
    (s.ledger.parity = []) ∧ (let a := s.acct 0x50; (d.op = 0x10) ∧ (s.lowestFree).any (fun i => decide (((a.fits = true ∧
    a.g = a.r + a.h + a.f ∧ (a.f = 0 ∨ (s.win 0x50).isOpen = true))) ∧ (1 ≤ a.r))) = true) :=
  ⟨OnRadio.po [0x10,0,0,0,0,0,0,0] 1, OnRadio.dsc (OnRadio.po [0x10,0,0,0,0,0,0,0] 1) 4 1,
    by (dsimp only [State.quiet]) <;> decide +kernel⟩

theorem witness_PoolBuffersMove_2 : ∃ (s : State) (d : Desc),
    s.quiet ∧ s.offers 4 1 d ∧ (s.has (pathUnit d.band) = true) ∧ (d.poolBadOp = false) ∧ (s.ledger.parity = []) ∧ (d.op = 0x10) ∧
    (s.lowestFree = none) :=
  ⟨OnRadio.po [0x10,0,0,0,0,0,0,0] 0, OnRadio.dsc (OnRadio.po [0x10,0,0,0,0,0,0,0] 0) 4 1,
    by (dsimp only [State.quiet, State.offers]) <;> decide +kernel⟩

theorem witness_PoolBuffersMove_3 : ∃ (s : State) (d : Desc),
    s.quiet ∧ s.offers 4 1 d ∧ (s.has (pathUnit d.band) = true) ∧ (d.poolBadOp = false) ∧ (s.ledger.parity = []) ∧ (let a := s.acct 0x50;
    (d.op = 0x11) ∧ (s.bufSt (d.opd 4) = .soft) ∧ ((a.fits = true ∧ a.g = a.r + a.h + a.f ∧ (a.f = 0 ∨ (s.win 0x50).isOpen = true))) ∧
    (1 ≤ a.h)) :=
  ⟨OnRadio.po [0x11,0,0,0,3,0,0,0] 1, OnRadio.dsc (OnRadio.po [0x11,0,0,0,3,0,0,0] 1) 4 1,
    by (dsimp only [State.quiet, State.offers]) <;> decide +kernel⟩

theorem witness_PoolBuffersMove_4 : ∃ (s : State) (d : Desc),
    s.quiet ∧ s.offers 4 1 d ∧ (s.has (pathUnit d.band) = true) ∧ (d.poolBadOp = false) ∧ (s.ledger.parity = []) ∧ (d.op = 0x11) ∧
    (s.bufSt (d.opd 4) ≠ .soft) :=
  ⟨OnRadio.po [0x11,0,0,0,4,0,0,0] 1, OnRadio.dsc (OnRadio.po [0x11,0,0,0,4,0,0,0] 1) 4 1,
    by (dsimp only [State.quiet, State.offers]) <;> decide +kernel⟩

theorem witness_RadioHousekeeping_1 : ∃ (s : State) (p : Fin 2) (deg dbm : Int) (first second : Word),
    s.quiet ∧ (let r := s.radio; (s.sniffs = true) ∧ (r.lead = false) ∧ (r.sniffNext ≠ s.now + 17) ∧ (s.flag F.RAD_STAT_SNIFFING = true)) :=
  ⟨OnRadio.rad (OnRadio.ver OnRadio.vig) fun r => {r with verifyTo := 2^70}, 0, 30, (-40), 0xb38f0a65, 0xb38f0a65,
    by (dsimp only [State.quiet]) <;> decide +kernel⟩

theorem witness_RadioHousekeeping_2 : ∃ (s : State) (p : Fin 2) (deg dbm : Int) (first second : Word),
    s.quiet ∧ (let r := s.radio; ((r.verify = true ∧ s.nowU ≤ r.verifyTo)) ∧ (s.lanternCode first second).any (fun q => match q with | (false, n) => decide ((s.fldBit F.PWR_WAKEEN_SRC 2 = true) ∧ (s.on = true) ∧ (s.pstate = 1) ∧ (s.power.entry = none) ∧ (s.late = []) ∧ (s.power.heldReq = []) ∧ (s.flag F.CIP_LOCK_HELD = false)) | _ => false) = true) :=
  ⟨OnRadio.rad (OnRadio.ver OnRadio.vig) fun r => {r with verifyTo := 2^70}, 0, 30, (-40), 0xb38f0a65, 0xb38f0a65,
    by (dsimp only [State.quiet]) <;> decide +kernel⟩

theorem witness_RadioHousekeeping_3 : ∃ (s : State) (p : Fin 2) (deg dbm : Int) (first second : Word),
    s.quiet ∧ (let r := s.radio; (let now' : State := { s with radio := { r with temp := deg } }; (s.on = true) ∧ (s.lit .radio = true) ∧
    (now'.calDue p = true) ∧ (now'.airSoon = false) ∧ (let edge := vget r.dutyAt p + s.dutyWindow p.val; (edge ≤ s.now)))) :=
  ⟨OnRadio.f0.wr [(F.RAD_P_DUTY_WINS 0,1),(F.RAD_P_DUSED_US 0,5)], 0, 30, (-40), 0xb38f0a65, 0xb38f0a64,
    by (dsimp only [State.quiet]) <;> decide +kernel⟩

theorem witness_RadioHousekeeping_4 : ∃ (s : State) (p : Fin 2) (deg dbm : Int) (first second : Word),
    s.quiet ∧ (let r := s.radio; (let now' : State := { s with radio := { r with temp := deg } }; (s.on = true) ∧ (s.lit .radio = true) ∧
    (now'.calDue p = true) ∧ (now'.airSoon = true))) :=
  ⟨OnRadio.slr (OnRadio.calr OnRadio.f0), 0, 30, (-40), 0xb38f0a65, 0xb38f0a65,
    by (dsimp only [State.quiet]) <;> decide +kernel⟩

theorem witness_RadioHousekeeping_5 : ∃ (s : State) (p : Fin 2) (deg dbm : Int) (first second : Word),
    s.quiet ∧ (let r := s.radio; (s.sniffs = true) ∧ (s.lit .radio = true) ∧ (r.lead = true) ∧ (r.sniffNext = s.now) ∧
    (s.flag F.RAD_STAT_SNIFFING = false)) :=
  ⟨OnRadio.rad (OnRadio.now OnRadio.vigL 500000) fun r => {r with sniffNext := 500000, lead := true}, 0, 30, (-40), 0xb38f0a65, 0xb38f0a65,
    by (dsimp only [State.quiet]) <;> decide +kernel⟩

theorem witness_RadioHousekeeping_6 : ∃ (s : State) (p : Fin 2) (deg dbm : Int) (first second : Word),
    s.quiet ∧ (let r := s.radio; ((r.verify = true ∧ s.nowU ≤ r.verifyTo)) ∧ (s.lanternCode first second).any (fun q => match q with | (false, n) => decide ((s.fldBit F.PWR_WAKEEN_SRC 2 = false)) | _ => false) = true) :=
  ⟨OnRadio.rad ((OnRadio.ver OnRadio.vigD).wr [(F.PWR_WAKEEN_SRC, 0)]) fun r => {r with verifyTo := 2^70}, 0, 30, (-40), 0xb38f0a65, 0xb38f0a65,
    by (dsimp only [State.quiet]) <;> decide +kernel⟩

theorem witness_RadioHousekeeping_7 : ∃ (s : State) (p : Fin 2) (deg dbm : Int) (first second : Word),
    s.quiet ∧ (let r := s.radio; (let now' : State := { s with radio := { r with temp := deg } }; (s.on = true) ∧ (s.lit .radio = true) ∧
    (now'.calDue p = false))) :=
  ⟨OnRadio.f0.wr [(F.RAD_CTL_CALAUTO,0)], 0, 30, (-40), 0, 0,
    by (dsimp only [State.quiet]) <;> decide +kernel⟩

theorem witness_RadioHousekeeping_8 : ∃ (s : State) (p : Fin 2) (deg dbm : Int) (first second : Word),
    s.quiet ∧ (let r := s.radio; (s.sniffs = true) ∧ (r.lead = false) ∧ (r.sniffNext = s.now + 17)) :=
  ⟨OnRadio.rad (OnRadio.now OnRadio.vig 500000) (fun r => {r with sniffNext := 500017}), 0, 30, (-40), 0, 0,
    by (dsimp only [State.quiet]) <;> decide +kernel⟩

/-! ### MeshDescriptors -/

theorem witness_MeshQueuesTakeFrames_1 : ∃ (s : State) (d : Desc) (ch : Nat),
    s.quiet ∧ (s.ledger.parity = []) ∧ (s.handedTo 5 ch = none) ∧ s.offers 5 ch d ∧ (let t := s.taken 5 ch d;
    (let i := (s.bufIndex d.buf).getD 0; (let e := d.opd 4; (let a := s.acct (fwd e); (let f : MFrame := ⟨d, i, 0⟩; (ch = 0) ∧
    (t.sendCheck d = none) ∧ (d.unicast = true) ∧ (a.fits = true) ∧ (a.g = a.r + a.h + a.f) ∧
    ((a.f = 0 ∨ (s.win (fwd e)).isOpen = true))))))) :=
  ⟨OnMesh.snd [1,0,0x20010300,20,2,0,0,0], OnMesh.dsc (OnMesh.snd [1,0,0x20010300,20,2,0,0,0]) 5 0, 0,
    by (dsimp only [State.quiet, State.offers]) <;> decide +kernel⟩

theorem witness_MeshQueuesTakeFrames_2 : ∃ (s : State) (d : Desc) (ch : Nat),
    s.quiet ∧ (s.ledger.parity = []) ∧ (s.handedTo 5 ch = none) ∧ s.offers 5 ch d ∧ (let t := s.taken 5 ch d; (ch = 0) ∧
    (t.sendCheck d = none) ∧ (d.mBcast = true)) :=
  ⟨OnMesh.snd [1+16*65536,0,0x20010300,20,0,0,0,0], OnMesh.dsc (OnMesh.snd [1+16*65536,0,0x20010300,20,0,0,0,0]) 5 0, 0,
    by (dsimp only [State.quiet, State.offers]) <;> decide +kernel⟩

theorem witness_MeshQueuesTakeFrames_3 : ∃ (s : State) (d : Desc) (ch : Nat),
    s.quiet ∧ (s.ledger.parity = []) ∧ (s.handedTo 5 ch = none) ∧ s.offers 5 ch d ∧ (let t := s.taken 5 ch d; (ch = 0) ∧
    (t.sendCheck d = none) ∧ (d.mShared = true)) :=
  ⟨OnMesh.snd [1+64*65536,0,0x20010300,20,0,9,0,0], OnMesh.dsc (OnMesh.snd [1+64*65536,0,0x20010300,20,0,9,0,0]) 5 0, 0,
    by (dsimp only [State.quiet, State.offers]) <;> decide +kernel⟩

theorem witness_MeshQueuesTakeFrames_4 : ∃ (s : State) (d : Desc) (ch : Nat),
    s.quiet ∧ (s.ledger.parity = []) ∧ (s.handedTo 5 ch = none) ∧ s.offers 5 ch d ∧ (let t := s.taken 5 ch d; (ch = 0) ∧
    (t.sendCheck d).isSome = true) :=
  ⟨OnMesh.snd [1,0,0x20010300,20,3,0,0,0], OnMesh.dsc (OnMesh.snd [1,0,0x20010300,20,3,0,0,0]) 5 0, 0,
    by (dsimp only [State.quiet, State.offers]) <;> decide +kernel⟩

theorem witness_MeshQueuesTakeFrames_5 : ∃ (s : State) (d : Desc) (ch : Nat),
    s.quiet ∧ (s.ledger.parity = []) ∧ (s.handedTo 5 ch = none) ∧ s.offers 5 ch d ∧ (let code : Nat := if ch = 2 then 0x10 else 0x11;
    (ch = 2 ∨ ch = 3) ∧ (d.slotBad code = false)) :=
  ⟨(OnMesh.f0.offer 5 2 ([0x10,0,0,0,0,0,0,0].map tw)), OnMesh.dsc (OnMesh.f0.offer 5 2 ([0x10,0,0,0,0,0,0,0].map tw)) 5 2, 2,
    by (dsimp only [State.quiet, State.offers]) <;> decide +kernel⟩

theorem witness_MeshQueuesTakeFrames_6 : ∃ (s : State) (d : Desc) (ch : Nat),
    s.quiet ∧ (s.ledger.parity = []) ∧ (s.handedTo 5 ch = none) ∧ s.offers 5 ch d ∧ (let code : Nat := if ch = 2 then 0x10 else 0x11;
    (ch = 2 ∨ ch = 3) ∧ (d.slotBad code = true)) :=
  ⟨(OnMesh.f0.offer 5 2 ([0x11,0,0,0,0,0,0,0].map tw)), OnMesh.dsc (OnMesh.f0.offer 5 2 ([0x11,0,0,0,0,0,0,0].map tw)) 5 2, 2,
    by (dsimp only [State.quiet, State.offers]) <;> decide +kernel⟩

theorem witness_MeshControl_1 : ∃ (s : State) (d : Desc),
    s.quiet ∧ (s.ledger.parity = []) ∧ s.offers 5 1 d ∧ (d.ctlBadOp = false) ∧ (let e := d.entry; (let a := d.opd 4 % 2 ^ 16; (d.op = 1) ∧
    (¬ (s.nbrSt e ≠ 0 ∨ ∃ j, j < 64 ∧ s.nbrSt j ≠ 0 ∧ s.fld (F.NBR_ST_ADDR j) = a)))) :=
  ⟨OnMesh.ctl OnMesh.f0 [1,0,0,0,0x00820007,0x03000055,0,0], OnMesh.dsc (OnMesh.ctl OnMesh.f0 [1,0,0,0,0x00820007,0x03000055,0,0]) 5 1,
    by (dsimp only [State.quiet, State.offers]) <;> decide +kernel⟩

theorem witness_MeshControl_2 : ∃ (s : State) (d : Desc),
    s.quiet ∧ (s.ledger.parity = []) ∧ s.offers 5 1 d ∧ (d.ctlBadOp = false) ∧ (let e := d.entry; (let a := d.opd 4 % 2 ^ 16; (d.op = 1) ∧
    ((s.nbrSt e ≠ 0 ∨ ∃ j, j < 64 ∧ s.nbrSt j ≠ 0 ∧ s.fld (F.NBR_ST_ADDR j) = a)))) :=
  ⟨OnMesh.ctl (OnMesh.nb OnMesh.f0 1) [1,0,0,0,0x00020007,0x03000055,0,0], OnMesh.dsc (OnMesh.ctl (OnMesh.nb OnMesh.f0 1) [1,0,0,0,0x00020007,0x03000055,0,0]) 5 1,
    by (dsimp only [State.quiet, State.offers]) <;> decide +kernel⟩

theorem witness_MeshControl_3 : ∃ (s : State) (d : Desc),
    s.quiet ∧ (s.ledger.parity = []) ∧ s.offers 5 1 d ∧ (d.ctlBadOp = false) ∧ (let e := d.entry; (d.op = 2) ∧ (s.nbrSt e ≠ 0) ∧
    ((s.nbr e).evict = none) ∧ (s.slotOn e = false) ∧ ((s.nbr e).queue = [])) :=
  ⟨OnMesh.ctl (OnMesh.nb OnMesh.f0 1) [2,0,0,0,0x00020000,0,0,0], OnMesh.dsc (OnMesh.ctl (OnMesh.nb OnMesh.f0 1) [2,0,0,0,0x00020000,0,0,0]) 5 1,
    by (dsimp only [State.quiet, State.offers]) <;> decide +kernel⟩

theorem witness_MeshControl_4 : ∃ (s : State) (d : Desc),
    s.quiet ∧ (s.ledger.parity = []) ∧ s.offers 5 1 d ∧ (d.ctlBadOp = false) ∧ (let e := d.entry; (d.op = 2) ∧ (s.nbrSt e = 0)) :=
  ⟨OnMesh.ctl OnMesh.f0 [2,0,0,0,0x00020000,0,0,0], OnMesh.dsc (OnMesh.ctl OnMesh.f0 [2,0,0,0,0x00020000,0,0,0]) 5 1,
    by (dsimp only [State.quiet, State.offers]) <;> decide +kernel⟩

theorem witness_MeshControl_5 : ∃ (s : State) (d : Desc),
    s.quiet ∧ (s.ledger.parity = []) ∧ s.offers 5 1 d ∧ (d.ctlBadOp = false) ∧ (d.op = 3) ∧ (s.hst = 0) :=
  ⟨OnMesh.ctl OnMesh.f0 [3,0,0,0,0,0,0,0], OnMesh.dsc (OnMesh.ctl OnMesh.f0 [3,0,0,0,0,0,0,0]) 5 1,
    by (dsimp only [State.quiet, State.offers]) <;> decide +kernel⟩

theorem witness_MeshControl_6 : ∃ (s : State) (d : Desc),
    s.quiet ∧ (s.ledger.parity = []) ∧ s.offers 5 1 d ∧ (d.ctlBadOp = false) ∧ (d.op = 3) ∧ (s.hst = 2 ∨ s.hst = 3) ∧ (d.uparam = 0) :=
  ⟨OnMesh.hs (OnMesh.ctl OnMesh.f0 [3,0,0,0,0,0,0,0]) 2, OnMesh.dsc (OnMesh.hs (OnMesh.ctl OnMesh.f0 [3,0,0,0,0,0,0,0]) 2) 5 1,
    by (dsimp only [State.quiet, State.offers]) <;> decide +kernel⟩

theorem witness_MeshControl_7 : ∃ (s : State) (d : Desc),
    s.quiet ∧ (s.ledger.parity = []) ∧ s.offers 5 1 d ∧ (d.ctlBadOp = false) ∧ (d.op = 4) ∧ (s.proposeOk d = true) :=
  ⟨OnMesh.ctl OnMesh.f0 [4,0,0,0,OnMesh.f0.cycleNow + 2,OnMesh.f0.cycleNow+5,3,0], OnMesh.dsc (OnMesh.ctl OnMesh.f0 [4,0,0,0,OnMesh.f0.cycleNow + 2,OnMesh.f0.cycleNow+5,3,0]) 5 1,
    by (dsimp only [State.quiet, State.offers]) <;> decide +kernel⟩

theorem witness_MeshControl_8 : ∃ (s : State) (d : Desc),
    s.quiet ∧ (s.ledger.parity = []) ∧ s.offers 5 1 d ∧ (d.ctlBadOp = false) ∧ (d.op = 4) ∧ (s.proposeOk d = false) :=
  ⟨OnMesh.ctl OnMesh.f0 [4,0,0,0,OnMesh.f0.cycleNow + 1,OnMesh.f0.cycleNow+5,3,0], OnMesh.dsc (OnMesh.ctl OnMesh.f0 [4,0,0,0,OnMesh.f0.cycleNow + 1,OnMesh.f0.cycleNow+5,3,0]) 5 1,
    by (dsimp only [State.quiet, State.offers]) <;> decide +kernel⟩

/-! ### MeshScheduleAndHoliday -/

theorem witness_MeshSchedule_1 : ∃ (s : State),
    s.quiet ∧ (s.ledger.parity = []) ∧ (s.steadyRuns = true) ∧ (s.flag F.MSH_CTL_RUN = false) ∧ (s.mesh.stopping = false) ∧
    (let k := s.slotAbs; (let w := s.schedWord k; ((s.on = true ∧ s.meshRuns = true ∧ s.mesh.stopping = false ∧ s.boundaryDue = true ∧
    s.mesh.slot = none ∧ s.badSlot k = false ∧ s.sealPend .rad = false ∧ s.mesh.step = none ∧ s.mesh.flood = false ∧ s.lit .radio = true ∧
    s.linkSends = false ∧ s.mesh.wide = [] ∧ s.mesh.deaf = [] ∧ vget s.radio.relock (Fin.ofNat 2 (entryBand w)) = false)) ∧
    (entryType w = 0))) :=
  ⟨OnMesh.f0.wr [(F.MSH_CTL_RUN,0)],
    by (dsimp only [State.quiet]) <;> decide +kernel⟩

theorem witness_MeshSchedule_2 : ∃ (s : State),
    s.quiet ∧ (s.ledger.parity = []) ∧ (s.on = true) ∧ (s.flag F.MSH_CTL_RUN = true) ∧ (s.fld F.MSH_CYCNO_CYCLE ≠ s.cycleNow) ∧
    (s.sealPend .msh = false) ∧ (s.hst = 0) :=
  ⟨OnMesh.sl (OnMesh.nb OnMesh.f0 1) (2+16*2),
    by (dsimp only [State.quiet]) <;> decide +kernel⟩

theorem witness_MeshSchedule_3 : ∃ (s : State),
    s.quiet ∧ (s.ledger.parity = []) ∧ (let k := s.slotAbs; (let w := s.schedWord k; (let e := entryNbr w; (let a := s.acct 0x50;
    ((s.on = true ∧ s.meshRuns = true ∧ s.mesh.stopping = false ∧ s.boundaryDue = true ∧ s.mesh.slot = none ∧ s.badSlot k = false ∧
    s.sealPend .rad = false ∧ s.mesh.step = none ∧ s.mesh.flood = false ∧ s.lit .radio = true ∧ s.linkSends = false ∧ s.mesh.wide = [] ∧
    s.mesh.deaf = [] ∧ vget s.radio.relock (Fin.ofNat 2 (entryBand w)) = false)) ∧ (entryType w = 2) ∧ ((s.nbrSt e = 1 ∧
    s.fld (F.NBR_ST_MISSN e) < s.fld F.MSH_LOST_MISS)) ∧ (s.lowestFree).any (fun i => decide (((a.fits = true ∧ a.g = a.r + a.h + a.f ∧
    (a.f = 0 ∨ (s.win 0x50).isOpen = true))) ∧ (1 ≤ a.r))) = true)))) :=
  ⟨OnMesh.sl (OnMesh.nb OnMesh.f0 1) (2+16*2),
    by (dsimp only [State.quiet]) <;> decide +kernel⟩

theorem witness_MeshSchedule_4 : ∃ (s : State),
    s.quiet ∧ (s.ledger.parity = []) ∧ (s.on = true) ∧ (s.mesh.stopping = true) ∧ (s.boundaryDue = true) ∧ (s.flag F.MSH_CTL_RUN = false) ∧
    (s.mesh.slot = none) ∧ ((∀ j, (s.nbr j).queue = [])) ∧ (s.mesh.bcast = []) ∧ (s.mesh.shared = []) ∧ (s.mesh.held = []) ∧
    (s.radio.air = []) ∧ (s.hst = 0) :=
  ⟨{OnMesh.f0 with mesh := {OnMesh.f0.mesh with stopping := true}}.wr [(F.MSH_CTL_RUN,0)], by dsimp only [State.quiet]; decide +kernel, by decide +kernel,
    by decide +kernel, by decide +kernel, by decide +kernel, by decide +kernel, by decide +kernel, fun _ => rfl, by decide +kernel,
    by decide +kernel, by decide +kernel, by decide +kernel, by decide +kernel⟩

theorem witness_MeshSchedule_5 : ∃ (s : State),
    s.quiet ∧ (s.ledger.parity = []) ∧ (s.on = true) ∧ (s.flag F.MSH_CTL_RUN = true) ∧ (s.fld F.MSH_CYCNO_CYCLE ≠ s.cycleNow) ∧
    (s.sealPend .msh = false) ∧ (s.hst = 4) ∧ (s.mesh.flood = false) :=
  ⟨OnMesh.hs OnMesh.f0 4,
    by (dsimp only [State.quiet]) <;> decide +kernel⟩

theorem witness_MeshSchedule_6 : ∃ (s : State),
    s.quiet ∧ (s.ledger.parity = []) ∧ (let a := s.acct 0x50; (s.on = true) ∧ (s.boundaryDue = true) ∧
    (s.mesh.slot).any (fun x => decide ((x.frame = none) ∧ (x.buf).any (fun i => decide ((s.bufSt i = .slot) ∧ (x.synced = true) ∧
    ((a.fits = true ∧ a.g = a.r + a.h + a.f ∧ (a.f = 0 ∨ (s.win 0x50).isOpen = true))) ∧ (1 ≤ a.f) ∧
    ((a.f = 1 ∨ 1 < (s.win 0x50).slot)))) = true)) = true) :=
  ⟨OnMesh.slx OnMesh.sE {OnMesh.getX OnMesh.rxs with synced := true},
    by (dsimp only [State.quiet]) <;> decide +kernel⟩

theorem witness_MeshSchedule_send : ∃ (s : State) (f : MFrame) (r : List MFrame), s.quiet ∧ s.ledger.parity = [] ∧
    s.on = true ∧ s.meshRuns = true ∧ s.mesh.stopping = false ∧ s.boundaryDue = true ∧ s.mesh.slot = none ∧
    s.badSlot s.slotAbs = false ∧ s.sealPend .rad = false ∧ s.mesh.step = none ∧ s.mesh.flood = false ∧ s.lit .radio = true ∧ s.linkSends = false ∧
    s.mesh.wide = [] ∧ s.mesh.deaf = [] ∧
    (let w := s.schedWord s.slotAbs; let e := entryNbr w; vget s.radio.relock (Fin.ofNat 2 (entryBand w)) = false ∧ entryType w = 1 ∧
      s.nbrSt e = 1 ∧ s.fld (F.NBR_ST_MISSN e) < s.fld F.MSH_LOST_MISS ∧ s.voteDue e = false ∧
      s.mesh.hveto = false ∧ (s.nbr e).queue = f :: r ∧ s.fitsSlot (entryBand w) f.desc = true ∧
      (s.engRead (f.desc.buf + 8) (f.desc.len - 8)).badStatus = none ∧
      s.fld (F.RAD_P_DUTY_BUDGET (entryBand w)) = 0) :=
  ⟨OnMesh.sl OnMesh.sendQ (1+16*2+1024), ((OnMesh.sl OnMesh.sendQ (1+16*2+1024)).nbr 2).queue.headD ⟨OnMesh.dsc OnMesh.f0 5 0, 0, 0⟩, [],
    by dsimp only [State.quiet]; decide +kernel⟩

theorem witness_MeshHoliday_1 : ∃ (s : State) (e : Fin 64),
    s.quiet ∧ (s.on = true) ∧ (s.hst = 1) ∧ (s.flag F.MSH_HSTAT_COORD = true) ∧ (s.cycleReached (s.fld F.MSH_HCOMMIT_CYCLE) = true) ∧
    (s.hst = 1 ∨ s.hst = 2) ∧ (s.cycleReached (s.fld F.MSH_HSTART_CYCLE) = true) ∧ (s.mesh.slot = none) ∧ (s.steadyRuns = true) :=
  ⟨OnMesh.hol 1 OnMesh.cy OnMesh.cy 5, 2,
    by (dsimp only [State.quiet]) <;> decide +kernel⟩

theorem witness_MeshHoliday_2 : ∃ (s : State) (e : Fin 64),
    s.quiet ∧ (s.on = true) ∧ (s.hst = 3) ∧ (s.cycleReached s.holidayEndCycle = true) ∧ (s.mesh.held = []) :=
  ⟨OnMesh.hol 3 0 1 2, 2,
    by (dsimp only [State.quiet]) <;> decide +kernel⟩

theorem witness_MeshHoliday_3 : ∃ (s : State) (e : Fin 64),
    s.quiet ∧ (s.on = true) ∧ (let p := s.searchBand e.val; (let used := F.RAD_P_DUSED_US p;
    (let em := s.lanternAir p 0 (s.fld F.MSH_LANT_LDUR) false; (let us := inUs em.time; (s.meshRuns = true) ∧ (s.nbrSt e.val = 4) ∧
    (s.fld F.MSH_LOST_SPER ≤ (s.cycleNow + 2 ^ 32 - (s.nbr e.val).lastLantern) % 2 ^ 32) ∧ (s.slotOwned s.slotAbs = false) ∧
    (s.linkSends = false) ∧ (s.opOnAir = false) ∧ (vget s.radio.relock (Fin.ofNat 2 p) = false) ∧ (s.fld (F.RAD_P_DUTY_BUDGET p) = 0) ∧
    (s.fld used + us < 2 ^ 32) ∧ (s.now < s.dutyAt p + s.dutyWindow p))))) :=
  ⟨{(OnMesh.nb OnMesh.f0 4).wr [(F.RAD_P_DUTY_BUDGET 0,0)] with mesh := {(OnMesh.nb OnMesh.f0 4).mesh with nbr := smSet (fun _ => Nbr.empty) (OnMesh.nb OnMesh.f0 4).mesh.nbr 2 {(OnMesh.nb OnMesh.f0 4).nbr 2 with lastLantern := (OnMesh.cy + 2^32 - 4000) % 2^32}}}, 2,
    by (dsimp only [State.quiet]) <;> decide +kernel⟩

/-! ### MeshFrames -/

theorem witness_MeshFrames_1 : ∃ (s : State) (f : RxFrame) (x : Slot) (i b : Nat) (d : Desc) (g : Heard),
    s.quiet ∧ (s.on = true) ∧ (s.mesh.slot = some x) ∧ (let l := g.bytes; (let src := leNum l 4 2; (let p := entryBand x.entry;
    (let a := s.acct 0x50; (let received := s.hear p f = some g; (let heard : Slot := { x with heard := true }; (((received ∧
    s.lit .radio = true ∧ s.fld F.MSH_STAT_STATE = 2 ∧ s.meshRuns = true ∧ x.sent = false ∧ x.heard = false ∧ x.void = false ∧
    x.buf = some i ∧ entryType x.entry = 5 ∧ 10 ≤ l.length) ∧ g.ok = true ∧ (b = 0 ∨ b = 0x20) ∧ (l.getD 0 0).toNat = b ∧
    leNum l 6 2 = s.fld F.MSH_ADDR_ADDR ∧ leNum l 1 3 = s.fld F.MSH_ID_MESHID ∧ s.handedTo 5 2 = some d)) ∧
    (s.senderEntry src (leNum l 1 3) = none) ∧ (l.length ≤ 252) ∧ (i < 256) ∧ (s.fld F.RAD_POOL_BANK < 16) ∧
    (s.engWrite (s.bufAddr i) l.length = .ok) ∧ (s.unwatched (s.bufAddr i) l.length) ∧ (s.ledger.parity = []) ∧ (a.fits = true) ∧
    (a.g = a.r + a.h + a.f) ∧ (1 ≤ a.f) ∧ ((a.f = 1 ∨ (s.win 0x50).isOpen = true)) ∧ (x.ack = none ∨ x.void = true))))))) :=
  ⟨OnMesh.shs, OnMesh.xf (OnMesh.frm 9 5 7 0 3) true, OnMesh.getX (OnMesh.shs), (OnMesh.getX (OnMesh.shs)).buf.getD 0, 0, ((OnMesh.shs).handedTo 5 2).getD (OnMesh.dsc (OnMesh.shs) 5 2), ((OnMesh.shs).hear (entryBand (OnMesh.getX (OnMesh.shs)).entry) (OnMesh.xf (OnMesh.frm 9 5 7 0 3) true)).getD ⟨false,[],0,0,0⟩,
    by (dsimp only [State.quiet, State.unwatched]) <;> decide +kernel⟩

theorem witness_MeshFrames_2 : ∃ (s : State) (f : RxFrame) (x : Slot) (i b : Nat) (d : Desc) (g : Heard),
    s.quiet ∧ (s.on = true) ∧ (s.mesh.slot = some x) ∧ (let p := entryBand x.entry; (s.hear p f = none)) :=
  ⟨OnMesh.ackS OnMesh.shs, OnMesh.xf [] false, OnMesh.getX (OnMesh.ackS OnMesh.shs), (OnMesh.getX (OnMesh.ackS OnMesh.shs)).buf.getD 0, 0, ((OnMesh.ackS OnMesh.shs).handedTo 5 2).getD (OnMesh.dsc (OnMesh.ackS OnMesh.shs) 5 2), ((OnMesh.ackS OnMesh.shs).hear (entryBand (OnMesh.getX (OnMesh.ackS OnMesh.shs)).entry) (OnMesh.xf [] false)).getD ⟨false,[],0,0,0⟩,
    by (dsimp only [State.quiet]) <;> decide +kernel⟩

theorem witness_MeshFrames_3 : ∃ (s : State) (f : RxFrame) (x : Slot) (i b : Nat) (d : Desc) (g : Heard),
    s.quiet ∧ (s.on = true) ∧ (s.mesh.slot = some x) ∧ (let p := entryBand x.entry;
    (x.ack).any (fun (up, fl, m) => decide ((x.void = false) ∧
    (let reply := linkHeader 1 false false (leNum m 1 3) (leNum m 6 2) (leNum m 4 2) (m.getD 8 0) (s.ackInfo m);
    (let em := s.frameAir p 0 reply (fl.getLsbD 0) (fl.getLsbD 1) (fl.getLsbD 2) (fl.getLsbD 3); (s.mayTransmit em up = true))))) = true) :=
  ⟨OnMesh.ackS OnMesh.shs, OnMesh.xf [] false, OnMesh.getX (OnMesh.ackS OnMesh.shs), (OnMesh.getX (OnMesh.ackS OnMesh.shs)).buf.getD 0, 0, ((OnMesh.ackS OnMesh.shs).handedTo 5 2).getD (OnMesh.dsc (OnMesh.ackS OnMesh.shs) 5 2), ((OnMesh.ackS OnMesh.shs).hear (entryBand (OnMesh.getX (OnMesh.ackS OnMesh.shs)).entry) (OnMesh.xf [] false)).getD ⟨false,[],0,0,0⟩,
    by (dsimp only [State.quiet]) <;> decide +kernel⟩

theorem witness_MeshFrames_4 : ∃ (s : State) (f : RxFrame) (x : Slot) (i b : Nat) (d : Desc) (g : Heard),
    s.quiet ∧ (s.on = true) ∧ (s.mesh.slot = some x) ∧ (let l := g.bytes; (let p := entryBand x.entry;
    (let received := s.hear p f = some g; (let heard : Slot := { x with heard := true }; ((received ∧ s.lit .radio = true ∧
    s.fld F.MSH_STAT_STATE = 2 ∧ s.meshRuns = true ∧ x.sent = false ∧ x.heard = false ∧ x.void = false ∧ x.buf = some i ∧
    entryType x.entry = 5 ∧ 10 ≤ l.length)) ∧ (g.ok = false))))) :=
  ⟨OnMesh.ackS (OnMesh.shs.wr [(F.RAD_P_DUTY_BUDGET 0,1),(F.RAD_P_DUSED_US 0,1000000)]), OnMesh.xf (OnMesh.frm 9 5 7 0 3) false, OnMesh.getX (OnMesh.ackS (OnMesh.shs.wr [(F.RAD_P_DUTY_BUDGET 0,1),(F.RAD_P_DUSED_US 0,1000000)])), (OnMesh.getX (OnMesh.ackS (OnMesh.shs.wr [(F.RAD_P_DUTY_BUDGET 0,1),(F.RAD_P_DUSED_US 0,1000000)]))).buf.getD 0, 0, ((OnMesh.ackS (OnMesh.shs.wr [(F.RAD_P_DUTY_BUDGET 0,1),(F.RAD_P_DUSED_US 0,1000000)])).handedTo 5 2).getD (OnMesh.dsc (OnMesh.ackS (OnMesh.shs.wr [(F.RAD_P_DUTY_BUDGET 0,1),(F.RAD_P_DUSED_US 0,1000000)])) 5 2), ((OnMesh.ackS (OnMesh.shs.wr [(F.RAD_P_DUTY_BUDGET 0,1),(F.RAD_P_DUSED_US 0,1000000)])).hear (entryBand (OnMesh.getX (OnMesh.ackS (OnMesh.shs.wr [(F.RAD_P_DUTY_BUDGET 0,1),(F.RAD_P_DUSED_US 0,1000000)]))).entry) (OnMesh.xf (OnMesh.frm 9 5 7 0 3) false)).getD ⟨false,[],0,0,0⟩,
    by (dsimp only [State.quiet]) <;> decide +kernel⟩

theorem witness_MeshFrames_5 : ∃ (s : State) (f : RxFrame) (x : Slot) (i b : Nat) (d : Desc) (g : Heard),
    s.quiet ∧ (s.on = true) ∧ (s.mesh.slot = some x) ∧ (let p := entryBand x.entry;
    (x.ack).any (fun (up, fl, m) => decide ((x.void = false) ∧
    (let reply := linkHeader 1 false false (leNum m 1 3) (leNum m 6 2) (leNum m 4 2) (m.getD 8 0) (s.ackInfo m);
    (let em := s.frameAir p 0 reply (fl.getLsbD 0) (fl.getLsbD 1) (fl.getLsbD 2) (fl.getLsbD 3); (s.mayTransmit em up = false))))) = true) :=
  ⟨OnMesh.ackS (OnMesh.shs.wr [(F.RAD_P_DUTY_BUDGET 0,1),(F.RAD_P_DUSED_US 0,1000000)]), OnMesh.xf (OnMesh.frm 9 5 7 0 3) false, OnMesh.getX (OnMesh.ackS (OnMesh.shs.wr [(F.RAD_P_DUTY_BUDGET 0,1),(F.RAD_P_DUSED_US 0,1000000)])), (OnMesh.getX (OnMesh.ackS (OnMesh.shs.wr [(F.RAD_P_DUTY_BUDGET 0,1),(F.RAD_P_DUSED_US 0,1000000)]))).buf.getD 0, 0, ((OnMesh.ackS (OnMesh.shs.wr [(F.RAD_P_DUTY_BUDGET 0,1),(F.RAD_P_DUSED_US 0,1000000)])).handedTo 5 2).getD (OnMesh.dsc (OnMesh.ackS (OnMesh.shs.wr [(F.RAD_P_DUTY_BUDGET 0,1),(F.RAD_P_DUSED_US 0,1000000)])) 5 2), ((OnMesh.ackS (OnMesh.shs.wr [(F.RAD_P_DUTY_BUDGET 0,1),(F.RAD_P_DUSED_US 0,1000000)])).hear (entryBand (OnMesh.getX (OnMesh.ackS (OnMesh.shs.wr [(F.RAD_P_DUTY_BUDGET 0,1),(F.RAD_P_DUSED_US 0,1000000)]))).entry) (OnMesh.xf (OnMesh.frm 9 5 7 0 3) false)).getD ⟨false,[],0,0,0⟩,
    by (dsimp only [State.quiet]) <;> decide +kernel⟩

theorem witness_MeshFrames_6 : ∃ (s : State) (f : RxFrame) (x : Slot) (i b : Nat) (d : Desc) (g : Heard),
    s.quiet ∧ (s.on = true) ∧ (s.mesh.slot = some x) ∧ (let l := g.bytes; (let src := leNum l 4 2; (let p := entryBand x.entry;
    (let received := s.hear p f = some g; (let heard : Slot := { x with heard := true };
    (s.senderEntry src (leNum l 1 3)).any (fun j => decide ((((received ∧ s.lit .radio = true ∧ s.fld F.MSH_STAT_STATE = 2 ∧
    s.meshRuns = true ∧ x.sent = false ∧ x.heard = false ∧ x.void = false ∧ x.buf = some i ∧ entryType x.entry = 5 ∧ 10 ≤ l.length) ∧
    g.ok = true ∧ (b = 0 ∨ b = 0x20) ∧ (l.getD 0 0).toNat = b ∧ leNum l 6 2 = s.fld F.MSH_ADDR_ADDR ∧ leNum l 1 3 = s.fld F.MSH_ID_MESHID ∧
    s.handedTo 5 2 = some d)) ∧ ((s.nbr j).rxLseq = some (l.getD 8 0)))) = true))))) :=
  ⟨OnMesh.dupS, OnMesh.xf (OnMesh.frm 9 5 7 0 3) true, OnMesh.getX (OnMesh.dupS), (OnMesh.getX (OnMesh.dupS)).buf.getD 0, 0, ((OnMesh.dupS).handedTo 5 2).getD (OnMesh.dsc (OnMesh.dupS) 5 2), ((OnMesh.dupS).hear (entryBand (OnMesh.getX (OnMesh.dupS)).entry) (OnMesh.xf (OnMesh.frm 9 5 7 0 3) true)).getD ⟨false,[],0,0,0⟩,
    by (dsimp only [State.quiet]) <;> decide +kernel⟩

theorem witness_MeshFrames_7 : ∃ (s : State) (f : RxFrame) (x : Slot) (i b : Nat) (d : Desc) (g : Heard),
    s.quiet ∧ (s.on = true) ∧ (s.mesh.slot = some x) ∧ (let p := entryBand x.entry; (let received := s.hear p f = some g;
    (x.frame).any (fun q => decide (received ∧ (x.sent = true) ∧ (x.judged = false) ∧ (x.void = false) ∧ (q.desc.wantsAck = true) ∧
    (let good := s.ackValid p (s.engBytes q.desc.buf 10) g; (good = false)))) = true)) :=
  ⟨OnMesh.txS, OnMesh.xf (OnMesh.frm 9 5 7 0 3) true, OnMesh.getX (OnMesh.txS), (OnMesh.getX (OnMesh.txS)).buf.getD 0, 0, ((OnMesh.txS).handedTo 5 2).getD (OnMesh.dsc (OnMesh.txS) 5 2), ((OnMesh.txS).hear (entryBand (OnMesh.getX (OnMesh.txS)).entry) (OnMesh.xf (OnMesh.frm 9 5 7 0 3) true)).getD ⟨false,[],0,0,0⟩,
    by (dsimp only [State.quiet]) <;> decide +kernel⟩

theorem witness_MeshFrames_8 : ∃ (s : State) (f : RxFrame) (x : Slot) (i b : Nat) (d : Desc) (g : Heard),
    s.quiet ∧ (s.on = true) ∧ (s.mesh.slot = some x) ∧ (let p := entryBand x.entry; (let received := s.hear p f = some g;
    (x.frame).any (fun q => decide (received ∧ (x.sent = true) ∧ (x.judged = false) ∧ (x.void = false) ∧ (q.desc.wantsAck = true) ∧
    (let good := s.ackValid p (s.engBytes q.desc.buf 10) g; (good = true)))) = true)) :=
  ⟨OnMesh.txS, OnMesh.xf OnMesh.ackF true, OnMesh.getX (OnMesh.txS), (OnMesh.getX (OnMesh.txS)).buf.getD 0, 0, ((OnMesh.txS).handedTo 5 2).getD (OnMesh.dsc (OnMesh.txS) 5 2), ((OnMesh.txS).hear (entryBand (OnMesh.getX (OnMesh.txS)).entry) (OnMesh.xf OnMesh.ackF true)).getD ⟨false,[],0,0,0⟩,
    by (dsimp only [State.quiet]) <;> decide +kernel⟩

theorem witness_MeshFrames_9 : ∃ (s : State) (f : RxFrame) (x : Slot) (i b : Nat) (d : Desc) (g : Heard),
    s.quiet ∧ (s.on = true) ∧ (s.mesh.slot = some x) ∧ (let p := entryBand x.entry; (let received := s.hear p f = some g;
    (x.ctrl).any (fun c => decide (received ∧ (x.frame = none) ∧ (x.sent = true) ∧ (x.judged = false) ∧ (x.void = false) ∧
    ((c.getD 0 0).getLsbD 5 = true) ∧ (s.ackValid p c g = true))) = true)) :=
  ⟨OnMesh.ctS, OnMesh.xf OnMesh.ackC true, OnMesh.getX (OnMesh.ctS), (OnMesh.getX (OnMesh.ctS)).buf.getD 0, 0, ((OnMesh.ctS).handedTo 5 2).getD (OnMesh.dsc (OnMesh.ctS) 5 2), ((OnMesh.ctS).hear (entryBand (OnMesh.getX (OnMesh.ctS)).entry) (OnMesh.xf OnMesh.ackC true)).getD ⟨false,[],0,0,0⟩,
    by (dsimp only [State.quiet]) <;> decide +kernel⟩

theorem witness_MeshFrames_10 : ∃ (s : State) (f : RxFrame) (x : Slot) (i b : Nat) (d : Desc) (g : Heard),
    s.quiet ∧ (s.on = true) ∧ (s.mesh.slot = some x) ∧ (let p := entryBand x.entry; (let received := s.hear p f = some g;
    (x.ctrl).any (fun c => decide (received ∧ (x.frame = none) ∧ (x.sent = true) ∧ (x.judged = false) ∧ (x.void = false) ∧
    ((c.getD 0 0).getLsbD 5 = true) ∧ (s.ackValid p c g = false))) = true)) :=
  ⟨OnMesh.ctS, OnMesh.xf (OnMesh.frm 9 5 7 0 3) true, OnMesh.getX (OnMesh.ctS), (OnMesh.getX (OnMesh.ctS)).buf.getD 0, 0, ((OnMesh.ctS).handedTo 5 2).getD (OnMesh.dsc (OnMesh.ctS) 5 2), ((OnMesh.ctS).hear (entryBand (OnMesh.getX (OnMesh.ctS)).entry) (OnMesh.xf (OnMesh.frm 9 5 7 0 3) true)).getD ⟨false,[],0,0,0⟩,
    by (dsimp only [State.quiet]) <;> decide +kernel⟩

theorem witness_MeshFrames_11 : ∃ (s : State) (f : RxFrame) (x : Slot) (i b : Nat) (d : Desc) (g : Heard),
    s.quiet ∧ (s.on = true) ∧ (s.mesh.slot = some x) ∧ (let l := g.bytes; (let p := entryBand x.entry;
    (let received := s.hear p f = some g; received ∧ (l.length < 10)))) :=
  ⟨OnMesh.shs, OnMesh.xf [1,2,3] true, OnMesh.getX (OnMesh.shs), (OnMesh.getX (OnMesh.shs)).buf.getD 0, 0, ((OnMesh.shs).handedTo 5 2).getD (OnMesh.dsc (OnMesh.shs) 5 2), ((OnMesh.shs).hear (entryBand (OnMesh.getX (OnMesh.shs)).entry) (OnMesh.xf [1,2,3] true)).getD ⟨false,[],0,0,0⟩,
    by (dsimp only [State.quiet]) <;> decide +kernel⟩

/-! ### CipherLockAndZero -/

theorem witness_CipherLockAndZero_1 : ∃ (s : State) (t : ThreadId) (n : Fin 16) (v : Word) (tamper : Bool),
    s.quiet ∧ (s.has .cipher = true) ∧ (let a := s.acct 0x51; (let held := s.flag F.CIP_LOCK_HELD; (s.steadyRuns = true) ∧ (held = false) ∧
    ((s.ledger.parity = [] ∧ a.fits = true ∧ a.g = a.r + a.h + a.f ∧ (a.f = 0 ∨ (s.win 0x51).isOpen = true))) ∧ (1 ≤ a.r) ∧
    (¬ (held = true ∧ s.fld F.CIP_LOCK_OWNER = t.val)) ∧ (s.power.vdd = true) ∧ (tamper = true ∨ s.steadyRuns = true) ∧
    (let lit := s.wakeIsland .cipher; (s.on = true) ∧ (s.lit .cipher = true) ∧ (v.toNat % 256 = 0x96)))) :=
  ⟨OnCipher.f0, 2, 3, 0x96, true,
    by (dsimp only [State.quiet]) <;> decide +kernel⟩

theorem witness_CipherLockAndZero_2 : ∃ (s : State) (t : ThreadId) (n : Fin 16) (v : Word) (tamper : Bool),
    s.quiet ∧ (s.has .cipher = true) ∧ (let held := s.flag F.CIP_LOCK_HELD; (s.steadyRuns = true) ∧ (held = true) ∧
    (let a := s.acct 0x51; ((held = true ∧ s.fld F.CIP_LOCK_OWNER = t.val)) ∧ (s.cip.waiting = none) ∧ (s.cip.last = none) ∧
    ((s.ledger.parity = [] ∧ a.fits = true ∧ a.g = a.r + a.h + a.f ∧ (a.f = 0 ∨ (s.win 0x51).isOpen = true))) ∧ (1 ≤ a.h) ∧
    (let lit := s.wakeIsland .cipher; (s.on = false ∨ s.lit .cipher = false)))) :=
  ⟨OnCipher.cdark, 2, 3, 0x96, true,
    by (dsimp only [State.quiet]) <;> decide +kernel⟩

theorem witness_CipherLockAndZero_3 : ∃ (s : State) (t : ThreadId) (n : Fin 16) (v : Word) (tamper : Bool),
    s.quiet ∧ (s.has .cipher = true) ∧ (let a := s.acct 0x51; (let held := s.flag F.CIP_LOCK_HELD; (s.steadyRuns = true) ∧ (held = false) ∧
    (a.r = 0) ∧ (s.steadyRuns = false ∨ v.toNat % 256 ≠ 0x96))) :=
  ⟨OnCipher.r0, 3, 3, 0x97, false,
    by (dsimp only [State.quiet]) <;> decide +kernel⟩

theorem witness_CipherLockAndZero_4 : ∃ (s : State) (t : ThreadId) (n : Fin 16) (v : Word) (tamper : Bool),
    s.quiet ∧ (s.has .cipher = true) ∧ (let held := s.flag F.CIP_LOCK_HELD; (s.steadyRuns = true) ∧ ((held = true ∧
    s.fld F.CIP_LOCK_OWNER = t.val)) ∧ (s.cip.waiting ≠ none ∨ s.cip.last ≠ none)) :=
  ⟨OnCipher.wt OnCipher.locked, 2, 3, 0x96, true,
    by (dsimp only [State.quiet]) <;> decide +kernel⟩

theorem witness_CipherLockAndZero_5 : ∃ (s : State) (t : ThreadId) (n : Fin 16) (v : Word) (tamper : Bool),
    s.quiet ∧ (s.has .cipher = true) ∧ (s.power.vdd = false ∨ (tamper = false ∧ s.steadyRuns = false)) :=
  ⟨OnCipher.nost OnCipher.locked, 3, 3, 0x97, false,
    by (dsimp only [State.quiet]) <;> decide +kernel⟩

/-! ### CipherDescriptors -/

theorem witness_KeySlotOperations_1 : ∃ (s : State) (d : Desc),
    s.quiet ∧ (s.ledger.parity = []) ∧ (s.cip.waiting = none) ∧ s.offers 2 0 d ∧ (1 ≤ d.op) ∧ (d.op ≤ 7) ∧
    (((s.engView 2 0).cipNeeds d).all (fun e => !e.waits) = true) ∧ (let t := s.taken 2 0 d; (t.cipCheck d = none) ∧
    ((∀ m : Fin 16, let a := s.acct (0x60 + m.val);       a.fits = true ∧ a.g = a.r + a.h + a.f ∧
    (a.f = 0 ∨ (s.win (0x60 + m.val)).isOpen = true))) ∧ (d.op = 1) ∧ (s.nonceArea = false) ∧ (t.keyCheck d = none) ∧
    (plainRam d.buf = true) ∧ s.unwatched d.buf d.len) :=
  ⟨OnCipher.fresh [tw 0, tw 0x20004000, tw 16, OnCipher.key 5, tw 0, tw 0, tw 0], OnCipher.dsc (OnCipher.fresh [tw 0, tw 0x20004000, tw 16, OnCipher.key 5, tw 0, tw 0, tw 0]) 2 0,
    by (dsimp only [State.quiet, State.offers, State.unwatched]) <;> decide +kernel⟩

theorem witness_KeySlotOperations_2 : ∃ (s : State) (d : Desc),
    s.quiet ∧ (s.ledger.parity = []) ∧ (s.cip.waiting = none) ∧ s.offers 2 0 d ∧ (1 ≤ d.op) ∧ (d.op ≤ 7) ∧
    (((s.engView 2 0).cipNeeds d).all (fun e => !e.waits) = true) ∧ (let t := s.taken 2 0 d; (t.cipCheck d = none) ∧
    ((∀ m : Fin 16, let a := s.acct (0x60 + m.val);       a.fits = true ∧ a.g = a.r + a.h + a.f ∧
    (a.f = 0 ∨ (s.win (0x60 + m.val)).isOpen = true))) ∧ (d.op = 2)) :=
  ⟨OnCipher.cd 2 0 0 0 3 0 0 0, OnCipher.dsc (OnCipher.cd 2 0 0 0 3 0 0 0) 2 0,
    by (dsimp only [State.quiet, State.offers]) <;> decide +kernel⟩

theorem witness_KeySlotOperations_3 : ∃ (s : State) (d : Desc),
    s.quiet ∧ (s.ledger.parity = []) ∧ (s.cip.waiting = none) ∧ s.offers 2 0 d ∧ (1 ≤ d.op) ∧ (d.op ≤ 7) ∧
    (((s.engView 2 0).cipNeeds d).all (fun e => !e.waits) = true) ∧ (let t := s.taken 2 0 d; (let n := d.keySlot; (t.cipCheck d = none) ∧
    ((∀ m : Fin 16, let a := s.acct (0x60 + m.val);       a.fits = true ∧ a.g = a.r + a.h + a.f ∧
    (a.f = 0 ∨ (s.win (0x60 + m.val)).isOpen = true))) ∧ (d.op = 3) ∧ (s.kst n = 3))) :=
  ⟨OnCipher.cd 3 0 0 0 3 0 0 0, OnCipher.dsc (OnCipher.cd 3 0 0 0 3 0 0 0) 2 0,
    by (dsimp only [State.quiet, State.offers]) <;> decide +kernel⟩

theorem witness_KeySlotOperations_4 : ∃ (s : State) (d : Desc),
    s.quiet ∧ (s.ledger.parity = []) ∧ (s.cip.waiting = none) ∧ s.offers 2 0 d ∧ (1 ≤ d.op) ∧ (d.op ≤ 7) ∧
    (((s.engView 2 0).cipNeeds d).all (fun e => !e.waits) = true) ∧ (let t := s.taken 2 0 d; (let n := d.keySlot; (t.cipCheck d = none) ∧
    ((∀ m : Fin 16, let a := s.acct (0x60 + m.val);       a.fits = true ∧ a.g = a.r + a.h + a.f ∧
    (a.f = 0 ∨ (s.win (0x60 + m.val)).isOpen = true))) ∧ (d.op = 3) ∧ (s.kst n = 1))) :=
  ⟨OnCipher.cd 3 0 0 0 4 0 0 0, OnCipher.dsc (OnCipher.cd 3 0 0 0 4 0 0 0) 2 0,
    by (dsimp only [State.quiet, State.offers]) <;> decide +kernel⟩

theorem witness_KeySlotOperations_5 : ∃ (s : State) (d : Desc),
    s.quiet ∧ (s.ledger.parity = []) ∧ (s.cip.waiting = none) ∧ s.offers 2 0 d ∧ (1 ≤ d.op) ∧ (d.op ≤ 7) ∧
    (((s.engView 2 0).cipNeeds d).all (fun e => !e.waits) = true) ∧ (let t := s.taken 2 0 d; (t.cipCheck d).isSome = true) :=
  ⟨OnCipher.cd 1 0 0x20004000 17 3 0 0 0, OnCipher.dsc (OnCipher.cd 1 0 0x20004000 17 3 0 0 0) 2 0,
    by (dsimp only [State.quiet, State.offers]) <;> decide +kernel⟩

theorem witness_KeySlotOperations_6 : ∃ (s : State) (d : Desc),
    s.quiet ∧ (s.ledger.parity = []) ∧ (s.cip.waiting = none) ∧ (s.headDesc 2 0 = some d ∧ s.descBad d = false) ∧ (1 ≤ d.op) ∧ (d.op ≤ 7) ∧
    (((s.engView 2 0).cipNeeds d).all (fun e => !e.waits) = true) ∧ (let t := s.taken 2 0 d;
    (t.keyCheck d).any (fun st => decide ((t.cipCheck d = none) ∧ (s.nonceArea = false))) = true) :=
  ⟨OnCipher.kdup, OnCipher.dsc OnCipher.kdup 2 0,
    by (dsimp only [State.quiet]) <;> decide +kernel⟩

theorem witness_CipherOperations_1 : ∃ (s : State) (d : Desc),
    s.quiet ∧ (s.ledger.parity = []) ∧ (s.cip.waiting = none) ∧ s.offers 2 0 d ∧
    (((s.engView 2 0).cipNeeds d).all (fun e => !e.waits) = true) ∧ ((d.len ≠ 0 → plainRam d.buf = true)) ∧
    ((d.outLen ≠ 0 → plainRam (d.opd 6) = true)) ∧ ((d.ccm = true → d.alen ≠ 0 → plainRam (d.opd 5) = true)) ∧ (let t := s.taken 2 0 d;
    (t.cipCheck d = none) ∧ (s.unwatched (d.opd 6) d.outLen) ∧ (d.op = 4)) :=
  ⟨OnCipher.enc, OnCipher.dsc OnCipher.enc 2 0,
    by (dsimp only [State.quiet, State.offers, State.unwatched]) <;> decide +kernel⟩

theorem witness_CipherOperations_2 : ∃ (s : State) (d : Desc),
    s.quiet ∧ (s.ledger.parity = []) ∧ (s.cip.waiting = none) ∧ s.offers 2 0 d ∧
    (((s.engView 2 0).cipNeeds d).all (fun e => !e.waits) = true) ∧ ((d.len ≠ 0 → plainRam d.buf = true)) ∧
    ((d.outLen ≠ 0 → plainRam (d.opd 6) = true)) ∧ ((d.ccm = true → d.alen ≠ 0 → plainRam (d.opd 5) = true)) ∧ (let t := s.taken 2 0 d;
    (t.cipCheck d = none) ∧ (s.unwatched (d.opd 6) d.outLen) ∧ (d.op = 5)) :=
  ⟨OnCipher.dec, OnCipher.dsc OnCipher.dec 2 0,
    by (dsimp only [State.quiet, State.offers, State.unwatched]) <;> decide +kernel⟩

theorem witness_CipherOperations_3 : ∃ (s : State) (d : Desc),
    s.quiet ∧ (s.ledger.parity = []) ∧ (s.cip.waiting = none) ∧ s.offers 2 0 d ∧
    (((s.engView 2 0).cipNeeds d).all (fun e => !e.waits) = true) ∧ ((d.len ≠ 0 → plainRam d.buf = true)) ∧
    ((d.outLen ≠ 0 → plainRam (d.opd 6) = true)) ∧ ((d.ccm = true → d.alen ≠ 0 → plainRam (d.opd 5) = true)) ∧ (let t := s.taken 2 0 d;
    (t.cipCheck d = none) ∧ (s.unwatched (d.opd 6) d.outLen) ∧ (let k := s.keySlot d.keySlot; (let a := s.acct (0x60 + d.keySlot.val);
    (let b := s.acct 0x49; (d.op = 6) ∧ (k.ctr < 2 ^ 40) ∧ (k.reserved (k.ctr / 65536) = true) ∧ (a.fits = true) ∧ (a.g = a.r + a.h + a.f) ∧
    ((a.f = 0 ∨ (s.win (0x60 + d.keySlot.val)).isOpen = true)) ∧ ((((k.ctr + 1) % 65536 = 0x8000) → (b.fits = true ∧ b.g = b.r + b.h + b.f ∧
    (b.f = 0 ∨ (s.win 0x49).slot ≠ 0 ∨ (s.win 0x49).quiesce = true)))))))) :=
  ⟨OnCipher.ccme, OnCipher.dsc OnCipher.ccme 2 0,
    by (dsimp only [State.quiet, State.offers, State.unwatched]) <;> decide +kernel⟩

theorem witness_CipherOperations_4 : ∃ (s : State) (d : Desc),
    s.quiet ∧ (s.ledger.parity = []) ∧ (s.cip.waiting = none) ∧ s.offers 2 0 d ∧
    (((s.engView 2 0).cipNeeds d).all (fun e => !e.waits) = true) ∧ ((d.len ≠ 0 → plainRam d.buf = true)) ∧
    ((d.outLen ≠ 0 → plainRam (d.opd 6) = true)) ∧ ((d.ccm = true → d.alen ≠ 0 → plainRam (d.opd 5) = true)) ∧ (let t := s.taken 2 0 d;
    (t.cipCheck d = none) ∧ (s.unwatched (d.opd 6) d.outLen) ∧ (let k := s.keySlot d.keySlot; (let text := t.mem.bytes d.buf d.len;
    (let aad := t.mem.bytes (d.opd 5) d.alen; (let plain := ccmStream k.key (text.take 13) ((text.drop 13).take d.pay); (d.op = 7) ∧
    ((ccmTag k.key (text.take 13) aad plain d.mcode d.mlen = text.drop (13 + d.pay)))))))) :=
  ⟨(OnCipher.ccmz 0x02AD9600 0x2D), OnCipher.dsc (OnCipher.ccmz 0x02AD9600 0x2D) 2 0,
    by (dsimp only [State.quiet, State.offers, State.unwatched]) <;> decide +kernel⟩

theorem witness_CipherOperations_5 : ∃ (s : State) (d : Desc),
    s.quiet ∧ (s.ledger.parity = []) ∧ (s.cip.waiting = none) ∧ s.offers 2 0 d ∧
    (((s.engView 2 0).cipNeeds d).all (fun e => !e.waits) = true) ∧ ((d.len ≠ 0 → plainRam d.buf = true)) ∧
    ((d.outLen ≠ 0 → plainRam (d.opd 6) = true)) ∧ ((d.ccm = true → d.alen ≠ 0 → plainRam (d.opd 5) = true)) ∧ (let t := s.taken 2 0 d;
    (t.cipCheck d = none) ∧ (s.unwatched (d.opd 6) d.outLen) ∧ (let k := s.keySlot d.keySlot; (let text := t.mem.bytes d.buf d.len;
    (let aad := t.mem.bytes (d.opd 5) d.alen; (let plain := ccmStream k.key (text.take 13) ((text.drop 13).take d.pay); (d.op = 7) ∧
    (¬ (ccmTag k.key (text.take 13) aad plain d.mcode d.mlen = text.drop (13 + d.pay)))))))) :=
  ⟨(OnCipher.ccmz 0 0), OnCipher.dsc (OnCipher.ccmz 0 0) 2 0,
    by (dsimp only [State.quiet, State.offers, State.unwatched]) <;> decide +kernel⟩

/-! ### EntropySource -/

theorem witness_EntropySource_1 : ∃ (s : State) (d : Desc) (ad : Bool),
    s.quiet ∧ (let t := s.taken 3 0 d; (let halted := s.flag F.CIP_ESTAT_HALTED; (let ready := s.flag F.CIP_ESTAT_READY; s.offers 3 0 d ∧
    (d.op = 1 ∨ d.op = 2) ∧ (halted = false) ∧ (ready = true) ∧ (s.entropyCheck d = t.entropyCheck d) ∧ (t.entropyCheck d = none) ∧
    (((s.engView 3 0).engWrite d.buf d.len).waits = false) ∧ (plainRam d.buf = true) ∧ s.unwatched d.buf d.len ∧ (s.entropyRuns = true) ∧
    (s.steadyRuns = true) ∧ (s.has .cipher = true)))) :=
  ⟨OnCipher.ent 1 32 [(F.CIP_ESTAT_READY,1)], OnCipher.dsc (OnCipher.ent 1 32 [(F.CIP_ESTAT_READY,1)]) 3 0, true,
    by (dsimp only [State.quiet, State.offers, State.unwatched]) <;> decide +kernel⟩

theorem witness_EntropySource_2 : ∃ (s : State) (d : Desc) (ad : Bool),
    s.quiet ∧ (let t := s.taken 3 0 d; (let halted := s.flag F.CIP_ESTAT_HALTED; (let ready := s.flag F.CIP_ESTAT_READY; s.offers 3 0 d ∧
    (d.op = 1 ∨ d.op = 2) ∧ (halted = false) ∧ (ready = true) ∧ (s.entropyCheck d = t.entropyCheck d) ∧
    (t.entropyCheck d).isSome = true))) :=
  ⟨OnCipher.ent 1 33 [(F.CIP_ESTAT_READY,1)], OnCipher.dsc (OnCipher.ent 1 33 [(F.CIP_ESTAT_READY,1)]) 3 0, true,
    by (dsimp only [State.quiet, State.offers]) <;> decide +kernel⟩

theorem witness_EntropySource_3 : ∃ (s : State) (d : Desc) (ad : Bool),
    s.quiet ∧ (let halted := s.flag F.CIP_ESTAT_HALTED; s.offers 3 0 d ∧ (d.op = 1 ∨ d.op = 2) ∧ (halted = true)) :=
  ⟨OnCipher.ent 1 32 [(F.CIP_ESTAT_HALTED,1)], OnCipher.dsc (OnCipher.ent 1 32 [(F.CIP_ESTAT_HALTED,1)]) 3 0, true,
    by (dsimp only [State.quiet, State.offers]) <;> decide +kernel⟩

theorem witness_EntropySource_4 : ∃ (s : State) (d : Desc) (ad : Bool),
    s.quiet ∧ (let halted := s.flag F.CIP_ESTAT_HALTED; (let ready := s.flag F.CIP_ESTAT_READY; s.offers 3 0 d ∧ (d.op = 1 ∨ d.op = 2) ∧
    (halted = false) ∧ (ready = false))) :=
  ⟨OnCipher.ent 1 32 [], OnCipher.dsc (OnCipher.ent 1 32 []) 3 0, true,
    by (dsimp only [State.quiet, State.offers]) <;> decide +kernel⟩

/-! ### GnssDescriptors -/

theorem witness_SnapshotsAreCaptured_1 : ∃ (s : State) (d : Desc) (x : Snap) (l : List (BitVec 8)),
    s.quiet ∧ (let t := s.taken 6 0 d; (s.gnss.snap = none) ∧ (s.gnss.out.any (fun o => o.chan == 0) = false) ∧ (s.headDesc 6 0 = some d ∧
    s.descBad d = false) ∧ (t.snapCheck d = none)) :=
  ⟨OnCipher.sn, OnCipher.dsc OnCipher.sn 6 0, OnCipher.snp OnCipher.sn, OnCipher.smp,
    by (dsimp only [State.quiet]) <;> decide +kernel⟩

theorem witness_SnapshotsAreCaptured_2 : ∃ (s : State) (d : Desc) (x : Snap) (l : List (BitVec 8)),
    s.quiet ∧ (let t := s.taken 6 0 d; (s.gnss.snap = none) ∧ (s.gnss.out.any (fun o => o.chan == 0) = false) ∧ (s.headDesc 6 0 = some d ∧
    s.descBad d = false) ∧ (t.snapCheck d).isSome = true) :=
  ⟨(OnCipher.gf.offer 6 0 ([1,0,0x20004000,31,16,1,0,0].map tw)), OnCipher.dsc (OnCipher.gf.offer 6 0 ([1,0,0x20004000,31,16,1,0,0].map tw)) 6 0, OnCipher.snp (OnCipher.gf.offer 6 0 ([1,0,0x20004000,31,16,1,0,0].map tw)), OnCipher.smp,
    by (dsimp only [State.quiet]) <;> decide +kernel⟩

theorem witness_SnapshotsAreCaptured_3 : ∃ (s : State) (d : Desc) (x : Snap) (l : List (BitVec 8)),
    s.quiet ∧ (s.gnss.snap = some x) ∧ (x.capturing = false) ∧ (s.gnssDrains = true) ∧ (s.flag F.GNS_STAT_FERDY = true) ∧ (1 ≤ x.waited) ∧
    (x.desc.waitSet = false ∨ 16 ≤ x.waited) :=
  ⟨(OnCipher.setS OnCipher.sn1 fun x => {x with waited := 1}), OnCipher.dsc (OnCipher.setS OnCipher.sn1 fun x => {x with waited := 1}) 6 0, OnCipher.snp (OnCipher.setS OnCipher.sn1 fun x => {x with waited := 1}), OnCipher.smp,
    by (dsimp only [State.quiet]) <;> decide +kernel⟩

theorem witness_SnapshotsAreCaptured_4 : ∃ (s : State) (d : Desc) (x : Snap) (l : List (BitVec 8)),
    s.quiet ∧ (s.gnss.snap = some x) ∧ (x.capturing = true) ∧ (x.left = 0) ∧ (s.gnssDrains = true) ∧ (l.length = x.desc.snapBytes) ∧
    (x.desc.opd 4 + x.desc.snapBytes ≤ 131072) ∧ (s.gnss.out = []) ∧ ((s.engView 6 0).engWrite x.desc.buf 32 = .ok) ∧
    (plainRam x.desc.buf = true) ∧ s.unwatched x.desc.buf 32 ∧ (x.desc.buf % 4 = 0) ∧ (x.w.length = 8) :=
  ⟨OnCipher.sn3, OnCipher.dsc OnCipher.sn3 6 0, OnCipher.snp OnCipher.sn3, OnCipher.smp,
    by (dsimp only [State.quiet, State.unwatched]) <;> decide +kernel⟩

theorem witness_TrackingDescriptors_1 : ∃ (s : State) (d : Desc) (ch : Nat),
    s.quiet ∧ (s.handedTo 6 ch = none) ∧ s.offers 6 ch d ∧ (let t := s.taken 6 ch d; (ch = 1) ∧ (d.op = 1 ∨ d.op = 2) ∧
    (t.trackCheck d = none)) :=
  ⟨OnCipher.trk [1,0,0,0,0x0503,7,8,0], OnCipher.dsc (OnCipher.trk [1,0,0,0,0x0503,7,8,0]) 6 1, 1,
    by (dsimp only [State.quiet, State.offers]) <;> decide +kernel⟩

theorem witness_TrackingDescriptors_2 : ∃ (s : State) (d : Desc) (ch : Nat),
    s.quiet ∧ (s.handedTo 6 ch = none) ∧ s.offers 6 ch d ∧ (let t := s.taken 6 ch d; (ch = 1) ∧ (d.op = 1 ∨ d.op = 2) ∧
    (t.trackCheck d).isSome = true) :=
  ⟨OnCipher.trk [1,0,0,0,0x0003,7,8,0x00020003], OnCipher.dsc (OnCipher.trk [1,0,0,0,0x0003,7,8,0x00020003]) 6 1, 1,
    by (dsimp only [State.quiet, State.offers]) <;> decide +kernel⟩

theorem witness_TrackingDescriptors_3 : ∃ (s : State) (d : Desc) (ch : Nat),
    s.quiet ∧ (s.handedTo 6 ch = none) ∧ s.offers 6 ch d ∧ (let t := s.taken 6 ch d; (2 ≤ ch) ∧ (ch ≤ 4) ∧ (t.gnssBufCheck ch d = none)) :=
  ⟨(OnCipher.gb 2 [0xE + 2,0,0x20004000,64,0,0,0,0]), OnCipher.dsc (OnCipher.gb 2 [0xE + 2,0,0x20004000,64,0,0,0,0]) 6 2, 2,
    by (dsimp only [State.quiet, State.offers]) <;> decide +kernel⟩

theorem witness_TrackingDescriptors_4 : ∃ (s : State) (d : Desc) (ch : Nat),
    s.quiet ∧ (s.handedTo 6 ch = none) ∧ s.offers 6 ch d ∧ (let t := s.taken 6 ch d; (2 ≤ ch) ∧ (ch ≤ 4) ∧
    (t.gnssBufCheck ch d).isSome = true) :=
  ⟨(OnCipher.gb 2 [0xE + 2,0,0x20004000,65,0,0,0,0]), OnCipher.dsc (OnCipher.gb 2 [0xE + 2,0,0x20004000,65,0,0,0,0]) 6 2, 2,
    by (dsimp only [State.quiet, State.offers]) <;> decide +kernel⟩

/-! ### GnssEpochsAndWords -/

theorem witness_GnssEpochsAndWords_1 : ∃ (s : State) (obs : GnssEpoch) (n : Fin 16) (w : BitVec 30) (d29 d30 : Bool) (sub : BitVec 9) (cycles : Nat),
    s.quiet ∧ (s.gnssUp = true) ∧ (s.flag F.GNS_FE_EN = true) ∧ (s.flag F.GNS_STAT_TCXOOK = true) ∧ (s.flag F.GNS_STAT_FERDY = false) ∧
    (cycles < 400 ∨ 600 < cycles) :=
  ⟨OnGnss.g0, OnGnss.ep, 3, (OnGnss.fixp OnGnss.w1), false, false, 9, 399,
    by (dsimp only [State.quiet]) <;> decide +kernel⟩

theorem witness_GnssEpochsAndWords_2 : ∃ (s : State) (obs : GnssEpoch) (n : Fin 16) (w : BitVec 30) (d29 d30 : Bool) (sub : BitVec 9) (cycles : Nat),
    s.quiet ∧ (s.gnssUp = true) ∧ (s.flag F.GNS_STAT_FERDY = true) ∧ ((∀ m, (s.chan m).st = .idle)) :=
  ⟨OnGnss.gf, OnGnss.ep, 3, (OnGnss.fixp OnGnss.w1), false, false, 9, 399,
    by (dsimp only [State.quiet]) <;> decide +kernel⟩

theorem witness_GnssEpochsAndWords_3 : ∃ (s : State) (obs : GnssEpoch) (n : Fin 16) (w : BitVec 30) (d29 d30 : Bool) (sub : BitVec 9) (cycles : Nat),
    s.quiet ∧ (s.gnssUp = true) ∧ (let c := s.chan n; (s.flag F.GNS_STAT_FERDY = true) ∧ (c.st = .pull ∨ c.st = .track) ∧
    (c.bitSync = true) ∧ (c.wordSync = false)) :=
  ⟨(OnGnss.ch OnGnss.gf OnGnss.gc), OnGnss.ep, 3, (OnGnss.fixp OnGnss.w1), false, false, 9, 399,
    by (dsimp only [State.quiet]) <;> decide +kernel⟩

theorem witness_GnssEpochsAndWords_4 : ∃ (s : State) (obs : GnssEpoch) (n : Fin 16) (w : BitVec 30) (d29 d30 : Bool) (sub : BitVec 9) (cycles : Nat),
    s.quiet ∧ (s.gnssUp = true) ∧ (let c := s.chan n; (s.flag F.GNS_STAT_FERDY = true) ∧ (c.st = .pull ∨ c.st = .track) ∧
    (c.bitSync = true) ∧ (c.wordSync = true)) :=
  ⟨(OnGnss.ch OnGnss.gf {OnGnss.gc with wordSync := true, bad := 2, word := 10}), OnGnss.ep, 3, (OnGnss.fixp OnGnss.w1), false, false, 9, 399,
    by (dsimp only [State.quiet]) <;> decide +kernel⟩

/-! ### PulseGenerator -/

theorem witness_PulseGenerator_1 : ∃ (s : State) (v : Word) (x : Int),
    s.quiet ∧ ((s.steadyRuns = true ∧ s.has .gnss = true)) ∧ (s.ppsState ≠ 0) ∧ (v.getLsbD 0 = false) ∧
    (v.getLsbD 31 = false ∨ s.ppsState = 0) ∧ (let p := s.gnss.pps; (s.gnssUp = true) ∧ (p.fix = none) ∧ (s.ppsState = 1)) :=
  ⟨(OnGnss.ppsS OnGnss.gf 1), 0, 12345,
    by (dsimp only [State.quiet]) <;> decide +kernel⟩

theorem witness_PulseGenerator_2 : ∃ (s : State) (v : Word) (x : Int),
    s.quiet ∧ ((s.steadyRuns = true ∧ s.has .gnss = true)) ∧ (v.getLsbD 31 = true) ∧ (s.ppsState ≠ 0) ∧ (s.ppsState ≠ 2) ∧
    (let p := s.gnss.pps; (s.gnssUp = true) ∧ (p.fix = none) ∧ (s.ppsState = 3) ∧ (s.fld F.GNS_HLIM_LIMIT = 0)) :=
  ⟨((OnGnss.ppsS OnGnss.gf 3).wr [(F.GNS_HLIM_LIMIT,0)]), 0x80000123, 12345,
    by (dsimp only [State.quiet]) <;> decide +kernel⟩

theorem witness_PulseGenerator_3 : ∃ (s : State) (v : Word) (x : Int),
    s.quiet ∧ ((s.steadyRuns = true ∧ s.has .gnss = true)) ∧ (v.getLsbD 31 = true) ∧ (s.ppsState = 2) ∧ (let p := s.gnss.pps;
    (s.gnssUp = true) ∧ (s.fld F.GNS_HCTL_TIMEOUT ≤ p.sinceFix)) :=
  ⟨(OnGnss.pp (OnGnss.ppsS OnGnss.gf 2) (fun p => {p with sinceFix := 70000, bound := 999})), 0x80000123, 12345,
    by (dsimp only [State.quiet]) <;> decide +kernel⟩

theorem witness_PulseGenerator_4 : ∃ (s : State) (v : Word) (x : Int),
    s.quiet ∧ ((s.steadyRuns = true ∧ s.has .gnss = true)) ∧ (s.lit .gnss = true) ∧ (s.ppsState = 0) ∧ (v.getLsbD 0 = true) :=
  ⟨OnGnss.gf, 1, 12345,
    by (dsimp only [State.quiet]) <;> decide +kernel⟩

theorem witness_PulseGenerator_5 : ∃ (s : State) (v : Word) (x : Int),
    s.quiet ∧ (let p := s.gnss.pps; (s.gnssUp = true) ∧
    (p.fix).any (fun b => decide ((s.ppsState = 1 ∨ s.ppsState = 3 ∨ s.ppsState = 4))) = true) :=
  ⟨(OnGnss.pp (OnGnss.ppsS OnGnss.gf 1) (fun p => {p with fix := some 100})), 0, 12345,
    by (dsimp only [State.quiet]) <;> decide +kernel⟩

/-! ### SerialPort -/

theorem witness_HostFramesCommit_1 : ∃ (s : State) (f : HostFrame) (k : Nat),
    s.quiet ∧ (s.on = true) ∧ (s.steadyUp = true) ∧ (s.csp.inFrame = true ∨ s.csp.committing ≠ none) ∧
    ((frameKind (slaveFrame s.slaveBits f)).getD 5 = k) ∧ (let i : Nat := 0; (let p : Nat := 0; (i < f.bits.length / 32) ∧ (p < 32) ∧
    (let g := slaveFrame s.slaveBits f; (f.bits.length % 32 = 0) ∧ (s.frameRes g k ≠ resOk) ∧ (s.frameRes g k ≠ resNoBuf) ∧ (5 ≤ k)))) :=
  ⟨OnPads.cs, OnPads.hfb OnPads.cs [5] 0, 5,
    by (dsimp only [State.quiet]) <;> decide +kernel⟩

theorem witness_HostFramesCommit_2 : ∃ (s : State) (f : HostFrame) (k : Nat),
    s.quiet ∧ (s.on = true) ∧ (s.steadyUp = true) ∧ (s.csp.inFrame = true ∨ s.csp.committing ≠ none) ∧
    ((frameKind (slaveFrame s.slaveBits f)).getD 5 = k) ∧ (let g := slaveFrame s.slaveBits f; ((f.bits.length % 32 = 0 ∧
    s.frameRes g k = resOk)) ∧ (k = 0)) :=
  ⟨OnPads.cs, OnPads.hfb OnPads.cs [0] 0, 0,
    by (dsimp only [State.quiet]) <;> decide +kernel⟩

theorem witness_HostFramesCommit_3 : ∃ (s : State) (f : HostFrame) (k : Nat),
    s.quiet ∧ (s.on = true) ∧ (s.steadyUp = true) ∧ (s.csp.inFrame = true ∨ s.csp.committing ≠ none) ∧
    ((frameKind (slaveFrame s.slaveBits f)).getD 5 = k) ∧ (f.bits.length % 32 ≠ 0) :=
  ⟨OnPads.cs, OnPads.hfb OnPads.cs [0] 3, 0,
    by (dsimp only [State.quiet]) <;> decide +kernel⟩

theorem witness_HostFramesCommit_4 : ∃ (s : State) (f : HostFrame) (k : Nat),
    s.quiet ∧ (s.on = true) ∧ (s.steadyUp = true) ∧ (s.csp.inFrame = true ∨ s.csp.committing ≠ none) ∧
    ((frameKind (slaveFrame s.slaveBits f)).getD 5 = k) ∧ (let g := slaveFrame s.slaveBits f; (let n := frameCount g;
    (let a := frameAddr g; ((f.bits.length % 32 = 0 ∧ s.frameRes g k = resOk)) ∧ (k = 1) ∧ (s.unwatched a (4 * n))))) :=
  ⟨OnPads.cs, OnPads.hfb OnPads.cs [0x20001,0x20005000,1,2] 0, 1,
    by (dsimp only [State.quiet, State.unwatched]) <;> decide +kernel⟩

theorem witness_HostFramesCommit_5 : ∃ (s : State) (f : HostFrame) (k : Nat),
    s.quiet ∧ (s.on = true) ∧ (s.steadyUp = true) ∧ (s.csp.inFrame = true ∨ s.csp.committing ≠ none) ∧
    ((frameKind (slaveFrame s.slaveBits f)).getD 5 = k) ∧ (let g := slaveFrame s.slaveBits f; ((f.bits.length % 32 = 0 ∧
    s.frameRes g k = resOk)) ∧ (k = 2)) :=
  ⟨OnPads.cs, OnPads.hfb OnPads.cs [0x20002,0x20005000] 0, 2,
    by (dsimp only [State.quiet]) <;> decide +kernel⟩

theorem witness_HostFramesCommit_6 : ∃ (s : State) (f : HostFrame) (k : Nat),
    s.quiet ∧ (s.on = true) ∧ (s.steadyUp = true) ∧ (s.csp.inFrame = true ∨ s.csp.committing ≠ none) ∧
    ((frameKind (slaveFrame s.slaveBits f)).getD 5 = k) ∧ (let g := slaveFrame s.slaveBits f; (let n := frameCount g;
    ((f.bits.length % 32 = 0 ∧ s.frameRes g k = resOk)) ∧ (k = 3) ∧ (s.handedTo 7 0).any (fun d => decide ((plainRam d.buf = true) ∧
    (d.buf % 4 = 0) ∧ ((∀ k, k < (4 * n) → s.watched (wordAddr (d.buf + k)) = none)))) = true)) :=
  ⟨OnPads.rec0, OnPads.hfb OnPads.rec0 [0x20003,0x11,0x22] 0, 3,
    by (dsimp only [State.quiet]) <;> decide +kernel⟩

theorem witness_HostFramesCommit_7 : ∃ (s : State) (f : HostFrame) (k : Nat),
    s.quiet ∧ (s.on = true) ∧ (s.steadyUp = true) ∧ (s.csp.inFrame = true ∨ s.csp.committing ≠ none) ∧
    ((frameKind (slaveFrame s.slaveBits f)).getD 5 = k) ∧ (let g := slaveFrame s.slaveBits f; ((f.bits.length % 32 = 0 ∧
    s.frameRes g k = resOk)) ∧ (k = 4)) :=
  ⟨{OnPads.cs with boot := .recovery}, OnPads.hfb {OnPads.cs with boot := .recovery} [4,0x20005000] 0, 4,
    by (dsimp only [State.quiet]) <;> decide +kernel⟩

theorem witness_HostFramesCommit_8 : ∃ (s : State) (f : HostFrame) (k : Nat),
    s.quiet ∧ (s.on = true) ∧ (s.steadyUp = true) ∧ (s.csp.inFrame = true ∨ s.csp.committing ≠ none) ∧
    ((frameKind (slaveFrame s.slaveBits f)).getD 5 = k) ∧ (let g := slaveFrame s.slaveBits f; (f.bits.length % 32 = 0) ∧
    (s.frameRes g k = resNoBuf)) :=
  ⟨OnPads.cs, OnPads.hfb OnPads.cs [0x20003,0x11,0x22] 0, 3,
    by (dsimp only [State.quiet]) <;> decide +kernel⟩

theorem witness_SerialPortTransfers_1 : ∃ (s : State) (d : Desc) (l : List Bool),
    s.quiet ∧ (let c := s.csp; (s.on = true) ∧ (s.lit .steady = true) ∧ (s.cspSlave = true) ∧ (c.inFrame = true) ∧ (c.committing = none) ∧
    (s.steadyUp = true) ∧ (c.shut = false) ∧ (s.steadyRuns = true) ∧ (s.has .csp = true)) :=
  ⟨OnPads.cs, OnPads.dsc OnPads.cs 7 1, (List.range 32).map (fun i => i % 3 == 0),
    by (dsimp only [State.quiet]) <;> decide +kernel⟩

theorem witness_SerialPortTransfers_2 : ∃ (s : State) (d : Desc) (l : List Bool),
    s.quiet ∧ (let c := s.csp; (s.on = true) ∧ (s.lit .steady = true) ∧ (s.cspSlave = true) ∧ (c.inFrame = false) ∧
    (let r := s.taken 7 0 d; (s.handedTo 7 0 = none) ∧ s.offers 7 0 d ∧ (r.cspRecvCheck d = none))) :=
  ⟨(OnPads.f0.offer 7 0 ([0x10,0,0x20004000,64,0,0,0,0].map tw)), OnPads.dsc (OnPads.f0.offer 7 0 ([0x10,0,0x20004000,64,0,0,0,0].map tw)) 7 0, (List.range 32).map (fun i => i % 3 == 0),
    by (dsimp only [State.quiet, State.offers]) <;> decide +kernel⟩

theorem witness_SerialPortTransfers_3 : ∃ (s : State) (d : Desc) (l : List Bool),
    s.quiet ∧ (let c := s.csp; (s.on = true) ∧ (s.lit .steady = true) ∧ (s.cspSlave = true) ∧ (c.inFrame = true) ∧ (c.committing ≠ none) ∧
    (s.steadyUp = true) ∧ (c.shut = true)) :=
  ⟨OnPads.cs3, OnPads.dsc OnPads.cs3 7 1, (List.range 32).map (fun i => i % 3 == 0),
    by (dsimp only [State.quiet]) <;> decide +kernel⟩

theorem witness_SerialPortTransfers_4 : ∃ (s : State) (d : Desc) (l : List Bool),
    s.quiet ∧ (let t := s.taken 7 1 d; (let c := s.csp; (c.xfer = none) ∧ (s.nextXfer = some d) ∧ (s.descBad d = false) ∧
    (t.xferCheck d = none) ∧ ((t.xferSource d).waits = false) ∧ (8 * d.len ≤ l.length) ∧ (s.unwatched (d.opd 4) d.len))) :=
  ⟨(OnPads.xs 1 8 0x20005000), OnPads.dsc (OnPads.xs 1 8 0x20005000) 7 1, (List.range 64).map (fun i => i % 3 == 0),
    by (dsimp only [State.quiet, State.unwatched]) <;> decide +kernel⟩

theorem witness_SerialPortTransfers_5 : ∃ (s : State) (d : Desc) (l : List Bool),
    s.quiet ∧ (let t := s.taken 7 1 d; (let c := s.csp; (c.xfer = none) ∧ (s.nextXfer = some d) ∧ (s.descBad d = false) ∧
    (t.xferCheck d).isSome = true)) :=
  ⟨(OnPads.xs 0 0 0), OnPads.dsc (OnPads.xs 0 0 0) 7 1, (List.range 64).map (fun i => i % 3 == 0),
    by (dsimp only [State.quiet]) <;> decide +kernel⟩

theorem witness_SerialPortTransfers_6 : ∃ (s : State) (d : Desc) (l : List Bool),
    s.quiet ∧ (let r := s.taken 7 0 d; (s.handedTo 7 0 = none) ∧ s.offers 7 0 d ∧ (r.cspRecvCheck d).isSome = true) :=
  ⟨(OnPads.f0.offer 7 0 ([0x10,0,0x20004000,63,0,0,0,0].map tw)), OnPads.dsc (OnPads.f0.offer 7 0 ([0x10,0,0x20004000,63,0,0,0,0].map tw)) 7 0, (List.range 32).map (fun i => i % 3 == 0),
    by (dsimp only [State.quiet, State.offers]) <;> decide +kernel⟩

theorem witness_SerialPortTransfers_7 : ∃ (s : State) (d : Desc) (l : List Bool),
    s.quiet ∧ (let t := s.taken 7 1 d; (let c := s.csp; (c.xfer = none) ∧ (s.nextXfer = some d) ∧ (s.descBad d = false) ∧
    (t.xferCheck d = none) ∧ ((t.xferSource d).waits = false) ∧ (l.length < 8 * d.len))) :=
  ⟨(OnPads.xs 1 8 0x20005000), OnPads.dsc (OnPads.xs 1 8 0x20005000) 7 1, (List.range 24).map (fun i => i % 3 == 0),
    by (dsimp only [State.quiet]) <;> decide +kernel⟩

theorem witness_SerialPortTransfers_8 : ∃ (s : State) (d : Desc) (l : List Bool),
    s.quiet ∧ (let c := s.csp; (let o : List Byte := ((c.xfer.bind (·.out)).getD []); (let b : List Bool := (c.xfer.map (·.sdi)).getD [];
    (c.xfer = some ⟨d, some o, b⟩) ∧ (s.engineUp 7 = true) ∧ (o.length = d.len) ∧ (d.len % s.cspWord d.csel = 0) ∧
    ((b ++ l).length < 8 * d.len)))) :=
  ⟨OnPads.xprog, (OnPads.xprog.csp.xfer.getD ⟨OnPads.dsc OnPads.xprog 7 1,none,[]⟩).desc, (List.range 10).map (fun i => i % 3 == 0),
    by (dsimp only [State.quiet]) <;> decide +kernel⟩

theorem witness_SerialPortTransfers_9 : ∃ (s : State) (d : Desc) (l : List Bool),
    s.quiet ∧ (let c := s.csp; (let o : List Byte := ((c.xfer.bind (·.out)).getD []); (let b : List Bool := (c.xfer.map (·.sdi)).getD [];
    (c.xfer = some ⟨d, some o, b⟩) ∧ (s.engineUp 7 = true) ∧ (o.length = d.len) ∧ (d.len % s.cspWord d.csel = 0) ∧
    (8 * d.len ≤ (b ++ l).length) ∧ (s.unwatched (d.opd 4) d.len)))) :=
  ⟨OnPads.xprog, (OnPads.xprog.csp.xfer.getD ⟨OnPads.dsc OnPads.xprog 7 1,none,[]⟩).desc, (List.range 54).map (fun i => i % 3 == 0),
    by (dsimp only [State.quiet, State.unwatched]) <;> decide +kernel⟩

theorem witness_SerialPortTransfers_10 : ∃ (s : State) (d : Desc) (l : List Bool),
    s.quiet ∧ (let t := s.taken 7 1 d; (let c := s.csp; (c.xfer = none) ∧ (s.nextXfer = some d) ∧ (s.descBad d = false) ∧
    (t.xferCheck d = none) ∧ ((t.xferSource d).waits = true))) :=
  ⟨OnPads.srcB, OnPads.dsc OnPads.srcB 7 1, (List.range 64).map (fun i => i % 3 == 0),
    by (dsimp only [State.quiet]) <;> decide +kernel⟩

/-! ### TagBus -/

theorem witness_TagLinesAndSearches_1 : ∃ (s : State) (l : Fin 4) (d r : Desc) (f : Fob) (id : BitVec 64) (code : BitVec 8),
    s.quiet ∧ (s.tagWrites = true) ∧ (s.lineOn l = false) ∧ (0x20000000 ≤ s.tableAt l) ∧ (s.tableAt l + 1024 ≤ 0x20100000) :=
  ⟨OnPads.tg0, 2, OnPads.dsc OnPads.tg0 8 0, (OnPads.tg0.handedTo 8 1).getD (OnPads.dsc OnPads.tg0 8 1), OnPads.fb, 5, 5,
    by (dsimp only [State.quiet]) <;> decide +kernel⟩

theorem witness_TagLinesAndSearches_2 : ∃ (s : State) (l : Fin 4) (d r : Desc) (f : Fob) (id : BitVec 64) (code : BitVec 8),
    s.quiet ∧ (s.tagWrites = true) ∧ (s.lineOn l = false) ∧ (s.tableAt l < 0x20000000 ∨ 0x20100000 < s.tableAt l + 1024) :=
  ⟨OnPads.f0, 2, OnPads.dsc OnPads.f0 8 0, (OnPads.f0.handedTo 8 1).getD (OnPads.dsc OnPads.f0 8 1), OnPads.fb, 5, 5,
    by (dsimp only [State.quiet]) <;> decide +kernel⟩

theorem witness_TagLinesAndSearches_3 : ∃ (s : State) (l : Fin 4) (d r : Desc) (f : Fob) (id : BitVec 64) (code : BitVec 8),
    s.quiet ∧ (let x := s.line l; (d.op = 2) ∧ (x.fobs = [f]) ∧ (x.pres = none) ∧ (s.tag.walk = none) ∧ s.offers 8 0 d ∧
    (s.lineOn d.tagLine = true) ∧ (66 ≤ s.now - (s.line d.tagLine).since) ∧ (s.tagCheck d = none) ∧ (d.tagLine = l) ∧
    (s.presDue l = false) ∧ (x.undriven = false)) :=
  ⟨(OnPads.chk 2 (OnPads.tOn OnPads.tg0 [OnPads.fb])), 2, OnPads.dsc (OnPads.chk 2 (OnPads.tOn OnPads.tg0 [OnPads.fb])) 8 0, ((OnPads.chk 2 (OnPads.tOn OnPads.tg0 [OnPads.fb])).handedTo 8 1).getD (OnPads.dsc (OnPads.chk 2 (OnPads.tOn OnPads.tg0 [OnPads.fb])) 8 1), OnPads.fb, 5, 5,
    by (dsimp only [State.quiet, State.offers]) <;> decide +kernel⟩

theorem witness_TagLinesAndSearches_4 : ∃ (s : State) (l : Fin 4) (d r : Desc) (f : Fob) (id : BitVec 64) (code : BitVec 8),
    s.quiet ∧ (let x := s.line l; (d.op = 1) ∧ (x.fobs = []) ∧ (x.pres = none) ∧ (s.tableCount l = 0) ∧ (s.tag.written = 0) ∧
    (s.tag.walk = none) ∧ s.offers 8 0 d ∧ (s.lineOn d.tagLine = true) ∧ (66 ≤ s.now - (s.line d.tagLine).since) ∧ (s.tagCheck d = none) ∧
    (d.tagLine = l) ∧ (s.presDue l = false) ∧ (x.undriven = false)) :=
  ⟨(OnPads.chk 1 (OnPads.tOn OnPads.tg0 [])), 2, OnPads.dsc (OnPads.chk 1 (OnPads.tOn OnPads.tg0 [])) 8 0, ((OnPads.chk 1 (OnPads.tOn OnPads.tg0 [])).handedTo 8 1).getD (OnPads.dsc (OnPads.chk 1 (OnPads.tOn OnPads.tg0 [])) 8 1), OnPads.fb, 5, 5,
    by (dsimp only [State.quiet, State.offers]) <;> decide +kernel⟩

theorem witness_TagLinesAndSearches_5 : ∃ (s : State) (l : Fin 4) (d r : Desc) (f : Fob) (id : BitVec 64) (code : BitVec 8),
    s.quiet ∧ (let t := s.taken 8 1 d; (s.handedTo 8 1 = none) ∧ ((∀ w, s.tag.walk = some w → s.now - w.pausedAt < 32768)) ∧
    s.offers 8 1 d ∧ (t.tagRecvCheck d = none)) :=
  ⟨((OnPads.tOn OnPads.tg0 []).offer 8 1 ([0x10,0,0x20004000,64,0,0,0,0].map tw)), 2, OnPads.dsc ((OnPads.tOn OnPads.tg0 []).offer 8 1 ([0x10,0,0x20004000,64,0,0,0,0].map tw)) 8 1, (((OnPads.tOn OnPads.tg0 []).offer 8 1 ([0x10,0,0x20004000,64,0,0,0,0].map tw)).handedTo 8 1).getD (OnPads.dsc ((OnPads.tOn OnPads.tg0 []).offer 8 1 ([0x10,0,0x20004000,64,0,0,0,0].map tw)) 8 1), OnPads.fb, 5, 5,
    by (dsimp only [State.quiet, State.offers]) <;> decide +kernel⟩

theorem witness_TagLinesAndSearches_6 : ∃ (s : State) (l : Fin 4) (d r : Desc) (f : Fob) (id : BitVec 64) (code : BitVec 8),
    s.quiet ∧ (let t := s.taken 8 1 d; (s.handedTo 8 1 = none) ∧ ((∀ w, s.tag.walk = some w → s.now - w.pausedAt < 32768)) ∧
    s.offers 8 1 d ∧ (t.tagRecvCheck d).isSome = true) :=
  ⟨((OnPads.tOn OnPads.tg0 []).offer 8 1 ([0x10,0,0x20004000,63,0,0,0,0].map tw)), 2, OnPads.dsc ((OnPads.tOn OnPads.tg0 []).offer 8 1 ([0x10,0,0x20004000,63,0,0,0,0].map tw)) 8 1, (((OnPads.tOn OnPads.tg0 []).offer 8 1 ([0x10,0,0x20004000,63,0,0,0,0].map tw)).handedTo 8 1).getD (OnPads.dsc ((OnPads.tOn OnPads.tg0 []).offer 8 1 ([0x10,0,0x20004000,63,0,0,0,0].map tw)) 8 1), OnPads.fb, 5, 5,
    by (dsimp only [State.quiet, State.offers]) <;> decide +kernel⟩

theorem witness_TagLinesAndSearches_7 : ∃ (s : State) (l : Fin 4) (d r : Desc) (f : Fob) (id : BitVec 64) (code : BitVec 8),
    s.quiet ∧ (let x := s.line l; (s.steadyRuns = true) ∧ (s.has .tag = true) ∧ (s.lineOn l = true) ∧
    (s.flag (F.TAG_PRES_EN l.val) = true) ∧ (x.presDue ≤ s.now * 100) ∧ (66 ≤ s.now - x.since) ∧ (x.pres = none) ∧
    ((∀ w, s.tag.walk = some w → w.line ≠ l)) ∧ (s.flag (F.TAG_PRES_VERIFY l.val) = false) ∧ (x.fobs = [])) :=
  ⟨((OnPads.tOn OnPads.tg0 []).wr [(F.TAG_PRES_EN 2,1),(F.TAG_PRES_VERIFY 2,0),(F.TAG_PSIG_SIG 2, 3)]), 2, OnPads.dsc ((OnPads.tOn OnPads.tg0 []).wr [(F.TAG_PRES_EN 2,1),(F.TAG_PRES_VERIFY 2,0),(F.TAG_PSIG_SIG 2, 3)]) 8 0, (((OnPads.tOn OnPads.tg0 []).wr [(F.TAG_PRES_EN 2,1),(F.TAG_PRES_VERIFY 2,0),(F.TAG_PSIG_SIG 2, 3)]).handedTo 8 1).getD (OnPads.dsc ((OnPads.tOn OnPads.tg0 []).wr [(F.TAG_PRES_EN 2,1),(F.TAG_PRES_VERIFY 2,0),(F.TAG_PSIG_SIG 2, 3)]) 8 1), OnPads.fb, 5, 5,
    by (dsimp only [State.quiet]) <;> decide +kernel⟩

theorem witness_TagLinesAndSearches_8 : ∃ (s : State) (l : Fin 4) (d r : Desc) (f : Fob) (id : BitVec 64) (code : BitVec 8),
    s.quiet ∧ (let x := s.line l; (s.steadyRuns = true) ∧ (s.has .tag = true) ∧ (s.lineOn l = true) ∧
    (s.flag (F.TAG_PRES_EN l.val) = true) ∧ (x.presDue ≤ s.now * 100) ∧ (66 ≤ s.now - x.since) ∧ (x.pres = none) ∧
    (s.tag.walk).any (fun w => decide ((w.line = l) ∧ (x.deferred = false))) = true) :=
  ⟨(OnPads.paus ((OnPads.tOn OnPads.tg0 []).wr [(F.TAG_PRES_EN 2,1)])), 2, OnPads.dsc (OnPads.paus ((OnPads.tOn OnPads.tg0 []).wr [(F.TAG_PRES_EN 2,1)])) 8 0, ((OnPads.paus ((OnPads.tOn OnPads.tg0 []).wr [(F.TAG_PRES_EN 2,1)])).handedTo 8 1).getD (OnPads.dsc (OnPads.paus ((OnPads.tOn OnPads.tg0 []).wr [(F.TAG_PRES_EN 2,1)])) 8 1), OnPads.fb, 5, 5,
    by (dsimp only [State.quiet]) <;> decide +kernel⟩

theorem witness_TagLinesAndSearches_9 : ∃ (s : State) (l : Fin 4) (d r : Desc) (f : Fob) (id : BitVec 64) (code : BitVec 8),
    s.quiet ∧ (let x := s.line l; (s.steadyRuns = true) ∧ (s.has .tag = true) ∧ (s.lineOn l = true) ∧
    (s.flag (F.TAG_PRES_EN l.val) = true) ∧ (x.presDue ≤ s.now * 100) ∧ (66 ≤ s.now - x.since) ∧ (x.pres = none) ∧
    (s.tag.walk).any (fun w => decide ((w.line = l) ∧ (x.deferred = true))) = true) :=
  ⟨OnPads.dfr, 2, OnPads.dsc OnPads.dfr 8 0, (OnPads.dfr.handedTo 8 1).getD (OnPads.dsc OnPads.dfr 8 1), OnPads.fb, 5, 5,
    by (dsimp only [State.quiet]) <;> decide +kernel⟩

theorem witness_TagLinesAndSearches_10 : ∃ (s : State) (l : Fin 4) (d r : Desc) (f : Fob) (id : BitVec 64) (code : BitVec 8),
    s.quiet ∧ (let x := s.line l; (let at' := s.tableAt l;
    (let inRam (a : Nat) : Prop := 0x20000000 ≤ a ∧ a + 16 ≤ 0x20100000 ∧ a % 4 = 0 ∧ s.unwatched a 16; (d.op = 1) ∧ (x.fobs = [f]) ∧
    (x.pres = none) ∧ ((f.armed = true ∨ 66 ≤ s.now - f.since)) ∧ (f.code = checkCode f.id) ∧ (s.tableCount l = 0) ∧ (s.tag.written = 0) ∧
    (s.handedTo 8 1 = some r) ∧ (32 ≤ r.len) ∧ inRam at' ∧ inRam r.buf ∧ ((r.buf + 16 ≤ at' ∨ at' + 16 ≤ r.buf)) ∧ (s.tag.walk = none) ∧
    s.offers 8 0 d ∧ (s.lineOn d.tagLine = true) ∧ (66 ≤ s.now - (s.line d.tagLine).since) ∧ (s.tagCheck d = none) ∧ (d.tagLine = l) ∧
    (s.presDue l = false) ∧ (x.undriven = false)))) :=
  ⟨OnPads.sch, 2, OnPads.dsc OnPads.sch 8 0, (OnPads.sch.handedTo 8 1).getD (OnPads.dsc OnPads.sch 8 1), OnPads.fb, 5, 5,
    by (dsimp only [State.quiet, State.offers, State.unwatched]) <;> decide +kernel⟩

theorem witness_TagLinesAndSearches_11 : ∃ (s : State) (l : Fin 4) (d r : Desc) (f : Fob) (id : BitVec 64) (code : BitVec 8),
    s.quiet ∧ (let x := s.line l; (x.pres).any (fun p => decide ((d.op = 2) ∧ (2 ≤ p.left.length) ∧ (p.noise = []) ∧ (s.tag.walk = none) ∧
    (s.headDesc 8 0 = some d ∧ s.descBad d = false) ∧ (s.lineOn d.tagLine = true) ∧ (66 ≤ s.now - (s.line d.tagLine).since) ∧
    (s.tagCheck d = none) ∧ (d.tagLine = l) ∧ (s.presDue l = false) ∧ (x.undriven = false))) = true) :=
  ⟨OnPads.prs, 2, OnPads.dsc OnPads.prs 8 0, (OnPads.prs.handedTo 8 1).getD (OnPads.dsc OnPads.prs 8 1), OnPads.fb, 5, 5,
    by (dsimp only [State.quiet]) <;> decide +kernel⟩

theorem witness_PausedSearchesEnd_1 : ∃ (s : State) (w : TagWalk),
    s.quiet ∧ (s.on = true) ∧ (s.steadyUp = true) ∧ (s.tag.walk = some w) ∧ (s.tag.written = 0) ∧ (s.handedTo 8 1 ≠ none) ∧ (w.out = []) ∧
    (w.stack = []) ∧ (w.recon = some []) ∧ (w.found.length < 256) ∧ (w.posted < 256) :=
  ⟨OnPads.pRec, OnPads.pRec.tag.walk.getD (OnPads.wk OnPads.pRec),
    by (dsimp only [State.quiet]) <;> decide +kernel⟩

theorem witness_PausedSearchesEnd_2 : ∃ (s : State) (w : TagWalk),
    s.quiet ∧ (s.on = true) ∧ (s.steadyUp = true) ∧ (s.tag.walk = some w) ∧ (s.tag.written = 0) ∧ (s.handedTo 8 1 = none) ∧
    (32768 ≤ s.now - w.pausedAt) :=
  ⟨(OnPads.paus (OnPads.tOn OnPads.tg0 [])), (OnPads.paus (OnPads.tOn OnPads.tg0 [])).tag.walk.getD (OnPads.wk (OnPads.paus (OnPads.tOn OnPads.tg0 []))),
    by (dsimp only [State.quiet]) <;> decide +kernel⟩

/-! ### BoltsAndTamperLoops -/

theorem witness_BoltsMove_1 : ∃ (s : State) (b : Fin 2) (d : Desc) (x : Bridge) (i : Byte) (ma : Nat) (e : Fin 4),
    s.quiet ∧ (let x0 := s.brg b; (s.boltUp = true) ∧ (x0 = x) ∧ (x.desc = some d) ∧ (x.st = .drive) ∧ (1 ≤ d.stallT) ∧
    (i.toNat < d.stallI) ∧ (x.periods < d.timeout * 25) ∧ (e.val = 2 * b.val + d.dir) ∧ (x.st ≠ .coast) ∧ (2000 ≤ ma) ∧
    ((∀ c, c ≠ b → (s.brg c).st ≠ .drive))) :=
  ⟨(OnPads.drv 0 100), 0, ((OnPads.drv 0 100).brg 0).desc.getD (OnPads.dsc (OnPads.drv 0 100) 9 0), ((OnPads.drv 0 100).brg 0), 20, 2500, 1,
    by (dsimp only [State.quiet]) <;> decide +kernel⟩

theorem witness_BoltsMove_2 : ∃ (s : State) (b : Fin 2) (d : Desc) (x : Bridge) (i : Byte) (ma : Nat) (e : Fin 4),
    s.quiet ∧ (let t := s.taken 9 b.val d; (let x0 := s.brg b; s.offers 9 b.val d ∧ (x0.desc = none) ∧ ((b = 1 → s.nextMove 0 = none)) ∧
    (t.moveCheck b d = none) ∧ (s.endActive (2 * b.val + d.dir) = false))) :=
  ⟨(OnPads.mv 0 0), 0, ((OnPads.mv 0 0).brg 0).desc.getD (OnPads.dsc (OnPads.mv 0 0) 9 0), Bridge.coast, 50, 2500, 0,
    by (dsimp only [State.quiet, State.offers]) <;> decide +kernel⟩

theorem witness_BoltsMove_3 : ∃ (s : State) (b : Fin 2) (d : Desc) (x : Bridge) (i : Byte) (ma : Nat) (e : Fin 4),
    s.quiet ∧ (let t := s.taken 9 b.val d; (let x0 := s.brg b; s.offers 9 b.val d ∧ (x0.desc = none) ∧ ((b = 1 → s.nextMove 0 = none)) ∧
    (t.moveCheck b d = none) ∧ (s.endActive (2 * b.val + d.dir) = true))) :=
  ⟨(OnPads.mv 0xA 0), 0, ((OnPads.mv 0xA 0).brg 0).desc.getD (OnPads.dsc (OnPads.mv 0xA 0) 9 0), Bridge.coast, 50, 2500, 0,
    by (dsimp only [State.quiet, State.offers]) <;> decide +kernel⟩

theorem witness_BoltsMove_4 : ∃ (s : State) (b : Fin 2) (d : Desc) (x : Bridge) (i : Byte) (ma : Nat) (e : Fin 4),
    s.quiet ∧ (let t := s.taken 9 b.val d; (let x0 := s.brg b; s.offers 9 b.val d ∧ (x0.desc = none) ∧ ((b = 1 → s.nextMove 0 = none)) ∧
    (t.moveCheck b d).isSome = true)) :=
  ⟨(OnPads.mv 0xF 0), 0, ((OnPads.mv 0xF 0).brg 0).desc.getD (OnPads.dsc (OnPads.mv 0xF 0) 9 0), Bridge.coast, 50, 2500, 0,
    by (dsimp only [State.quiet, State.offers]) <;> decide +kernel⟩

theorem witness_BoltsMove_5 : ∃ (s : State) (b : Fin 2) (d : Desc) (x : Bridge) (i : Byte) (ma : Nat) (e : Fin 4),
    s.quiet ∧ (let x0 := s.brg b; (s.boltUp = true) ∧ (x0 = x) ∧ (x.desc = some d) ∧ (x.st = .drive) ∧ (1 ≤ d.stallT) ∧
    (d.stallI ≤ i.toNat) ∧ (d.blank * 25 ≤ x.periods) ∧ (x.run = 0) ∧ (x.periods + d.stallT * 25 ≤ d.timeout * 25)) :=
  ⟨(OnPads.drv 0 100), 0, ((OnPads.drv 0 100).brg 0).desc.getD (OnPads.dsc (OnPads.drv 0 100) 9 0), ((OnPads.drv 0 100).brg 0), 120, 2500, 1,
    by (dsimp only [State.quiet]) <;> decide +kernel⟩

theorem witness_BoltsMove_6 : ∃ (s : State) (b : Fin 2) (d : Desc) (x : Bridge) (i : Byte) (ma : Nat) (e : Fin 4),
    s.quiet ∧ (let x0 := s.brg b; (s.boltUp = true) ∧ (x0 = x) ∧ (x.desc = some d) ∧ (x.st = .brake) ∧
    (x.since + d.brakeMs * 32768 * 65536 / 1000 ≤ s.timeBase.toNat)) :=
  ⟨(OnPads.brk 0 100), 0, ((OnPads.brk 0 100).brg 0).desc.getD (OnPads.dsc (OnPads.brk 0 100) 9 0), ((OnPads.brk 0 100).brg 0), 20, 2500, 1,
    by (dsimp only [State.quiet]) <;> decide +kernel⟩

theorem witness_TamperLoopsTrip_1 : ∃ (s : State) (n : Fin 8) (smp : Bool) (v : Word) (d : Desc),
    s.quiet ∧ (let x := s.tloop n; ((s.power.vdd = true ∧ s.has .bts = true ∧ s.fldBit F.BTS_TEN_EN n.val = true ∧
    s.fldBit F.BTS_TSTAT_TRIP n.val = false ∧ x.due ≤ s.now)) ∧ (1 ≤ s.fld F.BTS_TPER_FAILN) ∧ (smp = x.s.getLsbD 0) ∧
    (s.btsWrites = true) ∧ ((∀ m : Fin 8, v.getLsbD m.val = (m == n))) ∧ (s.fldBit F.BTS_TEN_EN n.val = true)) :=
  ⟨(OnPads.tlS 1 0), 2, true, 4, OnPads.dsc (OnPads.tlS 1 0) 9 2,
    by (dsimp only [State.quiet]) <;> decide +kernel⟩

theorem witness_TamperLoopsTrip_2 : ∃ (s : State) (n : Fin 8) (smp : Bool) (v : Word) (d : Desc),
    s.quiet ∧ (let x := s.tloop n; (¬ (s.power.vdd = true ∧ s.has .bts = true ∧ s.fldBit F.BTS_TEN_EN n.val = true ∧
    s.fldBit F.BTS_TSTAT_TRIP n.val = false ∧ x.due ≤ s.now)) ∧ (s.handedTo 9 2 = none) ∧ s.offers 9 2 d ∧ (d.op = 0x10) ∧ (d.uflags = 0) ∧
    (d.uparam = 0) ∧ (d.lenTop = 0) ∧ (d.buf = 0) ∧ (d.len = 0) ∧ (d.opd 4 = 0) ∧ (d.opd 5 = 0) ∧ (d.opd 6 = 0) ∧ (d.opd 7 = 0)) :=
  ⟨(OnPads.f0.offer 9 2 ([0x10,0,0,0,0,0,0,0].map tw)), 2, true, 4, OnPads.dsc (OnPads.f0.offer 9 2 ([0x10,0,0,0,0,0,0,0].map tw)) 9 2,
    by (dsimp only [State.quiet, State.offers]) <;> decide +kernel⟩

theorem witness_TamperLoopsTrip_3 : ∃ (s : State) (n : Fin 8) (smp : Bool) (v : Word) (d : Desc),
    s.quiet ∧ (let x := s.tloop n; ((s.power.vdd = true ∧ s.has .bts = true ∧ s.fldBit F.BTS_TEN_EN n.val = true ∧
    s.fldBit F.BTS_TSTAT_TRIP n.val = false ∧ x.due ≤ s.now)) ∧ (1 ≤ s.fld F.BTS_TPER_FAILN) ∧ (smp ≠ x.s.getLsbD 0) ∧
    (x.miss + 1 < s.fld F.BTS_TPER_FAILN)) :=
  ⟨(OnPads.tlS 1 0), 2, false, 4, OnPads.dsc (OnPads.tlS 1 0) 9 2,
    by (dsimp only [State.quiet]) <;> decide +kernel⟩

theorem witness_TamperLoopsTrip_4 : ∃ (s : State) (n : Fin 8) (smp : Bool) (v : Word) (d : Desc),
    s.quiet ∧ (let x := s.tloop n; ((s.power.vdd = true ∧ s.has .bts = true ∧ s.fldBit F.BTS_TEN_EN n.val = true ∧
    s.fldBit F.BTS_TSTAT_TRIP n.val = false ∧ x.due ≤ s.now)) ∧ (1 ≤ s.fld F.BTS_TPER_FAILN) ∧ (smp ≠ x.s.getLsbD 0) ∧
    (s.fld F.BTS_TPER_FAILN ≤ x.miss + 1)) :=
  ⟨(OnPads.tlS 1 1), 2, false, 4, OnPads.dsc (OnPads.tlS 1 1) 9 2,
    by (dsimp only [State.quiet]) <;> decide +kernel⟩

/-! ### PinsAndEdges -/

theorem witness_PinsAndEdges_1 : ∃ (s : State) (v : Word) (n : Fin 24) (level : Bool),
    s.quiet ∧ (s.steadyRuns = true) ∧ ((∀ k, k < 24 → s.fld (F.PIN_CFG_EDGE k) = 0)) ∧ (let t : ThreadId := 0; (s.coreRuns t = true) ∧
    (let func := s.pinFunc n.val; (func ≠ 1) ∧ (let m : BitVec 24 := 1#24 <<< n.val;
    (let moved : State := { s with pads := if level then s.pads ||| m else s.pads &&& ~~~m, driven := s.driven ||| m };
    (let now := moved.padLevel n.val; (¬ (s.on = true ∧ now = !s.padLevel n.val))))))) :=
  ⟨(OnPads.pn [(F.PIN_OUT_OUT,0xFF00FF)]), 0x12345678, 4, false,
    by (dsimp only [State.quiet]) <;> decide +kernel⟩

theorem witness_PinsAndEdges_2 : ∃ (s : State) (v : Word) (n : Fin 24) (level : Bool),
    s.quiet ∧ (let m : BitVec 24 := 1#24 <<< n.val;
    (let moved : State := { s with pads := if level then s.pads ||| m else s.pads &&& ~~~m, driven := s.driven ||| m };
    (let edge := s.fld (F.PIN_CFG_EDGE n.val); (let func := s.pinFunc n.val; (let now := moved.padLevel n.val; ((s.on = true ∧
    now = !s.padLevel n.val)) ∧ ((func ≠ 3 ∧ (edge = 3 ∨ edge = if now then 1 else 2))) ∧ (s.route (0x58 + n.val) = none) ∧
    (s.flag (F.PIN_CFG_WAKE n.val) = false)))))) :=
  ⟨(OnPads.pn [(F.PIN_CFG_EDGE 3, 1),(F.PIN_CFG_FUNC 3, 0)]), 0x12345678, 3, true,
    by (dsimp only [State.quiet]) <;> decide +kernel⟩

theorem witness_PinsAndEdges_3 : ∃ (s : State) (v : Word) (n : Fin 24) (level : Bool),
    s.quiet ∧ (let m : BitVec 24 := 1#24 <<< n.val;
    (let moved : State := { s with pads := if level then s.pads ||| m else s.pads &&& ~~~m, driven := s.driven ||| m };
    (let edge := s.fld (F.PIN_CFG_EDGE n.val); (let func := s.pinFunc n.val; (let now := moved.padLevel n.val; ((s.on = true ∧
    now = !s.padLevel n.val)) ∧ (¬ (func ≠ 3 ∧ (edge = 3 ∨ edge = if now then 1 else 2)))))))) :=
  ⟨(OnPads.pn [(F.PIN_OUT_OUT,0xFF00FF)]), 0x12345678, 3, true,
    by (dsimp only [State.quiet]) <;> decide +kernel⟩

/-! ### Worked cases of the spec -/

/-- 04, a paired word: g3 = INT 11, g5 the word of memory with its tag, Z = N = C = V = 0. -/
theorem test_worked_pair :
    let s := (OnThreads.f0.rg 3 [(3, tw 10), (4, tw 1), (6, tg 0x20000400 .addr)]).setThr 3 { (OnThreads.f0.rg 3 [(3, tw 10), (4, tw 1),
      (6, tg 0x20000400 .addr)]).thr 3 with st := .run }
    let u := OnRings.run (.pairedWord 3 0x88D08AB2) (s.ram 0x20000404 [tg 0x77 .raw])
    let x := u.thr 3
    x.get 3 = tw 11 ∧ x.get 5 = tg 0x77 .raw ∧ x.z = false ∧ x.n = false ∧ x.c = false ∧ x.v = false ∧ x.pc = 4 := by
  decide +kernel

/-- 04, comparing sequence numbers: 0xFFFF_FFFE against 3 gives Z = 0, N = 1, C = 0, V = 0 under SEQ, and C = 1 under INT. -/
theorem test_worked_compare :
    let f (g : Tag) : Thread := (OnRings.run (.cmp 0 .al 8 9) (OnThreads.f0.rg 0 [(8, tg 0xFFFFFFFE g), (9, tg 3 g)])).thr 0
    ((f .seq).z, (f .seq).n, (f .seq).c, (f .seq).v) = (false, true, false, false) ∧
    ((f .int).z, (f .int).n, (f .int).c, (f .int).v) = (false, true, true, false) := by
  decide +kernel

/-- 06, enable and post: ring 5 opens with G = R = 8, and PROD := 3 moves three from R to H. -/
theorem test_worked_ring :
    let s := OnPower.f0.ram 0x20001000 [tg 0x20001100 .addr, tw 8, tw 0, tw 0, tw 0, tg 0x20001200 .addr, tw 0, tw 0]
    let s1 := OnRings.run (.ringEnable 5 0x00000013) (s.wr [(F.QUE_RHDR_ADDR 5, 0x20001000 / 64)])
    let s2 := s1.doorbell 5 (tw 3)
    s1.ringState 5 = 1 ∧ (s1.mem.tword 0x20001010).data = 8 ∧ s1.acct 5 = ⟨8, 8, 0, 0⟩ ∧ s2.acct 5 = ⟨8, 5, 3, 0⟩ := by
  decide +kernel

/-- 09, setting the calendar: 2031-03-14 09:26:53 and SUB 512 commit with WDAY 5. -/
theorem test_worked_calendar :
    let s := OnTimers.f0.wr [(F.CAL_STAT_OSF, 1)]
    let set (a v : Nat) (s : State) : State := OnRings.run (.registerWrite 0 (BitVec.ofNat 32 a) (BitVec.ofNat 32 v)) s
    let s1 := OnRings.run (.sealGo .cal 1) (set 0x50000028 0x07EF030E (set 0x50000024 0x00091A35 (set 0x50000020 0x200 s)))
    (OnRings.run (.calendarSubCarry 2800 true) s1).bak.cal = ⟨512, 53, 26, 9, 5, 14, 3, 2031⟩ := by
  decide +kernel

/-- The check values of the three codes over the digits 1 to 9. -/
theorem test_check_codes :
    let l : List Byte := (List.range 9).map (fun i => BitVec.ofNat 8 (0x31 + i))
    crc32 l = 0xCBF43926 ∧ crc16 l = 0x29B1 ∧ crc8 l = 0xF4 := by
  decide +kernel

/-- The S-box of FIPS 197 at 0x53. -/
theorem test_sbox : sbox 0x53 = 0xED ∧ sboxInv 0xED = 0x53 := by decide +kernel

/-- 01 Table 1.1 and R27 at reset: account 0x40 holds eight in R, and the sum is G. -/
theorem test_reset_account : State.reset.acct 0x40 = ⟨8, 8, 0, 0⟩ ∧ State.reset.canonical := by
  unfold State.canonical; decide +kernel

/-- 17 Table 17.14, after full reset. -/
theorem test_reset_balls : State.reset.sdoDriven = false ∧ State.reset.cssBall 2 = .weakHigh ∧ State.reset.tagBall 1 = .low ∧
    (State.reset.brg 0).balls = (.highZ, .highZ) ∧ State.reset.ppsPin = false ∧ State.reset.tampBall 3 = .weakLow := by decide +kernel

end Sys2Proof.Tests
end

section
/-! PROOFS. The set-up registers: a write to FLC_SCRUB that turns the scrub on arms the rings of its report channel (05 Table 5.2; 07 R294), and what
becomes armed while the snuff hold runs ends it (05 Table 5.7). So FLC_SCRUB is no register of access codes alone. -/

namespace Sys2Proof.Machine

variable (s : State)

/-! ### What arms a ring -/

/-- A ring that becomes armed changes the snuff hold at most. -/
theorem State.ringArms_frame (n : RingId) : ∃ p, s.ringArms n = { s with power := p } := by
  unfold State.ringArms State.armedNow
  split
  · split
    · exact ⟨_, rfl⟩
    · exact ⟨s.power, rfl⟩
  · exact ⟨s.power, rfl⟩

/-- So do several, one after another. -/
theorem State.foldl_ringArms_frame (l : List RingId) : ∀ s : State, ∃ p, l.foldl State.ringArms s = { s with power := p } := by
  induction l with
  | nil => exact fun s => ⟨s.power, rfl⟩
  | cons n r ih =>
    intro s
    obtain ⟨p, hp⟩ := s.ringArms_frame n
    obtain ⟨q, hq⟩ := ih (s.ringArms n)
    exact ⟨q, by rw [List.foldl_cons, hq, hp]⟩

/-- An inbound channel that becomes enabled changes the snuff hold at most. -/
theorem State.chanArms_frame (old : State) (u ch : Nat) : ∃ p, s.chanArms old u ch = { s with power := p } := by
  unfold State.chanArms
  split
  · exact ⟨s.power, rfl⟩
  · exact State.foldl_ringArms_frame _ s

/-! ### Writes by the access codes -/

/-- The staged fields of a write change the staged image only (01 R38). -/
theorem State.stageWrite_frame (a : Nat) (v : Word) : ∃ g, s.stageWrite a v = { s with staged := g } := by
  unfold State.stageWrite
  extract_lets m
  split
  · exact ⟨s.staged, rfl⟩
  · exact ⟨_, rfl⟩

/-- A write by the access codes changes the live and the staged image only (00 R14). -/
theorem State.codeWrite_frame (a : Nat) (v : Word) : ∃ l g, s.codeWrite a v = { s with live := l, staged := g } := by
  obtain ⟨g, hg⟩ := (s.plainWrite a v).stageWrite_frame a v
  exact ⟨_, g, hg⟩

/-- A write to FLC_SCRUB takes effect by the access codes, and arms the rings of the scrub's channel where it turns the scrub on. -/
theorem exec_registerWrite_scrub (t : ThreadId) (v : Word) (hq : s.quiet) (hr : s.coreRuns t = true) :
    exec (.registerWrite t 0x40006018 v) s = .next ((s.codeWrite 0x40006018 v).chanArms s 1 1) := by
  have hreg : regAddr 0x40006018 = true := by decide
  have hown : (blkAt 0x40006018).filter (fun b => Blk.sealAt b == 0x40006018) = none := by decide
  have hmask : s.presentMask 0x40006018 ≠ 0 := by simp [State.presentMask]
  have hwrite : s.regWrite t 0x40006018 v = (s.codeWrite 0x40006018 v).chanArms s 1 1 := by
    rw [State.regWrite, if_neg hmask, hown]
    simp [State.singleWrite]
  have hquiet : ((s.codeWrite 0x40006018 v).chanArms s 1 1).ledger.resetDue = false := by
    obtain ⟨l, g, hc⟩ := s.codeWrite_frame 0x40006018 v
    obtain ⟨p, ha⟩ := (s.codeWrite 0x40006018 v).chanArms_frame s 1 1
    rw [ha, hc]
    exact hq
  change ok (if (s.coreRuns t && regAddr 0x40006018) = true then s.regWrite t 0x40006018 v else s) = _
  rw [hr, hreg, hwrite]
  exact ok_of _ hquiet

/-! ### A write that ends the snuff hold -/

/-- Thread 0 alone is live and waits for bit 0, to which ring 0 is routed: a ring ON for the scrub's reports. The scrub is off, so nothing armed can
wake the thread, and the snuff condition has held at one tick edge (05 R228, R229). -/
def scrubOffWaiting : State :=
  let s : State := { State.reset with boot := .done, power := { State.reset.power with snuffHold := 1 } }
  let s1 := s.setThr 0 { s.thr 0 with st := .wait, wmask := 1 }
  let s2 := ((s1.setBit (F.QUE_RSTAT_STATE 0)).setFld (F.QUE_RCFG_UNIT 0) 1).setFld (F.QUE_RCFG_CHAN 0) 1
  ((s2.setBit (F.EVT_MAP_EN 0)).setBit F.EVT_SNUFF_EN).clrFld F.FLC_SCRUB_EN

/-- The snuff condition holds there, and its hold has run for one tick. -/
theorem scrubOffWaiting_snuffHolds : scrubOffWaiting.snuffHolds = true ∧ scrubOffWaiting.power.snuffHold = 1 := by decide +kernel

/-- With FLC_SCRUB.EN written 1 ring 0 is armed, and the snuff hold ends. -/
theorem scrubOffWaiting_scrubOn_snuffHold :
    ((scrubOffWaiting.codeWrite 0x40006018 1).chanArms scrubOffWaiting 1 1).power.snuffHold = 0 := by decide +kernel

/-- Refutes O23: FLC_SCRUB is none of the registers that `ownWrite` sets apart, yet a write of its EN that arms a ring ends the snuff hold, so that more
than register images changes (05 Table 5.7). -/
theorem not_registerWriteFollowsAccessCodes : ¬ Obligations.RegisterWriteFollowsAccessCodes := by
  unfold Obligations.RegisterWriteFollowsAccessCodes
  intro h
  have hq : scrubOffWaiting.quiet := by
    unfold State.quiet
    decide +kernel
  have hr : scrubOffWaiting.coreRuns 0 = true := by decide +kernel
  obtain ⟨hwrite, -⟩ := h scrubOffWaiting 0 0x40006018 1 hq
  obtain ⟨u, hu, -, -, -, -, hframe⟩ := hwrite hr (by decide) (by decide) (by decide +kernel)
  have hafter : u.power.snuffHold = 0 := by
    rw [exec_registerWrite_scrub _ _ _ hq hr] at hu
    cases hu
    exact scrubOffWaiting_scrubOn_snuffHold
  have hbefore : u.power.snuffHold = 1 := by
    rw [hframe]
    exact scrubOffWaiting_snuffHolds.2
  exact absurd (hafter.symm.trans hbefore) (by decide)

end Sys2Proof.Machine
end

/-! ## The invariant: canonical images and balanced accounts

`State.Sound` is what O4 claims of every step. This layer says once, of every operation of the model, that it keeps a sound state sound; each lemma
follows its operation's own definition. -/

namespace Sys2Proof.Machine

/-- The memories and register images in canonical form, and every account in balance. -/
structure State.Sound (s : State) : Prop where
  canonical : s.canonical
  books : s.books

/-- What an instruction did leaves a sound state, whichever way it ended. -/
def Did.Sound : Did → Prop
  | .done u => u.Sound
  | .fault u _ _ => u.Sound
  | .wait u => u.Sound

/-- A command in `s` answers the next state that `ok` gives of some state, which is sound where `s` is. -/
def Answers (s : State) (r : Res) : Prop := ∃ u, r = ok u ∧ (s.Sound → u.Sound)

/-- A posting that keeps an account's sum: the grant is what is returned, held and in flight (01 R21). -/
def Balanced (f : Account → Option Account) : Prop :=
  ∀ a b : Account, a.g = a.r + a.h + a.f → f a = some b → b.g = b.r + b.h + b.f

/-! ### Postings -/

namespace Balanced

variable {k : Nat}

/-- A posting that is refused unless `p` holds, and then moves units within the account. -/
theorem guarded {p : Account → Prop} [DecidablePred p] {g : Account → Account}
    (h : ∀ a, p a → a.g = a.r + a.h + a.f → (g a).g = (g a).r + (g a).h + (g a).f) : Balanced (fun a => if p a then some (g a) else none) := by
  intro a b ha hb
  dsimp only at hb
  split at hb
  · cases hb
    exact h a ‹_› ha
  · cases hb

theorem take : Balanced (Account.take k) := guarded fun a hk ha => by dsimp only; omega
theorem give : Balanced (Account.give k) := guarded fun a hk ha => by dsimp only; omega
theorem fly : Balanced (Account.fly k) := guarded fun a hk ha => by dsimp only; omega
theorem land : Balanced (Account.land k) := guarded fun a hk ha => by dsimp only; omega
theorem lift : Balanced (Account.lift k) := guarded fun a hk ha => by dsimp only; omega
theorem settle : Balanced (Account.settle k) := guarded fun a hk ha => by dsimp only; omega

/-- A posting that is always made. -/
theorem always {g : Account → Account} (h : ∀ a, a.g = a.r + a.h + a.f → (g a).g = (g a).r + (g a).h + (g a).f) :
    Balanced (fun a => some (g a)) := by
  intro a b ha hb
  cases hb
  exact h a ha

theorem grant : Balanced (Account.grant k) := always fun a ha => by dsimp only; omega
theorem reserve : Balanced Account.reserve := always fun a ha => by dsimp only; omega
theorem withdraw : Balanced Account.withdraw := always fun _ _ => rfl
theorem regrant : Balanced (fun _ => some ⟨k, k, 0, 0⟩) := always fun _ _ => rfl
theorem release : Balanced (fun a => some { a with r := a.r + a.h, h := 0 }) := always fun a ha => by dsimp only; omega

end Balanced

/-- Right after a full reset every account is in balance: spans 0 and 1 alone are granted (01 R61). -/
theorem Ledger.reset_balanced (tick k : Nat) :
    let a := smGet (fun _ => Account.zero) (Ledger.reset tick).acct k
    a.g = a.r + a.h + a.f := by
  simp only [Ledger.reset, smGet]
  split_ifs <;> rfl

theorem Ledger.reset_wf (tick : Nat) : smWf (fun _ => Account.zero) (Ledger.reset tick).acct = true := by
  simp only [Ledger.reset]
  decide

namespace State.Sound

variable {s : State}

/-! ### The parts of the invariant -/

theorem ite {u : State} {c : Prop} [Decidable c] (hs : s.Sound) (hu : u.Sound) : (if c then s else u).Sound := by
  split
  · exact hs
  · exact hu

theorem foldl {α : Type} {l : List α} {f : State → α → State} (h : s.Sound) (hf : ∀ u a, u.Sound → (f u a).Sound) :
    (l.foldl f s).Sound := by
  induction l generalizing s with
  | nil => exact h
  | cons a l ih => exact ih (hf s a h)

theorem mem_wf (h : s.Sound) : s.mem.wf = true := h.canonical.1
theorem live_wf (h : s.Sound) : smWf resetWord s.live = true := h.canonical.2.1
theorem staged_wf (h : s.Sound) : smWf resetWord s.staged = true := h.canonical.2.2.1
theorem sealed_wf (h : s.Sound) : smWf resetWord s.sealed = true := h.canonical.2.2.2

theorem setMem (h : s.Sound) {m : Memory} (hm : m.wf = true) : ({ s with mem := m } : State).Sound :=
  ⟨⟨hm, h.live_wf, h.staged_wf, h.sealed_wf⟩, h.books⟩

/-- The three register images may be replaced by canonical ones. -/
theorem setImages (h : s.Sound) {l t d : List (Nat × Word)} (hl : smWf resetWord l = true) (ht : smWf resetWord t = true)
    (hd : smWf resetWord d = true) : ({ s with live := l, staged := t, sealed := d } : State).Sound :=
  ⟨⟨h.mem_wf, hl, ht, hd⟩, h.books⟩

/-- The accounts may be replaced by others in canonical form and in balance. -/
theorem setAccounts (h : s.Sound) {l : Ledger} (hw : smWf (fun _ => Account.zero) l.acct = true)
    (hb : ∀ k, let a := smGet (fun _ => Account.zero) l.acct k; a.g = a.r + a.h + a.f) : ({ s with ledger := l } : State).Sound :=
  ⟨h.canonical, hw, hb⟩

/-- The ledger with its accounts as they were. -/
theorem ledger (h : s.Sound) {l : Ledger} (hl : l.acct = s.ledger.acct) : ({ s with ledger := l } : State).Sound :=
  h.setAccounts (hl ▸ h.books.1) (by rw [hl]; exact h.books.2)

/-! Fields that the invariant does not read. -/

theorem pending (h : s.Sound) {x} : ({ s with pending := x } : State).Sound := ⟨h.canonical, h.books⟩
theorem free (h : s.Sound) {x} : ({ s with free := x } : State).Sound := ⟨h.canonical, h.books⟩
theorem isl (h : s.Sound) {x} : ({ s with isl := x } : State).Sound := ⟨h.canonical, h.books⟩
theorem power (h : s.Sound) {x} : ({ s with power := x } : State).Sound := ⟨h.canonical, h.books⟩
theorem clk (h : s.Sound) {x} : ({ s with clk := x } : State).Sound := ⟨h.canonical, h.books⟩
theorem boot (h : s.Sound) {x} : ({ s with boot := x } : State).Sound := ⟨h.canonical, h.books⟩
theorem threads (h : s.Sound) {x} : ({ s with threads := x } : State).Sound := ⟨h.canonical, h.books⟩
theorem evring (h : s.Sound) {x} : ({ s with evring := x } : State).Sound := ⟨h.canonical, h.books⟩
theorem late (h : s.Sound) {x} : ({ s with late := x } : State).Sound := ⟨h.canonical, h.books⟩
theorem made (h : s.Sound) {x} : ({ s with made := x } : State).Sound := ⟨h.canonical, h.books⟩
theorem lkDone (h : s.Sound) {x} : ({ s with lkDone := x } : State).Sound := ⟨h.canonical, h.books⟩
theorem issued (h : s.Sound) {x} : ({ s with issued := x } : State).Sound := ⟨h.canonical, h.books⟩
theorem rings (h : s.Sound) {x} : ({ s with rings := x } : State).Sound := ⟨h.canonical, h.books⟩
theorem handed (h : s.Sound) {x} : ({ s with handed := x } : State).Sound := ⟨h.canonical, h.books⟩
theorem rr (h : s.Sound) {x} : ({ s with rr := x } : State).Sound := ⟨h.canonical, h.books⟩
theorem flash (h : s.Sound) {x} : ({ s with flash := x } : State).Sound := ⟨h.canonical, h.books⟩
theorem time (h : s.Sound) {x} : ({ s with time := x } : State).Sound := ⟨h.canonical, h.books⟩
theorem cmpw (h : s.Sound) {x} : ({ s with cmpw := x } : State).Sound := ⟨h.canonical, h.books⟩
theorem cnt (h : s.Sound) {x} : ({ s with cnt := x } : State).Sound := ⟨h.canonical, h.books⟩
theorem bak (h : s.Sound) {x} : ({ s with bak := x } : State).Sound := ⟨h.canonical, h.books⟩
theorem radio (h : s.Sound) {x} : ({ s with radio := x } : State).Sound := ⟨h.canonical, h.books⟩
theorem mesh (h : s.Sound) {x} : ({ s with mesh := x } : State).Sound := ⟨h.canonical, h.books⟩
theorem cip (h : s.Sound) {x} : ({ s with cip := x } : State).Sound := ⟨h.canonical, h.books⟩
theorem gnss (h : s.Sound) {x} : ({ s with gnss := x } : State).Sound := ⟨h.canonical, h.books⟩
theorem csp (h : s.Sound) {x} : ({ s with csp := x } : State).Sound := ⟨h.canonical, h.books⟩
theorem tag (h : s.Sound) {x} : ({ s with tag := x } : State).Sound := ⟨h.canonical, h.books⟩
theorem bridge (h : s.Sound) {x} : ({ s with bridge := x } : State).Sound := ⟨h.canonical, h.books⟩
theorem loops (h : s.Sound) {x} : ({ s with loops := x } : State).Sound := ⟨h.canonical, h.books⟩
theorem pads (h : s.Sound) {x} : ({ s with pads := x } : State).Sound := ⟨h.canonical, h.books⟩
theorem driven (h : s.Sound) {x} : ({ s with driven := x } : State).Sound := ⟨h.canonical, h.books⟩
theorem boot_cnt_csp (h : s.Sound) {x y z} : ({ s with boot := x, cnt := y, csp := z } : State).Sound := ⟨h.canonical, h.books⟩
theorem clk_cnt (h : s.Sound) {x y} : ({ s with clk := x, cnt := y } : State).Sound := ⟨h.canonical, h.books⟩
theorem free_made (h : s.Sound) {x y} : ({ s with free := x, made := y } : State).Sound := ⟨h.canonical, h.books⟩
theorem pads_driven (h : s.Sound) {x y} : ({ s with pads := x, driven := y } : State).Sound := ⟨h.canonical, h.books⟩
theorem power_flash (h : s.Sound) {x y} : ({ s with power := x, flash := y } : State).Sound := ⟨h.canonical, h.books⟩
theorem power_radio (h : s.Sound) {x y} : ({ s with power := x, radio := y } : State).Sound := ⟨h.canonical, h.books⟩
theorem radio_mesh (h : s.Sound) {x y} : ({ s with radio := x, mesh := y } : State).Sound := ⟨h.canonical, h.books⟩
theorem time_cnt (h : s.Sound) {x y} : ({ s with time := x, cnt := y } : State).Sound := ⟨h.canonical, h.books⟩

end State.Sound

namespace Did.Sound

theorem done {u : State} (h : u.Sound) : (Did.done u).Sound := h
theorem fault {u : State} {f : FaultCode} {a : Word} (h : u.Sound) : (Did.fault u f a).Sound := h
theorem wait {u : State} (h : u.Sound) : (Did.wait u).Sound := h

theorem ite {d e : Did} {c : Prop} [Decidable c] (hd : d.Sound) (he : e.Sound) : (if c then d else e).Sound := by
  split
  · exact hd
  · exact he

end Did.Sound

namespace State.Sound

variable {s : State}

/-! ### Image -/

theorem setReg (h : s.Sound) {a v} : (s.setReg a v).Sound := h.setImages (smSet_wf _ _ _ _ h.live_wf) h.staged_wf h.sealed_wf

theorem setStg (h : s.Sound) {a v} : (s.setStg a v).Sound := h.setImages h.live_wf (smSet_wf _ _ _ _ h.staged_wf) h.sealed_wf

theorem setSld (h : s.Sound) {a v} : ({ s with sealed := smSet resetWord s.sealed a v } : State).Sound :=
  h.setImages h.live_wf h.staged_wf (smSet_wf _ _ _ _ h.sealed_wf)

theorem setFld (h : s.Sound) {f v} : (s.setFld f v).Sound := h.setReg

theorem setBit (h : s.Sound) {f} : (s.setBit f).Sound := h.setFld

theorem clrFld (h : s.Sound) {f} : (s.clrFld f).Sound := h.setFld

theorem satInc (h : s.Sound) {f} : (s.satInc f).Sound := h.setFld

theorem orFld (h : s.Sound) {f v} : (s.orFld f v).Sound := h.setFld

theorem clrBits (h : s.Sound) {f v} : (s.clrBits f v).Sound := h.setFld

theorem resetRegs (h : s.Sound) {p} : (s.resetRegs p).Sound :=
  h.setImages (smDrop_wf _ _ _ h.live_wf) (smDrop_wf _ _ _ h.staged_wf) (smDrop_wf _ _ _ h.sealed_wf)

theorem setIsland (h : s.Sound) {i x} : (s.setIsland i x).Sound := h.isl

theorem fresh (h : s.Sound) : s.fresh.Sound := h.free

theorem setThr (h : s.Sound) {t x} : (s.setThr t x).Sound := h.threads

theorem setRing (h : s.Sound) {n x} : (s.setRing n x).Sound := h.rings

/-! ### Mem -/

theorem poke (h : s.Sound) {a w} : (s.poke a w).Sound := h.setMem (Memory.setWord_wf _ _ _ h.mem_wf)

theorem noteEcc (h : s.Sound) {a} : (s.noteEcc a).Sound := by
  unfold State.noteEcc
  extract_lets s1
  have h1 : s1.Sound := h.setFld.ite h
  split
  · exact h
  · exact h1.satInc
  · exact h.setBit

theorem afterRead (h : s.Sound) {a} : (s.afterRead a).Sound := (h.noteEcc.fresh.ite h.noteEcc).ite h

/-! ### Events -/

theorem seqIssued (h : s.Sound) : s.seqIssued.Sound := h.setFld.setFld.ite h.setFld

theorem pokes (h : s.Sound) {a l} : (s.pokes a l).Sound := by
  induction l generalizing s a with
  | nil => exact h
  | cons w l ih => exact ih h.poke

theorem writeRecord (h : s.Sound) {t bit code detail stamp seq} : (s.writeRecord t bit code detail stamp seq).Sound :=
  h.ite (h.satInc.ite (h.ite h.seqIssued).pokes.poke.evring)

theorem sendRecord (h : s.Sound) {t bit code detail stamp seq} : (s.sendRecord t bit code detail stamp seq).Sound := h.writeRecord.ite h.late

theorem unhold (h : s.Sound) : s.unhold.Sound := h.power

theorem deliver (h : s.Sound) {t bits bit code detail stamp seq} : (s.deliver t bits bit code detail stamp seq).Sound :=
  (h.unhold.ite h).setThr.sendRecord

theorem deliverRouted (h : s.Sound) {t bits bit code detail stamp seq} : (s.deliverRouted t bits bit code detail stamp seq).Sound := h.ite h.deliver

theorem deliverSystem (h : s.Sound) {t bits bit code detail stamp seq} : (s.deliverSystem t bits bit code detail stamp seq).Sound :=
  h.sendRecord.ite h.deliver

theorem armedNow (h : s.Sound) {src} : (s.armedNow src).Sound := h.unhold.ite h

theorem arrive (h : s.Sound) : s.arrive.Sound := h.power.ite h

theorem fireSource (h : s.Sound) {src stamp} : (s.fireSource src stamp).Sound := by
  unfold State.fireSource
  extract_lets s1
  have h1 : s1.Sound := h.arrive.ite h
  split
  · exact h
  · exact h1.deliverRouted

theorem system (h : s.Sound) {ts code detail seq} : (s.system ts code detail seq).Sound := (h.ite h.arrive).foldl fun _ _ k => k.deliverSystem

theorem systemTo (h : s.Sound) {mask code detail} : (s.systemTo mask code detail).Sound := h.system

/-! ### Ledger -/

theorem setAcct (h : s.Sound) {i} {a : Account} (ha : a.g = a.r + a.h + a.f) : (s.setAcct i a).Sound := by
  refine h.setAccounts (smSet_wf _ _ _ _ h.books.1) fun k => ?_
  rw [smGet_set]
  split
  · exact ha
  · exact h.books.2 k

theorem setWin (h : s.Sound) {i w} : (s.setWin i w).Sound := (h.ledger (by rfl))

theorem orderReset (h : s.Sound) : s.orderReset.Sound := (h.ledger (by rfl)).ite (h.ledger (by rfl))

theorem breach (h : s.Sound) {cause i} : (s.breach cause i).Sound :=
  h.setBit.ite (h.setBit.setFld.setFld.seqIssued.setFld.system.orderReset.ite h.setBit.setFld.setFld.seqIssued.setFld.system)

theorem check (h : s.Sound) {i} : (s.check i).Sound := h.breach.ite (h.ite h.breach)

/-- A posting, made or refused, keeps the books where its terms keep their sum (01 R21, R26). -/
theorem post (h : s.Sound) {i f} (hf : Balanced f) : (s.post i f).2.Sound := by
  unfold State.post
  split
  · exact h
  · split
    · exact h
    next a ha =>
      have hfa : f (s.acct i) = some a := (Option.filter_eq_some_iff.mp ha).1
      exact (h.setAcct (hf _ _ (h.books.2 i) hfa)).check

theorem posted (h : s.Sound) {i f} (hf : Balanced f) : (s.posted i f).Sound := h.post hf

theorem grantSpans (h : s.Sound) {i} : (s.grantSpans i).Sound := h.foldl fun _ _ k => k.foldl fun _ _ k1 => (k1.posted .regrant)

theorem openQuiesce (h : s.Sound) {i} : (s.openQuiesce i).Sound := h.ite h.setWin

theorem closeQuiesce (h : s.Sound) {i} : (s.closeQuiesce i).Sound := h.setWin.check.ite h

theorem openSlot (h : s.Sound) {i} : (s.openSlot i).Sound := h.setWin

theorem closeSlot (h : s.Sound) {i} : (s.closeSlot i).Sound := h.setWin.check

theorem withdrawSpans (h : s.Sound) {i} : (s.withdrawSpans i).Sound :=
  h.foldl fun _ _ k => k.foldl fun _ _ k1 => k1.ite (k1.setAcct rfl).setWin.check

/-! ### Islands -/

theorem xt32mSettle (h : s.Sound) : s.xt32mSettle.Sound := h.ite h.clrFld

theorem wakeNoted (h : s.Sound) {i} : (s.wakeNoted i).Sound := h.radio.ite h

theorem wakeIsland (h : s.Sound) {i} : (s.wakeIsland i).Sound := by
  unfold State.wakeIsland
  extract_lets _ _
  split
  · exact h.wakeNoted
  · split
    · exact h.wakeNoted.setIsland
    · exact h.wakeNoted
    · exact h.wakeNoted.setIsland
    · exact h.wakeNoted.setIsland

theorem touch (h : s.Sound) {i} : (s.touch i).Sound := h.setIsland.ite h

theorem beginQuiesce (h : s.Sound) {i idle} : (s.beginQuiesce i idle).Sound := h.ite (h.setIsland.foldl fun _ _ k => k.openQuiesce)

/-! ### Rings -/

theorem ringArms (h : s.Sound) {n} : (s.ringArms n).Sound := h.armedNow.ite h

theorem chanArms (h : s.Sound) {old : State} {u ch} : (s.chanArms old u ch).Sound := h.ite (h.foldl fun _ _ k => k.ringArms)

theorem ringOpen (h : s.Sound) {n} : (s.ringOpen n).Sound := (h.setRing.poke.poke.poke.poke.poke.posted .regrant).setFld.ringArms

theorem ringEnable (h : s.Sound) {n} : (s.ringEnable n).Sound := h.setFld.ringOpen.ite h.setFld

theorem compRecord (h : s.Sound) {n status stamp seq result} : (s.compRecord n status stamp seq result).Sound := (h.ite h.arrive).pokes.setRing.poke

theorem mirrorCredit (h : s.Sound) {n} : (s.mirrorCredit n).Sound := h.poke

theorem writeCompletion (h : s.Sound) {n d} : (s.writeCompletion n d).Sound := by
  unfold State.writeCompletion
  extract_lets _ s0 _ s2 s3 _
  have h0 : s0.Sound := h.seqIssued.setBit.ite h.seqIssued
  have h2 : s2.Sound := h0.poke.compRecord
  have h3 : s3.Sound := (h2.posted .give).mirrorCredit
  exact h3.poke.ite h3.poke.fireSource

theorem finishAt (h : s.Sound) {d status result stamp} : (s.finishAt d status result stamp).Sound := h.made.setRing.touch

theorem finish (h : s.Sound) {d status result} : (s.finish d status result).Sound := h.finishAt

theorem refuse (h : s.Sound) {d status} : (s.refuse d status).Sound := h.fresh.finish

theorem finishOpt (h : s.Sound) {d status l} : (s.finishOpt d status l).Sound := by
  unfold State.finishOpt
  split
  · exact h.finish
  · exact h.refuse

theorem hand (h : s.Sound) {u ch d} : (s.hand u ch d).Sound := h.handed

theorem unhand (h : s.Sound) {u ch} : (s.unhand u ch).Sound := h.handed

theorem popHead (h : s.Sound) {n} : (s.popHead n).Sound := h.setRing.poke

theorem taken (h : s.Sound) {u ch d} : (s.taken u ch d).Sound := h.popHead.rr.touch

theorem takeDesc (h : s.Sound) {u ch o run} (hrun : ∀ v x1, v.Sound → (run v x1).Sound) : (s.takeDesc u ch o run).Sound := by
  unfold State.takeDesc
  split
  · exact h
  · exact h.taken.refuse.ite (hrun _ _ h.taken)

theorem takeWith (h : s.Sound) {u ch mine run} (hrun : ∀ v x1, v.Sound → (run v x1).Sound) : (s.takeWith u ch mine run).Sound :=
  h.takeDesc (fun _ _ k => hrun _ _ k)

theorem heldView (h : s.Sound) {held} : (s.heldView held).Sound := by
  unfold State.heldView
  extract_lets _
  split
  · exact h
  · split
    · exact h.setIsland
    · exact h.setIsland
    · exact h

theorem engView (h : s.Sound) {u ch} : (s.engView u ch).Sound := h.heldView

theorem holdAccess (h : s.Sound) {u ch} : (s.holdAccess u ch).Sound := h.issued.ite h

theorem dropAccess (h : s.Sound) {u ch} : (s.dropAccess u ch).Sound := h.issued

theorem flushRing (h : s.Sound) {n} : (s.flushRing n).Sound := h.free_made.setRing

theorem ringDisable (h : s.Sound) {n} : (s.ringDisable n).Sound := h.setFld.flushRing.dropAccess.ite h

theorem ringDrained (h : s.Sound) {n} : (s.ringDrained n).Sound := (h.posted .withdraw).setRing.setFld.ite h

theorem hdrChecked (h : s.Sound) {n} : (s.hdrChecked n).Sound := h.setFld.ringDisable.ite h

theorem areaBad (h : s.Sound) {n} : (s.areaBad n).Sound := h.setFld.ringDisable

theorem completeNext (h : s.Sound) {n} : (s.completeNext n).Sound := by
  unfold State.completeNext
  extract_lets s0 _
  have h0 : s0.Sound := h.hdrChecked
  split
  · exact h
  · exact (h0.setRing.areaBad.posted .give).ite h0.setRing.writeCompletion

theorem busyFix (h : s.Sound) : s.busyFix.Sound := h.setFld.setFld

theorem flashCompleted (h : s.Sound) {n i} : (s.flashCompleted n i).Sound := by
  unfold State.flashCompleted
  extract_lets _
  split
  · exact h
  · exact h.flash.busyFix.ite h

theorem freeLock (h : s.Sound) : s.freeLock.Sound := (h.cip.posted .give).clrFld

theorem cipCompleted (h : s.Sound) {n i} : (s.cipCompleted n i).Sound := by
  unfold State.cipCompleted
  extract_lets _ _
  split
  · exact h
  · exact (h.cip.freeLock.ite h.cip).ite h

theorem completed (h : s.Sound) {n} : (s.completed n).Sound := h.completeNext.flashCompleted.cipCompleted.touch.ite h

theorem completeAll (h : s.Sound) {l k} : (s.completeAll l k).Sound := by
  induction k generalizing s with
  | zero => exact h
  | succ k ih =>
    unfold State.completeAll
    split
    · exact h
    · exact ih h.completed

theorem settleSource (h : s.Sound) {src} : (s.settleSource src).Sound := h.completeAll.ite h

theorem absentPass (h : s.Sound) {n k} : (s.absentPass n k).Sound := by
  induction k generalizing s with
  | zero => exact h
  | succ k ih =>
    unfold State.absentPass
    split
    · exact h
    · exact h.ite (ih h.popHead.refuse.settleSource)

theorem overpost (h : s.Sound) {n} : (s.overpost n).Sound := h.setBit.satInc.setFld

theorem doorbell (h : s.Sound) {n w} : (s.doorbell n w).Sound := by
  unfold State.doorbell
  extract_lets _ _ _ _ s1 _ _ s2
  have h1 : s1.Sound := (h.poke.posted .take).mirrorCredit
  have h2 : s2.Sound := h1.armedNow.setRing.absentPass
  exact h.overpost.ite (h.poke.ite ((h2.ite h2.wakeIsland).ite h.overpost))

theorem storeCcons (h : s.Sound) {n w} : (s.storeCcons n w).Sound := h.setBit.ite h.poke.setRing

theorem notice (h : s.Sound) {n stamp} : (s.notice n stamp).Sound := by
  unfold State.notice
  extract_lets _ s0 _ s1 _ _ s0' _ _
  have h0 : s0.Sound := h.settleSource.hdrChecked
  have h1 : s1.Sound := h0.seqIssued.compRecord.fresh
  have h0' : s0'.Sound := h.hdrChecked
  exact h.ite ((h0.areaBad.ite h1.poke.setRing.fireSource).ite h0'.setRing.poke)

theorem noBufAt (h : s.Sound) {u ch stamp} : (s.noBufAt u ch stamp).Sound := by
  unfold State.noBufAt
  split
  · exact h
  · exact h.notice

theorem noBuf (h : s.Sound) {u ch} : (s.noBuf u ch).Sound := h.noBufAt

theorem finishHandedAt (h : s.Sound) {u ch status result stamp} : (s.finishHandedAt u ch status result stamp).Sound := by
  unfold State.finishHandedAt
  split
  · exact h
  · exact h.unhand.finishAt

theorem finishHanded (h : s.Sound) {u ch status result} : (s.finishHanded u ch status result).Sound := h.finishHandedAt

theorem slotTake (h : s.Sound) {u ch} : (s.slotTake u ch).Sound := by
  unfold State.slotTake
  split
  · exact h
  · exact h.ite (h.takeWith (fun _ _ k => k.refuse.ite k.hand))

theorem slotFill (h : s.Sound) {u ch k} : (s.slotFill u ch k).Sound := by
  induction k generalizing s with
  | zero => exact h
  | succ k ih => exact h.ite (ih h.slotTake)

theorem slotReadied (h : s.Sound) {u ch} : (s.slotReadied u ch).Sound := h.slotFill

theorem inboundAt (h : s.Sound) {u ch result stamp} : (s.inboundAt u ch result stamp).Sound :=
  (h.slotReadied.finishHandedAt.settleSource.ite h.slotReadied.finishHandedAt).ite h.slotReadied.noBufAt

theorem inbound (h : s.Sound) {u ch result} : (s.inbound u ch result).Sound := h.inboundAt.ite h.late

theorem fireSteady (h : s.Sound) {src} : (s.fireSteady src).Sound := h.settleSource.fireSource

theorem flushLate (h : s.Sound) : s.flushLate.Sound := by
  unfold State.flushLate
  extract_lets s1
  have h1 : s1.Sound := by
    refine h.late.foldl fun u r k => ?_
    split
    · exact k.writeRecord
    · exact k.inboundAt
  exact ite (h1.ledger rfl) h1

/-! ### Ops -/

theorem storeWord (h : s.Sound) {a w} : (s.storeWord a w).Sound := by
  unfold State.storeWord
  split
  · exact h.doorbell
  · exact h.storeCcons
  · exact h.breach
  · exact (h.setMem (Memory.setData_wf _ _ _ h.mem_wf)).touch.ite h.poke

theorem storePart (h : s.Sound) {a l} : (s.storePart a l).Sound := by
  unfold State.storePart
  split
  · exact h.breach
  · exact h.setBit
  · split
    · exact (h.setMem (Memory.setBytes_wf _ _ _ h.mem_wf)).touch
    · exact h.setMem (Memory.setTag_wf _ _ _ (Memory.setBytes_wf _ _ _ h.mem_wf))

theorem storeWords (h : s.Sound) {a l} : (s.storeWords a l).Sound := by
  induction l generalizing s a with
  | nil => exact h
  | cons w l ih => exact ih h.storeWord

theorem storeEach (h : s.Sound) {a l} : (s.storeEach a l).Sound := by
  induction l generalizing s a with
  | nil => exact h
  | cons b l ih => exact ih h.storePart

theorem storeAligned (h : s.Sound) {tag a l} : (s.storeAligned tag a l).Sound := by
  fun_induction State.storeAligned s tag a l with
  | case1 s a b0 b1 b2 b3 r ih => exact ih h.storeWord
  | case2 s a l hl => exact h.storeEach

theorem storeBytes (h : s.Sound) {tag a l} : (s.storeBytes tag a l).Sound := h.storeEach.storeAligned

theorem noteUnits (h : s.Sound) {l} : (s.noteUnits l).Sound := by
  induction l generalizing s with
  | nil => exact h
  | cons a l ih => exact h.noteEcc.ite (ih h.noteEcc)

theorem noteRead (h : s.Sound) {a n} : (s.noteRead a n).Sound := h.noteUnits.ite (h.touch.ite h)

theorem freshCut (h : s.Sound) : s.freshCut.Sound := h.ite h.fresh

theorem afterEngRead (h : s.Sound) {a n} : (s.afterEngRead a n).Sound := h.noteRead.freshCut.ite h.noteRead

theorem afterReads (h : s.Sound) {l} : (s.afterReads l).Sound := (h.foldl fun _ _ k => k.noteRead).freshCut

theorem engWait (h : s.Sound) {light} : (s.engWait light).Sound := h.wakeIsland.ite h

theorem takeReady (h : s.Sound) {u ch mine needs run} (hrun : ∀ v x1, v.Sound → (run v x1).Sound) : (s.takeReady u ch mine needs run).Sound := by
  unfold State.takeReady
  split
  · exact h
  · split
    · exact h.takeWith (fun _ _ k => hrun _ _ k)
    · split
      · exact h.holdAccess.engWait
      · exact (h.takeWith (fun _ _ k => hrun _ _ k)).dropAccess

theorem resetImages (h : s.Sound) {c} : (s.resetImages c).Sound :=
  ((h.resetRegs.setFld.ite h.resetRegs.setFld.setFld.setFld).clrFld.foldl fun _ _ k => k.setStg).setReg.setReg.setStg.setStg

/-- A full reset keeps the images in canonical form and grants spans 0 and 1 alone (01 R61). -/
theorem fullReset (h : s.Sound) {c} : (s.fullReset c).Sound := by
  have hi : (s.resetImages c).Sound := h.resetImages
  have hm : (s.fullReset c).mem.wf = true := by
    simp only [State.fullReset]
    exact Memory.clear_wf _ _ h.mem_wf
  have hl : (s.fullReset c).live = (s.resetImages c).live := by simp only [State.fullReset]
  have ht : (s.fullReset c).staged = (s.resetImages c).staged := by simp only [State.fullReset]
  have hd : (s.fullReset c).sealed = (s.resetImages c).sealed := by simp only [State.fullReset]
  refine ⟨⟨hm, ?_, ?_, ?_⟩, Ledger.reset_wf _, Ledger.reset_balanced _⟩
  · rw [hl]
    exact hi.live_wf
  · rw [ht]
    exact hi.staged_wf
  · rw [hd]
    exact hi.sealed_wf

theorem setKst (h : s.Sound) {n v} : (s.setKst n v).Sound := h.setFld

theorem setKeySlot (h : s.Sound) {n k'} : (s.setKeySlot n k').Sound := h.cip

theorem emptySlot (h : s.Sound) {n} : (s.emptySlot n).Sound := h.setKeySlot.setKst

theorem spendAll (h : s.Sound) {n} : (s.spendAll n).Sound := (h.posted .release)

theorem endWaiting (h : s.Sound) {status} : (s.endWaiting status).Sound := by
  unfold State.endWaiting
  extract_lets _
  split
  · exact h
  · exact (h.cip.emptySlot.ite h.cip).refuse

theorem restate (h : s.Sound) {d status} : (s.restate d status).Sound := h.setRing.fresh

theorem endOp (h : s.Sound) {status zero} : (s.endOp status zero).Sound := by
  unfold State.endOp
  split
  · exact h.endWaiting
  · exact h
  · exact (h.storeBytes.ite h).restate

theorem breakLock (h : s.Sound) {cause} : (s.breakLock cause).Sound := h.ite h.endOp.freeLock.settleSource.systemTo

theorem breakLockOf (h : s.Sound) {ts cause} : (s.breakLockOf ts cause).Sound := h.breakLock.ite h

theorem settle (h : s.Sound) : s.settle.Sound := h.fullReset.ite h

/-! ### Power -/

theorem setWs (h : s.Sound) : s.setWs.Sound := h.setFld

theorem slewWs (h : s.Sound) : s.slewWs.Sound := h.setFld

theorem fllRetarget (h : s.Sound) : s.fllRetarget.Sound := (h.clk.ite h.clk.clrFld).slewWs

theorem fllRow80 (h : s.Sound) : s.fllRow80.Sound := h.clk.clrFld.setWs

theorem fllStop (h : s.Sound) : s.fllStop.Sound := h.time.clrFld

theorem presentSpan (h : s.Sound) {sp d} : (s.presentSpan sp d).Sound := (h.setWin.posted .fly).arrive.ite (h.setWin.posted .fly)

theorem spanRequest (h : s.Sound) {sp d} : (s.spanRequest sp d).Sound := h.ite (h.power.ite (h.presentSpan.ite h))

theorem crossed (h : s.Sound) {sp d} : (s.crossed sp d).Sound := (h.presentSpan.posted .land).setWin.check.ite h

theorem presentHeld (h : s.Sound) : s.presentHeld.Sound := h.power.foldl fun _ _ k => k.presentSpan.ite k.power

theorem restartThreads (h : s.Sound) : s.restartThreads.Sound := (h.foldl fun _ _ k => k.setThr.clrFld.clrFld).fresh

theorem restartSteady (h : s.Sound) {fll} (hfll : ∀ v, v.Sound → (fll v).Sound) : (s.restartSteady fll).Sound := by
  unfold State.restartSteady
  extract_lets s1 s2 s3
  have h1 : s1.Sound := h.breakLockOf.restartThreads
  have h2 : s2.Sound := h1.resetRegs
  have h3 : s3.Sound := h2.boot_cnt_csp
  exact (hfll _ h3.fllStop.clrFld.setFld).xt32mSettle

theorem steadyWakes (h : s.Sound) {src} : (s.steadyWakes src).Sound := by
  unfold State.steadyWakes
  extract_lets _ _ _ _ s1 s2 s3
  have h1 : s1.Sound := h.radio.setIsland
  have h2 : s2.Sound := h1.restartSteady (fun _ k => k.fllRetarget)
  have h3 : s3.Sound := h2.setFld.setFld.setFld.clrFld
  exact h3.ite h3.clrFld

theorem steadyLit (h : s.Sound) : s.steadyLit.Sound := h.setIsland.grantSpans.flushLate.presentHeld

theorem wakeSource (h : s.Sound) {bit} : (s.wakeSource bit).Sound := h.ite ((h.power.ite h.power).ite (h.steadyWakes.ite h))

theorem steadyDown (h : s.Sound) {target why} : (s.steadyDown target why).Sound := by
  unfold State.steadyDown
  extract_lets _ s1 s2 _ _ s3 s4
  have h1 : s1.Sound := h.setIsland.fllStop
  have h2 : s2.Sound := h1.setFld.setFld.clrFld
  have h3 : s3.Sound := (h2.setMem (Memory.clear_wf _ _ h2.mem_wf)).power_radio
  have h4 : s4.Sound := h3.xt32mSettle
  exact h4.ite h4.steadyWakes

theorem burstOn (h : s.Sound) : s.burstOn.Sound := by
  unfold State.burstOn
  split
  · split
    · exact h.wakeIsland
    · exact h.wakeIsland
    · exact h
  · exact h

theorem startThread (h : s.Sound) {t pc} : (s.startThread t pc).Sound := h.setThr.fresh

theorem burstOff (h : s.Sound) : s.burstOff.Sound := by
  unfold State.burstOff
  extract_lets _
  split
  · exact h.beginQuiesce
  · exact h.setIsland
  · exact h

theorem litFail (h : s.Sound) {i} : (s.litFail i).Sound := h.orFld.systemTo.xt32mSettle

theorem firstFell (h : s.Sound) : s.firstFell.Sound := h.setIsland.withdrawSpans.fllStop.clrFld.litFail

theorem steadyFell (h : s.Sound) : s.steadyFell.Sound := h.setIsland.fllStop.clrFld.setFld.litFail

theorem softReset (h : s.Sound) {v} : (s.softReset v).Sound := h.fullReset.ite h

/-! ### TimeBase -/

theorem tmbLoRead (h : s.Sound) {t} : (s.tmbLoRead t).Sound := h.time

theorem cmpPut (h : s.Sound) {n w} : (s.cmpPut n w).Sound := h.cmpw.setBit

theorem cmpAccept (h : s.Sound) {n w} : (s.cmpAccept n w).Sound := h.cmpPut.crossed

theorem cmpSetVal (h : s.Sound) {n v} : (s.cmpSetVal n v).Sound := h.setFld.setBit.ite h.setFld

theorem cmpApply (h : s.Sound) {n l} : (s.cmpApply n l).Sound := by
  unfold State.cmpApply
  split
  · extract_lets s1 s2
    have h1 : s1.Sound := h.setFld.setFld.setFld
    have h2 : s2.Sound := h1.clrFld.ite h1
    exact h2.armedNow.ite h2
  · exact h.cmpSetVal
  · exact h.cmpSetVal
  · exact h.setFld

theorem cmpJudged (h : s.Sound) {n} : (s.cmpJudged n).Sound := h.time

theorem cmpMode (h : s.Sound) {n} : (s.cmpMode n).Sound := by
  unfold State.cmpMode
  split
  · exact h.clrFld
  · exact h.setFld
  · exact h

theorem cmpFire (h : s.Sound) {n} : (s.cmpFire n).Sound := h.cmpJudged.orFld.fireSource.cmpMode.wakeSource.ite h.cmpJudged.orFld.fireSource.cmpMode

theorem cmpApplyAll (h : s.Sound) {n} : (s.cmpApplyAll n).Sound :=
  (h.cmpJudged.foldl fun _ _ k => k.cmpApply).cmpw.clrFld.ite (h.cmpJudged.foldl fun _ _ k => k.cmpApply).cmpw

theorem cmpEdgeDone (h : s.Sound) : s.cmpEdgeDone.Sound := (h.foldl fun _ _ k => k.cmpFire.ite k).foldl fun _ _ k => k.cmpApplyAll.ite k

/-! ### Counters -/

theorem setPre (h : s.Sound) {n p} : (s.setPre n p).Sound := h.cnt

theorem counterArms (h : s.Sound) {old : State} {n} : (s.counterArms old n).Sound := h.armedNow.ite h

theorem counterStart (h : s.Sound) {n} : (s.counterStart n).Sound := h.ite h.setBit.setPre

theorem count (h : s.Sound) {n} : (s.count n).Sound := by
  unfold State.count
  extract_lets _ _ _ s1 s2 s3 s4
  have h1 : s1.Sound := h.setFld.setPre
  have h2 : s2.Sound := h1.setBit.ite h1
  have h3 : s3.Sound := h2.setBit.ite h2
  have h4 : s4.Sound := h3.setFld.ite h3
  exact h4.fireSteady.ite h4

theorem countDue (h : s.Sound) {n} : (s.countDue n).Sound := h.count.ite h

theorem capture (h : s.Sound) {n} : (s.capture n).Sound := (h.countDue.setBit.ite h.countDue).setFld.setBit.setPre

theorem sourceEdge (h : s.Sound) {n} : (s.sourceEdge n).Sound := h.countDue.setPre.ite h

theorem srcEdges (h : s.Sound) {src p} : (s.srcEdges src p).Sound := h.foldl fun _ _ k => k.sourceEdge

theorem capEdges (h : s.Sound) {sel p} : (s.capEdges sel p).Sound := (h.foldl fun _ _ k => (k.capture.ite k).setPre).ite h

theorem cntinEdge (h : s.Sound) {k' level} : (s.cntinEdge k' level).Sound := h.srcEdges.capEdges.ite h

theorem ppsEdge (h : s.Sound) : s.ppsEdge.Sound := h.srcEdges.capEdges.ite h

theorem counterStop (h : s.Sound) {n} : (s.counterStop n).Sound := h.countDue.clrFld.xt32mSettle

theorem setCmpv (h : s.Sound) {n v} : (s.setCmpv n v).Sound := h.countDue.setFld.setBit.ite h.countDue.setFld

theorem setCrel (h : s.Sound) {n d} : (s.setCrel n d).Sound := h.countDue.setCmpv

theorem setCount (h : s.Sound) {n v} : (s.setCount n v).Sound := h.ite h.setFld

theorem counterCtl (h : s.Sound) {n v} : (s.counterCtl n v).Sound :=
  (h.setFld.setFld.setFld.counterStart.ite h.setFld.setFld.setFld.counterStop).counterArms

theorem divRestart (h : s.Sound) {n} : (s.divRestart n).Sound := h.countDue.setPre

theorem counterCommit (h : s.Sound) {n} : (s.counterCommit n).Sound :=
  h.divRestart.ite (h.divRestart.setReg.setReg.setBit.ite h.divRestart.setReg.setReg).setPre

theorem cntCommit (h : s.Sound) : s.cntCommit.Sound := (h.foldl fun _ _ k => k.counterCommit).xt32mSettle

/-! ### Calendar -/

theorem setBak (h : s.Sound) {b} : (s.setBak b).Sound := h.bak

theorem calFreeze (h : s.Sound) : s.calFreeze.Sound := h.ite h.setReg.setReg.setReg.setReg.setBak.setBit

theorem calClose (h : s.Sound) : s.calClose.2.Sound := by
  unfold State.calClose
  split
  · exact h.clrFld
  · exact h

theorem lbvCompare (h : s.Sound) {mv switching} : (s.lbvCompare mv switching).Sound := h.ite (h.setFld.setBit.ite h.setFld).setBak

theorem calSet (h : s.Sound) {date v} : (s.calSet date v).Sound := (h.setStg.ite h.setBit).ite (h.setStg.ite h.setBit)

theorem calCommit (h : s.Sound) : s.calCommit.Sound := h.setBak

theorem calCommitEdge (h : s.Sound) : s.calCommitEdge.Sound := h.calCommit.setBak.clrFld

theorem calCarry (h : s.Sound) {vbakMv switching} : (s.calCarry vbakMv switching).Sound := by
  unfold State.calCarry
  extract_lets _
  split
  · exact (h.setBak.setBit.ite h.setBak).lbvCompare.ite (h.setBak.setBit.ite h.setBak)

theorem backupRestart (h : s.Sound) : s.backupRestart.Sound := h.resetRegs.setBak

theorem tamperLatch (h : s.Sound) {loop passive noVdd} : (s.tamperLatch loop passive noVdd).Sound :=
  h.satInc.ite h.setReg.setReg.setReg.setFld.setFld.setFld.setFld.setBit

theorem tamperClear (h : s.Sound) {v} : (s.tamperClear v).Sound := h.setReg.setReg.setReg.setReg.ite h

/-! ### Flash -/

theorem flashBegin (h : s.Sound) {o} : (s.flashBegin o).Sound := h.flash.busyFix.clrFld

theorem resvEnd (h : s.Sound) : s.resvEnd.Sound := h.flash.busyFix

theorem resvBegin (h : s.Sound) : s.resvBegin.Sound := h.flash.busyFix.ite h

theorem flashOver (h : s.Sound) {o st r} : (s.flashOver o st r).Sound := h.flash.finishOpt.resvBegin

theorem flashRun (h : s.Sound) {d} : (s.flashRun d).Sound := by
  unfold State.flashRun
  split
  · exact h.finishOpt
  · exact h.flashBegin

theorem flashTake (h : s.Sound) {op} : (s.flashTake op).Sound := h.ite (h.takeWith (fun _ _ k => k.flashRun))

theorem flashEnd (h : s.Sound) {o st done} : (s.flashEnd o st done).Sound := h.flashOver

theorem flashAdvance (h : s.Sound) {o} : (s.flashAdvance o).Sound := h.flashEnd.ite h.flash.resvBegin

theorem programUnit (h : s.Sound) {u w} : (s.programUnit u w).Sound := h.pokes.flash

theorem cutUnit (h : s.Sound) {u} : (s.cutUnit u).Sound := h.flash

theorem eraseSector (h : s.Sound) {sec} : (s.eraseSector sec).Sound := (h.setMem (Memory.clear_wf _ _ h.mem_wf)).flash

theorem cutSector (h : s.Sound) {sec} : (s.cutSector sec).Sound := h.flash

theorem verifyUnitDone (h : s.Sound) {o} : (s.verifyUnitDone o).Sound := by
  unfold State.verifyUnitDone
  extract_lets _ _ s1
  have h1 : s1.Sound := h.noteEcc.fresh.ite h.noteEcc
  split
  · exact h1.flashOver
  · split
    · exact h1.flashOver
    · exact h1.flashAdvance

theorem flashCycle (h : s.Sound) : s.flashCycle.Sound := by
  unfold State.flashCycle
  split
  · exact h
  · exact h.verifyUnitDone.ite h

theorem flashSuspend (h : s.Sound) : s.flashSuspend.Sound := by
  unfold State.flashSuspend
  extract_lets _
  split
  · exact h
  · exact h.ite (h.setBit.ite h.flash.setFld)

theorem flashResume (h : s.Sound) : s.flashResume.Sound := by
  unfold State.flashResume
  split
  · exact h
  · exact h.clrFld.busyFix.ite h

theorem flashQuiesce (h : s.Sound) : s.flashQuiesce.Sound := by
  unfold State.flashQuiesce
  extract_lets s1 _
  have h1 : s1.Sound := h.flashResume
  split
  · exact h1
  · exact h1.flash

theorem flashCtl (h : s.Sound) {v} : (s.flashCtl v).Sound := by
  unfold State.flashCtl
  split
  · exact h.flashSuspend
  · exact h.flashResume
  · exact h

theorem scrubPost (h : s.Sound) {status a} : (s.scrubPost status a).Sound := h.finishHanded.ite h.satInc.noBuf

theorem scrubUnit (h : s.Sound) : s.scrubUnit.Sound := by
  unfold State.scrubUnit
  extract_lets _ _ s1 _ s3
  have h1 : s1.Sound := by
    unfold s1
    split
    · exact h
    · exact h.satInc.scrubPost
    · exact h.scrubPost
  have h3 : s3.Sound := h1.clrFld.setFld.setFld.ite h1.clrFld.setFld
  exact h3.fresh.ite h3

theorem scrubHeld (h : s.Sound) : s.scrubHeld.Sound := h.ite (h.scrubUnit.flash.ite h.scrubUnit.flash.clrFld)

theorem scrubSeek (h : s.Sound) {u} (e : s.scrubSeek = some u) : u.Sound := by
  unfold State.scrubSeek at e
  split at e
  · cases e
    exact h
  · split at e
    · cases e
      exact h.setFld
    · cases e

theorem flcEccClr (h : s.Sound) : s.flcEccClr.Sound := h.clrFld.clrFld

/-! ### Nonce -/

theorem programInts (h : s.Sound) {u w} : (s.programInts u w).Sound := h.programUnit

theorem openSector (h : s.Sound) {sec gen} : (s.openSector sec gen).Sound := h.programInts

theorem copyRecord (h : s.Sound) {sec r} : (s.copyRecord sec r).Sound := by
  unfold State.copyRecord
  split
  · exact h
  · exact h.noteEcc.programInts

theorem scanNonce (h : s.Sound) : s.scanNonce.Sound := h.foldl fun _ _ k => k.noteEcc

theorem rotate (h : s.Sound) {head} : (s.rotate head).Sound := by
  unfold State.rotate
  split
  · exact h
  · exact (h.foldl fun _ _ k => k.copyRecord).cip.eraseSector

theorem newHead (h : s.Sound) {u} (e : s.newHead = some u) : u.Sound := by
  unfold State.newHead at e
  split at e
  · obtain ⟨x, -, rfl⟩ := Option.map_eq_some_iff.mp e
    exact h.openSector.fresh
  · split at e
    · cases e
    · cases e
      exact ite h.openSector.rotate h.openSector

theorem headRoom (h : s.Sound) {u k} (e : s.headRoom = some (u, k)) : u.Sound := by
  unfold State.headRoom at e
  split at e
  · cases e
    exact h
  · obtain ⟨t, ht, e⟩ := Option.bind_eq_some_iff.mp e
    obtain ⟨x, -, e⟩ := Option.map_eq_some_iff.mp e
    cases e
    exact h.newHead ht

theorem nonceWork (h : s.Sound) {f} (hf : ∀ v, v.Sound → (f v).Sound) : (s.nonceWork f).Sound := (hf _ h.crossed).crossed

theorem tidyOldest (h : s.Sound) : s.tidyOldest.Sound := by
  unfold State.tidyOldest
  split
  · exact h
  · split
    · exact (h.nonceWork (fun _ k => k.rotate)).ite h
    · exact h

theorem tidyNonce (h : s.Sound) : s.tidyNonce.Sound := (h.scanNonce.foldl fun _ _ k => k.nonceWork (fun _ k1 => k1.eraseSector)).tidyOldest.setBit

theorem tidyLate (h : s.Sound) : s.tidyLate.Sound := h.tidyOldest.ite h

theorem askRecord (h : s.Sound) {r} : (s.askRecord r).Sound := h.ite (h.crossed.flash.resvBegin.ite h.crossed.flash)

/-! ### Cipher -/

theorem grantLock (h : s.Sound) {t} : (s.grantLock t).Sound := (h.posted .take).setBit.setFld.setFld

theorem claimLock (h : s.Sound) {t} : (s.claimLock t).Sound := h.ite (h.grantLock.ite (h.cip.ite h))

theorem releaseLock (h : s.Sound) {t} : (s.releaseLock t).Sound := (h.cip.ite h.freeLock).ite h

theorem cipLockWrite (h : s.Sound) {t v} : (s.cipLockWrite t v).Sound :=
  h.ite ((h.wakeIsland.releaseLock.ite h.wakeIsland).ite (h.wakeIsland.claimLock.ite h.wakeIsland))

theorem cipWait (h : s.Sound) {d} : (s.cipWait d).Sound := h.cip

theorem cipRead (h : s.Sound) {d} : (s.cipRead d).Sound := h.afterReads

theorem kloadEnd (h : s.Sound) {d kst} : (s.kloadEnd d kst).Sound := (h.setKst.storeBytes.ite h.setKst).finish

theorem kloadFrom (h : s.Sound) {d key kcv ctr} : (s.kloadFrom d key kcv ctr).Sound :=
  h.setKeySlot.setKst.kloadEnd.ite h.setKeySlot.setKst.askRecord.cipWait

theorem kloadRun (h : s.Sound) {d} : (s.kloadRun d).Sound := by
  unfold State.kloadRun
  extract_lets _ _ _ s1
  have h1 : s1.Sound := h.cipRead.freshCut.spendAll
  split
  · exact h1.setKeySlot.kloadEnd
  · split
    · exact h1.kloadFrom
    · exact h1.fresh.setKeySlot.kloadEnd.ite h1.kloadFrom

theorem kzeroRun (h : s.Sound) {d} : (s.kzeroRun d).Sound := h.spendAll.emptySlot.finish

theorem askRetire (h : s.Sound) {n} : (s.askRetire n).Sound := h.askRecord.fresh

theorem retireSlot (h : s.Sound) {n} : (s.retireSlot n).Sound := h.spendAll.setKst

theorem kretireRun (h : s.Sound) {d} : (s.kretireRun d).Sound := by
  unfold State.kretireRun
  split
  · exact h.askRetire.cipWait
  · exact h.retireSlot.finish
  · exact h.finish

theorem blockRun (h : s.Sound) {d} : (s.blockRun d).Sound := h.cipRead.storeBytes.finish

theorem advanceCtr (h : s.Sound) {n} : (s.advanceCtr n).Sound := (h.setKeySlot.posted .give).ite (h.setKeySlot.askRecord.ite h.setKeySlot)

theorem ccmencRun (h : s.Sound) {d} : (s.ccmencRun d).Sound :=
  h.retireSlot.askRetire.refuse.ite (h.cipRead.storeBytes.advanceCtr.finish.ite h.askRecord.cipWait)

theorem ccmdecRun (h : s.Sound) {d} : (s.ccmdecRun d).Sound := h.cipRead.storeBytes.finish.ite h.cipRead.storeBytes.refuse

theorem cipWork (h : s.Sound) {d} : (s.cipWork d).Sound := by
  unfold State.cipWork
  split
  · exact h.kloadRun
  · exact h.kzeroRun
  · exact h.kretireRun
  · exact h.ccmencRun
  · exact h.ccmdecRun
  · exact h.blockRun

theorem cipDone (h : s.Sound) {d} : (s.cipDone d).Sound := h.ite h.cip

theorem cipScan (h : s.Sound) {d} : (s.cipScan d).Sound := h.tidyNonce.ite h

theorem cipRun (h : s.Sound) {d} : (s.cipRun d).Sound := by
  unfold State.cipRun
  extract_lets _
  split
  · exact (h.cipRead.ite h).refuse
  · split
    · exact h.cipScan.cipRead.refuse
    · exact h.cipScan.cipWork.cipDone

theorem cipTake (h : s.Sound) {op} : (s.cipTake op).Sound := h.ite (h.takeReady (fun _ _ k => k.cipRun))

theorem recordDone (h : s.Sound) {r} : (s.recordDone r).Sound :=
  (h.posted .reserve).ite ((h.posted .reserve).retireSlot.ite (h.posted .reserve).setKeySlot)

theorem cipResume (h : s.Sound) {d} : (s.cipResume d).Sound := by
  unfold State.cipResume
  split
  · exact ((h.cipRead.ite h).spendAll.emptySlot.ite (h.cipRead.ite h)).refuse
  · split
    · exact h.kloadEnd
    · exact h.finish
    · exact h.ccmencRun

theorem cipContinue (h : s.Sound) : s.cipContinue.Sound := by
  unfold State.cipContinue
  extract_lets _
  split
  · exact h
  · split
    · exact h
    · split
      · exact h.holdAccess.engWait
      · exact h.cip.cipResume.cipDone.dropAccess

theorem resvNext (h : s.Sound) {more} : (s.resvNext more).Sound := h.flash.resvEnd.ite h.flash

theorem nonPurge (h : s.Sound) {v} : (s.nonPurge v).Sound := h.cip.ite h

theorem spendSlots (h : s.Sound) : s.spendSlots.Sound := h.foldl fun _ _ k => k.spendAll

theorem zeroise (h : s.Sound) {tamper} : (s.zeroise tamper).Sound := by
  unfold State.zeroise
  extract_lets s1 s2 _
  have h1 : s1.Sound := h.endOp.foldl fun _ _ k => k.emptySlot
  have h2 : s2.Sound := h1.setBit.ite h1
  exact h.ite (h2.spendSlots.ite h2.cip)

theorem zeroWrite (h : s.Sound) {v} : (s.zeroWrite v).Sound := h.zeroise.ite h

/-! ### Staging -/

theorem sealCopy (h : s.Sound) {b} : (s.sealCopy b).Sound := h.foldl fun _ _ k => k.setSld

theorem lkClose (h : s.Sound) {b} : (s.lkClose b).Sound := h.ite h.lkDone

theorem sealWrite (h : s.Sound) {b v} : (s.sealWrite b v).Sound := by
  unfold State.sealWrite
  extract_lets _ s1 s2 s3
  have h1 : s1.Sound := h.clrFld.ite h
  have h2 : s2.Sound := h1.clrFld.ite h1
  have h3 : s3.Sound := h2.setBit.ite h2
  exact h3.sealCopy.setBit.setBit.lkClose.ite h2

theorem commitReg (h : s.Sound) {a} : (s.commitReg a).Sound := h.setReg

theorem commitAll (h : s.Sound) {b} : (s.commitAll b).Sound := (h.foldl fun _ _ k => k.commitReg).clrFld

theorem sealDiscard (h : s.Sound) {b} : (s.sealDiscard b).Sound := h.clrFld.setBit.ite h

theorem clampFld (h : s.Sound) {f v flag} : (s.clampFld f v flag).Sound := h.ite h.setFld.setBit

theorem clampRange (h : s.Sound) {f lo hi flag} : (s.clampRange f lo hi flag).Sound := h.clampFld

/-! ### Bolt -/

theorem setBrg (h : s.Sound) {b x} : (s.setBrg b x).Sound := h.bridge.clrBits.ite h.bridge.orFld

theorem moveRun (h : s.Sound) {b d} : (State.moveRun b s d).Sound := by
  unfold State.moveRun
  split
  · exact h.refuse
  · exact h.finish.ite h.setBrg

theorem sensed (h : s.Sound) {b cur} : (s.sensed b cur).Sound := by
  unfold State.sensed
  split
  · exact h
  · exact h.setFld

theorem driveOn (h : s.Sound) {b cur atEnd} : (s.driveOn b cur atEnd).Sound := by
  unfold State.driveOn
  extract_lets _ _
  split
  · split
    · split
      · exact h.sensed.setBrg
    · split
      · exact h.sensed.setBrg
  · exact h

theorem moveDone (h : s.Sound) {b st} : (s.moveDone b st).Sound := by
  unfold State.moveDone
  extract_lets _
  split
  · exact h
  · exact h.setBrg.finish

theorem setTloop (h : s.Sound) {n x} : (s.setTloop n x).Sound := h.loops

theorem lockBolts (h : s.Sound) : s.lockBolts.Sound := by
  unfold State.lockBolts
  refine h.foldl fun acc b k => ?_
  extract_lets _
  split
  · exact k.setBrg.ite k
  · exact k

theorem trip (h : s.Sound) {n} : (s.trip n).Sound := by
  unfold State.trip
  extract_lets _ _ s2 s3 s4 s5
  have h2 : s2.Sound := h.orFld.zeroise.ite h.orFld
  have h3 : s3.Sound := h2.crossed.tamperLatch
  have h4 : s4.Sound := h3.lockBolts.ite h3
  have h5 : s5.Sound := h4.wakeSource.ite h4
  exact h5.arrive.inbound

theorem armLoop (h : s.Sound) {n} : (s.armLoop n).Sound := h.setTloop

theorem loopRearm (h : s.Sound) {v} : (s.loopRearm v).Sound := h.foldl fun _ _ k => k.clrBits.armLoop.ite k

theorem btsTen (h : s.Sound) {v} : (s.btsTen v).Sound := (h.setFld.foldl fun _ _ k => k.armLoop.ite k).chanArms

theorem btsCommit (h : s.Sound) : s.btsCommit.Sound := h.commitAll.clampRange.clampRange.foldl fun _ _ k => k.setFld.ite k

theorem boltBrake (h : s.Sound) : s.boltBrake.Sound := h.foldl fun _ _ k => k.setBrg.ite k

/-! ### Csp -/

theorem setCsp (h : s.Sound) {c} : (s.setCsp c).Sound := h.csp

theorem frameBegin (h : s.Sound) : s.frameBegin.Sound := h.setCsp.ite (h.setCsp.ite h.setCsp)

theorem frameJudged (h : s.Sound) {res} : (s.frameJudged res).Sound := h.setCsp.clrFld.setFld.setFld

theorem frameDiscard (h : s.Sound) : s.frameDiscard.Sound := h.setCsp.satInc

theorem recordPut (h : s.Sound) {f} : (s.recordPut f).Sound := by
  unfold State.recordPut
  split
  · exact h
  · exact h.storeWords.finishHanded

theorem goStart (h : s.Sound) {a} : (s.goStart a).Sound := h.startThread.setThr.clrFld.boot

theorem frameCommit (h : s.Sound) {f k'} : (s.frameCommit f k').Sound := by
  unfold State.frameCommit
  extract_lets _
  split
  · exact h.storeWords
  · exact h.setCsp.setBit
  · exact h.recordPut
  · exact h.goStart
  · exact h

theorem frameJudge (h : s.Sound) {f} : (s.frameJudge f).Sound :=
  h.frameDiscard.ite (h.frameJudged.frameCommit.ite (h.frameJudged.noBuf.ite h.frameJudged))

theorem frameEnd (h : s.Sound) {h' mine} : (s.frameEnd h' mine).Sound := h.ite h.setCsp.frameJudge

theorem setXfer (h : s.Sound) {x} : (s.setXfer x).Sound := h.setCsp

theorem xferStore (h : s.Sound) {x k'} : (s.xferStore x k').Sound := h.ite h.storeBytes

theorem xferShift (h : s.Sound) {x out sdi} : (s.xferShift x out sdi).Sound := h.setXfer.ite h.xferStore.setCsp.finish

theorem xferGo (h : s.Sound) {x sdi} : (s.xferGo x sdi).Sound := by
  unfold State.xferGo
  extract_lets _
  split
  · exact h.xferShift
  · split
    · exact h.holdAccess.engWait.setXfer
    · exact h.dropAccess.afterEngRead.setXfer.refuse
    · exact (h.ite h.afterEngRead).dropAccess.xferShift

theorem xferRun (h : s.Sound) {sdi d} : (State.xferRun sdi s d).Sound := by
  unfold State.xferRun
  split
  · exact (h.afterEngRead.ite h).refuse
  · exact h.xferGo

theorem xferCut (h : s.Sound) : s.xferCut.Sound := by
  unfold State.xferCut
  split
  · exact h
  · exact h.dropAccess.xferStore.setCsp.finish

theorem cspDrop (h : s.Sound) {v} : (s.cspDrop v).Sound := h.setCsp.ite h

theorem cspSclr (h : s.Sound) {v} : (s.cspSclr v).Sound := h.clrFld.ite h

theorem cspCommit (h : s.Sound) : s.cspCommit.Sound := (h.commitAll.foldl fun _ _ k => k.clampRange).chanArms

theorem cspRecovery (h : s.Sound) : s.cspRecovery.Sound := h.setReg.setStg.setFld.setBit

/-! ### Schedule -/

theorem setDuty (h : s.Sound) {p win v} : (s.setDuty p win v).Sound := h.setFld.ite h.radio

theorem dutyCharge (h : s.Sound) {p win us} : (s.dutyCharge p win us).Sound := h.setDuty

theorem dutyBack (h : s.Sound) {p win us} : (s.dutyBack p win us).Sound := h.setDuty.ite h

theorem transmit (h : s.Sound) {e start} : (s.transmit e start).Sound := h.dutyCharge.radio

theorem stopOne (h : s.Sound) {x} : (s.stopOne x).Sound := h.dutyBack.ite h.dutyBack.radio

theorem stopAir (h : s.Sound) : s.stopAir.Sound := h.radio_mesh.foldl fun _ _ k => k.stopOne

theorem setMshOff (h : s.Sound) {v} : (s.setMshOff v).Sound := h.setFld.setFld

theorem setBuf (h : s.Sound) {i b} : (s.setBuf i b).Sound := h.radio

/-! ### Radio -/

theorem radioRun (h : s.Sound) {d} : (s.radioRun d).Sound := by
  unfold State.radioRun
  extract_lets _
  split
  · exact h.finishOpt
  · exact h.radio

theorem radioTake (h : s.Sound) {op} : (s.radioTake op).Sound := h.ite (h.takeWith (fun _ _ k => k.radioRun))

theorem allocRun (h : s.Sound) {d} : (s.allocRun d).Sound := by
  unfold State.allocRun
  split
  · exact h.finish
  · exact (h.setBuf.posted .take).finish

theorem freeRun (h : s.Sound) {d} : (s.freeRun d).Sound := (h.setBuf.posted .give).finish.ite h.finish

theorem poolTake (h : s.Sound) {op run} (hrun : ∀ v x1, v.Sound → (run v x1).Sound) : (s.poolTake op run).Sound :=
  h.takeWith (fun _ _ k => k.refuse.ite (k.refuse.ite (hrun _ _ k)))

theorem calibrated (h : s.Sound) {p} : (s.calibrated p).Sound := h.radio.clrFld.ite h.radio.clrFld.clrFld

theorem calDeferred (h : s.Sound) {p} : (s.calDeferred p).Sound := h.radio.satInc.setBit

theorem calWaiting (h : s.Sound) : s.calWaiting.Sound := h.foldl fun _ _ k => k.calibrated.ite k

theorem setOp (h : s.Sound) {o} : (s.setOp o).Sound := h.radio

theorem opSend (h : s.Sound) {o} : (s.opSend o).Sound := h.dutyCharge.setBit.setOp

theorem opBegin (h : s.Sound) {o0} : (s.opBegin o0).Sound := by
  unfold State.opBegin
  extract_lets _ _ _
  split
  · exact h.setOp.finish
  · split
    · split
      · exact h.dropAccess.afterEngRead.setOp.refuse
      · exact h.holdAccess.setOp.engWait
      · exact h.setBit.dropAccess.afterEngRead.opSend
    · exact h.setBit.opSend
    · exact h.setBit.calibrated.setOp
    · exact h.setBit.setBit.setOp

theorem pathReady (h : s.Sound) {p} : (s.pathReady p).Sound := h.calibrated.ite h

theorem opStart (h : s.Sound) {o} : (s.opStart o).Sound :=
  h.setOp.finish.ite ((h.ite h.calDeferred.setOp).ite (h.ite (h.calWaiting.ite h).pathReady.opBegin))

theorem opTry (h : s.Sound) : s.opTry.Sound := by
  unfold State.opTry
  split
  · exact h
  · exact h.ite (h.opStart.ite (h.setOp.finish.ite h))

theorem startOwed (h : s.Sound) : s.startOwed.Sound := by
  unfold State.startOwed
  split
  · exact h
  · exact h.opTry.ite h

theorem opIdle (h : s.Sound) : s.opIdle.Sound := h.setOp.dropAccess.clrFld.clrFld.clrFld

theorem opStop (h : s.Sound) {o status} : (s.opStop o status).Sound := h.dutyBack.setOp

theorem relockPath (h : s.Sound) {p} : (s.relockPath p).Sound := h.radio

theorem sniffDark (h : s.Sound) : s.sniffDark.Sound := h.beginQuiesce.ite h

theorem sniffTick (h : s.Sound) : s.sniffTick.Sound := h.radio.sniffDark.xt32mSettle.ite h

theorem recharge (h : s.Sound) {p} : (s.recharge p).Sound := h.radio.foldl fun _ _ k => (k.dutyCharge.ite k).radio

theorem dutyStart (h : s.Sound) {p} : (s.dutyStart p).Sound := h.radio.clrFld.recharge

theorem radCommit (h : s.Sound) : s.radCommit.Sound := by
  unfold State.radCommit
  extract_lets _ _ s2
  have h2 : s2.Sound := h.commitAll.foldl fun _ _ k => (k.fresh.ite k).clampFld.clampRange.clampRange.clampRange.clampRange
  exact h2.clampRange.clampRange.clampRange.clampRange.clampRange

/-! ### Mesh -/

theorem setNbr (h : s.Sound) {e x} : (s.setNbr e x).Sound := h.mesh

theorem meshNotice (h : s.Sound) {code entry detail} : (s.meshNotice code entry detail).Sound := h.inbound

theorem meshNoticeFree (h : s.Sound) {code detail} : (s.meshNoticeFree code detail).Sound := h.fresh.meshNotice

theorem releaseHeld (h : s.Sound) {result} : (s.releaseHeld result).Sound := h.mesh.foldl fun _ _ k => k.finish

theorem setHst (h : s.Sound) {st} : (s.setHst st).Sound := h.ite h.setFld.meshNotice

theorem holidayClear (h : s.Sound) : s.holidayClear.Sound := h.mesh.clrFld.setHst

theorem queueVeto (h : s.Sound) : s.queueVeto.Sound := h.ite h.mesh

theorem voidSlot (h : s.Sound) : s.voidSlot.Sound := by
  unfold State.voidSlot
  extract_lets _
  split
  · exact h
  · exact h.mesh.stopAir

theorem startFlood (h : s.Sound) : s.startFlood.Sound := h.voidSlot.pathReady.transmit.mesh.ite h

theorem breakHoliday (h : s.Sound) {flood} : (s.breakHoliday flood).Sound := h.setHst.releaseHeld.startFlood.ite h.setHst.releaseHeld

theorem cancelHoliday (h : s.Sound) : s.cancelHoliday.Sound := h.setHst.releaseHeld

theorem wakeReq (h : s.Sound) {d alarm} : (s.wakeReq d alarm).Sound := by
  unfold State.wakeReq
  extract_lets _ _
  split
  · exact h.finish
  · exact h.finish
  · exact h.setHst.queueVeto.finish
  · exact h.finish
  · exact h.mesh.breakHoliday.ite h.mesh

theorem hvetoHeard (h : s.Sound) : s.hvetoHeard.Sound := h.cancelHoliday.queueVeto.ite h

theorem sendRun (h : s.Sound) {d} : (s.sendRun d).Sound := by
  unfold State.sendRun
  extract_lets _ _ _ _ _ _
  split
  · exact h.refuse
  · exact h.setBuf.mesh.ite (h.setBuf.mesh.ite (h.setBuf.setNbr.posted .take))

theorem admitRun (h : s.Sound) {d} : (s.admitRun d).Sound := h.refuse.ite (h.setReg.setReg.setReg.setReg.setNbr.posted .regrant).finish

theorem dropFrame (h : s.Sound) {f status} : (s.dropFrame f status).Sound :=
  ((h.setBuf.posted .give).ite h.setBuf).finish.ite ((h.setBuf.posted .give).ite h.setBuf).refuse

theorem hopsSet (h : s.Sound) : s.hopsSet.Sound := h.setFld.ite h

theorem evictDone (h : s.Sound) {e} : (s.evictDone e).Sound := by
  unfold State.evictDone
  extract_lets _ s1 s2 s3
  have h1 : s1.Sound := h.setNbr.foldl fun _ _ k => k.dropFrame
  have h2 : s2.Sound := (h1.posted .withdraw)
  have h3 : s3.Sound := h2.setReg.setReg.setReg.setReg.hopsSet
  split
  · exact h3
  · exact h3.finish

theorem evictRun (h : s.Sound) {d} : (s.evictRun d).Sound := h.refuse.ite (h.setNbr.setFld.hopsSet.ite h.setNbr.evictDone)

theorem setHoliday (h : s.Sound) {hid par coord cc cs n} : (s.setHoliday hid par coord cc cs n).Sound :=
  h.setFld.setFld.setFld.setFld.setFld.setFld.mesh

theorem proposeRun (h : s.Sound) {d} : (s.proposeRun d).Sound := h.fresh.setHoliday.setHst.finish.ite h.refuse

theorem ctlTake (h : s.Sound) {op run} (hrun : ∀ v x1, v.Sound → (run v x1).Sound) : (s.ctlTake op run).Sound :=
  h.takeWith (fun _ _ k => k.refuse.ite (hrun _ _ k))

theorem meshPlace (h : s.Sound) : s.meshPlace.Sound := h.setFld.setFld.setFld.mesh

theorem meshStart (h : s.Sound) : s.meshStart.Sound :=
  h.setBit.ite (h.setBit.chanArms.chanArms.wakeIsland.setFld.meshPlace.ite h.setBit.chanArms.chanArms.wakeIsland.setFld.setFld)

theorem meshHalt (h : s.Sound) : s.meshHalt.Sound := h.clrFld.mesh.touch.ite h

theorem dropQueues (h : s.Sound) {status} : (s.dropQueues status).Sound := (h.foldl fun _ _ k => k.setNbr).mesh.foldl fun _ _ k => k.dropFrame

theorem setGuard (h : s.Sound) {e} : (s.setGuard e).Sound := h.setFld

theorem nbrSync (h : s.Sound) {e obs at'} : (s.nbrSync e obs at').Sound := by
  unfold State.nbrSync
  extract_lets _ _ _ _ _ _ _ s1 s2 _ s3
  have h1 : s1.Sound := h.free.setNbr
  have h2 : s2.Sound := h1.setFld.setFld.setFld.setFld.setGuard
  have h3 : s3.Sound := h2.mesh.ite h2
  exact h3.setFld.hopsSet.meshNotice.ite (h3.setFld.hopsSet.ite h3)

theorem takeStep (h : s.Sound) : s.takeStep.Sound := by
  unfold State.takeStep
  split
  · exact h
  · exact (h.ite h.setMshOff).mesh

theorem checkGuard (h : s.Sound) {e} : (s.checkGuard e).Sound := (h.setGuard.ite h).setFld.setFld.setNbr.hopsSet.meshNotice.ite (h.setGuard.ite h)

theorem lostMiss (h : s.Sound) {e} : (s.lostMiss e).Sound := h.setNbr.ite (h.setNbr.setFld.ite h.setNbr.setFld.setFld.meshNotice)

theorem setSlot (h : s.Sound) {x} : (s.setSlot x).Sound := h.mesh

theorem dutySkip (h : s.Sound) : s.dutySkip.Sound := h.satInc

theorem frameBad (h : s.Sound) {f status} : (s.frameBad f status).Sound := ((h.posted .give).ite h).refuse

theorem sendFrame (h : s.Sound) {v : State} (hv : v.Sound) {w f delay} : (s.sendFrame v w f delay).Sound := by
  unfold State.sendFrame
  extract_lets _ _ _ _ s1 s2 s3 _
  have h1 : s1.Sound := (hv.setBuf.openSlot.posted .lift)
  have h2 : s2.Sound := (h1.openSlot.posted .lift).ite h1
  have h3 : s3.Sound := h2.storeBytes.fresh
  split
  · exact hv.dropFrame
  · split
    · exact hv.frameBad
    · exact h.dutySkip.ite h3.transmit.setSlot

theorem sendOwn (h : s.Sound) {w l} : (s.sendOwn w l).Sound := h.ite (h.fresh.transmit.setSlot.ite h.dutySkip)

theorem sendCtrl (h : s.Sound) {w type info} : (s.sendCtrl w type info).Sound := h.sendOwn

theorem txSlot (h : s.Sound) {w} : (s.txSlot w).Sound := by
  unfold State.txSlot
  extract_lets _ _
  split
  · exact h
  · split
    · exact h.sendCtrl
    · split
      · exact h.sendCtrl
      · split
        · exact h
        · exact h.sendFrame h.setNbr

theorem rxSlot (h : s.Sound) {w} : (s.rxSlot w).Sound := by
  unfold State.rxSlot
  extract_lets _
  split
  · exact h.satInc
  · exact (h.setBuf.openSlot.posted .fly).setSlot

theorem rxOrYield (h : s.Sound) {w} : (s.rxOrYield w).Sound := h.calWaiting.satInc.ite h.rxSlot

theorem slotStart (h : s.Sound) {w} : (s.slotStart w).Sound := by
  unfold State.slotStart
  extract_lets _
  split
  · exact h.txSlot
  · exact h.rxOrYield
  · exact h.rxOrYield
  · exact h.sendOwn
  · split
    · exact h.sendFrame h.mesh
    · exact h.rxOrYield
  · split
    · exact h.sendFrame h.mesh
    · exact h
  · exact h

theorem slotReady (h : s.Sound) {w} : (s.slotReady w).Sound := h.pathReady.ite h

theorem nextLseq (h : s.Sound) {d} : (s.nextLseq d).Sound := h.setNbr.ite h

theorem frameDone (h : s.Sound) {f} : (s.frameDone f).Sound := (((h.setBuf.posted .land).posted .land).ite (h.setBuf.posted .land)).nextLseq.finish

theorem frameUnacked (h : s.Sound) {f} : (s.frameUnacked f).Sound := by
  unfold State.frameUnacked
  extract_lets _ s1 _ _ _ _ s3
  have h1 : s1.Sound := (h.posted .settle)
  have h3 : s3.Sound := (h1.setBuf.posted .land).ite h1.setBuf
  exact ((h1.setBuf.setNbr.posted .settle).ite (h1.setBuf.mesh.ite h1.setBuf.mesh)).ite h3.nextLseq.refuse

theorem slotFrame (h : s.Sound) {x} : (s.slotFrame x).Sound := by
  unfold State.slotFrame
  split
  · exact h
  · exact h.ite (h.frameUnacked.ite h.frameDone)

theorem slotBuffer (h : s.Sound) {x} : (s.slotBuffer x).Sound := by
  unfold State.slotBuffer
  split
  · exact (h.setBuf.posted .land).ite h
  · exact h

theorem slotMiss (h : s.Sound) {x} : (s.slotMiss x).Sound := h.ite ((h.lostMiss.ite h.mesh).ite (h.ite (h.satInc.checkGuard.ite h)))

theorem slotClose (h : s.Sound) {x} : (s.slotClose x).Sound := by
  unfold State.slotClose
  extract_lets s1
  have h1 : s1.Sound := h.closeSlot.ite h
  split
  · exact h1
  · exact h1.closeSlot.ite h1

theorem slotEnd (h : s.Sound) : s.slotEnd.Sound := by
  unfold State.slotEnd
  split
  · exact h
  · extract_lets s1 _
    have h1 : s1.Sound := h.slotFrame.slotBuffer.slotClose.setSlot
    split
    · exact h1.slotMiss
    · exact h1.slotMiss.evictDone.ite h1.slotMiss

theorem wideOver (h : s.Sound) {k'} : (s.wideOver k').Sound := h.mesh.foldl fun _ _ k => k.ite (k.lostMiss.ite k.mesh)

theorem enterSlot (h : s.Sound) : s.enterSlot.Sound := (h.slotEnd.wideOver.radCommit.ite h.slotEnd.wideOver).setFld.takeStep.mesh

theorem mshCommit (h : s.Sound) : s.mshCommit.Sound :=
  h.commitAll.clampRange.clampRange.clampRange.clampRange.clampRange.clampRange.clampRange.setMshOff.setReg.setStg

theorem meshStopNow (h : s.Sound) : s.meshStopNow.Sound := by
  unfold State.meshStopNow
  extract_lets s1 __src _ s2
  have h1 : s1.Sound := h.slotEnd.stopAir.dropQueues.releaseHeld.holidayClear
  have h___src : __src.Sound := h1.setFld
  have h2 : s2.Sound := h___src.mesh
  exact h2.clrFld.meshStart.ite h2

theorem beaconHoliday (h : s.Sound) {e l} : (s.beaconHoliday e l).Sound := by
  unfold State.beaconHoliday
  extract_lets _ _ _
  split
  · exact h.setHoliday.setHst.ite h
  · exact h.cancelHoliday.ite h
  · exact h.breakHoliday.ite (h.cancelHoliday.ite h)
  · exact h

theorem beaconHeard (h : s.Sound) {e l} : (s.beaconHeard e l).Sound := h.setNbr.hopsSet.beaconHoliday

theorem noteLseq (h : s.Sound) {e q} : (s.noteLseq e q).Sound := h.setNbr

theorem oweAck (h : s.Sound) {x f} : (s.oweAck x f).Sound := h.setSlot

theorem deliverFrame (h : s.Sound) {i f e bcast} : (s.deliverFrame i f e bcast).Sound := by
  unfold State.deliverFrame
  extract_lets s1
  have h1 : s1.Sound := h.storeBytes.setBuf
  split
  · exact h.fresh.finishHanded
  · exact (h1.posted .settle).finishHanded

theorem dataFrame (h : s.Sound) {x f e} : (s.dataFrame x f e).Sound := by
  unfold State.dataFrame
  extract_lets s1 b0 bcast q heard dup owes acked
  have h1 : s1.Sound := h.slotReadied
  have hacked (t : State) (k : t.Sound) : (acked t).Sound := k.oweAck.ite k.setSlot
  split
  · exact hacked _ h1.satInc
  · split
    · exact h1.setSlot
    · split
      · exact h1.setSlot.noBuf
      · split
        · exact h1.setSlot.deliverFrame
        · refine hacked _ ?_
          split
          · exact h1.deliverFrame
          · exact h1.deliverFrame.ite h1.deliverFrame.noteLseq

theorem slotReceive (h : s.Sound) {x f e} : (s.slotReceive x f e).Sound := by
  have hheard : (s.setSlot (some { x with heard := true })).Sound := h.setSlot
  have hreply {t : State} {c : Prop} [Decidable c] (k : t.Sound) : (if c then t.oweAck x f else t.setSlot (some { x with heard := true })).Sound :=
    k.oweAck.ite k.setSlot
  have hseq {c : Prop} [Decidable c] {j q} : (if c then s.satInc F.MSH_CNT_DUP else s.noteLseq j q).Sound := h.satInc.ite h.noteLseq
  have hveto {t : State} {c : Prop} [Decidable c] (k : t.Sound) : (if c then t.hvetoHeard else t).Sound := k.hvetoHeard.ite k
  unfold State.slotReceive
  dsimp only
  split
  · split
    · exact hheard.breakHoliday.ite hheard
    · exact hheard.beaconHeard
  · split
    · exact h.oweAck.ite hheard
    · exact hheard.ite (hreply (hveto hseq))
  · split
    · exact h.oweAck.ite hheard
    · exact hheard.ite (hreply (hveto hseq))
  · exact h.dataFrame.ite hheard

theorem joinBeacon (h : s.Sound) {f} : (s.joinBeacon f).Sound := by
  unfold State.joinBeacon
  extract_lets _ s1
  have h1 : s1.Sound := h.fresh.setMshOff.setFld.meshPlace
  split
  · exact h1.nbrSync.beaconHeard.meshNotice
  · exact h1.meshNoticeFree

theorem slotFrameHeard (h : s.Sound) {x f e} : (s.slotFrameHeard x f e).Sound := (h.nbrSync.ite h).slotReceive.ite (h.nbrSync.ite h).setSlot

/-- The search for the widened window is set aside first: the kernel must not evaluate it. -/
theorem gapFrameHeard (h : s.Sound) {j f} : (s.gapFrameHeard j f).Sound := by
  suffices ∀ g, g = State.gapFrameHeard → (g s j f).Sound from this _ rfl
  intro g hg
  delta State.gapFrameHeard at hg
  subst hg
  beta_reduce
  generalize (s.windowsFrom s.slotAbs).find? (s.inWidened j f) = o
  have hsync {p q} : (s.nbrSync j p q).Sound := h.nbrSync
  cases o with
  | some k => exact ite hsync.beaconHeard hsync
  | none => exact ite (ite hsync.beaconHeard hsync) h

theorem ctrlAcked (h : s.Sound) {e sent info} : (s.ctrlAcked e sent info).Sound := by
  unfold State.ctrlAcked
  extract_lets _ _ _ s2
  have h2 : s2.Sound := h.setNbr.ite h.setNbr.mesh
  exact h.setNbr.mesh.ite (h2.setHst.ite (h2.cancelHoliday.ite h2))

theorem sendBeacon (h : s.Sound) {p start} : (s.sendBeacon p start).Sound := h.pathReady.fresh.transmit.ite h.pathReady.dutySkip

theorem beaconTick (h : s.Sound) : s.beaconTick.Sound := by
  unfold State.beaconTick
  extract_lets _
  split
  · exact h
  · exact h.mesh.sendBeacon.ite h

theorem relistenTick (h : s.Sound) : s.relistenTick.Sound := by
  unfold State.relistenTick
  split
  · exact h.pathReady.ite h
  · exact h

theorem mshCntclr (h : s.Sound) : s.mshCntclr.Sound := h.setReg

theorem alarmHeard (h : s.Sound) : s.alarmHeard.Sound := h.ite (h.meshNoticeFree.breakHoliday.ite h.meshNoticeFree)

theorem windowsLost (h : s.Sound) {p} : (s.windowsLost p).Sound := h.foldl fun _ _ k => k.mesh.lostMiss.ite k.mesh

theorem linkUnlock (h : s.Sound) {p} : (s.linkUnlock p).Sound := by
  unfold State.linkUnlock
  extract_lets s1 _ s2 s3 _
  have h1 : s1.Sound := h.windowsLost.ite h
  have h2 : s2.Sound := h1.mesh.ite h1
  have h3 : s3.Sound := h2.ite h2.stopAir
  exact h3.radio.relockPath

theorem meshQuiesce (h : s.Sound) : s.meshQuiesce.Sound := by
  unfold State.meshQuiesce
  extract_lets s0 _ s1 s2
  have h0 : s0.Sound := by
    unfold s0
    split
    · exact h
    · extract_lets s1
      have h1 : s1.Sound := by
        unfold s1
        split
        · extract_lets t _ _
          have h_t : t.Sound := (h.setBuf.posted .settle)
          exact h.ite ((h_t.setNbr.posted .settle).ite (h_t.mesh.ite h_t.mesh))
        · exact h.slotBuffer
      exact h1.slotClose.setSlot
  have h1 : s1.Sound := h0.foldl fun _ _ k => k.openQuiesce
  have h2 : s2.Sound := h1.dropQueues
  exact h2.foldl fun _ _ k => k.evictDone.closeQuiesce

/-! ### Gnss -/

theorem setGnss (h : s.Sound) {g} : (s.setGnss g).Sound := h.gnss

theorem setChan (h : s.Sound) {n c} : (s.setChan n c).Sound := h.setGnss

theorem gnssNotice (h : s.Sound) {code ch detail} : (s.gnssNotice code ch detail).Sound := h.slotReadied.finishHanded.ite h.slotReadied.noBuf

theorem gnssNote (h : s.Sound) {code detail} : (s.gnssNote code detail).Sound := h.fresh.gnssNotice

theorem notchStep (h : s.Sound) {f n} : (s.notchStep f n).Sound := h.setFld.setGnss

theorem jnStep (h : s.Sound) : s.jnStep.Sound :=
  h.fresh.fresh.setGnss.setFld.gnssNote.ite (h.fresh.fresh.setGnss.setFld.gnssNote.ite h.fresh.fresh.setGnss.setFld)

theorem frontEndOff (h : s.Sound) : s.frontEndOff.Sound := h.clrFld

theorem gnsFeWrite (h : s.Sound) {v} : (s.gnsFeWrite v).Sound := by
  unfold State.gnsFeWrite
  extract_lets s0 s1 s2
  have h0 : s0.Sound := h.setFld.setFld
  have h1 : s1.Sound := h0.foldl fun _ _ k => k.chanArms
  have h2 : s2.Sound := h1.touch.ite h1
  exact h2.ite h2.frontEndOff

theorem snapBegin (h : s.Sound) : s.snapBegin.Sound := by
  unfold State.snapBegin
  extract_lets _
  split
  · exact h
  · exact h.setGnss.setBit.setGnss.ite h

theorem snapGone (h : s.Sound) : s.snapGone.Sound := h.setGnss.clrFld

theorem putSamples (h : s.Sound) {off l} : (s.putSamples off l).Sound := h.setMem (Memory.setBytes_wf _ _ _ h.mem_wf)

theorem gnssBuf (h : s.Sound) {ch} : (s.gnssBuf ch).Sound := by
  unfold State.gnssBuf
  split
  · exact h
  · refine h.takeWith (fun t d k => ?_)
    extract_lets _
    split
    · exact k.refuse
    · exact (k.setGnss.ite k).hand

theorem gnssFill (h : s.Sound) {ch k} : (s.gnssFill ch k).Sound := by
  induction k generalizing s with
  | zero => exact h
  | succ k ih => exact h.ite (ih h.gnssBuf)

theorem outWrite (h : s.Sound) {o d} : (s.outWrite o d).Sound := by
  unfold State.outWrite
  extract_lets s1 _ _
  have h1 : s1.Sound := h.storeWords
  split
  · exact h1.finish
  · exact h1.finishHanded
  · exact h1.finishHanded.setGnss.ite h1.setGnss

theorem outRefuse (h : s.Sound) {o d st} : (s.outRefuse o d st).Sound := by
  unfold State.outRefuse
  extract_lets _
  split
  · exact h.refuse
  · exact h.unhand.refuse
  · exact h.unhand.refuse.setGnss

theorem outDrain (h : s.Sound) {l} : (s.outDrain l).Sound := by
  induction l generalizing s with
  | nil => exact h.setGnss
  | cons o r ih =>
    unfold State.outDrain
    extract_lets s1
    have h1 : s1.Sound := h.ite h.gnssFill
    split
    · exact ih h1.noBuf
    · split
      · exact h1.holdAccess.engWait.setGnss
      · exact ih h1.dropAccess.outRefuse
      · exact ih h1.dropAccess.outWrite

theorem outGo (h : s.Sound) : s.outGo.Sound := h.ite h.outDrain

theorem outPut (h : s.Sound) {o} : (s.outPut o).Sound := h.outDrain

theorem snapCut (h : s.Sound) {status} : (s.snapCut status).Sound := by
  unfold State.snapCut
  split
  · exact h
  · exact h.snapGone.putSamples.fresh.finish

theorem startRun (h : s.Sound) {d} : (s.startRun d).Sound := h.setChan.finish

theorem stopRun (h : s.Sound) {d} : (s.stopRun d).Sound := h.setChan.finish

theorem trackTake (h : s.Sound) {op work} (hwork : ∀ v x1, v.Sound → (work v x1).Sound) : (s.trackTake op work).Sound := by
  unfold State.trackTake
  refine h.takeWith (fun t d k => ?_)
  split
  · exact k.refuse
  · exact hwork _ _ k

theorem chanEnd (h : s.Sound) {n code} : (s.chanEnd n code).Sound := h.setChan.gnssNotice

theorem pullStep (h : s.Sound) {n o} : (s.pullStep n o).Sound := h.chanEnd.ite (h.setChan.gnssNotice.ite h.setChan)

theorem chanStep (h : s.Sound) {e n} : (s.chanStep e n).Sound := by
  unfold State.chanStep
  extract_lets _ _
  split
  · exact h
  · exact h.setChan.gnssNotice.ite (h.chanEnd.ite h.setChan)
  · exact h.pullStep

theorem measLatch (h : s.Sound) {sub} : (s.measLatch sub).Sound := h.ite h.outPut

theorem navPut (h : s.Sound) {r no} : (s.navPut r no).Sound := h.outPut

theorem snapStep (h : s.Sound) : s.snapStep.Sound := by
  unfold State.snapStep
  extract_lets _
  split
  · exact h
  · exact h.setGnss

theorem gnsCommit (h : s.Sound) : s.gnsCommit.Sound := h.commitAll.clampRange.clampRange.clampRange

theorem gnsEdge (h : s.Sound) : s.gnsEdge.Sound := h.gnsCommit.ite h

/-! ### Pps -/

theorem setPps (h : s.Sound) {p} : (s.setPps p).Sound := h.setGnss

theorem ppsGo (h : s.Sound) {st} : (s.ppsGo st).Sound := h.setFld.gnssNote

theorem showBound (h : s.Sound) {b} : (s.showBound b).Sound := h.setFld

theorem noBound (h : s.Sound) : s.noBound.Sound := h.setFld

theorem ppsStart (h : s.Sound) : s.ppsStart.Sound := h.setPps.noBound.clrFld.ppsGo

theorem ppsStop (h : s.Sound) : s.ppsStop.Sound := h.ite h.setPps.noBound.clrFld.ppsGo

theorem ppsCtl (h : s.Sound) {v} : (s.ppsCtl v).Sound := by
  unfold State.ppsCtl
  extract_lets _ s1 _ s3
  have h1 : s1.Sound := h.setFld.chanArms.setFld.setFld
  have h3 : s3.Sound := h1.setFld.ite h1.setFld.setBit
  exact (h3.ppsStart.ite h3).ite (h3.touch.ite h3).ppsStop

theorem ppsFixWrite (h : s.Sound) {v} : (s.ppsFixWrite v).Sound := h.ite (h.setPps.showBound.ite h.setPps)

theorem ppsAdjWrite (h : s.Sound) {v} : (s.ppsAdjWrite v).Sound := h.setPps

theorem nextPeriod (h : s.Sound) : s.nextPeriod.Sound := h.setPps.ite h.setPps

theorem ppsStats (h : s.Sound) {x} : (s.ppsStats x).Sound := h.setPps.ite h.setPps.fresh.setReg.setFld.setBit

theorem holdPulse (h : s.Sound) : s.holdPulse.Sound :=
  (h.setPps.showBound.satInc.setBit.gnssNote.ppsGo.ite h.setPps.showBound.satInc.setBit.gnssNote).ite h.setPps.showBound.satInc

theorem ppsLock (h : s.Sound) {b} : (s.ppsLock b).Sound := h.setPps.showBound.clrFld.ppsGo

theorem ppsOut (h : s.Sound) : s.ppsOut.Sound := h.setPps.ppsEdge.ite h

theorem ppsHoldover (h : s.Sound) {coarse} : (s.ppsHoldover coarse).Sound :=
  (h.setPps.showBound.clrFld.setBit.ite h.setPps.showBound.clrFld).ppsGo.nextPeriod

theorem ppsTcxoFail (h : s.Sound) : s.ppsTcxoFail.Sound := by
  unfold State.ppsTcxoFail
  extract_lets _ _
  split
  · exact h.ppsStop
  · exact h.ppsHoldover
  · exact h.ite h.setPps.showBound.setBit
  · exact h

theorem chansIdle (h : s.Sound) : s.chansIdle.Sound := h.setGnss

theorem gnssLit (h : s.Sound) : s.gnssLit.Sound := h.setBit.frontEndOff.ppsStart.ite h.setBit.frontEndOff

theorem gnssQuiesce (h : s.Sound) : s.gnssQuiesce.Sound :=
  (h.foldl fun _ _ k => k.finish).snapCut.finishHanded.finishHanded.chansIdle.ppsStop.frontEndOff.setGnss

theorem gnsReset (h : s.Sound) : s.gnsReset.Sound := (h.setMem (Memory.clear_wf _ _ h.mem_wf)).resetRegs.setFld.setGnss

/-! ### RingCmds -/

theorem rcfgFields (h : s.Sound) {n v} : (s.rcfgFields n v).Sound := h.setFld.setFld.setFld

theorem rcfgWrite (h : s.Sound) {n v} : (s.rcfgWrite n v).Sound := (h.rcfgFields.ringEnable.ite h.rcfgFields).ite (h.ite h.ringDisable)

theorem rhdrWrite (h : s.Sound) {n v} : (s.rhdrWrite n v).Sound := h.setFld.ite h

theorem queOvpClr (h : s.Sound) : s.queOvpClr.Sound := h.clrFld

/-! ### TagBus -/

theorem setTag (h : s.Sound) {t} : (s.setTag t).Sound := h.tag

theorem setLine (h : s.Sound) {l x} : (s.setLine l x).Sound := h.setTag

theorem pullFob (h : s.Sound) {l id} : (s.pullFob l id).Sound := h.setLine

theorem driveAgain (h : s.Sound) {l} : (s.driveAgain l).Sound := h.setLine.ite h

theorem startPulse (h : s.Sound) {l} : (s.startPulse l).Sound := h.driveAgain.setLine

theorem lineEnable (h : s.Sound) {l} : (s.lineEnable l).Sound := h.ite h.setBit.chanArms.clrFld.clrFld.setLine

theorem lineDisable (h : s.Sound) {l} : (s.lineDisable l).Sound := h.clrFld.setLine

theorem lcfgWrite (h : s.Sound) {l v} : (s.lcfgWrite l v).Sound := h.lineEnable.ite h.lineDisable

theorem putTable (h : s.Sound) {l k' t count} : (s.putTable l k' t count).Sound := h.storeWords.setFld

theorem tableInsert (h : s.Sound) {l id code} : (s.tableInsert l id code).Sound := h.putTable

theorem tableDelete (h : s.Sound) {l id} : (s.tableDelete l id).Sound := h.putTable.ite h

theorem tableTouch (h : s.Sound) {l id} : (s.tableTouch l id).Sound := by
  unfold State.tableTouch
  split
  · exact h
  · exact h.storeWord

theorem tagRecv (h : s.Sound) : s.tagRecv.Sound := by
  unfold State.tagRecv
  split
  · exact h
  · refine h.takeWith (fun t d k => ?_)
    extract_lets _
    split
    · exact k.refuse
    · exact k.setTag.hand

theorem recvDone (h : s.Sound) {status} : (s.recvDone status).Sound := h.ite h.finishHanded.setTag

theorem tagWrite (h : s.Sound) {l r u} (e : s.tagWrite l r = some u) : u.Sound := by
  unfold State.tagWrite at e
  extract_lets s0 k at e
  have h0 : s0.Sound := h.tagRecv
  split at e
  · cases e
  next d _ =>
  extract_lets s1 s2 at e
  have h1 : s1.Sound := h0.storeWords.setTag
  have h2 : s2.Sound := by
    unfold s2
    split
    · exact h1.tableInsert
    · exact h1.tableDelete
    · exact h1
  cases e
  exact ite h2.recvDone h2

theorem pulled (h : s.Sound) {l n} : (s.pulled l n).Sound := by
  unfold State.pulled
  split
  · exact h
  · exact h.pullFob

theorem lineShort (h : s.Sound) {l} : (s.lineShort l).Sound := h.orFld.setLine

theorem presDefer (h : s.Sound) {l} : (s.presDefer l).Sound := h.ite h.satInc.setLine

theorem presRecord (h : s.Sound) {l r} : (s.presRecord l r).Sound := by
  unfold State.presRecord
  cases hw : s.tagWrite l r with
  | none => exact h.noBuf
  | some u => exact h.tagWrite hw

theorem presEnd (h : s.Sound) {l} : (s.presEnd l).Sound := h.setLine.recvDone

theorem presOver (h : s.Sound) {l} : (s.presOver l).Sound := by
  unfold State.presOver
  split
  · exact h.presEnd
  · exact h

theorem presStep (h : s.Sound) {l} : (s.presStep l).Sound := by
  unfold State.presStep
  split
  · exact h.pulled.lineShort.presEnd.ite (h.pulled.ite h.pulled.presRecord).setLine.presOver
  · exact h

theorem presGo (h : s.Sound) {l k} : (s.presGo l k).Sound := by
  induction k generalizing s with
  | zero => exact h
  | succ k ih =>
    unfold State.presGo
    split
    · exact h
    · exact ite (ih h.presStep) h

theorem opOnLine (h : s.Sound) {l} : (s.opOnLine l).Sound := by
  unfold State.opOnLine
  extract_lets _
  split
  · exact h.presStep.satInc.presEnd.ite h.presStep
  · exact h.presDefer.ite h

theorem setWalk (h : s.Sound) {w} : (s.setWalk w).Sound := h.setTag

theorem tagBusy (h : s.Sound) {l b} : (s.tagBusy l b).Sound := h.orFld.ite h.clrBits

theorem searchEnd (h : s.Sound) {w status r} : (s.searchEnd w status r).Sound := h.setWalk.tagBusy.clrFld.recvDone.fresh.fresh.finish

theorem searchPar (h : s.Sound) {w} : (s.searchPar w).Sound := h.fresh.searchEnd

theorem foundGood (h : s.Sound) {w id code} : (s.foundGood w id code).Sound :=
  h.searchPar.ite (h.tableTouch.setWalk.ite (h.setBit.setWalk.ite h.setWalk))

theorem searchCheck (h : s.Sound) {w id} : (s.searchCheck w id).Sound := by
  unfold State.searchCheck
  extract_lets _ _ _ _ s2 _
  have h2 : s2.Sound := h.pulled.pulled
  split
  · split
    · exact h.pulled.lineShort.searchEnd
    · split
      · exact h.pulled.setWalk
      · split
        · exact h.pulled.foundGood
        · split
          · exact h2.lineShort.searchEnd.ite (h2.setWalk.ite (h2.foundGood.ite h2.setWalk))

theorem searchStep (h : s.Sound) {w d p} : (s.searchStep w d p).Sound :=
  h.searchCheck.ite (h.pulled.lineShort.searchEnd.ite (h.pulled.setWalk.ite h.pulled.setWalk))

theorem searchPause (h : s.Sound) {w} : (s.searchPause w).Sound := h.setWalk.setBit.tagBusy.noBuf

theorem searchGo (h : s.Sound) {k} : (s.searchGo k).Sound := by
  induction k generalizing s with
  | zero => exact h
  | succ k ih =>
    unfold State.searchGo
    split
    · exact h
    next w _ =>
    split
    · refine ite h.searchPar ?_
      split
      · exact h.searchPause
      next hv => exact ih (h.tagWrite hv).setWalk
    · split
      · exact ih h.searchStep
      · split
        · exact ite h.searchPar (ih h.setWalk)
        · exact ih h.setWalk
        · exact h.setFld.searchEnd

theorem searchRun (h : s.Sound) : s.searchRun.Sound := by
  unfold State.searchRun
  split
  · exact h
  · exact h.searchGo

theorem searchStart (h : s.Sound) {noise d} : (State.searchStart noise s d).Sound := by
  unfold State.searchStart
  extract_lets _ _ s1
  have h1 : s1.Sound := h.opOnLine.setFld.startPulse
  split
  · exact h.refuse
  · exact h1.setWalk.searchRun

theorem checkRun (h : s.Sound) {noise d} : (State.checkRun noise s d).Sound := by
  unfold State.checkRun
  extract_lets _ _ _ s1
  have h1 : s1.Sound := h.opOnLine.startPulse.pulled
  split
  · exact h.refuse
  · split
    · exact h1.lineShort.finish.ite h1.finish

theorem tagTake (h : s.Sound) {op work} (hwork : ∀ v x1, v.Sound → (work v x1).Sound) : (s.tagTake op work).Sound :=
  h.ite (h.takeWith (fun _ _ k => hwork _ _ k))

theorem pauseOver (h : s.Sound) : s.pauseOver.Sound := by
  unfold State.pauseOver
  split
  · exact h
  · exact h.fresh.searchEnd.ite h

theorem presNext (h : s.Sound) {l} : (s.presNext l).Sound := h.setLine

theorem presRun (h : s.Sound) {l noise} : (s.presRun l noise).Sound :=
  h.startPulse.pulled.lineShort.ite (h.startPulse.pulled.ite h.startPulse.pulled.setBit.presRecord).setLine.presOver

theorem presTick (h : s.Sound) : s.presTick.Sound := (h.foldl fun _ _ k => k.presGo).ite h

theorem presCommit {v : State} (hv : v.Sound) {l} : (s.presCommit v l).Sound := hv.clampRange.setLine.ite hv.clampRange

theorem tagCommit (h : s.Sound) : s.tagCommit.Sound := h.commitAll.foldl fun _ _ k => k.presCommit

theorem tagQuiesce (h : s.Sound) : s.tagQuiesce.Sound := by
  unfold State.tagQuiesce
  extract_lets s1 s2 _
  have h1 : s1.Sound := by
    unfold s1
    split
    · exact h
    · exact h.setWalk.tagBusy.clrFld.fresh.fresh.finish
  have h2 : s2.Sound := h1.finishHanded
  exact h2.setTag

/-! ### Quiesce -/

theorem firstGrant (h : s.Sound) {i} : (s.firstGrant i).Sound := by
  unfold State.firstGrant
  extract_lets s1 _ s1' _
  have h1 : s1.Sound := (h.posted .grant).setBit
  have h1' : s1'.Sound := (h.posted .grant)
  split
  · exact h.ite h1.power
  · exact h.ite h1'.power
  · exact h

theorem serveClaim (h : s.Sound) : s.serveClaim.Sound := by
  unfold State.serveClaim
  extract_lets _
  split
  · exact h
  · exact h.cip.claimLock

theorem latePosts (h : s.Sound) : s.latePosts.Sound := h.cip.spendSlots.ite h

theorem unitsLit (h : s.Sound) {i} : (s.unitsLit i).Sound := by
  unfold State.unitsLit
  split
  · exact h.latePosts.serveClaim
  · exact h.gnssLit
  · exact h

theorem islandUp (h : s.Sound) {i} : (s.islandUp i).Sound := h.setIsland.grantSpans.firstGrant.unitsLit.presentHeld

theorem entryQuiesce (h : s.Sound) : s.entryQuiesce.Sound := by
  unfold State.entryQuiesce
  extract_lets _
  split
  · exact h.power.flashQuiesce.beginQuiesce.ite h.power

theorem drainStop (h : s.Sound) {i} : (s.drainStop i).Sound := by
  unfold State.drainStop
  split
  · refine stopAir ?_
    split
    · exact h
    · exact h.opStop.ite h
  · exact h.boltBrake
  · exact h

theorem radioCut (h : s.Sound) : s.radioCut.Sound := by
  unfold State.radioCut
  split
  · exact h
  · exact h.opIdle.finish

theorem flashCut (h : s.Sound) : s.flashCut.Sound := by
  unfold State.flashCut
  extract_lets _ _
  refine busyFix ?_
  split
  · exact h.flash
  · exact h.flash.clrFld.flashOver

theorem cspQuiesce (h : s.Sound) : s.cspQuiesce.Sound := ((h.setCsp.satInc.ite h).setCsp.satInc.ite (h.setCsp.satInc.ite h)).xferCut

theorem meshCut (h : s.Sound) : s.meshCut.Sound := (h.mesh.foldl fun _ _ k => k.finish).meshQuiesce

theorem unitsCut (h : s.Sound) {i} : (s.unitsCut i).Sound := by
  unfold State.unitsCut
  split
  · exact h
  · exact h.endWaiting
  · exact h.radioCut.stopAir.ite h.radioCut.stopAir.meshCut
  · exact h.gnssQuiesce
  · exact h.flashCut.cspQuiesce.tagQuiesce

theorem handedCut (h : s.Sound) {i} : (s.handedCut i).Sound := h.foldl fun _ _ k => k.finishHanded

theorem ringsOut (h : s.Sound) {i} : (s.ringsOut i).Sound := h.completeAll

theorem dropIssued (h : s.Sound) {i} : (s.dropIssued i).Sound := h.issued

theorem quiesceClose (h : s.Sound) {i} : (s.quiesceClose i).Sound :=
  h.unitsCut.handedCut.ringsOut.dropIssued.withdrawSpans.foldl fun _ _ k => k.closeQuiesce

theorem unitsReset (h : s.Sound) {i} : (s.unitsReset i).Sound := by
  unfold State.unitsReset
  extract_lets _ _
  split
  · exact h
  · exact (h.spendSlots.foldl fun _ _ k => k.emptySlot).breakLock
  · exact h.resetRegs.radio_mesh
  · exact h.gnsReset
  · exact h

theorem threadsDark (h : s.Sound) {cause} : (s.threadsDark cause).Sound := h.breakLockOf.setThr.setThr

theorem burstDark (h : s.Sound) {cause} : (s.burstDark cause).Sound := by
  unfold State.burstDark
  extract_lets s1 s2
  have h1 : s1.Sound := h.threadsDark.clrFld
  have h2 : s2.Sound := h1.ite (h1.setMem (Memory.clear_wf _ _ h1.mem_wf))
  exact h2.setFld.ite h2

theorem unitsDark (h : s.Sound) {i reset} : (s.unitsDark i reset).Sound := by
  unfold State.unitsDark
  extract_lets _
  split
  · exact h.burstDark
  · exact h.clrFld
  · exact h.radio.clrFld
  · exact h

theorem islandDown (h : s.Sound) {i} : (s.islandDown i).Sound := by
  unfold State.islandDown
  extract_lets _ s1 s2 s3
  have h1 : s1.Sound := h.setIsland.unitsDark
  have h2 : s2.Sound := h1.foldl fun _ _ k => k.sealDiscard
  have h3 : s3.Sound := (h2.unitsReset.ite h2).xt32mSettle
  exact h3.wakeIsland.ite h3

theorem steadyReset (h : s.Sound) : s.steadyReset.Sound := by
  unfold State.steadyReset
  extract_lets _ s1 _ _ s2
  have h1 : s1.Sound := h.setIsland.restartSteady (fun _ k => k.fllRow80)
  have h2 : s2.Sound := h1.power_flash
  exact h2.setFld.setBit.grantSpans.flushLate.presentHeld

theorem steadyEnd (h : s.Sound) : s.steadyEnd.Sound := by
  unfold State.steadyEnd
  split
  · exact h.steadyReset
  · split
    · exact h.steadyDown
    · exact h.steadyReset

theorem quiesceEnd (h : s.Sound) {i} : (s.quiesceEnd i).Sound := h.quiesceClose.steadyEnd.ite h.quiesceClose.islandDown

theorem darkCut (h : s.Sound) {i} : (s.darkCut i).Sound := by
  unfold State.darkCut
  split
  · exact h.meshCut.handedCut.ringsOut
  · exact h

theorem askReset (h : s.Sound) {i} : (s.askReset i).Sound := by
  unfold State.askReset
  extract_lets _
  split
  · exact h
  · split
    · exact (h.darkCut.foldl fun _ _ k => k.sealDiscard).unitsReset
    · exact h.setIsland.beginQuiesce
    · exact h.setIsland

theorem islandReset (h : s.Sound) {v} : (s.islandReset v).Sound := by
  unfold State.islandReset
  extract_lets s1 _ s2
  have h1 : s1.Sound := h.foldl fun _ _ k => k.askReset
  have h2 : s2.Sound := h1.setIsland
  exact h.ite ((h2.foldl fun _ _ k => k.beginQuiesce).ite h1)

/-! ### Threads -/

theorem threadGone (h : s.Sound) {t} : (s.threadGone t).Sound := h.breakLockOf

theorem threadBegin (h : s.Sound) {t} : (s.threadBegin t).Sound := h.setThr.fresh

theorem threadStart (h : s.Sound) {t} : (s.threadStart t).Sound := by
  unfold State.threadStart
  split
  · exact h.threadBegin
  · exact h.threadBegin
  · exact h

theorem threadStop (h : s.Sound) {t} : (s.threadStop t).Sound := by
  unfold State.threadStop
  extract_lets _
  split
  · exact h.setThr.threadGone.ite h.setThr
  · exact h.setThr.threadGone
  · exact h

theorem tctlWrite (h : s.Sound) {t v} : (s.tctlWrite t v).Sound := by
  unfold State.tctlWrite
  split
  · exact h.threadStart
  · exact h.threadStop
  · exact h

theorem evLatch (h : s.Sound) {t} : (s.evLatch t).Sound := h.evring

theorem tringWrite (h : s.Sound) {t v} : (s.tringWrite t v).Sound := h.setFld.setBit.evLatch.ite h.setFld.clrFld

theorem tovfClr (h : s.Sound) {t} : (s.tovfClr t).Sound := h.clrFld

/-! ### Entropy -/

theorem entropyHalt (h : s.Sound) {adaptive} : (s.entropyHalt adaptive).Sound := h.setBit.setBit.clrFld

theorem entropyRun (h : s.Sound) {d} : (s.entropyRun d).Sound := by
  unfold State.entropyRun
  extract_lets _ _
  split
  · exact h.refuse
  · split
    · exact h.refuse
    · exact h.fresh.entropyHalt.refuse.ite (h.fresh.entropyHalt.refuse.ite h.fresh.storeBytes.refuse)

theorem entropyTake (h : s.Sound) {op} : (s.entropyTake op).Sound := h.takeReady (fun _ _ k => k.entropyRun)

theorem entropyRestart (h : s.Sound) : s.entropyRestart.Sound := h.clrFld.clrFld

theorem ectlWrite (h : s.Sound) {v} : (s.ectlWrite v).Sound :=
  (h.setFld.entropyRestart.ite h.setFld).ite (h.setFld.entropyRestart.ite h.setFld).clrFld

/-! ### LedgerCmds -/

theorem sweepStart (h : s.Sound) : s.sweepStart.Sound := (h.ledger (by rfl))

theorem auditGo (h : s.Sound) : s.auditGo.Sound := h.ite h.sweepStart

theorem ldgSel (h : s.Sound) {i} : (s.ldgSel i).Sound := h.setFld.setFld.setFld.setFld.setFld.setReg

theorem ldgCommit (h : s.Sound) : s.ldgCommit.Sound := h.commitAll.ite (h.commitAll.ledger (by rfl))

/-! ### Pins -/

theorem pinChanged {v : State} (hv : v.Sound) {n} : (s.pinChanged v n).Sound := by
  unfold State.pinChanged
  extract_lets _ s0 s1
  have h0 : s0.Sound := hv.cntinEdge.ite hv
  have h1 : s1.Sound := h0.orFld.fireSource
  exact ((h1.wakeSource.ite h1).ite h0).ite hv

theorem padKept (h : s.Sound) {old : State} {n} : (s.padKept old n).Sound := h.ite h.pads

theorem pinCfgPut (h : s.Sound) {n put} (hput : ∀ v, v.Sound → (put v).Sound) : (s.pinCfgPut n put).Sound :=
  (hput _ h).padKept.armedNow.ite (hput _ h).padKept

theorem pinOut (h : s.Sound) {v} : (s.pinOut v).Sound := h.setFld.foldl fun _ _ k => k.pinChanged

theorem pinSet (h : s.Sound) {v} : (s.pinSet v).Sound := h.pinOut

theorem pinClr (h : s.Sound) {v} : (s.pinClr v).Sound := h.pinOut

/-! ### Regs -/

theorem regRead (h : s.Sound) {t a w u} (e : s.regRead t a = (w, u)) : u.Sound := by
  obtain rfl : (s.regRead t a).2 = u := congrArg Prod.snd e
  unfold State.regRead
  split
  · exact h.calClose
  · exact ite h.tmbLoRead (ite h.calFreeze h)

theorem stageWrite (h : s.Sound) {a v} : (s.stageWrite a v).Sound := h.ite h.setStg

theorem plainWrite (h : s.Sound) {a v} : (s.plainWrite a v).Sound := h.setReg

theorem codeWrite (h : s.Sound) {a v} : (s.codeWrite a v).Sound := h.plainWrite.stageWrite

theorem burstWrite (h : s.Sound) {v} : (s.burstWrite v).Sound := by
  unfold State.burstWrite
  split
  · exact h
  · exact h.codeWrite.burstOn
  · exact h.codeWrite.burstOff
  · exact h.codeWrite

theorem vsrcWrite (h : s.Sound) {v} : (s.vsrcWrite v).Sound := h.codeWrite.clk

theorem calStatWrite (h : s.Sound) {v} : (s.calStatWrite v).Sound := h.codeWrite.clrFld.ite h.codeWrite

theorem eccWrite (h : s.Sound) {v} : (s.eccWrite v).Sound := h.codeWrite.flcEccClr.ite h.codeWrite

theorem mshCtlWrite (h : s.Sound) {v} : (s.mshCtlWrite v).Sound := h.setFld.setFld.stageWrite.meshStart.ite h.setFld.setFld.stageWrite.meshHalt

theorem sniffWrite (h : s.Sound) {v} : (s.sniffWrite v).Sound := h.codeWrite.ite h.codeWrite

theorem singleWrite (h : s.Sound) {t a v} : (s.singleWrite t a v).Sound := by
  unfold State.singleWrite
  split
  · exact h.auditGo.ite h
  · exact h.ldgSel
  · exact h.burstWrite
  · exact h.islandReset
  · exact h.softReset
  · exact h.vsrcWrite
  · exact h.codeWrite.xt32mSettle
  · exact h.queOvpClr.ite h
  · exact h.flashCtl
  · exact h.eccWrite
  · exact h.codeWrite.chanArms
  · exact h.cspSclr
  · exact h.cspDrop
  · exact h.btsTen
  · exact h.loopRearm
  · exact h.cipLockWrite
  · exact h.zeroWrite
  · exact h.nonPurge
  · exact h.ectlWrite
  · exact h.sniffWrite
  · exact h.codeWrite.dutyStart
  · exact h.codeWrite.dutyStart
  · exact h.mshCtlWrite
  · exact h.mshCntclr.ite h
  · exact h.gnsFeWrite.stageWrite
  · exact h.ppsCtl
  · exact h.ppsAdjWrite
  · exact h.ppsFixWrite
  · exact h.pinOut
  · exact h.pinSet
  · exact h.pinClr
  · exact h.calStatWrite
  · exact h.calSet
  · exact h.calSet
  · exact h.tamperClear
  · exact h.codeWrite

theorem evtWrite (h : s.Sound) {a v} : (s.evtWrite a v).Sound := by
  unfold State.evtWrite
  extract_lets _
  split
  · exact h.tctlWrite
  · exact h.tringWrite
  · exact h.tovfClr.ite h
  · exact h.codeWrite

theorem queWrite (h : s.Sound) {a v} : (s.queWrite a v).Sound := by
  unfold State.queWrite
  extract_lets _
  split
  · exact h.rcfgWrite
  · exact h.rhdrWrite
  · exact h.codeWrite

theorem cmpWrite (h : s.Sound) {a v} : (s.cmpWrite a v).Sound := by
  unfold State.cmpWrite
  extract_lets _
  split
  · exact h.cmpAccept
  · exact h.cmpAccept
  · exact h.cmpAccept
  · exact h.cmpAccept

theorem cntWrite (h : s.Sound) {a v} : (s.cntWrite a v).Sound := by
  unfold State.cntWrite
  extract_lets _
  split
  · exact h.stageWrite.counterCtl
  · exact h.setCount
  · exact h.setCmpv
  · exact h.setCrel
  · exact h.codeWrite

theorem tagWriteReg (h : s.Sound) {a v} : (s.tagWriteReg a v).Sound := by
  unfold State.tagWriteReg
  extract_lets _
  split
  · exact h.lcfgWrite
  · exact h.ite h.codeWrite
  · exact h.codeWrite

theorem pinCfgWrite (h : s.Sound) {a v} : (s.pinCfgWrite a v).Sound := h.pinCfgPut (fun _ k => k.codeWrite)

theorem pendDone (h : s.Sound) {b} : (s.pendDone b).Sound := h.clrFld

theorem sealPut (h : s.Sound) {b v} : (s.sealPut b v).Sound := (h.cntCommit.pendDone.ite h).cnt.sealWrite.ite h.sealWrite

theorem regWrite (h : s.Sound) {t a v} : (s.regWrite t a v).Sound := by
  unfold State.regWrite
  split
  · exact h
  · split
    · exact h.sealPut
    · split
      · exact h.evtWrite
      · exact h.queWrite.ite (h.cmpWrite.ite (h.cntWrite.ite (h.tagWriteReg.ite (h.pinCfgWrite.ite h.singleWrite))))

theorem clkCommit (h : s.Sound) : s.clkCommit.Sound :=
  (h.commitAll.clampFld.clampFld.clk.setBit.ite h.commitAll.clampFld.clampFld.clk).fllRetarget.xt32mSettle

theorem nonceNone (h : s.Sound) : s.nonceNone.Sound := h.clrFld.setStg.setSld

theorem flcCommit (h : s.Sound) : s.flcCommit.Sound := (h.commitAll.ite h.commitAll.nonceNone).clrFld

theorem commit (h : s.Sound) {b} : (s.commit b).Sound := by
  unfold State.commit
  split
  · exact h.ldgCommit
  · exact h.clkCommit
  · exact h.commitAll
  · exact h.flcCommit
  · exact h.cntCommit.pendDone
  · exact h.cspCommit
  · exact h.tagCommit
  · exact h.btsCommit
  · exact h.commitAll
  · exact h.radCommit
  · exact h.mshCommit
  · exact h.gnsCommit
  · exact h.calCommit.pendDone

/-! ### Operands -/

theorem trap (h : s.Sound) {t f addr half fetch imm} : (s.trap t f addr half fetch imm).Sound :=
  h.setThr.ite h.setThr.setFld.setFld.systemTo.threadGone

theorem unissue (h : s.Sound) {t} : (s.unissue t).Sound := h.setThr

theorem clearBip (h : s.Sound) {t} : (s.clearBip t).Sound := h.setThr

theorem waits (h : s.Sound) {t held} : (s.waits t held).Sound := h.setThr

theorem skip (h : s.Sound) {t} : (s.skip t).Sound := h.setThr

theorem crosses (h : s.Sound) {t a} : (s.crosses t a).Sound := h.foldl fun _ _ k => k.crossed

theorem stopLate (h : s.Sound) {t} : (s.stopLate t).Sound := h.setThr.threadGone.ite h

theorem fetchRead (h : s.Sound) {t} : (s.fetchRead t).Sound := h.crosses.afterRead

theorem fetchEnd (h : s.Sound) {t l} : (s.fetchEnd t l).Sound := by
  unfold State.fetchEnd
  split
  · exact h
  · exact (h.fetchRead.ite h).unissue.trap
  · exact h.engWait.waits

theorem write (h : s.Sound) {t r w} : (s.write t r w).Sound := h.setThr

theorem result (h : s.Sound) {t rd v g sources} : (s.result t rd v g sources).Sound := by
  unfold State.result
  split
  · exact .done h.write
  · exact .fault h

theorem flagged (h : s.Sound) {t f good sources} : (s.flagged t f good sources).Sound := .ite (.done h.setThr) (.fault h)

theorem reserved (h : s.Sound) {t} : (s.reserved t).Sound := h.clearBip.fresh.trap.ite h.clearBip.setThr.fresh

theorem reached (h : s.Sound) {a r d} (e : s.reached a r = some d) : d.Sound := by
  unfold State.reached at e
  split at e
  · cases e
  · cases e
    exact .fault (ite h.afterRead h)
  · cases e
    exact .wait h.engWait

theorem loadWord (h : s.Sound) {t a w u} (e : s.loadWord t a = (w, u)) : u.Sound := by
  unfold State.loadWord at e
  extract_lets s1 at e
  have h1 : s1.Sound := h.crosses
  split at e
  · split at e
    next hv =>
    cases e
    exact h1.regRead hv
  · cases e
    exact ite h1.afterRead.touch h1.afterRead

theorem storeAt (h : s.Sound) {t a w} : (s.storeAt t a w).Sound := h.crosses.regWrite.ite h.crosses.storeWord

/-! ### Block -/

theorem ifBarred (h : s.Sound) {o} {d : Did} (hd : d.Sound) : (s.ifBarred o d).Sound := by
  unfold State.ifBarred
  split
  · exact .fault h
  · exact hd

theorem chunkRead (h : s.Sound) {held t l d} (e : s.chunkRead held t l = some d) : d.Sound := by
  obtain ⟨a, -, ha⟩ := List.exists_of_findSome?_eq_some e
  exact h.reached ha

theorem chunkWrite (h : s.Sound) {held t l} {kept : State} (hk : kept.Sound) {d} (e : s.chunkWrite held t l kept = some d) : d.Sound := by
  obtain ⟨d', hd', rfl⟩ := Option.map_eq_some_iff.mp e
  obtain ⟨a, -, ha⟩ := List.exists_of_findSome?_eq_some hd'
  split
  · exact .fault hk
  · exact h.reached ha

theorem chunkLoad (h : s.Sound) {t l ws u} (e : s.chunkLoad t l = (ws, u)) : u.Sound := by
  induction l generalizing s ws with
  | nil =>
    cases e
    exact h
  | cons a l ih =>
    rw [State.chunkLoad] at e
    cases hw : s.loadWord t a with
    | mk w s1 =>
      cases hr : s1.chunkLoad t l with
      | mk ws s2 =>
        rw [hw] at e
        simp only [hr] at e
        cases e
        exact ih (h.loadWord hw) hr

theorem chunkStore (h : s.Sound) {t l} : (s.chunkStore t l).Sound := h.foldl fun _ _ k => k.storeAt

theorem blockNone (h : s.Sound) {t} : (s.blockNone t).Sound := .done h.setThr

theorem blockStop (h : s.Sound) {t tags count addrs d} (e : s.blockStop t tags count addrs = some d) : d.Sound := by
  unfold State.blockStop at e
  split at e
  · cases e
    exact .fault h
  · split at e
    · cases e
      exact .fault h
    · split at e
      · cases e
        exact h.blockNone
      · cases e

theorem copyChunk (h : s.Sound) {held t rd ra rb} : (s.copyChunk held t rd ra rb).Sound := by
  unfold State.copyChunk
  extract_lets _ _ _ _ _
  refine h.ifBarred ?_
  split
  next e hv =>
    exact (h.blockStop hv)
  · split
    next e hv =>
      exact (h.chunkRead hv)
    · split
      next ws s1 hv =>
        extract_lets _ kept _
        have h_kept : kept.Sound := h.ite (h.chunkLoad hv)
        split
        · exact .fault h_kept
        · split
          next e hv' =>
            exact (h.chunkWrite h_kept hv')
          · exact .done (h.chunkLoad hv).setThr.chunkStore

theorem fillChunk (h : s.Sound) {held t rd ra rb} : (s.fillChunk held t rd ra rb).Sound := by
  unfold State.fillChunk
  extract_lets _ _ _ _ _ _
  refine h.ifBarred ?_
  split
  next e hv =>
    exact (h.blockStop hv)
  · split
    next e hv =>
      exact (h.chunkWrite h hv)
    · exact .done h.setThr.chunkStore

theorem crcChunk (h : s.Sound) {held t rd ra rb} : (s.crcChunk held t rd ra rb).Sound := by
  unfold State.crcChunk
  extract_lets _ _ _ _ _
  split
  next e hv =>
    exact (h.blockStop hv)
  · split
    next e hv =>
      exact (h.chunkRead hv)
    · split
      next ws s1 hv =>
        exact .ite (.fault (h.chunkLoad hv)) (.done (h.chunkLoad hv).setThr)

theorem retagChunk (h : s.Sound) {held t rd ra rb g} : (s.retagChunk held t rd ra rb g).Sound := by
  unfold State.retagChunk
  extract_lets _ _ _ _ _
  split
  · exact .fault h
  · refine h.ifBarred ?_
    split
    next e hv =>
      exact (h.blockStop hv)
    · split
      next e hv =>
        exact (h.chunkRead hv)
      · split
        next ws s1 hv =>
          extract_lets _
          split
          · exact .fault (h.chunkLoad hv)
          · split
            next e hv' =>
              exact (h.chunkWrite (h.chunkLoad hv) hv')
            · exact .done (h.chunkLoad hv).setThr.chunkStore

/-! ### Boot -/

theorem afterBank (h : s.Sound) {bank} : (s.afterBank bank).Sound := (h.noteRead.noteRead.ite h.noteRead).ite h

/-! ### Branch -/

theorem jumpReg (h : s.Sound) {t link ra} : (s.jumpReg t link ra).Sound := by
  unfold State.jumpReg
  extract_lets _ _
  split
  · exact .fault h
  · split
    · exact .fault h
    · split
      · exact .done h.setThr
      · exact .done h.setThr

/-! ### MemOps -/

theorem loadStop (h : s.Sound) {held t n a d} (e : s.loadStop held t n a = some d) : d.Sound := by
  unfold State.loadStop at e
  split at e
  · exact h.reached e
  · cases e
    exact .fault h

theorem storeStop (h : s.Sound) {held t n a d} (e : s.storeStop held t n a = some d) : d.Sound := by
  unfold State.storeStop at e
  split at e
  · exact h.reached e
  · cases e
    exact .fault h

theorem loadW (h : s.Sound) {held t rd a} : (s.loadW held t rd a).Sound := by
  unfold State.loadW
  split
  next d hv =>
    exact (h.loadStop hv)
  · split
    next w s1 hv =>
      exact .done (h.loadWord hv).write

theorem loadP (h : s.Sound) {held t rd n signed a} : (s.loadP held t rd n signed a).Sound := by
  unfold State.loadP
  split
  next d hv =>
    exact (h.loadStop hv)
  · split
    next w s1 hv =>
      exact .ite (.fault (h.loadWord hv)) (.done (h.loadWord hv).write)

theorem storeW (h : s.Sound) {held t w a} : (s.storeW held t w a).Sound := by
  unfold State.storeW
  split
  · exact .fault h
  · split
    next d hv =>
      exact (h.storeStop hv)
    · exact .done h.skip.storeAt

theorem storeP (h : s.Sound) {held t w n a} : (s.storeP held t w n a).Sound := by
  unfold State.storeP
  split
  · exact .fault h
  · split
    · exact .fault h
    · split
      next d hv =>
        exact (h.storeStop hv)
      · exact .done h.skip.crosses.storePart

/-! ### Paired -/

theorem halfLoad (h : s.Sound) {held t d b k x u} (e : s.halfLoad held t d b k = (x, u)) : u.Sound := by
  unfold State.halfLoad at e
  extract_lets a at e
  split at e
  · cases e
    exact h
  · split at e
    · cases e
      exact h
    · split at e
      · cases e
        exact ite h.afterRead h
      · split at e
        next hv =>
        cases e
        exact h.loadWord hv

theorem half (h : s.Sound) {held t o x u} (e : s.half held t o = (x, u)) : u.Sound := by
  unfold State.half at e
  extract_lets y g i6 two shift at e
  cases o with
  | ldw d r k => exact h.halfLoad e
  | _ =>
    cases e
    exact h

theorem halfPut (h : s.Sound) {t e} : (s.halfPut t e).Sound := by
  unfold State.halfPut
  split
  · exact h.storeAt
  · exact h

theorem pairApply (h : s.Sound) {t ea eb} : (s.pairApply t ea eb).Sound := h.setThr.halfPut.halfPut

theorem halfKept (h : s.Sound) {s1 : State} (hs1 : s1.Sound) {t o} : (s.halfKept t o s1).Sound := by
  unfold State.halfKept
  split
  · exact h.ite hs1
  · exact hs1

theorem pair (h : s.Sound) {held t a b} : (s.pair held t a b).Sound := by
  unfold State.pair
  split
  next ha s1 hv =>
  have h1 : s1.Sound := h.half hv
  split
  · exact h1.trap
  · exact h.engWait.waits
  · split
    next hb s2 hv =>
    have h2 : s2.Sound := h1.half hv
    split
    · exact ((h.halfKept h1).half rfl).trap
    · exact h.engWait.waits
    · exact h2.pairApply

/-! ### Snuff -/

theorem rescueUp (h : s.Sound) {t} : (s.rescueUp t).Sound := h.setBit.deliver.setThr.power.arrive.unhold

theorem rescueDown (h : s.Sound) {t} : (s.rescueDown t).Sound := h.setBit.deliver.unhold.wakeSource

theorem snuff (h : s.Sound) : s.snuff.Sound := by
  unfold State.snuff
  extract_lets _
  split
  · exact (h.rescueDown.ite h.rescueUp).ite h.fullReset
  · exact h.fullReset

theorem steadyCycle (h : s.Sound) : s.steadyCycle.Sound := h.time_cnt.srcEdges.flashCycle.cipContinue.outGo.ite h

theorem snuffEdge (h : s.Sound) : s.snuffEdge.Sound := h.power

theorem tickOver (h : s.Sound) : s.tickOver.Sound := h.time

theorem tickCommits (h : s.Sound) : s.tickCommits.Sound := h.foldl fun _ _ k => k.commit.ite k

theorem idleTick (h : s.Sound) : s.idleTick.Sound := h.foldl fun _ _ k => k.touch.ite k

theorem tickEdge (h : s.Sound) : s.tickEdge.Sound :=
  h.startOwed.cmpEdgeDone.tickOver.tickCommits.srcEdges.beaconTick.relistenTick.sniffTick.presTick.idleTick.snuffEdge

/-! ### Step -/

theorem withPending (h : s.Sound) {q} : (s.withPending q).Sound := h.pending

end State.Sound

/-! ## Every command answers

Each command's meaning ends in `ok` of a state that is sound where the state it found was. -/

namespace Answers

variable {s : State}

theorem ok {u : State} (h : s.Sound → u.Sound) : Answers s (ok u) := ⟨u, rfl, h⟩

theorem ite {a b : Res} {c : Prop} [Decidable c] (ha : Answers s a) (hb : Answers s b) : Answers s (if c then a else b) := by
  split
  · exact ha
  · exact hb

/-- What is answered from a state that is sound where `s` is. -/
theorem after {u : State} {r : Res} (hr : Answers u r) (h : s.Sound → u.Sound) : Answers s r := by
  obtain ⟨v, e, hv⟩ := hr
  exact ⟨v, e, fun hs => hv (h hs)⟩

/-- A command that answers gives a next state with no breach reset outstanding (01 R59). -/
theorem next {r : Res} (h : Answers s r) : ∃ u, r = .next u ∧ u.quiet := by
  obtain ⟨u, rfl, -⟩ := h
  exact ok_next u

/-- A command that answers keeps a sound state sound. -/
theorem sound {r : Res} {u : State} (h : Answers s r) (hs : s.Sound) (e : r = .next u) : u.Sound := by
  obtain ⟨v, rfl, hv⟩ := h
  cases e
  exact (hv hs).settle

end Answers

/-! ### Power -/

theorem execSpanRequest_answers {s : State} {span reverse} : Answers s (execSpanRequest span reverse s) := .ok fun h => h.spanRequest

theorem execSpanAcknowledge_answers {s : State} {span reverse} : Answers s (execSpanAcknowledge span reverse s) :=
  .ite (.ok id) (.ok fun h => (h.posted .land).setWin.check.presentHeld)

theorem execDimWake_answers {s : State} : Answers s (execDimWake s) := .ite (.ok fun h => h.power.setFld) (.ok id)

theorem execBootRomStart_answers {s : State} : Answers s (execBootRomStart s) :=
  .ite (.ok id) (.ite (.ok fun h => h.boot.steadyLit) (.ite (.ok fun h => h.boot) (.ok id)))

theorem execFlashReady_answers {s : State} : Answers s (execFlashReady s) := .ite (.ok fun h => h.setBit) (.ok id)

theorem execBurstOn_answers {s : State} : Answers s (execBurstOn s) := .ok fun h => h.burstOn

theorem execBurstLit_answers {s : State} : Answers s (execBurstLit s) :=
  .ite (.ok fun h => h.setIsland.grantSpans.setBit.setFld.clk.unhold.setThr.startThread.presentHeld) (.ok id)

theorem execBurstOff_answers {s : State} : Answers s (execBurstOff s) := .ok fun h => h.burstOff

theorem execBurstAutoDark_answers {s : State} : Answers s (execBurstAutoDark s) := .ite (.ok fun h => h.beginQuiesce) (.ok id)

theorem execLightFail_answers {s : State} {i} : Answers s (execLightFail i s) :=
  .ite (.ok fun h => h.steadyFell.ite (h.firstFell.ite h)) (.ite (.ok fun h => h.setIsland.litFail) (.ok id))

theorem execSoftReset_answers {s : State} {value} : Answers s (execSoftReset value s) := .ok fun h => h.softReset.ite h

theorem execResetnQualify_answers {s : State} {lowNs} : Answers s (execResetnQualify lowNs s) := by
  unfold execResetnQualify
  extract_lets _ _ _
  split
  · exact .ok id
  · split
    · exact .ok id
    · exact .ite (.ok fun h => (h.fullReset.ite h).power) (.ite (.ok fun h => (h.fullReset.ite h).power) (.ok fun h => h.fresh))

theorem execResetnRelease_answers {s : State} : Answers s (execResetnRelease s) := .ite (.ok fun h => h.power) (.ok id)

theorem execPowerOn_answers {s : State} {belowVvret} : Answers s (execPowerOn belowVvret s) := .ite (.ok id) (.ok fun h => h.fullReset.power)

theorem execBrownOut_answers {s : State} : Answers s (execBrownOut s) := .ite (.ok fun h => h.fullReset.power) (.ok id)

theorem execXt32Fail_answers {s : State} {missed} : Answers s (execXt32Fail missed s) :=
  .ite (.ok fun h => (h.clrFld.clrFld.setBit.clk.ite h.clrFld.clrFld.setBit.clk.fllRetarget).systemTo) (.ok id)

theorem execXt32Confirmed_answers {s : State} : Answers s (execXt32Confirmed s) := .ite (.ok fun h => h.setBit.clk) (.ok id)

theorem execVigilClockSwitch_answers {s : State} : Answers s (execVigilClockSwitch s) :=
  .ite (.ok fun h => h.setBit.clk.ite h.setBit.clk.fllRetarget) (.ok id)

theorem execXt32mFail_answers {s : State} {cycles} : Answers s (execXt32mFail cycles s) := by
  unfold execXt32mFail
  extract_lets _ _ _ _ _ _
  split
  · refine .ok fun h => ?_
    exact ((h.clrFld.setBit.systemTo.clk.fllRetarget.ite h.clrFld.setBit.systemTo.clk).foldl fun _ _ k => k.cnt.setBit).beginQuiesce.burstOff
  · exact .ok id

theorem execXt32mConfirmed_answers {s : State} {cycles} : Answers s (execXt32mConfirmed cycles s) := .ite (.ok fun h => h.setBit.clk_cnt) (.ok id)

theorem execFllRefSwitch_answers {s : State} : Answers s (execFllRefSwitch s) := .ite (.ok fun h => h.fllRetarget) (.ok id)

theorem execFllLocked_answers {s : State} {khz} : Answers s (execFllLocked khz s) := .ite (.ok fun h => h.setBit.setFld.setWs) (.ok id)

/-! ### TimeBase -/

theorem execTmbLoRead_answers {s : State} {t} : Answers s (execTmbLoRead t s) := .ok fun h => h.tmbLoRead.ite h

theorem execCmpValWrite_answers {s : State} {n v} : Answers s (execCmpValWrite n v s) := .ok fun h => h.cmpAccept.ite h

theorem execCmpRel_answers {s : State} {n d} : Answers s (execCmpRel n d s) := .ok fun h => h.cmpAccept.ite h

theorem execCompareFire_answers {s : State} {n} : Answers s (execCompareFire n s) := .ok fun h => h.cmpFire.ite h

theorem execCompareWriteApply_answers {s : State} {n} : Answers s (execCompareWriteApply n s) :=
  .ite (.ok id) (.ite (.ok fun h => h.cmpApplyAll) (.ite (.ok fun h => h.cmpFire.cmpApplyAll) (.ok id)))

theorem execPpsCapture_answers {s : State} : Answers s (execPpsCapture s) := .ite (.ok fun h => (h.setBit.ite h).setFld.setFld.setBit) (.ok id)

/-! ### Counters -/

theorem execCounterRun_answers {s : State} {n} : Answers s (execCounterRun n s) := .ok fun h => h.counterStart.counterArms.ite h

theorem execCounterCapture_answers {s : State} {n} : Answers s (execCounterCapture n s) := .ok fun h => h.capture.ite h

theorem execCounterIncrement_answers {s : State} {n} : Answers s (execCounterIncrement n s) :=
  .ite (.ok id) (.ite (.ok fun h => h.count) (.ite (.ok fun h => h.srcEdges.countDue) (.ok id)))

theorem execCntCmpvWrite_answers {s : State} {n v} : Answers s (execCntCmpvWrite n v s) := .ok fun h => h.setCmpv.ite h

theorem execCntCrel_answers {s : State} {n d} : Answers s (execCntCrel n d s) := .ok fun h => h.setCrel.ite h

theorem execCntCountWrite_answers {s : State} {n v} : Answers s (execCntCountWrite n v s) := .ok fun h => h.setCount.ite h

/-! ### Calendar -/

theorem execCalFreezeRead_answers {s : State} : Answers s (execCalFreezeRead s) := .ok fun h => h.calFreeze.ite h

theorem execCalCloseRead_answers {s : State} : Answers s (execCalCloseRead s) := .ok fun h => h.calClose.ite h

theorem execHeldlong_answers {s : State} : Answers s (execHeldlong s) := .ok fun h => h.setBit.ite h

theorem execCalSetWrite_answers {s : State} {date v} : Answers s (execCalSetWrite date v s) := .ok fun h => h.calSet.ite h

theorem execCalendarSubCarry_answers {s : State} {vbakMv switching} : Answers s (execCalendarSubCarry vbakMv switching s) :=
  .ok fun h => h.calCommitEdge.ite h.calCarry

theorem execBackupOscFail_answers {s : State} {missed} : Answers s (execBackupOscFail missed s) := .ite (.ok fun h => h.setBit.orFld.setBak) (.ok id)

theorem execBackupStateLoss_answers {s : State} : Answers s (execBackupStateLoss s) := .ok fun h => h.ite h.backupRestart

theorem execSupplySwitchVbak_answers {s : State} : Answers s (execSupplySwitchVbak s) := .ite (.ok id) (.ok fun h => h.setBak.clrFld)

theorem execSupplySwitchVdd_answers {s : State} : Answers s (execSupplySwitchVdd s) := .ite (.ok fun h => h.setBak) (.ok id)

theorem execBackupSenseCheck_answers {s : State} {high low} : Answers s (execBackupSenseCheck high low s) :=
  .ite (.ok fun h => h.setBak.foldl fun _ _ k => k.tamperLatch.ite k) (.ok id)

theorem execTamperLatchClear_answers {s : State} {v} : Answers s (execTamperLatchClear v s) := .ok fun h => h.tamperClear.ite h

/-! ### Flash -/

theorem execProgram_answers {s : State} : Answers s (execProgram s) := .ok fun h => h.flashTake

theorem execErase_answers {s : State} : Answers s (execErase s) := .ok fun h => h.flashTake

theorem execVerify_answers {s : State} : Answers s (execVerify s) := .ok fun h => h.flashTake

theorem execFlashUnitProgrammed_answers {s : State} {good} : Answers s (execFlashUnitProgrammed good s) := by
  unfold execFlashUnitProgrammed
  split
  · exact .ok id
  · extract_lets _ _ _
    split
    · exact .ok id
    · split
      · exact .ok fun h => h.flashOver
      · exact .ite (.ok fun h => h.programUnit.flashAdvance) (.ok fun h => h.programUnit.cutUnit.flashEnd)

theorem execFlashSectorErased_answers {s : State} {good} : Answers s (execFlashSectorErased good s) := by
  unfold execFlashSectorErased
  split
  · exact .ok id
  · exact .ite (.ok id) (.ite (.ok fun h => h.eraseSector.flashAdvance) (.ok fun h => h.eraseSector.cutSector.flashEnd))

theorem execSuspend_answers {s : State} : Answers s (execSuspend s) := .ok fun h => h.flashSuspend.ite h

theorem execFlashPaused_answers {s : State} : Answers s (execFlashPaused s) := by
  unfold execFlashPaused
  extract_lets _
  split
  · exact .ok id
  · exact .ite (.ok fun h => h.flash.setBit.busyFix) (.ok id)

theorem execResume_answers {s : State} : Answers s (execResume s) := .ok fun h => h.flashResume.ite h

theorem execScrubRead_answers {s : State} {foreground} : Answers s (execScrubRead foreground s) := by
  unfold execScrubRead
  split
  · exact .ok id
  · split
    · exact .ok fun h => h.scrubHeld
    · split
      · exact .ok id
      next s1 hv =>
        extract_lets _
        split
        · exact .ok fun h => (h.scrubSeek hv).scrubUnit
        · exact .ite (.ok fun h => (h.scrubSeek hv).flash.clrFld.setBit) (.ok fun h => (h.scrubSeek hv).setFld)

theorem execScrubForcedHoldEnd_answers {s : State} : Answers s (execScrubForcedHoldEnd s) := .ite (.ok fun h => h.flash.clrFld) (.ok id)

theorem execScrubReportDesc_answers {s : State} : Answers s (execScrubReportDesc s) :=
  .ite (.ok id) (.ok fun h => h.takeWith (fun _ _ k => k.refuse.ite k.hand))

theorem execFlcEccClr_answers {s : State} : Answers s (execFlcEccClr s) := .ok fun h => h.flcEccClr.ite h

/-! ### Cipher -/

theorem execCipLockClaim_answers {s : State} {t} : Answers s (execCipLockClaim t s) := .ok fun h => h.cipLockWrite.ite h

theorem execCipLockRelease_answers {s : State} {t} : Answers s (execCipLockRelease t s) := .ok fun h => h.cipLockWrite.ite h

theorem execKload_answers {s : State} : Answers s (execKload s) := .ok fun h => h.cipTake

theorem execKzero_answers {s : State} : Answers s (execKzero s) := .ok fun h => h.cipTake

theorem execKretire_answers {s : State} : Answers s (execKretire s) := .ok fun h => h.cipTake

theorem execEnc_answers {s : State} : Answers s (execEnc s) := .ok fun h => h.cipTake

theorem execDec_answers {s : State} : Answers s (execDec s) := .ok fun h => h.cipTake

theorem execCcmenc_answers {s : State} : Answers s (execCcmenc s) := .ok fun h => h.cipTake

theorem execCcmdec_answers {s : State} : Answers s (execCcmdec s) := .ok fun h => h.cipTake

theorem execReservationProgram_answers {s : State} {good} : Answers s (execReservationProgram good s) := by
  unfold execReservationProgram
  split
  · exact .ok id
  · split
    · exact .ok id
    · split
      · exact .ok fun h => h.resvEnd
      next t u hv =>
        extract_lets _
        split
        · exact .ok fun h => (h.headRoom hv).programInts.resvNext.crossed.recordDone.tidyLate.cipContinue
        · exact .ok fun h => (h.headRoom hv).programInts.cutUnit

theorem execCipNpurge_answers {s : State} {v} : Answers s (execCipNpurge v s) := .ok fun h => h.nonPurge.ite h

theorem execZeroise_answers {s : State} {tamper} : Answers s (execZeroise tamper s) := .ok fun h => h.zeroise.ite h

theorem execKeyParityFault_answers {s : State} {slot} : Answers s (execKeyParityFault slot s) :=
  .ite (.ok fun h => (h.endOp.ite h).spendAll.emptySlot.setBit.setFld) (.ok id)

/-! ### Bolt -/

theorem execMove_answers {s : State} : Answers s (execMove s) :=
  .ite (.ok fun h => h.takeDesc (fun _ _ k => k.moveRun)) (.ok fun h => h.takeDesc (fun _ _ k => k.moveRun))

theorem execEndStop_answers {s : State} {e levels cur} : Answers s (execEndStop e levels cur s) :=
  .ite (.ok id) (.ok fun h => (h.orFld.ite h.clrBits).driveOn)

theorem execStall_answers {s : State} {b cur} : Answers s (execStall b cur s) := .ok fun h => h.driveOn.ite h

theorem execMoveTimeout_answers {s : State} {b cur} : Answers s (execMoveTimeout b cur s) := .ok fun h => h.driveOn.ite h

theorem execBrakeEnd_answers {s : State} {b} : Answers s (execBrakeEnd b s) := .ite (.ok fun h => h.moveDone) (.ok id)

theorem execOvercur_answers {s : State} {b milliamps} : Answers s (execOvercur b milliamps s) := .ite (.ok fun h => h.setBrg.moveDone) (.ok id)

theorem execVmotlow_answers {s : State} {low} : Answers s (execVmotlow low s) :=
  .ite (.ok id) (.ite (.ok fun h => h.setFld.foldl fun _ _ k => k.moveDone.ite k) (.ok fun h => h.setFld))

theorem execTamperChip_answers {s : State} {n sample} : Answers s (execTamperChip n sample s) :=
  .ite (.ok id) (.ok fun h => h.setTloop.trip.ite h.setTloop)

theorem execTamperNoticeDesc_answers {s : State} : Answers s (execTamperNoticeDesc s) := .ok fun h => h.slotTake

theorem execLoopRearm_answers {s : State} {v} : Answers s (execLoopRearm v s) := .ok fun h => h.loopRearm.ite h

/-! ### Csp -/

theorem execSselFall_answers {s : State} : Answers s (execSselFall s) :=
  .ite (.ok id) (.ite (.ok fun h => h.wakeSource) (.ite (.ok fun h => h.arrive.frameBegin) (.ok fun h => h.arrive)))

theorem execNop_answers {s : State} {f} : Answers s (execNop f s) := .ok fun h => h.frameEnd

theorem execWrite_answers {s : State} {f} : Answers s (execWrite f s) := .ok fun h => h.frameEnd

theorem execRead_answers {s : State} {f} : Answers s (execRead f s) := .ok fun h => h.frameEnd

theorem execRecord_answers {s : State} {f} : Answers s (execRecord f s) := .ok fun h => h.frameEnd

theorem execGo_answers {s : State} {f} : Answers s (execGo f s) := .ok fun h => h.frameEnd

theorem execReservedKindFrame_answers {s : State} {f} : Answers s (execReservedKindFrame f s) := .ok fun h => h.frameEnd

theorem execFrameDiscard_answers {s : State} : Answers s (execFrameDiscard s) :=
  .ite (.ok id) (.ite (.ok fun h => h.setCsp.satInc) (.ite (.ok fun h => h.setCsp.satInc) (.ok id)))

theorem execCspRecv_answers {s : State} : Answers s (execCspRecv s) := by
  unfold execCspRecv
  split
  · exact .ok id
  · refine .ok fun h => ?_
    refine h.takeWith (fun t d k => ?_)
    split
    · exact k.refuse
    · exact k.hand

theorem execXfer_answers {s : State} {sdi} : Answers s (execXfer sdi s) := by
  unfold execXfer
  split
  · exact .ok fun h => h.xferGo.ite h
  · exact .ok fun h => h.takeDesc (fun _ _ k => k.xferRun)

theorem execDrop_answers {s : State} : Answers s (execDrop s) := .ok fun h => h.cspDrop.ite h

theorem execCspSclr_answers {s : State} : Answers s (execCspSclr s) := .ok fun h => h.cspSclr.ite h

/-! ### Radio -/

theorem execTx_answers {s : State} : Answers s (execTx s) := .ok fun h => h.radioTake

theorem execRx_answers {s : State} : Answers s (execRx s) := .ok fun h => h.radioTake

theorem execLantern_answers {s : State} : Answers s (execLantern s) := .ok fun h => h.radioTake

theorem execLsearch_answers {s : State} : Answers s (execLsearch s) := .ok fun h => h.radioTake

theorem execCal_answers {s : State} : Answers s (execCal s) := .ok fun h => h.radioTake

theorem execAlloc_answers {s : State} : Answers s (execAlloc s) := .ok fun h => h.poolTake (fun _ _ k => k.allocRun)

theorem execFree_answers {s : State} : Answers s (execFree s) := .ok fun h => h.poolTake (fun _ _ k => k.freeRun)

theorem execRadioOpBegin_answers {s : State} : Answers s (execRadioOpBegin s) := .ok fun h => h.opTry.ite h

theorem execSyncDetect_answers {s : State} {rx} : Answers s (execSyncDetect rx s) := by
  unfold execSyncDetect
  extract_lets _
  split
  · exact .ok id
  · extract_lets _
    split
    · split
      · exact .ok fun h => h.fresh.setOp
    · exact .ok id

theorem execRadioOpEnd_answers {s : State} : Answers s (execRadioOpEnd s) := by
  unfold execRadioOpEnd
  split
  · exact .ok id
  · split
    · exact .ok id
    · split
      · exact .ok fun h => h.opIdle.finish
      · split
        · exact .ok fun h => h.opIdle.refuse
        · exact .ok fun h => h.holdAccess.engWait
        · exact .ok fun h => h.opIdle.storeBytes.finish

theorem execRadioCalibrate_answers {s : State} {p degrees below} : Answers s (execRadioCalibrate p degrees below s) :=
  .ite (.ok fun h => (h.radio.calDeferred.ite h.radio.calibrated).ite h.radio) (.ok id)

theorem execSniffLead_answers {s : State} : Answers s (execSniffLead s) := .ite (.ok fun h => h.radio.wakeIsland.radio) (.ok id)

theorem execSniffWindow_answers {s : State} {levelDbm} : Answers s (execSniffWindow levelDbm s) := .ite (.ok fun h => h.radio.setBit) (.ok id)

theorem execSniffWindowEnd_answers {s : State} : Answers s (execSniffWindowEnd s) :=
  .ite (.ok fun h => (h.satInc.ite h).radio.clrFld.sniffDark.xt32mSettle) (.ok id)

theorem execDutyWindowStart_answers {s : State} {p} : Answers s (execDutyWindowStart p s) := .ite (.ok fun h => h.radio.setFld) (.ok id)

/-! ### Mesh -/

theorem execSendDesc_answers {s : State} : Answers s (execSendDesc s) := .ok fun h => h.takeWith (fun _ _ k => k.sendRun)

theorem execAdmit_answers {s : State} : Answers s (execAdmit s) := .ok fun h => h.ctlTake (fun _ _ k => k.admitRun)

theorem execEvict_answers {s : State} : Answers s (execEvict s) := .ok fun h => h.ctlTake (fun _ _ k => k.evictRun)

theorem execWakereq_answers {s : State} : Answers s (execWakereq s) := .ok fun h => h.ctlTake (fun _ _ k => k.wakeReq)

theorem execPropose_answers {s : State} : Answers s (execPropose s) := .ok fun h => h.ctlTake (fun _ _ k => k.proposeRun)

theorem execMeshRecv_answers {s : State} : Answers s (execMeshRecv s) := .ok fun h => h.slotTake

theorem execMeshNote_answers {s : State} : Answers s (execMeshNote s) := .ok fun h => h.slotTake

theorem execMeshRunStart_answers {s : State} : Answers s (execMeshRunStart s) := .ok fun h => h.meshStart.ite h

theorem execSlotEnd_answers {s : State} : Answers s (execSlotEnd s) := .ok fun h => h.slotEnd.ite h

theorem execSlotBoundary_answers {s : State} : Answers s (execSlotBoundary s) := by
  unfold execSlotBoundary
  extract_lets _ _ _ _ _ _
  split
  · exact .ok id
  · split
    · refine .ok fun h => ?_
      exact (h.enterSlot.wakeIsland.setBit.ite h.enterSlot.wakeIsland).checkGuard.ite (h.enterSlot.wakeIsland.setBit.ite h.enterSlot.wakeIsland)
    · refine .ok fun h => ?_
      exact ((h.enterSlot.wakeIsland.setBit.ite h.enterSlot.wakeIsland).checkGuard.ite
        (h.enterSlot.wakeIsland.setBit.ite h.enterSlot.wakeIsland)).slotReady.slotStart

theorem execCycleBoundary_answers {s : State} : Answers s (execCycleBoundary s) := by
  unfold execCycleBoundary
  extract_lets _ _
  split
  · exact .ok id
  · exact .ite (.ok fun h => (h.setFld.mshCommit.ite h.setFld).holidayClear) (.ok fun h => h.setFld.mshCommit.ite h.setFld)

theorem execMeshRunStop_answers {s : State} : Answers s (execMeshRunStop s) := .ite (.ok fun h => h.meshStopNow) (.ok id)

theorem State.frameIn_answers {s : State} {f} : Answers s (s.frameIn f) := by
  unfold State.frameIn
  extract_lets _ _
  split
  · exact .ok id
  · split
    · exact .ite (.ok fun h => h.joinBeacon) (.ok id)
    · split
      · exact .ok id
      · split
        · exact .ite (.ok id) (.ok fun h => h.slotFrameHeard)
        · split
          · exact .ok id
          · split
            · exact .ok id
            · exact .ite (.ok id) (.ok fun h => h.gapFrameHeard)
        · exact .ok id

theorem execMeshFrameReceived_answers {s : State} {f} : Answers s (execMeshFrameReceived f s) := by
  unfold execMeshFrameReceived
  split
  · exact .ok id
  · exact State.frameIn_answers.after fun h => h.fresh

theorem execAckSend_answers {s : State} : Answers s (execAckSend s) := by
  unfold execAckSend
  split
  · exact .ok id
  · split
    · exact .ok id
    · exact .ite (.ok id) (.ite (.ok fun h => h.transmit.setSlot) (.ok fun h => h.dutySkip.setSlot))

theorem State.ackIn_answers {s : State} {a} : Answers s (s.ackIn a) := by
  unfold State.ackIn
  split
  · split
    · exact .ok id
    · split
      · exact .ite (.ok fun h => h.frameDone.setSlot) (.ok id)
      · exact .ite (.ok fun h => h.ctrlAcked.setSlot) (.ok id)
      · exact .ok id
  · exact .ok id

theorem execAckJudge_answers {s : State} {ack} : Answers s (execAckJudge ack s) := by
  unfold execAckJudge
  split
  · exact .ok id
  · split
    · exact .ok id
    · exact State.ackIn_answers.after fun h => h.fresh

theorem execSearchLantern_answers {s : State} {e} : Answers s (execSearchLantern e s) :=
  .ite (.ok id) (.ite (.ok fun h => h.setNbr.pathReady.transmit.mesh) (.ok fun h => h.setNbr.pathReady.dutySkip.sendBeacon))

theorem execHolidayCommit_answers {s : State} : Answers s (execHolidayCommit s) := .ite (.ok fun h => h.setHst) (.ok id)

theorem execHolidaySleep_answers {s : State} : Answers s (execHolidaySleep s) :=
  .ite (.ok fun h => h.slotEnd.stopAir.cmpPut.crossed.cmpPut.crossed.setHst) (.ok id)

theorem execHolidayEnd_answers {s : State} : Answers s (execHolidayEnd s) :=
  .ite (.ok fun h => h.releaseHeld.holidayClear.meshPlace.wakeIsland.ite h.releaseHeld.holidayClear.meshPlace) (.ok id)

theorem execFloodEnd_answers {s : State} : Answers s (execFloodEnd s) := .ok fun h => h.mesh

theorem execMshCntclr_answers {s : State} : Answers s (execMshCntclr s) := .ok fun h => h.mshCntclr.ite h

theorem execLanternDetect_answers {s : State} {first second} : Answers s (execLanternDetect first second s) := by
  unfold execLanternDetect
  extract_lets _ _
  split
  · exact .ok id
  · extract_lets _ _
    split
    · exact .ok fun h => (h.radio.clrFld.setBit.setFld.alarmHeard.ite h.radio.clrFld.setBit.setFld).wakeSource.xt32mSettle
    · split
      · exact .ok id
      · exact .ite (.ok fun h => h.setOp) (.ok id)

theorem execSynthUnlock_answers {s : State} {p} : Answers s (execSynthUnlock p s) := by
  unfold execSynthUnlock
  split
  · exact .ok id
  · split
    · exact .ite (.ok fun h => h.opStop.clrFld.relockPath) (.ok fun h => h.setOp.finish.relockPath)
    · exact .ite (.ok fun h => h.linkUnlock) (.ok id)

/-! ### Gnss -/

theorem execFerdy_answers {s : State} : Answers s (execFerdy s) := .ite (.ok fun h => h.setGnss.setBit.setFld) (.ok id)

theorem execSnap_answers {s : State} : Answers s (execSnap s) := by
  unfold execSnap
  split
  · exact .ok id
  · refine .ok fun h => ?_
    refine h.takeWith (fun t d k => ?_)
    extract_lets _
    split
    · exact k.refuse
    · exact k.setGnss

theorem execSnapBegin_answers {s : State} : Answers s (execSnapBegin s) := .ok fun h => h.snapBegin

theorem execSnapEnd_answers {s : State} {samples} : Answers s (execSnapEnd samples s) := by
  unfold execSnapEnd
  split
  · exact .ok id
  · exact .ite (.ok id) (.ok fun h => (h.snapGone.fresh.ite h.snapGone).putSamples.outPut)

theorem execStart_answers {s : State} : Answers s (execStart s) := .ok fun h => h.trackTake (fun _ _ k => k.startRun)

theorem execStop_answers {s : State} : Answers s (execStop s) := .ok fun h => h.trackTake (fun _ _ k => k.stopRun)

theorem execMeas_answers {s : State} : Answers s (execMeas s) := .ok fun h => h.gnssBuf

theorem execNav_answers {s : State} : Answers s (execNav s) := .ok fun h => h.gnssBuf

theorem execGnssNote_answers {s : State} : Answers s (execGnssNote s) := .ok fun h => h.gnssBuf

theorem execNavWord_answers {s : State} {ch word d29 d30 tcxoSub} : Answers s (execNavWord ch word d29 d30 tcxoSub s) :=
  .ite (.ok id) (.ite (.ok fun h => h.navPut.setChan) (.ok fun h => h.setChan.gnssNotice.ite h.setChan))

theorem execEpochBoundary_answers {s : State} {obs} : Answers s (execEpochBoundary obs s) := by
  unfold execEpochBoundary
  extract_lets _ _ _ _ _ _ _ _
  split
  · exact .ok fun h => h.snapBegin
  · refine .ok fun h => ?_
    split
    · exact ((h.snapBegin.gnsEdge.setFld.setFld.foldl fun _ _ k => k.notchStep).jnStep.foldl fun _ _ k => k.chanStep).snapStep.setGnss.measLatch
    · exact ((h.snapBegin.gnsEdge.setFld.setFld.foldl fun _ _ k => k.notchStep).jnStep.foldl fun _ _ k => k.chanStep).snapStep.setGnss

/-! ### Pps -/

theorem execPpsEnable_answers {s : State} {value} : Answers s (execPpsEnable value s) := .ok fun h => h.ppsCtl.ite h

theorem execPpsFix_answers {s : State} {value} : Answers s (execPpsFix value s) := .ok fun h => h.ppsFixWrite.ite h

theorem execPpsAdj_answers {s : State} {value} : Answers s (execPpsAdj value s) := .ok fun h => h.ppsAdjWrite.ite h

theorem execPpsPulse_answers {s : State} {ticks40} : Answers s (execPpsPulse ticks40 s) := by
  unfold execPpsPulse
  extract_lets _
  split
  · exact .ok id
  · split
    · exact .ite (.ok fun h => h.ppsOut.ppsLock.nextPeriod) (.ok fun h => h.ppsOut)
    · split
      · exact .ok fun h => h.ppsOut.nextPeriod
      · exact .ite (.ok fun h => h.ppsOut.ppsHoldover.holdPulse.nextPeriod) (.ok fun h => h.ppsOut.ppsStats.nextPeriod)
      · exact .ok fun h => h.ppsOut.holdPulse.nextPeriod
      · exact .ok fun h => h.ppsOut

theorem execHoldoverEntry_answers {s : State} : Answers s (execHoldoverEntry s) := .ite (.ok fun h => h.ppsHoldover) (.ok id)

theorem execTcxoFail_answers {s : State} {cycles} : Answers s (execTcxoFail cycles s) :=
  .ite (.ok fun h => h.setBit.clrFld.frontEndOff.chansIdle.snapCut.ppsTcxoFail.gnssNote) (.ok id)

theorem execTcxoReturn_answers {s : State} : Answers s (execTcxoReturn s) := .ite (.ok fun h => h.setBit) (.ok id)

/-! ### RingCmds -/

theorem execRingEnable_answers {s : State} {n value} : Answers s (execRingEnable n value s) := .ok fun h => h.rcfgWrite.ite h

theorem execRingDisable_answers {s : State} {n} : Answers s (execRingDisable n s) := .ok fun h => h.ringDisable.ite h

theorem execRingDrainEnd_answers {s : State} {n} : Answers s (execRingDrainEnd n s) := .ok fun h => h.ringDrained.ite h

theorem execCompletionWrite_answers {s : State} {n} : Answers s (execCompletionWrite n s) := .ok fun h => h.completed.ite h

theorem execQueOvpClr_answers {s : State} : Answers s (execQueOvpClr s) := .ok fun h => h.queOvpClr.ite h

/-! ### TagBus -/

theorem execFobAttached_answers {s : State} {l id code} : Answers s (execFobAttached l id code s) := .ok fun h => h.setLine

theorem execFobRemoved_answers {s : State} {l id} : Answers s (execFobRemoved l id s) := .ok fun h => h.pullFob

theorem execLineEnable_answers {s : State} {l} : Answers s (execLineEnable l s) := .ok fun h => h.lineEnable.ite h

theorem execSearch_answers {s : State} {noise} : Answers s (execSearch noise s) := .ok fun h => h.tagTake (fun _ _ k => k.searchStart)

theorem execCheck_answers {s : State} {noise} : Answers s (execCheck noise s) := .ok fun h => h.tagTake (fun _ _ k => k.checkRun)

theorem execSearchResume_answers {s : State} : Answers s (execSearchResume s) := by
  unfold execSearchResume
  split
  · exact .ok id
  · exact .ite (.ok fun h => h.clrFld.tagBusy.searchRun) (.ok id)

theorem execSearchPauseTimeout_answers {s : State} : Answers s (execSearchPauseTimeout s) := .ok fun h => h.pauseOver

theorem execTagRecv_answers {s : State} : Answers s (execTagRecv s) := .ok fun h => h.pauseOver.tagRecv

theorem execPresenceCheck_answers {s : State} {l noise} : Answers s (execPresenceCheck l noise s) :=
  .ite (.ok id) (.ite (.ok fun h => h.presDefer) (.ok fun h => h.presRun.presNext))

/-! ### Quiesce -/

theorem execIslandLit_answers {s : State} {i} : Answers s (execIslandLit i s) := .ite (.ok fun h => h.islandUp) (.ok id)

theorem execIslandIdleDark_answers {s : State} {i} : Answers s (execIslandIdleDark i s) := .ite (.ok fun h => h.beginQuiesce) (.ok id)

theorem execQuiesce_answers {s : State} {i} : Answers s (execQuiesce i s) := by
  unfold execQuiesce
  split
  · exact .ok id
  · split
    · exact .ite (.ite (.ok fun h => h.flashQuiesce.beginQuiesce) (.ok id)) (.ite (.ok fun h => h.entryQuiesce) (.ok id))
    · exact .ite (.ok fun h => h.beginQuiesce) (.ok id)

theorem execQuiesceDrainEnd_answers {s : State} {i} : Answers s (execQuiesceDrainEnd i s) := .ite (.ok fun h => h.drainStop.ite h.quiesceEnd) (.ok id)

theorem execIslandReset_answers {s : State} {value} : Answers s (execIslandReset value s) := .ok fun h => h.islandReset.ite h

/-! ### Threads -/

theorem execThreadStart_answers {s : State} {t} : Answers s (execThreadStart t s) := .ok fun h => h.tctlWrite.ite h

theorem execThreadStop_answers {s : State} {t} : Answers s (execThreadStop t s) := .ok fun h => h.tctlWrite.ite h

theorem execEvtTringWrite_answers {s : State} {t value} : Answers s (execEvtTringWrite t value s) := .ok fun h => h.tringWrite.ite h

theorem execEvtTovfClr_answers {s : State} {t} : Answers s (execEvtTovfClr t s) := .ok fun h => h.tovfClr.ite h

theorem execWaitWake_answers {s : State} {t} : Answers s (execWaitWake t s) := .ite (.ok fun h => h.unhold.setThr) (.ok id)

/-! ### Entropy -/

theorem execGet_answers {s : State} : Answers s (execGet s) := .ok fun h => h.entropyTake

theorem execRaw_answers {s : State} : Answers s (execRaw s) := .ok fun h => h.entropyTake

theorem execEntropyReady_answers {s : State} : Answers s (execEntropyReady s) := .ok fun h => h.setBit.ite h

theorem execHealthFail_answers {s : State} {adaptive} : Answers s (execHealthFail adaptive s) := .ok fun h => h.entropyHalt.ite h

theorem execEntropyRestart_answers {s : State} : Answers s (execEntropyRestart s) := .ok fun h => h.entropyRestart.ite h

/-! ### LedgerCmds -/

theorem execPeriodicSweepDue_answers {s : State} : Answers s (execPeriodicSweepDue s) :=
  .ite (.ok id) (.ite (.ok fun h => ((h.ledger (by rfl)).ledger (by rfl))) (.ok fun h => (h.ledger (by rfl)).sweepStart))

theorem execAuditGo_answers {s : State} : Answers s (execAuditGo s) := .ok fun h => h.auditGo.ite h

theorem execWaitingSweepStart_answers {s : State} : Answers s (execWaitingSweepStart s) := .ite (.ok fun h => h.sweepStart) (.ok id)

theorem execSweepAccountCheck_answers {s : State} : Answers s (execSweepAccountCheck s) := by
  unfold execSweepAccountCheck
  split
  · exact .ok id
  · extract_lets _ _ _
    split
    · exact .ok id
    · exact .ite (.ok fun h => ((h.ite h.check).ledger (by rfl))) (.ok fun h => ((h.ite h.check).ledger (by rfl)).setFld)

theorem execWindowAge_answers {s : State} {acct} : Answers s (execWindowAge acct s) := by
  unfold execWindowAge
  split
  · exact .ok id
  · exact .ite (.ok fun h => h.setWin.breach) (.ok id)

theorem execLdgSelCapture_answers {s : State} {acct} : Answers s (execLdgSelCapture acct s) := .ok fun h => h.ldgSel.ite h

/-! ### Pins -/

theorem execPinEdge_answers {s : State} {n level} : Answers s (execPinEdge n level s) := by
  unfold execPinEdge
  extract_lets _ _
  exact .ite (.ok fun h => h.pads_driven.pinChanged) (.ok fun h => h.pads_driven)

theorem execPinSet_answers {s : State} {v} : Answers s (execPinSet v s) := .ok fun h => h.pinSet.ite h

theorem execPinClr_answers {s : State} {v} : Answers s (execPinClr v s) := .ok fun h => h.pinClr.ite h

/-! ### Regs -/

theorem execRegisterWrite_answers {s : State} {t addr value} : Answers s (execRegisterWrite t addr value s) := .ok fun h => h.regWrite.ite h

theorem execSealGo_answers {s : State} {b value} : Answers s (execSealGo b value s) := .ok fun h => h.sealPut.ite h

theorem execSealCommit_answers {s : State} {b} : Answers s (execSealCommit b s) := .ok fun h => h.commit.ite h

/-! ### Operands -/

/-- A word answers where what it says does (04 R193; 05 R200). -/
theorem State.fetched_answers {s : State} {t run} (hrun : ∀ v, Answers v (run v)) : Answers s (s.fetched t run) := by
  unfold State.fetched
  refine .ite ?_ (.ok id)
  cases s.fetchStop t with
  | some r => exact .ok fun h => h.fetchEnd.settle.stopLate
  | none =>
    obtain ⟨u, e, hu⟩ := hrun (s.fetchRead t)
    simp only [e]
    exact .ok fun h => (hu h.fetchRead).settle.stopLate

theorem State.conclude_answers {s : State} {t held d} (hd : s.Sound → d.Sound) : Answers s (State.conclude t held d) := by
  cases d with
  | done u => exact .ok hd
  | fault u f a => exact .ok fun h => State.Sound.trap (hd h)
  | wait u => exact .ok fun h => State.Sound.waits (hd h)

theorem State.instr_answers {s : State} {t c cr body} (hbody : ∀ v, v.Sound → (body v).Sound) : Answers s (s.instr t c cr body) :=
  State.fetched_answers (fun _ => .ite (State.conclude_answers (fun k => hbody _ k.clearBip)) (.ok fun k => k.clearBip.skip))

theorem State.reservedRes_answers {s : State} {t} : Answers s (s.reservedRes t) := State.fetched_answers (fun _ => .ok fun k => k.reserved)

/-! ### Block -/

theorem State.blockInstr_answers {s : State} {t c ra body} (hbody : ∀ v x1, v.Sound → (body v x1).Sound) : Answers s (s.blockInstr t c ra body) :=
  State.fetched_answers (fun _ => .ite (State.conclude_answers (fun k => hbody _ _ k.unissue)) (.ok fun k => k.unissue.skip))

theorem execBcopy_answers {s : State} {t c rd ra rb} : Answers s (execBcopy t c rd ra rb s) := State.blockInstr_answers (fun _ _ k => k.copyChunk)

theorem execBfill_answers {s : State} {t c rd ra rb} : Answers s (execBfill t c rd ra rb s) := State.blockInstr_answers (fun _ _ k => k.fillChunk)

theorem execBcrc_answers {s : State} {t c rd ra rb} : Answers s (execBcrc t c rd ra rb s) := State.blockInstr_answers (fun _ _ k => k.crcChunk)

theorem execBretag_answers {s : State} {t c rd ra rb} : Answers s (execBretag t c rd ra rb s) :=
  .ite State.reservedRes_answers (State.blockInstr_answers (fun _ _ k => k.retagChunk))

/-! ### Boot -/

theorem execBootHandoff_answers {s : State} : Answers s (execBootHandoff s) := by
  unfold execBootHandoff
  extract_lets _ _
  split
  · split
    · exact .ok fun h => h.afterBank.afterBank.boot.setThr.fresh
    · exact .ok fun h => h.afterBank.afterBank.freshCut.cspRecovery.boot
  · exact .ok id

/-! ### Alu -/

theorem State.alu_answers {s : State} {t c rd ra rb tag f} : Answers s (s.alu t c rd ra rb tag f) := State.instr_answers (fun _ k => k.result)

theorem State.aluImm_answers {s : State} {t c rd ra imm tag f} : Answers s (s.aluImm t c rd ra imm tag f) := State.instr_answers (fun _ k => k.result)

theorem execAdd_answers {s : State} {t c rd ra rb} : Answers s (execAdd t c rd ra rb s) := State.alu_answers

theorem execSub_answers {s : State} {t c rd ra rb} : Answers s (execSub t c rd ra rb s) := State.alu_answers

theorem execAnd_answers {s : State} {t c rd ra rb} : Answers s (execAnd t c rd ra rb s) := State.alu_answers

theorem execOr_answers {s : State} {t c rd ra rb} : Answers s (execOr t c rd ra rb s) := State.alu_answers

theorem execXor_answers {s : State} {t c rd ra rb} : Answers s (execXor t c rd ra rb s) := State.alu_answers

theorem execShl_answers {s : State} {t c rd ra rb} : Answers s (execShl t c rd ra rb s) := State.alu_answers

theorem execShr_answers {s : State} {t c rd ra rb} : Answers s (execShr t c rd ra rb s) := State.alu_answers

theorem execSar_answers {s : State} {t c rd ra rb} : Answers s (execSar t c rd ra rb s) := State.alu_answers

theorem execMul_answers {s : State} {t c rd ra rb} : Answers s (execMul t c rd ra rb s) := State.alu_answers

theorem execMulhu_answers {s : State} {t c rd ra rb} : Answers s (execMulhu t c rd ra rb s) := State.alu_answers

theorem execMulhs_answers {s : State} {t c rd ra rb} : Answers s (execMulhs t c rd ra rb s) := State.alu_answers

theorem execDivu_answers {s : State} {t c rd ra rb} : Answers s (execDivu t c rd ra rb s) := State.alu_answers

theorem execDivs_answers {s : State} {t c rd ra rb} : Answers s (execDivs t c rd ra rb s) := State.alu_answers

theorem execRemu_answers {s : State} {t c rd ra rb} : Answers s (execRemu t c rd ra rb s) := State.alu_answers

theorem execRems_answers {s : State} {t c rd ra rb} : Answers s (execRems t c rd ra rb s) := State.alu_answers

theorem execMov_answers {s : State} {t c rd ra} : Answers s (execMov t c rd ra s) := State.instr_answers (fun _ k => .done k.write)

theorem execTagof_answers {s : State} {t c rd ra} : Answers s (execTagof t c rd ra s) := State.instr_answers (fun _ k => .done k.write)

theorem execAddi_answers {s : State} {t c rd ra imm} : Answers s (execAddi t c rd ra imm s) := State.aluImm_answers

theorem execAndi_answers {s : State} {t c rd ra imm} : Answers s (execAndi t c rd ra imm s) := State.aluImm_answers

theorem execOri_answers {s : State} {t c rd ra imm} : Answers s (execOri t c rd ra imm s) := State.aluImm_answers

theorem execXori_answers {s : State} {t c rd ra imm} : Answers s (execXori t c rd ra imm s) := State.aluImm_answers

theorem execShli_answers {s : State} {t c rd ra imm} : Answers s (execShli t c rd ra imm s) := State.aluImm_answers

theorem execShri_answers {s : State} {t c rd ra imm} : Answers s (execShri t c rd ra imm s) := State.aluImm_answers

theorem execSari_answers {s : State} {t c rd ra imm} : Answers s (execSari t c rd ra imm s) := State.aluImm_answers

theorem execRetag_answers {s : State} {t c rd ra tag} : Answers s (execRetag t c rd ra tag s) := by
  unfold execRetag
  split
  · exact State.reservedRes_answers
  · exact State.instr_answers (fun _ k => .ite (.fault k) (.ite (.fault k) (.done k.write)))

theorem execCmp_answers {s : State} {t c ra rb} : Answers s (execCmp t c ra rb s) := State.instr_answers (fun _ k => k.flagged)

theorem execCmpi_answers {s : State} {t c ra imm} : Answers s (execCmpi t c ra imm s) := State.instr_answers (fun _ k => k.flagged)

theorem execTst_answers {s : State} {t c ra rb} : Answers s (execTst t c ra rb s) := State.instr_answers (fun _ k => k.flagged)

theorem execOrl_answers {s : State} {t c rd imm} : Answers s (execOrl t c rd imm s) := State.instr_answers (fun _ k => k.result)

theorem execMovh_answers {s : State} {t c rd imm} : Answers s (execMovh t c rd imm s) := State.instr_answers (fun _ k => .done k.write)

theorem execAdrc_answers {s : State} {t c rd imm} : Answers s (execAdrc t c rd imm s) := State.instr_answers (fun _ k => .done k.write)

/-! ### Branch -/

theorem execB_answers {s : State} {t c off} : Answers s (execB t c off s) := State.instr_answers (fun _ k => .done k.setThr)

theorem execBl_answers {s : State} {t c off} : Answers s (execBl t c off s) := State.instr_answers (fun _ k => .done k.setThr)

theorem execJr_answers {s : State} {t c ra} : Answers s (execJr t c ra s) := State.instr_answers (fun _ k => k.jumpReg)

theorem execJlr_answers {s : State} {t c rd ra} : Answers s (execJlr t c rd ra s) := State.instr_answers (fun _ k => k.jumpReg)

/-! ### MemOps -/

theorem State.loadVia_answers {s : State} {t c ra off run} (hrun : ∀ v x1 x2, v.Sound → (run v x1 x2).Sound) :
    Answers s (s.loadVia t c ra off run) :=
  State.instr_answers (fun _ k => .ite (.fault k) (hrun _ _ _ k))

theorem State.storeVia_answers {s : State} {t c ra off run} (hrun : ∀ v x1 x2, v.Sound → (run v x1 x2).Sound) :
    Answers s (s.storeVia t c ra off run) :=
  State.instr_answers (fun _ k => .ite (.fault k) (.ite (.fault k) (hrun _ _ _ k)))

theorem execLdw_answers {s : State} {t c rd ra imm} : Answers s (execLdw t c rd ra imm s) := State.loadVia_answers (fun _ _ _ k => k.loadW)

theorem execLdhu_answers {s : State} {t c rd ra imm} : Answers s (execLdhu t c rd ra imm s) := State.loadVia_answers (fun _ _ _ k => k.loadP)

theorem execLdhs_answers {s : State} {t c rd ra imm} : Answers s (execLdhs t c rd ra imm s) := State.loadVia_answers (fun _ _ _ k => k.loadP)

theorem execLdbu_answers {s : State} {t c rd ra imm} : Answers s (execLdbu t c rd ra imm s) := State.loadVia_answers (fun _ _ _ k => k.loadP)

theorem execLdbs_answers {s : State} {t c rd ra imm} : Answers s (execLdbs t c rd ra imm s) := State.loadVia_answers (fun _ _ _ k => k.loadP)

theorem execLdwx_answers {s : State} {t c rd ra rb} : Answers s (execLdwx t c rd ra rb s) :=
  State.instr_answers (fun _ k => .ite (.fault k) (.ite (.fault k) k.loadW))

theorem execStw_answers {s : State} {t c rd ra imm} : Answers s (execStw t c rd ra imm s) := State.storeVia_answers (fun _ _ _ k => k.storeW)

theorem execSth_answers {s : State} {t c rd ra imm} : Answers s (execSth t c rd ra imm s) := State.storeVia_answers (fun _ _ _ k => k.storeP)

theorem execStb_answers {s : State} {t c rd ra imm} : Answers s (execStb t c rd ra imm s) := State.storeVia_answers (fun _ _ _ k => k.storeP)

theorem execStwx_answers {s : State} {t c rd ra rb} : Answers s (execStwx t c rd ra rb s) :=
  State.instr_answers (fun _ k => .ite (.fault k) (.ite (.fault k) (.ite (.fault k) k.storeW)))

/-! ### Paired -/

theorem execPairedWord_answers {s : State} {t w} : Answers s (execPairedWord t w s) := by
  unfold execPairedWord
  split
  · exact State.fetched_answers (fun _ => .ok fun k => k.clearBip.pair)
  · exact State.fetched_answers (fun _ => .ok fun k => k.clearBip.trap)
  · exact .ite State.reservedRes_answers (.ok id)
  · exact .ok id

theorem execReservedWord_answers {s : State} {t w} : Answers s (execReservedWord t w s) := .ite State.reservedRes_answers (.ok id)

/-! ### Snuff -/

theorem execSnuff_answers {s : State} : Answers s (execSnuff s) := .ite (.ok fun h => h.snuff) (.ok id)

theorem execEnterLowerState_answers {s : State} : Answers s (execEnterLowerState s) := by
  unfold execEnterLowerState
  extract_lets _
  split
  · exact .ok id
  · split
    · exact .ite (.ok fun h => h.setFld.setFld.ite h.setFld.setFld.fllStop) (.ok id)
    · exact .ok fun h => h.power

theorem execTimeBaseTick_answers {s : State} : Answers s (execTimeBaseTick s) := .ite (.ok fun h => h.tickEdge.ite h.tickOver) (.ok id)

/-! ### System -/

theorem execSys_answers {s : State} {t c imm} : Answers s (execSys t c imm s) :=
  State.fetched_answers (fun _ => .ok fun k => k.clearBip.trap.ite k.clearBip.skip)

theorem execWret_answers {s : State} {t c} : Answers s (execWret t c s) := State.instr_answers (fun _ k => .ite (.done k.setThr) (.fault k))

theorem execWait_answers {s : State} {t c rd ra} : Answers s (execWait t c rd ra s) :=
  State.instr_answers (fun _ k => .ite (.fault k) (.done k.setThr))

theorem execSend_answers {s : State} {t c rd ra rb} : Answers s (execSend t c rd ra rb s) := by
  unfold execSend
  refine State.instr_answers (fun s0 k => ?_)
  extract_lets _ _ _
  split
  · exact .fault k
  · split
    · exact .done k.write
    · exact .done k.deliver.write

theorem execMfs_answers {s : State} {t c rd sr} : Answers s (execMfs t c rd sr s) := State.instr_answers (fun _ k => .done k.write)

theorem execMts_answers {s : State} {t c ra sr} : Answers s (execMts t c ra sr s) :=
  State.instr_answers (fun _ k => .ite (.fault k) (.ite (.fault k) (.done k.setThr)))

theorem execMkkey_answers {s : State} {t c rd slot} : Answers s (execMkkey t c rd slot s) :=
  State.instr_answers (fun _ k => .ite (.done k.write) (.fault k))

theorem execFetchFault_answers {s : State} {t} : Answers s (execFetchFault t s) := by
  unfold execFetchFault
  split
  · exact State.fetched_answers (fun _ => .ok id)
  · exact .ok id

/-! ### Dispatch -/

/-- Every command answers (05 R212; log 7). -/
theorem exec_answers (i : Instr) (s : State) : Answers s (exec i s) := by
  cases i with
  | registerWrite => exact execRegisterWrite_answers
  | sealGo => exact execSealGo_answers
  | sealCommit => exact execSealCommit_answers
  | periodicSweepDue => exact execPeriodicSweepDue_answers
  | auditGo => exact execAuditGo_answers
  | waitingSweepStart => exact execWaitingSweepStart_answers
  | sweepAccountCheck => exact execSweepAccountCheck_answers
  | windowAge => exact execWindowAge_answers
  | ldgSelCapture => exact execLdgSelCapture_answers
  | spanRequest => exact execSpanRequest_answers
  | spanAcknowledge => exact execSpanAcknowledge_answers
  | enterLowerState => exact execEnterLowerState_answers
  | dimWake => exact execDimWake_answers
  | bootRomStart => exact execBootRomStart_answers
  | bootHandoff => exact execBootHandoff_answers
  | flashReady => exact execFlashReady_answers
  | burstOn => exact execBurstOn_answers
  | burstLit => exact execBurstLit_answers
  | burstOff => exact execBurstOff_answers
  | burstAutoDark => exact execBurstAutoDark_answers
  | islandLit => exact execIslandLit_answers
  | lightFail => exact execLightFail_answers
  | islandIdleDark => exact execIslandIdleDark_answers
  | quiesce => exact execQuiesce_answers
  | quiesceDrainEnd => exact execQuiesceDrainEnd_answers
  | islandReset => exact execIslandReset_answers
  | softReset => exact execSoftReset_answers
  | resetnQualify => exact execResetnQualify_answers
  | resetnRelease => exact execResetnRelease_answers
  | powerOn => exact execPowerOn_answers
  | brownOut => exact execBrownOut_answers
  | xt32Fail => exact execXt32Fail_answers
  | xt32Confirmed => exact execXt32Confirmed_answers
  | vigilClockSwitch => exact execVigilClockSwitch_answers
  | xt32mFail => exact execXt32mFail_answers
  | xt32mConfirmed => exact execXt32mConfirmed_answers
  | fllRefSwitch => exact execFllRefSwitch_answers
  | pairedWord => exact execPairedWord_answers
  | add => exact execAdd_answers
  | sub => exact execSub_answers
  | and => exact execAnd_answers
  | or => exact execOr_answers
  | xor => exact execXor_answers
  | shl => exact execShl_answers
  | shr => exact execShr_answers
  | sar => exact execSar_answers
  | mul => exact execMul_answers
  | mulhu => exact execMulhu_answers
  | mulhs => exact execMulhs_answers
  | divu => exact execDivu_answers
  | divs => exact execDivs_answers
  | remu => exact execRemu_answers
  | rems => exact execRems_answers
  | mov => exact execMov_answers
  | addi => exact execAddi_answers
  | andi => exact execAndi_answers
  | ori => exact execOri_answers
  | xori => exact execXori_answers
  | shli => exact execShli_answers
  | shri => exact execShri_answers
  | sari => exact execSari_answers
  | retag => exact execRetag_answers
  | cmp => exact execCmp_answers
  | cmpi => exact execCmpi_answers
  | tst => exact execTst_answers
  | tagof => exact execTagof_answers
  | orl => exact execOrl_answers
  | movh => exact execMovh_answers
  | ldw => exact execLdw_answers
  | stw => exact execStw_answers
  | ldhu => exact execLdhu_answers
  | ldhs => exact execLdhs_answers
  | ldbu => exact execLdbu_answers
  | ldbs => exact execLdbs_answers
  | sth => exact execSth_answers
  | stb => exact execStb_answers
  | ldwx => exact execLdwx_answers
  | stwx => exact execStwx_answers
  | b => exact execB_answers
  | bl => exact execBl_answers
  | jr => exact execJr_answers
  | jlr => exact execJlr_answers
  | sys => exact execSys_answers
  | wret => exact execWret_answers
  | wait => exact execWait_answers
  | waitWake => exact execWaitWake_answers
  | send => exact execSend_answers
  | bcopy => exact execBcopy_answers
  | bfill => exact execBfill_answers
  | bcrc => exact execBcrc_answers
  | bretag => exact execBretag_answers
  | mfs => exact execMfs_answers
  | mts => exact execMts_answers
  | mkkey => exact execMkkey_answers
  | adrc => exact execAdrc_answers
  | reservedWord => exact execReservedWord_answers
  | threadStart => exact execThreadStart_answers
  | threadStop => exact execThreadStop_answers
  | evtTringWrite => exact execEvtTringWrite_answers
  | evtTovfClr => exact execEvtTovfClr_answers
  | snuff => exact execSnuff_answers
  | ringEnable => exact execRingEnable_answers
  | ringDisable => exact execRingDisable_answers
  | ringDrainEnd => exact execRingDrainEnd_answers
  | completionWrite => exact execCompletionWrite_answers
  | queOvpClr => exact execQueOvpClr_answers
  | program => exact execProgram_answers
  | erase => exact execErase_answers
  | verify => exact execVerify_answers
  | flashUnitProgrammed => exact execFlashUnitProgrammed_answers
  | flashSectorErased => exact execFlashSectorErased_answers
  | suspend => exact execSuspend_answers
  | flashPaused => exact execFlashPaused_answers
  | resume => exact execResume_answers
  | reservationProgram => exact execReservationProgram_answers
  | scrubRead => exact execScrubRead_answers
  | scrubForcedHoldEnd => exact execScrubForcedHoldEnd_answers
  | scrubReportDesc => exact execScrubReportDesc_answers
  | flcEccClr => exact execFlcEccClr_answers
  | tmbLoRead => exact execTmbLoRead_answers
  | timeBaseTick => exact execTimeBaseTick_answers
  | cmpValWrite => exact execCmpValWrite_answers
  | cmpRel => exact execCmpRel_answers
  | compareWriteApply => exact execCompareWriteApply_answers
  | compareFire => exact execCompareFire_answers
  | ppsCapture => exact execPpsCapture_answers
  | counterRun => exact execCounterRun_answers
  | counterIncrement => exact execCounterIncrement_answers
  | counterCapture => exact execCounterCapture_answers
  | cntCmpvWrite => exact execCntCmpvWrite_answers
  | cntCrel => exact execCntCrel_answers
  | cntCountWrite => exact execCntCountWrite_answers
  | calFreezeRead => exact execCalFreezeRead_answers
  | calCloseRead => exact execCalCloseRead_answers
  | heldlong => exact execHeldlong_answers
  | calendarSubCarry => exact execCalendarSubCarry_answers
  | calSetWrite => exact execCalSetWrite_answers
  | backupOscFail => exact execBackupOscFail_answers
  | backupStateLoss => exact execBackupStateLoss_answers
  | supplySwitchVbak => exact execSupplySwitchVbak_answers
  | supplySwitchVdd => exact execSupplySwitchVdd_answers
  | backupSenseCheck => exact execBackupSenseCheck_answers
  | tamperLatchClear => exact execTamperLatchClear_answers
  | tx => exact execTx_answers
  | rx => exact execRx_answers
  | lantern => exact execLantern_answers
  | lsearch => exact execLsearch_answers
  | cal => exact execCal_answers
  | alloc => exact execAlloc_answers
  | free => exact execFree_answers
  | radioOpBegin => exact execRadioOpBegin_answers
  | syncDetect => exact execSyncDetect_answers
  | lanternDetect => exact execLanternDetect_answers
  | radioOpEnd => exact execRadioOpEnd_answers
  | radioCalibrate => exact execRadioCalibrate_answers
  | synthUnlock => exact execSynthUnlock_answers
  | sniffLead => exact execSniffLead_answers
  | sniffWindow => exact execSniffWindow_answers
  | sniffWindowEnd => exact execSniffWindowEnd_answers
  | dutyWindowStart => exact execDutyWindowStart_answers
  | sendDesc => exact execSendDesc_answers
  | meshAdmit => exact execAdmit_answers
  | evict => exact execEvict_answers
  | wakereq => exact execWakereq_answers
  | propose => exact execPropose_answers
  | meshRecv => exact execMeshRecv_answers
  | meshNote => exact execMeshNote_answers
  | meshRunStart => exact execMeshRunStart_answers
  | meshRunStop => exact execMeshRunStop_answers
  | slotBoundary => exact execSlotBoundary_answers
  | cycleBoundary => exact execCycleBoundary_answers
  | meshFrameReceived => exact execMeshFrameReceived_answers
  | ackSend => exact execAckSend_answers
  | ackJudge => exact execAckJudge_answers
  | slotEnd => exact execSlotEnd_answers
  | searchLantern => exact execSearchLantern_answers
  | holidayCommit => exact execHolidayCommit_answers
  | holidaySleep => exact execHolidaySleep_answers
  | holidayEnd => exact execHolidayEnd_answers
  | floodEnd => exact execFloodEnd_answers
  | mshCntclr => exact execMshCntclr_answers
  | cipLockClaim => exact execCipLockClaim_answers
  | cipLockRelease => exact execCipLockRelease_answers
  | kload => exact execKload_answers
  | kzero => exact execKzero_answers
  | kretire => exact execKretire_answers
  | enc => exact execEnc_answers
  | dec => exact execDec_answers
  | ccmenc => exact execCcmenc_answers
  | ccmdec => exact execCcmdec_answers
  | cipNpurge => exact execCipNpurge_answers
  | zeroise => exact execZeroise_answers
  | keyParityFault => exact execKeyParityFault_answers
  | get => exact execGet_answers
  | raw => exact execRaw_answers
  | entropyReady => exact execEntropyReady_answers
  | healthFail => exact execHealthFail_answers
  | entropyRestart => exact execEntropyRestart_answers
  | snap => exact execSnap_answers
  | snapBegin => exact execSnapBegin_answers
  | snapEnd => exact execSnapEnd_answers
  | start => exact execStart_answers
  | stop => exact execStop_answers
  | meas => exact execMeas_answers
  | nav => exact execNav_answers
  | gnssNote => exact execGnssNote_answers
  | ferdy => exact execFerdy_answers
  | epochBoundary => exact execEpochBoundary_answers
  | navWord => exact execNavWord_answers
  | ppsPulse => exact execPpsPulse_answers
  | ppsEnable => exact execPpsEnable_answers
  | ppsFix => exact execPpsFix_answers
  | ppsAdj => exact execPpsAdj_answers
  | holdoverEntry => exact execHoldoverEntry_answers
  | tcxoFail => exact execTcxoFail_answers
  | tcxoReturn => exact execTcxoReturn_answers
  | sselFall => exact execSselFall_answers
  | nop => exact execNop_answers
  | write => exact execWrite_answers
  | read => exact execRead_answers
  | record => exact execRecord_answers
  | go => exact execGo_answers
  | frameDiscard => exact execFrameDiscard_answers
  | cspRecv => exact execCspRecv_answers
  | xfer => exact execXfer_answers
  | drop => exact execDrop_answers
  | cspSclr => exact execCspSclr_answers
  | lineEnable => exact execLineEnable_answers
  | search => exact execSearch_answers
  | check => exact execCheck_answers
  | tagRecv => exact execTagRecv_answers
  | presenceCheck => exact execPresenceCheck_answers
  | searchResume => exact execSearchResume_answers
  | searchPauseTimeout => exact execSearchPauseTimeout_answers
  | move => exact execMove_answers
  | endStop => exact execEndStop_answers
  | stall => exact execStall_answers
  | moveTimeout => exact execMoveTimeout_answers
  | brakeEnd => exact execBrakeEnd_answers
  | overcur => exact execOvercur_answers
  | vmotlow => exact execVmotlow_answers
  | tamperChip => exact execTamperChip_answers
  | tamperNoticeDesc => exact execTamperNoticeDesc_answers
  | loopRearm => exact execLoopRearm_answers
  | pinSet => exact execPinSet_answers
  | pinClr => exact execPinClr_answers
  | pinEdge => exact execPinEdge_answers
  | fetchFault => exact execFetchFault_answers
  | reservedKindFrame => exact execReservedKindFrame_answers
  | fobAttached => exact execFobAttached_answers
  | fobRemoved => exact execFobRemoved_answers
  | fllLocked => exact execFllLocked_answers

/-! ### Steps -/

/-- Every step answers. -/
theorem step_answers (s : State) : Answers s (step s) := by
  cases hp : s.pending with
  | nil =>
    rw [step_idle s hp]
    exact .ok fun h => h.steadyCycle
  | cons i r =>
    rw [step_front s i r hp]
    exact (exec_answers i _).after fun h => h.pending

end Sys2Proof.Machine

section
open Sys2Proof Sys2Proof.Machine

/-- Settles O3: whatever a command answers, `settle` has carried out the breach reset that it ordered. -/
theorem stepsKeepQuiet : Obligations.StepsKeepQuiet := by
  intro s u _ hu
  obtain ⟨v, hv, hq⟩ := (step_answers s).next
  cases hu.symm.trans hv
  exact hq

/-- Settles O4: every operation of the model keeps a sound state sound, so every step does. -/
theorem stepsKeepCanonical : Obligations.StepsKeepCanonical := by
  intro s u hc hb hu
  have h : u.Sound := (step_answers s).sound ⟨hc, hb⟩ hu
  exact ⟨h.canonical, h.books⟩

end

namespace Sys2Proof.Machine

/-! ## The steady cycle with nothing to do -/

variable (s : State)

/-- A steady cycle as it begins: one more cycle of the fraction, and no overflow is this cycle's (08 R337). -/
def State.cycleBegun : State :=
  { s with time := { s.time with cyc := s.time.cyc + 1 }, cnt := s.cnt.map (fun p => { p with wrapped := false }) }

theorem State.steadyCycle_stopped (h : s.fllRuns = false) : s.steadyCycle = s := by simp [State.steadyCycle, h]

theorem State.steadyCycle_runs (h : s.fllRuns = true) :
    s.steadyCycle = ((s.cycleBegun.srcEdges 2 (fun _ => true)).flashCycle.cipContinue).outGo := by
  simp only [State.steadyCycle, h, if_true]
  rfl

theorem State.counterCounts_cycleBegun (n : Fin 8) : s.cycleBegun.counterCounts n = s.counterCounts n := by
  have hp : (s.cycleBegun.pre n).stopped = (s.pre n).stopped := by simp [State.cycleBegun, State.pre, vget]
  simp only [State.counterCounts, hp]
  rfl

theorem State.sourceEdge_idle (n : Fin 8) (h : s.counterCounts n = false) : s.sourceEdge n = s := by simp [State.sourceEdge, h]

/-- An edge that reaches no counter that counts changes nothing. -/
theorem State.srcEdges_idle (src : Nat) (p : Fin 8 → Bool) (h : ∀ n, s.counterCounts n = true → s.fld (F.CNT_CTL_SRC n.val) ≠ src) :
    s.srcEdges src p = s := by
  unfold State.srcEdges
  refine List.foldlRecOn (motive := fun u => u = s) _ _ rfl fun u hu n hn => ?_
  rw [hu]
  have hsrc : s.fld (F.CNT_CTL_SRC n.val) = src := by
    obtain ⟨-, hn⟩ := List.mem_filter.mp hn
    simp only [Bool.and_eq_true, beq_iff_eq] at hn
    exact hn.1
  exact State.sourceEdge_idle _ n (Bool.eq_false_iff.mpr fun hc => h n hc hsrc)

theorem State.flashCycle_idle (h : s.flash.op = none) : s.flashCycle = s := by
  have ha : s.flashActive = none := by simp [State.flashActive, State.flashRunning, h]
  simp [State.flashCycle, ha]

theorem State.cipContinue_idle (h : s.cip.waiting = none) : s.cipContinue = s := by simp [State.cipContinue, h]
theorem State.outGo_idle (h : s.gnss.out = []) : s.outGo = s := by simp [State.outGo, h]

/-- A steady cycle in which no counter counts the steady clock and nothing waits to go on (log 6). -/
theorem State.steadyCycle_idle (hf : s.fllRuns = true) (hc : ∀ n, s.counterCounts n = true → s.fld (F.CNT_CTL_SRC n.val) ≠ 2)
    (ho : s.flash.op = none) (hw : s.cip.waiting = none) (hg : s.gnss.out = []) : s.steadyCycle = s.cycleBegun := by
  have he : s.cycleBegun.srcEdges 2 (fun _ => true) = s.cycleBegun :=
    State.srcEdges_idle _ _ _ fun n hn => hc n (s.counterCounts_cycleBegun n ▸ hn)
  rw [s.steadyCycle_runs hf, he, s.cycleBegun.flashCycle_idle ho, s.cycleBegun.cipContinue_idle hw, s.cycleBegun.outGo_idle hg]

end Sys2Proof.Machine

section
open Sys2Proof Sys2Proof.Machine

/-- Settles O2: every command answers by the lemma of its own meaning; the steady cycle is followed operation by operation. -/
theorem everyCommandAnswersNext : Obligations.EveryCommandAnswersNext := by
  refine ⟨fun i s => (exec_answers i s).next, fun s hp hq => ⟨step_idle s hp, fun hf => ?_, fun hf hc ho hw hg => ?_⟩⟩
  · rw [step_idle s hp, s.steadyCycle_stopped hf]
    exact ok_of s hq
  · rw [step_idle s hp, s.steadyCycle_idle hf hc ho hw hg]
    exact ok_of _ hq

end

namespace Sys2Proof.Machine

/-! ## Accounts and windows: reads after writes, postings that keep an account sound -/

section
variable (s : State)

@[simp] theorem State.acct_setAcct_self (i : Nat) (a : Account) : (s.setAcct i a).acct i = a := by simp [State.acct, State.setAcct]
theorem State.win_setWin (i : Nat) (w : Window) : (s.setWin i w).win i = if w.isOpen then w else Window.none := by simp [State.win, State.setWin]
theorem State.win_setWin_open {i : Nat} {w : Window} (h : w.isOpen = true) : (s.setWin i w).win i = w := by simp [s.win_setWin, h]
@[simp] theorem State.acct_setWin (i k : Nat) (w : Window) : (s.setWin i w).acct k = s.acct k := rfl
@[simp] theorem State.win_setAcct (i k : Nat) (a : Account) : (s.setAcct i a).win k = s.win k := rfl
@[simp] theorem State.parity_setWin (i : Nat) (w : Window) : (s.setWin i w).ledger.parity = s.ledger.parity := rfl
@[simp] theorem State.parity_setAcct (i : Nat) (a : Account) : (s.setAcct i a).ledger.parity = s.ledger.parity := rfl
@[simp] theorem State.resetDue_setWin (i : Nat) (w : Window) : (s.setWin i w).ledger.resetDue = s.ledger.resetDue := rfl
@[simp] theorem State.resetDue_setAcct (i : Nat) (a : Account) : (s.setAcct i a).ledger.resetDue = s.ledger.resetDue := rfl
@[simp] theorem State.acctAbsent_setWin (i k : Nat) (w : Window) : (s.setWin i w).acctAbsent k = s.acctAbsent k := rfl
@[simp] theorem State.acctAbsent_setAcct (i k : Nat) (a : Account) : (s.setAcct i a).acctAbsent k = s.acctAbsent k := rfl

theorem Account.sound_iff (a : Account) (w : Window) : a.sound w = true ↔ a.g = a.r + a.h + a.f ∧ (a.f = 0 ∨ w.isOpen = true) := by
  simp [Account.sound]

theorem Account.fits_iff (a : Account) : a.fits = true ↔ a.g < 2 ^ 32 ∧ a.r < 2 ^ 32 ∧ a.h < 2 ^ 32 ∧ a.f < 2 ^ 32 := by
  simp [Account.fits, and_assoc]

/-- An account that is there, passes its parity check, is in balance and has a window open: any posting that keeps the sum is made on it. -/
structure State.Postable (i : Nat) : Prop where
  here : s.acctAbsent i = false
  parity : s.ledger.parity = []
  grant : (s.acct i).g < 2 ^ 32
  balance : (s.acct i).g = (s.acct i).r + (s.acct i).h + (s.acct i).f
  window : (s.win i).isOpen = true

variable {s}

/-- A posting that keeps the grant and the sum of a postable account replaces the account and does nothing else (01 R26). -/
theorem State.Postable.posted_eq {i : Nat} {f : Account → Option Account} {a : Account} (h : s.Postable i) (hf : f (s.acct i) = some a)
    (hg : a.g = (s.acct i).g) (hb : a.g = a.r + a.h + a.f) : s.posted i f = s.setAcct i a := by
  have hfit : a.fits = true := by
    have := h.grant
    rw [Account.fits_iff]
    omega
  exact s.posted_sound i f a h.here hf hfit (by simp [h.parity, nsMem]) ((Account.sound_iff _ _).mpr ⟨hb, Or.inr h.window⟩)

/-- A crossing requested moves a unit from R to F (01 Table 1.2). -/
theorem State.Postable.posted_fly {i : Nat} (h : s.Postable i) (hr : 1 ≤ (s.acct i).r) :
    s.posted i (Account.fly 1) = s.setAcct i { s.acct i with r := (s.acct i).r - 1, f := (s.acct i).f + 1 } := by
  have := h.balance
  exact h.posted_eq (by simp [Account.fly, hr]) rfl (by dsimp only; omega)

/-- A crossing acknowledged moves it back (01 Table 1.2). -/
theorem State.Postable.posted_land {i : Nat} (h : s.Postable i) (hf : 1 ≤ (s.acct i).f) :
    s.posted i (Account.land 1) = s.setAcct i { s.acct i with r := (s.acct i).r + 1, f := (s.acct i).f - 1 } := by
  have := h.balance
  refine h.posted_eq (by simp [Account.land, hf]) rfl (by dsimp only; omega)

/-- A check finds nothing on an account in balance with no unit in flight. -/
theorem State.check_still {i : Nat} (hp : s.ledger.parity = []) (hb : (s.acct i).g = (s.acct i).r + (s.acct i).h + (s.acct i).f)
    (hf : (s.acct i).f = 0) : s.check i = s :=
  s.check_sound i (by simp [hp, nsMem]) ((Account.sound_iff _ _).mpr ⟨hb, Or.inl hf⟩)

/-! ## Crossings -/

/-- The account of a crossing (01 Table 1.1). -/
def crossAcct (sp d : Nat) : Nat := 0x40 + 2 * sp + d

/-- A window as a crossing is requested on it. -/
def Window.request (w : Window) (now : Nat) : Window := { w with span := 1, spanAt := now }

/-- A window as its crossing is over. -/
def Window.acknowledge (w : Window) : Window := { w with span := 0, spanAt := 0, spanAged := false }

/-- The state with a request at a span of the steady island counted as arrived, where it is one (02 R73). -/
def State.arriveAt (s : State) (sp : Nat) : State := if (spanEnds sp).contains .steady then s.arrive else s

/-- A request presented on a sound account that has R ≥ 1: one unit goes from R to F, and the SPAN window opens (02 R65). -/
theorem State.presentSpan_eq {sp d : Nat} (h : (s.setWin (crossAcct sp d) ((s.win (crossAcct sp d)).request s.now)).Postable (crossAcct sp d))
    (hr : 1 ≤ (s.acct (crossAcct sp d)).r) :
    s.presentSpan sp d = ((s.setWin (crossAcct sp d) ((s.win (crossAcct sp d)).request s.now)).setAcct (crossAcct sp d)
      { s.acct (crossAcct sp d) with r := (s.acct (crossAcct sp d)).r - 1, f := (s.acct (crossAcct sp d)).f + 1 }).arriveAt sp := by
  rw [← State.acct_setWin s _ _ _, ← h.posted_fly hr]
  rfl

theorem State.mayPresent_iff (sp d : Nat) : s.mayPresent sp d = true ↔
    s.spanUp sp = true ∧ s.destQuiesces sp d = false ∧ (s.win (crossAcct sp d)).span = 0 ∧ 1 ≤ (s.acct (crossAcct sp d)).r ∧
      s.acctAbsent (crossAcct sp d) = false := by
  simp [State.mayPresent, crossAcct, and_assoc]

/-- A request toward a quiescing island, or behind one that is held, is held (02 R85, R86). -/
theorem State.spanRequest_held {sp d : Nat} (hon : s.on = true) (h : s.destQuiesces sp d = true ∨ (sp, d) ∈ s.power.heldReq) :
    s.spanRequest sp d = { s with power := { s.power with heldReq := s.power.heldReq ++ [(sp, d)] } } := by
  have : (s.destQuiesces sp d || s.power.heldReq.contains (sp, d)) = true := by simpa using h
  simp only [State.spanRequest, hon, this, Bool.not_true, Bool.false_eq_true, if_false, if_true]

/-- Any other is presented where it may be, and not made where it may not. -/
theorem State.spanRequest_passes {sp d : Nat} (hd : s.destQuiesces sp d = false) (hh : (sp, d) ∉ s.power.heldReq) :
    s.spanRequest sp d = if s.on = true ∧ s.mayPresent sp d = true then s.presentSpan sp d else s := by
  cases hon : s.on <;> simp [State.spanRequest, hon, hd, hh]

/-- Where one request is held and it may be presented, it is (02 R86). -/
theorem State.presentHeld_one {sp d : Nat} (h : s.power.heldReq = [(sp, d)]) (hm : s.mayPresent sp d = true) :
    s.presentHeld = State.presentSpan { s with power := { s.power with heldReq := [] } } sp d := by
  have hm' : State.mayPresent { s with power := { s.power with heldReq := [] } } sp d = true := hm
  simp only [State.presentHeld, h, List.foldl_cons, List.foldl_nil, hm', if_true]

theorem State.presentHeld_none (h : s.power.heldReq = []) : s.presentHeld = s := by
  simp only [State.presentHeld, h, List.foldl_nil]
  rw [← h]

/-- An acknowledged crossing is over: its unit is back in R and its window closed (02 R707). -/
def State.acknowledged (s : State) (i : Nat) : State :=
  (s.setAcct i { s.acct i with r := (s.acct i).r + 1, f := 0 }).setWin i (s.win i).acknowledge

/-- The one crossing under way on a sound account is acknowledged; held requests are then presented. -/
theorem execSpanAcknowledge_eq {sp : Fin 7} {rev : Bool} {i : Nat} (hi : i = crossAcct sp.val (if rev then 1 else 0)) (h : s.Postable i)
    (hw : (s.win i).span = 1) (hf : (s.acct i).f = 1) : execSpanAcknowledge sp rev s = ok (s.acknowledged i).presentHeld := by
  subst hi
  have hpost := h.posted_land (by omega)
  have hbal := h.balance
  rw [hf] at hpost
  have hcheck : (s.acknowledged (crossAcct sp.val (if rev then 1 else 0))).check (crossAcct sp.val (if rev then 1 else 0)) =
      s.acknowledged (crossAcct sp.val (if rev then 1 else 0)) := by
    refine State.check_still h.parity ?_ ?_
    · simp only [State.acknowledged, State.acct_setWin, State.acct_setAcct_self]
      omega
    · simp only [State.acknowledged, State.acct_setWin, State.acct_setAcct_self]
  have hspan : ¬ (s.win (0x40 + 2 * sp.val + if rev then 1 else 0)).span = 0 := by
    rw [show 0x40 + 2 * sp.val + (if rev then 1 else 0) = crossAcct sp.val (if rev then 1 else 0) from rfl, hw]
    decide
  simp only [execSpanAcknowledge, hspan, if_false]
  rw [show 0x40 + 2 * sp.val + (if rev then 1 else 0) = crossAcct sp.val (if rev then 1 else 0) from rfl, hpost]
  exact congrArg (fun u : State => ok u.presentHeld) hcheck

end
end Sys2Proof.Machine

namespace Sys2Proof.Machine

variable {s : State}

theorem Window.isOpen_of_span {w : Window} (h : w.span = 1) : w.isOpen = true := by simp [Window.isOpen, h]

/-- A sound account can be posted to once its SPAN window is open. -/
theorem State.postable_request {i : Nat} (here : s.acctAbsent i = false) (hp : s.ledger.parity = []) (hg : (s.acct i).g < 2 ^ 32)
    (hb : (s.acct i).g = (s.acct i).r + (s.acct i).h + (s.acct i).f) : (s.setWin i ((s.win i).request s.now)).Postable i where
  here := here
  parity := hp
  grant := hg
  balance := hb
  window := by
    rw [s.win_setWin_open rfl]
    rfl

/-! A request that arrives at the steady island changes the power controller only. -/

theorem State.arriveAt_eq (s : State) (sp : Nat) :
    s.arriveAt sp = if Island.steady ∈ spanEnds sp ∧ s.pstate = 2 then { s with power := { s.power with arrived := true } } else s := by
  by_cases h : Island.steady ∈ spanEnds sp <;> simp [State.arriveAt, State.arrive, h]

theorem State.arriveAt_frame (s : State) (sp : Nat) : ∃ p, p.heldReq = s.power.heldReq ∧ s.arriveAt sp = { s with power := p } := by
  rw [s.arriveAt_eq]
  split
  · exact ⟨{ s.power with arrived := true }, rfl, rfl⟩
  · exact ⟨s.power, rfl, rfl⟩

@[simp] theorem State.arriveAt_ledger (s : State) (sp : Nat) : (s.arriveAt sp).ledger = s.ledger := by
  obtain ⟨p, -, h⟩ := s.arriveAt_frame sp
  rw [h]

/-- Nothing but the accounts with their windows and the power controller differs. -/
def State.LedgerPowerOnly (s u : State) : Prop := ∃ l p, u = { s with ledger := l, power := p }

theorem State.LedgerPowerOnly.eq {u : State} : s.LedgerPowerOnly u → u = { s with ledger := u.ledger, power := u.power } := by
  rintro ⟨l, p, rfl⟩
  rfl

theorem State.LedgerPowerOnly.refl (s : State) : s.LedgerPowerOnly s := ⟨s.ledger, s.power, rfl⟩

theorem State.LedgerPowerOnly.setAcct {u : State} (i : Nat) (a : Account) : s.LedgerPowerOnly u → s.LedgerPowerOnly (u.setAcct i a) := by
  rintro ⟨l, p, rfl⟩
  exact ⟨_, p, rfl⟩

theorem State.LedgerPowerOnly.setWin {u : State} (i : Nat) (w : Window) : s.LedgerPowerOnly u → s.LedgerPowerOnly (u.setWin i w) := by
  rintro ⟨l, p, rfl⟩
  exact ⟨_, p, rfl⟩

theorem State.LedgerPowerOnly.setPower {u : State} (q : Power) : s.LedgerPowerOnly u → s.LedgerPowerOnly { u with power := q } := by
  rintro ⟨l, p, rfl⟩
  exact ⟨l, q, rfl⟩

/-- The state with no request held. -/
def State.unheld (s : State) : State := { s with power := { s.power with heldReq := [] } }

/-- The request that was held for an acknowledged crossing is presented: the account is as it was, in flight again from now (02 R86). -/
theorem State.acknowledged_presented {sp d : Nat} (h : s.Postable (crossAcct sp d)) (hf : (s.acct (crossAcct sp d)).f = 1)
    (hheld : s.power.heldReq = [(sp, d)]) (hup : s.spanUp sp = true) (hd : s.destQuiesces sp d = false) :
    ∃ u, (s.acknowledged (crossAcct sp d)).presentHeld = u ∧ u.acct (crossAcct sp d) = s.acct (crossAcct sp d) ∧
      (u.win (crossAcct sp d)).span = 1 ∧ (u.win (crossAcct sp d)).spanAt = s.now ∧ u.power.heldReq = [] ∧
      u.ledger.resetDue = s.ledger.resetDue ∧ u = { s with ledger := u.ledger, power := u.power } := by
  obtain ⟨here, hp, hg, hb, hopen⟩ := h
  have hwin : ((s.acknowledged (crossAcct sp d)).win (crossAcct sp d)).span = 0 := by
    rw [State.acknowledged, State.win_setWin]
    split <;> rfl
  have hacct : (s.acknowledged (crossAcct sp d)).acct (crossAcct sp d) =
      { s.acct (crossAcct sp d) with r := (s.acct (crossAcct sp d)).r + 1, f := 0 } := by
    rw [State.acknowledged, State.acct_setWin, State.acct_setAcct_self]
  have hm : (s.acknowledged (crossAcct sp d)).mayPresent sp d = true := by
    rw [State.mayPresent_iff, hacct]
    exact ⟨hup, hd, hwin, by dsimp only; omega, here⟩
  have hback : (⟨(s.acct (crossAcct sp d)).g, (s.acct (crossAcct sp d)).r + 1 - 1, (s.acct (crossAcct sp d)).h, 0 + 1⟩ : Account) =
      s.acct (crossAcct sp d) := by
    rw [Nat.add_sub_cancel, Nat.zero_add, ← hf]
  have hpost := State.postable_request (s := (s.acknowledged (crossAcct sp d)).unheld) (i := crossAcct sp d) here hp
    ((congrArg Account.g hacct).trans_lt hg) (by
      rw [show (s.acknowledged (crossAcct sp d)).unheld.acct (crossAcct sp d) = _ from hacct]
      dsimp only
      omega)
  have hpres := State.presentSpan_eq hpost ((congrArg Account.r hacct).ge.trans' (Nat.le_add_left 1 _))
  rw [show (s.acknowledged (crossAcct sp d)).unheld.acct (crossAcct sp d) = _ from hacct] at hpres
  dsimp only at hpres
  rw [hback] at hpres
  have hheld' : (s.acknowledged (crossAcct sp d)).power.heldReq = [(sp, d)] := hheld
  have honly : s.LedgerPowerOnly (s.acknowledged (crossAcct sp d)).unheld :=
    (((State.LedgerPowerOnly.refl s).setAcct _ _).setWin _ _).setPower _
  have hdue : (s.acknowledged (crossAcct sp d)).unheld.ledger.resetDue = s.ledger.resetDue := rfl
  have hempty : (s.acknowledged (crossAcct sp d)).unheld.power.heldReq = [] := rfl
  have hnow : (s.acknowledged (crossAcct sp d)).unheld.now = s.now := rfl
  refine ⟨_, (State.presentHeld_one hheld' hm).trans hpres, ?_⟩
  generalize (s.acknowledged (crossAcct sp d)).unheld = v at honly hdue hempty hnow ⊢
  obtain ⟨p, hpheld, hpeq⟩ := State.arriveAt_frame
    ((v.setWin (crossAcct sp d) ((v.win (crossAcct sp d)).request v.now)).setAcct (crossAcct sp d) (s.acct (crossAcct sp d))) sp
  have hwin' : State.win ((v.setWin (crossAcct sp d) ((v.win (crossAcct sp d)).request v.now)).setAcct (crossAcct sp d) (s.acct (crossAcct sp d)))
      (crossAcct sp d) = (v.win (crossAcct sp d)).request v.now := by
    rw [State.win_setAcct, v.win_setWin_open rfl]
  rw [hpeq]
  exact ⟨State.acct_setAcct_self _ _ _, congrArg Window.span hwin', (congrArg Window.spanAt hwin').trans hnow, hpheld.trans hempty, hdue,
    (((honly.setWin _ _).setAcct _ _).setPower p).eq⟩

end Sys2Proof.Machine

section
open Sys2Proof Sys2Proof.Machine

/-- Settles O26: each of the two postings of a crossing keeps a sound account sound, so it does what its term says and no more. -/
theorem crossingsConserveAccounts : Obligations.CrossingsConserveAccounts := by
  intro s sp rev hq hp i a w d held free here hfit hbal
  have hg : a.g < 2 ^ 32 := ((Account.fits_iff _).mp hfit).1
  refine ⟨fun hon hfree hnot hwin hr => ?_, fun hon hheld => ?_, fun hdown hd hnot => ?_, fun hwin hf hnone => ?_, fun hwin hf hone hfree => ?_⟩
  · have hm : s.mayPresent sp.val d = true := (s.mayPresent_iff _ _).mpr ⟨hfree.1, hfree.2, hwin, hr, here⟩
    have hx : s.spanRequest sp.val d = s.presentSpan sp.val d := by rw [State.spanRequest_passes hfree.2 hnot, if_pos ⟨hon, hm⟩]
    have hw : (s.setWin i (w.request s.now)).Postable i := State.postable_request here hp hg hbal
    rw [exec_spanRequest, execSpanRequest, hx, State.presentSpan_eq hw hr, ok_of _ (by rw [State.arriveAt_ledger]; exact hq), State.arriveAt_eq]
    rfl
  · rw [exec_spanRequest, execSpanRequest, State.spanRequest_held hon hheld]
    exact ok_of _ hq
  · have hm : s.mayPresent sp.val d ≠ true := fun h => by simp [((s.mayPresent_iff _ _).mp h).1] at hdown
    have hx : s.spanRequest sp.val d = s := by rw [State.spanRequest_passes hd hnot, if_neg fun h => hm h.2]
    rw [exec_spanRequest, execSpanRequest, hx]
    exact ok_of _ hq
  · have hpost : s.Postable i := ⟨here, hp, hg, hbal, Window.isOpen_of_span hwin⟩
    have hnone' : (s.acknowledged i).power.heldReq = [] := hnone
    rw [exec_spanAcknowledge, execSpanAcknowledge_eq rfl hpost hwin hf]
    exact (congrArg ok (State.presentHeld_none hnone')).trans (ok_of (s.acknowledged i) hq)
  · have hpost : s.Postable i := ⟨here, hp, hg, hbal, Window.isOpen_of_span hwin⟩
    obtain ⟨u, hu, hacct, hspan, hat, hreq, hdue, hframe⟩ := State.acknowledged_presented hpost hf hone hfree.1 hfree.2
    refine ⟨u, ?_, hacct, hspan, hat, hreq, hframe⟩
    rw [exec_spanAcknowledge, execSpanAcknowledge_eq rfl hpost hwin hf]
    exact (congrArg ok hu).trans (ok_of u (hdue.trans hq))

end

namespace Sys2Proof.Machine

/-! ## Records that carry a number already issued -/

section
variable (s : State)

theorem State.fld_of_reg {s u : State} {f : Fld} (h : u.reg f.addr = s.reg f.addr) : u.fld f = s.fld f := by rw [State.fld, h, State.fld]

theorem State.flag_of_reg {s u : State} {f : Fld} (h : u.reg f.addr = s.reg f.addr) : u.flag f = s.flag f := by
  rw [State.flag, State.fld_of_reg h, State.flag]

/-- A record with a number of its own writes no register but the thread's EVT_TOVF (01 R28; 05 R209). -/
theorem State.writeRecord_reg_numbered {a : Nat} (t : ThreadId) (bit code : Nat) (detail : Word) (stamp : BitVec 48) (n : Word)
    (h : a ≠ (F.EVT_TOVF_COUNT t.val).addr) : (s.writeRecord t bit code detail stamp (some n)).reg a = s.reg a := by
  simp only [State.writeRecord, Option.isSome_some, if_true, Option.getD_some]
  split
  · rfl
  · split
    · exact s.reg_setFld_ne _ _ _ h
    · obtain ⟨m, hm⟩ := State.pokes_frame (recordWords bit code detail stamp n) s
        ((vget s.evring t).base + (vget s.evring t).prod % (vget s.evring t).size * 16)
      rw [hm]
      rfl

theorem State.sendRecord_reg_numbered {a : Nat} (t : ThreadId) (bit code : Nat) (detail : Word) (stamp : BitVec 48) (n : Word)
    (h : a ≠ (F.EVT_TOVF_COUNT t.val).addr) : (s.sendRecord t bit code detail stamp (some n)).reg a = s.reg a := by
  simp only [State.sendRecord]
  split
  · exact s.writeRecord_reg_numbered t bit code detail stamp n h
  · rfl

theorem State.deliverSystem_reg_numbered {a : Nat} (t : ThreadId) (bits : Word) (bit code : Nat) (detail : Word) (stamp : BitVec 48)
    (n : Word) (h : a ≠ (F.EVT_TOVF_COUNT t.val).addr) : (s.deliverSystem t bits bit code detail stamp (some n)).reg a = s.reg a := by
  simp only [State.deliverSystem, State.deliver]
  split
  · exact s.sendRecord_reg_numbered t bit code detail stamp n h
  · split <;> exact State.sendRecord_reg_numbered _ t bit code detail stamp n h

@[simp] theorem State.reg_arrive (a : Nat) : s.arrive.reg a = s.reg a := by
  unfold State.arrive
  split <;> rfl

/-- System records with a number of their own write no register but EVT_TOVF. -/
theorem State.system_reg_numbered {a : Nat} (ts : List ThreadId) (code : Nat) (detail n : Word)
    (h : ∀ t : ThreadId, a ≠ (F.EVT_TOVF_COUNT t.val).addr) : (s.system ts code detail (some n)).reg a = s.reg a := by
  refine List.foldlRecOn (motive := fun u : State => u.reg a = s.reg a) ts _ ?_ fun u hu t _ =>
    (State.deliverSystem_reg_numbered u t _ _ _ _ _ _ (h t)).trans hu
  split <;> simp

/-! ## The first breach -/

/-- What a full 32-bit field is set to is what its register reads. -/
theorem fldPut_full (w : Word) (a v : Nat) : fldPut w ⟨a, 0, 32⟩ v = BitVec.ofNat 32 v := by
  refine BitVec.eq_of_getLsbD_eq fun j hj => ?_
  rw [fldPut_getLsbD, BitVec.getLsbD_ofNat]
  simp [hj]

theorem fldGet_full (w : Word) (a : Nat) : fldGet w ⟨a, 0, 32⟩ = w.toNat := by
  have := w.isLt
  simp only [fldGet]
  omega

theorem State.seqIssued_seq : s.seqIssued.reg F.LDG_SEQ_NEXT.addr = s.reg F.LDG_SEQ_NEXT.addr + 1 := by
  have hword : (s.setFld F.LDG_SEQ_NEXT (s.fld F.LDG_SEQ_NEXT + 1)).reg F.LDG_SEQ_NEXT.addr = s.reg F.LDG_SEQ_NEXT.addr + 1 := by
    rw [State.setFld, State.reg_setReg_self, State.fld, F.LDG_SEQ_NEXT, fldPut_full, fldGet_full, BitVec.ofNat_add, BitVec.ofNat_toNat,
      BitVec.setWidth_eq]
    rfl
  simp only [State.seqIssued]
  split
  · exact (State.reg_setFld_ne _ _ _ _ (by decide)).trans hword
  · exact hword

/-- The ledger's registers after a breach that is the first: its cause, its account and its number (01 R56). -/
def State.breachNoted (cause i : Nat) : State :=
  ((((s.setBit F.LDG_STAT_BREACH).setFld F.LDG_STAT_CAUSE cause).setFld F.LDG_STAT_ACCT i).seqIssued).setFld F.LDG_BRSEQ_SEQ s.seqNext.toNat

/-- The first breach with its records sent (01 R56). -/
def State.breachTold (cause i : Nat) : State :=
  (s.breachNoted cause i).system (maskThreads ((s.breachNoted cause i).fld F.LDG_ROUTE_TMASK)) 0x10 (s.breachNoted cause i).ldgStat (some s.seqNext)

theorem State.breach_first (cause i : Nat) (h : s.flag F.LDG_STAT_BREACH = false) :
    s.breach cause i = if (s.breachTold cause i).flag F.LDG_CTL_BRACT then (s.breachTold cause i).orderReset else s.breachTold cause i := by
  simp only [State.breach, h, Bool.false_eq_true, if_false]
  rfl

theorem State.breach_again (cause i : Nat) (h : s.flag F.LDG_STAT_BREACH = true) : s.breach cause i = s.setBit F.LDG_STAT_MULTI := by
  simp only [State.breach, h, if_true]

/-- What the first breach writes of the ledger's registers. -/
theorem State.breachNoted_writes (cause i : Nat) (hc : cause < 8) (hi : i < 256) :
    (s.breachNoted cause i).flag F.LDG_STAT_BREACH = true ∧ (s.breachNoted cause i).fld F.LDG_STAT_CAUSE = cause ∧
      (s.breachNoted cause i).fld F.LDG_STAT_ACCT = i ∧ (s.breachNoted cause i).reg F.LDG_BRSEQ_SEQ.addr = s.reg F.LDG_SEQ_NEXT.addr ∧
      (s.breachNoted cause i).reg F.LDG_SEQ_NEXT.addr = s.reg F.LDG_SEQ_NEXT.addr + 1 ∧
      SameRegs [F.LDG_STAT_BREACH.addr, F.LDG_SEQ_NEXT.addr, F.LDG_EPOCH_WRAPS.addr, F.LDG_BRSEQ_SEQ.addr] s (s.breachNoted cause i) := by
  have hstat : (s.breachNoted cause i).reg F.LDG_STAT_BREACH.addr =
      (((s.setBit F.LDG_STAT_BREACH).setFld F.LDG_STAT_CAUSE cause).setFld F.LDG_STAT_ACCT i).reg F.LDG_STAT_BREACH.addr := by
    rw [State.breachNoted, State.reg_setFld_ne _ _ _ _ (by decide), State.seqIssued_reg _ (by decide) (by decide)]
  refine ⟨?_, ?_, ?_, ?_, ?_, fun a ha => ?_⟩
  · rw [State.flag_of_reg hstat, State.flag, State.fld_setFld_other _ _ _ _ (by decide), State.fld_setFld_other _ _ _ _ (by decide)]
    exact s.flag_setBit_self _ (by simp [Fld.fits, F.LDG_STAT_BREACH]) (by decide)
  · rw [State.fld_of_reg (f := F.LDG_STAT_CAUSE) hstat, State.fld_setFld_other _ _ _ _ (by decide),
      State.fld_setFld_self _ _ _ (by simp [Fld.fits, F.LDG_STAT_CAUSE])]
    exact Nat.mod_eq_of_lt hc
  · rw [State.fld_of_reg (f := F.LDG_STAT_ACCT) hstat, State.fld_setFld_self _ _ _ (by simp [Fld.fits, F.LDG_STAT_ACCT])]
    exact Nat.mod_eq_of_lt hi
  · rw [State.breachNoted, State.setFld, State.reg_setReg_self, F.LDG_BRSEQ_SEQ, fldPut_full, BitVec.ofNat_toNat, BitVec.setWidth_eq]
    rfl
  · rw [State.breachNoted, State.reg_setFld_ne _ _ _ _ (by decide), State.seqIssued_seq, State.reg_setFld_ne _ _ _ _ (by decide),
      State.reg_setFld_ne _ _ _ _ (by decide)]
    exact congrArg (· + 1) (s.reg_setFld_ne _ _ _ (by decide))
  · simp only [List.mem_cons, List.not_mem_nil, or_false, not_or] at ha
    obtain ⟨h1, h2, h3, h4⟩ := ha
    rw [State.breachNoted, State.reg_setFld_ne _ _ _ _ h4, State.seqIssued_reg _ h2 h3, State.reg_setFld_ne _ F.LDG_STAT_ACCT _ _ h1,
      State.reg_setFld_ne _ F.LDG_STAT_CAUSE _ _ h1]
    exact s.reg_setFld_ne _ _ _ h1

/-- The ledger's own registers are none of the counts of lost records. -/
theorem ne_tovf {a : Nat} (h : a < 0x40004110) (t : ThreadId) : a ≠ (F.EVT_TOVF_COUNT t.val).addr := by
  simp only [F.EVT_TOVF_COUNT]
  omega

theorem State.breachTold_reg (cause i : Nat) {a : Nat} (h : a < 0x40004110) : (s.breachTold cause i).reg a = (s.breachNoted cause i).reg a :=
  State.system_reg_numbered _ _ _ _ _ (ne_tovf h)

@[simp] theorem State.breachNoted_ledger (cause i : Nat) : (s.breachNoted cause i).ledger = s.ledger := by
  obtain ⟨v, hv⟩ := State.seqIssued_frame (((s.setBit F.LDG_STAT_BREACH).setFld F.LDG_STAT_CAUSE cause).setFld F.LDG_STAT_ACCT i)
  rw [State.breachNoted, hv]
  rfl

@[simp] theorem State.breachTold_ledger (cause i : Nat) : (s.breachTold cause i).ledger = s.ledger := by
  rw [State.breachTold, State.system_ledger, State.breachNoted_ledger]

/-- A breach with no thread to tell changes registers only. -/
theorem State.breachTold_untold (cause i : Nat) (hc : cause < 8) (hi : i < 256) (h : s.fld F.LDG_ROUTE_TMASK = 0) :
    ∃ v, s.breachTold cause i = { s with live := v } := by
  obtain ⟨v, hv⟩ := State.seqIssued_frame (((s.setBit F.LDG_STAT_BREACH).setFld F.LDG_STAT_CAUSE cause).setFld F.LDG_STAT_ACCT i)
  have hmask : (s.breachNoted cause i).fld F.LDG_ROUTE_TMASK = 0 := by
    obtain ⟨-, -, -, -, -, hsame⟩ := s.breachNoted_writes cause i hc hi
    rw [State.fld_of_reg (hsame _ (by decide)), h]
  rw [State.breachTold, hmask, show maskThreads 0 = [] by decide, State.system_nil, State.breachNoted, hv]
  exact ⟨_, rfl⟩

/-- The first breach of a cause on an account as it is recorded: the registers it writes, and what it leaves (01 R56). -/
structure State.Breached (s u : State) (cause i : Nat) : Prop where
  breach : u.flag F.LDG_STAT_BREACH = true
  cause : u.fld F.LDG_STAT_CAUSE = cause
  acct : u.fld F.LDG_STAT_ACCT = i
  number : u.reg F.LDG_BRSEQ_SEQ.addr = s.reg F.LDG_SEQ_NEXT.addr
  next : u.reg F.LDG_SEQ_NEXT.addr = s.reg F.LDG_SEQ_NEXT.addr + 1
  accts : u.ledger.acct = s.ledger.acct
  wins : u.ledger.win = s.ledger.win
  calm : s.flag F.LDG_CTL_BRACT = false → u.ledger.resetDue = s.ledger.resetDue
  untold : s.fld F.LDG_ROUTE_TMASK = 0 → u.mem = s.mem ∧ u.threads = s.threads

theorem State.breachTold_breached (cause i : Nat) (hc : cause < 8) (hi : i < 256) : s.Breached (s.breachTold cause i) cause i := by
  obtain ⟨hb, hcause, hacct, hnum, hnext, -⟩ := s.breachNoted_writes cause i hc hi
  exact
    { breach := (State.flag_of_reg (s.breachTold_reg cause i (by decide))).trans hb
      cause := (State.fld_of_reg (s.breachTold_reg cause i (by decide))).trans hcause
      acct := (State.fld_of_reg (s.breachTold_reg cause i (by decide))).trans hacct
      number := (s.breachTold_reg cause i (by decide)).trans hnum
      next := (s.breachTold_reg cause i (by decide)).trans hnext
      accts := by rw [State.breachTold_ledger]
      wins := by rw [State.breachTold_ledger]
      calm := fun _ => by rw [State.breachTold_ledger]
      untold := fun h => by
        obtain ⟨v, hv⟩ := s.breachTold_untold cause i hc hi h
        rw [hv]
        exact ⟨rfl, rfl⟩ }

/-- What a state with a reset ordered is: the ledger only is another, and its accounts and windows are the same. -/
theorem State.orderReset_frame : ∃ b c, s.orderReset = { s with ledger := { s.ledger with resetHeld := b, resetDue := c } } := by
  simp only [State.orderReset]
  split
  · exact ⟨true, s.ledger.resetDue, rfl⟩
  · exact ⟨s.ledger.resetHeld, true, rfl⟩

theorem State.breachTold_bract (cause i : Nat) (hc : cause < 8) (hi : i < 256) :
    (s.breachTold cause i).flag F.LDG_CTL_BRACT = s.flag F.LDG_CTL_BRACT := by
  obtain ⟨-, -, -, -, -, hsame⟩ := s.breachNoted_writes cause i hc hi
  exact State.flag_of_reg ((s.breachTold_reg cause i (by decide)).trans (hsame _ (by decide)))

/-- A breach that is the first is recorded with its cause and account, whether it orders a reset or not. -/
theorem State.breach_breached (cause i : Nat) (hc : cause < 8) (hi : i < 256) (h : s.flag F.LDG_STAT_BREACH = false) :
    s.Breached (s.breach cause i) cause i := by
  have ht := s.breachTold_breached cause i hc hi
  rw [s.breach_first cause i h, s.breachTold_bract cause i hc hi]
  split
  · next hact =>
    obtain ⟨b, c, ho⟩ := (s.breachTold cause i).orderReset_frame
    rw [ho]
    exact { ht with calm := fun hoff => by simp [hoff] at hact }
  · exact ht

/-! ## The full reset of a breach -/

theorem smGet_drop {α : Type} (d : Nat → α) (p : Nat → Bool) (m : List (Nat × α)) {k : Nat} (h : p k = true) :
    smGet d (smDrop p m) k = d k := by
  induction m with
  | nil => rfl
  | cons q r ih =>
    by_cases hq : p q.1 = true
    · simpa [smDrop, hq] using ih
    · have hk : k ≠ q.1 := fun e => hq (e ▸ h)
      simpa [smDrop, hq, smGet, hk] using ih

theorem State.reg_resetRegs {p : Nat → Bool} {a : Nat} (h : p a = true) : (s.resetRegs p).reg a = resetWord a := smGet_drop _ _ _ h

theorem State.reg_foldl_setStg (l : List Nat) (b : Nat) : (l.foldl (fun acc a => acc.setStg a (acc.reg a)) s).reg b = s.reg b :=
  List.foldlRecOn (motive := fun u : State => u.reg b = s.reg b) l _ rfl fun _ h _ _ => h

theorem State.reg_fullReset (c : Cause) (a : Nat) : (s.fullReset c).reg a = (s.resetImages c).reg a := by
  simp only [State.fullReset, State.reg]

/-- What the full reset of a breach leaves in a register below the clocks': its reset word, where it is not kept, and PWR_RCAUSE written. -/
theorem State.reg_resetImages_breach {a : Nat} (ha : a < 0x40003000) :
    (s.resetImages .breach).reg a = ((s.resetRegs (fun a => !keptReg .breach a)).setFld F.PWR_RCAUSE_CAUSE 32).reg a := by
  have hne : ∀ b : Nat, 0x40003000 ≤ b → a ≠ b := fun b hb => by omega
  simp only [State.resetImages, Cause.power, Bool.false_eq_true, if_false, State.clrFld]
  rw [State.reg_setStg, State.reg_setStg, State.reg_setReg_ne _ _ (hne _ (by decide)), State.reg_setReg_ne _ _ (hne _ (by decide)),
    State.reg_foldl_setStg, State.reg_setFld_ne _ _ _ _ (hne _ (by decide)), State.reg_setFld_ne _ _ _ _ (hne _ (by decide)),
    State.reg_setFld_ne _ _ _ _ (hne _ (by decide)), Cause.mask]

theorem State.fullReset_breach_rcause : (s.fullReset .breach).fld F.PWR_RCAUSE_CAUSE = 32 := by
  rw [State.fld_of_reg ((s.reg_fullReset _ _).trans (s.reg_resetImages_breach (by decide))),
    State.fld_setFld_self _ _ _ (by simp [Fld.fits, F.PWR_RCAUSE_CAUSE])]
  rfl

theorem State.fullReset_breach_stat : (s.fullReset .breach).flag F.LDG_STAT_BREACH = false := by
  have h : (s.fullReset .breach).reg F.LDG_STAT_BREACH.addr = 0 := by
    rw [s.reg_fullReset, s.reg_resetImages_breach (by decide), State.reg_setFld_ne _ _ _ _ (by decide), State.reg_resetRegs _ (by decide)]
    decide
  rw [State.flag, State.fld, h]
  decide

theorem State.fullReset_pc (c : Cause) : ((s.fullReset c).thr 0).pc = 0 := by
  rfl

/-- A first breach with BRACT = 1 and no thread to tell has its full reset at once (01 R59). -/
theorem State.breach_resets (cause i : Nat) (hc : cause < 8) (hi : i < 256) (h : s.flag F.LDG_STAT_BREACH = false)
    (hmask : s.fld F.LDG_ROUTE_TMASK = 0) (hact : s.flag F.LDG_CTL_BRACT = true) :
    ∃ v l, s.breach cause i = { s with live := v, ledger := l } ∧ l.resetDue = true := by
  obtain ⟨v, hv⟩ := s.breachTold_untold cause i hc hi hmask
  have hreg := (s.breachTold_reg cause i (a := F.LDG_ROUTE_TMASK.addr) (by decide))
  obtain ⟨-, -, -, -, -, hsame⟩ := s.breachNoted_writes cause i hc hi
  have hwaits : (s.breachTold cause i).breachWaits = false := by
    rw [State.breachWaits, State.fld_of_reg (hreg.trans (hsame _ (by decide))), hmask, show maskThreads 0 = [] by decide, List.any_nil,
      Bool.and_false]
  rw [s.breach_first cause i h, s.breachTold_bract cause i hc hi, hact, if_pos rfl, State.orderReset, hwaits, hv]
  exact ⟨v, _, rfl, rfl⟩

end

/-! ## Sweeps and window ages -/

section
variable (s : State)

/-- An account passes its check: its word is sound, and so is its sum and window rule (01 R26, R55). -/
theorem State.sound_iff_holds (i : Nat) : (s.acct i).sound (s.win i) = true ↔
    (s.acct i).g = (s.acct i).r + (s.acct i).h + (s.acct i).f ∧ ((s.acct i).f = 0 ∨ (s.win i).isOpen = true) := Account.sound_iff _ _

/-- A check that finds something is a breach: with cause 1 for the word, with cause 3 for the sum or the window. -/
theorem State.check_bad (i : Nat) (h : nsMem s.ledger.parity i = true ∨ (s.acct i).sound (s.win i) = false) :
    s.check i = s.breach (if nsMem s.ledger.parity i then 1 else 3) i := by
  cases hp : nsMem s.ledger.parity i with
  | true => simp [State.check, hp]
  | false =>
    have hs : (s.acct i).sound (s.win i) = false := by simpa [hp] using h
    simp [State.check, hp, hs]

/-- The SPAN window is open beyond its age and not reported (01 Table 1.3). -/
def Window.spanOld (w : Window) (now : Nat) : Bool := 0 < w.span && 1 < now - w.spanAt && !w.spanAged
/-- The SLOT window is. -/
def Window.slotOld (w : Window) (now : Nat) : Bool := 0 < w.slot && 2048 < now - w.slotAt && !w.slotAged
/-- The QUIESCE window is. -/
def Window.quiesceOld (w : Window) (now : Nat) : Bool := w.quiesce && 65536 < now - w.quiesceAt && !w.quiesceAged

/-- Some window of an account is old. -/
def Window.old (w : Window) (now : Nat) : Bool := w.spanOld now || w.slotOld now || w.quiesceOld now

/-- An account's windows with the one that is reported marked: SPAN first, then SLOT, then QUIESCE (log 65). -/
def Window.marked (w : Window) (now : Nat) : Window :=
  if w.spanOld now then { w with spanAged := true } else if w.slotOld now then { w with slotAged := true } else { w with quiesceAged := true }

theorem Window.marked_isOpen {w : Window} {now : Nat} (h : w.old now = true) : (w.marked now).isOpen = true := by
  cases h1 : w.spanOld now with
  | true =>
    have : w.span ≠ 0 := fun h0 => by simp [Window.spanOld, h0] at h1
    simp [Window.marked, h1, Window.isOpen, this]
  | false =>
    cases h2 : w.slotOld now with
    | true =>
      have : w.slot ≠ 0 := fun h0 => by simp [Window.slotOld, h0] at h2
      simp [Window.marked, h1, h2, Window.isOpen, this]
    | false =>
      have : w.quiesce = true := by
        cases hq : w.quiesce
        · simp [Window.old, h1, h2, Window.quiesceOld, hq] at h
        · rfl
      simp [Window.marked, h1, h2, Window.isOpen, this]

theorem State.windowOld_eq (i : Nat) : s.windowOld i = if (s.win i).old s.now then some ((s.win i).marked s.now) else none := by
  have pos : ∀ k : Nat, (k != 0) = decide (0 < k) := fun k => by cases k <;> rfl
  have h : s.windowOld i = if (s.win i).spanOld s.now then some { s.win i with spanAged := true }
      else if (s.win i).slotOld s.now then some { s.win i with slotAged := true }
      else if (s.win i).quiesceOld s.now then some { s.win i with quiesceAged := true } else none := by
    simp only [State.windowOld, pos, Window.spanOld, Window.slotOld, Window.quiesceOld]
    rfl
  rw [h]
  cases h1 : (s.win i).spanOld s.now with
  | true => simp [Window.old, Window.marked, h1]
  | false =>
    cases h2 : (s.win i).slotOld s.now with
    | true => simp [Window.old, Window.marked, h1, h2]
    | false => simp [Window.old, Window.marked, h1, h2]

/-- WINDOW_AGE where nothing is old, or the account is an absent unit's. -/
theorem execWindowAge_none (n : Fin 192) (h : ¬ (s.acctAbsent n.val = false ∧ (s.win n.val).old s.now = true)) : execWindowAge n s = ok s := by
  simp only [execWindowAge, s.windowOld_eq]
  cases ho : (s.win n.val).old s.now
  · rfl
  · have : s.acctAbsent n.val = true := by simpa [ho] using h
    simp [this]

/-- WINDOW_AGE where a window is old: it is marked, and that is a breach (01 R50). -/
theorem execWindowAge_old (n : Fin 192) (hon : s.on = true) (ha : s.acctAbsent n.val = false) (ho : (s.win n.val).old s.now = true) :
    execWindowAge n s = ok ((s.setWin n.val ((s.win n.val).marked s.now)).breach 4 n.val) := by
  simp only [execWindowAge, s.windowOld_eq, ho, if_true, hon, ha, Bool.not_false, Bool.and_self]

/-- The state with a sweep at another account, or at none. -/
def State.setSweep (s : State) (o : Option Nat) : State := { s with ledger := { s.ledger with sweep := o } }

theorem State.reg_setSweep (o : Option Nat) (a : Nat) : (s.setSweep o).reg a = s.reg a := rfl

theorem State.quiet_setSweep {s : State} (h : s.quiet) (o : Option Nat) : (s.setSweep o).quiet := h

theorem State.quiet_setFld {s : State} (h : s.quiet) (f : Fld) (v : Nat) : (s.setFld f v).quiet := h

/-- A sweep at its account `k` goes on to the next, or ends after the last (01 R27). -/
def sweepAfter (k : Nat) : Option Nat := if k + 1 < acctList.length then some (k + 1) else none

/-- What the check of the sweep's account leaves: nothing is checked of an absent unit's (03 R129). -/
def State.sweepChecked (s : State) (i : Nat) : State := if s.acctAbsent i then s else s.check i

theorem execSweepAccountCheck_next {k : Nat} (hon : s.on = true) (hk : s.ledger.sweep = some k) (h : k + 1 < acctList.length) :
    execSweepAccountCheck s = ok ((s.sweepChecked (acctList.getD k 0)).setSweep (sweepAfter k)) := by
  simp only [execSweepAccountCheck, hk, hon, Bool.not_true, Bool.false_eq_true, if_false, h, if_true, State.setSweep, sweepAfter, State.sweepChecked]

theorem execSweepAccountCheck_last {k : Nat} (hon : s.on = true) (hk : s.ledger.sweep = some k) (h : ¬ k + 1 < acctList.length) :
    execSweepAccountCheck s = ok (((s.sweepChecked (acctList.getD k 0)).setSweep (sweepAfter k)).setFld F.LDG_SWEEPS_COUNT
      ((s.sweepChecked (acctList.getD k 0)).fld F.LDG_SWEEPS_COUNT + 1)) := by
  simp only [execSweepAccountCheck, hk, hon, Bool.not_true, Bool.false_eq_true, if_false, h, State.setSweep, sweepAfter, State.sweepChecked]

theorem acctList_lt {i : Nat} (h : i ∈ acctList) : i < 192 := by
  simpa using (List.mem_filter.mp h).1

variable {s}

theorem State.Breached.setSweep {u : State} {cause i : Nat} (o : Option Nat) (h : s.Breached u cause i) : s.Breached (u.setSweep o) cause i where
  breach := (State.flag_of_reg (u.reg_setSweep o _)).trans h.breach
  cause := (State.fld_of_reg (u.reg_setSweep o _)).trans h.cause
  acct := (State.fld_of_reg (u.reg_setSweep o _)).trans h.acct
  number := (u.reg_setSweep o _).trans h.number
  next := (u.reg_setSweep o _).trans h.next
  accts := h.accts
  wins := h.wins
  calm := h.calm
  untold := h.untold

theorem State.Breached.counted {u : State} {cause i : Nat} (v : Nat) (h : s.Breached u cause i) :
    s.Breached (u.setFld F.LDG_SWEEPS_COUNT v) cause i where
  breach := (State.flag_of_reg (u.reg_setFld_ne _ _ _ (by decide))).trans h.breach
  cause := (u.fld_setFld_reg _ _ _ (by decide)).trans h.cause
  acct := (u.fld_setFld_reg _ _ _ (by decide)).trans h.acct
  number := (u.reg_setFld_ne _ _ _ (by decide)).trans h.number
  next := (u.reg_setFld_ne _ _ _ (by decide)).trans h.next
  accts := h.accts
  wins := h.wins
  calm := h.calm
  untold := h.untold

/-- A command whose effect is a state in which a breach is recorded. -/
theorem State.Breached.effect {u : State} {cause n : Nat} {i : Instr} {P : State → Prop} (h : s.Breached u cause n) (hi : exec i s = ok u)
    (hP : P u) : Effect i s P :=
  ⟨u, hi, hP, fun ⟨hq, hact, _⟩ => hi.trans (ok_of u ((h.calm hact).trans hq))⟩

end
end Sys2Proof.Machine

namespace Sys2Proof.Machine

/-! ## The view of an account -/

section
variable (s : State)

/-- The terms that LDG_SEL shows of an account (01 R20). -/
def State.shown (i : Nat) : Account := if acctListed i && !s.acctAbsent i then s.acct i else ⟨0, 0, 0, 0⟩

theorem State.shown_fits (i : Nat) (h : (s.acct i).fits = true) : (s.shown i).fits = true := by
  unfold State.shown
  split
  · exact h
  · rfl

/-- The word of LDG_WIN: its window bits and the age of the oldest (01 R52). -/
def winWord (w : Window) (age : Nat) : Word :=
  BitVec.ofNat 32 ((if w.span != 0 then 1 else 0) + (if w.slot != 0 then 2 else 0) + (if w.quiesce then 4 else 0) + min 0xFFFF age * 0x10000)

theorem winWord_toNat (w : Window) (age : Nat) : (winWord w age).toNat =
    (if w.span != 0 then 1 else 0) + (if w.slot != 0 then 2 else 0) + (if w.quiesce then 4 else 0) + min 0xFFFF age * 0x10000 := by
  rw [winWord, BitVec.toNat_ofNat]
  refine Nat.mod_eq_of_lt ?_
  split <;> split <;> split <;> omega

/-- Each field of LDG_WIN reads its own part of the word. -/
theorem winWord_fields (w : Window) (age : Nat) : (fldGet (winWord w age) F.LDG_WIN_SPAN != 0) = (w.span != 0) ∧
    (fldGet (winWord w age) F.LDG_WIN_SLOT != 0) = (w.slot != 0) ∧ (fldGet (winWord w age) F.LDG_WIN_QUIESCE != 0) = w.quiesce ∧
    fldGet (winWord w age) F.LDG_WIN_AGE = min 0xFFFF age := by
  simp only [fldGet, winWord_toNat, F.LDG_WIN_SPAN, F.LDG_WIN_SLOT, F.LDG_WIN_QUIESCE, F.LDG_WIN_AGE]
  cases h1 : w.span != 0 <;> cases h2 : w.slot != 0 <;> cases h3 : w.quiesce <;>
    simp only [Bool.false_eq_true, if_true, if_false, bne_iff_ne, bne_eq_false_iff_eq, ne_eq] <;> omega

/-- The view as it is captured, one register after another. -/
theorem State.ldgSel_eq (i : Nat) : s.ldgSel i = (((((s.setFld F.LDG_SEL_ACCT i).setFld F.LDG_GRANT_G (s.shown i).g).setFld F.LDG_RETURNED_R
    (s.shown i).r).setFld F.LDG_HELD_H (s.shown i).h).setFld F.LDG_FLIGHT_F (s.shown i).f).setReg F.LDG_WIN_SPAN.addr
      (winWord (s.win i) (s.winAge i)) := by
  have h : (if s.acctAbsent i || !acctListed i then Account.zero else s.acct i) = s.shown i := by
    unfold State.shown
    cases s.acctAbsent i <;> cases acctListed i <;> rfl
  simp only [State.ldgSel, h]
  rfl

/-- Each register of the view shows its term (01 Table 1.9). -/
theorem State.ldgSel_terms {i : Nat} (hi : i < 256) (h : (s.acct i).fits = true) :
    (s.ldgSel i).fld F.LDG_SEL_ACCT = i ∧ (s.ldgSel i).fld F.LDG_GRANT_G = (s.shown i).g ∧ (s.ldgSel i).fld F.LDG_RETURNED_R = (s.shown i).r ∧
      (s.ldgSel i).fld F.LDG_HELD_H = (s.shown i).h ∧ (s.ldgSel i).fld F.LDG_FLIGHT_F = (s.shown i).f := by
  obtain ⟨hg, hr, hh, hf⟩ := (Account.fits_iff _).mp (s.shown_fits i h)
  have past : ∀ (u : State) (v : Word) (f : Fld), f.addr ≠ F.LDG_WIN_SPAN.addr → (u.setReg F.LDG_WIN_SPAN.addr v).fld f = u.fld f :=
    fun u v f hne => State.fld_of_reg (u.reg_setReg_ne _ hne)
  rw [s.ldgSel_eq, past _ _ _ (by decide), past _ _ _ (by decide), past _ _ _ (by decide), past _ _ _ (by decide), past _ _ _ (by decide)]
  refine ⟨?_, ?_, ?_, ?_, ?_⟩
  · rw [State.fld_setFld_reg _ _ _ _ (by decide), State.fld_setFld_reg _ _ _ _ (by decide), State.fld_setFld_reg _ _ _ _ (by decide),
      State.fld_setFld_reg _ _ _ _ (by decide), s.fld_setFld_self _ _ (by simp [Fld.fits, F.LDG_SEL_ACCT])]
    exact Nat.mod_eq_of_lt hi
  · rw [State.fld_setFld_reg _ _ _ _ (by decide), State.fld_setFld_reg _ _ _ _ (by decide), State.fld_setFld_reg _ _ _ _ (by decide),
      State.fld_setFld_self _ _ _ (by simp [Fld.fits, F.LDG_GRANT_G])]
    exact Nat.mod_eq_of_lt hg
  · rw [State.fld_setFld_reg _ _ _ _ (by decide), State.fld_setFld_reg _ _ _ _ (by decide),
      State.fld_setFld_self _ _ _ (by simp [Fld.fits, F.LDG_RETURNED_R])]
    exact Nat.mod_eq_of_lt hr
  · rw [State.fld_setFld_reg _ _ _ _ (by decide), State.fld_setFld_self _ _ _ (by simp [Fld.fits, F.LDG_HELD_H])]
    exact Nat.mod_eq_of_lt hh
  · rw [State.fld_setFld_self _ _ _ (by simp [Fld.fits, F.LDG_FLIGHT_F])]
    exact Nat.mod_eq_of_lt hf

theorem State.ldgSel_window (i : Nat) : (s.ldgSel i).reg F.LDG_WIN_SPAN.addr = winWord (s.win i) (s.winAge i) := by
  rw [s.ldgSel_eq, State.reg_setReg_self]

theorem State.ldgSel_sameRegs (i : Nat) : SameRegs [0x40001020, 0x40001024, 0x40001028, 0x4000102C, 0x40001030, 0x40001034] s (s.ldgSel i) := by
  intro a ha
  simp only [List.mem_cons, List.not_mem_nil, or_false, not_or] at ha
  obtain ⟨h1, h2, h3, h4, h5, h6⟩ := ha
  rw [s.ldgSel_eq, State.reg_setReg_ne (a := F.LDG_WIN_SPAN.addr) _ _ h6, State.reg_setFld_ne _ _ _ _ h5,
    State.reg_setFld_ne _ _ _ _ h4, State.reg_setFld_ne _ _ _ _ h3, State.reg_setFld_ne _ _ _ _ h2, State.reg_setFld_ne _ _ _ _ h1]

theorem State.ldgSel_frame (i : Nat) : s.ldgSel i = { s with live := (s.ldgSel i).live } := by
  rw [s.ldgSel_eq]
  rfl

/-! ## The sweep's check -/

variable {s}

/-- Nothing is found where the account is an absent unit's, or its word and its sum are right. -/
theorem State.sweepChecked_passes {i : Nat} (h : s.acctAbsent i = true ∨ (nsMem s.ledger.parity i = false ∧ (s.acct i).sound (s.win i) = true)) :
    s.sweepChecked i = s := by
  unfold State.sweepChecked
  split
  · rfl
  · next ha =>
    obtain ⟨hp, hs⟩ := h.resolve_left ha
    exact s.check_sound i hp hs

/-- Otherwise the first breach is recorded, with cause 1 or 3. -/
theorem State.sweepChecked_breached {i : Nat} (hi : i < 256) (ha : s.acctAbsent i = false)
    (h : nsMem s.ledger.parity i = true ∨ (s.acct i).sound (s.win i) = false) (hb : s.flag F.LDG_STAT_BREACH = false) :
    s.Breached (s.sweepChecked i) (if nsMem s.ledger.parity i then 1 else 3) i := by
  have hc : (if nsMem s.ledger.parity i = true then 1 else 3) < 8 := by split <;> omega
  rw [State.sweepChecked, ha, if_neg Bool.false_ne_true, s.check_bad i h]
  exact s.breach_breached _ i hc hi hb

end
end Sys2Proof.Machine

section
open Sys2Proof Sys2Proof.Machine

/-- Settles O25: a check of a sound account and a view change nothing else, and a first breach is what `State.Breached` says of it. -/
theorem sweepsAndViews : Obligations.SweepsAndViews := by
  refine ⟨fun s hq => ⟨fun hon hdue => ?_, fun hrun => ?_, fun hon hwait hnone => ?_⟩, ?_, ?_, ?_⟩
  · have hnot : (!s.on || s.now < s.ledger.due) = false := by simp [hon, hdue]
    rw [exec_periodicSweepDue, execPeriodicSweepDue, hnot, if_neg Bool.false_ne_true]
    cases hsweep : s.ledger.sweep with
    | none =>
      simp only [Option.isSome_none, Bool.false_eq_true, if_false, Option.getD_none]
      exact ok_of _ hq
    | some k =>
      simp only [hsweep, Option.isSome_some, if_true, Option.getD_some]
      exact ok_of _ hq
  · rw [exec_auditGo, execAuditGo, hrun, if_pos rfl, State.auditGo]
    cases hsweep : s.ledger.sweep with
    | none =>
      simp only [Option.isSome_none, Bool.false_eq_true, if_false, Option.getD_none, Bool.and_false]
      exact ok_of s.sweepStart hq
    | some k =>
      simp only [Option.isSome_some, if_true, Option.getD_some, Bool.and_true]
      rw [← hsweep]
      exact ok_of s hq
  · rw [exec_waitingSweepStart, execWaitingSweepStart, hon, hwait, hnone]
    exact ok_of s.sweepStart hq
  · intro s k hq hon hk hlt i a bad holds on passes
    have hmem : i ∈ acctList := by
      rw [show i = acctList[k] from List.getD_eq_getElem _ _ hlt]
      exact List.getElem_mem hlt
    have hi : i < 256 := (acctList_lt hmem).trans (by decide)
    have hholds : a.sound (s.win i) = true ↔ holds := Account.sound_iff _ _
    have hpass : passes → s.sweepChecked i = s := fun h => State.sweepChecked_passes (h.imp_right fun ⟨hb, hs⟩ => ⟨hb, hholds.mpr hs⟩)
    have hgoes : on s = s.setSweep (sweepAfter k) := by simp only [on, State.setSweep, sweepAfter]
    refine ⟨fun h hnext => ?_, fun h hlast => ?_, fun ha hbad hfirst => ?_⟩
    · rw [exec_sweepAccountCheck, execSweepAccountCheck_next s hon hk hnext, hpass h, hgoes]
      exact ok_of _ (State.quiet_setSweep hq _)
    · rw [exec_sweepAccountCheck, execSweepAccountCheck_last s hon hk (by omega), hpass h, hgoes]
      exact ok_of _ (State.quiet_setFld (State.quiet_setSweep hq _) _ _)
    · have hbr := State.sweepChecked_breached hi ha (hbad.imp_right fun h => Bool.eq_false_iff.mpr fun h' => h (hholds.mp h')) hfirst
      by_cases hnext : k + 1 < acctList.length
      · have hbr' := hbr.setSweep (sweepAfter k)
        exact hbr'.effect (execSweepAccountCheck_next s hon hk hnext)
          ⟨hbr'.breach, hbr'.cause, hbr'.acct, hbr'.number, hbr'.next, hbr'.accts, hbr'.untold⟩
      · have hbr' := (hbr.setSweep (sweepAfter k)).counted ((s.sweepChecked i).fld F.LDG_SWEEPS_COUNT + 1)
        exact hbr'.effect (execSweepAccountCheck_last s hon hk hnext)
          ⟨hbr'.breach, hbr'.cause, hbr'.acct, hbr'.number, hbr'.next, hbr'.accts, hbr'.untold⟩
  · intro s n hq hon w span slot quiesce old marked
    have hn : n.val < 256 := n.isLt.trans (by decide)
    have hexec : old → exec (.windowAge n) s = ok ((s.setWin n.val marked).breach 4 n.val) := fun h => execWindowAge_old s n hon h.1 h.2
    have hmarked : old → (s.setWin n.val marked).win n.val = marked := fun h => s.win_setWin_open (Window.marked_isOpen h.2)
    refine ⟨fun h => ?_, fun h hb => ?_, fun h hb => ?_, fun h hb hmask hact => ?_⟩
    · rw [exec_windowAge, execWindowAge_none s n h]
      exact ok_of s hq
    · rw [hexec h, State.breach_again (s.setWin n.val marked) 4 n.val hb]
      exact ok_of _ hq
    · have hbr := State.breach_breached (s.setWin n.val marked) 4 n.val (by decide) hn hb
      refine ⟨_, hexec h, ⟨hbr.breach, hbr.cause, hbr.acct, ?_, hbr.accts, hbr.untold⟩, fun ⟨_, hact, _⟩ => ?_⟩
      · exact (congrArg (fun m => smGet (fun _ => Window.none) m n.val) hbr.wins).trans (hmarked h)
      · exact (hexec h).trans (ok_of _ ((hbr.calm hact).trans hq))
    · obtain ⟨v, l, hu, hl⟩ := State.breach_resets (s.setWin n.val marked) 4 n.val (by decide) hn hb hmask hact
      refine ⟨_, hexec h, ?_⟩
      rw [hu, State.settle, if_pos hl]
      exact ⟨State.fullReset_breach_rcause _, rfl, State.fullReset_breach_stat _, State.fullReset_pc _ _, rfl, rfl⟩
  · intro s n hq hrun hfit
    have hok : exec (.ldgSelCapture n) s = .next (s.ldgSel n.toNat) := by
      rw [exec_ldgSelCapture, execLdgSelCapture, hrun, if_pos rfl, s.ldgSel_frame]
      exact ok_of _ hq
    obtain ⟨h1, h2, h3, h4, h5⟩ := s.ldgSel_terms n.isLt hfit
    obtain ⟨w1, w2, w3, w4⟩ := winWord_fields (s.win n.toNat) (s.winAge n.toNat)
    have hwin := s.ldgSel_window n.toNat
    refine ⟨s.ldgSel n.toNat, hok, h1, h2, h3, h4, h5, ?_, ?_, ?_, ?_, s.ldgSel_sameRegs _, s.ldgSel_frame _⟩
    · rw [← w1, ← hwin]
      rfl
    · rw [← w2, ← hwin]
      rfl
    · rw [← w3, ← hwin]
      rfl
    · rw [← w4, ← hwin]
      rfl

end

namespace Sys2Proof.Machine

/-! ## A seal written while a counter's pulse is still to be counted -/

/-- A part that runs, with a CNT set pending that changes no counter: counter 0 stands at its last count, an output pulse of it has come and is
still to be counted (08 R352), and its overflow event is routed to bit 0 of thread 0. -/
def pulseToCount : State :=
  let s : State := { State.reset with
    boot := .done, cnt := (Vector.replicate 8 Prescaler.stopped0).set 0 { Prescaler.stopped0 with due := true } }
  ((((s.setBit (F.SEAL_PEND (Blk.sealAt .cnt))).setFld (F.CNT_COUNT_COUNT 0) 0xFFFFFFFF).setBit (F.CNT_CTL_RUN 0)).setBit
    (F.CNT_CTL_OVFEV 0)).setBit (F.EVT_MAP_EN 0x50)

theorem pulseToCount_runs : pulseToCount.steadyRuns = true ∧ pulseToCount.blkHere .cnt = true := by decide +kernel

theorem pulseToCount_late :
    pulseToCount.sealPend .cnt = true ∧ pulseToCount.countersUp = true ∧ pulseToCount.cntCommitDue = true := by decide +kernel

/-- What thread 0 has pending after a command. -/
def pendAfter : Res → Option Word
  | .next u => some (u.thr 0).pend
  | _ => none

/-- The commit that GO finds past counts the pulse, and its overflow reaches the thread (05 R202; 08 R351, R362). -/
theorem pendAfter_sealGo : pendAfter (exec (.sealGo .cnt 1) pulseToCount) = some 1 := by decide +kernel

theorem pulseToCount_pend : (pulseToCount.thr 0).pend = 0 := by decide +kernel

end Sys2Proof.Machine

section
open Sys2Proof Sys2Proof.Machine

/-- Refutes O24: a CNT set that waits commits before a SEAL written late, and that commit first counts a counter's pulse that has come (08 R362);
an overflow of it with OVFEV = 1 sets a bit of the thread that the event is routed to, where the statement has every thread as it was. -/
theorem not_sealsMoveSets : ¬ Obligations.SealsMoveSets := by
  unfold Obligations.SealsMoveSets
  rintro ⟨hgo, -⟩
  have hquiet : pulseToCount.quiet := rfl
  obtain ⟨hruns, hhere⟩ := pulseToCount_runs
  obtain ⟨hlate, -⟩ := hgo pulseToCount .cnt 1 hquiet hruns hhere
  obtain ⟨u, hu, -, -, -, -, -, hthreads, -⟩ := hlate ⟨rfl, pulseToCount_late⟩
  have hpend : (u.thr 0).pend = (pulseToCount.thr 0).pend := by rw [State.thr, hthreads, State.thr]
  have hsome : some (u.thr 0).pend = some 1 := by
    rw [← pendAfter_sealGo, hu]
    rfl
  rw [hpend, pulseToCount_pend] at hsome
  exact absurd hsome (by decide)

end

namespace Sys2Proof.Machine

/-! ## The reset state -/

/-- After a full reset the accounts of spans 0 and 1 are granted 8, and every other one is zero (01 R61; 02 R66). -/
theorem Ledger.reset_acct (tick k : Nat) : smGet (fun _ => Account.zero) (Ledger.reset tick).acct k =
    if 0x40 ≤ k ∧ k < 0x44 then ⟨8, 8, 0, 0⟩ else ⟨0, 0, 0, 0⟩ := by
  by_cases h : 0x40 ≤ k ∧ k < 0x44
  · have hk : k = 0x40 ∨ k = 0x41 ∨ k = 0x42 ∨ k = 0x43 := by omega
    rcases hk with rfl | rfl | rfl | rfl <;> rfl
  · have h0 : k ≠ 0x40 := by omega
    have h1 : k ≠ 0x41 := by omega
    have h2 : k ≠ 0x42 := by omega
    have h3 : k ≠ 0x43 := by omega
    simp [h, Ledger.reset, smGet, h0, h1, h2, h3, Account.zero]

theorem State.reset_canonical : State.reset.canonical := ⟨rfl, rfl, rfl, rfl⟩

theorem State.reset_books : State.reset.books := ⟨Ledger.reset_wf 0, fun k => Ledger.reset_balanced 0 k⟩

/-- A ring reads OFF where its status register reads its reset word (06 R285). -/
theorem State.ringState_of_reset (s : State) (n : RingId) (h : s.reg (F.QUE_RSTAT_STATE n.val).addr = resetWord (F.QUE_RSTAT_STATE n.val).addr) :
    s.ringState n = ringOff := by
  have hoff : ∀ m : RingId, fldGet (resetWord (F.QUE_RSTAT_STATE m.val).addr) (F.QUE_RSTAT_STATE m.val) = ringOff := by decide +kernel
  rw [State.ringState, State.fld, h]
  exact hoff n

/-- Of the threads as a reset leaves them thread 0 runs, 8 and 9 are dark, the others stopped (05 R240). -/
theorem resetThreads_get : ∀ t : ThreadId,
    (vget resetThreads t).st = (if t = 0 then .run else if t.val < 8 then .stopped else .dark) ∧ (vget resetThreads t).mode = true ∧
      (vget resetThreads t).ent = false ∧ (vget resetThreads t).pc = 0 := by decide

end Sys2Proof.Machine

section
open Sys2Proof Sys2Proof.Machine

/-- Settles O5: each part of the reset state reads off its definition; the accounts and rings by the lemmas for every index. -/
theorem resetState : Obligations.ResetState := by
  unfold Obligations.ResetState
  have hlit : ∀ i : Island, State.reset.lit i = (i == .steady) := fun i => by cases i <;> rfl
  exact ⟨rfl, State.reset_canonical, State.reset_books, rfl, hlit, resetThreads_get, rfl, rfl,
    fun n => State.ringState_of_reset _ n rfl, Ledger.reset_acct 0⟩

end

namespace Sys2Proof.Machine

/-! ## The descent -/

section
variable (s : State)

/-- With DEPTH naming neither Ember nor Vigil the descent is to Dim (02 R69). -/
theorem State.descent_shallow (h : ¬ (s.fld F.PWR_CTL_DEPTH = 1 ∨ s.fld F.PWR_CTL_DEPTH = 2)) : s.descent = (2, 0) := by
  simp only [State.descent, if_neg h]

/-- Work under way holds it in Dim with code 1 (02 R70). -/
theorem State.descent_busy (h : s.fld F.PWR_CTL_DEPTH = 1 ∨ s.fld F.PWR_CTL_DEPTH = 2) (hb : s.busyHold = true) : s.descent = (2, 1) := by
  simp only [State.descent, if_pos h, hb, if_true]

/-- A ring in a bank that is not retained holds it in Dim with code 2 (02 R70). -/
theorem State.descent_bank (h : s.fld F.PWR_CTL_DEPTH = 1 ∨ s.fld F.PWR_CTL_DEPTH = 2) (hb : s.busyHold = false) (hk : s.bankHold = true) :
    s.descent = (2, 2) := by
  simp only [State.descent, if_pos h, hb, hk, Bool.false_eq_true, if_false, if_true]

/-- With nothing to hold it the descent is to Ember where DEPTH names it. -/
theorem State.descent_ember (h : s.fld F.PWR_CTL_DEPTH = 1) (hb : s.busyHold = false) (hk : s.bankHold = false) : s.descent = (1, 0) := by
  simp [State.descent, h, hb, hk]

/-- Where DEPTH names Vigil it is to Vigil, or to Ember with code 3 (02 R71). -/
theorem State.descent_vigil (h : s.fld F.PWR_CTL_DEPTH = 2) (hb : s.busyHold = false) (hk : s.bankHold = false) :
    s.descent = if s.emberHold = true then (1, 3) else (0, 0) := by
  simp [State.descent, h, hb, hk]

/-- Nothing keeps ENTER_LOWER_STATE from taking effect: the conditions of R69 hold, no entry is open, no request has arrived, and no snuff is to
be decided. -/
structure State.Descends : Prop where
  may : s.mayDescend = true
  entry : s.power.entry = none
  arrived : s.power.arrived = false
  snuff : s.snuffHolds = false

variable {s}

/-- Dim is entered at once, with its REFUSE code, and stops the FLL unless DIMFLL = 1 (02 R69 to R72). -/
theorem State.Descends.dim (h : s.Descends) (hq : s.quiet) {why : Nat} (hd : s.descent = (2, why)) (h3 : s.pstate = 3) :
    exec .enterLowerState s = .next (let u := (s.setFld F.PWR_STAT_STATE 2).setFld F.PWR_STAT_REFUSE why
      if s.flag F.PWR_CTL_DIMFLL then u else u.fllStop) := by
  rw [exec_enterLowerState]
  simp only [execEnterLowerState, h.may, h.entry, h.arrived, h.snuff, hd, h3, Bool.not_true, Option.isSome_none, Bool.or_false,
    Bool.false_eq_true, if_false, if_true]
  refine ok_of _ ?_
  split <;> exact hq

/-- The entry into Ember or Vigil opens (02 R72). -/
theorem State.Descends.opens (h : s.Descends) (hq : s.quiet) {d why : Nat} (hd : s.descent = (d, why)) (hlow : d ≠ 2) :
    exec .enterLowerState s = .next { s with power := { s.power with entry := some (d, why), latched := 0 } } := by
  rw [exec_enterLowerState]
  simp only [execEnterLowerState, h.may, h.entry, h.arrived, h.snuff, hd, Bool.not_true, Option.isSome_none, Bool.or_false,
    Bool.false_eq_true, if_false]
  exact ok_of _ hq

/-! ## The return from Dim, the boot ROM, flash -/

/-- The first eight indices are those below 8. -/
theorem any_steadyThreads (p : ThreadId → Bool) : (((indices 10).take 8).any p = true) ↔ ∃ t : ThreadId, t.val < 8 ∧ p t = true := by
  have hmem : ∀ t : ThreadId, t ∈ (indices 10).take 8 ↔ t.val < 8 := by decide
  simp only [List.any_eq_true, hmem]

/-- An event for a waiting steady thread, or a request at a steady span, returns the chip to Lit (02 R73). -/
theorem execDimWake_due (hq : s.quiet) (hon : s.on = true) (h2 : s.pstate = 2)
    (hdue : s.power.arrived = true ∨ (∃ t : ThreadId, t.val < 8 ∧ (s.thr t).wakeable = true) ∨
      ∃ sp ∈ islandSpans .steady, ∃ a ∈ spanAccts sp, (s.win a).span ≠ 0) :
    execDimWake s = .next (({ s with power := { s.power with arrived := false, entry := none } }).setFld F.PWR_STAT_STATE 3) := by
  have hspans : (∃ sp ∈ islandSpans .steady, ∃ a ∈ spanAccts sp, (s.win a).span ≠ 0) ↔
      (islandSpans .steady).any (fun sp => (spanAccts sp).any (fun i => (s.win i).span != 0)) = true := by
    simp only [List.any_eq_true, bne_iff_ne]
  rw [hspans, ← any_steadyThreads, ← or_assoc, ← Bool.or_eq_true, ← Bool.or_eq_true] at hdue
  simp only [execDimWake, hdue, hon, h2, beq_self_eq_true, Bool.and_true, if_true]
  exact ok_of _ hq

/-- The steady island that runs is lit in Lit or Blaze. -/
theorem State.steadyRuns_iff : s.steadyRuns = true ↔ s.on = true ∧ s.lit .steady = true ∧ (s.pstate = 3 ∨ s.pstate = 4) := by
  simp [State.steadyRuns, and_assoc]

theorem State.steadyRising_of_lit (h : s.lit .steady = true) : s.steadyRising = false := by
  have hst : (s.island .steady).st = .lit := by simpa [State.lit] using h
  simp [State.steadyRising, hst]

end
end Sys2Proof.Machine

section
open Sys2Proof Sys2Proof.Machine

/-- Settles O27: the descent has one value in each case, which is Dim or opens an entry; the three ways back are their commands' conditions. -/
theorem powerStatesMove : Obligations.PowerStatesMove := by
  unfold Obligations.PowerStatesMove
  refine ⟨fun s hq hmay hentry harr hsnuff => ?_, fun s hq => ⟨fun hon h2 hdue => ?_, fun hruns hboot => ?_, fun hon hlit => ?_⟩⟩
  · have h : s.Descends := ⟨hmay, hentry, harr, hsnuff⟩
    refine ⟨fun hd h3 => h.dim hq (s.descent_shallow hd) h3, fun hd hb h3 => h.dim hq (s.descent_busy hd hb) h3,
      fun hd hb hk h3 => h.dim hq (s.descent_bank hd hb hk) h3, fun hd hb hk => h.opens hq (s.descent_ember hd hb hk) (by decide), ?_, ?_⟩
    · intro hd hb hk he
      exact h.opens hq (by rw [s.descent_vigil hd hb hk, if_pos he]) (by decide)
    · intro hd hb hk he
      exact h.opens hq (by rw [s.descent_vigil hd hb hk, if_neg (by simp [he])]) (by decide)
  · exact execDimWake_due hq hon h2 hdue
  · obtain ⟨-, hlit, -⟩ := State.steadyRuns_iff.mp hruns
    simp only [exec_bootRomStart, execBootRomStart, hboot, State.steadyRising_of_lit hlit, hruns, bne_self_eq_false, Bool.false_eq_true,
      if_false, if_true]
    exact ok_of _ hq
  · simp only [exec_flashReady, execFlashReady, hon, hlit, Bool.true_or, Bool.and_true, if_true]
    exact ok_of _ hq

end

namespace Sys2Proof.Machine

/-! ## What a full reset leaves -/

section
variable (s : State) (c : Cause)

/-- The registers that a full reset writes beside their reset words (02 R98, R716; 09 Table 9.3; 12 Table 12.8). -/
def resetWritten : List Nat :=
  [F.PWR_RCAUSE_CAUSE.addr, F.CLK_STAT_VSRC.addr, F.CAL_STAT_FROZEN.addr, F.CIP_SIDLO_SID.addr, F.CIP_SIDHI_SID.addr]

/-- A register that is not kept and not written reads its reset word after a full reset. -/
theorem State.reg_fullReset_of {a : Nat} (hk : keptReg c a = false) (hw : a ∉ resetWritten) : (s.fullReset c).reg a = resetWord a := by
  simp only [resetWritten, List.mem_cons, List.not_mem_nil, or_false, not_or] at hw
  obtain ⟨hcause, hclk, hcal, hlo, hhi⟩ := hw
  have hclk' : a ≠ F.CLK_STAT_XT32OK.addr := hclk
  rw [s.reg_fullReset]
  simp only [State.resetImages, State.clrFld]
  rw [State.reg_setStg, State.reg_setStg, State.reg_setReg_ne _ _ hhi, State.reg_setReg_ne _ _ hlo, State.reg_foldl_setStg,
    State.reg_setFld_ne _ _ _ _ hcal]
  split
  · rw [State.reg_setFld_ne _ _ _ _ hcause, State.reg_resetRegs _ (by simp [hk])]
  · rw [State.reg_setFld_ne _ _ _ _ hclk', State.reg_setFld_ne _ _ _ _ hclk, State.reg_setFld_ne _ _ _ _ hcause,
      State.reg_resetRegs _ (by simp [hk])]

/-- PWR_RCAUSE then names its cause, and no other (02 R98). -/
theorem State.fullReset_rcause : (s.fullReset c).fld F.PWR_RCAUSE_CAUSE = c.mask := by
  have hread : ∀ u : State, (u.setFld F.PWR_RCAUSE_CAUSE c.mask).fld F.PWR_RCAUSE_CAUSE = c.mask := fun u => by
    rw [State.fld_setFld_self _ _ _ (by simp [Fld.fits, F.PWR_RCAUSE_CAUSE])]
    cases c <;> rfl
  rw [← hread (s.resetRegs (fun a => !keptReg c a))]
  refine State.fld_of_reg ?_
  rw [s.reg_fullReset]
  simp only [State.resetImages, State.clrFld]
  rw [State.reg_setStg, State.reg_setStg, State.reg_setReg_ne _ _ (by decide), State.reg_setReg_ne _ _ (by decide), State.reg_foldl_setStg,
    State.reg_setFld_ne _ _ _ _ (by decide)]
  split
  · rfl
  · rw [State.reg_setFld_ne _ _ _ _ (by decide), State.reg_setFld_ne _ _ _ _ (by decide)]

/-- The chip is in Lit (02 R103). -/
theorem State.fullReset_pstate : (s.fullReset c).pstate = 3 := by
  have hreg : (s.fullReset c).reg F.PWR_STAT_STATE.addr = resetWord F.PWR_STAT_STATE.addr :=
    s.reg_fullReset_of c (by cases c <;> decide) (by decide)
  rw [State.pstate, State.fld, hreg]
  decide +kernel

/-- Every ring is OFF (06 R285). -/
theorem State.fullReset_ringState (n : RingId) : (s.fullReset c).ringState n = ringOff := by
  have hkept : ∀ m : RingId, keptReg c (F.QUE_RSTAT_STATE m.val).addr = false := by cases c <;> decide
  have hwritten : ∀ m : RingId, (F.QUE_RSTAT_STATE m.val).addr ∉ resetWritten := by decide
  exact State.ringState_of_reset _ n (s.reg_fullReset_of c (hkept n) (hwritten n))

/-- Registers given to some threads leave every thread's state as it is. -/
theorem foldl_regs_st (r0 : Vector TWord 32) (t : ThreadId) (l : List ThreadId) (v : Vector Thread 10) :
    (vget (l.foldl (fun v i => vset v i { vget v i with regs := r0 }) v) t).st = (vget v t).st :=
  List.foldlRecOn (motive := fun w : Vector Thread 10 => (vget w t).st = (vget v t).st) l _ rfl fun w h i _ => by
    rw [← h]
    by_cases hi : i = t
    · rw [hi, vget_vset_self]
    · rw [vget_vset_ne _ _ hi]

/-- Each thread is in the state in which a reset leaves it (05 R240). -/
theorem State.fullReset_st (t : ThreadId) : ((s.fullReset c).thr t).st = (vget resetThreads t).st := foldl_regs_st _ t _ _

/-- A byte at an address that is not cleared stays. -/
theorem Memory.byte_clear_of (m : Memory) {p : Nat → Bool} {a : Nat} (h : p a = false) : (m.clear p).byte a = m.byte a := by
  have hget : ∀ l : List (Nat × Byte), smGet memDefault (smDrop p l) a = smGet memDefault l a := by
    intro l
    induction l with
    | nil => rfl
    | cons q r ih =>
      by_cases hq : p q.1 = true
      · have ha : a ≠ q.1 := fun e => by simp [e, hq] at h
        simpa [smDrop, hq, smGet, ha] using ih
      · by_cases ha : a = q.1
        · simp [smDrop, hq, smGet, ha]
        · simpa [smDrop, hq, smGet, ha] using ih
  exact hget m.data

/-- Flash keeps its bytes through a full reset (02 Table 2.7). -/
theorem State.resetLoses_flash (power : Bool) {a : Nat} (h : inFlash a = true) : s.resetLoses power a = false := by
  simp only [inFlash, Bool.and_eq_true, decide_eq_true_eq] at h
  have hout : ∀ r : Region, 0x08400000 ≤ r.span.1 → r.holds a = false := fun r hr => by
    simp only [Region.holds, Bool.and_eq_false_iff, decide_eq_false_iff_not]
    omega
  simp [State.resetLoses, hout .sram (by decide), hout .burst (by decide), hout .gnss (by decide), hout .vigil (by decide)]

/-- The part as a full reset with one cause leaves it: the reset machine, with what the backup domain holds and the bytes of flash as they were. -/
def State.RestartsAs (s u : State) (cause : Nat) (tick : BitVec 48) : Prop :=
  u.fld F.PWR_RCAUSE_CAUSE = cause ∧ u.pstate = 3 ∧ u.boot = .starting ∧ (u.thr 0).st = .run ∧ (u.thr 0).pc = 0 ∧
    (∀ t : ThreadId, t ≠ 0 → t.val < 8 → (u.thr t).st = .stopped) ∧ (∀ n : RingId, u.ringState n = ringOff) ∧ u.handed = [] ∧
    (∀ k, u.acct k = if 0x40 ≤ k ∧ k < 0x44 then ⟨8, 8, 0, 0⟩ else ⟨0, 0, 0, 0⟩) ∧ u.time.tick = tick ∧ u.bak = s.bak ∧
    (∀ a, inFlash a = true → u.mem.byte a = s.mem.byte a)

theorem State.fullReset_restarts : s.RestartsAs (s.fullReset c) c.mask (if c.power then 0 else s.time.tick) := by
  refine ⟨s.fullReset_rcause c, s.fullReset_pstate c, rfl, rfl, rfl, fun t ht hlt => ?_, s.fullReset_ringState c, rfl,
    Ledger.reset_acct _, rfl, rfl, fun a ha => Memory.byte_clear_of _ (s.resetLoses_flash c.power ha)⟩
  obtain ⟨hst, -⟩ := resetThreads_get t
  rw [s.fullReset_st, hst, if_neg ht, if_pos hlt]

/-- The power controller's own record is no part of that. -/
theorem State.RestartsAs.withPower {s u : State} {cause : Nat} {tick : BitVec 48} (h : s.RestartsAs u cause tick) (p : Power) :
    s.RestartsAs { u with power := p } cause tick := h

/-- The part held by RESETN in its full reset (02 R101). -/
def State.pinHeld (s : State) : State := { s.fullReset .pin with power := { (s.fullReset .pin).power with inReset := true } }

theorem State.pinHeld_restarts : s.RestartsAs s.pinHeld 4 s.time.tick ∧ s.pinHeld.power.inReset = true :=
  ⟨(s.fullReset_restarts .pin).withPower _, rfl⟩

/-- The part in the full reset of a change of its supply, with or without it (02 R103, R104). -/
def State.supplyReset (s : State) (c : Cause) (vdd : Bool) : State := { s.fullReset c with power := { (s.fullReset c).power with vdd := vdd } }

theorem State.supplyReset_restarts (hc : c.power = true) (vdd : Bool) :
    s.RestartsAs (s.supplyReset c vdd) c.mask 0 ∧ (s.supplyReset c vdd).power.vdd = vdd := by
  have h := (s.fullReset_restarts c).withPower { (s.fullReset c).power with vdd := vdd }
  rw [if_pos hc] at h
  exact ⟨h, rfl⟩

/-- RESETN low for 1 µs holds the part in reset, for less than 100 ns does nothing, and in between either (02 R101, R102). -/
theorem execResetnQualify_eq (n : Nat) (hon : s.on = true) : execResetnQualify n s =
    if n < 100 then ok s else if 1000 ≤ n then ok s.pinHeld else if Config.resetnMid s.free = true then ok s.pinHeld else ok s.fresh := by
  by_cases hn : n < 100
  · simp [execResetnQualify, hon, hn]
  · have h100 : 100 ≤ n := by omega
    simp [execResetnQualify, hon, hn, h100, State.pinHeld]

end
end Sys2Proof.Machine

section
open Sys2Proof Sys2Proof.Machine

/-- Settles O31: every cause's reset is `State.fullReset`, of which `fullReset_restarts` says what it leaves; none orders a further reset. -/
theorem fullResets : Obligations.FullResets := by
  unfold Obligations.FullResets
  intro s
  refine ⟨fun hon v hv => ?_, fun hon n hn => ?_, fun hon n h100 hn => ?_, fun hon hq n hn => ?_, fun hq hin => ?_, fun hvdd below => ?_,
    fun hvdd => ?_⟩
  · refine ⟨s.fullReset .soft, ?_, s.fullReset_restarts .soft⟩
    simp only [exec_softReset, execSoftReset, State.softReset, hon, hv, if_true]
    exact ok_of _ rfl
  · refine ⟨s.pinHeld, ?_, s.pinHeld_restarts⟩
    rw [exec_resetnQualify, execResetnQualify_eq s n hon, if_neg (by omega), if_pos hn]
    exact ok_of _ rfl
  · have heq := execResetnQualify_eq s n hon
    rw [if_neg (by omega), if_neg (by omega)] at heq
    rw [exec_resetnQualify, heq]
    by_cases hmid : Config.resetnMid s.free = true
    · exact Or.inl ⟨s.pinHeld, by rw [exec_resetnQualify, heq, if_pos hmid]; exact ok_of _ rfl, s.pinHeld_restarts⟩
    · exact Or.inr fun hq => by rw [if_neg hmid]; exact ok_of _ hq
  · rw [exec_resetnQualify, execResetnQualify_eq s n hon, if_pos hn]
    exact ok_of _ hq
  · simp only [exec_resetnRelease, execResetnRelease, hin, if_true]
    exact ok_of _ hq
  · have hok : exec (.powerOn below) s = .next (s.supplyReset (if below then .por else .bor) true) := by
      simp only [exec_powerOn, execPowerOn, hvdd, Bool.false_eq_true, if_false]
      exact ok_of _ rfl
    cases below with
    | true => exact ⟨_, hok, s.supplyReset_restarts .por rfl true⟩
    | false => exact ⟨_, hok, s.supplyReset_restarts .bor rfl true⟩
  · refine ⟨s.supplyReset .bor false, ?_, s.supplyReset_restarts .bor rfl false⟩
    simp only [exec_brownOut, execBrownOut, hvdd, if_true]
    exact ok_of _ rfl

end

namespace Sys2Proof.Machine

/-! ## The FLL's retarget and a quiesce that begins: what they leave unchanged -/

section
variable (s : State)

/-- The clock controller as the FLL takes its reference and multiplier anew (02 R95, R717). -/
def State.fllTargets (s : State) : State := { s with clk :=
  { s.clk with onXt32m := s.fllOnXt, mul := if s.fllOnXt then s.fld F.CLK_FLL_MUL else s.vigilMul, refDue := false } }

/-- A retarget is that, with FLLLOCK cleared where it changes anything, and the wait states of the slew. -/
theorem State.fllRetarget_cases : s.fllRetarget = s.fllTargets.slewWs ∨ s.fllRetarget = (s.fllTargets.clrFld F.CLK_STAT_FLLLOCK).slewWs := by
  have h : s.fllRetarget = (if s.fllTargets.clk.mul = s.clk.mul ∧ s.fllOnXt = s.clk.onXt32m then s.fllTargets
      else s.fllTargets.clrFld F.CLK_STAT_FLLLOCK).slewWs := rfl
  rw [h]
  split
  · exact Or.inl rfl
  · exact Or.inr rfl

theorem State.fllRetarget_clk : s.fllRetarget.clk = s.fllTargets.clk := by
  rcases s.fllRetarget_cases with h | h <;> rw [h] <;> rfl

/-- A retarget changes registers and the clock controller only. -/
theorem State.fllRetarget_frame : ∃ l, s.fllRetarget = { s with live := l, clk := s.fllTargets.clk } := by
  rcases s.fllRetarget_cases with h | h <;> rw [h] <;> exact ⟨_, rfl⟩

/-- Of the registers it writes CLK_STAT and FLC_STAT only. -/
theorem State.reg_fllRetarget {a : Nat} (hc : a ≠ F.CLK_STAT_FLLLOCK.addr) (hw : a ≠ F.FLC_STAT_WS.addr) :
    s.fllRetarget.reg a = s.reg a := by
  rcases s.fllRetarget_cases with h | h <;> rw [h, State.slewWs, State.reg_setFld_ne _ _ _ _ hw]
  · rfl
  · rw [State.clrFld, State.reg_setFld_ne _ _ _ _ hc]
    rfl

/-- Of CLK_STAT it writes FLLLOCK only. -/
theorem State.flag_fllRetarget {f : Fld} (hl : F.CLK_STAT_FLLLOCK.lo + F.CLK_STAT_FLLLOCK.w ≤ f.lo ∨ f.lo + f.w ≤ F.CLK_STAT_FLLLOCK.lo)
    (hw : f.addr ≠ F.FLC_STAT_WS.addr) : s.fllRetarget.flag f = s.flag f := by
  have hfld : s.fllRetarget.fld f = s.fld f := by
    rcases s.fllRetarget_cases with h | h <;> rw [h, State.slewWs, State.fld_setFld_reg _ _ _ _ hw]
    · rfl
    · rw [State.clrFld, State.fld_setFld_other _ _ _ _ hl]
      rfl
  rw [State.flag, hfld, State.flag]

/-- Memory, threads and the ledger stay. -/
theorem State.fllRetarget_core : SameCore s s.fllRetarget := by
  obtain ⟨l, h⟩ := s.fllRetarget_frame
  rw [h]
  exact ⟨rfl, rfl, rfl⟩

/-- The FLL takes its reference anew, but where it runs from XT32M already: a change of the vigil clock does not concern it then (02 R718). -/
def State.fllFollows (s : State) : State := if s.clk.onXt32m then s else s.fllRetarget

theorem State.fllFollows_core : SameCore s s.fllFollows := by
  unfold State.fllFollows
  split
  · exact ⟨rfl, rfl, rfl⟩
  · exact s.fllRetarget_core

theorem State.flag_fllFollows {f : Fld} (hl : F.CLK_STAT_FLLLOCK.lo + F.CLK_STAT_FLLLOCK.w ≤ f.lo ∨ f.lo + f.w ≤ F.CLK_STAT_FLLLOCK.lo)
    (ha : f.addr ≠ F.FLC_STAT_WS.addr) : s.fllFollows.flag f = s.flag f := by
  unfold State.fllFollows
  split
  · rfl
  · exact s.flag_fllRetarget hl ha

theorem State.reg_fllFollows {a : Nat} (hc : a ≠ F.CLK_STAT_FLLLOCK.addr) (hw : a ≠ F.FLC_STAT_WS.addr) :
    s.fllFollows.reg a = s.reg a := by
  unfold State.fllFollows
  split
  · rfl
  · exact s.reg_fllRetarget hc hw

theorem State.fllFollows_switchDue : s.fllFollows.clk.switchDue = s.clk.switchDue := by
  unfold State.fllFollows
  split
  · rfl
  · rw [s.fllRetarget_clk]
    rfl

/-- A flag of one register is left by a write of another field of it. -/
theorem State.flag_setFld_other (f g : Fld) (v : Nat) (h : f.lo + f.w ≤ g.lo ∨ g.lo + g.w ≤ f.lo) : (s.setFld f v).flag g = s.flag g := by
  rw [State.flag, s.fld_setFld_other f g v h, State.flag]

theorem State.flag_setBit_other (f g : Fld) (h : f.lo + f.w ≤ g.lo ∨ g.lo + g.w ≤ f.lo) : (s.setBit f).flag g = s.flag g :=
  s.flag_setFld_other f g 1 h

theorem State.flag_clrFld_other (f g : Fld) (h : f.lo + f.w ≤ g.lo ∨ g.lo + g.w ≤ f.lo) : (s.clrFld f).flag g = s.flag g :=
  s.flag_setFld_other f g 0 h

/-- A system record that no thread is to have is none (05 R224). -/
theorem State.systemTo_zero {mask : Nat} (h : mask = 0) (code : Nat) (detail : Word) : s.systemTo mask code detail = s := by
  rw [State.systemTo, h, show maskThreads 0 = [] by decide, State.system_nil]

/-! ### A quiesce that begins -/

/-- A QUIESCE window that opens changes the ledger's windows only. -/
theorem State.openQuiesce_frame (i : Nat) : ∃ w, s.openQuiesce i = { s with ledger := { s.ledger with win := w } } := by
  simp only [State.openQuiesce]
  split
  · exact ⟨s.ledger.win, rfl⟩
  · exact ⟨_, rfl⟩

theorem State.foldl_openQuiesce_frame (l : List Nat) : ∃ w, l.foldl State.openQuiesce s = { s with ledger := { s.ledger with win := w } } :=
  List.foldlRecOn (motive := fun u : State => ∃ w, u = { s with ledger := { s.ledger with win := w } }) l _ ⟨s.ledger.win, rfl⟩
    fun u h i _ => by
      obtain ⟨w, rfl⟩ := h
      exact State.openQuiesce_frame _ i

/-- The island's own part of the beginning of its quiesce (02 R85). -/
def State.islandQuiesces (s : State) (i : Island) (idle : Bool) : State :=
  s.setIsland i { s.island i with st := .quiescing, drainFrom := s.now, idle := idle, wins := s.quiesceAccts i }

/-- A lit island begins its quiesce, with windows that open (02 R85 step 1). -/
theorem State.beginQuiesce_lit {i : Island} (idle : Bool) (h : s.lit i = true) :
    ∃ w, s.beginQuiesce i idle = { s.islandQuiesces i idle with ledger := { s.ledger with win := w } } := by
  have hst : (s.island i).st = .lit := by simpa [State.lit] using h
  simp only [State.beginQuiesce, hst, bne_self_eq_false, Bool.false_eq_true, if_false]
  exact (s.islandQuiesces i idle).foldl_openQuiesce_frame (s.quiesceAccts i)

/-- No other one does. -/
theorem State.beginQuiesce_not_lit {i : Island} (idle : Bool) (h : s.lit i = false) : s.beginQuiesce i idle = s := by
  have hst : ((s.island i).st != .lit) = true := by simpa [State.lit] using h
  simp only [State.beginQuiesce, hst, if_true]

/-- The beginning of a quiesce changes the islands and the ledger's windows only. -/
theorem State.beginQuiesce_frame (i : Island) (idle : Bool) :
    ∃ v w, s.beginQuiesce i idle = { s with isl := v, ledger := { s.ledger with win := w } } := by
  cases h : s.lit i with
  | false => exact ⟨s.isl, s.ledger.win, s.beginQuiesce_not_lit idle h⟩
  | true =>
    obtain ⟨w, hw⟩ := s.beginQuiesce_lit idle h
    exact ⟨_, w, hw⟩

/-- Of the islands it changes the one that quiesces. -/
theorem State.island_beginQuiesce (i j : Island) (idle : Bool) (hij : i ≠ j) : (s.beginQuiesce i idle).island j = s.island j := by
  cases h : s.lit i with
  | false => rw [s.beginQuiesce_not_lit idle h]
  | true =>
    obtain ⟨w, hw⟩ := s.beginQuiesce_lit idle h
    rw [hw]
    exact s.island_setIsland_ne _ hij

/-- A lit island quiesces from then on. -/
theorem State.beginQuiesce_st {i : Island} (idle : Bool) (h : s.lit i = true) : ((s.beginQuiesce i idle).island i).st = .quiescing := by
  obtain ⟨w, hw⟩ := s.beginQuiesce_lit idle h
  have hself : (s.islandQuiesces i idle).island i = _ := s.island_setIsland_self i _
  rw [hw]
  exact congrArg IslandSt.st hself

/-- PWR_BURST.OFF changes the islands and the ledger's windows only (02 R81). -/
theorem State.burstOff_frame : ∃ v w, s.burstOff = { s with isl := v, ledger := { s.ledger with win := w } } := by
  simp only [State.burstOff]
  split
  · exact s.beginQuiesce_frame .burst false
  · exact ⟨_, s.ledger.win, rfl⟩
  · exact ⟨s.isl, s.ledger.win, rfl⟩

theorem State.burstOff_lit (h : s.lit .burst = true) : s.burstOff = s.beginQuiesce .burst false := by
  have hst : (s.island .burst).st = .lit := by simpa [State.lit] using h
  simp only [State.burstOff, hst]

theorem State.island_burstOff (j : Island) (h : Island.burst ≠ j) : s.burstOff.island j = s.island j := by
  simp only [State.burstOff]
  split
  · exact s.island_beginQuiesce _ _ _ h
  · exact s.island_setIsland_ne _ h
  · rfl

/-! ## Failed and confirmed oscillators -/

/-- The counters that count a failed XT32M are marked (08 R366). -/
def State.counterStopped (s : State) (n : Fin 8) : State :=
  ({ s with cnt := vset s.cnt n { vget s.cnt n with stopped := true } }).setBit (F.CNT_STAT_SRCFAIL n.val)

/-- Marking counters changes their prescalers and registers only, and of these no register of the clock controller. -/
theorem State.foldl_counterStopped (l : List (Fin 8)) : ∃ v c, l.foldl State.counterStopped s = { s with live := v, cnt := c } ∧
    ∀ a, a < 0x40008000 → smGet resetWord v a = s.reg a := by
  refine List.foldlRecOn (motive := fun u : State => ∃ v c, u = { s with live := v, cnt := c } ∧
    ∀ a, a < 0x40008000 → smGet resetWord v a = s.reg a) l _ ⟨s.live, s.cnt, rfl, fun _ _ => rfl⟩ fun u h n _ => ?_
  obtain ⟨v, c, rfl, hreg⟩ := h
  refine ⟨_, _, rfl, fun a ha => ?_⟩
  have hne : a ≠ (F.CNT_STAT_SRCFAIL n.val).addr := by
    simp only [F.CNT_STAT_SRCFAIL]
    omega
  exact (State.reg_setFld_ne _ _ _ _ hne).trans (hreg a ha)

/-- XT32M is no longer confirmed, and the FLL has not left it yet (02 R96). -/
def State.xt32mGone (s : State) : State :=
  { (s.clrFld F.CLK_STAT_XT32MOK).setBit F.CLK_STAT_XT32MFAIL with clk := { s.clk with xt32mFailed := true, refDue := false } }

theorem State.xt32mGone_flags : s.xt32mGone.flag F.CLK_STAT_XT32MOK = false ∧ s.xt32mGone.flag F.CLK_STAT_XT32MFAIL = true := by
  have hflag : ∀ f, s.xt32mGone.flag f = ((s.clrFld F.CLK_STAT_XT32MOK).setBit F.CLK_STAT_XT32MFAIL).flag f := fun _ => rfl
  rw [hflag, hflag, State.flag_setBit_other _ _ _ (by decide), s.flag_clrFld_self _ (by simp [Fld.fits, F.CLK_STAT_XT32MOK]),
    State.flag_setBit_self _ _ (by simp [Fld.fits, F.CLK_STAT_XT32MFAIL]) (by decide)]
  exact ⟨rfl, rfl⟩

/-- The clock controller's part of an XT32M failure: the FLL leaves it (02 R95). -/
def State.xt32mLost (s : State) : State := if s.clk.onXt32m then s.xt32mGone.fllRetarget else s.xt32mGone

theorem State.xt32mLost_flags : s.xt32mLost.flag F.CLK_STAT_XT32MOK = false ∧ s.xt32mLost.flag F.CLK_STAT_XT32MFAIL = true ∧
    s.xt32mLost.clk.xt32mFailed = true := by
  obtain ⟨hok, hfail⟩ := s.xt32mGone_flags
  unfold State.xt32mLost
  split
  · rw [State.flag_fllRetarget _ (by decide) (by decide), State.flag_fllRetarget _ (by decide) (by decide), State.fllRetarget_clk]
    exact ⟨hok, hfail, rfl⟩
  · exact ⟨hok, hfail, rfl⟩

/-- It changes registers and the clock controller only. -/
theorem State.xt32mLost_frame : ∃ v c, s.xt32mLost = { s with live := v, clk := c } := by
  unfold State.xt32mLost
  split
  · obtain ⟨l, h⟩ := s.xt32mGone.fllRetarget_frame
    exact ⟨l, _, h⟩
  · exact ⟨_, _, rfl⟩

/-- The counters of XT32M are then marked. -/
def State.xt32mCounted (s : State) : State := s.xt32mLost.xt32mCounters.foldl State.counterStopped s.xt32mLost

theorem State.xt32mCounted_frame : ∃ v c p, s.xt32mCounted = { s with live := v, clk := c, cnt := p } := by
  obtain ⟨v, p, hcnt, -⟩ := s.xt32mLost.foldl_counterStopped s.xt32mLost.xt32mCounters
  obtain ⟨l, c, hlost⟩ := s.xt32mLost_frame
  exact ⟨v, c, p, by rw [State.xt32mCounted, hcnt, hlost]⟩

theorem State.xt32mCounted_flags : s.xt32mCounted.flag F.CLK_STAT_XT32MOK = false ∧ s.xt32mCounted.flag F.CLK_STAT_XT32MFAIL = true ∧
    s.xt32mCounted.clk.xt32mFailed = true := by
  obtain ⟨v, p, hcnt, hreg⟩ := s.xt32mLost.foldl_counterStopped s.xt32mLost.xt32mCounters
  obtain ⟨hok, hfail, hfailed⟩ := s.xt32mLost_flags
  have hflag : ∀ f : Fld, f.addr < 0x40008000 → s.xt32mCounted.flag f = s.xt32mLost.flag f := fun f hf =>
    State.flag_of_reg (by rw [State.xt32mCounted, hcnt, ← hreg _ hf, State.reg])
  rw [hflag _ (by decide), hflag _ (by decide)]
  refine ⟨hok, hfail, ?_⟩
  rw [State.xt32mCounted, hcnt]
  exact hfailed

/-- The islands that need XT32M, the radio and the burst island, go dark where they are lit (02 R96). -/
def State.xt32mIslands (s : State) : State := (s.beginQuiesce .radio false).burstOff

theorem State.xt32mIslands_frame : ∃ i w, s.xt32mIslands = { s with isl := i, ledger := { s.ledger with win := w } } := by
  obtain ⟨i, w, h⟩ := s.beginQuiesce_frame .radio false
  obtain ⟨j, x, h'⟩ := (s.beginQuiesce .radio false).burstOff_frame
  exact ⟨j, x, by rw [State.xt32mIslands, h', h]⟩

theorem State.xt32mIslands_radio (h : s.lit .radio = true) : (s.xt32mIslands.island .radio).st = .quiescing := by
  rw [State.xt32mIslands, State.island_burstOff _ _ (by decide), s.beginQuiesce_st false h]

theorem State.xt32mIslands_burst (h : s.lit .burst = true) : (s.xt32mIslands.island .burst).st = .quiescing := by
  have hlit : (s.beginQuiesce .radio false).lit .burst = true := by
    rw [State.lit, s.island_beginQuiesce _ _ _ (by decide)]
    exact h
  rw [State.xt32mIslands, State.burstOff_lit _ hlit, State.beginQuiesce_st _ false hlit]

/-- XT32M out of its range in a tick, with no thread to tell: the clock controller's part, then the counters', then the islands' (02 R95, R96). -/
theorem execXt32mFail_eq {n : Nat} (hon : s.on = true) (hw : s.xt32mWanted = true) (hok : s.flag F.CLK_STAT_XT32MOK = true)
    (hn : n < 850 ∨ 1100 < n) (hmask : s.fld F.PWR_ROUTE_TMASK = 0) : execXt32mFail n s =
      ok s.xt32mCounted.xt32mIslands := by
  have hmask' : ((s.clrFld F.CLK_STAT_XT32MOK).setBit F.CLK_STAT_XT32MFAIL).fld F.PWR_ROUTE_TMASK = 0 :=
    (State.fld_of_reg ((State.reg_setFld_ne _ _ _ _ (by decide)).trans (State.reg_setFld_ne _ _ _ _ (by decide)))).trans hmask
  have hrange : (decide (n < 850) || decide (1100 < n)) = true := by simpa using hn
  unfold execXt32mFail
  rw [if_pos (by simp [hon, hw, hok, hrange])]
  dsimp only
  rw [State.systemTo_zero _ hmask']
  rfl

/-- XT32M confirmed: XT32MOK rises, a reference that is committed falls due, counters that had lost their source count again (02 R704, R717). -/
def State.xt32mBack (s : State) : State :=
  { s.setBit F.CLK_STAT_XT32MOK with
    clk := { s.clk with refDue := s.flag F.CLK_FLL_REF && !s.clk.xt32mFailed && !s.clk.onXt32m },
    cnt := (s.setBit F.CLK_STAT_XT32MOK).xt32mCounters.foldl (fun v n => vset v n { vget v n with stopped := false }) s.cnt }

theorem execXt32mConfirmed_eq {n : Nat} (hon : s.on = true) (hw : s.xt32mWanted = true) (hok : s.flag F.CLK_STAT_XT32MOK = false)
    (hlo : 850 ≤ n) (hhi : n ≤ 1100) : execXt32mConfirmed n s = ok s.xt32mBack := by
  have hset : (s.setBit F.CLK_STAT_XT32MOK).flag F.CLK_STAT_XT32MOK = true :=
    s.flag_setBit_self _ (by simp [Fld.fits, F.CLK_STAT_XT32MOK]) (by decide)
  have href : (s.setBit F.CLK_STAT_XT32MOK).flag F.CLK_FLL_REF = s.flag F.CLK_FLL_REF :=
    State.flag_of_reg (State.reg_setFld_ne _ _ _ _ (by decide))
  have hdue : (s.setBit F.CLK_STAT_XT32MOK).fllOnXt = (s.flag F.CLK_FLL_REF && !s.clk.xt32mFailed) := by
    rw [State.fllOnXt, hset, href, Bool.and_true]
    rfl
  unfold execXt32mConfirmed
  rw [if_pos (by simp [hon, hw, hok, hlo, hhi])]
  dsimp only
  rw [hdue]
  rfl

/-- XT32 is given up for LFRC (02 R94, R718). -/
def State.xt32Gone (s : State) : State :=
  { ((s.clrFld F.CLK_STAT_VSRC).clrFld F.CLK_STAT_XT32OK).setBit F.CLK_STAT_XT32FAIL with clk := { s.clk with switchDue := false } }

theorem State.xt32Gone_flags : s.xt32Gone.flag F.CLK_STAT_VSRC = false ∧ s.xt32Gone.flag F.CLK_STAT_XT32OK = false ∧
    s.xt32Gone.flag F.CLK_STAT_XT32FAIL = true := by
  have hflag : ∀ f, s.xt32Gone.flag f = (((s.clrFld F.CLK_STAT_VSRC).clrFld F.CLK_STAT_XT32OK).setBit F.CLK_STAT_XT32FAIL).flag f :=
    fun _ => rfl
  rw [hflag, hflag, hflag, State.flag_setBit_other _ _ _ (by decide), State.flag_clrFld_other _ _ _ (by decide),
    s.flag_clrFld_self _ (by simp [Fld.fits, F.CLK_STAT_VSRC]), State.flag_setBit_other _ _ _ (by decide),
    State.flag_clrFld_self _ _ (by simp [Fld.fits, F.CLK_STAT_XT32OK]),
    State.flag_setBit_self _ _ (by simp [Fld.fits, F.CLK_STAT_XT32FAIL]) (by decide)]
  exact ⟨rfl, rfl, rfl⟩

theorem State.reg_xt32Gone {a : Nat} (h : a ≠ F.CLK_STAT_VSRC.addr) : s.xt32Gone.reg a = s.reg a := by
  have hreg : s.xt32Gone.reg a = (((s.setFld F.CLK_STAT_VSRC 0).setFld F.CLK_STAT_XT32OK 0).setFld F.CLK_STAT_XT32FAIL 1).reg a := rfl
  have hok : a ≠ F.CLK_STAT_XT32OK.addr := h
  have hfail : a ≠ F.CLK_STAT_XT32FAIL.addr := h
  rw [hreg, State.reg_setFld_ne _ _ _ _ hfail, State.reg_setFld_ne _ _ _ _ hok, State.reg_setFld_ne _ _ _ _ h]

/-- More than four missed cycles, with no thread to tell: XT32 is given up, and an FLL that follows the vigil clock slews (02 R94, R718). -/
theorem execXt32Fail_eq {n : Nat} (hvdd : s.power.vdd = true) (hok : s.flag F.CLK_STAT_XT32OK = true) (hn : 4 < n)
    (hmask : s.fld F.PWR_ROUTE_TMASK = 0) : execXt32Fail n s = ok s.xt32Gone.fllFollows := by
  have hmask' : s.xt32Gone.fllFollows.fld F.PWR_ROUTE_TMASK = 0 :=
    (State.fld_of_reg ((State.reg_fllFollows _ (by decide) (by decide)).trans (s.reg_xt32Gone (by decide)))).trans hmask
  unfold execXt32Fail
  rw [if_pos (by simp [hvdd, hok, hn])]
  exact congrArg ok (State.systemTo_zero s.xt32Gone.fllFollows hmask' 0x12 0)

/-- The vigil clock on XT32, the switch to it no longer due (02 R703). -/
def State.onXt32 (s : State) : State := { s.setBit F.CLK_STAT_VSRC with clk := { s.clk with switchDue := false } }

theorem execVigilClockSwitch_eq (hvdd : s.power.vdd = true) (hd : s.clk.switchDue = true) (hok : s.flag F.CLK_STAT_XT32OK = true)
    (hsrc : s.flag F.CLK_STAT_VSRC = false) : execVigilClockSwitch s = ok s.onXt32.fllFollows := by
  unfold execVigilClockSwitch
  rw [if_pos (by simp [hvdd, hd, hok, hsrc])]
  rfl

end
end Sys2Proof.Machine

section
open Sys2Proof Sys2Proof.Machine

/-- Settles O33: each oscillator's command is a few register writes followed by the FLL's retarget, which leaves everything else as it was. -/
theorem clocksFollowTheirChecks : Obligations.ClocksFollowTheirChecks := by
  unfold Obligations.ClocksFollowTheirChecks
  intro s n
  refine ⟨fun hvdd hok hn hmask hq => ?_, fun hvdd hok hq => ?_, fun hvdd hd hok hsrc hq => ?_, fun hon hw hok hn hmask hq => ?_,
    fun hon hw hok hlo hhi hq => ?_, fun hon h2 hd hx hq => ?_, fun hon hlit hst hq => ?_⟩
  · obtain ⟨hsrc, hnok, hfail⟩ := s.xt32Gone_flags
    obtain ⟨hmem, hthr, hled⟩ := s.xt32Gone.fllFollows_core
    refine ⟨s.xt32Gone.fllFollows, ?_, ?_, ?_, ?_, State.fllFollows_switchDue _, hmem, hthr, hled⟩
    · rw [exec_xt32Fail, execXt32Fail_eq s hvdd hok hn hmask]
      exact ok_of _ (by rw [hled]; exact hq)
    · rw [State.flag_fllFollows _ (by decide) (by decide), hsrc]
    · rw [State.flag_fllFollows _ (by decide) (by decide), hnok]
    · rw [State.flag_fllFollows _ (by decide) (by decide), hfail]
  · have hauto : (s.setBit F.CLK_STAT_XT32OK).flag F.CLK_VSRC_AUTO = s.flag F.CLK_VSRC_AUTO :=
      State.flag_of_reg (State.reg_setFld_ne _ _ _ _ (by decide))
    simp only [exec_xt32Confirmed, execXt32Confirmed, hvdd, hok, hauto, Bool.not_false, Bool.and_self, if_true]
    exact ok_of _ hq
  · obtain ⟨hmem, hthr, hled⟩ := s.onXt32.fllFollows_core
    refine ⟨s.onXt32.fllFollows, ?_, ?_, State.fllFollows_switchDue _, hmem, hthr, hled⟩
    · rw [exec_vigilClockSwitch, execVigilClockSwitch_eq s hvdd hd hok hsrc]
      exact ok_of _ (by rw [hled]; exact hq)
    · rw [State.flag_fllFollows _ (by decide) (by decide)]
      exact s.flag_setBit_self _ (by simp [Fld.fits, F.CLK_STAT_VSRC]) (by decide)
  · obtain ⟨hnok, hfail, hfailed⟩ := s.xt32mCounted_flags
    obtain ⟨v, c, p, hcnt⟩ := s.xt32mCounted_frame
    obtain ⟨i, w, hisl⟩ := s.xt32mCounted.xt32mIslands_frame
    have hlit : ∀ j, s.xt32mCounted.lit j = s.lit j := fun j => by rw [hcnt]; rfl
    refine ⟨s.xt32mCounted.xt32mIslands, ?_, by rw [hisl]; exact hnok, by rw [hisl]; exact hfail, by rw [hisl]; exact hfailed,
      fun h => State.xt32mIslands_radio _ ((hlit _).trans h), fun h => State.xt32mIslands_burst _ ((hlit _).trans h),
      by rw [hisl, hcnt], by rw [hisl, hcnt]⟩
    rw [exec_xt32mFail, execXt32mFail_eq s hon hw hok hn hmask]
    refine ok_of _ ?_
    rw [hisl, hcnt]
    exact hq
  · refine ⟨s.xt32mBack, ?_, s.flag_setBit_self _ (by simp [Fld.fits, F.CLK_STAT_XT32MOK]) (by decide), rfl, fun a ha => ?_, rfl, rfl, rfl⟩
    · rw [exec_xt32mConfirmed, execXt32mConfirmed_eq s hon hw hok hlo hhi]
      exact ok_of _ hq
    · exact s.reg_setFld_ne _ _ _ (by simpa using ha)
  · obtain ⟨hmem, hthr, hled⟩ := s.fllRetarget_core
    refine ⟨s.fllRetarget, ?_, ?_, ?_, ?_, hmem, hthr, hled⟩
    · rw [exec_fllRefSwitch, execFllRefSwitch, if_pos (by simp [hon, h2, hd, hx])]
      exact ok_of _ (by rw [hled]; exact hq)
    · rw [s.fllRetarget_clk, State.fllTargets, hx]
    · rw [s.fllRetarget_clk, State.fllTargets, hx, if_pos rfl]
    · rw [s.fllRetarget_clk, State.fllTargets]
  · simp only [exec_fllLocked, execFllLocked]
    rw [if_pos (by simpa [hon, hlit] using hst)]
    exact ok_of _ hq

end

namespace Sys2Proof.Machine

/-! ## A first start that fails over a damaged span account -/

/-- The part on its way up after a full reset, its word of account 0x42 damaged, with thread 0 to be told of breaches (01 R55, R57). -/
def damagedRising : State :=
  ({ State.reset with ledger := { State.reset.ledger with parity := [(0x42, ())] } }.clrFld F.PWR_ROUTE_TMASK).setFld F.LDG_ROUTE_TMASK 1

theorem damagedRising_rises : damagedRising.firstRising = true ∧ damagedRising.fld F.PWR_ROUTE_TMASK = 0 := by decide +kernel

/-- The withdrawal of the steady island's spans checks that account, and its breach sets bit 23 of thread 0 (01 R26, R57; 05 Table 5.4). -/
theorem pendAfter_lightFail : pendAfter (exec (.lightFail .steady) damagedRising) = some 0x00800000 := by decide +kernel

theorem damagedRising_pend : (damagedRising.thr 0).pend = 0 := by decide +kernel

/-! ## A reset of the cipher island that rings a doorbell -/

/-- A finished block encryption of four bytes whose output lies over the PROD word of ring 0. -/
def cryptOverProd : Desc :=
  ⟨0, 0, ((((Vector.replicate 8 (⟨0, .int⟩ : TWord)).set 0 ⟨4, .int⟩).set 3 ⟨4, .int⟩).set 6 ⟨0x20001008, .addr⟩)⟩

/-- The cipher island is dark; a thread holds its lock, and a finished operation whose completion is still to be written has its output over PROD of
ring 0, a radio ring that is ON with its whole credit and its next index 0. -/
def cryptPending : State :=
  let s := ((({ State.reset with cip := { Cipher.reset with last := some cryptOverProd } }.setBit F.CIP_LOCK_HELD).setFld (F.QUE_RSTAT_STATE 0)
    ringOn).setFld (F.QUE_RCFG_UNIT 0) 4).setFld (F.QUE_RHDR_ADDR 0) (0x20001000 / 64)
  ((s.setRing 0 { Ring.off with base := 0x20001100, size := 16, cbase := 0x20001400, prod := 0xFFFF, cons := 0xFFFF }).setAcct 0
    ⟨16, 16, 0, 0⟩).clrFld F.LDG_CTL_BRACT

/-- The steady island runs there, and the radio island is dark. -/
theorem cryptPending_dark : cryptPending.steadyRuns = true ∧ (cryptPending.island .radio).st = .dark := by decide +kernel

theorem cryptPending_calm : cryptPending.calm := ⟨rfl, by decide +kernel, rfl⟩

/-- The state of the radio island after a command. -/
def radioAfter : Res → Option IslSt
  | .next u => some (u.island .radio).st
  | _ => none

/-- The reset breaks the lock, the operation's output is zeroed, and the zero stored to PROD is a doorbell, which lights the radio island
(02 R83; 06 R260; 12 R542, Table 12.6). -/
theorem radioAfter_islandReset : radioAfter (exec (.islandReset 0xA504) cryptPending) = some .lighting := by decide +kernel

end Sys2Proof.Machine

section
open Sys2Proof Sys2Proof.Machine

/-- Refutes O29: a first start that fails withdraws the steady island's spans, each withdrawal is checked (01 R26), and the breach found on an account
whose word is damaged sets bit 23 of a thread of LDG_ROUTE, where the statement has every thread as it was. -/
theorem not_islandsComeAndGo : ¬ Obligations.IslandsComeAndGo := by
  unfold Obligations.IslandsComeAndGo
  rintro ⟨-, hislands⟩
  obtain ⟨-, -, hfirst⟩ := hislands damagedRising .steady rfl
  obtain ⟨hrising, hmask⟩ := damagedRising_rises
  obtain ⟨u, hu, -, -, -, -, hthreads⟩ := hfirst rfl hmask hrising
  have hpend : (u.thr 0).pend = (damagedRising.thr 0).pend := by rw [State.thr, hthreads, State.thr]
  have hsome : some (u.thr 0).pend = some 0x00800000 := by
    rw [← pendAfter_lightFail, hu]
    rfl
  rw [hpend, damagedRising_pend] at hsome
  exact absurd hsome (by decide)

/-- Refutes O30: ISLAND_RESET of a dark cipher island breaks the lock (12 R542), which zeroes the output of the operation whose completion is pending
(12 Table 12.6); where that lies over a ring's PROD word the zero is a doorbell (06 R260) and lights the ring's island, dark and not named, where the
statement has it dark as before. -/
theorem not_quiesceTakesIslandsDown : ¬ Obligations.QuiesceTakesIslandsDown := by
  unfold Obligations.QuiesceTakesIslandsDown
  rintro ⟨-, -, hreset⟩
  obtain ⟨hruns, hdark⟩ := cryptPending_dark
  obtain ⟨-, hkey⟩ := hreset cryptPending 0xA504 hruns
  obtain ⟨u, -, ⟨-, -, hstays, -⟩, hcalm⟩ := hkey (by decide)
  have hst : (u.island .radio).st = .dark := (hstays .radio (by decide) (Or.inr (Or.inr hdark))).trans hdark
  have hsome : some (u.island .radio).st = some .lighting := by
    rw [← radioAfter_islandReset, hcalm cryptPending_calm]
    rfl
  rw [hst] at hsome
  exact absurd hsome (by decide)

end

/-! ## Words: the long form and the paired form, decoded and encoded -/

namespace Sys2Proof

/-! ### The fields of a long word -/

/-- A word of the long form, put together from its fields (04 Table 4.6). -/
def longWord (c : BitVec 4) (op : BitVec 7) (rd ra rb low : BitVec 5) : Word := 0#1 ++ c ++ op ++ rd ++ ra ++ rb ++ low

/-- The register that five bits name. -/
def regOf (b : BitVec 5) : Reg := b.toFin

theorem condOf_bits (c : Cond) : condOf c.bits = c := by cases c <;> rfl
theorem bits_condOf : ∀ b : BitVec 4, (condOf b).bits = b := by decide

/-- Two neighbouring fields of a word are one field. -/
theorem fields_join {n : Nat} (w : BitVec n) (lo len₁ len₂ : Nat) :
    w.extractLsb' (lo + len₁) len₂ ++ w.extractLsb' lo len₁ = w.extractLsb' lo (len₂ + len₁) :=
  BitVec.extractLsb'_append_extractLsb'_eq_extractLsb' rfl

/-- A word with bit [31] = 0 is made of the fields that the decoder reads. -/
theorem longWord_fields (w : Word) (h : w.msb = false) :
    longWord (w.extractLsb' 27 4) (w.extractLsb' 20 7) (w.extractLsb' 15 5) (w.extractLsb' 10 5) (w.extractLsb' 5 5) (w.extractLsb' 0 5) = w := by
  have htop : w.extractLsb' 31 1 = 0#1 := by
    apply BitVec.eq_of_getLsbD_eq
    intro i hi
    obtain rfl : i = 0 := by omega
    simpa [BitVec.msb_eq_getLsbD_last] using h
  unfold longWord
  rw [← htop, fields_join w 27 4 1, fields_join w 20 7 5, fields_join w 15 5 12, fields_join w 10 5 17, fields_join w 5 5 22, fields_join w 0 5 27]
  exact BitVec.extractLsb'_eq_self

section
variable (c : BitVec 4) (op : BitVec 7) (rd ra rb low : BitVec 5)

theorem longWord_cond : (longWord c op rd ra rb low).extractLsb' 27 4 = c := by
  unfold longWord
  iterate 5 rw [BitVec.extractLsb'_append_eq_of_le (by decide)]
  exact BitVec.extractLsb'_append_eq_right

theorem longWord_op : (longWord c op rd ra rb low).extractLsb' 20 7 = op := by
  unfold longWord
  iterate 4 rw [BitVec.extractLsb'_append_eq_of_le (by decide)]
  exact BitVec.extractLsb'_append_eq_right

theorem longWord_rd : (longWord c op rd ra rb low).extractLsb' 15 5 = rd := by
  unfold longWord
  iterate 3 rw [BitVec.extractLsb'_append_eq_of_le (by decide)]
  exact BitVec.extractLsb'_append_eq_right

theorem longWord_ra : (longWord c op rd ra rb low).extractLsb' 10 5 = ra := by
  unfold longWord
  iterate 2 rw [BitVec.extractLsb'_append_eq_of_le (by decide)]
  exact BitVec.extractLsb'_append_eq_right

theorem longWord_rb : (longWord c op rd ra rb low).extractLsb' 5 5 = rb := by
  unfold longWord
  rw [BitVec.extractLsb'_append_eq_of_le (by decide)]
  exact BitVec.extractLsb'_append_eq_right

theorem longWord_low : (longWord c op rd ra rb low).extractLsb' 0 5 = low := BitVec.extractLsb'_append_eq_right

/-- What the decoder reads of a word put together from fields. -/
theorem decodeLong_longWord (t : ThreadId) :
    decodeLong t (longWord c op rd ra rb low) =
      decodeOp op.toNat t (condOf c) (regOf rd) (regOf ra) (regOf rb) low (rb ++ low) (ra ++ (rb ++ low)) (rd ++ (ra ++ (rb ++ low))) := by
  have himm : (longWord c op rd ra rb low).extractLsb' 0 10 = rb ++ low := by
    rw [← fields_join _ 0 5 5, longWord_rb, longWord_low]
  have himm15 : (longWord c op rd ra rb low).extractLsb' 0 15 = ra ++ (rb ++ low) := by
    rw [← fields_join _ 0 10 5, longWord_ra, himm]
  have hoff : (longWord c op rd ra rb low).extractLsb' 0 20 = rd ++ (ra ++ (rb ++ low)) := by
    rw [← fields_join _ 0 15 5, longWord_rd, himm15]
  simp only [decodeLong, longWord_cond, longWord_op, longWord_low, himm, himm15, hoff]
  simp only [regAt, longWord_rd, longWord_ra, longWord_rb]
  rfl

end

/-! ### The formats -/

section
variable (c : Cond) (op : BitVec 7) (rd ra rb low : BitVec 5)

theorem wordL3_eq : wordL3 c op (regOf rd) (regOf ra) (regOf rb) = longWord c.bits op rd ra rb 0 := rfl

theorem wordLI_append : wordLI c op (regOf rd) (regOf ra) (rb ++ low) = longWord c.bits op rd ra rb low := by
  show 0#1 ++ c.bits ++ op ++ rd ++ ra ++ (rb ++ low) = 0#1 ++ c.bits ++ op ++ rd ++ ra ++ rb ++ low
  rw [BitVec.append_assoc (x₂ := rb), BitVec.cast_eq]

theorem wordLW_append : wordLW c op (regOf rd) (ra ++ (rb ++ low)) = longWord c.bits op rd ra rb low := by
  rw [← wordLI_append]
  show 0#1 ++ c.bits ++ op ++ rd ++ (ra ++ (rb ++ low)) = 0#1 ++ c.bits ++ op ++ rd ++ ra ++ (rb ++ low)
  rw [BitVec.append_assoc (x₂ := ra), BitVec.cast_eq]

theorem wordLB_append : wordLB c op (rd ++ (ra ++ (rb ++ low))) = longWord c.bits op rd ra rb low := by
  rw [← wordLW_append]
  show 0#1 ++ c.bits ++ op ++ (rd ++ (ra ++ (rb ++ low))) = 0#1 ++ c.bits ++ op ++ rd ++ (ra ++ (rb ++ low))
  rw [BitVec.append_assoc (x₂ := rd), BitVec.cast_eq]

end

section
variable (t : ThreadId) (c : Cond) (op : BitVec 7) (rd ra rb : Reg)

theorem decodeLong_wordL3 : decodeLong t (wordL3 c op rd ra rb) =
    decodeOp op.toNat t c rd ra rb 0 (regBits rb ++ 0#5) (regBits ra ++ (regBits rb ++ 0#5)) (regBits rd ++ (regBits ra ++ (regBits rb ++ 0#5))) := by
  have h := decodeLong_longWord c.bits op (regBits rd) (regBits ra) (regBits rb) 0 t
  rw [← wordL3_eq, condOf_bits] at h
  exact h

theorem decodeLong_wordLI (imm : BitVec 10) : decodeLong t (wordLI c op rd ra imm) =
    decodeOp op.toNat t c rd ra (regOf (imm.extractLsb' 5 5)) (imm.extractLsb' 0 5) imm (regBits ra ++ imm) (regBits rd ++ (regBits ra ++ imm)) := by
  have himm : imm.extractLsb' 5 5 ++ imm.extractLsb' 0 5 = imm := BitVec.extractLsb'_append_extractLsb'
  have h := decodeLong_longWord c.bits op (regBits rd) (regBits ra) (imm.extractLsb' 5 5) (imm.extractLsb' 0 5) t
  rw [← wordLI_append, himm, condOf_bits] at h
  exact h

theorem decodeLong_wordLW (imm : BitVec 15) : decodeLong t (wordLW c op rd imm) =
    decodeOp op.toNat t c rd (regOf (imm.extractLsb' 10 5)) (regOf (imm.extractLsb' 5 5)) (imm.extractLsb' 0 5) (imm.extractLsb' 0 10) imm
      (regBits rd ++ imm) := by
  have hlow : imm.extractLsb' 5 5 ++ imm.extractLsb' 0 5 = imm.extractLsb' 0 10 := fields_join imm 0 5 5
  have himm : imm.extractLsb' 10 5 ++ imm.extractLsb' 0 10 = imm := BitVec.extractLsb'_append_extractLsb'
  have h := decodeLong_longWord c.bits op (regBits rd) (imm.extractLsb' 10 5) (imm.extractLsb' 5 5) (imm.extractLsb' 0 5) t
  rw [← wordLW_append, hlow, himm, condOf_bits] at h
  exact h

theorem decodeLong_wordLB (off : BitVec 20) : decodeLong t (wordLB c op off) =
    decodeOp op.toNat t c (regOf (off.extractLsb' 15 5)) (regOf (off.extractLsb' 10 5)) (regOf (off.extractLsb' 5 5)) (off.extractLsb' 0 5)
      (off.extractLsb' 0 10) (off.extractLsb' 0 15) off := by
  have hlow : off.extractLsb' 5 5 ++ off.extractLsb' 0 5 = off.extractLsb' 0 10 := fields_join off 0 5 5
  have himm : off.extractLsb' 10 5 ++ off.extractLsb' 0 10 = off.extractLsb' 0 15 := fields_join off 0 10 5
  have hoff : off.extractLsb' 15 5 ++ off.extractLsb' 0 15 = off := BitVec.extractLsb'_append_extractLsb'
  have h := decodeLong_longWord c.bits op (off.extractLsb' 15 5) (off.extractLsb' 10 5) (off.extractLsb' 5 5) (off.extractLsb' 0 5) t
  rw [← wordLB_append, hlow, himm, hoff, condOf_bits] at h
  exact h

end

/-! ### From a word to its instruction and back -/

@[simp] theorem regOf_eq_zero (b : BitVec 5) : regOf b = 0 ↔ b = 0 := by
  constructor
  · intro h
    exact BitVec.eq_of_toNat_eq (congrArg Fin.val h)
  · rintro rfl
    rfl

/-- A field whose bits above the low ones are 0 is its low bits with zeros above them. -/
theorem zeros_append {hi lo : Nat} (v : BitVec (hi + lo)) (h : v.extractLsb' lo hi = 0) : 0#hi ++ v.extractLsb' 0 lo = v := by
  rw [← BitVec.ofNat_eq_ofNat, ← h, BitVec.extractLsb'_append_extractLsb']

/-! The immediate of ORL and MOVH is put together from the opcode's low bit and imm15. -/

theorem imm16_msb (b : BitVec 1) (imm : BitVec 15) : (b ++ imm : BitVec 16).msb = b.msb := by
  rw [BitVec.msb_append]
  rfl

theorem imm16_low (b : BitVec 1) (imm : BitVec 15) : (b ++ imm : BitVec 16).extractLsb' 0 15 = imm := BitVec.extractLsb'_append_eq_right

theorem imm16_join (v : BitVec 16) : BitVec.ofBool v.msb ++ v.extractLsb' 0 15 = v := by
  have hm : v.extractLsb' 15 1 = BitVec.ofBool v.msb := by
    apply BitVec.eq_of_getLsbD_eq
    intro i hi
    obtain rfl : i = 0 := by omega
    simp [BitVec.msb_eq_getLsbD_last]
  rw [← hm, fields_join v 0 15 1]
  exact BitVec.extractLsb'_eq_self

/-- A word that decodes spells the well-formed instruction it decodes to; of MFS, MTS and MKKEY the bits
of imm10 that are not examined are 0 (log 68). -/
theorem encode_decodeOp {t : ThreadId} {c : Cond} {op : BitVec 7} {rd ra rb low : BitVec 5} {i : Instr}
    (h : decodeOp op.toNat t c (regOf rd) (regOf ra) (regOf rb) low (rb ++ low) (ra ++ (rb ++ low)) (rd ++ (ra ++ (rb ++ low))) = some i)
    (hsr : 0x3C ≤ op.toNat ∧ op.toNat ≤ 0x3E → (rb ++ low : BitVec 10).extractLsb' 4 6 = 0) :
    i.wf = true ∧ encode i = some (longWord c.bits op rd ra rb low) := by
  rw [show longWord c.bits op rd ra rb low = longWord c.bits (BitVec.ofNat 7 op.toNat) rd ra rb low by rw [BitVec.ofNat_toNat, BitVec.setWidth_eq]]
  revert hsr
  generalize op.toNat = k at h ⊢
  unfold decodeOp at h
  split at h
  all_goals intro hsr; simp only [Option.ite_none_right_eq_some, Option.some.injEq, regOf_eq_zero, reduceCtorEq] at h
  -- Three registers, the bits below them 0.
  case h_1 | h_2 | h_3 | h_4 | h_5 | h_6 | h_7 | h_8 | h_9 | h_10 | h_11 | h_12 | h_13 | h_14 | h_15
      | h_41 | h_42 | h_50 | h_51 | h_52 | h_53 | h_54 =>
    obtain ⟨rfl, rfl⟩ := h
    exact ⟨rfl, rfl⟩
  -- Two or one of them, or none, the other fields 0.
  case h_16 | h_25 | h_27 | h_28 | h_46 | h_49 =>
    obtain ⟨⟨rfl, rfl⟩, rfl⟩ := h
    exact ⟨rfl, rfl⟩
  case h_45 =>
    obtain ⟨⟨rfl, rfl, rfl⟩, rfl⟩ := h
    exact ⟨rfl, rfl⟩
  case h_48 =>
    obtain ⟨⟨rfl, rfl, rfl, rfl⟩, rfl⟩ := h
    exact ⟨rfl, rfl⟩
  -- An immediate of ten bits.
  case h_17 | h_18 | h_19 | h_20 | h_33 | h_34 | h_35 | h_36 | h_37 | h_38 | h_39 | h_40 =>
    obtain rfl := h
    exact ⟨rfl, congrArg some (wordLI_append ..)⟩
  case h_26 =>
    obtain ⟨rfl, rfl⟩ := h
    exact ⟨rfl, congrArg some (wordLI_append c _ 0 ra rb low)⟩
  -- A shift by an immediate.
  case h_21 | h_22 | h_23 =>
    obtain ⟨hz, rfl⟩ := h
    refine ⟨rfl, congrArg some ?_⟩
    rw [zeros_append (hi := 5) (lo := 5) _ hz]
    exact wordLI_append ..
  -- RETAG: the target is one that a RETAG names.
  case h_24 =>
    obtain ⟨⟨hz, hg⟩, rfl⟩ := h
    refine ⟨hg, congrArg some ?_⟩
    rw [zeros_append (hi := 6) (lo := 4) _ hz]
    exact wordLI_append ..
  -- ORL and MOVH: the immediate's top bit is the opcode's low one.
  case h_29 | h_30 | h_31 | h_32 =>
    obtain rfl := h
    refine ⟨rfl, ?_⟩
    simp only [encode, imm16_msb, imm16_low]
    exact congrArg some (wordLW_append ..)
  case h_58 =>
    obtain rfl := h
    exact ⟨rfl, congrArg some (wordLW_append ..)⟩
  case h_47 =>
    obtain ⟨rfl, rfl⟩ := h
    exact ⟨rfl, congrArg some (wordLW_append c _ 0 ra rb low)⟩
  -- B and BL.
  case h_43 | h_44 =>
    obtain rfl := h
    exact ⟨rfl, congrArg some (wordLB_append ..)⟩
  -- MFS, MTS and MKKEY, of whose ten bits four are examined.
  case h_55 | h_57 =>
    obtain ⟨rfl, rfl⟩ := h
    refine ⟨rfl, congrArg some ?_⟩
    rw [zeros_append (hi := 6) (lo := 4) _ (hsr (by decide))]
    exact wordLI_append c _ rd 0 rb low
  case h_56 =>
    obtain ⟨rfl, rfl⟩ := h
    refine ⟨rfl, congrArg some ?_⟩
    rw [zeros_append (hi := 6) (lo := 4) _ (hsr (by decide))]
    exact wordLI_append c _ 0 ra rb low

/-- A word of the long form spells the well-formed instruction it decodes to. -/
theorem encode_decodeLong {t : ThreadId} {w : Word} {i : Instr} (hw : w.msb = false) (h : decodeLong t w = some i)
    (hsr : 0x3C ≤ (w.extractLsb' 20 7).toNat ∧ (w.extractLsb' 20 7).toNat ≤ 0x3E → w.extractLsb' 4 6 = 0) :
    i.wf = true ∧ encode i = some w := by
  have hfields := longWord_fields w hw
  have himm : w.extractLsb' 5 5 ++ w.extractLsb' 0 5 = w.extractLsb' 0 10 := fields_join w 0 5 5
  rw [← hfields, decodeLong_longWord] at h
  have hi := encode_decodeOp h (by rw [himm, BitVec.extractLsb'_extractLsb'_of_le (by decide)]; exact hsr)
  rw [bits_condOf, hfields] at hi
  exact hi

/-! An instruction decodes from the word that it has in its format. -/

section
variable {t : ThreadId} {c : Cond} {op : BitVec 7} {rd ra rb : Reg} {w : Word} {i : Instr}

theorem decodes_wordL3 (hw : some (wordL3 c op rd ra rb) = some w)
    (h : decodeOp op.toNat t c rd ra rb 0 (regBits rb ++ 0#5) (regBits ra ++ (regBits rb ++ 0#5))
      (regBits rd ++ (regBits ra ++ (regBits rb ++ 0#5))) = some i) :
    ∃ t, decodeLong t w = some i := by
  cases hw
  exact ⟨t, by rw [decodeLong_wordL3, h]⟩

theorem decodes_wordLI {imm : BitVec 10} (hw : some (wordLI c op rd ra imm) = some w)
    (h : decodeOp op.toNat t c rd ra (regOf (imm.extractLsb' 5 5)) (imm.extractLsb' 0 5) imm (regBits ra ++ imm)
      (regBits rd ++ (regBits ra ++ imm)) = some i) :
    ∃ t, decodeLong t w = some i := by
  cases hw
  exact ⟨t, by rw [decodeLong_wordLI, h]⟩

theorem decodes_wordLW {imm : BitVec 15} (hw : some (wordLW c op rd imm) = some w)
    (h : decodeOp op.toNat t c rd (regOf (imm.extractLsb' 10 5)) (regOf (imm.extractLsb' 5 5)) (imm.extractLsb' 0 5) (imm.extractLsb' 0 10) imm
      (regBits rd ++ imm) = some i) :
    ∃ t, decodeLong t w = some i := by
  cases hw
  exact ⟨t, by rw [decodeLong_wordLW, h]⟩

theorem decodes_wordLB {off : BitVec 20} (hw : some (wordLB c op off) = some w)
    (h : decodeOp op.toNat t c (regOf (off.extractLsb' 15 5)) (regOf (off.extractLsb' 10 5)) (regOf (off.extractLsb' 5 5)) (off.extractLsb' 0 5)
      (off.extractLsb' 0 10) (off.extractLsb' 0 15) off = some i) :
    ∃ t, decodeLong t w = some i := by
  cases hw
  exact ⟨t, by rw [decodeLong_wordLB, h]⟩

end

/-- An immediate of ten bits that has zeros above its low ones. -/
theorem imm10_fields {hi lo : Nat} (v : BitVec lo) : (0#hi ++ v).extractLsb' lo hi = 0 ∧ (0#hi ++ v).extractLsb' 0 lo = v :=
  ⟨BitVec.extractLsb'_append_eq_left, BitVec.extractLsb'_append_eq_right⟩

/-- Every well-formed instruction that has a word decodes from it. -/
theorem decodeLong_encode {i : Instr} {w : Word} (hwf : i.wf = true) (h : encode i = some w) : ∃ t : ThreadId, decodeLong t w = some i := by
  cases i
  case add t _ _ _ _ | sub t _ _ _ _ | and t _ _ _ _ | or t _ _ _ _ | xor t _ _ _ _ | shl t _ _ _ _ | shr t _ _ _ _ | sar t _ _ _ _ | mul t _ _ _ _ |
      mulhu t _ _ _ _ | mulhs t _ _ _ _ | divu t _ _ _ _ | divs t _ _ _ _ | remu t _ _ _ _ | rems t _ _ _ _ | ldwx t _ _ _ _ | stwx t _ _ _ _ |
      send t _ _ _ _ | bcopy t _ _ _ _ | bfill t _ _ _ _ | bcrc t _ _ _ _ | bretag t _ _ _ _ => exact decodes_wordL3 (t := t) h rfl
  case mov t _ _ _ | tagof t _ _ _ | cmp t _ _ _ | tst t _ _ _ | jlr t _ _ _ | wait t _ _ _ => exact decodes_wordL3 (t := t) h rfl
  case jr t _ _ => exact decodes_wordL3 (t := t) h rfl
  case wret t _ => exact decodes_wordL3 (t := t) h rfl
  case addi t _ _ _ _ | andi t _ _ _ _ | ori t _ _ _ _ | xori t _ _ _ _ | ldw t _ _ _ _ | stw t _ _ _ _ | ldhu t _ _ _ _ | ldhs t _ _ _ _ |
      ldbu t _ _ _ _ | ldbs t _ _ _ _ | sth t _ _ _ _ | stb t _ _ _ _ => exact decodes_wordLI (t := t) h rfl
  case cmpi t _ _ _ => exact decodes_wordLI (t := t) h rfl
  case shli t _ _ _ v | shri t _ _ _ v | sari t _ _ _ v =>
    obtain ⟨hz, hv⟩ := imm10_fields (hi := 5) v
    exact decodes_wordLI (t := t) h (by simp [decodeOp, hz, hv])
  case retag t _ _ _ v =>
    obtain ⟨hz, hv⟩ := imm10_fields (hi := 6) v
    have hg : tagNames v = true := hwf
    exact decodes_wordLI (t := t) h (by simp [decodeOp, hz, hv, hg])
  case mfs t _ _ v | mts t _ _ v | mkkey t _ _ v =>
    obtain ⟨hz, hv⟩ := imm10_fields (hi := 6) v
    exact decodes_wordLI (t := t) h (by simp [decodeOp, hv])
  case orl t _ _ v | movh t _ _ v =>
    have hv := imm16_join v
    cases hm : v.msb <;> simp only [encode, hm, Bool.false_eq_true, if_true, if_false] at h <;> rw [hm] at hv
    · exact decodes_wordLW (t := t) h (congrArg some (congrArg _ hv))
    · exact decodes_wordLW (t := t) h (congrArg some (congrArg _ hv))
  case sys t _ _ => exact decodes_wordLW (t := t) h rfl
  case adrc t _ _ _ => exact decodes_wordLW (t := t) h rfl
  case b t _ _ | bl t _ _ => exact decodes_wordLB (t := t) h rfl
  all_goals cases h

/-! ### The paired form -/

/-- The bits of a short operation, put together from its fields (04 Table 4.7). -/
def shortWord (sop : BitVec 5) (d r : BitVec 4) (k : BitVec 2) : BitVec 15 := sop ++ d ++ r ++ k

/-- What the decoder reads of a half put together from fields. -/
theorem decodeShort_shortWord (sop : BitVec 5) (d r : BitVec 4) (k : BitVec 2) :
    decodeShort (shortWord sop d r k) = decodeSop sop.toNat d.toFin r.toFin k (r ++ k) (d ++ (r ++ k)) (condOf d) := by
  have hsop : (shortWord sop d r k).extractLsb' 10 5 = sop := by
    unfold shortWord
    iterate 2 rw [BitVec.extractLsb'_append_eq_of_le (by decide)]
    exact BitVec.extractLsb'_append_eq_left
  have hd : (shortWord sop d r k).extractLsb' 6 4 = d := by
    unfold shortWord
    iterate 2 rw [BitVec.extractLsb'_append_eq_of_le (by decide)]
    exact BitVec.extractLsb'_append_eq_right
  have hr : (shortWord sop d r k).extractLsb' 2 4 = r := by
    unfold shortWord
    rw [BitVec.extractLsb'_append_eq_of_le (by decide)]
    exact BitVec.extractLsb'_append_eq_right
  have hk : (shortWord sop d r k).extractLsb' 0 2 = k := BitVec.extractLsb'_append_eq_right
  have himm : (shortWord sop d r k).extractLsb' 0 6 = r ++ k := by rw [← fields_join _ 0 2 4, hr, hk]
  have hoff : (shortWord sop d r k).extractLsb' 0 10 = d ++ (r ++ k) := by rw [← fields_join _ 0 6 4, hd, himm]
  simp only [decodeShort, sregAt, hsop, hd, hr, hk, himm, hoff]
  rfl

/-- An immediate of six bits is put together from the fields where the word has it. -/
theorem imm6_join (v : BitVec 6) : v.extractLsb' 2 4 ++ v.extractLsb' 0 2 = v := BitVec.extractLsb'_append_extractLsb'

theorem append_imm6 (sop : BitVec 5) (d : BitVec 4) (v : BitVec 6) : sop ++ d ++ v = shortWord sop d (v.extractLsb' 2 4) (v.extractLsb' 0 2) := by
  unfold shortWord
  rw [BitVec.append_assoc (x₁ := sop ++ d), imm6_join, BitVec.cast_eq]

theorem decodeShort_shortReg (sop : BitVec 5) (d r : SReg) (k : BitVec 2) :
    decodeShort (shortReg sop d r k) = decodeSop sop.toNat d r k (sregBits r ++ k) (sregBits d ++ (sregBits r ++ k)) (condOf (sregBits d)) :=
  decodeShort_shortWord sop (sregBits d) (sregBits r) k

theorem decodeShort_imm6 (sop : BitVec 5) (d : BitVec 4) (v : BitVec 6) :
    decodeShort (sop ++ d ++ v) = decodeSop sop.toNat d.toFin (v.extractLsb' 2 4).toFin (v.extractLsb' 0 2) v (d ++ v) (condOf d) := by
  rw [append_imm6, decodeShort_shortWord, imm6_join]

theorem decodeShort_off10 (sop : BitVec 5) (off : BitVec 10) :
    decodeShort (sop ++ off) = decodeSop sop.toNat (off.extractLsb' 6 4).toFin (off.extractLsb' 2 4).toFin
      (off.extractLsb' 0 2) (off.extractLsb' 0 6) off
      (condOf (off.extractLsb' 6 4)) := by
  have hlow : (off.extractLsb' 0 6).extractLsb' 2 4 = off.extractLsb' 2 4 := BitVec.extractLsb'_extractLsb'_of_le (by decide)
  have hlow' : (off.extractLsb' 0 6).extractLsb' 0 2 = off.extractLsb' 0 2 := BitVec.extractLsb'_extractLsb'_of_le (by decide)
  have hoff : off.extractLsb' 6 4 ++ off.extractLsb' 0 6 = off := BitVec.extractLsb'_append_extractLsb'
  have h := decodeShort_imm6 sop (off.extractLsb' 6 4) (off.extractLsb' 0 6)
  rw [BitVec.append_assoc, BitVec.cast_eq, hoff, hlow, hlow'] at h
  exact h

/-- A shift's amount lies below a zero. -/
theorem amount_fields (v : BitVec 5) : (0#1 ++ v : BitVec 6).msb = false ∧ (0#1 ++ v : BitVec 6).extractLsb' 0 5 = v := by
  refine ⟨?_, BitVec.extractLsb'_append_eq_right⟩
  rw [BitVec.msb_append]
  rfl

/-- Every short operation decodes from its bits, but for a BC that names TV, which has none (04 R172). -/
theorem decodeShort_encodeShort (o : Short) (h : ∀ off, o ≠ .bc .tv off) : decodeShort (encodeShort o) = some o := by
  cases o
  case nop => rfl
  case mov | add | sub | and | or | xor | cmp | tst | neg | not | ldw | stw | tagof => exact decodeShort_shortReg ..
  case jr => exact decodeShort_shortReg ..
  case movi | addi | cmpi => exact decodeShort_imm6 ..
  case shli d v | shri d v | sari d v =>
    obtain ⟨hm, hv⟩ := amount_fields v
    refine (decodeShort_imm6 ..).trans ?_
    simp only [decodeSop, hm, hv]
    rfl
  case bc c off =>
    have hc : c ≠ .tv := fun e => h off (e ▸ rfl)
    refine (decodeShort_imm6 ..).trans ?_
    simp only [decodeSop, condOf_bits, hc]
    rfl
  case br off => exact decodeShort_off10 ..

/-- The halves of a paired word lie in bits [30:16] and [15:1] (04 R170). -/
theorem wordPair_fields (a b : Short) : (wordPair a b).msb = true ∧ (wordPair a b).getLsbD 0 = false ∧
    (wordPair a b).extractLsb' 16 15 = encodeShort a ∧ (wordPair a b).extractLsb' 1 15 = encodeShort b := by
  refine ⟨?_, ?_, ?_, ?_⟩ <;> unfold wordPair
  · iterate 3 rw [BitVec.msb_append]
    rfl
  · rw [BitVec.getLsbD_append]
    rfl
  · iterate 2 rw [BitVec.extractLsb'_append_eq_of_le (by decide)]
    exact BitVec.extractLsb'_append_eq_right
  · rw [BitVec.extractLsb'_append_eq_of_le (by decide)]
    exact BitVec.extractLsb'_append_eq_right

theorem decodeWord_wordPair (t : ThreadId) {a b : Short} (ha : ∀ off, a ≠ .bc .tv off) (hb : ∀ off, b ≠ .bc .tv off) :
    decodeWord t (wordPair a b) = if a.branches = true ∧ b.branches = true then .illpair else .pair a b := by
  obtain ⟨hm, h0, hA, hB⟩ := wordPair_fields a b
  simp only [decodeWord, hm, h0, hA, hB, decodeShort_encodeShort a ha, decodeShort_encodeShort b hb, decodePair, Bool.and_eq_true, if_true,
    Bool.false_eq_true, if_false]

end Sys2Proof

section
open Sys2Proof Sys2Proof.Machine

/-- Settles O6, from the fields of a word: the decoder reads back what the encoder put together, and a decoded word is put together
again from what was read. -/
theorem wordsDecodeAndEncode : Obligations.WordsDecodeAndEncode :=
  ⟨fun _ _ hwf h => decodeLong_encode hwf h, fun _ _ _ hw h hsr => encode_decodeLong hw h hsr, fun t _ _ ha hb => decodeWord_wordPair t ha hb⟩

/-- Settles O7, by decoding each word. -/
theorem specWordsDecode : Obligations.SpecWordsDecode := fun _ => ⟨rfl, rfl, rfl, rfl, rfl, rfl⟩

end

/-! ## Computing instructions: what they compute -/

namespace Sys2Proof.Machine

section
variable (a b : Word) (n : Nat)

theorem ofInt_toNat : BitVec.ofInt 32 (a.toNat : Int) = a := by
  rw [BitVec.ofInt_natCast, BitVec.ofNat_toNat, BitVec.setWidth_eq]

theorem add_eq_ofInt : a + b = BitVec.ofInt 32 (a.toNat + b.toNat) := by
  rw [BitVec.ofInt_add, ofInt_toNat, ofInt_toNat]

theorem sub_eq_ofInt : a - b = BitVec.ofInt 32 (a.toNat - b.toNat) := by
  rw [Int.sub_eq_add_neg, BitVec.ofInt_add, BitVec.ofInt_neg, ofInt_toNat, ofInt_toNat, BitVec.sub_eq_add_neg]

theorem mul_eq_ofInt : a * b = BitVec.ofInt 32 (a.toNat * b.toNat) := by
  rw [BitVec.ofInt_mul, ofInt_toNat, ofInt_toNat]

theorem and_eq_ofInt : a &&& b = BitVec.ofInt 32 ((a.toNat &&& b.toNat : Nat) : Int) := by
  rw [← BitVec.toNat_and, ofInt_toNat]

theorem or_eq_ofInt : a ||| b = BitVec.ofInt 32 ((a.toNat ||| b.toNat : Nat) : Int) := by
  rw [← BitVec.toNat_or, ofInt_toNat]

theorem xor_eq_ofInt : a ^^^ b = BitVec.ofInt 32 ((a.toNat ^^^ b.toNat : Nat) : Int) := by
  rw [← BitVec.toNat_xor, ofInt_toNat]

/-- A left shift multiplies by a power of two; from 32 on nothing is left. -/
theorem shiftLeft_eq_ofInt : shiftLeft a n = BitVec.ofInt 32 (a.toNat * 2 ^ n) := by
  rw [show (a.toNat * 2 ^ n : Int) = ((a.toNat * 2 ^ n : Nat) : Int) by push_cast; rfl, BitVec.ofInt_natCast]
  unfold shiftLeft
  split
  · apply BitVec.eq_of_toNat_eq
    rw [BitVec.toNat_shiftLeft, BitVec.toNat_ofNat, Nat.shiftLeft_eq]
  · have hd : 2 ^ 32 ∣ a.toNat * 2 ^ n := Dvd.dvd.mul_left (Nat.pow_dvd_pow 2 (by omega)) _
    apply BitVec.eq_of_toNat_eq
    rw [BitVec.toNat_ofNat, Nat.mod_eq_zero_of_dvd hd]
    rfl

/-- A right shift divides by a power of two. -/
theorem shiftRight_eq_ofInt : shiftRight a n = BitVec.ofInt 32 ((a.toNat / 2 ^ n : Nat) : Int) := by
  rw [BitVec.ofInt_natCast]
  unfold shiftRight
  have hlt : a.toNat < 2 ^ 32 := a.isLt
  split
  · apply BitVec.eq_of_toNat_eq
    rw [BitVec.toNat_ushiftRight, BitVec.toNat_ofNat, Nat.shiftRight_eq_div_pow, Nat.mod_eq_of_lt (Nat.lt_of_le_of_lt (Nat.div_le_self _ _) hlt)]
  · rw [Nat.div_eq_of_lt (Nat.lt_of_lt_of_le hlt (Nat.pow_le_pow_right (by decide) (by omega)))]
    rfl

/-- A signed word over a power of two beyond its range is its sign. -/
theorem ediv_two_pow_of_large {x : Int} {m : Nat} (hm : 31 ≤ m) (hge : -2 ^ 31 ≤ x) (hlt : x < 2 ^ 31) : x / 2 ^ m = if x < 0 then -1 else 0 := by
  have hp : (2 : Int) ^ 31 ≤ 2 ^ m := by exact_mod_cast Nat.pow_le_pow_right (n := 2) (by decide) hm
  have hpos : (0 : Int) < 2 ^ m := by omega
  split
  · exact ((Int.ediv_emod_unique (r := x + 2 ^ m) hpos).mpr ⟨by omega, by omega, by omega⟩).1
  · exact Int.ediv_eq_zero_of_lt (by omega) (by omega)

/-- An arithmetic right shift divides the signed number, rounding down. -/
theorem shiftArith_eq_ofInt : shiftArith a n = BitVec.ofInt 32 (a.toInt / 2 ^ n) := by
  have hlt : a.toInt < 2 ^ 31 := BitVec.toInt_lt
  have hge : -2 ^ 31 ≤ a.toInt := BitVec.le_toInt a
  unfold shiftArith
  rw [← BitVec.ofInt_toInt (x := a.sshiftRight _), BitVec.toInt_sshiftRight, Int.shiftRight_eq_div_pow]
  by_cases hn : n ≤ 31
  · rw [Nat.min_eq_left hn]
    norm_cast
  · rw [Nat.min_eq_right (by omega), ediv_two_pow_of_large (by omega) hge hlt, ← ediv_two_pow_of_large (le_refl 31) hge hlt]
    rfl

theorem mulHighU_eq_ofInt : mulHighU a b = BitVec.ofInt 32 ((a.toNat * b.toNat / 2 ^ 32 : Nat) : Int) := by
  rw [BitVec.ofInt_natCast, mulHighU]

theorem mulHighS_eq_ofInt : mulHighS a b = BitVec.ofInt 32 (a.toInt * b.toInt / 2 ^ 32) := rfl

theorem quotU_eq_ofInt : quotU a b = BitVec.ofInt 32 (if b.toNat = 0 then 2 ^ 32 - 1 else ((a.toNat / b.toNat : Nat) : Int)) := by
  by_cases h : b = 0
  · subst h
    rfl
  · have h' : b.toNat ≠ 0 := fun e => h (BitVec.eq_of_toNat_eq e)
    rw [quotU, if_neg h, if_neg h', ← BitVec.toNat_udiv, ofInt_toNat]

theorem remU_eq_ofInt : remU a b = BitVec.ofInt 32 (if b.toNat = 0 then (a.toNat : Int) else ((a.toNat % b.toNat : Nat) : Int)) := by
  by_cases h : b = 0
  · subst h
    exact (ofInt_toNat a).symm
  · have h' : b.toNat ≠ 0 := fun e => h (BitVec.eq_of_toNat_eq e)
    rw [remU, if_neg h, if_neg h', ← BitVec.toNat_umod, ofInt_toNat]

theorem quotS_eq_ofInt : quotS a b = BitVec.ofInt 32 (if b.toInt = 0 then -1 else Int.tdiv a.toInt b.toInt) := by
  by_cases h : b = 0
  · subst h
    rfl
  · have h' : b.toInt ≠ 0 := fun e => h (BitVec.eq_of_toInt_eq e)
    rw [quotS, if_neg h, if_neg h']
    apply BitVec.eq_of_toInt_eq
    rw [BitVec.toInt_sdiv, BitVec.toInt_ofInt]

theorem remS_eq_ofInt : remS a b = BitVec.ofInt 32 (if b.toInt = 0 then a.toInt else Int.tmod a.toInt b.toInt) := by
  by_cases h : b = 0
  · subst h
    exact BitVec.ofInt_toInt.symm
  · have h' : b.toInt ≠ 0 := fun e => h (BitVec.eq_of_toInt_eq e)
    rw [remS, if_neg h, if_neg h', ← BitVec.toInt_srem, BitVec.ofInt_toInt]

end
end Sys2Proof.Machine

namespace Sys2Proof.Machine

/-! ## The course of an instruction: one register written, or the warden entered -/

section
variable {s : State} {t : ThreadId} {c : Cond} {cr rd ra rb : Reg} {body : State → Did}

@[simp] theorem FaultCode.sys_ne_tagFault (l : List Tag) : tagFault l ≠ .sys := by
  induction l with
  | nil => decide
  | cons g r ih => cases g <;> simp [tagFault, ih]

/-- The code of the first source that no row permits (04 R157). -/
theorem tagFault_two (a b : Tag) : (tagFault [a, b]).num =
    if a = .void then 0x20 else if a = .key then 0x21 else if b = .void then 0x20 else if b = .key then 0x21 else 0x22 := by
  cases a <;> cases b <;> rfl

theorem tagFault_one (a : Tag) : (tagFault [a]).num = if a = .void then 0x20 else if a = .key then 0x21 else 0x22 := by
  cases a <;> rfl

/-- A computation whose source tags Table 4.2 permits writes rd. -/
theorem State.alu_wrote {tag : Tag → Tag → Option Tag} {f : Word → Word → Word} {g : Tag} {v : Word} (h : s.ready t)
    (hc : condHolds (s.thr t) c ra = true) (hg : tag ((s.thr t).get ra).tag ((s.thr t).get rb).tag = some g)
    (hv : f ((s.thr t).get ra).data ((s.thr t).get rb).data = v) :
    s.alu t c rd ra rb tag f = .next (s.wrote t rd ⟨v, g⟩) :=
  State.instr_wrote h hc (by simp only [State.thr_clearBip, Thread.get_bip, hg, hv, State.result_some])

/-- So does one with an immediate, which is INT (04 R158). -/
theorem State.aluImm_wrote {tag : Tag → Tag → Option Tag} {f : Word → Word → Word} {imm : Word} {g : Tag} {v : Word} (h : s.ready t)
    (hc : condHolds (s.thr t) c ra = true) (hg : tag ((s.thr t).get ra).tag .int = some g) (hv : f ((s.thr t).get ra).data imm = v) :
    s.aluImm t c rd ra imm tag f = .next (s.wrote t rd ⟨v, g⟩) :=
  State.instr_wrote h hc (by simp only [State.thr_clearBip, Thread.get_bip, hg, hv, State.result_some])

end
end Sys2Proof.Machine

section
open Sys2Proof Sys2Proof.Machine

/-- Settles O8: each instruction is `State.alu` of its table row, and what it computes is the integer's word. -/
theorem threeRegisterArithmetic : Obligations.ThreeRegisterArithmetic := by
  intro s t c rd ra rb g h hc a b A B I J out
  exact ⟨fun hg => (exec_add ..).trans (State.alu_wrote h hc hg (add_eq_ofInt ..)),
    fun hg => (exec_sub ..).trans (State.alu_wrote h hc hg (sub_eq_ofInt ..)),
    fun hg => (exec_and ..).trans (State.alu_wrote h hc hg (and_eq_ofInt ..)),
    fun hg => (exec_or ..).trans (State.alu_wrote h hc hg (or_eq_ofInt ..)),
    fun hg => (exec_xor ..).trans (State.alu_wrote h hc hg (xor_eq_ofInt ..)),
    fun hg => (exec_shl ..).trans (State.alu_wrote h hc hg (shiftLeft_eq_ofInt ..)),
    fun hg => (exec_shr ..).trans (State.alu_wrote h hc hg (shiftRight_eq_ofInt ..)),
    fun hg => (exec_sar ..).trans (State.alu_wrote h hc hg (shiftArith_eq_ofInt ..)),
    fun hg => (exec_mul ..).trans (State.alu_wrote h hc hg (mul_eq_ofInt ..)),
    fun hg => (exec_mulhu ..).trans (State.alu_wrote h hc hg (mulHighU_eq_ofInt ..)),
    fun hg => (exec_mulhs ..).trans (State.alu_wrote h hc hg (mulHighS_eq_ofInt ..)),
    fun hg => (exec_divu ..).trans (State.alu_wrote h hc hg (quotU_eq_ofInt ..)),
    fun hg => (exec_divs ..).trans (State.alu_wrote h hc hg (quotS_eq_ofInt ..)),
    fun hg => (exec_remu ..).trans (State.alu_wrote h hc hg (remU_eq_ofInt ..)),
    fun hg => (exec_rems ..).trans (State.alu_wrote h hc hg (remS_eq_ofInt ..))⟩

end

namespace Sys2Proof.Machine

/-! ## Immediates, and the fields of a constant -/

section
variable (a : Word)

theorem add_sext_eq_ofInt {n : Nat} (imm : BitVec n) : a + sext n imm = BitVec.ofInt 32 (a.toNat + imm.toInt) := by
  rw [BitVec.ofInt_add, ofInt_toNat]
  rfl

/-- A displacement in words is four times its number. -/
theorem sext_words {n : Nat} (imm : BitVec n) : sext n imm <<< 2 = BitVec.ofInt 32 (4 * imm.toInt) := by
  rw [BitVec.shiftLeft_eq_mul_twoPow, BitVec.mul_comm, BitVec.ofInt_mul]
  rfl

theorem add_words_eq_ofInt {n : Nat} (imm : BitVec n) : a + (sext n imm <<< 2) = BitVec.ofInt 32 (a.toNat + 4 * imm.toInt) := by
  rw [BitVec.ofInt_add, ofInt_toNat, sext_words]

theorem toNat_widened {n : Nat} (hn : n ≤ 32) (imm : BitVec n) : (imm.setWidth 32).toNat = imm.toNat := BitVec.toNat_setWidth_of_le hn

theorem movh_eq_ofInt (imm : BitVec 16) : imm ++ 0#16 = BitVec.ofInt 32 (imm.toNat * 65536) := by
  rw [show (imm.toNat * 65536 : Int) = ((imm.toNat * 65536 : Nat) : Int) by push_cast; rfl, BitVec.ofInt_natCast]
  apply BitVec.eq_of_toNat_eq
  rw [BitVec.toNat_append, BitVec.toNat_ofNat, Nat.shiftLeft_eq, BitVec.toNat_ofNat, Nat.zero_mod, Nat.or_zero, Nat.mod_eq_of_lt (by omega)]

/-- A tag that a RETAG may name is its target (04 R153, Table 4.3). -/
theorem retagTarget_of_names : ∀ g : BitVec 4, tagNames g = true → retagTarget g.toNat = some (tagOf g.toNat) := by decide

end

section
variable {s : State} {t : ThreadId} {c : Cond} {rd ra rb : Reg}

/-- What an executed RETAG to a tag does (04 R154, R160). -/
def State.retagTo (s0 : State) (t : ThreadId) (rd ra : Reg) (g : Tag) : Did :=
  if g.minted && !(s0.thr t).mode then .fault s0 .priv 0
  else if ((s0.thr t).get ra).tag = .key then .fault s0 .tagKey 0
  else .done (s0.write t rd ⟨((s0.thr t).get ra).data, g⟩)

theorem execRetag_eq {tg : BitVec 4} (h : tagNames tg = true) :
    execRetag t c rd ra tg s = s.instr t c ra (fun s0 => s0.retagTo t rd ra (tagOf tg.toNat)) := by
  simp only [execRetag, retagTarget_of_names tg h]
  rfl

/-- A word of a register with a tag that is named. -/
theorem State.retagTo_done {s0 : State} {g : Tag} (hm : (s0.thr t).mode = true ∨ (g ≠ .addr ∧ g ≠ .code)) (hk : ((s0.thr t).get ra).tag ≠ .key) :
    s0.retagTo t rd ra g = .done (s0.write t rd ⟨((s0.thr t).get ra).data, g⟩) := by
  have hmint : (g.minted && !(s0.thr t).mode) = false := by
    rcases hm with hm | ⟨ha, hc⟩
    · simp [hm]
    · simp [Tag.minted, ha, hc]
  simp only [State.retagTo, hmint, hk, Bool.false_eq_true, if_false]

end
end Sys2Proof.Machine

section
open Sys2Proof Sys2Proof.Machine

/-- Settles O9: each form writes rd on a ready thread, and its immediate stands for the number the table gives. -/
theorem immediateAndMoveForms : Obligations.ImmediateAndMoveForms := by
  intro s t c rd ra imm sh i16 i15 tg g h x a A out
  refine ⟨fun hc => ⟨fun hg => ?_, fun hg => ?_, fun hg => ?_, fun hg => ?_, fun hg => ?_, fun hg => ?_, fun hg => ?_, ?_, ?_, fun hn hk hm => ?_⟩,
    fun hc => ⟨fun hg => ?_, ?_, ?_⟩⟩
  · exact (exec_addi ..).trans (State.aluImm_wrote h hc hg (add_sext_eq_ofInt ..))
  · exact (exec_andi ..).trans (State.aluImm_wrote h hc hg (and_eq_ofInt ..))
  · exact (exec_ori ..).trans (State.aluImm_wrote h hc hg ((or_eq_ofInt ..).trans (by rw [toNat_widened (by decide)])))
  · exact (exec_xori ..).trans (State.aluImm_wrote h hc hg ((xor_eq_ofInt ..).trans (by rw [toNat_widened (by decide)])))
  · exact (exec_shli ..).trans (State.aluImm_wrote h hc hg ((shiftLeft_eq_ofInt ..).trans (by rw [toNat_widened (by decide)])))
  · exact (exec_shri ..).trans (State.aluImm_wrote h hc hg ((shiftRight_eq_ofInt ..).trans (by rw [toNat_widened (by decide)])))
  · exact (exec_sari ..).trans (State.aluImm_wrote h hc hg ((shiftArith_eq_ofInt ..).trans (by rw [toNat_widened (by decide)])))
  · exact (exec_mov ..).trans (State.instr_wrote h hc (by simp only [State.thr_clearBip, Thread.get_bip]; rfl))
  · exact (exec_tagof ..).trans (State.instr_wrote h hc (by simp only [State.thr_clearBip, Thread.get_bip, BitVec.ofInt_natCast]; rfl))
  · rw [exec_retag, execRetag_eq hn]
    refine State.instr_wrote h hc ?_
    rw [State.retagTo_done (by simpa using hm) (by simpa using hk)]
    simp only [State.thr_clearBip, Thread.get_bip]
    rfl
  · refine (exec_orl ..).trans (State.instr_wrote h hc ?_)
    simp only [State.thr_clearBip, Thread.get_bip, hg, x, State.result_some, or_eq_ofInt, toNat_widened (show 16 ≤ 32 by decide)]
  · exact (exec_movh ..).trans (State.instr_wrote h hc (by rw [movh_eq_ofInt]))
  · exact (exec_adrc ..).trans (State.instr_wrote h hc (by rw [State.thr_clearBip, add_words_eq_ofInt]))

end

namespace Sys2Proof.Machine

/-! ## Flags -/

section
variable (a b : Word)

/-- Signed overflow of a sum or difference (04 Table 4.4). -/
def overflows (q : Int) : Bool := decide (q < -2 ^ 31 ∨ 2 ^ 31 ≤ q)

theorem msb_iff : a.msb = decide (a.toInt < 0) := BitVec.msb_eq_toInt

/-- A signed number of 32 bits after it has been wrapped around once. -/
theorem bmod_word {q : Int} (h : -2 ^ 32 ≤ q ∧ q < 2 ^ 32) :
    Int.bmod q (2 ^ 32) = if q < -2 ^ 31 then q + 2 ^ 32 else if 2 ^ 31 ≤ q then q - 2 ^ 32 else q := by
  rw [Int.bmod_def]
  split_ifs <;> omega

/-- SUB overflows where the operands' signs differ and the result's is not the first one's. -/
theorem sub_overflows : (a.msb != b.msb && (a - b).msb != a.msb) = overflows (a.toInt - b.toInt) := by
  have ha := BitVec.toInt_lt (x := a)
  have ha' := BitVec.le_toInt a
  have hb := BitVec.toInt_lt (x := b)
  have hb' := BitVec.le_toInt b
  rw [msb_iff, msb_iff b, msb_iff (a - b), BitVec.toInt_sub, bmod_word (by omega), overflows, Bool.eq_iff_iff]
  simp only [Bool.and_eq_true, bne_iff_ne, ne_eq, decide_eq_decide, decide_eq_true_eq]
  split_ifs <;> omega

theorem add_overflows : (a.msb == b.msb && (a + b).msb != a.msb) = overflows (a.toInt + b.toInt) := by
  have ha := BitVec.toInt_lt (x := a)
  have ha' := BitVec.le_toInt a
  have hb := BitVec.toInt_lt (x := b)
  have hb' := BitVec.le_toInt b
  rw [msb_iff, msb_iff b, msb_iff (a + b), BitVec.toInt_add, bmod_word (by omega), overflows, Bool.eq_iff_iff]
  simp only [Bool.and_eq_true, bne_iff_ne, beq_iff_eq, ne_eq, decide_eq_decide, decide_eq_true_eq]
  split_ifs <;> omega

theorem flagsSub_eq : flagsSub a b = (a - b == 0, (a - b).msb, some (decide (b.toNat ≤ a.toNat)), some (overflows (a.toInt - b.toInt))) := by
  simp only [flagsSub, sub_overflows]

theorem flagsAdd_eq : flagsAdd a b = (a + b == 0, (a + b).msb, some (decide (2 ^ 32 ≤ a.toNat + b.toNat)), some (overflows (a.toInt + b.toInt))) := by
  simp only [flagsAdd, add_overflows]

/-- N and V differ where the first number is the less of the two. -/
theorem sub_less : ((a - b).msb ≠ overflows (a.toInt - b.toInt)) ↔ a.toInt < b.toInt := by
  have ha := BitVec.toInt_lt (x := a)
  have ha' := BitVec.le_toInt a
  have hb := BitVec.toInt_lt (x := b)
  have hb' := BitVec.le_toInt b
  rw [msb_iff, BitVec.toInt_sub, bmod_word (by omega), overflows, ne_eq, decide_eq_decide]
  split_ifs <;> omega

/-- CMP of two SEQ or two TIME words goes by their distance (01 R31); every other by their difference. -/
theorem flagsCmp_serial {p q : TWord} (h : p.tag = q.tag) (hs : p.tag = .seq ∨ p.tag = .time) : flagsCmp p q = flagsSerial p.data q.data := by
  rcases hs with hs | hs <;> simp [flagsCmp, ← h, hs]

theorem flagsCmp_plain {p q : TWord} (h : ¬(p.tag = q.tag ∧ (p.tag = .seq ∨ p.tag = .time))) : flagsCmp p q = flagsSub p.data q.data := by
  refine if_neg ?_
  rintro (⟨hp, hq⟩ | ⟨hp, hq⟩)
  · exact h ⟨hp.trans hq.symm, Or.inl hp⟩
  · exact h ⟨hp.trans hq.symm, Or.inr hp⟩

end

/-! ## Instructions that write flags only, or fault -/

section
variable {s : State} {t : ThreadId} {c : Cond} {cr rd ra rb : Reg} {body : State → Did}

/-- A thread past a word that sets flags. -/
def Thread.flagsSet (x : Thread) (f : FlagSet) : Thread :=
  { x with z := f.1, n := f.2.1, c := f.2.2.1.getD x.c, v := f.2.2.2.getD x.v, pc := x.pc + 4, bip := false, issued := Held.no }

@[simp] theorem State.clearBip_setThr (y : Thread) : (s.clearBip t).setThr t y = s.setThr t y := State.setThr_setThr _ _ _ _

/-- An instruction that sets flags and nothing else. -/
theorem State.instr_flags {f : FlagSet} {l : List Tag} (h : s.ready t) (hc : condHolds (s.thr t) c cr = true)
    (hb : body (s.clearBip t) = (s.clearBip t).flagged t f true l) : s.instr t c cr body = .next (s.setThr t ((s.thr t).flagsSet f)) := by
  refine State.instr_done h hc (hb.trans ?_) (by simpa [Thread.flagsSet] using h.2.2.2.2) rfl
  simp only [State.flagged, if_true, State.thr_clearBip, State.clearBip_setThr]
  rfl

/-- The thread as it enters its warden over a fault with a code, reporting an address (05 R212). -/
def Thread.warden (x : Thread) (code : Nat) (addr target : Word) : Thread :=
  { x with epc := x.pc, ecause := BitVec.ofNat 32 code, eaddr := addr, pmode := x.mode, mode := true, ent := true, bip := false,
           issued := Held.no, pc := target }

/-- The warden's entry point. -/
def State.entry (s : State) (t : ThreadId) : Word := BitVec.ofNat 32 (s.fld (F.EVT_TENT_ADDR t.val) * 4)

theorem causeWord_plain (f : FaultCode) : causeWord f false false false 0 = BitVec.ofNat 32 f.num := by
  simp [causeWord]

/-- An instruction that faults over nothing but its own registers enters the warden, and changes nothing else. -/
theorem State.instr_warden {f : FaultCode} {a : Word} (h : s.ready t) (hc : condHolds (s.thr t) c cr = true) (he : (s.thr t).ent = false)
    (hv : s.flag (F.EVT_TENT_VALID t.val) = true) (hf : f ≠ .sys) (hb : body (s.clearBip t) = .fault (s.clearBip t) f a) :
    s.instr t c cr body = .next (s.setThr t ((s.thr t).warden f.num a (s.entry t))) := by
  rw [State.instr_enters h hc he hv hf hb, causeWord_plain]
  rfl

/-- A computation whose source tags Table 4.2 does not permit faults before anything is written. -/
theorem State.alu_warden {tag : Tag → Tag → Option Tag} {f : Word → Word → Word} (h : s.ready t) (hc : condHolds (s.thr t) c ra = true)
    (he : (s.thr t).ent = false) (hv : s.flag (F.EVT_TENT_VALID t.val) = true)
    (hg : tag ((s.thr t).get ra).tag ((s.thr t).get rb).tag = none) :
    s.alu t c rd ra rb tag f =
      .next (s.setThr t ((s.thr t).warden (tagFault [((s.thr t).get ra).tag, ((s.thr t).get rb).tag]).num 0 (s.entry t))) :=
  State.instr_warden h hc he hv (FaultCode.sys_ne_tagFault _) (by simp only [State.thr_clearBip, Thread.get_bip, hg, State.result_none])

end

/-! ## The tag table -/

/-- Every tag (04 Table 4.1). -/
def allTags : List Tag := [.void, .int, .addr, .code, .key, .time, .seq, .raw]

theorem mem_allTags (g : Tag) : g ∈ allTags := by cases g <;> decide

/-- What holds of every tag of the list holds of every tag. -/
theorem forall_tags {p : Tag → Prop} (h : ∀ g ∈ allTags, p g) (g : Tag) : p g := h g (mem_allTags g)

end Sys2Proof.Machine

section
open Sys2Proof Sys2Proof.Machine

/-- Settles O10: the three instructions set flags on a ready thread, and the flags are those of the difference, the distance or the conjunction. -/
theorem comparesSetFlags : Obligations.ComparesSetFlags := by
  intro s t c ra rb imm h hc x a b j flags plain d
  have hplain (p q : Word) : plain p q (p - q == 0) (p - q).msb (decide (q.toNat ≤ p.toNat)) (overflows (p.toInt - q.toInt)) :=
    ⟨by rw [beq_iff_eq, sub_eq_zero], decide_eq_true_iff, sub_less p q, rfl⟩
  refine ⟨fun ht hn => ?_, fun ht hs => ?_, fun ht => ?_, fun ht => ?_⟩
  · refine ⟨_, _, _, _, (exec_cmp ..).trans (State.instr_flags (f := flagsCmp a b) (l := [a.tag, b.tag]) h hc ?_), ?_⟩
    · simp only [State.thr_clearBip, Thread.get_bip, a, b, x, ht]
    · rw [flagsCmp_plain hn, flagsSub_eq]
      exact hplain a.data b.data
  · refine ⟨_, _, _, _, (exec_cmp ..).trans (State.instr_flags (f := flagsCmp a b) (l := [a.tag, b.tag]) h hc ?_), ?_⟩
    · have hcmp : tagCmp a.tag b.tag = true := by rcases hs with hs | hs <;> simp [← ht, hs, tagCmp]
      simp only [State.thr_clearBip, Thread.get_bip, a, b, x, hcmp]
    · rw [flagsCmp_serial ht hs]
      have hd : (b.data - a.data).toNat = d := by rw [BitVec.toNat_sub, Nat.add_comm]
      simp only [flagsSerial, hd, Option.getD_some, Bool.or_eq_true, beq_iff_eq, decide_eq_true_eq, and_self]
  · refine ⟨_, _, _, _, (exec_cmpi ..).trans (State.instr_flags (f := flagsSub a.data j) (l := [a.tag, .int]) h hc ?_), ?_⟩
    · simp only [State.thr_clearBip, Thread.get_bip, a, x, ht]
      rfl
    · rw [flagsSub_eq]
      exact hplain a.data j
  · refine ⟨_, _, _, _, (exec_tst ..).trans (State.instr_flags (f := flagsZN (a.data &&& b.data)) (l := [a.tag, b.tag]) h hc ?_), ?_⟩
    · simp only [State.thr_clearBip, Thread.get_bip, a, b, x, ht]
    · exact ⟨beq_iff_eq, rfl, rfl, rfl⟩

/-- Settles O11: the table by its sixty-four pairs of tags, the faults by `State.alu_warden`. -/
theorem tagTableAndFaults : Obligations.TagTableAndFaults := by
  refine ⟨?_, ?_⟩
  · intro both
    refine ⟨forall_tags fun a ha => forall_tags fun b hb => forall_tags fun g hg => ?_,
      forall_tags fun a ha => forall_tags fun b hb => forall_tags fun g hg => ?_,
      forall_tags fun a ha => forall_tags fun b hb => forall_tags fun g hg => ?_,
      forall_tags fun a ha => forall_tags fun b hb => forall_tags fun g hg => ?_,
      forall_tags fun a ha => forall_tags fun b hb => forall_tags fun g hg => ?_,
      forall_tags fun a ha => forall_tags fun b hb => forall_tags fun g hg => ?_,
      forall_tags fun a ha => forall_tags fun b hb => ?_, forall_tags fun a ha => forall_tags fun b hb => ?_⟩
    · revert a b; clear hg; cases g <;> decide
    · revert a b g; decide
    · revert a b g; decide
    · revert a b g; decide
    · revert a b g; decide
    · revert a b g; decide
    · revert a b; decide
    · revert a b; decide
  · intro s t c rd ra rb h hc he hv x a b code enters
    have hcode : (tagFault [a, b]).num = code := tagFault_two a b
    have halu {tag f} (hg : tag a b = none) : s.alu t c rd ra rb tag f = .next (s.setThr t (x.warden code 0 (s.entry t))) := by
      rw [← hcode]
      exact State.alu_warden h hc he hv hg
    have hflags {i : Instr} {body : State → Did} (hi : exec i s = s.instr t c ra body)
        (hb : body (s.clearBip t) = .fault (s.clearBip t) (tagFault [a, b]) 0) : enters i := by
      rw [State.instr_warden h hc he hv (FaultCode.sys_ne_tagFault _) hb, hcode] at hi
      exact hi
    refine ⟨fun hg => (exec_add ..).trans (halu hg), fun hg => (exec_sub ..).trans (halu hg), fun hg => (exec_and ..).trans (halu hg),
      fun hg => (exec_or ..).trans (halu hg), fun hg => (exec_xor ..).trans (halu hg), fun hg => (exec_shl ..).trans (halu hg),
      fun hg => (exec_shr ..).trans (halu hg), fun hg => (exec_sar ..).trans (halu hg),
      fun hg => ⟨(exec_mul ..).trans (halu hg), (exec_mulhu ..).trans (halu hg), (exec_mulhs ..).trans (halu hg), (exec_divu ..).trans (halu hg),
        (exec_divs ..).trans (halu hg), (exec_remu ..).trans (halu hg), (exec_rems ..).trans (halu hg)⟩,
      fun hg => hflags (exec_cmp ..) ?_, fun hg => hflags (exec_tst ..) ?_⟩
    · simp only [State.thr_clearBip, Thread.get_bip, State.flagged]
      exact if_neg (Bool.eq_false_iff.mp hg)
    · simp only [State.thr_clearBip, Thread.get_bip, State.flagged]
      exact if_neg (Bool.eq_false_iff.mp hg)

end

namespace Sys2Proof.Machine

/-! ## Every instruction of the long form is fetched, and skipped where its condition is false -/

section
variable {s : State} {t : ThreadId} {c : Cond} {cr ra : Reg}

/-- The answer of a word of the long form: the word is fetched, and where `p` and the condition is false the thread goes to its next word
(04 R165, R193). -/
def State.Skips (s : State) (t : ThreadId) (c : Cond) (cr : Reg) (p : Prop) (r : Res) : Prop :=
  ∃ run, r = s.fetched t run ∧ (p → condHolds (s.thr t) c cr = false → run s = ok (s.advanced t))

theorem State.instr_skips (p : Prop) (body : State → Did) : s.Skips t c cr p (s.instr t c cr body) := by
  refine ⟨_, rfl, fun _ hc => ?_⟩
  simp only [State.thr_clearBip, condHolds_bip, hc, Bool.false_eq_true, if_false, State.skip_eq]

theorem State.alu_skips {p : Prop} {rd rb : Reg} {tag : Tag → Tag → Option Tag} {f : Word → Word → Word} :
    s.Skips t c ra p (s.alu t c rd ra rb tag f) := State.instr_skips _ _

theorem State.aluImm_skips {p : Prop} {rd : Reg} {imm : Word} {tag : Tag → Tag → Option Tag} {f : Word → Word → Word} :
    s.Skips t c ra p (s.aluImm t c rd ra imm tag f) := State.instr_skips _ _

theorem State.loadVia_skips {p : Prop} {off : Word} {run : State → Held → Nat → Did} : s.Skips t c ra p (s.loadVia t c ra off run) :=
  State.instr_skips _ _

theorem State.storeVia_skips {p : Prop} {off : Word} {run : State → Held → Nat → Did} : s.Skips t c ra p (s.storeVia t c ra off run) :=
  State.instr_skips _ _

/-- Only the condition TV looks at its register. -/
theorem condHolds_reg (x : Thread) {c : Cond} (h : c ≠ .tv) (p q : Reg) : condHolds x c p = condHolds x c q := by
  cases c with
  | tv => exact absurd rfl h
  | _ => rfl

theorem condHolds_branchReg (x : Thread) (c : Cond) (off : BitVec 20) :
    condHolds x c (branchReg c off) = condHolds x c (regOf (off.extractLsb' 15 5)) := by
  by_cases h : c = .tv
  · rw [branchReg, if_pos h]
    rfl
  · exact condHolds_reg x h _ _

/-- A branch tests the register that bits [19:15] name. -/
theorem State.Skips.branch {p : Prop} {off : BitVec 20} {r : Res} (h : s.Skips t c (branchReg c off) p r) :
    s.Skips t c (regOf (off.extractLsb' 15 5)) p r := by
  obtain ⟨run, hr, hskip⟩ := h
  exact ⟨run, hr, fun hp hc => hskip hp (by rwa [condHolds_branchReg])⟩

theorem execSys_skips (p : Prop) (imm : BitVec 15) : s.Skips t c 0 p (execSys t c imm s) := by
  refine ⟨_, rfl, fun _ hc => ?_⟩
  simp only [State.thr_clearBip, condHolds_bip, hc, Bool.false_eq_true, if_false, State.skip_eq]

/-- A block instruction tests its condition as it begins, with TSW.BIP = 0 (05 R221). -/
theorem State.blockInstr_skips (body : State → Held → Did) : s.Skips t c ra ((s.thr t).bip = false) (s.blockInstr t c ra body) := by
  refine ⟨_, rfl, fun hb hc => ?_⟩
  have hgoes : s.blockGoes t c ra = false := by simp only [State.blockGoes, hb, hc, Bool.or_self]
  have hclear : s.unissue t = s.clearBip t := by rw [State.unissue, State.clearBip, ← hb]
  simp only [hgoes, Bool.false_eq_true, if_false, hclear, State.skip_eq]

theorem execRetag_skips {rd : Reg} {tg : BitVec 4} (p : Prop) (h : tagNames tg = true) : s.Skips t c ra p (execRetag t c rd ra tg s) := by
  rw [execRetag_eq h]
  exact State.instr_skips p _

theorem execBretag_skips {rd rb : Reg} : s.Skips t c ra ((s.thr t).bip = false) (execBretag t c rd ra rb s) := by
  unfold execBretag
  split
  next hgoes =>
    refine ⟨_, rfl, fun hb hc => ?_⟩
    simp [State.blockGoes, hb, hc] at hgoes
  · exact State.blockInstr_skips _

/-- The opcodes whose condition TV tests bits [19:15], the others' being bits [14:10] (04 Table 4.6). -/
def wideOp (k : Nat) : Bool := (0x1C ≤ k && k ≤ 0x1F) || k == 0x30 || k == 0x31 || k == 0x34 || k == 0x3F

theorem State.Skips.mono {p q : Prop} {r : Res} (h : s.Skips t c cr p r) (hpq : q → p) : s.Skips t c cr q r := by
  obtain ⟨run, hr, hskip⟩ := h
  exact ⟨run, hr, fun hq => hskip (hpq hq)⟩

/-- Every word of the long form that is not reserved is fetched, and skipped where its condition is false; a block instruction only as it begins. -/
theorem decodeOp_skips {k : Nat} {rd ra rb : Reg} {low : BitVec 5} {imm : BitVec 10} {imm15 : BitVec 15} {off : BitVec 20} {i : Instr}
    (hoff : regOf (off.extractLsb' 15 5) = rd) (h : decodeOp k t c rd ra rb low imm imm15 off = some i) :
    s.Skips t c (if wideOp k then rd else ra) (0x38 ≤ k ∧ k ≤ 0x3B → (s.thr t).bip = false) (exec i s) := by
  unfold decodeOp at h
  split at h
  all_goals simp only [Option.ite_none_right_eq_some, Option.some.injEq, reduceCtorEq] at h
  -- The three-register computations.
  case h_1 | h_2 | h_3 | h_4 | h_5 | h_6 | h_7 | h_8 | h_9 | h_10 | h_11 | h_12 | h_13 | h_14 | h_15 =>
    obtain ⟨-, rfl⟩ := h
    simp only [exec_add, exec_sub, exec_and, exec_or, exec_xor, exec_shl, exec_shr, exec_sar, exec_mul, exec_mulhu, exec_mulhs, exec_divu, exec_divs,
      exec_remu, exec_rems]
    exact State.alu_skips
  case h_17 | h_18 | h_19 | h_20 =>
    obtain rfl := h
    simp only [exec_addi, exec_andi, exec_ori, exec_xori]
    exact State.aluImm_skips
  case h_21 | h_22 | h_23 =>
    obtain ⟨-, rfl⟩ := h
    simp only [exec_shli, exec_shri, exec_sari]
    exact State.aluImm_skips
  -- The other forms that test ra, their checked fields being 0.
  case h_16 | h_25 | h_26 | h_27 | h_28 | h_45 | h_46 | h_49 | h_50 | h_56 =>
    obtain ⟨-, rfl⟩ := h
    simp only [exec_mov, exec_cmp, exec_cmpi, exec_tst, exec_tagof, exec_jr, exec_jlr, exec_wait, exec_send, exec_mts]
    exact State.instr_skips _ _
  case h_24 =>
    obtain ⟨⟨-, hg⟩, rfl⟩ := h
    exact execRetag_skips _ hg
  -- Memory.
  case h_33 | h_35 | h_36 | h_37 | h_38 =>
    obtain rfl := h
    simp only [exec_ldw, exec_ldhu, exec_ldhs, exec_ldbu, exec_ldbs]
    exact State.loadVia_skips
  case h_34 | h_39 | h_40 =>
    obtain rfl := h
    simp only [exec_stw, exec_sth, exec_stb]
    exact State.storeVia_skips
  case h_41 | h_42 =>
    obtain ⟨-, rfl⟩ := h
    simp only [exec_ldwx, exec_stwx]
    exact State.instr_skips _ _
  -- WRET, MFS and MKKEY test g0, the register that their zero field names.
  case h_48 =>
    obtain ⟨⟨-, -, rfl, -⟩, rfl⟩ := h
    simp only [exec_wret]
    exact State.instr_skips _ _
  case h_55 | h_57 =>
    obtain ⟨rfl, rfl⟩ := h
    simp only [exec_mfs, exec_mkkey]
    exact State.instr_skips _ _
  -- The formats without ra.
  case h_29 | h_30 | h_31 | h_32 | h_58 =>
    obtain rfl := h
    simp only [exec_orl, exec_movh, exec_adrc]
    exact State.instr_skips _ _
  case h_43 | h_44 =>
    obtain rfl := h
    rw [← hoff]
    simp only [exec_b, exec_bl]
    exact (State.instr_skips _ _).branch
  case h_47 =>
    obtain ⟨rfl, rfl⟩ := h
    simp only [exec_sys]
    exact execSys_skips _ _
  -- Block instructions.
  case h_51 | h_52 | h_53 =>
    obtain ⟨-, rfl⟩ := h
    simp only [exec_bcopy, exec_bfill, exec_bcrc]
    exact (State.blockInstr_skips _).mono fun hb => hb (by decide)
  case h_54 =>
    obtain ⟨-, rfl⟩ := h
    simp only [exec_bretag]
    exact execBretag_skips.mono fun hb => hb (by decide)

/-- The same, in a word's own bits. -/
theorem decodeLong_skips {w : Word} {i : Instr} (h : decodeLong t w = some i) :
    s.Skips t (condOf (w.extractLsb' 27 4)) (if wideOp (w.extractLsb' 20 7).toNat then regAt w 15 else regAt w 10)
      (0x38 ≤ (w.extractLsb' 20 7).toNat ∧ (w.extractLsb' 20 7).toNat ≤ 0x3B → (s.thr t).bip = false) (exec i s) :=
  decodeOp_skips (by rw [BitVec.extractLsb'_extractLsb'_of_le (by decide)]; rfl) h

/-- With TSW.BIP = 1 a block instruction goes on whatever its condition (log 67). -/
theorem State.blockGoes_bip (h : (s.thr t).bip = true) : s.blockGoes t c ra = true := by simp only [State.blockGoes, h, Bool.true_or]

theorem State.blockInstr_bip (body : State → Held → Did) (h : s.ready t) (hb : (s.thr t).bip = true) :
    s.blockInstr t c ra body = s.blockInstr t .al ra body := by
  obtain ⟨hruns, hfetch, -, hread, -⟩ := h
  simp only [State.blockInstr, State.fetched, hfetch, hread, State.blockGoes_bip hb]

end
end Sys2Proof.Machine

section
open Sys2Proof Sys2Proof.Machine

/-- Settles O12, by what `decodeLong_skips` says of every word of the long form. -/
theorem falseConditionSkips : Obligations.FalseConditionSkips := by
  intro s t w i h hi op wide block
  refine ⟨fun hc hb => ?_, fun c rd ra rb hb => ⟨?_, ?_, ?_, ?_⟩⟩
  · obtain ⟨run, hrun, hskip⟩ := decodeLong_skips (s := s) hi
    have ⟨_, _, hq, _, hstop⟩ := h
    rw [hrun]
    exact s.fetched_ready t run h ((hskip hb hc).trans (ok_of _ hq)) (by simpa [State.advanced] using hstop) hq
  · simp only [exec_bcopy, execBcopy]
    exact State.blockInstr_bip _ h hb
  · simp only [exec_bfill, execBfill]
    exact State.blockInstr_bip _ h hb
  · simp only [exec_bcrc, execBcrc]
    exact State.blockInstr_bip _ h hb
  · simp only [exec_bretag, execBretag, State.blockGoes_bip hb]
    rw [State.blockInstr_bip _ h hb]

end

namespace Sys2Proof.Machine

/-! ## Branches and jumps -/

section
variable {s : State} {t : ThreadId} {c : Cond} {cr rd ra : Reg} {body : State → Did}

theorem add_branchOff (pc : Word) (c : Cond) (off : BitVec 20) :
    pc + (branchOff c off <<< 2) = BitVec.ofInt 32 (pc.toNat + 4 * (if c = .tv then (off.extractLsb' 0 15).toInt else off.toInt)) := by
  unfold branchOff
  split <;> exact add_words_eq_ofInt pc _

/-- The thread past a word that jumps, with its return address in a register. -/
def State.linked (s : State) (t : ThreadId) (r : Reg) (pc : Word) : State :=
  s.setThr t { ((s.thr t).put r ⟨(s.thr t).pc + 4, .code⟩) with pc := pc, bip := false, issued := Held.no }

/-- An instruction that sets the pc and nothing else. -/
theorem State.instr_jumped {pc : Word} (h : s.ready t) (hc : condHolds (s.thr t) c cr = true)
    (hb : body (s.clearBip t) = .done ((s.clearBip t).setThr t (((s.clearBip t).thr t).jump pc))) : s.instr t c cr body = .next (s.jumped t pc) := by
  rw [State.clearBip_setThr] at hb
  refine State.instr_done h hc (hb.trans ?_) (by simpa [State.jumped] using h.2.2.2.2) rfl
  rw [State.thr_clearBip]
  rfl

theorem Thread.put_jump_bip (x : Thread) (r : Reg) (w : TWord) (pc : Word) :
    (({ x with bip := false, issued := Held.no } : Thread).put r w).jump pc = { x.put r w with pc := pc, bip := false, issued := Held.no } := by
  unfold Thread.put
  split <;> rfl

/-- An instruction that links and jumps, and does nothing else. -/
theorem State.instr_linked {r : Reg} {pc : Word} (h : s.ready t) (hc : condHolds (s.thr t) c cr = true)
    (hb : body (s.clearBip t) =
      .done ((s.clearBip t).setThr t ((((s.clearBip t).thr t).put r ⟨((s.clearBip t).thr t).pc + 4, .code⟩).jump pc))) :
    s.instr t c cr body = .next (s.linked t r pc) := by
  rw [State.clearBip_setThr] at hb
  refine State.instr_done h hc (hb.trans ?_) ?_ rfl
  · rw [State.thr_clearBip, Thread.put_jump_bip]
    rfl
  · simpa [State.linked, Thread.put_stopping] using h.2.2.2.2

theorem State.jumpReg_code {s0 : State} (ht : ((s0.thr t).get ra).tag = .code) (ha : ((s0.thr t).get ra).data.toNat % 4 = 0) :
    s0.jumpReg t none ra = .done (s0.setThr t ((s0.thr t).jump ((s0.thr t).get ra).data)) ∧
    s0.jumpReg t (some rd) ra =
      .done (s0.setThr t (((s0.thr t).put rd ⟨(s0.thr t).pc + 4, .code⟩).jump ((s0.thr t).get ra).data)) :=
  ⟨(if_neg (not_not.mpr ht)).trans (if_neg (not_not.mpr ha)), (if_neg (not_not.mpr ht)).trans (if_neg (not_not.mpr ha))⟩

end

/-! ## Special registers -/

section
variable {s : State} {t : ThreadId}

/-- A guest that a privileged instruction meets enters its warden with code 0x12 (04 R154). -/
theorem State.instr_guest {c : Cond} {cr : Reg} {body : State → Did} (h : s.ready t) (hc : condHolds (s.thr t) c cr = true)
    (hm : (s.thr t).mode = false) (he : (s.thr t).ent = false) (hv : s.flag (F.EVT_TENT_VALID t.val) = true)
    (hb : body (s.clearBip t) = .fault (s.clearBip t) .priv 0) :
    s.instr t c cr body = .next (s.setThr t { s.thr t with
      epc := (s.thr t).pc, ecause := 0x12, eaddr := 0, pmode := false, mode := true, ent := true, bip := false, issued := Held.no,
      pc := s.entry t }) := by
  rw [State.instr_warden h hc he hv (by decide) hb, Thread.warden, hm]
  rfl

theorem Thread.setSpecial_clear (x : Thread) (n : Nat) (v : Word) :
    (({ x with bip := false, issued := Held.no } : Thread).setSpecial n v).next =
      { x.setSpecial n v with pc := x.pc + 4, bip := false, issued := Held.no } := by
  unfold Thread.setSpecial
  split <;> rfl

theorem Thread.setSpecial_stopping (x : Thread) (n : Nat) (v : Word) : (x.setSpecial n v).stopping = x.stopping := by
  unfold Thread.setSpecial
  split <;> rfl

theorem toNat_mul_two_pow (b : Bool) (n : Nat) : (if b = true then 2 ^ n else 0) = b.toNat * 2 ^ n := by cases b <;> simp

end
end Sys2Proof.Machine

section
open Sys2Proof Sys2Proof.Machine

/-- Settles O16, by `State.instr_jumped` and `State.instr_linked`. -/
theorem branchesSetPc : Obligations.BranchesSetPc := by
  intro s t c rd ra off h x dest link
  refine ⟨fun hc => ?_, fun hc ht ha => ⟨?_, ?_⟩⟩
  · rw [show dest = x.pc + (branchOff c off <<< 2) from (add_branchOff x.pc c off).symm]
    have hc : condHolds (s.thr t) c (branchReg c off) = true := (condHolds_branchReg ..).trans hc
    exact ⟨(exec_b ..).trans (State.instr_jumped h hc (by rw [State.thr_clearBip])),
      (exec_bl ..).trans (State.instr_linked h hc (by rw [State.thr_clearBip]))⟩
  · exact (exec_jr ..).trans (State.instr_jumped h hc (by
      rw [(State.jumpReg_code (rd := rd) (by simpa using ht) (by simpa using ha)).1, State.thr_clearBip, Thread.get_bip]))
  · exact (exec_jlr ..).trans (State.instr_linked h hc (by
      rw [(State.jumpReg_code (by simpa using ht) (by simpa using ha)).2, State.thr_clearBip, Thread.get_bip]))

/-- Settles O19: the sixteen numbers each for itself. -/
theorem specialRegisters : Obligations.SpecialRegisters := by
  intro s t c rd ra sr slot h x v bit
  refine ⟨fun hc => ?_, fun hc hm => ?_, fun hm he hv i hi hc => ?_, fun hc hg hm => ?_⟩
  · refine (exec_mfs ..).trans ((State.instr_wrote h hc rfl).trans ?_)
    have hsr : sr.toNat < 16 := sr.isLt
    simp only [bit, toNat_mul_two_pow, State.special, Thread.flagWord, Thread.tsw, State.thr_clearBip]
    generalize sr.toNat = n at hsr
    interval_cases n <;> simp [x]
  · exact (exec_mkkey ..).trans (State.instr_wrote h hc (by simp only [State.thr_clearBip]; exact if_pos hm))
  · simp only [List.mem_cons, List.not_mem_nil, or_false] at hi
    have hguest : (s.thr t).mode = false := hm
    obtain rfl | rfl := hi
    · exact (exec_mkkey ..).trans (State.instr_guest h hc hm he hv (by simp [hguest]))
    · exact (exec_mts ..).trans (State.instr_guest h hc hm he hv (by simp [hguest]))
  · have hpriv : ¬(sr = 1 ∧ (s.thr t).mode = false) := fun ⟨h1, h2⟩ => absurd (hm h1) (by simp [x, h2])
    have hint : ¬((s.thr t).get ra).tag ≠ .int := not_not.mpr hg
    refine (exec_mts ..).trans ((State.instr_done h hc (u := s.setThr t { (s.thr t).setSpecial sr.toNat v with
      pc := (s.thr t).pc + 4, bip := false, issued := Held.no }) ?_ ?_ rfl).trans ?_)
    · simp only [State.thr_clearBip, Thread.get_bip, hpriv, hint, if_false, Thread.setSpecial_clear, State.clearBip_setThr]
      rfl
    · simpa [Thread.setSpecial_stopping] using h.2.2.2.2
    · have hsr : sr.toNat < 16 := sr.isLt
      generalize sr.toNat = n at hsr
      interval_cases n <;> rfl

end

namespace Sys2Proof.Machine

/-! ## What a read leaves, and what a fetch meets -/

section
variable (s : State) (t : ThreadId) (a : Nat)

theorem State.noteEcc_frame : s.noteEcc a = { s with live := (s.noteEcc a).live } := by
  unfold State.noteEcc
  split
  · rfl
  · dsimp only
    split <;> rfl
  · rfl

/-- A read of flash touches its two error registers and the counter of free values, and nothing else (07 R291). -/
theorem State.afterRead_frame : s.afterRead a = { s with live := (s.afterRead a).live, free := (s.afterRead a).free } := by
  unfold State.afterRead
  split
  · dsimp only
    rw [State.noteEcc_frame]
    split <;> rfl
  · rfl

theorem State.noteEcc_regs : SameRegs [F.FLC_ECC_CORR.addr, F.FLC_EADDR_ADDR.addr] s (s.noteEcc a) := by
  intro b hb
  simp only [List.mem_cons, List.not_mem_nil, or_false, not_or] at hb
  unfold State.noteEcc
  split
  · rfl
  · dsimp only
    rw [State.satInc, State.reg_setFld_ne _ _ _ _ hb.1]
    split
    · exact State.reg_setFld_ne _ _ _ _ hb.2
    · rfl
  · exact State.reg_setFld_ne _ _ _ _ hb.1

theorem State.afterRead_regs : SameRegs [F.FLC_ECC_CORR.addr, F.FLC_EADDR_ADDR.addr] s (s.afterRead a) := by
  unfold State.afterRead
  split
  · dsimp only
    split <;> exact State.noteEcc_regs s a
  · exact fun _ _ => rfl

@[simp] theorem State.afterRead_thr (u : ThreadId) : (s.afterRead a).thr u = s.thr u := by rw [State.afterRead_frame]; rfl

@[simp] theorem State.afterRead_ledger : (s.afterRead a).ledger = s.ledger := by rw [State.afterRead_frame]

theorem State.afterRead_setThr (y : Thread) : (s.setThr t y).afterRead a = (s.afterRead a).setThr t y := by
  unfold State.afterRead
  split
  · dsimp only
    have hnote : (s.setThr t y).noteEcc a = (s.noteEcc a).setThr t y := by
      unfold State.noteEcc
      rw [show (s.setThr t y).ecc a = s.ecc a from rfl]
      split
      · rfl
      · dsimp only
        rw [show (s.setThr t y).fld F.FLC_EADDR_ADDR = s.fld F.FLC_EADDR_ADDR from rfl]
        split <;> rfl
      · rfl
    rw [hnote, show (s.setThr t y).flash = s.flash from rfl]
    split <;> rfl
  · rfl

/-- The fields of other registers read after a read of flash as before. -/
theorem State.afterRead_fld {f : Fld} (hc : f.addr ≠ F.FLC_ECC_CORR.addr) (he : f.addr ≠ F.FLC_EADDR_ADDR.addr) :
    (s.afterRead a).fld f = s.fld f := by
  rw [State.fld, State.afterRead_regs s a f.addr (by simp [hc, he]), State.fld]

/-- The warden's entry is no register that a read of flash touches. -/
theorem State.afterRead_entry : (s.afterRead a).fld (F.EVT_TENT_ADDR t.val) = s.fld (F.EVT_TENT_ADDR t.val) ∧
    (s.afterRead a).flag (F.EVT_TENT_VALID t.val) = s.flag (F.EVT_TENT_VALID t.val) := by
  have hc : (F.EVT_TENT_ADDR t.val).addr ≠ F.FLC_ECC_CORR.addr := by simp [F.EVT_TENT_ADDR, F.FLC_ECC_CORR]; omega
  have he : (F.EVT_TENT_ADDR t.val).addr ≠ F.FLC_EADDR_ADDR.addr := by simp [F.EVT_TENT_ADDR, F.FLC_EADDR_ADDR]; omega
  exact ⟨State.afterRead_fld s a hc he, congrArg (· != 0) (State.afterRead_fld s a (f := F.EVT_TENT_VALID t.val) hc he)⟩

/-- A corrected read is counted, and the first address of one is kept (07 R291, R332). -/
theorem State.noteEcc_corrected (h : s.ecc a = .corrected) (ha : a < 2 ^ 32) :
    (s.noteEcc a).fld F.FLC_ECC_CORR = min 0xFFFF (s.fld F.FLC_ECC_CORR + 1) ∧
    (s.noteEcc a).fld F.FLC_EADDR_ADDR = if s.fld F.FLC_EADDR_ADDR = 0 then a else s.fld F.FLC_EADDR_ADDR := by
  have hne : F.FLC_ECC_CORR.addr ≠ F.FLC_EADDR_ADDR.addr := by decide
  have hfit : Fld.fits F.FLC_ECC_CORR := by simp [Fld.fits, F.FLC_ECC_CORR]
  have hfit' : Fld.fits F.FLC_EADDR_ADDR := by simp [Fld.fits, F.FLC_EADDR_ADDR]
  have hw : 2 ^ F.FLC_ECC_CORR.w = 65536 := rfl
  have hw' : 2 ^ F.FLC_EADDR_ADDR.w = 2 ^ 32 := rfl
  simp only [State.noteEcc, h, State.satInc, beq_iff_eq]
  by_cases h0 : s.fld F.FLC_EADDR_ADDR = 0
  · simp only [h0, if_true]
    rw [State.fld_setFld_self _ _ _ hfit, State.fld_setFld_reg _ F.FLC_EADDR_ADDR F.FLC_ECC_CORR _ hne,
      State.fld_setFld_reg _ F.FLC_ECC_CORR F.FLC_EADDR_ADDR _ hne.symm, State.fld_setFld_self _ _ _ hfit', hw, hw']
    omega
  · simp only [h0, if_false]
    rw [State.fld_setFld_self _ _ _ hfit, State.fld_setFld_reg _ F.FLC_ECC_CORR F.FLC_EADDR_ADDR _ hne.symm, hw]
    omega

/-! ### No access meets a SYS -/

theorem Reach.asIssued_ne_sys {held : Bool} {r : Reach} (h : r ≠ .fault .sys) : r.asIssued held ≠ .fault .sys := by
  unfold Reach.asIssued
  split
  · simp
  · exact h

theorem State.burstAccess_ne_sys : s.burstAccess ≠ .fault .sys := by
  unfold State.burstAccess
  split <;> simp

theorem State.gnssAccess_ne_sys : s.gnssAccess ≠ .fault .sys := by
  unfold State.gnssAccess
  split <;> simp

/-- Access to burst RAM, at hand or across span 3, then its parity. -/
theorem State.burstReach_ne_sys (own bad : Bool) :
    (match (if own then Reach.ok else s.burstAccess) with
      | .ok => if bad then Reach.fault .mempar else .ok
      | x => x) ≠ .fault .sys := by
  split
  · split <;> simp
  · split
    · simp
    · exact s.burstAccess_ne_sys

theorem State.fetchCheck_ne_sys (burst : Bool) : s.fetchCheck burst a ≠ .fault .sys := by
  unfold State.fetchCheck
  cases s.region a with
  | none => simp
  | some r =>
    cases r with
    | rom | setup | cal | gnss => simp
    | sram | vigil => dsimp only; split <;> simp
    | burst => exact s.burstReach_ne_sys _ _
    | flashA | flashB => dsimp only; repeat' split
                         all_goals simp

theorem State.fetchStop_ne_sys : s.fetchStop t ≠ some (.fault .sys) := by
  unfold State.fetchStop
  dsimp only
  split
  · split <;> simp
  · exact fun h => Reach.asIssued_ne_sys (State.fetchCheck_ne_sys _ _ _) (Option.some.inj h)

/-- A fetch that faults leaves the thread in its warden, ECAUSE.FETCH being 1 and TSW.BIP kept in ECAUSE (05 R212). -/
def Thread.fetchWarden (x : Thread) (f : FaultCode) (target : Word) : Thread :=
  { x with epc := x.pc, ecause := BitVec.ofNat 32 (f.num + 0x400 + (if x.bip then 0x200 else 0)), eaddr := x.pc, pmode := x.mode, mode := true,
           ent := true, bip := false, issued := Held.no, pc := target }

theorem causeWord_fetch (f : FaultCode) (bip : Bool) :
    causeWord f false bip true 0 = BitVec.ofNat 32 (f.num + 0x400 + (if bip then 0x200 else 0)) := by
  cases bip <;> simp [causeWord]

theorem State.fetchEnd_fault {f : FaultCode} (hx : s.crosses t (wordAddr (s.thr t).pc.toNat) = s) (he : (s.thr t).ent = false)
    (hv : s.flag (F.EVT_TENT_VALID t.val) = true) (hf : f ≠ .sys) :
    s.fetchEnd t (.fault f) =
      (if f = .mempar ∨ f = .tagFetch then s.afterRead (wordAddr (s.thr t).pc.toNat) else s).setThr t ((s.thr t).fetchWarden f (s.entry t)) := by
  have key (r : State) (hr : r.thr t = s.thr t) (hr1 : r.fld (F.EVT_TENT_ADDR t.val) = s.fld (F.EVT_TENT_ADDR t.val))
      (hr2 : r.flag (F.EVT_TENT_VALID t.val) = s.flag (F.EVT_TENT_VALID t.val)) :
      (r.unissue t).trap t f (s.thr t).pc false true 0 = r.setThr t ((s.thr t).fetchWarden f (s.entry t)) := by
    rw [State.trap_enter (r.unissue t) t f _ false true 0 (by simpa [State.unissue, hr] using he) (hr2.trans hv), if_neg hf,
      show (r.unissue t).fld (F.EVT_TENT_ADDR t.val) = s.fld (F.EVT_TENT_ADDR t.val) from hr1]
    simp only [State.unissue, State.thr_setThr_self, State.setThr_setThr, hr, causeWord_fetch]
    rfl
  simp only [State.fetchEnd, State.fetchRead, hx]
  split
  · exact key _ (s.afterRead_thr _ _) (s.afterRead_entry t _).1 (s.afterRead_entry t _).2
  · exact key _ rfl rfl rfl

/-- An instruction whose fetch leaves `v` and whose body is done with `u` answers it. -/
theorem State.instr_done_of_read {s v u : State} {c : Cond} {cr : Reg} {body : State → Did} (hr : s.runs t = true) (hf : s.fetchStop t = none)
    (hv : s.fetchRead t = v) (hc : condHolds (v.thr t) c cr = true) (hb : body (v.clearBip t) = .done u) (hs : (u.thr t).stopping = false)
    (hq : u.ledger.resetDue = false) : s.instr t c cr body = .next u := by
  have hrun : (fun w : State => if condHolds ((w.clearBip t).thr t) c cr then State.conclude t (w.thr t).issued (body (w.clearBip t))
      else ok ((w.clearBip t).skip t)) (s.fetchRead t) = .next u := by
    simp only [hv, State.thr_clearBip, condHolds_bip, hc, if_true, hb, State.conclude_done, ok_of u hq]
  rw [State.instr, State.fetched_run s t _ hr hf hrun, State.stopLate_of u t hs, ok_of u hq]

/-! ### Reserved words -/

/-- A reserved word's tags: of each register its own, VOID, INT or RAW (05 R237, R239). -/
theorem Thread.scramble_tag (x : Thread) (k : Nat) (r : Reg) :
    ((x.scramble k).get r).tag = (x.get r).tag ∨ ((x.scramble k).get r).tag ∈ [Tag.void, .int, .raw] := by
  unfold Thread.get
  split
  · exact Or.inl rfl
  · simp only [Thread.scramble, vget, Vector.get_ofFn]
    split
    · dsimp only
      split
      · exact Or.inr (by decide)
      · exact Or.inr (by decide)
      · exact Or.inr (by decide)
      · exact Or.inl rfl
    · exact Or.inl rfl

/-- A thread that a reserved word scrambled, past the word. -/
def Thread.scrambled (x : Thread) (k : Nat) : Thread := { x.scramble k with bip := false, issued := Held.no }

theorem Thread.scrambled_tag (x : Thread) (k : Nat) (r : Reg) :
    ((x.scrambled k).get r).tag = (x.get r).tag ∨ ((x.scrambled k).get r).tag ∈ [Tag.void, .int, .raw] := by
  rw [Thread.scrambled, Thread.get_bip]
  exact x.scramble_tag k r

theorem Thread.scrambled_frame (x : Thread) (k : Nat) :
    x.scrambled k = { x with
      regs := (x.scrambled k).regs, z := (x.scrambled k).z, n := (x.scrambled k).n, c := (x.scrambled k).c,
      v := (x.scrambled k).v, pc := x.pc + 4, bip := false, issued := Held.no } := by
  obtain ⟨regs, z, n, c, v, h⟩ : ∃ regs z n c v, x.scramble k = { x with regs := regs, z := z, n := n, c := c, v := v, pc := x.pc + 4 } :=
    ⟨_, _, _, _, _, rfl⟩
  rw [Thread.scrambled, h]

theorem Thread.scrambled_stopping (x : Thread) (k : Nat) : (x.scrambled k).stopping = x.stopping := by rw [Thread.scrambled_frame]

theorem State.reserved_traps (h : Config.reservedFaults s.free = true) (he : (s.thr t).ent = false) (hv : s.flag (F.EVT_TENT_VALID t.val) = true) :
    s.reserved t = (s.setThr t ((s.thr t).warden 0x11 0 (s.entry t))).fresh := by
  rw [State.reserved, if_pos h, State.trap_enter (s.clearBip t).fresh t .resop 0 false false 0 (by simpa using he) hv]
  simp only [State.thr_fresh, State.thr_clearBip, causeWord_plain]
  rw [if_neg (by decide)]
  exact congrArg State.fresh (State.clearBip_setThr _)

theorem State.reserved_scrambles (h : Config.reservedFaults s.free = false) :
    s.reserved t = (s.setThr t ((s.thr t).scrambled s.free)).fresh := by
  rw [State.reserved, if_neg (by simp [h])]
  simp only [State.thr_clearBip, State.clearBip_setThr]
  rfl

end
end Sys2Proof.Machine

section
open Sys2Proof Sys2Proof.Machine

/-- Settles O22: a fetch that faults ends in `State.fetchEnd_fault` before any instruction is looked at, and a reserved word traps or scrambles. -/
theorem fetchFaultsAndReservedWords : Obligations.FetchFaultsAndReservedWords := by
  refine And.intro ?_ ?_
  · intro s t f hq hr he hv x a r hx hs
    refine ⟨fun hf i w hi => ?_, fun hf => ?_, fun hf ha hecc hcut rd ra => ?_⟩
    · obtain ⟨run, hrun, -⟩ := decodeLong_skips (s := s) hi
      rw [hrun, State.fetched_stop s t run _ hr hf, exec_fetchFault, execFetchFault, hf]
      exact (State.fetched_stop s t _ _ hr hf).symm
    · have hend := s.fetchEnd_fault t hx he hv (fun h => s.fetchStop_ne_sys t (h ▸ hf))
      have hled : (s.fetchEnd t (.fault f)).ledger.resetDue = false := by
        rw [hend]
        split
        · exact (congrArg Ledger.resetDue (s.afterRead_ledger a)).trans hq
        · exact hq
      have hstop : ((s.fetchEnd t (.fault f)).thr t).stopping = false := by simpa [hend, Thread.fetchWarden] using hs
      simp only [exec_fetchFault, execFetchFault, hf]
      rw [State.fetched_stop s t _ _ hr hf, State.settle_of _ hled, State.stopLate_of _ _ hstop, ok_of _ hled, hend]
      rfl
    · have hnote : s.afterRead a = s.noteEcc a := by simp only [State.afterRead, ha, hcut, if_true, Bool.false_eq_true, if_false]
      have hread : s.fetchRead t = s.noteEcc a := by rw [State.fetchRead, hx, hnote]
      have hthr : (s.noteEcc a).thr t = s.thr t := hnote ▸ s.afterRead_thr a t
      have hstop : (((s.noteEcc a).wrote t rd (x.get ra)).thr t).stopping = false := by simpa [State.wrote, hthr] using hs
      have hled : (s.noteEcc a).ledger = s.ledger := hnote ▸ s.afterRead_ledger a
      obtain ⟨hcorr, headdr⟩ := s.noteEcc_corrected a hecc (by simp [inFlash] at ha; omega)
      refine ⟨(s.noteEcc a).wrote t rd (x.get ra), (exec_mov ..).trans (State.instr_done_of_read t hr hf hread rfl ?_ hstop ?_),
        hcorr, headdr, s.noteEcc_regs a, ?_⟩
      · simp only [State.write_eq, State.thr_clearBip, Thread.get_bip, hthr, x]
      · exact (congrArg Ledger.resetDue hled).trans hq
      · rw [State.wrote, hthr, State.noteEcc_frame s a]
        rfl
  · intro s t w h hw he hv x
    have hq := h.2.2.1
    have hstop := h.2.2.2.2
    have hrun (y : Thread) (hv : s.reserved t = (s.setThr t y).fresh) (hs : y.stopping = false) :
        exec (.reservedWord t w) s = .next (s.setThr t y).fresh := by
      rw [exec_reservedWord, execReservedWord, hw, if_pos (by rfl), State.reservedRes]
      exact s.fetched_ready t _ h (by rw [hv]; exact ok_of (s.setThr t y).fresh hq) (by simpa using hs) hq
    have hthr (y : Thread) : (s.setThr t y).fresh.thr t = y := s.thr_setThr_self t y
    cases hfree : Config.reservedFaults s.free with
    | true =>
      refine ⟨_, hrun _ (s.reserved_traps t hfree he hv) hstop, ?_, Or.inl (hthr _)⟩
      rw [hthr]
      rfl
    | false =>
      refine ⟨_, hrun _ (s.reserved_scrambles t hfree) ((x.scrambled_stopping _).trans hstop), ?_, Or.inr ?_⟩
      · rw [hthr]
        rfl
      · rw [hthr]
        exact ⟨Thread.scrambled_frame x s.free, x.scrambled_tag _⟩

end

namespace Sys2Proof.Machine

/-! ## What the books do with a thread

Postings and records look at a thread's state, its mask and its PEND bits, and change PEND only. So a change to the rest of a thread commutes with
them; in particular crossings that leave the books of one state as they are leave those of another that differs in a thread's pc or TSW. -/

/-- A change to a thread that the books do not see. -/
structure Thread.Unseen (g : Thread → Thread) : Prop where
  st : ∀ x, (g x).st = x.st
  wmask : ∀ x, (g x).wmask = x.wmask
  pend : ∀ x, (g x).pend = x.pend
  put_pend : ∀ x p, g { x with pend := p } = { g x with pend := p }

/-- The state with one thread changed. -/
def State.onThr (s : State) (t : ThreadId) (g : Thread → Thread) : State := s.setThr t (g (s.thr t))

/-- A record in its place in an event ring, the ring with its PROD advanced. -/
def State.append (s : State) (u : ThreadId) (a : Nat) (l : List TWord) (hdr : Nat) (e : EvRing) : State :=
  let s2 := s.pokes a l
  { s2.poke (hdr + 8) ⟨BitVec.ofNat 32 e.prod, .int⟩ with evring := vset s2.evring u e }

theorem State.writeRecord_eq (s : State) (u : ThreadId) (bit code : Nat) (detail : Word) (stamp : BitVec 48) (seq : Option Word) :
    s.writeRecord u bit code detail stamp seq =
      if !s.flag (F.EVT_TRING_EN u.val) then s
      else if s.evFree u = 0 then s.satInc (F.EVT_TOVF_COUNT u.val)
      else
        (if seq.isSome then s else s.seqIssued).append u ((vget s.evring u).base + (vget s.evring u).prod % (vget s.evring u).size * 16)
          (recordWords bit code detail stamp (seq.getD s.seqNext)) (s.fld (F.EVT_TRING_ADDR u.val) * 64)
          { vget s.evring u with prod := ((vget s.evring u).prod + 1) % 65536 } := rfl

theorem State.crossed_eq (s : State) (sp d : Nat) :
    s.crossed sp d =
      if s.mayPresent sp d then
        let s1 := (s.presentSpan sp d).posted (crossAcct sp d) (Account.land 1)
        (s1.setWin (crossAcct sp d) (s1.win (crossAcct sp d)).acknowledge).check (crossAcct sp d)
      else s := rfl

namespace State.onThr

section
variable {s : State} {t : ThreadId} {g : Thread → Thread}

theorem thr_self : (s.onThr t g).thr t = g (s.thr t) := s.thr_setThr_self t _
theorem thr_ne {u : ThreadId} (h : u ≠ t) : (s.onThr t g).thr u = s.thr u := s.thr_setThr_ne _ h.symm

theorem setThr_comm {u : ThreadId} {x y : Thread} (h : t ≠ u) : (s.setThr t x).setThr u y = (s.setThr u y).setThr t x := by
  simp only [State.setThr]
  rw [show vset (vset s.threads t x) u y = vset (vset s.threads u y) t x from Vector.set_comm _ _ (fun e => h (Fin.ext e))]

theorem setFld (f : Fld) (v : Nat) : (s.onThr t g).setFld f v = (s.setFld f v).onThr t g := rfl
theorem setWin (i : Nat) (w : Window) : (s.onThr t g).setWin i w = (s.setWin i w).onThr t g := rfl
theorem setAcct (i : Nat) (a : Account) : (s.onThr t g).setAcct i a = (s.setAcct i a).onThr t g := rfl

/-- A case of an operation for each case of a condition. -/
theorem ite {p : Prop} [Decidable p] {a b a' b' : State} (ha : a' = a.onThr t g) (hb : b' = b.onThr t g) :
    (if p then a' else b') = (if p then a else b).onThr t g := by
  split
  · exact ha
  · exact hb

theorem seqIssued : (s.onThr t g).seqIssued = s.seqIssued.onThr t g := ite rfl rfl

theorem poke (a : Nat) (w : TWord) : (s.onThr t g).poke a w = (s.poke a w).onThr t g := rfl

theorem pokes (a : Nat) (l : List TWord) : (s.onThr t g).pokes a l = (s.pokes a l).onThr t g := by
  induction l generalizing s a with
  | nil => rfl
  | cons w l ih => exact ih (s := s.poke a w) (a + 4)

theorem append (u : ThreadId) (a : Nat) (l : List TWord) (hdr : Nat) (e : EvRing) :
    (s.onThr t g).append u a l hdr e = (s.append u a l hdr e).onThr t g := by
  rw [State.append, pokes]
  rfl

theorem writeRecord (u : ThreadId) (bit code : Nat) (detail : Word) (stamp : BitVec 48) (seq : Option Word) :
    (s.onThr t g).writeRecord u bit code detail stamp seq = (s.writeRecord u bit code detail stamp seq).onThr t g := by
  rw [State.writeRecord_eq, State.writeRecord_eq]
  refine ite rfl (ite rfl ?_)
  rw [← append, ite rfl seqIssued]
  rfl

theorem sendRecord (u : ThreadId) (bit code : Nat) (detail : Word) (stamp : BitVec 48) (seq : Option Word) :
    (s.onThr t g).sendRecord u bit code detail stamp seq = (s.sendRecord u bit code detail stamp seq).onThr t g :=
  ite (writeRecord ..) rfl

variable (h : Thread.Unseen g)
include h

theorem thr_st (u : ThreadId) : ((s.onThr t g).thr u).st = (s.thr u).st := by
  by_cases hu : u = t
  · rw [hu, thr_self, h.st]
  · rw [thr_ne hu]

theorem awaits (u : ThreadId) (bits : Word) : ((s.onThr t g).thr u).awaits bits = (s.thr u).awaits bits := by
  by_cases hu : u = t
  · rw [hu, thr_self, Thread.awaits, Thread.awaits, h.st, h.wmask]
  · rw [thr_ne hu]

theorem setPend (u : ThreadId) (bits : Word) :
    (s.onThr t g).setThr u { (s.onThr t g).thr u with pend := ((s.onThr t g).thr u).pend ||| bits } =
      (s.setThr u { s.thr u with pend := (s.thr u).pend ||| bits }).onThr t g := by
  by_cases hu : u = t
  · subst hu
    rw [thr_self, h.pend, ← h.put_pend, State.onThr, State.setThr_setThr, State.onThr, State.thr_setThr_self, State.setThr_setThr]
  · rw [thr_ne hu, State.onThr, State.onThr, State.thr_setThr_ne _ _ hu]
    exact setThr_comm (Ne.symm hu)

theorem deliver (u : ThreadId) (bits : Word) (bit code : Nat) (detail : Word) (stamp : BitVec 48) (seq : Option Word) :
    (s.onThr t g).deliver u bits bit code detail stamp seq = (s.deliver u bits bit code detail stamp seq).onThr t g := by
  simp only [State.deliver, awaits h]
  rw [← sendRecord, ite (p := (s.thr u).awaits bits = true) (a' := (s.onThr t g).unhold) (a := s.unhold) rfl rfl]
  congr 1
  split
  · exact setPend (s := s.unhold) h u bits
  · exact setPend h u bits

theorem deliverSystem (u : ThreadId) (bits : Word) (bit code : Nat) (detail : Word) (stamp : BitVec 48) (seq : Option Word) :
    (s.onThr t g).deliverSystem u bits bit code detail stamp seq = (s.deliverSystem u bits bit code detail stamp seq).onThr t g := by
  simp only [State.deliverSystem, thr_st h]
  exact ite (sendRecord ..) (deliver h ..)

omit h in
theorem arrive : (s.onThr t g).arrive = s.arrive.onThr t g := ite rfl rfl

theorem system (ts : List ThreadId) (code : Nat) (detail : Word) (seq : Option Word) :
    (s.onThr t g).system ts code detail seq = (s.system ts code detail seq).onThr t g := by
  have hfold (l : List ThreadId) (b : BitVec 48) (u : State) :
      l.foldl (fun acc v => acc.deliverSystem v (1#32 <<< 23) 23 code detail b seq) (u.onThr t g) =
        (l.foldl (fun acc v => acc.deliverSystem v (1#32 <<< 23) 23 code detail b seq) u).onThr t g := by
    induction l generalizing u with
    | nil => rfl
    | cons v l ih => rw [List.foldl_cons, List.foldl_cons, deliverSystem h, ih]
  rw [State.system, State.system, ite rfl arrive, hfold]
  rfl

omit h in
theorem breachNoted (cause i : Nat) : (s.onThr t g).breachNoted cause i = (s.breachNoted cause i).onThr t g :=
  congrArg (fun v : State => v.setFld F.LDG_BRSEQ_SEQ s.seqNext.toNat)
    (seqIssued (s := ((s.setBit F.LDG_STAT_BREACH).setFld F.LDG_STAT_CAUSE cause).setFld F.LDG_STAT_ACCT i))

omit h in
theorem orderReset : (s.onThr t g).orderReset = s.orderReset.onThr t g := ite rfl rfl

theorem breachTold (cause i : Nat) : (s.onThr t g).breachTold cause i = (s.breachTold cause i).onThr t g := by
  rw [State.breachTold, breachNoted]
  exact system h (s := s.breachNoted cause i) _ _ _ _

theorem breach (cause i : Nat) : (s.onThr t g).breach cause i = (s.breach cause i).onThr t g := by
  cases hb : s.flag F.LDG_STAT_BREACH with
  | true =>
    rw [s.breach_again cause i hb, (s.onThr t g).breach_again cause i hb]
    rfl
  | false =>
    rw [s.breach_first cause i hb, (s.onThr t g).breach_first cause i hb, breachTold h]
    exact ite orderReset rfl

theorem check (i : Nat) : (s.onThr t g).check i = (s.check i).onThr t g := ite (breach h ..) (ite rfl (breach h ..))

theorem posted (i : Nat) (f : Account → Option Account) : (s.onThr t g).posted i f = (s.posted i f).onThr t g := by
  unfold State.posted State.post
  rw [show (s.onThr t g).acctAbsent i = s.acctAbsent i from rfl, show (s.onThr t g).acct i = s.acct i from rfl]
  split
  · rfl
  · cases (f (s.acct i)).filter Account.fits with
    | none => rfl
    | some a => exact check h (s := s.setAcct i a) i

theorem presentSpan (sp d : Nat) : (s.onThr t g).presentSpan sp d = (s.presentSpan sp d).onThr t g := by
  have hpost := posted h (t := t) (s := s.setWin (crossAcct sp d) ((s.win (crossAcct sp d)).request s.now)) (crossAcct sp d) (Account.fly 1)
  exact ite ((congrArg State.arrive hpost).trans arrive) hpost

theorem crossed (sp d : Nat) : (s.onThr t g).crossed sp d = (s.crossed sp d).onThr t g := by
  rw [State.crossed_eq, State.crossed_eq, presentSpan h, posted h]
  exact ite (check h (s := State.setWin _ _ _) _) rfl

theorem crosses (u : ThreadId) (a : Nat) : (s.onThr t g).crosses u a = (s.crosses u a).onThr t g := by
  unfold State.crosses
  generalize crossesOf (ownBurst u) a = l
  induction l generalizing s with
  | nil => rfl
  | cons c l ih => rw [List.foldl_cons, List.foldl_cons, crossed h, ih]

end
end State.onThr

section
variable {s : State} {t : ThreadId}

/-- A thread with what the books see of another. -/
def Thread.seenAs (y x : Thread) : Thread := { y with st := x.st, wmask := x.wmask, pend := x.pend }

theorem Thread.seenAs_unseen (y : Thread) : Thread.Unseen y.seenAs := ⟨fun _ => rfl, fun _ => rfl, fun _ => rfl, fun _ _ => rfl⟩

/-- Crossings that leave a state as it is leave it as it is with a thread changed that the books see as before. -/
theorem State.crosses_setThr {u : ThreadId} {a : Nat} {y : Thread} (h : s.crosses u a = s) (hst : y.st = (s.thr t).st)
    (hmask : y.wmask = (s.thr t).wmask) (hpend : y.pend = (s.thr t).pend) : (s.setThr t y).crosses u a = s.setThr t y := by
  have hy : s.onThr t y.seenAs = s.setThr t y := by rw [State.onThr, Thread.seenAs, ← hst, ← hmask, ← hpend]
  rw [← hy, State.onThr.crosses y.seenAs_unseen, h]

theorem State.crosses_clearBip {u : ThreadId} {a : Nat} (h : s.crosses u a = s) : (s.clearBip t).crosses u a = s.clearBip t :=
  State.crosses_setThr h rfl rfl rfl

theorem State.crosses_advanced {u : ThreadId} {a : Nat} (h : s.crosses u a = s) : (s.advanced t).crosses u a = s.advanced t :=
  State.crosses_setThr h rfl rfl rfl

end
end Sys2Proof.Machine

namespace Sys2Proof.Machine

/-! ## What an access meets does not look at threads -/

section
variable {s : State} {t : ThreadId} {y : Thread}

theorem State.heldView_setThr (b : Bool) : (s.setThr t y).heldView b = (s.heldView b).setThr t y := by
  unfold State.heldView
  rw [show (s.setThr t y).island .burst = s.island .burst from rfl]
  split
  · rfl
  · dsimp only
    split <;> rfl

theorem State.readCheck_setThr (burst : Bool) (a n : Nat) : (s.setThr t y).readCheck burst a n = s.readCheck burst a n := rfl

theorem State.writeCheck_setThr (burst : Bool) (a n : Nat) : (s.setThr t y).writeCheck burst a n = s.writeCheck burst a n := rfl

theorem State.thrRead_setThr (held : Held) (burst : Bool) (a n : Nat) : (s.setThr t y).thrRead held burst a n = s.thrRead held burst a n := by
  rw [State.thrRead, State.heldView_setThr, State.readCheck_setThr, State.thrRead]

theorem State.thrWrite_setThr (held : Held) (burst : Bool) (a n : Nat) : (s.setThr t y).thrWrite held burst a n = s.thrWrite held burst a n := by
  rw [State.thrWrite, State.heldView_setThr, State.writeCheck_setThr, State.thrWrite]

theorem State.thrRead_clearBip (held : Held) (burst : Bool) (a n : Nat) : (s.clearBip t).thrRead held burst a n = s.thrRead held burst a n :=
  State.thrRead_setThr ..

theorem State.thrWrite_clearBip (held : Held) (burst : Bool) (a n : Nat) : (s.clearBip t).thrWrite held burst a n = s.thrWrite held burst a n :=
  State.thrWrite_setThr ..

theorem State.readCheck_ne_sys (burst : Bool) (a n : Nat) : s.readCheck burst a n ≠ .fault .sys := by
  unfold State.readCheck
  cases s.region a with
  | none => simp
  | some r =>
    cases r with
    | rom => simp
    | setup | cal | sram | vigil => dsimp only; split <;> simp
    | burst => exact s.burstReach_ne_sys _ _
    | gnss => exact s.gnssAccess_ne_sys
    | flashA | flashB =>
      dsimp only
      repeat' split
      all_goals simp

theorem State.writeCheck_ne_sys (burst : Bool) (a n : Nat) : s.writeCheck burst a n ≠ .fault .sys := by
  unfold State.writeCheck
  cases s.region a with
  | none => simp
  | some r =>
    cases r with
    | rom | flashA | flashB => simp
    | setup | cal | sram | vigil => dsimp only; split <;> simp
    | burst => exact s.burstReach_ne_sys _ _
    | gnss => exact s.gnssAccess_ne_sys

theorem State.thrRead_ne_sys (held : Held) (burst : Bool) (a n : Nat) : s.thrRead held burst a n ≠ .fault .sys :=
  Reach.asIssued_ne_sys (State.readCheck_ne_sys _ _ _)

theorem State.thrWrite_ne_sys (held : Held) (burst : Bool) (a n : Nat) : s.thrWrite held burst a n ≠ .fault .sys := State.writeCheck_ne_sys _ _ _

/-- The state that a fault of an access leaves: one over its parity has read flash (07 R332). -/
def State.metBy (s : State) (f : FaultCode) (a : Nat) : State := if f = .mempar then s.afterRead a else s

theorem State.metBy_setThr (f : FaultCode) (a : Nat) : (s.setThr t y).metBy f a = (s.metBy f a).setThr t y := by
  unfold State.metBy
  split
  · exact s.afterRead_setThr t a y
  · rfl

@[simp] theorem State.metBy_thr (f : FaultCode) (a : Nat) (u : ThreadId) : (s.metBy f a).thr u = s.thr u := by
  unfold State.metBy
  split
  · exact s.afterRead_thr a u
  · rfl

theorem State.metBy_clearBip (f : FaultCode) (a : Nat) : (s.clearBip t).metBy f a = (s.metBy f a).clearBip t := by
  rw [State.clearBip, State.metBy_setThr, State.clearBip, State.metBy_thr]

theorem State.metBy_ledger (f : FaultCode) (a : Nat) : (s.metBy f a).ledger = s.ledger := by
  unfold State.metBy
  split
  · exact s.afterRead_ledger a
  · rfl

theorem State.metBy_entry (f : FaultCode) (a : Nat) : (s.metBy f a).fld (F.EVT_TENT_ADDR t.val) = s.fld (F.EVT_TENT_ADDR t.val) ∧
    (s.metBy f a).flag (F.EVT_TENT_VALID t.val) = s.flag (F.EVT_TENT_VALID t.val) := by
  unfold State.metBy
  split
  · exact s.afterRead_entry t a
  · exact ⟨rfl, rfl⟩

end

/-! ## What an instruction does where its condition holds -/

section
variable {s : State} {t : ThreadId} {c : Cond} {cr rd ra rb : Reg} {imm : BitVec 10} {i : Instr} {d : Did}

/-- An instruction of the long form that, where its condition holds, comes to `d`. -/
def State.Does (s : State) (t : ThreadId) (c : Cond) (cr : Reg) (i : Instr) (d : Did) : Prop :=
  ∃ body, exec i s = s.instr t c cr body ∧ body (s.clearBip t) = d

theorem State.Does.done {u : State} (hd : s.Does t c cr i (.done u)) (h : s.ready t) (hc : condHolds (s.thr t) c cr = true)
    (hs : (u.thr t).stopping = false) (hq : u.ledger = s.ledger) : exec i s = .next u := by
  obtain ⟨body, hi, hb⟩ := hd
  exact hi.trans (State.instr_done h hc hb hs hq)

/-- An instruction that faults enters the warden, on the state that the fault leaves. -/
theorem State.Does.fault {f : FaultCode} {a : Word} {b : Nat} {g : FaultCode} (hd : s.Does t c cr i (.fault ((s.clearBip t).metBy g b) f a))
    (h : s.ready t) (hc : condHolds (s.thr t) c cr = true) (he : (s.thr t).ent = false) (hv : s.flag (F.EVT_TENT_VALID t.val) = true)
    (hf : f ≠ .sys) : exec i s = .next ((s.metBy g b).setThr t ((s.thr t).warden f.num a (s.entry t))) := by
  obtain ⟨body, hi, hb⟩ := hd
  have hq : (s.metBy g b).ledger.resetDue = false := (congrArg Ledger.resetDue (s.metBy_ledger g b)).trans h.2.2.1
  have hr : (s.metBy g b).thr t = s.thr t := s.metBy_thr g b t
  obtain ⟨haddr, hvalid⟩ := s.metBy_entry (t := t) g b
  refine hi.trans (State.instr_run s t c cr body h (by simpa using hc) ?_ (by simpa [Thread.warden] using h.2.2.2.2) hq)
  rw [hb, State.conclude_fault, State.metBy_clearBip,
    State.trap_enter ((s.metBy g b).clearBip t) t f a false false 0 (by simpa [hr] using he) (hvalid.trans hv), if_neg hf, State.thr_clearBip, hr,
    State.clearBip_setThr, causeWord_plain, show ((s.metBy g b).clearBip t).fld (F.EVT_TENT_ADDR t.val) = s.fld (F.EVT_TENT_ADDR t.val) from haddr]
  exact ok_of _ hq

/-- The same, where the fault leaves nothing. -/
theorem State.Does.traps {f : FaultCode} {a : Word} (hd : s.Does t c cr i (.fault (s.clearBip t) f a))
    (h : s.ready t) (hc : condHolds (s.thr t) c cr = true) (he : (s.thr t).ent = false) (hv : s.flag (F.EVT_TENT_VALID t.val) = true)
    (hf : f ≠ .sys) : exec i s = .next (s.setThr t ((s.thr t).warden f.num a (s.entry t))) := hd.fault (g := .nomap) (b := 0) h hc he hv hf

/-! ### Loads and stores by their checks -/

/-- A load of `n` bytes. -/
def State.loadN (s : State) (held : Held) (t : ThreadId) (rd : Reg) (n : Nat) (signed : Bool) (a : Nat) : Did :=
  if n = 4 then s.loadW held t rd a else s.loadP held t rd n signed a

/-- A store of `n` bytes. -/
def State.storeN (s : State) (held : Held) (t : ThreadId) (w : TWord) (n a : Nat) : Did :=
  if n = 4 then s.storeW held t w a else s.storeP held t w n a

/-- An immediate in units of `n` bytes. -/
def scaled (n : Nat) (imm : BitVec 10) : Word := BitVec.ofInt 32 (n * imm.toInt)

theorem sext_eq_scaled (imm : BitVec 10) : sext 10 imm = scaled 1 imm ∧ sext 10 imm <<< 1 = scaled 2 imm ∧ sext 10 imm <<< 2 = scaled 4 imm := by
  refine ⟨by simp only [scaled, Nat.cast_one, one_mul]; rfl, ?_, sext_words imm⟩
  rw [BitVec.shiftLeft_eq_mul_twoPow, BitVec.mul_comm, scaled, BitVec.ofInt_mul]
  rfl

theorem State.loadVia_done {off : Word} {run : State → Held → Nat → Did} (hi : exec i s = s.loadVia t c ra off run)
    (hb : ((s.thr t).get ra).tag = .addr) :
    s.Does t c ra i (run (s.clearBip t) (s.thr t).issued (((s.thr t).get ra).data + off).toNat) :=
  ⟨_, hi, by simp only [State.thr_clearBip, Thread.get_bip, hb, ne_eq, not_true_eq_false, if_false]; rfl⟩

theorem State.loadVia_untagged {off : Word} {run : State → Held → Nat → Did} (hi : exec i s = s.loadVia t c ra off run)
    (hb : ((s.thr t).get ra).tag ≠ .addr) : s.Does t c ra i (.fault (s.clearBip t) .tagAddr 0) :=
  ⟨_, hi, by simp only [State.thr_clearBip, Thread.get_bip, hb, ne_eq, not_false_eq_true, if_true]⟩

/-- An instruction that loads `n` bytes from an address. -/
def State.Loads (s : State) (t : ThreadId) (c : Cond) (ra : Reg) (i : Instr) (rd : Reg) (n : Nat) (signed : Bool) (a : Word) : Prop :=
  s.Does t c ra i ((s.clearBip t).loadN (s.thr t).issued t rd n signed a.toNat)

/-- An instruction that stores `n` bytes at an address, where a guest may (04 R154). -/
def State.Stores (s : State) (t : ThreadId) (c : Cond) (ra : Reg) (i : Instr) (rd : Reg) (n : Nat) (a : Word) : Prop :=
  s.Does t c ra i (if guestBarred (s.thr t) a.toNat then .fault (s.clearBip t) .priv a
    else (s.clearBip t).storeN (s.thr t).issued t ((s.thr t).get rd) n a.toNat)

section
variable (hb : ((s.thr t).get ra).tag ≠ .addr)
include hb

theorem State.storeVia_untagged {off : Word} {run : State → Held → Nat → Did} (hi : exec i s = s.storeVia t c ra off run) :
    s.Does t c ra i (.fault (s.clearBip t) .tagAddr 0) :=
  ⟨_, hi, by simp only [State.thr_clearBip, Thread.get_bip, hb, ne_eq, not_false_eq_true, if_true]⟩

theorem State.ldwx_unaddressed : s.Does t c ra (.ldwx t c rd ra rb) (.fault (s.clearBip t) .tagAddr 0) :=
  ⟨_, exec_ldwx .., by simp only [State.thr_clearBip, Thread.get_bip, hb, ne_eq, not_false_eq_true, if_true]⟩

theorem State.stwx_unaddressed : s.Does t c ra (.stwx t c rd ra rb) (.fault (s.clearBip t) .tagAddr 0) :=
  ⟨_, exec_stwx .., by simp only [State.thr_clearBip, Thread.get_bip, hb, ne_eq, not_false_eq_true, if_true]⟩

end

section
variable (hb : ((s.thr t).get ra).tag = .addr)
include hb

theorem State.ldw_loads : s.Loads t c ra (.ldw t c rd ra imm) rd 4 false (((s.thr t).get ra).data + scaled 4 imm) := by
  rw [← (sext_eq_scaled imm).2.2]
  exact State.loadVia_done (exec_ldw ..) hb

theorem State.ldhu_loads : s.Loads t c ra (.ldhu t c rd ra imm) rd 2 false (((s.thr t).get ra).data + scaled 2 imm) := by
  rw [← (sext_eq_scaled imm).2.1]
  exact State.loadVia_done (exec_ldhu ..) hb

theorem State.ldhs_loads : s.Loads t c ra (.ldhs t c rd ra imm) rd 2 true (((s.thr t).get ra).data + scaled 2 imm) := by
  rw [← (sext_eq_scaled imm).2.1]
  exact State.loadVia_done (exec_ldhs ..) hb

theorem State.ldbu_loads : s.Loads t c ra (.ldbu t c rd ra imm) rd 1 false (((s.thr t).get ra).data + scaled 1 imm) := by
  rw [← (sext_eq_scaled imm).1]
  exact State.loadVia_done (exec_ldbu ..) hb

theorem State.ldbs_loads : s.Loads t c ra (.ldbs t c rd ra imm) rd 1 true (((s.thr t).get ra).data + scaled 1 imm) := by
  rw [← (sext_eq_scaled imm).1]
  exact State.loadVia_done (exec_ldbs ..) hb

theorem State.ldwx_loads (hk : ((s.thr t).get rb).tag = .int) :
    s.Loads t c ra (.ldwx t c rd ra rb) rd 4 false (((s.thr t).get ra).data + ((s.thr t).get rb).data) :=
  ⟨_, exec_ldwx .., by simp only [State.thr_clearBip, Thread.get_bip, hb, hk, ne_eq, not_true_eq_false, if_false]; rfl⟩

theorem State.ldwx_untagged (hk : ((s.thr t).get rb).tag ≠ .int) :
    s.Does t c ra (.ldwx t c rd ra rb) (.fault (s.clearBip t) (tagFault [((s.thr t).get rb).tag]) 0) :=
  ⟨_, exec_ldwx .., by simp only [State.thr_clearBip, Thread.get_bip, hb, hk, ne_eq, not_true_eq_false, not_false_eq_true, if_true, if_false]⟩

theorem State.storeVia_done {off : Word} {run : State → Held → Nat → Did} (hi : exec i s = s.storeVia t c ra off run) :
    s.Does t c ra i (if guestBarred (s.thr t) (((s.thr t).get ra).data + off).toNat then .fault (s.clearBip t) .priv (((s.thr t).get ra).data + off)
      else run (s.clearBip t) (s.thr t).issued (((s.thr t).get ra).data + off).toNat) :=
  ⟨_, hi, by simp only [State.thr_clearBip, Thread.get_bip, hb, ne_eq, not_true_eq_false, if_false]; rfl⟩

theorem State.stw_stores : s.Stores t c ra (.stw t c rd ra imm) rd 4 (((s.thr t).get ra).data + scaled 4 imm) := by
  have := State.storeVia_done (c := c) hb (exec_stw s t c rd ra imm)
  simp only [(sext_eq_scaled imm).2.2, State.thr_clearBip, Thread.get_bip] at this
  exact this

theorem State.sth_stores : s.Stores t c ra (.sth t c rd ra imm) rd 2 (((s.thr t).get ra).data + scaled 2 imm) := by
  have := State.storeVia_done (c := c) hb (exec_sth s t c rd ra imm)
  simp only [(sext_eq_scaled imm).2.1, State.thr_clearBip, Thread.get_bip] at this
  exact this

theorem State.stb_stores : s.Stores t c ra (.stb t c rd ra imm) rd 1 (((s.thr t).get ra).data + scaled 1 imm) := by
  have := State.storeVia_done (c := c) hb (exec_stb s t c rd ra imm)
  simp only [(sext_eq_scaled imm).1, State.thr_clearBip, Thread.get_bip] at this
  exact this

theorem State.stwx_stores (hk : ((s.thr t).get rb).tag = .int) :
    s.Stores t c ra (.stwx t c rd ra rb) rd 4 (((s.thr t).get ra).data + ((s.thr t).get rb).data) :=
  ⟨_, exec_stwx .., by simp only [State.thr_clearBip, Thread.get_bip, hb, hk, ne_eq, not_true_eq_false, if_false]; rfl⟩

/-- A guest that names a set-up register faults before the index's tag is looked at (04 R193). -/
theorem State.stwx_barred (hg : guestBarred (s.thr t) (((s.thr t).get ra).data + ((s.thr t).get rb).data).toNat = true) :
    s.Does t c ra (.stwx t c rd ra rb) (.fault (s.clearBip t) .priv (((s.thr t).get ra).data + ((s.thr t).get rb).data)) :=
  ⟨_, exec_stwx .., by simp only [State.thr_clearBip, Thread.get_bip, hb, ne_eq, not_true_eq_false, if_false]; exact if_pos hg⟩

theorem State.stwx_untagged (hg : guestBarred (s.thr t) (((s.thr t).get ra).data + ((s.thr t).get rb).data).toNat = false)
    (hk : ((s.thr t).get rb).tag ≠ .int) :
    s.Does t c ra (.stwx t c rd ra rb) (.fault (s.clearBip t) (tagFault [((s.thr t).get rb).tag]) 0) :=
  ⟨_, exec_stwx .., by
    simp only [State.thr_clearBip, Thread.get_bip, hb, hk, ne_eq, not_true_eq_false, not_false_eq_true, if_true, if_false]
    exact if_neg (Bool.eq_false_iff.mp hg)⟩

end

end

section
variable {s : State} {t : ThreadId} {held : Held} {rd : Reg} {w : TWord} {n a : Nat} {signed : Bool} {f : FaultCode}

theorem State.loadStop_odd (h : a % n ≠ 0) : s.loadStop held t n a = some (.fault s .align (BitVec.ofNat 32 a)) := by
  simp [State.loadStop, alignedFor, h]

theorem State.loadStop_met (h : a % n = 0) (hr : s.thrRead held (ownBurst t) a n = .fault f) :
    s.loadStop held t n a = some (.fault (s.metBy f a) f (BitVec.ofNat 32 a)) := by
  simp only [State.loadStop, alignedFor, h, hr, State.reached, beq_self_eq_true, if_true]
  rfl

theorem State.loadStop_none (h : a % n = 0) (hr : s.thrRead held (ownBurst t) a n = .ok) : s.loadStop held t n a = none := by
  simp only [State.loadStop, alignedFor, h, hr, State.reached, beq_self_eq_true, if_true]

theorem State.storeStop_odd (h : a % n ≠ 0) : s.storeStop held t n a = some (.fault s .align (BitVec.ofNat 32 a)) := by
  simp [State.storeStop, alignedFor, h]

theorem State.storeStop_met (h : a % n = 0) (hr : s.thrWrite held (ownBurst t) a n = .fault f) :
    s.storeStop held t n a = some (.fault (s.metBy f a) f (BitVec.ofNat 32 a)) := by
  simp only [State.storeStop, alignedFor, h, hr, State.reached, beq_self_eq_true, if_true]
  rfl

theorem State.storeStop_none (h : a % n = 0) (hr : s.thrWrite held (ownBurst t) a n = .ok) : s.storeStop held t n a = none := by
  simp only [State.storeStop, alignedFor, h, hr, State.reached, beq_self_eq_true, if_true]

/-- What stops a load's access is what the load comes to. -/
theorem State.loadN_stop {d : Did} (h : s.loadStop held t n a = some d) : s.loadN held t rd n signed a = d := by
  unfold State.loadN
  split
  next hn =>
    subst hn
    simp only [State.loadW, h]
  · simp only [State.loadP, h]

/-- Whether a word may not be stored because it is a KEY (04 R183, R184). -/
def keyOff (g : Tag) (n a : Nat) : Bool := g == .key && (n < 4 || inRegs a || Region.gnss.holds a)

theorem keyOff_four (g : Tag) (a : Nat) : keyOff g 4 a = keyBarred g a := rfl

theorem State.storeN_key (hn : n ≤ 4) (h : keyOff w.tag n a = true) : s.storeN held t w n a = .fault s .tagKey 0 := by
  unfold State.storeN
  split
  next h4 =>
    subst h4
    exact if_pos h
  · have hk : w.tag = .key := by simp [keyOff] at h; exact h.1
    exact if_pos hk

theorem State.storeN_void (hn : n ≠ 4) (h : w.tag = .void) : s.storeN held t w n a = .fault s .tagVoid 0 := by
  simp [State.storeN, hn, State.storeP, h]

/-- A word that may be stored is, unless its access stops. -/
theorem State.storeN_eq (hn : n ≤ 4) (hk : keyOff w.tag n a = false) (hv : n = 4 ∨ w.tag ≠ .void) :
    s.storeN held t w n a = (s.storeStop held t n a).getD
      (.done (if n = 4 then (s.skip t).storeAt t a w else ((s.skip t).crosses t a).storePart a ((wordBytes w.data).take n))) := by
  unfold State.storeN
  split
  next h4 =>
    subst h4
    rw [State.storeW, if_neg (by rw [← keyOff_four, hk]; decide)]
    cases s.storeStop held t 4 a <;> rfl
  next h4 =>
    have hk' : w.tag ≠ .key := by
      intro hw
      simp [keyOff, hw] at hk
      omega
    rw [State.storeP, if_neg hk', if_neg (hv.resolve_left h4)]
    cases s.storeStop held t n a <;> rfl

theorem State.storeN_stop {d : Did} (hn : n ≤ 4) (hk : keyOff w.tag n a = false) (hv : n = 4 ∨ w.tag ≠ .void)
    (h : s.storeStop held t n a = some d) : s.storeN held t w n a = d := by
  rw [State.storeN_eq hn hk hv, h, Option.getD_some]

end

end Sys2Proof.Machine

namespace Sys2Proof.Machine

/-! ## Plain memory -/

section
variable {s : State} {t : ThreadId} {a : Nat}

theorem Region.holds_iff (r : Region) (a : Nat) : r.holds a = true ↔ r.span.1 ≤ a ∧ a < r.span.1 + r.span.2 := by
  rw [Region.holds, Bool.and_eq_true, decide_eq_true_eq, decide_eq_true_eq]

theorem Region.holds_wordAddr (r : Region) (a : Nat) : r.holds (wordAddr a) = r.holds a := by
  rw [Bool.eq_iff_iff, Region.holds_iff, Region.holds_iff]
  cases r <;> dsimp only [Region.span, wordAddr] <;> omega

theorem plainRam_wordAddr (a : Nat) : plainRam (wordAddr a) = plainRam a := by simp only [plainRam, Region.holds_wordAddr]

theorem wordAddr_wordAddr (a : Nat) : wordAddr (wordAddr a) = wordAddr a := by
  unfold wordAddr
  omega

theorem wordAddr_of_aligned (h : a % 4 = 0) : wordAddr a = a := by
  unfold wordAddr
  omega

theorem Memory.tag_wordAddr (m : Memory) (a : Nat) : m.tag (wordAddr a) = m.tag a := by rw [Memory.tag, wordAddr_wordAddr, Memory.tag]

/-- Plain memory and the boot ROM are neither registers nor flash nor capture RAM (03 Table 3.1). -/
theorem plain_elsewhere (h : (plainRam a || Region.rom.holds a) = true) : inRegs a = false ∧ inFlash a = false ∧ Region.gnss.holds a = false := by
  simp only [plainRam, inRegs, inFlash, ← Bool.not_eq_true, Bool.or_eq_true, Bool.and_eq_true, decide_eq_true_eq, Region.holds_iff] at h ⊢
  dsimp only [Region.span] at h ⊢
  omega

/-- A read of plain memory is the word and its tag, and does nothing else. -/
theorem State.loadWord_plain (h : (plainRam a || Region.rom.holds a) = true) (hx : s.crosses t a = s) : s.loadWord t a = (s.mem.tword a, s) := by
  obtain ⟨hr, hf, hg⟩ := plain_elsewhere h
  simp only [State.loadWord, hx, hr, hg, State.readTWord, State.afterRead, hf, Bool.false_eq_true, if_false]

end
end Sys2Proof.Machine

namespace Sys2Proof.Machine

/-! ## How loads and stores fault -/

section
variable {s : State} {t : ThreadId} {c : Cond} {rd ra : Reg} {i : Instr} {n : Nat} {signed : Bool} {a : Word} {f : FaultCode}
variable (h : s.ready t) (hc : condHolds (s.thr t) c ra = true) (he : (s.thr t).ent = false) (hv : s.flag (F.EVT_TENT_VALID t.val) = true)
include h hc he hv

theorem State.Loads.odd (hl : s.Loads t c ra i rd n signed a) (ha : a.toNat % n ≠ 0) :
    exec i s = .next (s.setThr t ((s.thr t).warden 0x28 a (s.entry t))) := by
  rw [State.Loads, State.loadN_stop (State.loadStop_odd ha), BitVec.ofNat_toNat, BitVec.setWidth_eq] at hl
  exact hl.traps h hc he hv (by decide)

theorem State.Loads.met (hl : s.Loads t c ra i rd n signed a) (ha : a.toNat % n = 0)
    (hr : s.thrRead (s.thr t).issued (ownBurst t) a.toNat n = .fault f) :
    exec i s = .next ((s.metBy f a.toNat).setThr t ((s.thr t).warden f.num a (s.entry t))) := by
  rw [State.Loads, State.loadN_stop (State.loadStop_met ha ((State.thrRead_clearBip ..).trans hr)), BitVec.ofNat_toNat, BitVec.setWidth_eq] at hl
  exact hl.fault h hc he hv (fun hf => State.thrRead_ne_sys _ _ _ _ (hf ▸ hr))

/-- A KEY word of plain memory is not read in part (04 R182). -/
theorem State.Loads.key (hl : s.Loads t c ra i rd n signed a) (hn : n ≠ 4) (ha : a.toNat % n = 0)
    (hr : s.thrRead (s.thr t).issued (ownBurst t) a.toNat n = .ok) (hp : plainRam a.toNat = true) (hx : s.crosses t (wordAddr a.toNat) = s)
    (hk : s.mem.tag a.toNat = .key) : exec i s = .next (s.setThr t ((s.thr t).warden 0x21 0 (s.entry t))) := by
  have hplain : (plainRam (wordAddr a.toNat) || Region.rom.holds (wordAddr a.toNat)) = true := by rw [plainRam_wordAddr, hp, Bool.true_or]
  have hd : (s.clearBip t).loadN (s.thr t).issued t rd n signed a.toNat = .fault (s.clearBip t) .tagKey 0 := by
    rw [State.loadN, if_neg hn, State.loadP, State.loadStop_none ha ((State.thrRead_clearBip ..).trans hr),
      State.loadWord_plain hplain (State.crosses_clearBip hx)]
    exact if_pos ((Memory.tag_wordAddr _ _).trans hk)
  rw [State.Loads, hd] at hl
  exact hl.traps h hc he hv (by decide)

variable (hs : s.Stores t c ra i rd n a)
include hs

theorem State.Stores.barred (hb : guestBarred (s.thr t) a.toNat = true) : exec i s = .next (s.setThr t ((s.thr t).warden 0x12 a (s.entry t))) := by
  rw [State.Stores, if_pos hb] at hs
  exact hs.traps h hc he hv (by decide)

variable (hn : n ≤ 4) (hb : guestBarred (s.thr t) a.toNat = false)
include hn hb

theorem State.Stores.key (hk : keyOff ((s.thr t).get rd).tag n a.toNat = true) :
    exec i s = .next (s.setThr t ((s.thr t).warden 0x21 0 (s.entry t))) := by
  rw [State.Stores, hb, if_neg (by decide), State.storeN_key hn hk] at hs
  exact hs.traps h hc he hv (by decide)

omit hn in
theorem State.Stores.void (hn : n ≠ 4) (hw : ((s.thr t).get rd).tag = .void) :
    exec i s = .next (s.setThr t ((s.thr t).warden 0x20 0 (s.entry t))) := by
  rw [State.Stores, hb, if_neg (by decide), State.storeN_void hn hw] at hs
  exact hs.traps h hc he hv (by decide)

variable (hk : keyOff ((s.thr t).get rd).tag n a.toNat = false) (hw : n = 4 ∨ ((s.thr t).get rd).tag ≠ .void)
include hk hw

theorem State.Stores.odd (ha : a.toNat % n ≠ 0) : exec i s = .next (s.setThr t ((s.thr t).warden 0x28 a (s.entry t))) := by
  rw [State.Stores, hb, if_neg (by decide), State.storeN_stop hn hk hw (State.storeStop_odd ha), BitVec.ofNat_toNat, BitVec.setWidth_eq] at hs
  exact hs.traps h hc he hv (by decide)

theorem State.Stores.met (ha : a.toNat % n = 0) (hr : s.thrWrite (s.thr t).issued (ownBurst t) a.toNat n = .fault f) :
    exec i s = .next ((s.metBy f a.toNat).setThr t ((s.thr t).warden f.num a (s.entry t))) := by
  rw [State.Stores, hb, if_neg (by decide), State.storeN_stop hn hk hw (State.storeStop_met ha ((State.thrWrite_clearBip ..).trans hr)),
    BitVec.ofNat_toNat, BitVec.setWidth_eq] at hs
  exact hs.fault h hc he hv (fun hf => State.thrWrite_ne_sys _ _ _ _ (hf ▸ hr))

end

section
variable {s : State} {t : ThreadId} {link : Option Reg} {ra : Reg}

theorem State.jumpReg_untagged (h : ((s.thr t).get ra).tag ≠ .code) :
    (s.clearBip t).jumpReg t link ra = .fault (s.clearBip t) .tagCode 0 := by
  simp only [State.jumpReg, State.thr_clearBip, Thread.get_bip, ne_eq, h, not_false_eq_true, if_true]

theorem State.jumpReg_odd (h : ((s.thr t).get ra).tag = .code) (ha : ((s.thr t).get ra).data.toNat % 4 ≠ 0) :
    (s.clearBip t).jumpReg t link ra = .fault (s.clearBip t) .align ((s.thr t).get ra).data := by
  simp only [State.jumpReg, State.thr_clearBip, Thread.get_bip, ne_eq, h, ha, not_true_eq_false, not_false_eq_true, if_true, if_false]

end
end Sys2Proof.Machine

section
open Sys2Proof Sys2Proof.Machine

/-- Settles O15: each fault by the check that it comes from, in the checks' order. -/
theorem accessFaultsEnterWarden : Obligations.AccessFaultsEnterWarden := by
  intro s t c rd ra rb imm sr slot tg h x hc hc0 he hv b k w entered enters mix mint at' met odd loads part barred keyOff' stores oddStore empty
  have traps {i : Instr} {f : FaultCode} {cr : Reg} {v : Word} (hd : s.Does t c cr i (.fault (s.clearBip t) f v))
      (hcr : condHolds (s.thr t) c cr = true) (hf : f ≠ .sys) : enters i f.num v := hd.traps h hcr he hv hf
  have tag_fault {i : Instr} {g : Tag} (hd : s.Does t c ra i (.fault (s.clearBip t) (tagFault [g]) 0)) : enters i (mix g) 0 := by
    rw [show mix g = (tagFault [g]).num from (tagFault_one g).symm]
    exact traps hd hc (FaultCode.sys_ne_tagFault _)
  refine ⟨fun hb i hi => ?_, fun hb => ?_, fun i hi => ?_, fun hm => ?_, fun hm hb => ?_, fun hg hm hb => ?_, fun hb => ?_, fun hb hk => ?_⟩
  · simp only [List.mem_cons, List.not_mem_nil, or_false] at hi
    refine traps (f := .tagAddr) ?_ hc (by decide)
    rcases hi with rfl | rfl | rfl | rfl | rfl | rfl | rfl | rfl | rfl | rfl
    · exact State.loadVia_untagged (exec_ldw ..) hb
    · exact State.loadVia_untagged (exec_ldhu ..) hb
    · exact State.loadVia_untagged (exec_ldhs ..) hb
    · exact State.loadVia_untagged (exec_ldbu ..) hb
    · exact State.loadVia_untagged (exec_ldbs ..) hb
    · exact State.ldwx_unaddressed hb
    · exact State.storeVia_untagged hb (exec_stw ..)
    · exact State.storeVia_untagged hb (exec_sth ..)
    · exact State.storeVia_untagged hb (exec_stb ..)
    · exact State.stwx_unaddressed hb
  · have load {i : Instr} {n : Nat} {signed : Bool} {a : Word} (hl : s.Loads t c ra i rd n signed a) :
        odd i n a ∧ loads i n a ∧ (n ≠ 4 → part i n a) :=
      ⟨hl.odd h hc he hv, fun ha f hr => hl.met h hc he hv ha hr, fun hn ha hr hp hx hk => hl.key h hc he hv hn ha hr hp hx hk⟩
    have store {i : Instr} {n : Nat} {a : Word} (hs : s.Stores t c ra i rd n a) (hn : n ≤ 4) :
        stores i n a ∧ oddStore i n a ∧ (n ≠ 4 → empty i a) :=
      ⟨⟨hs.barred h hc he hv, hs.key h hc he hv hn, fun hb hk hw ha f hr => hs.met h hc he hv hn hb hk hw ha hr⟩,
        fun hb hk hw ha => hs.odd h hc he hv hn hb hk hw ha, fun h4 hb hw => hs.void h hc he hv hb h4 hw⟩
    have hldw := load (State.ldw_loads (imm := imm) hb)
    have hldhu := load (State.ldhu_loads (imm := imm) hb)
    have hldhs := load (State.ldhs_loads (imm := imm) hb)
    have hldbu := load (State.ldbu_loads (imm := imm) hb)
    have hldbs := load (State.ldbs_loads (imm := imm) hb)
    have hstw := store (State.stw_stores (imm := imm) hb) (by decide)
    have hsth := store (State.sth_stores (imm := imm) hb) (by decide)
    have hstb := store (State.stb_stores (imm := imm) hb) (by decide)
    refine ⟨hldw.1, hldhu.1, hldhs.1, hldw.2.1, hldhu.2.1, hldhs.2.1, hldbu.2.1, hldbs.2.1, hldhu.2.2 (by decide), hldhs.2.2 (by decide),
      hldbu.2.2 (by decide), hldbs.2.2 (by decide), fun hk => tag_fault (State.ldwx_untagged hb hk), fun hk => ?_, hstw.1, hsth.1, hstb.1, hstw.2.1,
      hsth.2.1, hsth.2.2 (by decide), hstb.2.2 (by decide), fun hbar => ?_, fun hbar hk => ?_, fun hk => ?_⟩
    · have hldwx := load (State.ldwx_loads hb hk)
      exact ⟨hldwx.1, hldwx.2.1⟩
    · exact traps (State.stwx_barred hb hbar) hc (by decide)
    · exact tag_fault (State.stwx_untagged hb hbar hk)
    · have hstwx := store (State.stwx_stores hb hk) (by decide)
      exact ⟨hstwx.1, hstwx.2.1⟩
  · have jump {link : Option Reg} (hi : exec i s = s.instr t c ra (fun s0 => s0.jumpReg t link ra)) :
        (b.tag ≠ .code → enters i 0x24 0) ∧ (b.tag = .code → b.data.toNat % 4 ≠ 0 → enters i 0x28 b.data) :=
      ⟨fun hb => traps (f := .tagCode) ⟨_, hi, State.jumpReg_untagged hb⟩ hc (by decide),
        fun hb ha => traps (f := .align) ⟨_, hi, State.jumpReg_odd hb ha⟩ hc (by decide)⟩
    simp only [List.mem_cons, List.not_mem_nil, or_false] at hi
    rcases hi with rfl | rfl
    · exact jump (exec_jr ..)
    · exact jump (exec_jlr ..)
  · have hguest : (s.thr t).mode = false := hm
    refine ⟨traps (f := .priv) ⟨_, exec_mkkey .., by simp [hguest]⟩ hc0 (by decide),
      traps (f := .priv) ⟨_, exec_mts .., by simp [hguest]⟩ hc (by decide),
      fun ⟨hg, hmint⟩ => traps (f := .priv) ⟨_, (exec_retag ..).trans (execRetag_eq hg), ?_⟩ hc (by decide)⟩
    have hminted : (tagOf tg.toNat).minted = true := by rcases hmint with hg | hg <;> simp [hg, Tag.minted]
    simp [State.retagTo, hminted, hguest]
  · refine tag_fault ⟨_, exec_mts .., ?_⟩
    have hmode : ¬(sr = 1 ∧ (s.thr t).mode = false) := fun ⟨h1, h0⟩ => hm.elim (fun h => by simp [x, h0] at h) (fun h => h h1)
    simp only [State.thr_clearBip, Thread.get_bip, hmode, if_false]
    exact if_pos hb
  · refine traps (f := .tagKey) ⟨_, (exec_retag ..).trans (execRetag_eq hg), ?_⟩ hc (by decide)
    have hmint : ((tagOf tg.toNat).minted && !(s.thr t).mode) = false := by
      rcases hm with hm | hm
      · simp [(show (s.thr t).mode = true from hm)]
      · have : (tagOf tg.toNat).minted = false := by
          simp only [Tag.minted, Bool.or_eq_false_iff, beq_eq_false_iff_ne]
          exact not_or.mp fun hg' => hm ⟨hg, hg'⟩
        simp [this]
    simp only [State.retagTo, State.thr_clearBip, Thread.get_bip, hmint, Bool.false_eq_true, if_false]
    exact if_pos hb
  · refine ⟨tag_fault ⟨_, exec_wait .., ?_⟩, ?_⟩
    · simp only [State.thr_clearBip, Thread.get_bip]
      exact if_pos hb
    · have hcode : (tagFault [b.tag, k.tag]).num = if b.tag = .void ∨ b.tag = .key then mix b.tag else mix k.tag := by
        rw [tagFault_two]
        by_cases h1 : b.tag = .void <;> by_cases h2 : b.tag = .key <;> simp [mix, h1, h2]
      rw [← hcode]
      refine traps ⟨_, exec_send .., ?_⟩ hc (FaultCode.sys_ne_tagFault _)
      simp only [State.thr_clearBip, Thread.get_bip]
      exact if_pos (Or.inl hb)
  · have hcode : (tagFault [b.tag, k.tag]).num = mix k.tag := by rw [hb, tagFault_two]; rfl
    rw [← hcode]
    refine traps ⟨_, exec_send .., ?_⟩ hc (FaultCode.sys_ne_tagFault _)
    simp only [State.thr_clearBip, Thread.get_bip]
    exact if_pos (Or.inr hk)

end

namespace Sys2Proof.Machine

/-! ## A thread that no STOP waits for -/

section
variable {s : State} {t : ThreadId}

theorem resetThreads_stopping : ∀ t : ThreadId, (vget resetThreads t).stopping = false := by decide

theorem foldl_regs_stopping (r : Vector TWord 32) (t : ThreadId) (l : List ThreadId) (v : Vector Thread 10) :
    (vget (l.foldl (fun v i => vset v i { vget v i with regs := r }) v) t).stopping = (vget v t).stopping := by
  induction l generalizing v with
  | nil => rfl
  | cons i l ih =>
    rw [List.foldl_cons, ih]
    by_cases h : i = t
    · rw [h, vget_vset_self]
    · rw [vget_vset_ne _ _ h]

theorem State.fullReset_stopping (c : Cause) (t : ThreadId) : ((s.fullReset c).thr t).stopping = false :=
  (foldl_regs_stopping _ t _ _).trans (resetThreads_stopping t)

theorem State.settle_stopping (h : (s.thr t).stopping = false) : (s.settle.thr t).stopping = false := by
  unfold State.settle
  split
  · exact State.fullReset_stopping _ t
  · exact h

/-- A thread with no STOP held up. -/
def Thread.unstopped (x : Thread) : Thread := { x with stopping := false }

theorem Thread.unstopped_unseen : Thread.Unseen Thread.unstopped := ⟨fun _ => rfl, fun _ => rfl, fun _ => rfl, fun _ _ => rfl⟩

theorem State.onThr_unstopped (h : (s.thr t).stopping = false) : s.onThr t Thread.unstopped = s := by
  have : Thread.unstopped (s.thr t) = s.thr t := by rw [Thread.unstopped, ← h]
  rw [State.onThr, this, State.setThr_thr]

/-- Crossings hold up no STOP. -/
theorem State.crosses_stopping {u : ThreadId} {a : Nat} (h : (s.thr t).stopping = false) : ((s.crosses u a).thr t).stopping = false := by
  have hx := State.onThr.crosses (s := s) (t := t) Thread.unstopped_unseen u a
  rw [State.onThr_unstopped h] at hx
  rw [hx, State.onThr.thr_self]
  rfl

theorem State.calFreeze_threads : s.calFreeze.threads = s.threads := by
  unfold State.calFreeze
  split <;> rfl

theorem State.calClose_threads : s.calClose.2.threads = s.threads := by
  unfold State.calClose
  split <;> rfl

/-- A register's read changes no thread. -/
theorem State.regRead_threads (a : Nat) : (s.regRead t a).2.threads = s.threads := by
  unfold State.regRead
  split
  · exact State.calClose_threads
  · dsimp only
    split
    · rfl
    · split
      · exact State.calFreeze_threads
      · rfl

theorem State.touch_threads (i : Island) : (s.touch i).threads = s.threads := by
  unfold State.touch
  dsimp only
  split <;> rfl

theorem State.thr_of_threads {u : State} (h : u.threads = s.threads) (t : ThreadId) : u.thr t = s.thr t := by
  rw [State.thr, h, State.thr]

theorem State.loadWord_stopping {a : Nat} (h : (s.thr t).stopping = false) : ((s.loadWord t a).2.thr t).stopping = false := by
  have hx : ((s.crosses t a).thr t).stopping = false := State.crosses_stopping h
  unfold State.loadWord
  split
  · rw [State.thr_of_threads (State.regRead_threads a)]
    exact hx
  · dsimp only
    split
    · rw [State.thr_of_threads (State.touch_threads _), State.afterRead_thr]
      exact hx
    · rw [State.afterRead_thr]
      exact hx

end

/-! ## Loads -/

section
variable {s : State} {t : ThreadId} {c : Cond} {cr rd ra : Reg} {i : Instr} {n : Nat} {signed : Bool} {a : Word}

/-- An instruction whose effect may order a full reset: the reset follows it (01 R59), where no STOP waited for the word. -/
theorem State.Does.settled_stopLate {u : State} (hd : s.Does t c cr i (.done u)) (h : s.ready t) (hc : condHolds (s.thr t) c cr = true)
    (hs : u.settle.stopLate t = u.settle) : exec i s = .next u.settle := by
  obtain ⟨body, hi, hb⟩ := hd
  have hrun : (fun w : State => if condHolds ((w.clearBip t).thr t) c cr then State.conclude t (w.thr t).issued (body (w.clearBip t))
      else ok ((w.clearBip t).skip t)) (s.fetchRead t) = .next u.settle := by
    rw [h.2.2.2.1]
    simp only [State.thr_clearBip, condHolds_bip, hc, if_true, hb, State.conclude_done]
    rfl
  exact hi.trans ((s.fetched_run t _ h.1 h.2.1 hrun).trans (by rw [hs, ok_of _ u.settle_resetDue]))

/-- The same, of an effect that leaves the thread no STOP. -/
theorem State.Does.settled {u : State} (hd : s.Does t c cr i (.done u)) (h : s.ready t) (hc : condHolds (s.thr t) c cr = true)
    (hs : (u.thr t).stopping = false) : exec i s = .next u.settle :=
  hd.settled_stopLate h hc (State.stopLate_of _ _ (State.settle_stopping hs))

/-- An address of a base and a displacement (04 R181). -/
theorem toNat_add_ofInt (b : Word) (k : Int) : (b + BitVec.ofInt 32 k).toNat = ((b.toNat + k) % 2 ^ 32).toNat := by
  rw [← ofInt_toNat b, ← BitVec.ofInt_add, BitVec.toNat_ofInt, ofInt_toNat]
  rfl

theorem toNat_add_scaled (b : Word) (n : Nat) (imm : BitVec 10) : (b + scaled n imm).toNat = ((b.toNat + n * imm.toInt) % 2 ^ 32).toNat :=
  toNat_add_ofInt b _

end

/-! ### Parts of a word -/

section
variable (w : Word) (n a : Nat) (m : Memory)

/-- The bits of a word that a load of `n` bytes at an address reads. -/
def partBits (w : Word) (n a : Nat) : BitVec (8 * n) := w.extractLsb' (8 * (a % 4)) (8 * n)

/-- What a load of a part writes. -/
def partValue (w : Word) (n : Nat) (signed : Bool) (a : Nat) : Int := if signed then (partBits w n a).toInt else (partBits w n a).toNat

theorem partOf_one : partOf w 1 a = (partBits w 1 a).setWidth 32 := by
  apply BitVec.eq_of_toNat_eq
  rw [partOf, if_pos rfl, BitVec.toNat_and, BitVec.toNat_setWidth_of_le (by decide), partBits, BitVec.extractLsb'_toNat, BitVec.toNat_ushiftRight]
  exact Nat.and_two_pow_sub_one_eq_mod _ 8

theorem partOf_two : partOf w 2 a = (partBits w 2 a).setWidth 32 := by
  apply BitVec.eq_of_toNat_eq
  rw [partOf, if_neg (by decide), BitVec.toNat_and, BitVec.toNat_setWidth_of_le (by decide), partBits, BitVec.extractLsb'_toNat,
    BitVec.toNat_ushiftRight]
  exact Nat.and_two_pow_sub_one_eq_mod _ 16

theorem setWidth_eq_ofInt {k : Nat} (x : BitVec k) : x.setWidth 32 = BitVec.ofInt 32 x.toNat := by
  rw [BitVec.ofInt_natCast]
  exact BitVec.eq_of_toNat_eq (by rw [BitVec.toNat_setWidth, BitVec.toNat_ofNat])

/-- A part as a load extends it (04 R182). -/
theorem partExt_partOf (hn : n = 1 ∨ n = 2) (signed : Bool) : partExt n signed (partOf w n a) = BitVec.ofInt 32 (partValue w n signed a) := by
  cases signed with
  | false =>
    rcases hn with rfl | rfl
    · exact (partOf_one w a).trans (setWidth_eq_ofInt _)
    · exact (partOf_two w a).trans (setWidth_eq_ofInt _)
  | true =>
    rcases hn with rfl | rfl
    · rw [partOf_one]
      simp only [partExt, partValue, if_true, BitVec.setWidth_setWidth_of_le _ (show 8 * 1 ≤ 32 by decide)]
      rfl
    · rw [partOf_two]
      simp only [partExt, partValue, if_true, (by decide : ¬2 = 1), if_false, BitVec.setWidth_setWidth_of_le _ (show 8 * 2 ≤ 32 by decide)]
      rfl

theorem partBits_toNat : (partBits w n a).toNat = w.toNat / 2 ^ (8 * (a % 4)) % 2 ^ (8 * n) := by
  rw [partBits, BitVec.extractLsb'_toNat, Nat.shiftRight_eq_div_pow]

theorem partValue_eq (hn : n = 1 ∨ n = 2) (signed : Bool) :
    partValue w n signed a =
      if signed = true ∧ 2 ^ (8 * n - 1) ≤ (partBits w n a).toNat then ((partBits w n a).toNat : Int) - 2 ^ (8 * n) else (partBits w n a).toNat := by
  cases signed with
  | false => simp [partValue]
  | true =>
    simp only [partValue, if_true, true_and, BitVec.toInt_eq_toNat_cond]
    rcases hn with rfl | rfl <;> (split <;> split <;> simp at * <;> omega)

/-- The bytes and the halves of four bytes joined. -/
theorem join_bytes (x0 x1 x2 x3 : Byte) :
    (x3 ++ x2 ++ x1 ++ x0).extractLsb' 0 8 = x0 ∧ (x3 ++ x2 ++ x1 ++ x0).extractLsb' 8 8 = x1 ∧ (x3 ++ x2 ++ x1 ++ x0).extractLsb' 16 8 = x2 ∧
      (x3 ++ x2 ++ x1 ++ x0).extractLsb' 24 8 = x3 ∧ (x3 ++ x2 ++ x1 ++ x0).extractLsb' 0 16 = x1 ++ x0 ∧
      (x3 ++ x2 ++ x1 ++ x0).extractLsb' 16 16 = x3 ++ x2 := by
  have above {v k n : Nat} (x : BitVec v) (y : Byte) : (x ++ y).extractLsb' (8 + k) n = x.extractLsb' k n := by
    rw [BitVec.extractLsb'_append_eq_of_le (Nat.le_add_right 8 k), Nat.add_sub_cancel_left]
  refine ⟨BitVec.extractLsb'_append_eq_right, ?_, ?_, ?_, ?_, ?_⟩
  · exact (above (k := 0) _ _).trans BitVec.extractLsb'_append_eq_right
  · exact (above (k := 8) _ _).trans ((above (k := 0) _ _).trans BitVec.extractLsb'_append_eq_right)
  · exact (above (k := 16) _ _).trans ((above (k := 8) _ _).trans ((above (k := 0) _ _).trans BitVec.extractLsb'_eq_self))
  · refine BitVec.eq_of_getLsbD_eq fun i hi => ?_
    simp only [BitVec.getLsbD_extractLsb', BitVec.getLsbD_append, hi, decide_true, Bool.true_and, Nat.zero_add]
    split
    · rfl
    · exact if_pos (by omega)
  · exact (above (k := 8) _ _).trans ((above (k := 0) _ _).trans BitVec.extractLsb'_eq_self)

/-- Byte `j` of a word. -/
theorem Memory.word_byte (b : Nat) {j : Nat} (h : j < 4) : (m.word b).extractLsb' (8 * j) 8 = m.byte (b + j) := by
  obtain ⟨h0, h1, h2, h3, -⟩ := join_bytes (m.byte b) (m.byte (b + 1)) (m.byte (b + 2)) (m.byte (b + 3))
  interval_cases j
  · exact h0
  · exact h1
  · exact h2
  · exact h3

theorem partBits_byte : partBits (m.word (wordAddr a)) 1 a = m.byte a := by
  have ha : wordAddr a + a % 4 = a := by unfold wordAddr; omega
  exact (m.word_byte (wordAddr a) (Nat.mod_lt _ (by decide))).trans (congrArg m.byte ha)

theorem partBits_half (h : a % 2 = 0) : partBits (m.word (wordAddr a)) 2 a = m.byte (a + 1) ++ m.byte a := by
  have ha : wordAddr a + a % 4 = a := by unfold wordAddr; omega
  obtain ⟨-, -, -, -, hlow, hhigh⟩ := join_bytes (m.byte (wordAddr a)) (m.byte (wordAddr a + 1)) (m.byte (wordAddr a + 2)) (m.byte (wordAddr a + 3))
  rcases (show a % 4 = 0 ∨ a % 4 = 2 by omega) with h4 | h4
  · rw [partBits, h4]
    rw [h4, Nat.add_zero] at ha
    exact hlow.trans (by rw [ha])
  · rw [partBits, h4]
    rw [h4] at ha
    exact hhigh.trans (congrArg (fun b => m.byte (b + 1) ++ m.byte b) ha)

end
end Sys2Proof.Machine

namespace Sys2Proof.Machine

/-! ## What loads write -/

section
variable {s : State} {t : ThreadId} {c : Cond} {rd ra : Reg} {i : Instr} {n : Nat} {signed : Bool} {a : Word}

/-- A register written, on a state whose thread has nothing to clear. -/
theorem State.write_stopping (u : State) (r : Reg) (w : TWord) (h : (u.thr t).stopping = false) : ((u.write t r w).thr t).stopping = false := by
  simpa [State.write] using h

variable (h : s.ready t) (hc : condHolds (s.thr t) c ra = true) (ha : a.toNat % n = 0)
  (hr : s.thrRead (s.thr t).issued (ownBurst t) a.toNat n = .ok)
include h hc ha hr

/-- A word load writes the word that is read, and leaves what its read leaves. -/
theorem State.Loads.word (hl : s.Loads t c ra i rd n signed a) (hn : n = 4) :
    exec i s = .next (((s.clearBip t).loadWord t a.toNat).2.write t rd ((s.clearBip t).loadWord t a.toNat).1).settle := by
  have hstop : ((s.clearBip t).thr t).stopping = false := by simpa using h.2.2.2.2
  subst hn
  rw [State.Loads, State.loadN, if_pos rfl, State.loadW, State.loadStop_none ha ((State.thrRead_clearBip ..).trans hr)] at hl
  exact State.Does.settled hl h hc (State.write_stopping _ _ _ (State.loadWord_stopping hstop))

/-- In plain memory it leaves nothing else. -/
theorem State.Loads.word_plain (hl : s.Loads t c ra i rd n signed a) (hn : n = 4) (hp : (plainRam a.toNat || Region.rom.holds a.toNat) = true)
    (hx : s.crosses t (wordAddr a.toNat) = s) : exec i s = .next (s.wrote t rd ⟨s.mem.word a.toNat, s.mem.tag a.toNat⟩) := by
  rw [wordAddr_of_aligned (by rw [← ha, hn])] at hx
  rw [State.Loads.word h hc ha hr hl hn, State.loadWord_plain hp (State.crosses_clearBip hx), State.settle_of, State.write_eq]
  · rfl
  · exact h.2.2.1

omit h hc ha hr in
/-- What a load of a part does, of a word that is no KEY. -/
theorem State.loadP_done {s0 : State} (hs : s0.loadStop (s.thr t).issued t n a.toNat = none) (hn : n = 1 ∨ n = 2)
    (hk : (s0.loadWord t (wordAddr a.toNat)).1.tag ≠ .key) :
    s0.loadP (s.thr t).issued t rd n signed a.toNat =
      .done ((s0.loadWord t (wordAddr a.toNat)).2.write t rd
        ⟨BitVec.ofInt 32 (partValue (s0.loadWord t (wordAddr a.toNat)).1.data n signed a.toNat),
          if (s0.loadWord t (wordAddr a.toNat)).1.tag = .void then .void else .int⟩) := by
  rw [State.loadP, hs]
  dsimp only
  rw [if_neg hk, partExt_partOf _ _ _ hn]

/-- A load of a part writes its bits, extended (04 R182). -/
theorem State.Loads.part (hl : s.Loads t c ra i rd n signed a) (hn : n = 1 ∨ n = 2)
    (hk : ((s.clearBip t).loadWord t (wordAddr a.toNat)).1.tag ≠ .key) :
    exec i s = .next (((s.clearBip t).loadWord t (wordAddr a.toNat)).2.write t rd
      ⟨BitVec.ofInt 32 (partValue ((s.clearBip t).loadWord t (wordAddr a.toNat)).1.data n signed a.toNat),
        if ((s.clearBip t).loadWord t (wordAddr a.toNat)).1.tag = .void then .void else .int⟩).settle := by
  have hstop : ((s.clearBip t).thr t).stopping = false := by simpa using h.2.2.2.2
  rw [State.Loads, State.loadN, if_neg (by omega),
    State.loadP_done (State.loadStop_none ha ((State.thrRead_clearBip ..).trans hr)) hn hk] at hl
  exact State.Does.settled hl h hc (State.write_stopping _ _ _ (State.loadWord_stopping hstop))

/-- In plain memory it leaves nothing else. -/
theorem State.Loads.part_plain (hl : s.Loads t c ra i rd n signed a) (hn : n = 1 ∨ n = 2)
    (hp : (plainRam a.toNat || Region.rom.holds a.toNat) = true) (hx : s.crosses t (wordAddr a.toNat) = s) (hk : s.mem.tag a.toNat ≠ .key) :
    exec i s = .next (s.wrote t rd ⟨BitVec.ofInt 32 (partValue (s.mem.word (wordAddr a.toNat)) n signed a.toNat),
      if s.mem.tag a.toNat = .void then .void else .int⟩) := by
  have hp' : (plainRam (wordAddr a.toNat) || Region.rom.holds (wordAddr a.toNat)) = true := by
    rwa [plainRam_wordAddr, Region.holds_wordAddr]
  have hread : (s.clearBip t).loadWord t (wordAddr a.toNat) = (⟨s.mem.word (wordAddr a.toNat), s.mem.tag a.toNat⟩, s.clearBip t) := by
    rw [State.loadWord_plain hp' (State.crosses_clearBip hx), Memory.tword, Memory.tag_wordAddr]
    rfl
  have hload := State.Loads.part h hc ha hr hl hn (by rw [hread]; exact hk)
  rw [hread] at hload
  rw [hload, State.settle_of, State.write_eq]
  exact h.2.2.1

end
end Sys2Proof.Machine

section
open Sys2Proof Sys2Proof.Machine

/-- Settles O13: each load is one of `n` bytes at its address, and reads there what `loadWord` gives. -/
theorem loadsReadMemory : Obligations.LoadsReadMemory := by
  intro s t c rd ra rb imm h hc hb x base at' okay plain read word part byte half
  have words {i : Instr} {signed : Bool} {a : Word} (hl : s.Loads t c ra i rd 4 signed a) : word i a.toNat := fun ⟨ha, hr⟩ =>
    ⟨fun ⟨hp, hx⟩ => hl.word_plain h hc ha hr rfl hp hx, hl.word h hc ha hr rfl⟩
  have parts {i : Instr} {n : Nat} {signed : Bool} {a : Word} {v : Int} (hl : s.Loads t c ra i rd n signed a) (hn : n = 1 ∨ n = 2)
      (hv : a.toNat % n = 0 → partValue (s.mem.word (wordAddr a.toNat)) n signed a.toNat = v) : part i n signed a.toNat v := fun ⟨ha, hr⟩ => by
    refine ⟨fun ⟨hp, hx⟩ hk => ?_, fun hk => ?_⟩
    · rw [← hv ha]
      exact hl.part_plain h hc ha hr hn hp hx hk
    · have hload := hl.part h hc ha hr hn hk
      rw [partValue_eq _ _ _ hn, partBits_toNat] at hload
      exact hload
  have at4 : at' (4 * imm.toInt) = ((x.get ra).data + scaled 4 imm).toNat := (toNat_add_scaled _ 4 imm).symm
  have at2 : at' (2 * imm.toInt) = ((x.get ra).data + scaled 2 imm).toNat := (toNat_add_scaled _ 2 imm).symm
  have at1 : at' imm.toInt = ((x.get ra).data + scaled 1 imm).toNat := by rw [toNat_add_scaled, Nat.cast_one, one_mul]
  have half_value (signed : Bool) (a : Nat) (ha : a % 2 = 0) :
      partValue (s.mem.word (wordAddr a)) 2 signed a = if signed then (half a).toInt else (half a).toNat := by
    rw [partValue, partBits_half _ _ ha]
  have byte_value (signed : Bool) (a : Nat) (_ : a % 1 = 0) :
      partValue (s.mem.word (wordAddr a)) 1 signed a = if signed then (byte a).toInt else (byte a).toNat := by
    rw [partValue, partBits_byte]
  rw [at4, at2, at1]
  refine ⟨words (State.ldw_loads hb), fun hk => ?_, parts (State.ldhu_loads hb) (Or.inr rfl) (half_value false _),
    parts (State.ldhs_loads hb) (Or.inr rfl) (half_value true _), parts (State.ldbu_loads hb) (Or.inl rfl) (byte_value false _),
    parts (State.ldbs_loads hb) (Or.inl rfl) (byte_value true _)⟩
  have hat : at' (x.get rb).data.toNat = ((x.get ra).data + (x.get rb).data).toNat := by
    rw [← ofInt_toNat (x.get rb).data, toNat_add_ofInt, ofInt_toNat]
  rw [hat]
  exact words (State.ldwx_loads hb hk)

end

namespace Sys2Proof.Machine

/-! ## Paired words -/

section
variable {s : State} {t : ThreadId} {w : Word} {a b : Short} {ea eb : HalfFx}

/-- No half but a load does anything as it computes (04 R173). -/
theorem State.half_keeps (held : Held) (o : Short) (h : ∀ d k n, o ≠ .ldw d k n) : (s.half held t o).2 = s := by
  cases o with
  | ldw d r k => exact absurd rfl (h d r k)
  | _ => rfl

theorem State.half_eq {held : Held} {o : Short} {e : Half} (h : ∀ d k n, o ≠ .ldw d k n) (he : (s.half held t o).1 = e) : s.half held t o = (e, s) :=
  Prod.ext he (State.half_keeps held o h)

/-- Two halves that meet no fault. -/
theorem State.pair_done {held : Held} {s1 s2 : State} (ha : s.half held t a = (.fx ea, s1)) (hb : s1.half held t b = (.fx eb, s2)) :
    s.pair held t a b = s2.pairApply t ea eb := by
  simp only [State.pair, ha, hb]

/-- What a paired word comes to on a thread that is ready. -/
theorem exec_pairedWord_ready {u : State} (h : s.ready t) (hw : decodeWord t w = .pair a b)
    (hp : (s.clearBip t).pair (s.thr t).issued t a b = u) (hs : (u.thr t).stopping = false) (hq : u.ledger.resetDue = false) :
    exec (.pairedWord t w) s = .next u := by
  rw [exec_pairedWord, execPairedWord, hw]
  exact s.fetched_ready t _ h (by rw [hp]; exact ok_of u hq) hs hq

/-- Writes that store nothing. -/
theorem State.pairApply_eq (ha : ea.store = none) (hb : eb.store = none) :
    s.pairApply t ea eb = s.setThr t (((s.thr t).next.half ea).half eb) := by
  simp only [State.pairApply, State.halfPut, ha, hb]

@[simp] theorem Thread.half_stopping (x : Thread) (e : HalfFx) : (x.half e).stopping = x.stopping := by
  unfold Thread.half
  split <;> split <;> split <;> simp [Thread.setFlags]

/-- A thread at a word, TSW.BIP 0 and no access waiting. -/
def Thread.pastTo (x : Thread) (pc : Word) : Thread := { x with bip := false, issued := Held.no, pc := pc }

/-- A word whose halves meet no fault and touch no memory: A's writes, then B's. -/
theorem exec_pairedWord_registers (h : s.ready t) (hw : decodeWord t w = .pair a b)
    (ha : (s.clearBip t).half (s.thr t).issued t a = (.fx ea, s.clearBip t))
    (hb : (s.clearBip t).half (s.thr t).issued t b = (.fx eb, s.clearBip t)) (hea : ea.store = none) (heb : eb.store = none) :
    exec (.pairedWord t w) s = .next (s.setThr t
      ((((s.thr t).pastTo ((s.thr t).pc + 4)).half ea).half eb)) := by
  refine exec_pairedWord_ready h hw ?_ ?_ h.2.2.1
  · rw [State.pair_done ha hb, State.pairApply_eq hea heb, State.thr_clearBip, State.clearBip_setThr]
    rfl
  · simpa [Thread.pastTo] using h.2.2.2.2

/-- A half's writes to a thread past its word: the pc is the half's own where it branches. -/
theorem Thread.half_past (x : Thread) (e : HalfFx) (pc : Word) :
    (x.pastTo pc).half e = (x.half { e with pc := none }).pastTo (e.pc.getD pc) := by
  obtain ⟨reg, flags, pc', store⟩ := e
  cases reg with
  | none => cases flags <;> cases pc' <;> rfl
  | some p => cases flags <;> cases pc' <;> simp only [Thread.half, Thread.put, Thread.pastTo] <;> split <;> rfl

theorem Thread.half_none (x : Thread) : x.half HalfFx.none = x := rfl

/-- A short operation paired with NOP, in either half. -/
theorem exec_pairedWord_alone {o : Short} {e : HalfFx} (first : Bool) (h : s.ready t) (hn : ∀ off, o ≠ .bc .tv off)
    (ho : (s.clearBip t).half (s.thr t).issued t o = (.fx e, s.clearBip t)) (he : e.store = none) :
    exec (.pairedWord t (if first then wordPair o .nop else wordPair .nop o)) s = .next (s.setThr t
      (((s.thr t).half { e with pc := none }).pastTo (e.pc.getD ((s.thr t).pc + 4)))) := by
  have hnop : (s.clearBip t).half (s.thr t).issued t .nop = (.fx HalfFx.none, s.clearBip t) := rfl
  cases first with
  | true =>
    have hw : decodeWord t (wordPair o .nop) = .pair o .nop := by
      rw [decodeWord_wordPair t hn (by simp)]
      exact if_neg fun hbr => absurd hbr.2 (by decide)
    rw [if_pos rfl, exec_pairedWord_registers h hw ho hnop he rfl, Thread.half_none, Thread.half_past]
  | false =>
    have hw : decodeWord t (wordPair .nop o) = .pair .nop o := by
      rw [decodeWord_wordPair t (by simp) hn]
      exact if_neg fun hbr => absurd hbr.1 (by decide)
    rw [if_neg (by decide), exec_pairedWord_registers h hw hnop ho rfl he, Thread.half_none, Thread.half_past]

/-- A short operation that touches no memory, and that its bits can name: TV is no condition of BC (04 Table 4.9). -/
def simpleShort : Short → Bool
  | .ldw _ _ _ => false
  | .stw _ _ _ => false
  | .bc .tv _ => false
  | _ => true

theorem simpleShort_bc {c : Cond} {i : BitVec 6} (h : c ≠ .tv) : simpleShort (.bc c i) = true := by
  cases c with
  | tv => exact absurd rfl h
  | _ => rfl

theorem simpleShort_ne_bc {o : Short} (h : simpleShort o = true) (off : BitVec 6) : o ≠ .bc .tv off := by
  rintro rfl
  exact Bool.false_ne_true h

/-- Such an operation reads registers and flags, not TSW. -/
theorem State.half_clearBip {held : Held} {o : Short} {e : Half} (ho : simpleShort o = true) (he : (s.half held t o).1 = e) :
    (s.clearBip t).half held t o = (e, s.clearBip t) := by
  rw [← he]
  cases o with
  | ldw d r k => exact absurd ho Bool.false_ne_true
  | stw d r k => exact absurd ho Bool.false_ne_true
  | _ => simp only [State.half, State.thr_clearBip, Thread.get_bip, condHolds_bip]

theorem exec_pairedWord_simple {o : Short} {e : HalfFx} (first : Bool) (h : s.ready t) (ho : simpleShort o = true)
    (he : (s.half (s.thr t).issued t o).1 = .fx e) (hs : e.store = none) :
    exec (.pairedWord t (if first then wordPair o .nop else wordPair .nop o)) s = .next (s.setThr t
      (((s.thr t).half { e with pc := none }).pastTo (e.pc.getD ((s.thr t).pc + 4)))) :=
  exec_pairedWord_alone first h (simpleShort_ne_bc ho) (State.half_clearBip ho he) hs

/-! ### Flags of NEG and of serial numbers -/

theorem word_zero_sub (v : Word) : (0 : Word) - v = -v := BitVec.zero_sub v

theorem flagsNeg_eq (v : Word) : flagsSub 0 v = (-v == 0, (-v).msb, some (v.toNat == 0), some (overflows (-v.toInt))) := by
  rw [flagsSub_eq, word_zero_sub, show (0 : Word).toNat = 0 from rfl, show (0 : Word).toInt = 0 from rfl, Int.zero_sub,
    show decide (v.toNat ≤ 0) = (v.toNat == 0) by rw [Bool.eq_iff_iff, decide_eq_true_eq, beq_iff_eq, Nat.le_zero]]

theorem tagCmp_serial {p q : Tag} (h : p = q) (hs : p = .seq ∨ p = .time) : tagCmp p q = true := by
  subst h
  rcases hs with rfl | rfl <;> rfl

theorem flagsSerial_eq {a b : Word} {d : Nat} (hd : (b.toNat + (2 ^ 32 - a.toNat)) % 2 ^ 32 = d) :
    flagsSerial a b = (d == 0, decide (1 ≤ d ∧ d < 2 ^ 31), some (decide (d = 0 ∨ 2 ^ 31 < d)), some (d == 2 ^ 31)) := by
  have hsub : (b - a).toNat = d := by rw [BitVec.toNat_sub, Nat.add_comm, hd]
  simp only [flagsSerial, hsub, Bool.decide_or, beq_eq_decide]

/-! ### A half that faults -/

/-- A half that faults enters the warden over it, ECAUSE bit 8 being 1 for the second (04 R175; 05 R212). -/
theorem exec_pairedWord_traps {f : FaultCode} {v : Word} (second : Bool) (h : s.ready t) (hw : decodeWord t w = .pair a b)
    (hp : (s.clearBip t).pair (s.thr t).issued t a b = (s.clearBip t).trap t f v second false 0) (he : (s.thr t).ent = false)
    (hv : s.flag (F.EVT_TENT_VALID t.val) = true) (hf : f ≠ .sys) :
    exec (.pairedWord t w) s = .next (s.setThr t ((s.thr t).warden (f.num + if second then 0x100 else 0) v (s.entry t))) := by
  have hcause : causeWord f second false false 0 = BitVec.ofNat 32 (f.num + if second then 0x100 else 0) := by simp [causeWord]
  refine exec_pairedWord_ready h hw (hp.trans ?_) (by simpa [Thread.warden] using h.2.2.2.2) h.2.2.1
  rw [State.trap_enter (s.clearBip t) t f v second false 0 (by simpa using he) hv, if_neg hf, State.thr_clearBip, State.clearBip_setThr, hcause]
  rfl

theorem State.pair_first_faults {held : Held} {f : FaultCode} {v : Word} (ha : s.half held t a = (.fault f v, s)) :
    s.pair held t a b = s.trap t f v false false 0 := by
  simp only [State.pair, ha]

theorem State.pair_second_faults {held : Held} {f : FaultCode} {v : Word} (hl : ∀ d k n, a ≠ .ldw d k n) (ha : s.half held t a = (.fx ea, s))
    (hb : s.half held t b = (.fault f v, s)) : s.pair held t a b = s.trap t f v true false 0 := by
  have hkept : s.halfKept t a s = s := by
    cases a with
    | ldw d k n => exact absurd rfl (hl d k n)
    | _ => rfl
  simp only [State.pair, ha, hb, hkept]

/-! ### A half that reads or writes memory -/

/-- The address of a short load or store (04 Table 4.9). -/
theorem shortOffset : ∀ k : BitVec 2, (k.setWidth 32 : Word) <<< 2 = BitVec.ofNat 32 (4 * k.toNat) := by decide

/-- A half's load in plain memory. -/
theorem State.halfLoad_plain {held : Held} {d : SReg} {v : TWord} {k : BitVec 2} {p : Nat} (hp : effAddr v.data (BitVec.ofNat 32 (4 * k.toNat)) = p)
    (hv : v.tag = .addr) (h4 : p % 4 = 0) (hm : (plainRam p || Region.rom.holds p) = true) (hx : s.crosses t p = s)
    (hr : s.thrRead held (ownBurst t) p 4 = .ok) :
    s.halfLoad held t d v k = (.fx { HalfFx.none with reg := some (wide d, s.mem.tword p) }, s) := by
  unfold State.halfLoad
  rw [shortOffset, hp]
  simp only [hv, alignedFor, h4, hr, halfStop, State.loadWord_plain hm hx, ne_eq, not_true_eq_false, beq_self_eq_true, Bool.not_true,
    Bool.false_eq_true, if_false]

/-- A half's store in plain memory. -/
theorem State.halfStore_plain {held : Held} {v g : TWord} {k : BitVec 2} {p : Nat} (hp : effAddr v.data (BitVec.ofNat 32 (4 * k.toNat)) = p)
    (hv : v.tag = .addr) (h4 : p % 4 = 0) (hm : plainRam p = true) (hr : s.thrWrite held (ownBurst t) p 4 = .ok) :
    s.halfStore held t g v k = .fx { HalfFx.none with store := some (p, g) } := by
  obtain ⟨hregs, -, hgnss⟩ := plain_elsewhere (a := p) (by rw [hm, Bool.true_or])
  unfold State.halfStore
  rw [shortOffset, hp]
  simp only [hv, guestBarred, keyBarred, hregs, hgnss, alignedFor, h4, hr, halfStop, ne_eq, not_true_eq_false, beq_self_eq_true, Bool.not_true,
    Bool.and_false, Bool.or_false, Bool.false_eq_true, if_false, Option.getD_none]

/-- A store in plain memory at a word that is not watched puts the word there and its tag with it. -/
theorem State.storeAt_plain {p : Nat} {g : TWord} (hm : plainRam p = true) (hx : s.crosses t p = s) (hw : s.watched p = none) :
    s.storeAt t p g = s.poke p g := by
  obtain ⟨hregs, -, hgnss⟩ := plain_elsewhere (a := p) (by rw [hm, Bool.true_or])
  simp only [State.storeAt, hregs, hx, State.storeWord, hw, hgnss, Bool.false_eq_true, if_false]

/-- A store paired with NOP, in either half. -/
theorem exec_pairedWord_stores {o : Short} {p : Nat} {g : TWord} (first : Bool) (h : s.ready t) (hn : ∀ off, o ≠ .bc .tv off)
    (ho : (s.clearBip t).half (s.thr t).issued t o = (.fx { HalfFx.none with store := some (p, g) }, s.clearBip t))
    (hm : plainRam p = true) (hx : s.crosses t p = s) (hw : s.watched p = none) :
    exec (.pairedWord t (if first then wordPair o .nop else wordPair .nop o)) s = .next ((s.advanced t).poke p g) := by
  have hnop : (s.clearBip t).half (s.thr t).issued t .nop = (.fx HalfFx.none, s.clearBip t) := rfl
  have hstore : ((s.clearBip t).skip t).storeAt t p g = (s.advanced t).poke p g := by
    rw [State.skip_eq, State.storeAt_plain hm (State.crosses_advanced hx) hw]
  have hstop : (((s.advanced t).poke p g).thr t).stopping = false := by
    have : ((s.advanced t).thr t).stopping = false := by simpa [State.advanced] using h.2.2.2.2
    exact this
  cases first with
  | true =>
    refine exec_pairedWord_ready h ?_ ((State.pair_done ho hnop).trans hstore) hstop h.2.2.1
    rw [if_pos rfl, decodeWord_wordPair t hn (by simp)]
    exact if_neg fun hbr => Bool.false_ne_true hbr.2
  | false =>
    refine exec_pairedWord_ready h ?_ ((State.pair_done hnop ho).trans hstore) hstop h.2.2.1
    rw [if_neg (by decide), decodeWord_wordPair t (by simp) hn]
    exact if_neg fun hbr => Bool.false_ne_true hbr.1

end
end Sys2Proof.Machine

section
open Sys2Proof Sys2Proof.Machine

/-- Settles O21: both halves compute on the thread before the word (`exec_pairedWord_registers`); one operation paired with NOP leaves its own
writes. -/
theorem pairedHalvesAndShorts : Obligations.PairedHalvesAndShorts := by
  refine And.intro (fun s t h => ⟨fun p q => ?_, fun w a b ea eb hm hw ha hb hl hea heb => ?_⟩) ?_
  · have hw : decodeWord t (wordPair (.mov p q) (.mov q p)) = .pair (.mov p q) (.mov q p) := by
      rw [decodeWord_wordPair t (by simp) (by simp)]
      exact if_neg fun hbr => Bool.false_ne_true hbr.1
    rw [exec_pairedWord_registers h hw (ea := { HalfFx.none with reg := some (wide p, (s.thr t).get (wide q)) })
      (eb := { HalfFx.none with reg := some (wide q, (s.thr t).get (wide p)) }) (by simp only [State.half, State.thr_clearBip, Thread.get_bip])
      (by simp only [State.half, State.thr_clearBip, Thread.get_bip]) rfl rfl, Thread.half_past, Thread.half_past]
    rfl
  · exact exec_pairedWord_registers h hw (State.half_eq (fun d k n => (hl d k n).1) ha) (State.half_eq (fun d k n => (hl d k n).2) hb) hea heb
  intro s t d r i6 sh k c off first h x a b A B I J j n runs does flags put oflow res shifted e p quietly enters mix
  have alone {o : Short} {e : HalfFx} (ho : simpleShort o = true) (he : (s.half x.issued t o).1 = .fx e) (hs : e.store = none) :
      runs o = .next (s.setThr t ((x.half { e with pc := none }).pastTo (e.pc.getD (x.pc + 4)))) := exec_pairedWord_simple first h ho he hs
  have writes {o : Short} {v : Word} {g : Tag} (ho : simpleShort o = true)
      (he : (s.half x.issued t o).1 = .fx { HalfFx.none with reg := some (wide d, ⟨v, g⟩) }) : does o (put v g) :=
    alone ho he rfl
  have computes {o : Short} {v : Word} {g : Option Tag} {f : FlagSet} {l : List Tag} {q w : Bool} (ho : simpleShort o = true)
      (he : (s.half x.issued t o).1 = halfReg d v g (some f) l) (hz : f.1 = (v == 0)) (hm : f.2.1 = v.msb)
      (hc : f.2.2.1.getD x.c = q) (hv : f.2.2.2.getD x.v = w) : res o g v q w := by
    rintro g' rfl
    refine (alone ho he rfl).trans ?_
    have hhalf : x.half { HalfFx.none with reg := some (wide d, ⟨v, g'⟩), flags := some f } = flags (put v g') v q w := by
      show (x.put (wide d) ⟨v, g'⟩).setFlags f = _
      simp only [Thread.setFlags, Thread.put_c, Thread.put_v, hz, hm, hc, hv, flags, put]
    exact congrArg (fun y : Thread => (Host.Outcome.next (s.setThr t (y.pastTo (x.pc + 4))) : Res)) hhalf
  have compares {o : Short} {f : FlagSet} {good : Bool} {l : List Tag} (ho : simpleShort o = true) (hg : good = true)
      (he : (s.half x.issued t o).1 = halfFlags f good l) : does o (x.setFlags f) := by
    rw [hg] at he
    exact alone ho he rfl
  have shifts {o : Short} {v : Word} {out : Bool} (ho : simpleShort o = true)
      (he : (s.half x.issued t o).1 = halfReg d v (tagShift a.tag .int) (some (flagsShift v n out)) [a.tag, .int]) :
      res o (tagShift a.tag .int) v (if n = 0 then x.c else out) x.v := by
    refine computes ho he rfl rfl ?_ rfl
    simp only [flagsShift]
    split <;> rfl
  refine ⟨alone (o := .nop) (e := HalfFx.none) rfl rfl rfl, writes (o := .mov d r) rfl rfl, writes (o := .movi d i6) rfl rfl,
    writes (o := .tagof d r) rfl rfl, computes (o := .add d r) rfl rfl rfl rfl ?_ ?_, computes (o := .sub d r) rfl rfl rfl rfl ?_ ?_,
    computes (o := .and d r) rfl rfl rfl rfl rfl rfl, computes (o := .or d r) rfl rfl rfl rfl rfl rfl,
    computes (o := .xor d r) rfl rfl rfl rfl rfl rfl, computes (o := .addi d i6) rfl rfl rfl rfl ?_ ?_, fun hg => ⟨?_, ?_⟩,
    ?_, ?_, ?_, fun hg hn => ?_, fun hg hn => ?_,
    fun hg => ?_, fun hg => ?_, fun hq hp hr => ?_, fun hq hp hr hw => ?_, fun hc => ?_, ?_, fun hg hB => ?_, fun he hv hg => ?_⟩
  · rw [flagsAdd_eq]
    rfl
  · rw [flagsAdd_eq]
    rfl
  · rw [flagsSub_eq]
    rfl
  · rw [flagsSub_eq]
    rfl
  · rw [flagsAdd_eq]
    rfl
  · rw [flagsAdd_eq]
    rfl
  · refine computes (o := .neg d r) (g := tagNeg b.tag) (f := flagsSub 0 b.data) (l := [b.tag]) rfl ?_ ?_ ?_ ?_ ?_ _ (if_pos hg)
    · rw [← word_zero_sub]
      rfl
    all_goals rw [flagsNeg_eq]
    all_goals rfl
  · exact computes (o := .not d r) rfl rfl rfl rfl rfl rfl _ (if_pos hg)
  · have hshl := shifts (o := .shli d sh) (v := shiftLeft a.data n) (out := lostLeft a.data n) rfl rfl
    rwa [shiftLeft_eq_ofInt] at hshl
  · have hshr := shifts (o := .shri d sh) (v := shiftRight a.data n) (out := lostRight a.data n) rfl rfl
    rwa [shiftRight_eq_ofInt] at hshr
  · have hsar := shifts (o := .sari d sh) (v := shiftArith a.data n) (out := lostRight a.data n) rfl rfl
    rwa [shiftArith_eq_ofInt] at hsar
  · have hcmp := compares (o := .cmp d r) rfl hg rfl
    rwa [flagsCmp_plain hn, flagsSub_eq] at hcmp
  · have hcmp := compares (o := .cmp d r) rfl (tagCmp_serial hg hn) rfl
    rwa [flagsCmp_serial hg hn, flagsSerial_eq (d := e) rfl] at hcmp
  · have hcmp := compares (o := .cmpi d i6) rfl hg rfl
    rwa [flagsSub_eq] at hcmp
  · exact compares (o := .tst d r) rfl hg rfl
  · obtain ⟨hg, h4, hx⟩ := hq
    refine exec_pairedWord_alone first h (by simp) (e := { HalfFx.none with reg := some (wide d, s.mem.tword p) }) ?_ rfl
    simp only [State.half, State.thr_clearBip, Thread.get_bip]
    exact State.halfLoad_plain rfl hg h4 hp (State.crosses_clearBip hx) ((State.thrRead_clearBip ..).trans hr)
  · obtain ⟨hg, h4, hx⟩ := hq
    refine ⟨(s.advanced t).poke p a, exec_pairedWord_stores first h (by simp) ?_ hp hx hw, Memory.tword_setWord _ _ _,
      fun q hq => Memory.byte_setWord_out _ _ _ _ hq, rfl⟩
    simp only [State.half, State.thr_clearBip, Thread.get_bip]
    rw [State.halfStore_plain rfl hg h4 hp ((State.thrWrite_clearBip ..).trans hr)]
  · have hsimple : simpleShort (.bc c i6) = true := simpleShort_bc hc
    have hgo : (s.half x.issued t (.bc c i6)).1 = if condHolds x c 0 then halfJump (x.pc + (sext 6 i6 <<< 2)) else .fx HalfFx.none := rfl
    split
    next hcond =>
      rw [if_pos hcond] at hgo
      rw [← add_words_eq_ofInt]
      exact alone hsimple hgo rfl
    next hcond =>
      rw [if_neg hcond] at hgo
      exact alone hsimple hgo rfl
  · rw [← add_words_eq_ofInt]
    exact alone (o := .br off) rfl rfl rfl
  · have hgo : (s.half x.issued t (.jr r)).1 = halfJump b.data := by
      have hjr : (s.half x.issued t (.jr r)).1 = halfJr b := rfl
      rw [hjr, halfJr, if_neg (not_not.mpr hg), if_neg (not_not.mpr hB)]
    exact alone (o := .jr r) rfl hgo rfl
  · have hadd : (s.clearBip t).half x.issued t (.add d r) = (.fault (tagFault [a.tag, b.tag]) 0, s.clearBip t) := by
      refine State.half_clearBip rfl ?_
      have hreg : (s.half x.issued t (.add d r)).1 =
          halfReg d (a.data + b.data) (tagAdd a.tag b.tag) (some (flagsAdd a.data b.data)) [a.tag, b.tag] := rfl
      rw [hreg, hg, halfReg]
    have hcode : (tagFault [a.tag, b.tag]).num = mix := tagFault_two a.tag b.tag
    refine ⟨fun o ho => ?_, fun p q => ?_⟩
    · refine (exec_pairedWord_traps (b := o) false h ?_ (State.pair_first_faults hadd) he hv (FaultCode.sys_ne_tagFault _)).trans ?_
      · rw [decodeWord_wordPair t (by simp) ho]
        exact if_neg fun hbr => Bool.false_ne_true hbr.1
      · rw [if_neg (by decide), hcode]
        rfl
    · have hmov : (s.clearBip t).half x.issued t (.mov p q) = (.fx { HalfFx.none with reg := some (wide p, x.get (wide q)) }, s.clearBip t) :=
        State.half_clearBip rfl rfl
      refine (exec_pairedWord_traps true h ?_ (State.pair_second_faults (by simp) hmov hadd) he hv (FaultCode.sys_ne_tagFault _)).trans ?_
      · rw [decodeWord_wordPair t (by simp) (by simp)]
        exact if_neg fun hbr => Bool.false_ne_true hbr.1
      · rw [if_pos rfl, hcode]
        rfl

end

namespace Sys2Proof.Machine

/-! ## A STOP waits for an access only

A STOP of a thread is held up while an access of its word waits, and only then (05 R200). A write of a register keeps that true of each thread,
whatever else it does: no operation but a STOP holds one up, and none but an access makes one wait. Each lemma follows its operation's own definition,
as those of `State.Sound` do. -/

/-- A STOP that is held up is held up by an access. -/
def Thread.Prompt (x : Thread) : Prop := x.stopping = true → x.issued ≠ Held.no

/-- The same of one thread of a state. -/
def State.Prompt (s : State) (who : ThreadId) : Prop := (s.thr who).Prompt

namespace State.Prompt

variable {s : State} {who : ThreadId}

/-! ### The parts of the invariant -/

theorem ite {u : State} {c : Prop} [Decidable c] (hs : s.Prompt who) (hu : u.Prompt who) : (if c then s else u).Prompt who := by
  split
  · exact hs
  · exact hu

theorem foldl {α : Type} {l : List α} {f : State → α → State} (h : s.Prompt who) (hf : ∀ u a, u.Prompt who → (f u a).Prompt who) :
    (l.foldl f s).Prompt who := by
  induction l generalizing s with
  | nil => exact h
  | cons a l ih => exact ih (hf s a h)

/-! Fields other than the threads. -/

theorem setMem (h : s.Prompt who) {x} : ({ s with mem := x } : State).Prompt who := h
theorem setImages (h : s.Prompt who) {x y z} : ({ s with live := x, staged := y, sealed := z } : State).Prompt who := h
theorem ledger (h : s.Prompt who) {x} : ({ s with ledger := x } : State).Prompt who := h
theorem free (h : s.Prompt who) {x} : ({ s with free := x } : State).Prompt who := h
theorem isl (h : s.Prompt who) {x} : ({ s with isl := x } : State).Prompt who := h
theorem power (h : s.Prompt who) {x} : ({ s with power := x } : State).Prompt who := h
theorem clk (h : s.Prompt who) {x} : ({ s with clk := x } : State).Prompt who := h
theorem evring (h : s.Prompt who) {x} : ({ s with evring := x } : State).Prompt who := h
theorem late (h : s.Prompt who) {x} : ({ s with late := x } : State).Prompt who := h
theorem made (h : s.Prompt who) {x} : ({ s with made := x } : State).Prompt who := h
theorem lkDone (h : s.Prompt who) {x} : ({ s with lkDone := x } : State).Prompt who := h
theorem issued (h : s.Prompt who) {x} : ({ s with issued := x } : State).Prompt who := h
theorem rings (h : s.Prompt who) {x} : ({ s with rings := x } : State).Prompt who := h
theorem handed (h : s.Prompt who) {x} : ({ s with handed := x } : State).Prompt who := h
theorem rr (h : s.Prompt who) {x} : ({ s with rr := x } : State).Prompt who := h
theorem flash (h : s.Prompt who) {x} : ({ s with flash := x } : State).Prompt who := h
theorem time (h : s.Prompt who) {x} : ({ s with time := x } : State).Prompt who := h
theorem cmpw (h : s.Prompt who) {x} : ({ s with cmpw := x } : State).Prompt who := h
theorem cnt (h : s.Prompt who) {x} : ({ s with cnt := x } : State).Prompt who := h
theorem radio (h : s.Prompt who) {x} : ({ s with radio := x } : State).Prompt who := h
theorem mesh (h : s.Prompt who) {x} : ({ s with mesh := x } : State).Prompt who := h
theorem cip (h : s.Prompt who) {x} : ({ s with cip := x } : State).Prompt who := h
theorem gnss (h : s.Prompt who) {x} : ({ s with gnss := x } : State).Prompt who := h
theorem csp (h : s.Prompt who) {x} : ({ s with csp := x } : State).Prompt who := h
theorem tag (h : s.Prompt who) {x} : ({ s with tag := x } : State).Prompt who := h
theorem loops (h : s.Prompt who) {x} : ({ s with loops := x } : State).Prompt who := h
theorem pads (h : s.Prompt who) {x} : ({ s with pads := x } : State).Prompt who := h
theorem boot_cnt_csp (h : s.Prompt who) {x y z} : ({ s with boot := x, cnt := y, csp := z } : State).Prompt who := h
theorem free_made (h : s.Prompt who) {x y} : ({ s with free := x, made := y } : State).Prompt who := h
theorem radio_mesh (h : s.Prompt who) {x y} : ({ s with radio := x, mesh := y } : State).Prompt who := h

/-! ### Image -/

theorem setReg (h : s.Prompt who) {a v} : (s.setReg a v).Prompt who := h.setImages

theorem setStg (h : s.Prompt who) {a v} : (s.setStg a v).Prompt who := h.setImages

theorem setSld (h : s.Prompt who) {a v} : ({ s with sealed := smSet resetWord s.sealed a v } : State).Prompt who := h.setImages

theorem setFld (h : s.Prompt who) {f v} : (s.setFld f v).Prompt who := h.setReg

theorem setBit (h : s.Prompt who) {f} : (s.setBit f).Prompt who := h.setFld

theorem clrFld (h : s.Prompt who) {f} : (s.clrFld f).Prompt who := h.setFld

theorem satInc (h : s.Prompt who) {f} : (s.satInc f).Prompt who := h.setFld

theorem orFld (h : s.Prompt who) {f v} : (s.orFld f v).Prompt who := h.setFld

theorem clrBits (h : s.Prompt who) {f v} : (s.clrBits f v).Prompt who := h.setFld

theorem resetRegs (h : s.Prompt who) {p} : (s.resetRegs p).Prompt who := h.setImages

theorem setIsland (h : s.Prompt who) {i x} : (s.setIsland i x).Prompt who := h.isl

theorem fresh (h : s.Prompt who) : s.fresh.Prompt who := h.free

/-- A thread written, with no STOP held up that no access holds up. -/
theorem setThr (h : s.Prompt who) {t x} (hx : t = who → x.Prompt) : (s.setThr t x).Prompt who := by
  by_cases ht : t = who
  · subst ht
    unfold State.Prompt
    rw [State.thr_setThr_self]
    exact hx rfl
  · unfold State.Prompt
    rw [State.thr_setThr_ne s x ht]
    exact h

theorem setRing (h : s.Prompt who) {n x} : (s.setRing n x).Prompt who := h.rings

/-! ### Mem -/

theorem poke (h : s.Prompt who) {a w} : (s.poke a w).Prompt who := h.setMem

/-! ### Events -/

theorem seqIssued (h : s.Prompt who) : s.seqIssued.Prompt who := h.setFld.setFld.ite h.setFld

theorem pokes (h : s.Prompt who) {a l} : (s.pokes a l).Prompt who := by
  induction l generalizing s a with
  | nil => exact h
  | cons w l ih => exact ih h.poke

theorem writeRecord (h : s.Prompt who) {t bit code detail stamp seq} : (s.writeRecord t bit code detail stamp seq).Prompt who :=
  h.ite (h.satInc.ite (h.ite h.seqIssued).pokes.poke.evring)

theorem sendRecord (h : s.Prompt who) {t bit code detail stamp seq} : (s.sendRecord t bit code detail stamp seq).Prompt who :=
  h.writeRecord.ite h.late

theorem unhold (h : s.Prompt who) : s.unhold.Prompt who := h.power

theorem deliver (h : s.Prompt who) {t bits bit code detail stamp seq} : (s.deliver t bits bit code detail stamp seq).Prompt who :=
  ((h.unhold.ite h).setThr fun ht => ht ▸ h).sendRecord

theorem deliverRouted (h : s.Prompt who) {t bits bit code detail stamp seq} : (s.deliverRouted t bits bit code detail stamp seq).Prompt who :=
  h.ite h.deliver

theorem deliverSystem (h : s.Prompt who) {t bits bit code detail stamp seq} : (s.deliverSystem t bits bit code detail stamp seq).Prompt who :=
  h.sendRecord.ite h.deliver

theorem armedNow (h : s.Prompt who) {src} : (s.armedNow src).Prompt who := h.unhold.ite h

theorem arrive (h : s.Prompt who) : s.arrive.Prompt who := h.power.ite h

theorem fireSource (h : s.Prompt who) {src stamp} : (s.fireSource src stamp).Prompt who := by
  unfold State.fireSource
  extract_lets s1
  have h1 : s1.Prompt who := h.arrive.ite h
  split
  · exact h
  · exact h1.deliverRouted

theorem system (h : s.Prompt who) {ts code detail seq} : (s.system ts code detail seq).Prompt who :=
  (h.ite h.arrive).foldl fun _ _ k => k.deliverSystem

theorem systemTo (h : s.Prompt who) {mask code detail} : (s.systemTo mask code detail).Prompt who := h.system

/-! ### Ledger -/

theorem setAcct (h : s.Prompt who) {i a} : (s.setAcct i a).Prompt who := h.ledger

theorem setWin (h : s.Prompt who) {i w} : (s.setWin i w).Prompt who := h.ledger

theorem orderReset (h : s.Prompt who) : s.orderReset.Prompt who := h.ledger.ite h.ledger

theorem breach (h : s.Prompt who) {cause i} : (s.breach cause i).Prompt who :=
  h.setBit.ite (h.setBit.setFld.setFld.seqIssued.setFld.system.orderReset.ite h.setBit.setFld.setFld.seqIssued.setFld.system)

theorem check (h : s.Prompt who) {i} : (s.check i).Prompt who := h.breach.ite (h.ite h.breach)

theorem post (h : s.Prompt who) {i f} : (s.post i f).2.Prompt who := by
  unfold State.post
  split
  · exact h
  · split
    · exact h
    · exact h.setAcct.check

theorem posted (h : s.Prompt who) {i f} : (s.posted i f).Prompt who := h.post

theorem openQuiesce (h : s.Prompt who) {i} : (s.openQuiesce i).Prompt who := h.ite h.setWin

theorem closeQuiesce (h : s.Prompt who) {i} : (s.closeQuiesce i).Prompt who := h.setWin.check.ite h

theorem closeSlot (h : s.Prompt who) {i} : (s.closeSlot i).Prompt who := h.setWin.check

/-! ### Islands -/

theorem xt32mSettle (h : s.Prompt who) : s.xt32mSettle.Prompt who := h.ite h.clrFld

theorem wakeNoted (h : s.Prompt who) {i} : (s.wakeNoted i).Prompt who := h.radio.ite h

theorem wakeIsland (h : s.Prompt who) {i} : (s.wakeIsland i).Prompt who := by
  unfold State.wakeIsland
  extract_lets _ _
  split
  · exact h.wakeNoted
  · split
    · exact h.wakeNoted.setIsland
    · exact h.wakeNoted
    · exact h.wakeNoted.setIsland
    · exact h.wakeNoted.setIsland

theorem touch (h : s.Prompt who) {i} : (s.touch i).Prompt who := h.setIsland.ite h

theorem beginQuiesce (h : s.Prompt who) {i idle} : (s.beginQuiesce i idle).Prompt who := h.ite (h.setIsland.foldl fun _ _ k => k.openQuiesce)

/-! ### Rings -/

theorem ringArms (h : s.Prompt who) {n} : (s.ringArms n).Prompt who := h.armedNow.ite h

theorem chanArms (h : s.Prompt who) {old : State} {u ch} : (s.chanArms old u ch).Prompt who := h.ite (h.foldl fun _ _ k => k.ringArms)

theorem ringOpen (h : s.Prompt who) {n} : (s.ringOpen n).Prompt who := (h.setRing.poke.poke.poke.poke.poke.posted).setFld.ringArms

theorem ringEnable (h : s.Prompt who) {n} : (s.ringEnable n).Prompt who := h.setFld.ringOpen.ite h.setFld

theorem compRecord (h : s.Prompt who) {n status stamp seq result} : (s.compRecord n status stamp seq result).Prompt who :=
  (h.ite h.arrive).pokes.setRing.poke

theorem mirrorCredit (h : s.Prompt who) {n} : (s.mirrorCredit n).Prompt who := h.poke

theorem writeCompletion (h : s.Prompt who) {n d} : (s.writeCompletion n d).Prompt who := by
  unfold State.writeCompletion
  extract_lets _ s0 _ s2 s3 _
  have h0 : s0.Prompt who := h.seqIssued.setBit.ite h.seqIssued
  have h2 : s2.Prompt who := h0.poke.compRecord
  have h3 : s3.Prompt who := (h2.posted).mirrorCredit
  exact h3.poke.ite h3.poke.fireSource

theorem finishAt (h : s.Prompt who) {d status result stamp} : (s.finishAt d status result stamp).Prompt who := h.made.setRing.touch

theorem finish (h : s.Prompt who) {d status result} : (s.finish d status result).Prompt who := h.finishAt

theorem refuse (h : s.Prompt who) {d status} : (s.refuse d status).Prompt who := h.fresh.finish

theorem hand (h : s.Prompt who) {u ch d} : (s.hand u ch d).Prompt who := h.handed

theorem unhand (h : s.Prompt who) {u ch} : (s.unhand u ch).Prompt who := h.handed

theorem popHead (h : s.Prompt who) {n} : (s.popHead n).Prompt who := h.setRing.poke

theorem taken (h : s.Prompt who) {u ch d} : (s.taken u ch d).Prompt who := h.popHead.rr.touch

theorem takeDesc (h : s.Prompt who) {u ch o run} (hrun : ∀ v x1, v.Prompt who → (run v x1).Prompt who) : (s.takeDesc u ch o run).Prompt who := by
  unfold State.takeDesc
  split
  · exact h
  · exact h.taken.refuse.ite (hrun _ _ h.taken)

theorem takeWith (h : s.Prompt who) {u ch mine run} (hrun : ∀ v x1, v.Prompt who → (run v x1).Prompt who) : (s.takeWith u ch mine run).Prompt who :=
  h.takeDesc (fun _ _ k => hrun _ _ k)

theorem dropAccess (h : s.Prompt who) {u ch} : (s.dropAccess u ch).Prompt who := h.issued

theorem flushRing (h : s.Prompt who) {n} : (s.flushRing n).Prompt who := h.free_made.setRing

theorem ringDisable (h : s.Prompt who) {n} : (s.ringDisable n).Prompt who := h.setFld.flushRing.dropAccess.ite h

theorem hdrChecked (h : s.Prompt who) {n} : (s.hdrChecked n).Prompt who := h.setFld.ringDisable.ite h

theorem areaBad (h : s.Prompt who) {n} : (s.areaBad n).Prompt who := h.setFld.ringDisable

theorem completeNext (h : s.Prompt who) {n} : (s.completeNext n).Prompt who := by
  unfold State.completeNext
  extract_lets s0 _
  have h0 : s0.Prompt who := h.hdrChecked
  split
  · exact h
  · exact (h0.setRing.areaBad.posted).ite h0.setRing.writeCompletion

theorem busyFix (h : s.Prompt who) : s.busyFix.Prompt who := h.setFld.setFld

theorem flashCompleted (h : s.Prompt who) {n i} : (s.flashCompleted n i).Prompt who := by
  unfold State.flashCompleted
  extract_lets _
  split
  · exact h
  · exact h.flash.busyFix.ite h

theorem freeLock (h : s.Prompt who) : s.freeLock.Prompt who := (h.cip.posted).clrFld

theorem cipCompleted (h : s.Prompt who) {n i} : (s.cipCompleted n i).Prompt who := by
  unfold State.cipCompleted
  extract_lets _ _
  split
  · exact h
  · exact (h.cip.freeLock.ite h.cip).ite h

theorem completed (h : s.Prompt who) {n} : (s.completed n).Prompt who := h.completeNext.flashCompleted.cipCompleted.touch.ite h

theorem completeAll (h : s.Prompt who) {l k} : (s.completeAll l k).Prompt who := by
  induction k generalizing s with
  | zero => exact h
  | succ k ih =>
    unfold State.completeAll
    split
    · exact h
    · exact ih h.completed

theorem settleSource (h : s.Prompt who) {src} : (s.settleSource src).Prompt who := h.completeAll.ite h

theorem absentPass (h : s.Prompt who) {n k} : (s.absentPass n k).Prompt who := by
  induction k generalizing s with
  | zero => exact h
  | succ k ih =>
    unfold State.absentPass
    split
    · exact h
    · exact h.ite (ih h.popHead.refuse.settleSource)

theorem overpost (h : s.Prompt who) {n} : (s.overpost n).Prompt who := h.setBit.satInc.setFld

theorem doorbell (h : s.Prompt who) {n w} : (s.doorbell n w).Prompt who := by
  unfold State.doorbell
  extract_lets _ _ _ _ s1 _ _ s2
  have h1 : s1.Prompt who := (h.poke.posted).mirrorCredit
  have h2 : s2.Prompt who := h1.armedNow.setRing.absentPass
  exact h.overpost.ite (h.poke.ite ((h2.ite h2.wakeIsland).ite h.overpost))

theorem storeCcons (h : s.Prompt who) {n w} : (s.storeCcons n w).Prompt who := h.setBit.ite h.poke.setRing

theorem notice (h : s.Prompt who) {n stamp} : (s.notice n stamp).Prompt who := by
  unfold State.notice
  extract_lets _ s0 _ s1 _ _ s0' _ _
  have h0 : s0.Prompt who := h.settleSource.hdrChecked
  have h1 : s1.Prompt who := h0.seqIssued.compRecord.fresh
  have h0' : s0'.Prompt who := h.hdrChecked
  exact h.ite ((h0.areaBad.ite h1.poke.setRing.fireSource).ite h0'.setRing.poke)

theorem noBufAt (h : s.Prompt who) {u ch stamp} : (s.noBufAt u ch stamp).Prompt who := by
  unfold State.noBufAt
  split
  · exact h
  · exact h.notice

theorem noBuf (h : s.Prompt who) {u ch} : (s.noBuf u ch).Prompt who := h.noBufAt

theorem finishHandedAt (h : s.Prompt who) {u ch status result stamp} : (s.finishHandedAt u ch status result stamp).Prompt who := by
  unfold State.finishHandedAt
  split
  · exact h
  · exact h.unhand.finishAt

theorem finishHanded (h : s.Prompt who) {u ch status result} : (s.finishHanded u ch status result).Prompt who := h.finishHandedAt

theorem slotTake (h : s.Prompt who) {u ch} : (s.slotTake u ch).Prompt who := by
  unfold State.slotTake
  split
  · exact h
  · exact h.ite (h.takeWith (fun _ _ k => k.refuse.ite k.hand))

theorem slotFill (h : s.Prompt who) {u ch k} : (s.slotFill u ch k).Prompt who := by
  induction k generalizing s with
  | zero => exact h
  | succ k ih => exact h.ite (ih h.slotTake)

theorem slotReadied (h : s.Prompt who) {u ch} : (s.slotReadied u ch).Prompt who := h.slotFill

theorem fireSteady (h : s.Prompt who) {src} : (s.fireSteady src).Prompt who := h.settleSource.fireSource

/-! ### Ops -/

theorem storeWord (h : s.Prompt who) {a w} : (s.storeWord a w).Prompt who := by
  unfold State.storeWord
  split
  · exact h.doorbell
  · exact h.storeCcons
  · exact h.breach
  · exact h.setMem.touch.ite h.poke

theorem storePart (h : s.Prompt who) {a l} : (s.storePart a l).Prompt who := by
  unfold State.storePart
  split
  · exact h.breach
  · exact h.setBit
  · split
    · exact h.setMem.touch
    · exact h.setMem

theorem storeEach (h : s.Prompt who) {a l} : (s.storeEach a l).Prompt who := by
  induction l generalizing s a with
  | nil => exact h
  | cons b l ih => exact ih h.storePart

theorem storeAligned (h : s.Prompt who) {tag a l} : (s.storeAligned tag a l).Prompt who := by
  fun_induction State.storeAligned s tag a l with
  | case1 s a b0 b1 b2 b3 r ih => exact ih h.storeWord
  | case2 s a l hl => exact h.storeEach

theorem storeBytes (h : s.Prompt who) {tag a l} : (s.storeBytes tag a l).Prompt who := h.storeEach.storeAligned

/-- A full reset leaves no STOP held up (05 R240). -/
theorem fullReset (s : State) {c} : (s.fullReset c).Prompt who := fun hs => absurd hs (by simp [State.fullReset_stopping])

theorem setKst (h : s.Prompt who) {n v} : (s.setKst n v).Prompt who := h.setFld

theorem setKeySlot (h : s.Prompt who) {n k'} : (s.setKeySlot n k').Prompt who := h.cip

theorem emptySlot (h : s.Prompt who) {n} : (s.emptySlot n).Prompt who := h.setKeySlot.setKst

theorem spendAll (h : s.Prompt who) {n} : (s.spendAll n).Prompt who := (h.posted)

theorem endWaiting (h : s.Prompt who) {status} : (s.endWaiting status).Prompt who := by
  unfold State.endWaiting
  extract_lets _
  split
  · exact h
  · exact (h.cip.emptySlot.ite h.cip).refuse

theorem restate (h : s.Prompt who) {d status} : (s.restate d status).Prompt who := h.setRing.fresh

theorem endOp (h : s.Prompt who) {status zero} : (s.endOp status zero).Prompt who := by
  unfold State.endOp
  split
  · exact h.endWaiting
  · exact h
  · exact (h.storeBytes.ite h).restate

theorem breakLock (h : s.Prompt who) {cause} : (s.breakLock cause).Prompt who := h.ite h.endOp.freeLock.settleSource.systemTo

theorem breakLockOf (h : s.Prompt who) {ts cause} : (s.breakLockOf ts cause).Prompt who := h.breakLock.ite h

/-! ### Power -/

theorem slewWs (h : s.Prompt who) : s.slewWs.Prompt who := h.setFld

theorem fllRetarget (h : s.Prompt who) : s.fllRetarget.Prompt who := (h.clk.ite h.clk.clrFld).slewWs

theorem fllStop (h : s.Prompt who) : s.fllStop.Prompt who := h.time.clrFld

theorem presentSpan (h : s.Prompt who) {sp d} : (s.presentSpan sp d).Prompt who := (h.setWin.posted).arrive.ite (h.setWin.posted)

theorem crossed (h : s.Prompt who) {sp d} : (s.crossed sp d).Prompt who := (h.presentSpan.posted).setWin.check.ite h

theorem crosses (h : s.Prompt who) {t a} : (s.crosses t a).Prompt who := h.foldl fun _ _ k => k.crossed

theorem restartThreads (h : s.Prompt who) : s.restartThreads.Prompt who :=
  (h.foldl fun _ _ k => (k.setThr fun _ hs => Bool.noConfusion hs).clrFld.clrFld).fresh

theorem restartSteady (h : s.Prompt who) {fll} (hfll : ∀ v, v.Prompt who → (fll v).Prompt who) : (s.restartSteady fll).Prompt who := by
  unfold State.restartSteady
  extract_lets s1 s2 s3
  have h1 : s1.Prompt who := h.breakLockOf.restartThreads
  have h2 : s2.Prompt who := h1.resetRegs
  have h3 : s3.Prompt who := h2.boot_cnt_csp
  exact (hfll _ h3.fllStop.clrFld.setFld).xt32mSettle

theorem steadyWakes (h : s.Prompt who) {src} : (s.steadyWakes src).Prompt who := by
  unfold State.steadyWakes
  extract_lets _ _ _ _ s1 s2 s3
  have h1 : s1.Prompt who := h.radio.setIsland
  have h2 : s2.Prompt who := h1.restartSteady (fun _ k => k.fllRetarget)
  have h3 : s3.Prompt who := h2.setFld.setFld.setFld.clrFld
  exact h3.ite h3.clrFld

theorem wakeSource (h : s.Prompt who) {bit} : (s.wakeSource bit).Prompt who := h.ite ((h.power.ite h.power).ite (h.steadyWakes.ite h))

theorem burstOn (h : s.Prompt who) : s.burstOn.Prompt who := by
  unfold State.burstOn
  split
  · split
    · exact h.wakeIsland
    · exact h.wakeIsland
    · exact h
  · exact h

theorem burstOff (h : s.Prompt who) : s.burstOff.Prompt who := by
  unfold State.burstOff
  extract_lets _
  split
  · exact h.beginQuiesce
  · exact h.setIsland
  · exact h

theorem softReset (h : s.Prompt who) {v} : (s.softReset v).Prompt who := (fullReset s).ite h

/-! ### TimeBase -/

theorem cmpPut (h : s.Prompt who) {n w} : (s.cmpPut n w).Prompt who := h.cmpw.setBit

theorem cmpAccept (h : s.Prompt who) {n w} : (s.cmpAccept n w).Prompt who := h.cmpPut.crossed

/-! ### Counters -/

theorem setPre (h : s.Prompt who) {n p} : (s.setPre n p).Prompt who := h.cnt

theorem counterArms (h : s.Prompt who) {old : State} {n} : (s.counterArms old n).Prompt who := h.armedNow.ite h

theorem counterStart (h : s.Prompt who) {n} : (s.counterStart n).Prompt who := h.ite h.setBit.setPre

theorem count (h : s.Prompt who) {n} : (s.count n).Prompt who := by
  unfold State.count
  extract_lets _ _ _ s1 s2 s3 s4
  have h1 : s1.Prompt who := h.setFld.setPre
  have h2 : s2.Prompt who := h1.setBit.ite h1
  have h3 : s3.Prompt who := h2.setBit.ite h2
  have h4 : s4.Prompt who := h3.setFld.ite h3
  exact h4.fireSteady.ite h4

theorem countDue (h : s.Prompt who) {n} : (s.countDue n).Prompt who := h.count.ite h

theorem capture (h : s.Prompt who) {n} : (s.capture n).Prompt who := (h.countDue.setBit.ite h.countDue).setFld.setBit.setPre

theorem sourceEdge (h : s.Prompt who) {n} : (s.sourceEdge n).Prompt who := h.countDue.setPre.ite h

theorem srcEdges (h : s.Prompt who) {src p} : (s.srcEdges src p).Prompt who := h.foldl fun _ _ k => k.sourceEdge

theorem capEdges (h : s.Prompt who) {sel p} : (s.capEdges sel p).Prompt who := (h.foldl fun _ _ k => (k.capture.ite k).setPre).ite h

theorem cntinEdge (h : s.Prompt who) {k' level} : (s.cntinEdge k' level).Prompt who := h.srcEdges.capEdges.ite h

theorem counterStop (h : s.Prompt who) {n} : (s.counterStop n).Prompt who := h.countDue.clrFld.xt32mSettle

theorem setCmpv (h : s.Prompt who) {n v} : (s.setCmpv n v).Prompt who := h.countDue.setFld.setBit.ite h.countDue.setFld

theorem setCrel (h : s.Prompt who) {n d} : (s.setCrel n d).Prompt who := h.countDue.setCmpv

theorem setCount (h : s.Prompt who) {n v} : (s.setCount n v).Prompt who := h.ite h.setFld

theorem counterCtl (h : s.Prompt who) {n v} : (s.counterCtl n v).Prompt who :=
  (h.setFld.setFld.setFld.counterStart.ite h.setFld.setFld.setFld.counterStop).counterArms

theorem divRestart (h : s.Prompt who) {n} : (s.divRestart n).Prompt who := h.countDue.setPre

theorem counterCommit (h : s.Prompt who) {n} : (s.counterCommit n).Prompt who :=
  h.divRestart.ite (h.divRestart.setReg.setReg.setBit.ite h.divRestart.setReg.setReg).setPre

theorem cntCommit (h : s.Prompt who) : s.cntCommit.Prompt who := (h.foldl fun _ _ k => k.counterCommit).xt32mSettle

/-! ### Calendar -/

theorem calSet (h : s.Prompt who) {date v} : (s.calSet date v).Prompt who := (h.setStg.ite h.setBit).ite (h.setStg.ite h.setBit)

theorem tamperClear (h : s.Prompt who) {v} : (s.tamperClear v).Prompt who := h.setReg.setReg.setReg.setReg.ite h

/-! ### Flash -/

theorem flashSuspend (h : s.Prompt who) : s.flashSuspend.Prompt who := by
  unfold State.flashSuspend
  extract_lets _
  split
  · exact h
  · exact h.ite (h.setBit.ite h.flash.setFld)

theorem flashResume (h : s.Prompt who) : s.flashResume.Prompt who := by
  unfold State.flashResume
  split
  · exact h
  · exact h.clrFld.busyFix.ite h

theorem flashCtl (h : s.Prompt who) {v} : (s.flashCtl v).Prompt who := by
  unfold State.flashCtl
  split
  · exact h.flashSuspend
  · exact h.flashResume
  · exact h

theorem flcEccClr (h : s.Prompt who) : s.flcEccClr.Prompt who := h.clrFld.clrFld

/-! ### Cipher -/

theorem grantLock (h : s.Prompt who) {t} : (s.grantLock t).Prompt who := (h.posted).setBit.setFld.setFld

theorem claimLock (h : s.Prompt who) {t} : (s.claimLock t).Prompt who := h.ite (h.grantLock.ite (h.cip.ite h))

theorem releaseLock (h : s.Prompt who) {t} : (s.releaseLock t).Prompt who := (h.cip.ite h.freeLock).ite h

theorem cipLockWrite (h : s.Prompt who) {t v} : (s.cipLockWrite t v).Prompt who :=
  h.ite ((h.wakeIsland.releaseLock.ite h.wakeIsland).ite (h.wakeIsland.claimLock.ite h.wakeIsland))

theorem nonPurge (h : s.Prompt who) {v} : (s.nonPurge v).Prompt who := h.cip.ite h

theorem spendSlots (h : s.Prompt who) : s.spendSlots.Prompt who := h.foldl fun _ _ k => k.spendAll

theorem zeroise (h : s.Prompt who) {tamper} : (s.zeroise tamper).Prompt who := by
  unfold State.zeroise
  extract_lets s1 s2 _
  have h1 : s1.Prompt who := h.endOp.foldl fun _ _ k => k.emptySlot
  have h2 : s2.Prompt who := h1.setBit.ite h1
  exact h.ite (h2.spendSlots.ite h2.cip)

theorem zeroWrite (h : s.Prompt who) {v} : (s.zeroWrite v).Prompt who := h.zeroise.ite h

/-! ### Staging -/

theorem sealCopy (h : s.Prompt who) {b} : (s.sealCopy b).Prompt who := h.foldl fun _ _ k => k.setSld

theorem lkClose (h : s.Prompt who) {b} : (s.lkClose b).Prompt who := h.ite h.lkDone

theorem sealWrite (h : s.Prompt who) {b v} : (s.sealWrite b v).Prompt who := by
  unfold State.sealWrite
  extract_lets _ s1 s2 s3
  have h1 : s1.Prompt who := h.clrFld.ite h
  have h2 : s2.Prompt who := h1.clrFld.ite h1
  have h3 : s3.Prompt who := h2.setBit.ite h2
  exact h3.sealCopy.setBit.setBit.lkClose.ite h2

theorem sealDiscard (h : s.Prompt who) {b} : (s.sealDiscard b).Prompt who := h.clrFld.setBit.ite h

/-! ### Bolt -/

theorem setTloop (h : s.Prompt who) {n x} : (s.setTloop n x).Prompt who := h.loops

theorem armLoop (h : s.Prompt who) {n} : (s.armLoop n).Prompt who := h.setTloop

theorem loopRearm (h : s.Prompt who) {v} : (s.loopRearm v).Prompt who := h.foldl fun _ _ k => k.clrBits.armLoop.ite k

theorem btsTen (h : s.Prompt who) {v} : (s.btsTen v).Prompt who := (h.setFld.foldl fun _ _ k => k.armLoop.ite k).chanArms

/-! ### Csp -/

theorem setCsp (h : s.Prompt who) {c} : (s.setCsp c).Prompt who := h.csp

theorem cspDrop (h : s.Prompt who) {v} : (s.cspDrop v).Prompt who := h.setCsp.ite h

theorem cspSclr (h : s.Prompt who) {v} : (s.cspSclr v).Prompt who := h.clrFld.ite h

/-! ### Schedule -/

theorem setDuty (h : s.Prompt who) {p win v} : (s.setDuty p win v).Prompt who := h.setFld.ite h.radio

theorem dutyCharge (h : s.Prompt who) {p win us} : (s.dutyCharge p win us).Prompt who := h.setDuty

theorem setBuf (h : s.Prompt who) {i b} : (s.setBuf i b).Prompt who := h.radio

/-! ### Radio -/

theorem recharge (h : s.Prompt who) {p} : (s.recharge p).Prompt who := h.radio.foldl fun _ _ k => (k.dutyCharge.ite k).radio

theorem dutyStart (h : s.Prompt who) {p} : (s.dutyStart p).Prompt who := h.radio.clrFld.recharge

/-! ### Mesh -/

theorem setNbr (h : s.Prompt who) {e x} : (s.setNbr e x).Prompt who := h.mesh

theorem dropFrame (h : s.Prompt who) {f status} : (s.dropFrame f status).Prompt who :=
  ((h.setBuf.posted).ite h.setBuf).finish.ite ((h.setBuf.posted).ite h.setBuf).refuse

theorem hopsSet (h : s.Prompt who) : s.hopsSet.Prompt who := h.setFld.ite h

theorem evictDone (h : s.Prompt who) {e} : (s.evictDone e).Prompt who := by
  unfold State.evictDone
  extract_lets _ s1 s2 s3
  have h1 : s1.Prompt who := h.setNbr.foldl fun _ _ k => k.dropFrame
  have h2 : s2.Prompt who := (h1.posted)
  have h3 : s3.Prompt who := h2.setReg.setReg.setReg.setReg.hopsSet
  split
  · exact h3
  · exact h3.finish

theorem meshPlace (h : s.Prompt who) : s.meshPlace.Prompt who := h.setFld.setFld.setFld.mesh

theorem meshStart (h : s.Prompt who) : s.meshStart.Prompt who :=
  h.setBit.ite (h.setBit.chanArms.chanArms.wakeIsland.setFld.meshPlace.ite h.setBit.chanArms.chanArms.wakeIsland.setFld.setFld)

theorem meshHalt (h : s.Prompt who) : s.meshHalt.Prompt who := h.clrFld.mesh.touch.ite h

theorem dropQueues (h : s.Prompt who) {status} : (s.dropQueues status).Prompt who :=
  (h.foldl fun _ _ k => k.setNbr).mesh.foldl fun _ _ k => k.dropFrame

theorem setSlot (h : s.Prompt who) {x} : (s.setSlot x).Prompt who := h.mesh

theorem slotBuffer (h : s.Prompt who) {x} : (s.slotBuffer x).Prompt who := by
  unfold State.slotBuffer
  split
  · exact (h.setBuf.posted).ite h
  · exact h

theorem slotClose (h : s.Prompt who) {x} : (s.slotClose x).Prompt who := by
  unfold State.slotClose
  extract_lets s1
  have h1 : s1.Prompt who := h.closeSlot.ite h
  split
  · exact h1
  · exact h1.closeSlot.ite h1

theorem mshCntclr (h : s.Prompt who) : s.mshCntclr.Prompt who := h.setReg

theorem meshQuiesce (h : s.Prompt who) : s.meshQuiesce.Prompt who := by
  unfold State.meshQuiesce
  extract_lets s0 _ s1 s2
  have h0 : s0.Prompt who := by
    unfold s0
    split
    · exact h
    · extract_lets s1
      have h1 : s1.Prompt who := by
        unfold s1
        split
        · extract_lets t _ _
          have h_t : t.Prompt who := (h.setBuf.posted)
          exact h.ite ((h_t.setNbr.posted).ite (h_t.mesh.ite h_t.mesh))
        · exact h.slotBuffer
      exact h1.slotClose.setSlot
  have h1 : s1.Prompt who := h0.foldl fun _ _ k => k.openQuiesce
  have h2 : s2.Prompt who := h1.dropQueues
  exact h2.foldl fun _ _ k => k.evictDone.closeQuiesce

/-! ### Gnss -/

theorem setGnss (h : s.Prompt who) {g} : (s.setGnss g).Prompt who := h.gnss

theorem gnssNotice (h : s.Prompt who) {code ch detail} : (s.gnssNotice code ch detail).Prompt who :=
  h.slotReadied.finishHanded.ite h.slotReadied.noBuf

theorem gnssNote (h : s.Prompt who) {code detail} : (s.gnssNote code detail).Prompt who := h.fresh.gnssNotice

theorem frontEndOff (h : s.Prompt who) : s.frontEndOff.Prompt who := h.clrFld

theorem gnsFeWrite (h : s.Prompt who) {v} : (s.gnsFeWrite v).Prompt who := by
  unfold State.gnsFeWrite
  extract_lets s0 s1 s2
  have h0 : s0.Prompt who := h.setFld.setFld
  have h1 : s1.Prompt who := h0.foldl fun _ _ k => k.chanArms
  have h2 : s2.Prompt who := h1.touch.ite h1
  exact h2.ite h2.frontEndOff

/-! ### Pps -/

theorem setPps (h : s.Prompt who) {p} : (s.setPps p).Prompt who := h.setGnss

theorem ppsGo (h : s.Prompt who) {st} : (s.ppsGo st).Prompt who := h.setFld.gnssNote

theorem showBound (h : s.Prompt who) {b} : (s.showBound b).Prompt who := h.setFld

theorem noBound (h : s.Prompt who) : s.noBound.Prompt who := h.setFld

theorem ppsStart (h : s.Prompt who) : s.ppsStart.Prompt who := h.setPps.noBound.clrFld.ppsGo

theorem ppsStop (h : s.Prompt who) : s.ppsStop.Prompt who := h.ite h.setPps.noBound.clrFld.ppsGo

theorem ppsCtl (h : s.Prompt who) {v} : (s.ppsCtl v).Prompt who := by
  unfold State.ppsCtl
  extract_lets _ s1 _ s3
  have h1 : s1.Prompt who := h.setFld.chanArms.setFld.setFld
  have h3 : s3.Prompt who := h1.setFld.ite h1.setFld.setBit
  exact (h3.ppsStart.ite h3).ite (h3.touch.ite h3).ppsStop

theorem ppsFixWrite (h : s.Prompt who) {v} : (s.ppsFixWrite v).Prompt who := h.ite (h.setPps.showBound.ite h.setPps)

theorem ppsAdjWrite (h : s.Prompt who) {v} : (s.ppsAdjWrite v).Prompt who := h.setPps

theorem gnsReset (h : s.Prompt who) : s.gnsReset.Prompt who := h.setMem.resetRegs.setFld.setGnss

/-! ### RingCmds -/

theorem rcfgFields (h : s.Prompt who) {n v} : (s.rcfgFields n v).Prompt who := h.setFld.setFld.setFld

theorem rcfgWrite (h : s.Prompt who) {n v} : (s.rcfgWrite n v).Prompt who := (h.rcfgFields.ringEnable.ite h.rcfgFields).ite (h.ite h.ringDisable)

theorem rhdrWrite (h : s.Prompt who) {n v} : (s.rhdrWrite n v).Prompt who := h.setFld.ite h

theorem queOvpClr (h : s.Prompt who) : s.queOvpClr.Prompt who := h.clrFld

/-! ### TagBus -/

theorem setTag (h : s.Prompt who) {t} : (s.setTag t).Prompt who := h.tag

theorem setLine (h : s.Prompt who) {l x} : (s.setLine l x).Prompt who := h.setTag

theorem lineEnable (h : s.Prompt who) {l} : (s.lineEnable l).Prompt who := h.ite h.setBit.chanArms.clrFld.clrFld.setLine

theorem lineDisable (h : s.Prompt who) {l} : (s.lineDisable l).Prompt who := h.clrFld.setLine

theorem lcfgWrite (h : s.Prompt who) {l v} : (s.lcfgWrite l v).Prompt who := h.lineEnable.ite h.lineDisable

/-! ### Quiesce -/

theorem meshCut (h : s.Prompt who) : s.meshCut.Prompt who := (h.mesh.foldl fun _ _ k => k.finish).meshQuiesce

theorem handedCut (h : s.Prompt who) {i} : (s.handedCut i).Prompt who := h.foldl fun _ _ k => k.finishHanded

theorem ringsOut (h : s.Prompt who) {i} : (s.ringsOut i).Prompt who := h.completeAll

theorem unitsReset (h : s.Prompt who) {i} : (s.unitsReset i).Prompt who := by
  unfold State.unitsReset
  extract_lets _ _
  split
  · exact h
  · exact (h.spendSlots.foldl fun _ _ k => k.emptySlot).breakLock
  · exact h.resetRegs.radio_mesh
  · exact h.gnsReset
  · exact h

theorem darkCut (h : s.Prompt who) {i} : (s.darkCut i).Prompt who := by
  unfold State.darkCut
  split
  · exact h.meshCut.handedCut.ringsOut
  · exact h

theorem askReset (h : s.Prompt who) {i} : (s.askReset i).Prompt who := by
  unfold State.askReset
  extract_lets _
  split
  · exact h
  · split
    · exact (h.darkCut.foldl fun _ _ k => k.sealDiscard).unitsReset
    · exact h.setIsland.beginQuiesce
    · exact h.setIsland

theorem islandReset (h : s.Prompt who) {v} : (s.islandReset v).Prompt who := by
  unfold State.islandReset
  extract_lets s1 _ s2
  have h1 : s1.Prompt who := h.foldl fun _ _ k => k.askReset
  have h2 : s2.Prompt who := h1.setIsland
  exact h.ite ((h2.foldl fun _ _ k => k.beginQuiesce).ite h1)

/-! ### Threads -/

theorem threadGone (h : s.Prompt who) {t} : (s.threadGone t).Prompt who := h.breakLockOf

theorem threadBegin (h : s.Prompt who) {t} : (s.threadBegin t).Prompt who := (h.setThr fun _ hs => Bool.noConfusion hs).fresh

theorem threadStart (h : s.Prompt who) {t} : (s.threadStart t).Prompt who := by
  unfold State.threadStart
  split
  · exact h.threadBegin
  · exact h.threadBegin
  · exact h

theorem threadStop (h : s.Prompt who) {t} : (s.threadStop t).Prompt who := by
  unfold State.threadStop
  extract_lets _
  split
  · split
    · exact (h.setThr fun ht => by subst ht; exact h).threadGone
    next hissued => exact h.setThr fun _ _ => hissued
  · exact (h.setThr fun ht => by subst ht; exact h).threadGone
  · exact h

theorem tctlWrite (h : s.Prompt who) {t v} : (s.tctlWrite t v).Prompt who := by
  unfold State.tctlWrite
  split
  · exact h.threadStart
  · exact h.threadStop
  · exact h

theorem evLatch (h : s.Prompt who) {t} : (s.evLatch t).Prompt who := h.evring

theorem tringWrite (h : s.Prompt who) {t v} : (s.tringWrite t v).Prompt who := h.setFld.setBit.evLatch.ite h.setFld.clrFld

theorem tovfClr (h : s.Prompt who) {t} : (s.tovfClr t).Prompt who := h.clrFld

/-! ### Entropy -/

theorem entropyRestart (h : s.Prompt who) : s.entropyRestart.Prompt who := h.clrFld.clrFld

theorem ectlWrite (h : s.Prompt who) {v} : (s.ectlWrite v).Prompt who :=
  (h.setFld.entropyRestart.ite h.setFld).ite (h.setFld.entropyRestart.ite h.setFld).clrFld

/-! ### LedgerCmds -/

theorem sweepStart (h : s.Prompt who) : s.sweepStart.Prompt who := h.ledger

theorem auditGo (h : s.Prompt who) : s.auditGo.Prompt who := h.ite h.sweepStart

theorem ldgSel (h : s.Prompt who) {i} : (s.ldgSel i).Prompt who := h.setFld.setFld.setFld.setFld.setFld.setReg

/-! ### Pins -/

theorem pinChanged {v : State} (hv : v.Prompt who) {n} : (s.pinChanged v n).Prompt who := by
  unfold State.pinChanged
  extract_lets _ s0 s1
  have h0 : s0.Prompt who := hv.cntinEdge.ite hv
  have h1 : s1.Prompt who := h0.orFld.fireSource
  exact ((h1.wakeSource.ite h1).ite h0).ite hv

theorem padKept (h : s.Prompt who) {old : State} {n} : (s.padKept old n).Prompt who := h.ite h.pads

theorem pinCfgPut (h : s.Prompt who) {n put} (hput : ∀ v, v.Prompt who → (put v).Prompt who) : (s.pinCfgPut n put).Prompt who :=
  (hput _ h).padKept.armedNow.ite (hput _ h).padKept

theorem pinOut (h : s.Prompt who) {v} : (s.pinOut v).Prompt who := h.setFld.foldl fun _ _ k => k.pinChanged

theorem pinSet (h : s.Prompt who) {v} : (s.pinSet v).Prompt who := h.pinOut

theorem pinClr (h : s.Prompt who) {v} : (s.pinClr v).Prompt who := h.pinOut

/-! ### Regs -/

theorem stageWrite (h : s.Prompt who) {a v} : (s.stageWrite a v).Prompt who := h.ite h.setStg

theorem plainWrite (h : s.Prompt who) {a v} : (s.plainWrite a v).Prompt who := h.setReg

theorem codeWrite (h : s.Prompt who) {a v} : (s.codeWrite a v).Prompt who := h.plainWrite.stageWrite

theorem burstWrite (h : s.Prompt who) {v} : (s.burstWrite v).Prompt who := by
  unfold State.burstWrite
  split
  · exact h
  · exact h.codeWrite.burstOn
  · exact h.codeWrite.burstOff
  · exact h.codeWrite

theorem vsrcWrite (h : s.Prompt who) {v} : (s.vsrcWrite v).Prompt who := h.codeWrite.clk

theorem calStatWrite (h : s.Prompt who) {v} : (s.calStatWrite v).Prompt who := h.codeWrite.clrFld.ite h.codeWrite

theorem eccWrite (h : s.Prompt who) {v} : (s.eccWrite v).Prompt who := h.codeWrite.flcEccClr.ite h.codeWrite

theorem mshCtlWrite (h : s.Prompt who) {v} : (s.mshCtlWrite v).Prompt who :=
  h.setFld.setFld.stageWrite.meshStart.ite h.setFld.setFld.stageWrite.meshHalt

theorem sniffWrite (h : s.Prompt who) {v} : (s.sniffWrite v).Prompt who := h.codeWrite.ite h.codeWrite

theorem singleWrite (h : s.Prompt who) {t a v} : (s.singleWrite t a v).Prompt who := by
  unfold State.singleWrite
  split
  · exact h.auditGo.ite h
  · exact h.ldgSel
  · exact h.burstWrite
  · exact h.islandReset
  · exact h.softReset
  · exact h.vsrcWrite
  · exact h.codeWrite.xt32mSettle
  · exact h.queOvpClr.ite h
  · exact h.flashCtl
  · exact h.eccWrite
  · exact h.codeWrite.chanArms
  · exact h.cspSclr
  · exact h.cspDrop
  · exact h.btsTen
  · exact h.loopRearm
  · exact h.cipLockWrite
  · exact h.zeroWrite
  · exact h.nonPurge
  · exact h.ectlWrite
  · exact h.sniffWrite
  · exact h.codeWrite.dutyStart
  · exact h.codeWrite.dutyStart
  · exact h.mshCtlWrite
  · exact h.mshCntclr.ite h
  · exact h.gnsFeWrite.stageWrite
  · exact h.ppsCtl
  · exact h.ppsAdjWrite
  · exact h.ppsFixWrite
  · exact h.pinOut
  · exact h.pinSet
  · exact h.pinClr
  · exact h.calStatWrite
  · exact h.calSet
  · exact h.calSet
  · exact h.tamperClear
  · exact h.codeWrite

theorem evtWrite (h : s.Prompt who) {a v} : (s.evtWrite a v).Prompt who := by
  unfold State.evtWrite
  extract_lets _
  split
  · exact h.tctlWrite
  · exact h.tringWrite
  · exact h.tovfClr.ite h
  · exact h.codeWrite

theorem queWrite (h : s.Prompt who) {a v} : (s.queWrite a v).Prompt who := by
  unfold State.queWrite
  extract_lets _
  split
  · exact h.rcfgWrite
  · exact h.rhdrWrite
  · exact h.codeWrite

theorem cmpWrite (h : s.Prompt who) {a v} : (s.cmpWrite a v).Prompt who := by
  unfold State.cmpWrite
  extract_lets _
  split
  · exact h.cmpAccept
  · exact h.cmpAccept
  · exact h.cmpAccept
  · exact h.cmpAccept

theorem cntWrite (h : s.Prompt who) {a v} : (s.cntWrite a v).Prompt who := by
  unfold State.cntWrite
  extract_lets _
  split
  · exact h.stageWrite.counterCtl
  · exact h.setCount
  · exact h.setCmpv
  · exact h.setCrel
  · exact h.codeWrite

theorem tagWriteReg (h : s.Prompt who) {a v} : (s.tagWriteReg a v).Prompt who := by
  unfold State.tagWriteReg
  extract_lets _
  split
  · exact h.lcfgWrite
  · exact h.ite h.codeWrite
  · exact h.codeWrite

theorem pinCfgWrite (h : s.Prompt who) {a v} : (s.pinCfgWrite a v).Prompt who := h.pinCfgPut (fun _ k => k.codeWrite)

theorem pendDone (h : s.Prompt who) {b} : (s.pendDone b).Prompt who := h.clrFld

theorem sealPut (h : s.Prompt who) {b v} : (s.sealPut b v).Prompt who := (h.cntCommit.pendDone.ite h).cnt.sealWrite.ite h.sealWrite

theorem regWrite (h : s.Prompt who) {t a v} : (s.regWrite t a v).Prompt who := by
  unfold State.regWrite
  split
  · exact h
  · split
    · exact h.sealPut
    · split
      · exact h.evtWrite
      · exact h.queWrite.ite (h.cmpWrite.ite (h.cntWrite.ite (h.tagWriteReg.ite (h.pinCfgWrite.ite h.singleWrite))))

end State.Prompt
end Sys2Proof.Machine

namespace Sys2Proof.Machine

/-! ## What stores write -/

section
variable {m : Memory} {w : Word} {a n : Nat}

/-- The low `n` bytes of a word stand at an address, least significant first, and every other byte is as before (03 R701). -/
def Memory.Stored (m m' : Memory) (w : Word) (n a : Nat) : Prop :=
  (∀ k, k < n → m'.byte (a + k) = w.extractLsb' (8 * k) 8) ∧ ∀ b, b < a ∨ a + n ≤ b → m'.byte b = m.byte b

theorem Memory.setData_eq : m.setData a w = m.setBytes a ((wordBytes w).take 4) := rfl

theorem Memory.tags_setBytes (l : List Byte) : (m.setBytes a l).tags = m.tags := by
  induction l generalizing m a with
  | nil => rfl
  | cons b l ih => exact ih

theorem Memory.byte_setBytes_in {l : List Byte} {k : Nat} (hk : k < l.length) : (m.setBytes a l).byte (a + k) = l[k] := by
  induction l generalizing m a k with
  | nil => exact absurd hk (Nat.not_lt_zero k)
  | cons b l ih =>
    cases k with
    | zero =>
      rw [Memory.setBytes, show a + 0 = a from rfl, Memory.byte_setBytes_out _ _ _ _ (Or.inl (Nat.lt_add_one a)), Memory.byte_setByte, if_pos rfl]
      rfl
    | succ k =>
      rw [Memory.setBytes, ← Nat.add_assoc, Nat.add_right_comm]
      exact ih (Nat.lt_of_succ_lt_succ hk)

theorem length_take_wordBytes (hn : n ≤ 4) : ((wordBytes w).take n).length = n := by
  rw [List.length_take]
  exact Nat.min_eq_left hn

theorem wordBytes_getElem {k : Nat} (hk : k < (wordBytes w).length) : (wordBytes w)[k] = w.extractLsb' (8 * k) 8 := by
  have : k < 4 := hk
  interval_cases k <;> rfl

/-- The low bytes of a word, written. -/
theorem Memory.setBytes_stored (hn : n ≤ 4) : m.Stored (m.setBytes a ((wordBytes w).take n)) w n a := by
  have hl : ((wordBytes w).take n).length = n := length_take_wordBytes hn
  refine ⟨fun k hk => ?_, fun b hb => Memory.byte_setBytes_out _ _ _ _ (by rwa [hl])⟩
  rw [Memory.byte_setBytes_in (hl.symm ▸ hk), List.getElem_take, wordBytes_getElem]

end

section
variable {s : State} {t : ThreadId}

theorem State.Prompt.settle (h : s.Prompt t) : s.settle.Prompt t := (State.Prompt.fullReset s).ite h

/-- With no STOP waiting for an access that is over there is none to take effect. -/
theorem State.Prompt.stopLate_eq (h : s.Prompt t) : s.stopLate t = s :=
  if_neg fun hs => by
    rw [Bool.and_eq_true, beq_iff_eq] at hs
    exact h hs.1 hs.2

theorem State.Prompt.of_stopping (h : (s.thr t).stopping = false) : s.Prompt t := fun hs => absurd (h.symm.trans hs) (by decide)

variable {w : TWord} {n a : Nat}

/-- The state that a store of `n` bytes leaves. -/
def State.stored (s : State) (t : ThreadId) (w : TWord) (n a : Nat) : State :=
  if n = 4 then s.storeAt t a w else (s.crosses t a).storePart a ((wordBytes w.data).take n)

/-- What a store in plain memory leaves: its bytes and the tag of its word (03 R112, R183). -/
theorem State.stored_plain (hn : n ≤ 4) (ha : n = 4 → wordAddr a = a) (hp : plainRam a = true) (hx : s.crosses t a = s)
    (hw : s.watched (wordAddr a) = none) :
    ∃ m : Memory, s.stored t w n a = { s with mem := m } ∧ s.mem.Stored m w.data n a ∧ m.tag a = (if n = 4 then w.tag else .raw) ∧
      ∀ b, wordAddr b ≠ wordAddr a → m.tag b = s.mem.tag b := by
  obtain ⟨-, -, hgnss⟩ := plain_elsewhere (a := a) (by rw [hp, Bool.true_or])
  by_cases h4 : n = 4
  · subst h4
    rw [ha rfl] at hw
    refine ⟨s.mem.setWord a w, ?_, Memory.setBytes_stored hn, ?_, fun b hb => Memory.tag_setWord_out _ _ _ _ hb⟩
    · rw [State.stored, if_pos rfl, State.storeAt_plain hp hx hw]
      rfl
    · exact congrArg TWord.tag (s.mem.tword_setWord a w)
  · have hstored := Memory.setBytes_stored (m := s.mem) (w := w.data) (a := a) hn
    refine ⟨(s.mem.setBytes a ((wordBytes w.data).take n)).setTag a .raw, ?_, hstored, ?_, fun b hb => ?_⟩
    · simp only [State.stored, h4, if_false, hx, State.storePart, hw, hgnss, Bool.false_eq_true]
    · rw [Memory.tag_setTag, if_pos rfl, if_neg h4]
    · rw [Memory.tag_setTag, if_neg hb, Memory.tag, Memory.tags_setBytes, Memory.tag]

theorem gnss_elsewhere (h : Region.gnss.holds a = true) : inRegs a = false ∧ inSram (wordAddr a) 4 = false := by
  simp only [inRegs, inSram, ← Bool.not_eq_true, Bool.or_eq_true, Bool.and_eq_true, decide_eq_true_eq, Region.holds_iff] at h ⊢
  dsimp only [Region.span, wordAddr] at h ⊢
  omega

theorem State.touch_mem {i : Island} {m : Memory} : ({ s with mem := m } : State).touch i = { s.touch i with mem := m } := by
  by_cases hl : (s.island i).st = .lit
  · have hlit : s.touch i = s.setIsland i { s.island i with since := s.now } := if_pos hl
    rw [hlit]
    exact if_pos hl
  · have hdark : s.touch i = s := if_neg hl
    rw [hdark]
    exact if_neg hl

/-- What a store in capture RAM leaves: its bytes and no tag (03 R112). -/
theorem State.stored_gnss (hn : n ≤ 4) (ha : n = 4 → wordAddr a = a) (hg : Region.gnss.holds a = true) (hx : s.crosses t a = s) :
    ∃ m : Memory, s.stored t w n a = { s.touch .gnss with mem := m } ∧ s.mem.Stored m w.data n a ∧ m.tags = s.mem.tags := by
  obtain ⟨hregs, hsram⟩ := gnss_elsewhere hg
  have hw : s.watched (wordAddr a) = none := if_neg (by rw [hsram]; decide)
  refine ⟨s.mem.setBytes a ((wordBytes w.data).take n), ?_, Memory.setBytes_stored hn, Memory.tags_setBytes _⟩
  by_cases h4 : n = 4
  · rw [ha h4] at hw
    simp only [State.stored, h4, if_true, State.storeAt, hregs, hx, State.storeWord, hw, hg, Bool.false_eq_true, if_false, State.touch_mem,
      Memory.setData_eq]
  · simp only [State.stored, h4, if_false, hx, State.storePart, hw, hg, if_true, State.touch_mem]

end

/-! ### Stores that no check stops -/

section
variable {s : State} {t : ThreadId} {c : Cond} {rd ra : Reg} {i : Instr} {n : Nat} {a : Word}
variable (h : s.ready t) (hc : condHolds (s.thr t) c ra = true) (ha : a.toNat % n = 0)
  (hr : s.thrWrite (s.thr t).issued (ownBurst t) a.toNat n = .ok)

include ha hr in
/-- A store that no check stops does what a store of its bytes does, on the word's next state. -/
theorem State.Stores.does (hs : s.Stores t c ra i rd n a) (hn : n ≤ 4) (hb : guestBarred (s.thr t) a.toNat = false)
    (hk : keyOff ((s.thr t).get rd).tag n a.toNat = false) (hv : n = 4 ∨ ((s.thr t).get rd).tag ≠ .void) :
    s.Does t c ra i (.done ((s.advanced t).stored t ((s.thr t).get rd) n a.toNat)) := by
  rw [State.Stores, hb, if_neg (by decide), State.storeN_eq hn hk hv, State.storeStop_none ha ((State.thrWrite_clearBip ..).trans hr),
    Option.getD_none, State.skip_eq] at hs
  exact hs

theorem State.advanced_stopping (h : s.ready t) : ((s.advanced t).thr t).stopping = false := by simpa [State.advanced] using h.2.2.2.2

include h hc ha hr

/-- A store in plain memory. -/
theorem State.Stores.plain (hs : s.Stores t c ra i rd n a) (hn : n ≤ 4) (hx : s.crosses t a.toNat = s) (hp : plainRam a.toNat = true)
    (hw : s.watched (wordAddr a.toNat) = none) (hv : n = 4 ∨ (((s.thr t).get rd).tag ≠ .key ∧ ((s.thr t).get rd).tag ≠ .void)) :
    Gives i s (fun u => s.mem.Stored u.mem ((s.thr t).get rd).data n a.toNat ∧
      u.mem.tag a.toNat = (if n = 4 then ((s.thr t).get rd).tag else .raw) ∧
      (∀ b, wordAddr b ≠ wordAddr a.toNat → u.mem.tag b = s.mem.tag b) ∧ u = { s.advanced t with mem := u.mem }) := by
  obtain ⟨hregs, -, hgnss⟩ := plain_elsewhere (a := a.toNat) (by rw [hp, Bool.true_or])
  have hb : guestBarred (s.thr t) a.toNat = false := by rw [guestBarred, hregs, Bool.and_false]
  have hk : keyOff ((s.thr t).get rd).tag n a.toNat = false := by
    rcases hv with rfl | ⟨hkey, -⟩
    · rw [keyOff_four, keyBarred, hregs, hgnss, Bool.or_self, Bool.and_false]
    · rw [keyOff, beq_eq_false_iff_ne.mpr hkey, Bool.false_and]
  obtain ⟨m, hm, hbytes, htag, htags⟩ := State.stored_plain (s := s.advanced t) (t := t) (w := (s.thr t).get rd) hn
    (fun h4 => wordAddr_of_aligned (h4 ▸ ha)) hp (State.crosses_advanced hx) hw
  have hdone := hs.does ha hr hn hb hk (hv.imp id And.right)
  rw [hm] at hdone
  exact ⟨_, hdone.done h hc (State.advanced_stopping h) rfl, hbytes, htag, htags, rfl⟩

/-- A store in capture RAM. -/
theorem State.Stores.gnss (hs : s.Stores t c ra i rd n a) (hn : n ≤ 4) (hx : s.crosses t a.toNat = s) (hg : Region.gnss.holds a.toNat = true)
    (hkey : ((s.thr t).get rd).tag ≠ .key) (hv : n = 4 ∨ ((s.thr t).get rd).tag ≠ .void) :
    Gives i s (fun u => s.mem.Stored u.mem ((s.thr t).get rd).data n a.toNat ∧ u.mem.tags = s.mem.tags ∧
      u = { (s.advanced t).touch .gnss with mem := u.mem }) := by
  have hb : guestBarred (s.thr t) a.toNat = false := by rw [guestBarred, (gnss_elsewhere hg).1, Bool.and_false]
  have hk : keyOff ((s.thr t).get rd).tag n a.toNat = false := by rw [keyOff, beq_eq_false_iff_ne.mpr hkey, Bool.false_and]
  obtain ⟨m, hm, hbytes, htags⟩ := State.stored_gnss (s := s.advanced t) (t := t) (w := (s.thr t).get rd) hn
    (fun h4 => wordAddr_of_aligned (h4 ▸ ha)) hg (State.crosses_advanced hx)
  have hdone := hs.does ha hr hn hb hk hv
  rw [hm] at hdone
  have hsame : ((s.advanced t).touch .gnss).thr t = (s.advanced t).thr t ∧ ((s.advanced t).touch .gnss).ledger = s.ledger := by
    unfold State.touch
    dsimp only
    split <;> exact ⟨rfl, rfl⟩
  exact ⟨_, hdone.done h hc ((congrArg Thread.stopping hsame.1).trans (State.advanced_stopping h)) hsame.2, hbytes, htags, rfl⟩

/-- A word store to a set-up register is a write of the register, which may order a full reset, or stop the storing thread itself. -/
theorem State.Stores.register (hs : s.Stores t c ra i rd n a) (hn : n = 4) (hregs : inRegs a.toNat = true) (hmode : (s.thr t).mode = true)
    (hkey : ((s.thr t).get rd).tag ≠ .key) :
    exec i s = .next (((s.advanced t).crosses t a.toNat).regWrite t a.toNat ((s.thr t).get rd).data).settle := by
  have hb : guestBarred (s.thr t) a.toNat = false := by rw [guestBarred, hmode, Bool.not_true, Bool.false_and]
  have hk : keyOff ((s.thr t).get rd).tag n a.toNat = false := by rw [keyOff, beq_eq_false_iff_ne.mpr hkey, Bool.false_and]
  have hdone := hs.does ha hr hn.le hb hk (Or.inl hn)
  rw [State.stored, if_pos hn, State.storeAt, hregs, if_pos rfl] at hdone
  have hprompt : (((s.advanced t).crosses t a.toNat).regWrite t a.toNat ((s.thr t).get rd).data).Prompt t :=
    (State.Prompt.of_stopping (State.advanced_stopping h)).crosses.regWrite
  exact hdone.settled_stopLate h hc hprompt.settle.stopLate_eq

end
end Sys2Proof.Machine

section
open Sys2Proof Sys2Proof.Machine

/-- Settles O14, by the region that a store's address lies in. A write of a register may stop the thread that stores; that no STOP is then left
waiting is `State.Prompt`, which every write keeps. -/
theorem storesWriteMemory : Obligations.StoresWriteMemory := by
  intro s t c rd ra rb imm h hc hb x w base into reg
  have stores {i : Instr} {n : Nat} {a : Word} (hs : s.Stores t c ra i rd n a) (hn : n ≤ 4) : into i n a.toNat := fun ha hr hx =>
    ⟨fun hp hw hv => by
      obtain ⟨u, hu, ⟨hin, hout⟩, rest⟩ := hs.plain h hc ha hr hn hx hp hw hv
      exact ⟨u, hu, ⟨hin, hout⟩, rest⟩,
    fun hg hk hv => by
      obtain ⟨u, hu, ⟨hin, hout⟩, rest⟩ := hs.gnss h hc ha hr hn hx hg hk hv
      exact ⟨u, hu, ⟨hin, hout⟩, rest⟩⟩
  have registers {i : Instr} {a : Word} (hs : s.Stores t c ra i rd 4 a) : reg i a.toNat := fun ha hregs hmode hk hr =>
    hs.register h hc ha hr rfl hregs hmode hk
  have hbyte : BitVec.ofInt 32 imm.toInt = scaled 1 imm := by rw [scaled, Nat.cast_one, one_mul]
  refine ⟨stores (State.stw_stores hb) le_rfl, registers (State.stw_stores hb), fun hk => ?_, stores (State.sth_stores hb) (by decide), ?_⟩
  · exact ⟨stores (State.stwx_stores hb hk) le_rfl, registers (State.stwx_stores hb hk)⟩
  · rw [hbyte]
    exact stores (State.stb_stores hb) (by decide)

end

namespace Sys2Proof.Machine

/-! ## A thread that its warden cannot have -/

section
variable {s : State} {t : ThreadId}

/-- A thread that stops for good and holds no lock takes nothing with it (12 R508). -/
theorem State.threadGone_lockless (h : s.flag F.CIP_LOCK_HELD = false ∨ s.fld F.CIP_LOCK_OWNER ≠ t.val) : s.threadGone t = s := by
  rw [State.threadGone, State.breakLockOf]
  split
  next howner =>
    rw [List.any_cons, List.any_nil, Bool.or_false, beq_iff_eq] at howner
    have hheld : s.flag F.CIP_LOCK_HELD = false := h.resolve_right fun hne => hne howner.symm
    rw [State.breakLock, hheld]
    rfl
  · rfl

/-- A full field written is what its register reads. -/
theorem State.reg_setFld_full (a v : Nat) : (s.setFld ⟨a, 0, 32⟩ v).reg a = BitVec.ofNat 32 v := by
  rw [State.setFld, State.reg_setReg_self, fldPut_full]

/-- What a thread leaves that is halted: its state, and its pc and cause in its own two registers (05 R216). -/
def State.halted (s : State) (t : ThreadId) (cause : Word) : State :=
  ((s.setThr t { s.thr t with st := .faulted }).setFld (F.EVT_TFPC_PC t.val) (s.thr t).pc.toNat).setFld (F.EVT_TFCAUSE_CAUSE t.val) cause.toNat

theorem State.halted_reg {cause : Word} {a : Nat} (hpc : a ≠ (F.EVT_TFPC_PC t.val).addr) (hcause : a ≠ (F.EVT_TFCAUSE_CAUSE t.val).addr) :
    (s.halted t cause).reg a = s.reg a := by
  rw [State.halted, State.reg_setFld_ne _ _ _ _ hcause, State.reg_setFld_ne _ _ _ _ hpc, State.reg_setThr]

theorem State.halted_cause {cause : Word} : (s.halted t cause).reg (F.EVT_TFCAUSE_CAUSE t.val).addr = cause := by
  rw [State.halted, F.EVT_TFCAUSE_CAUSE, State.reg_setFld_full, BitVec.ofNat_toNat, BitVec.setWidth_eq]

theorem State.halted_pc {cause : Word} : (s.halted t cause).fld (F.EVT_TFPC_PC t.val) = (s.thr t).pc.toNat := by
  rw [State.halted, State.fld_setFld_reg _ _ _ _ (by simp [F.EVT_TFPC_PC, F.EVT_TFCAUSE_CAUSE]),
    State.fld_setFld_self _ _ _ (by simp [Fld.fits, F.EVT_TFPC_PC])]
  exact Nat.mod_eq_of_lt (s.thr t).pc.isLt

/-- A thread whose entry is not to be had is halted; with no thread to tell and no lock to break nothing else happens (05 R216). -/
theorem State.trap_halts {f : FaultCode} {a : Word} {half fetch : Bool} {imm : BitVec 15}
    (he : (s.thr t).ent = true ∨ s.flag (F.EVT_TENT_VALID t.val) = false) (hroute : s.fld F.EVT_FROUTE_TMASK = 0)
    (hlock : s.flag F.CIP_LOCK_HELD = false) :
    s.trap t f a half fetch imm = s.halted t (causeWord f half (s.thr t).bip fetch imm) := by
  have hentry : (!(s.thr t).ent && s.flag (F.EVT_TENT_VALID t.val)) = false := by rcases he with he | he <;> simp [he]
  have hmask (cause : Word) : (s.halted t cause).fld F.EVT_FROUTE_TMASK = 0 := by
    refine Eq.trans (State.fld_of_reg (State.halted_reg ?_ ?_)) hroute
    · simp [F.EVT_FROUTE_TMASK, F.EVT_TFPC_PC]; omega
    · simp [F.EVT_FROUTE_TMASK, F.EVT_TFCAUSE_CAUSE]; omega
  have hheld (cause : Word) : (s.halted t cause).flag F.CIP_LOCK_HELD = false := by
    refine Eq.trans (State.flag_of_reg (State.halted_reg ?_ ?_)) hlock
    · simp [F.CIP_LOCK_HELD, F.EVT_TFPC_PC]; omega
    · simp [F.CIP_LOCK_HELD, F.EVT_TFCAUSE_CAUSE]; omega
  simp only [State.trap, hentry, Bool.false_eq_true, if_false]
  exact (congrArg (State.threadGone · t) (State.systemTo_zero _ (hmask _) _ _)).trans (State.threadGone_lockless (Or.inl (hheld _)))

end

/-! ## SYS and WRET -/

section
variable {s : State} {t : ThreadId} {c : Cond} {imm : BitVec 15}

/-- SYS reports its code in bits [7:0] of ECAUSE and its immediate in bits [30:16] (05 R212). -/
theorem causeWord_sys : causeWord .sys false false false imm = 0x30#32 ||| (0#1 ++ imm ++ 0#16) := by
  have hlt : imm.toNat < 2 ^ 15 := imm.isLt
  refine BitVec.eq_of_toNat_eq ?_
  rw [BitVec.toNat_or, BitVec.toNat_append, BitVec.toNat_append, BitVec.toNat_ofNat, causeWord, Nat.or_comm]
  simp only [FaultCode.num, BitVec.toNat_ofNat, Nat.zero_mod, Nat.zero_shiftLeft, Nat.zero_or, Nat.or_zero, Bool.false_eq_true, if_false]
  rw [← Nat.shiftLeft_add_eq_or_of_lt (by decide), Nat.shiftLeft_eq]
  omega

/-- SYS of a ready thread traps. -/
theorem exec_sys_traps {u : State} (h : s.ready t) (hc : condHolds (s.thr t) c 0 = true) (hu : (s.clearBip t).trap t .sys 0 false false imm = u)
    (hs : (u.thr t).stopping = false) (hq : u.ledger = s.ledger) : exec (.sys t c imm) s = .next u := by
  have hr : u.ledger.resetDue = false := (congrArg Ledger.resetDue hq).trans h.2.2.1
  rw [exec_sys, execSys]
  refine s.fetched_ready t _ h ?_ hs hr
  simp only [State.thr_clearBip, condHolds_bip, hc, if_true, hu]
  exact ok_of u hr

end
end Sys2Proof.Machine

section
open Sys2Proof Sys2Proof.Machine

/-- Settles O17, by the two ends of a trap (`State.trap_enter`, `State.trap_halts`) and by `Thread.leave`. -/
theorem sysAndReturn : Obligations.SysAndReturn := by
  intro s t c imm h hc x
  refine ⟨fun he hv => ?_, fun he hroute hlock => ?_, fun hm => ?_, fun hm he hv => ?_⟩
  · refine exec_sys_traps h hc ?_ (by simpa using h.2.2.2.2) rfl
    rw [State.trap_enter (s.clearBip t) t _ _ _ _ _ (by simpa using he) hv, State.thr_clearBip, State.clearBip_setThr, causeWord_sys, if_pos rfl]
    rfl
  · have hthr (cause : Word) (v : ThreadId) :
        ((s.clearBip t).halted t cause).thr v = (s.setThr t { x with st := .faulted, bip := false, issued := Held.no }).thr v := by
      simp [State.halted, x]
    refine ⟨_, exec_sys_traps h hc (State.trap_halts (by simpa using he) hroute hlock) ?_ rfl, ?_, ?_, ?_, fun a ha => ?_, rfl, fun v hv => ?_⟩
    · rw [hthr, State.thr_setThr_self]
      exact h.2.2.2.2
    · rw [State.halted, State.thr_clearBip, State.clearBip_setThr]
      rfl
    · rw [State.halted_pc, State.thr_clearBip]
    · rw [State.halted_cause, State.thr_clearBip]
      exact causeWord_sys
    · simp only [List.mem_cons, List.not_mem_nil, or_false, not_or] at ha
      exact State.halted_reg ha.1 ha.2
    · rw [hthr, State.thr_setThr_ne _ _ hv.symm]
  · refine (exec_wret ..).trans (State.instr_done h hc ?_ (by simpa using h.2.2.2.2) rfl)
    simp only [State.thr_clearBip, State.clearBip_setThr]
    rw [if_pos hm]
    rfl
  · refine (exec_wret ..).trans (State.instr_guest h hc hm he hv ?_)
    simp only [State.thr_clearBip]
    exact if_neg (Bool.eq_false_iff.mp hm)

end

namespace Sys2Proof.Machine

/-! ## Words stored one after another -/

/-- The memories with words stored from an address on (03 R112). -/
def Memory.setWords (m : Memory) (a : Nat) : List TWord → Memory
  | [] => m
  | w :: l => Memory.setWords (m.setWord a w) (a + 4) l

section
variable {m : Memory} {a b k : Nat} {l : List TWord}

theorem State.pokes_eq {s : State} : s.pokes a l = { s with mem := s.mem.setWords a l } := by
  induction l generalizing s a with
  | nil => rfl
  | cons w l ih => exact ih

/-- Every byte outside the words is as before. -/
theorem Memory.byte_setWords_out (h : b < a ∨ a + 4 * l.length ≤ b) : (m.setWords a l).byte b = m.byte b := by
  induction l generalizing m a with
  | nil => rfl
  | cons w l ih =>
    rw [List.length_cons] at h
    rw [Memory.setWords, ih (by omega), Memory.byte_setWord_out _ _ _ _ (by omega)]

/-- A word outside them is as before, whole. -/
theorem Memory.word_setWord_out {w : TWord} (h : b + 4 ≤ a ∨ a + 4 ≤ b) : (m.setWord a w).word b = m.word b := by
  simp only [Memory.word]
  rw [Memory.byte_setWord_out _ _ _ _ (by omega), Memory.byte_setWord_out _ _ _ _ (by omega), Memory.byte_setWord_out _ _ _ _ (by omega),
    Memory.byte_setWord_out _ _ _ _ (by omega)]

theorem Memory.tword_setWord_out {w : TWord} (ha : a % 4 = 0) (h : b + 4 ≤ a ∨ a + 4 ≤ b) : (m.setWord a w).tword b = m.tword b := by
  rw [Memory.tword, Memory.word_setWord_out h, Memory.tag_setWord_out _ _ _ _ (by unfold wordAddr; omega), Memory.tword]

theorem Memory.tword_setWords_out (ha : a % 4 = 0) (h : b + 4 ≤ a ∨ a + 4 * l.length ≤ b) : (m.setWords a l).tword b = m.tword b := by
  induction l generalizing m a with
  | nil => rfl
  | cons w l ih =>
    rw [List.length_cons] at h
    rw [Memory.setWords, ih (by omega) (by omega), Memory.tword_setWord_out ha (by omega)]

theorem Memory.tag_setWords_out (ha : a % 4 = 0) (h : b < a ∨ a + 4 * l.length ≤ b) : (m.setWords a l).tag b = m.tag b := by
  induction l generalizing m a with
  | nil => rfl
  | cons w l ih =>
    rw [List.length_cons] at h
    rw [Memory.setWords, ih (by omega) (by omega), Memory.tag_setWord_out _ _ _ _ (by unfold wordAddr; omega)]

/-- Each word reads back as it was stored, data and tag. -/
theorem Memory.tword_setWords_in (ha : a % 4 = 0) (hk : k < l.length) : (m.setWords a l).tword (a + 4 * k) = l[k] := by
  induction l generalizing m a k with
  | nil => exact absurd hk (Nat.not_lt_zero k)
  | cons w l ih =>
    cases k with
    | zero => rw [Memory.setWords, show a + 4 * 0 = a from rfl, Memory.tword_setWords_out (by omega) (by omega), Memory.tword_setWord, List.getElem_cons_zero]
    | succ k =>
      rw [Memory.setWords, show a + 4 * (k + 1) = a + 4 + 4 * k by omega]
      exact ih (by omega) (Nat.lt_of_succ_lt_succ hk)

end
end Sys2Proof.Machine

namespace Sys2Proof.Machine

/-! ## Event records as they reach their ring -/

section
variable {s : State} {t : ThreadId} {bits detail : Word} {bit code : Nat} {stamp : BitVec 48}

/-- The state in which a thread has its PEND bits and its record is still to be sent (05 R202, Table 5.7). -/
def State.pended (s : State) (t : ThreadId) (bits : Word) : State :=
  (if (s.thr t).awaits bits then s.unhold else s).setThr t { s.thr t with pend := (s.thr t).pend ||| bits }

theorem State.deliver_eq {seq : Option Word} :
    s.deliver t bits bit code detail stamp seq = (s.pended t bits).sendRecord t bit code detail stamp seq := rfl

@[simp] theorem State.pended_mem : (s.pended t bits).mem = s.mem := by unfold State.pended; split <;> rfl
@[simp] theorem State.pended_evring : (s.pended t bits).evring = s.evring := by unfold State.pended; split <;> rfl
@[simp] theorem State.pended_reg (a : Nat) : (s.pended t bits).reg a = s.reg a := by unfold State.pended; split <;> rfl
@[simp] theorem State.pended_lit (i : Island) : (s.pended t bits).lit i = s.lit i := by unfold State.pended; split <;> rfl
theorem State.pended_threads : (s.pended t bits).threads = (s.setThr t { s.thr t with pend := (s.thr t).pend ||| bits }).threads := by
  unfold State.pended
  split <;> rfl

/-- A delivered event sets PEND bits of its thread and changes nothing else of any (05 R202). -/
theorem State.deliver_threads {seq : Option Word} : (s.deliver t bits bit code detail stamp seq).threads =
    (s.setThr t { s.thr t with pend := (s.thr t).pend ||| bits }).threads := by
  obtain ⟨v, m, e, l, h⟩ := (s.pended t bits).sendRecord_frame t bit code detail stamp seq
  rw [State.deliver_eq, h]
  exact State.pended_threads

theorem State.deliver_thr_self {seq : Option Word} :
    (s.deliver t bits bit code detail stamp seq).thr t = { s.thr t with pend := (s.thr t).pend ||| bits } := by
  rw [State.thr_of_threads State.deliver_threads, State.thr_setThr_self]

theorem State.deliver_thr_ne {seq : Option Word} {v : ThreadId} (h : v ≠ t) :
    (s.deliver t bits bit code detail stamp seq).thr v = s.thr v := by
  rw [State.thr_of_threads State.deliver_threads, State.thr_setThr_ne _ _ h.symm]

theorem State.deliver_rest {seq : Option Word} {v : ThreadId} :
    ((s.deliver t bits bit code detail stamp seq).thr v).regs = (s.thr v).regs ∧
    ((s.deliver t bits bit code detail stamp seq).thr v).pc = (s.thr v).pc ∧
    ((s.deliver t bits bit code detail stamp seq).thr v).stopping = (s.thr v).stopping := by
  by_cases h : v = t
  · subst h
    rw [State.deliver_thr_self]
    exact ⟨rfl, rfl, rfl⟩
  · rw [State.deliver_thr_ne h]
    exact ⟨rfl, rfl, rfl⟩

/-! ### The three outcomes of a record -/

/-- A thread with no event ring enabled gets no record (05 R207). -/
theorem State.writeRecord_disabled {seq : Option Word} (h : s.flag (F.EVT_TRING_EN t.val) = false) :
    s.writeRecord t bit code detail stamp seq = s := by
  rw [State.writeRecord_eq, h]
  rfl

/-- A ring that takes no record counts it (05 R209). -/
theorem State.writeRecord_full {seq : Option Word} (h : s.flag (F.EVT_TRING_EN t.val) = true) (hfree : s.evFree t = 0) :
    s.writeRecord t bit code detail stamp seq = s.satInc (F.EVT_TOVF_COUNT t.val) := by
  rw [State.writeRecord_eq, h, if_neg (by decide), if_pos hfree]

/-- Where the next record of a thread's event ring goes (05 R207). -/
def EvRing.at (e : EvRing) : Nat := e.base + e.prod % e.size * 16

/-- A ring that takes a record has it at its next entry, with a number issued by it (05 R207; 01 R28). -/
theorem State.writeRecord_appends (h : s.flag (F.EVT_TRING_EN t.val) = true) (hfree : s.evFree t ≠ 0) :
    s.writeRecord t bit code detail stamp none =
      s.seqIssued.append t (vget s.evring t).at (recordWords bit code detail stamp s.seqNext) (s.fld (F.EVT_TRING_ADDR t.val) * 64)
        { vget s.evring t with prod := ((vget s.evring t).prod + 1) % 65536 } := by
  rw [State.writeRecord_eq, h, if_neg (by decide), if_neg hfree]
  rfl

theorem State.seqIssued_mem : s.seqIssued.mem = s.mem := by
  obtain ⟨v, h⟩ := s.seqIssued_frame
  rw [h]

/-- A record leaves every byte outside its entry and the ring's PROD. -/
theorem State.writeRecord_byte_out {b : Nat} (hrec : b < (vget s.evring t).at ∨ (vget s.evring t).at + 16 ≤ b)
    (hprod : b < s.fld (F.EVT_TRING_ADDR t.val) * 64 + 8 ∨ s.fld (F.EVT_TRING_ADDR t.val) * 64 + 12 ≤ b) :
    (s.writeRecord t bit code detail stamp none).mem.byte b = s.mem.byte b := by
  cases hen : s.flag (F.EVT_TRING_EN t.val) with
  | false => rw [State.writeRecord_disabled hen]
  | true =>
    by_cases hfree : s.evFree t = 0
    · rw [State.writeRecord_full hen hfree, State.satInc_mem]
    · rw [State.writeRecord_appends hen hfree]
      exact (Memory.byte_setWord_out _ _ _ _ hprod).trans ((congrArg (fun u => u.mem.byte b) State.pokes_eq).trans
        ((Memory.byte_setWords_out hrec).trans (by rw [State.seqIssued_mem])))

/-- The same, of an event delivered. -/
theorem State.deliver_byte_out {b : Nat} (hrec : b < (vget s.evring t).at ∨ (vget s.evring t).at + 16 ≤ b)
    (hprod : b < s.fld (F.EVT_TRING_ADDR t.val) * 64 + 8 ∨ s.fld (F.EVT_TRING_ADDR t.val) * 64 + 12 ≤ b) :
    (s.deliver t bits bit code detail stamp none).mem.byte b = s.mem.byte b := by
  have hhdr : (s.pended t bits).fld (F.EVT_TRING_ADDR t.val) = s.fld (F.EVT_TRING_ADDR t.val) := State.fld_of_reg (State.pended_reg _)
  rw [State.deliver_eq, State.sendRecord]
  split
  · rw [State.writeRecord_byte_out (by rwa [State.pended_evring]) (by rwa [hhdr]), State.pended_mem]
  · exact congrArg (Memory.byte · b) State.pended_mem

/-- With no event ring enabled an event leaves memory and registers. -/
theorem State.deliver_disabled (h : s.flag (F.EVT_TRING_EN t.val) = false) :
    (s.deliver t bits bit code detail stamp none).mem = s.mem ∧ SameRegs [] s (s.deliver t bits bit code detail stamp none) := by
  rw [State.deliver_eq, State.sendRecord]
  split
  · rw [State.writeRecord_disabled ((State.flag_of_reg (State.pended_reg _)).trans h)]
    exact ⟨State.pended_mem, fun a _ => State.pended_reg a⟩
  · exact ⟨State.pended_mem, fun a _ => State.pended_reg a⟩

end

/-! ## WAIT and SEND -/

section
variable {s : State} {t : ThreadId} {c : Cond} {rd ra rb : Reg}

theorem Thread.put_regs (x : Thread) (r : Reg) (w : TWord) : (x.put r w).regs = if r = 0 then x.regs else vset x.regs r w := by
  unfold Thread.put
  split <;> rfl

theorem State.clearBip_st (v : ThreadId) : ((s.clearBip t).thr v).st = (s.thr v).st :=
  State.onThr.thr_st (g := fun x => { x with bip := false, issued := Held.no }) ⟨fun _ => rfl, fun _ => rfl, fun _ => rfl, fun _ _ => rfl⟩ v

theorem State.clearBip_pend (v : ThreadId) : ((s.clearBip t).thr v).pend = (s.thr v).pend := by
  by_cases h : t = v
  · subst h
    rw [State.thr_clearBip]
  · rw [State.thr_clearBip_ne _ h]

/-- A thread whose WAIT completes with the bits that are pending (05 R203). -/
def Thread.woken (x : Thread) (rd : Reg) (mask : Word) : Thread :=
  { (x.put rd ⟨x.pend &&& mask, .int⟩) with
    pend := x.pend &&& ~~~mask, wmask := mask, waitRd := rd, pc := x.pc + 4, bip := false, issued := Held.no, st := .run }

theorem Thread.await_pending {x : Thread} {mask : Word} (h : x.pend &&& mask ≠ 0) :
    ({ x with bip := false, issued := Held.no } : Thread).await rd mask = x.woken rd mask := by
  simp only [Thread.await, h, if_false, Thread.waited, Thread.woken, Thread.put]
  split <;> rfl

theorem Thread.await_none {x : Thread} {mask : Word} (h : x.pend &&& mask = 0) :
    ({ x with bip := false, issued := Held.no } : Thread).await rd mask =
      { x with wmask := mask, waitRd := rd, bip := false, issued := Held.no, st := .wait } := by
  simp only [Thread.await, h, if_true]

/-- WAIT of an INT mask does no more than `Thread.await`. -/
theorem exec_wait_awaits {y : Thread} (h : s.ready t) (hc : condHolds (s.thr t) c ra = true) (hm : ((s.thr t).get ra).tag = .int)
    (hy : ({ s.thr t with bip := false, issued := Held.no } : Thread).await rd ((s.thr t).get ra).data = y) (hs : y.stopping = (s.thr t).stopping) :
    exec (.wait t c rd ra) s = .next (s.setThr t y) := by
  refine (exec_wait ..).trans (State.instr_done h hc ?_ (by rw [State.thr_setThr_self, hs]; exact h.2.2.2.2) rfl)
  simp only [State.thr_clearBip, Thread.get_bip, State.clearBip_setThr, hy]
  exact if_neg (not_not.mpr hm)

/-- The thread that a SEND to a number reaches. -/
theorem State.sendGoes_some {v : ThreadId} {n : Nat} {bits : Word} (hn : n = v.val)
    (hst : (s.thr v).st = .run ∨ (s.thr v).st = .wait) (hup : v.val < 8 ∨ s.lit .burst = true) (hbits : bits ≠ 0) :
    s.sendGoes n bits = some v := by
  subst hn
  have honto : onSteady v = true ∨ s.lit .burst = true := by simpa [onSteady] using hup
  rw [State.sendGoes, dif_pos v.isLt, if_pos ⟨hbits, hst, honto⟩]

theorem State.sendGoes_none {v : ThreadId} {n : Nat} {bits : Word}
    (h : bits = 0 ∨ 10 ≤ n ∨ (n = v.val ∧ ¬(((s.thr v).st = .run ∨ (s.thr v).st = .wait) ∧ (v.val < 8 ∨ s.lit .burst = true)))) :
    s.sendGoes n bits = none := by
  unfold State.sendGoes
  split
  next hn =>
    refine if_neg fun ⟨hbits, hst, hup⟩ => ?_
    rcases h with h | h | ⟨rfl, h⟩
    · exact hbits h
    · omega
    · exact h ⟨hst, by simpa [onSteady] using hup⟩
  · rfl

/-- The state in which a SEND's event is with its target (05 R205, R206). -/
def State.signalled (s : State) (t v : ThreadId) (bits : Word) : State :=
  s.deliver v bits (lowestEvent bits) 0x02 (bits ||| BitVec.ofNat 32 t.val) s.stamp none

/-- What SEND of two INT sources comes to, by the thread that it reaches (05 R205). -/
def State.sent (s : State) (t : ThreadId) (rd : Reg) (bits : Word) : Option ThreadId → State
  | none => s.write t rd ⟨0, .int⟩
  | some v => (s.signalled t v bits).write t rd ⟨1, .int⟩

theorem State.signalled_stopping {v k : ThreadId} {bits : Word} : ((s.signalled t v bits).thr k).stopping = (s.thr k).stopping :=
  State.deliver_rest.2.2

theorem State.signalled_ledger {v : ThreadId} {bits : Word} : (s.signalled t v bits).ledger = s.ledger := State.deliver_ledger ..

/-- What SEND leaves of its target, of itself and of the other threads. -/
theorem State.sent_threads {v : ThreadId} {bits : Word} : ((s.sent t rd bits (some v)).thr v).pend = (s.thr v).pend ||| bits ∧
    ((s.sent t rd bits (some v)).thr t).regs = ((s.thr t).put rd ⟨1, .int⟩).regs ∧
    ((s.sent t rd bits (some v)).thr t).pc = (s.thr t).pc + 4 ∧
    ∀ k, k ≠ t → k ≠ v → (s.sent t rd bits (some v)).thr k = s.thr k := by
  obtain ⟨hregs, hpc, -⟩ : ((s.signalled t v bits).thr t).regs = (s.thr t).regs ∧ ((s.signalled t v bits).thr t).pc = (s.thr t).pc ∧ _ :=
    State.deliver_rest
  have hpend : ((s.signalled t v bits).thr v).pend = (s.thr v).pend ||| bits := congrArg Thread.pend State.deliver_thr_self
  refine ⟨?_, ?_, ?_, fun k hkt hkv => ?_⟩
  · by_cases hvt : v = t
    · subst hvt
      rw [State.sent, State.thr_write, Thread.next_pend, Thread.put_pend, hpend]
    · rw [State.sent, State.thr_write_ne _ _ _ (Ne.symm hvt), hpend]
  · rw [State.sent, State.thr_write, Thread.next_regs, Thread.put_regs, Thread.put_regs, hregs]
  · rw [State.sent, State.thr_write, Thread.next_pc, Thread.put_pc, hpc]
  · rw [State.sent, State.thr_write_ne _ _ _ (Ne.symm hkt)]
    exact State.deliver_thr_ne hkv

/-- Of memory and registers SEND leaves what its event does. -/
theorem State.sent_event {v : ThreadId} {bits : Word} : (s.sent t rd bits (some v)).mem = (s.signalled t v bits).mem ∧
    (s.sent t rd bits (some v)).ledger = s.ledger ∧ ∀ a, (s.sent t rd bits (some v)).reg a = (s.signalled t v bits).reg a := by
  refine ⟨?_, ?_, fun a => ?_⟩
  · rw [State.sent, State.write_mem]
  · rw [State.sent, State.write_ledger, State.signalled_ledger]
  · rw [State.sent, State.reg_write]

theorem exec_send_sent {u : Option ThreadId} (h : s.ready t) (hc : condHolds (s.thr t) c ra = true) (ha : ((s.thr t).get ra).tag = .int)
    (hb : ((s.thr t).get rb).tag = .int)
    (hu : (s.clearBip t).sendGoes ((s.thr t).get ra).data.toNat (((s.thr t).get rb).data &&& 0xFF000000) = u) :
    exec (.send t c rd ra rb) s = .next ((s.clearBip t).sent t rd (((s.thr t).get rb).data &&& 0xFF000000) u) := by
  refine (exec_send ..).trans (State.instr_done h hc ?_ ?_ ?_)
  · simp only [State.thr_clearBip, Thread.get_bip, ha, hb, hu, ne_eq, not_true_eq_false, or_self, if_false]
    cases u <;> rfl
  · cases u with
    | none => rw [State.sent, State.thr_write, Thread.next_stopping, Thread.put_stopping, State.thr_clearBip, h.2.2.2.2]
    | some v =>
      rw [State.sent, State.thr_write, Thread.next_stopping, Thread.put_stopping, State.signalled_stopping, State.thr_clearBip, h.2.2.2.2]
  · cases u with
    | none => rfl
    | some v => exact State.sent_event.2.1

end
end Sys2Proof.Machine

section
open Sys2Proof Sys2Proof.Machine

/-- Settles O18: WAIT by `Thread.await`, SEND by the thread that it reaches; a SEND's event is delivered as every other is. -/
theorem waitAndSend : Obligations.WaitAndSend := by
  refine ⟨fun s t c rd ra hq => ⟨fun h hc hm => ⟨fun hp => ?_, fun hp => ?_⟩, fun hr hst hp => ?_⟩,
    fun s t v c rd ra rb h hc ha hb => ⟨fun hn hv hbits => ?_, fun hnone => ?_⟩⟩
  · exact exec_wait_awaits h hc hm (Thread.await_pending hp) (Thread.put_stopping ..)
  · exact exec_wait_awaits h hc hm (Thread.await_none hp) rfl
  · have hwake : (s.coreRuns t && (s.thr t).wakeable) = true := by
      rw [hr, Thread.wakeable, hst, Bool.true_and]
      exact bne_iff_ne.mpr hp
    rw [exec_waitWake, execWaitWake, if_pos hwake]
    exact ok_of _ hq
  · have hreach : ((s.clearBip t).thr v).st = (s.thr v).st := State.clearBip_st v
    have hpend : ((s.clearBip t).thr v).pend = (s.thr v).pend := State.clearBip_pend v
    obtain ⟨htarget, hregs, hpc, hothers⟩ := (s.clearBip t).sent_threads (t := t) (rd := rd) (v := v) (bits := ((s.thr t).get rb).data &&& 0xFF000000)
    obtain ⟨hmem, hledger, hreg⟩ := (s.clearBip t).sent_event (t := t) (rd := rd) (v := v) (bits := ((s.thr t).get rb).data &&& 0xFF000000)
    refine ⟨_, exec_send_sent h hc ha hb (State.sendGoes_some hn (by rw [hreach]; exact hv.1) hv.2 hbits), ?_, ?_, ?_, ?_, hledger, ?_, ?_, ?_⟩
    · rw [htarget, hpend]
    · rw [hregs, Thread.put_regs, Thread.put_regs, State.thr_clearBip]
    · rw [hpc, State.thr_clearBip]
    · intro k hkt hkv
      rw [hothers k hkt hkv, State.thr_clearBip_ne _ (Ne.symm hkt)]
    · intro hen
      obtain ⟨hm, hr⟩ := State.deliver_disabled (s := s.clearBip t) hen
      exact ⟨hmem.trans hm, fun a ha => (hreg a).trans (hr a ha)⟩
    · intro hdr e at' b hrec hprod
      rw [hmem]
      exact State.deliver_byte_out (s := s.clearBip t) hrec hprod
    · intro a ha
      simp only [List.mem_cons, List.not_mem_nil, or_false, not_or] at ha
      rw [hreg]
      exact State.deliver_reg (s.clearBip t) v _ _ _ _ _ _ ha.1 ha.2.1 ha.2.2
  · have hlit : (s.clearBip t).lit .burst = s.lit .burst := rfl
    have hgoes := State.sendGoes_none (s := s.clearBip t) (v := v) (by rwa [State.clearBip_st, hlit])
    rw [exec_send_sent h hc ha hb hgoes]
    exact congrArg _ (State.write_eq s t rd _)

end

namespace Sys2Proof.Machine

/-! ## Crossings and memory

A crossing reads and writes memory over the records of a first breach only. One that leaves the breach flag as it is has none, and does the same
over any other memory. -/

/-- An operation clears no breach, and where it records none it does the same over every memory. -/
structure State.MemBlind (s : State) (f : State → State) : Prop where
  kept : s.flag F.LDG_STAT_BREACH = true → (f s).flag F.LDG_STAT_BREACH = true
  blind : (f s).flag F.LDG_STAT_BREACH = s.flag F.LDG_STAT_BREACH → ∀ m, f { s with mem := m } = { f s with mem := m }

namespace State.MemBlind

variable {s : State} {f g : State → State}

/-- Operations one after another: a breach that the first records the second keeps. -/
theorem comp (hf : s.MemBlind f) (hg : (f s).MemBlind g) : s.MemBlind (fun u => g (f u)) where
  kept h := hg.kept (hf.kept h)
  blind h m := by
    have hfs : (f s).flag F.LDG_STAT_BREACH = s.flag F.LDG_STAT_BREACH := by
      cases hs : s.flag F.LDG_STAT_BREACH with
      | true => exact hf.kept hs
      | false => exact Bool.eq_false_iff.mpr fun ht => by rw [hg.kept ht, hs] at h; exact Bool.noConfusion h
    dsimp only
    rw [hf.blind hfs m]
    exact hg.blind (h.trans hfs.symm) m

/-- An operation with two cases that memory does not decide. -/
theorem ite {p : State → Prop} [DecidablePred p] (hp : ∀ m, p { s with mem := m } ↔ p s) (hf : s.MemBlind f) (hg : s.MemBlind g) :
    s.MemBlind (fun u => if p u then f u else g u) := by
  by_cases h : p s
  · refine ⟨fun hb => ?_, fun hb m => ?_⟩
    · simpa only [h, if_true] using hf.kept hb
    · simp only [h, if_true] at hb ⊢
      rw [if_pos ((hp m).mpr h), hf.blind hb]
  · refine ⟨fun hb => ?_, fun hb m => ?_⟩
    · simpa only [h, if_false] using hg.kept hb
    · simp only [h, if_false] at hb ⊢
      rw [if_neg fun hm => h ((hp m).mp hm), hg.blind hb]

theorem id : s.MemBlind fun u => u := ⟨fun h => h, fun _ _ => rfl⟩

theorem setWin (i : Nat) (w : Window) : s.MemBlind fun u => u.setWin i w := ⟨fun h => h, fun _ _ => rfl⟩

theorem setAcct (i : Nat) (a : Account) : s.MemBlind fun u => u.setAcct i a := ⟨fun h => h, fun _ _ => rfl⟩

theorem breach {cause i : Nat} (hc : cause < 8) (hi : i < 256) : s.MemBlind fun u => u.breach cause i where
  kept h := by
    rw [s.breach_again cause i h, s.flag_setBit_other _ _ (by decide), h]
  blind h m := by
    cases hs : s.flag F.LDG_STAT_BREACH with
    | true =>
      rw [s.breach_again cause i hs, State.breach_again { s with mem := m } cause i hs]
      rfl
    | false =>
      rw [(s.breach_breached cause i hc hi hs).breach, hs] at h
      exact Bool.noConfusion h

theorem check {i : Nat} (hi : i < 256) : s.MemBlind fun u => u.check i :=
  ite (p := fun u => nsMem u.ledger.parity i = true) (fun _ => Iff.rfl) (breach (by decide) hi)
    (ite (p := fun u => (u.acct i).sound (u.win i) = true) (fun _ => Iff.rfl) id (breach (by decide) hi))

theorem posted {i : Nat} {k : Account → Option Account} (hi : i < 256) : s.MemBlind fun u => u.posted i k := by
  have hpost (u : State) : u.posted i k = if u.acctAbsent i then u else
      match (k (u.acct i)).filter Account.fits with
      | none => u
      | some a => (u.setAcct i a).check i := by
    unfold State.posted State.post
    split
    · rfl
    · cases (k (u.acct i)).filter Account.fits <;> rfl
  simp only [hpost]
  refine ite (p := fun u => u.acctAbsent i = true) (fun _ => Iff.rfl) id ?_
  cases ha : (k (s.acct i)).filter Account.fits with
  | none => exact ⟨fun h => by simpa only [ha] using h, fun _ m => by simp only [show State.acct { s with mem := m } i = s.acct i from rfl, ha]⟩
  | some a =>
    have hcheck : s.MemBlind fun u => (u.setAcct i a).check i := (setAcct i a).comp (check hi)
    refine ⟨fun h => by simpa only [ha] using hcheck.kept h, fun h m => ?_⟩
    simp only [show State.acct { s with mem := m } i = s.acct i from rfl, ha] at h ⊢
    exact hcheck.blind h m

theorem arrive : s.MemBlind State.arrive := ite (p := fun u => u.pstate = 2) (fun _ => Iff.rfl) ⟨fun h => h, fun _ _ => rfl⟩ id

theorem presentSpan {sp d : Nat} (hi : crossAcct sp d < 256) : s.MemBlind fun u => u.presentSpan sp d := by
  have hsent : s.MemBlind fun u => (u.setWin (crossAcct sp d) ((u.win (crossAcct sp d)).request u.now)).posted (crossAcct sp d) (Account.fly 1) :=
    comp (f := fun u => u.setWin (crossAcct sp d) ((u.win (crossAcct sp d)).request u.now)) ⟨fun h => h, fun _ _ => rfl⟩ (posted hi)
  exact ite (p := fun _ => (spanEnds sp).contains .steady = true) (fun _ => Iff.rfl) (hsent.comp arrive) hsent

theorem crossed {sp d : Nat} (hi : crossAcct sp d < 256) : s.MemBlind fun u => u.crossed sp d := by
  simp only [State.crossed_eq]
  refine ite (p := fun u => u.mayPresent sp d = true) (fun _ => Iff.rfl) ?_ id
  have hclose {v : State} : v.MemBlind fun u => u.setWin (crossAcct sp d) (u.win (crossAcct sp d)).acknowledge := ⟨fun h => h, fun _ _ => rfl⟩
  exact (((presentSpan hi).comp (posted hi)).comp hclose).comp (check hi)

end State.MemBlind

section
variable {s : State} {t : ThreadId} {a : Nat}

theorem crossesOf_lt (own : Bool) : ∀ c ∈ crossesOf own a, crossAcct c.1 c.2 < 256 := by
  intro c hc
  simp only [crossesOf, List.mem_append] at hc
  rcases hc with hc | hc
  · split at hc
    · exact absurd hc List.not_mem_nil
    · obtain rfl := List.mem_singleton.mp hc
      cases own <;> decide
  · split at hc
    · obtain rfl := List.mem_singleton.mp hc
      decide
    · split at hc
      · simp only [List.mem_cons, List.not_mem_nil, or_false] at hc
        rcases hc with rfl | rfl <;> decide
      · exact absurd hc List.not_mem_nil

theorem State.crosses_memBlind : s.MemBlind fun u => u.crosses t a := by
  have hfold : ∀ (l : List (Nat × Nat)), (∀ c ∈ l, crossAcct c.1 c.2 < 256) → ∀ u : State,
      u.MemBlind fun v => l.foldl (fun acc c => acc.crossed c.1 c.2) v := by
    intro l
    induction l with
    | nil => exact fun _ u => State.MemBlind.id
    | cons c l ih =>
      intro hl u
      exact (State.MemBlind.crossed (hl c List.mem_cons_self)).comp (ih (fun d hd => hl d (List.mem_cons_of_mem c hd)) _)
  exact hfold _ (crossesOf_lt _) s

/-- Crossings that leave a state as it is leave it as it is over every memory. -/
theorem State.crosses_setMem (h : s.crosses t a = s) (m : Memory) : ({ s with mem := m } : State).crosses t a = { s with mem := m } := by
  have hblind := (s.crosses_memBlind (t := t) (a := a)).blind (congrArg (State.flag · F.LDG_STAT_BREACH) h) m
  rwa [h] at hblind

end
end Sys2Proof.Machine

namespace Sys2Proof.Machine

/-! ## Block instructions over system SRAM -/

/-- The addresses of consecutive words. -/
def wordsFrom (a n : Nat) : List Nat := (List.range n).map (fun i => a + 4 * i)

/-- A word that a thread stores with nothing else happening: in plain memory, unwatched, its crossings leaving the books. -/
def State.OpenAt (s : State) (t : ThreadId) (a : Nat) : Prop := plainRam a = true ∧ s.watched a = none ∧ s.crosses t a = s

/-- `n` bytes of system SRAM from a word boundary that pass their check, each of them open to a thread. -/
def State.OpenSram (s : State) (t : ThreadId) (p n : Nat) : Prop :=
  p % 4 = 0 ∧ 0x20000000 ≤ p ∧ p + n ≤ 0x20100000 ∧
    ∀ q, p ≤ q → q < p + n → s.mem.parityBad q = false ∧ s.watched (wordAddr q) = none ∧ s.crosses t q = s

section
variable {s : State} {t : ThreadId} {a n p : Nat} {b : Word}

@[simp] theorem length_wordsFrom : (wordsFrom a n).length = n := by rw [wordsFrom, List.length_map, List.length_range]

theorem wordsFrom_succ : wordsFrom a (n + 1) = a :: wordsFrom (a + 4) n := by
  rw [wordsFrom, List.range_succ_eq_map, List.map_cons, List.map_map, wordsFrom]
  refine congrArg _ (List.map_congr_left fun i _ => ?_)
  show a + 4 * (i + 1) = a + 4 + 4 * i
  omega

theorem mem_wordsFrom : p ∈ wordsFrom a n ↔ ∃ k, k < n ∧ a + 4 * k = p := by simp [wordsFrom]

/-- A chunk's addresses, where they do not pass the end of the map. -/
theorem chunkAddrs_eq (h : b.toNat + n ≤ 2 ^ 32) : chunkAddrs b n = wordsFrom b.toNat (n / 4) := by
  refine List.map_congr_left fun i hi => ?_
  have hlt : i < n / 4 := List.mem_range.mp hi
  rw [BitVec.toNat_add, BitVec.toNat_ofNat]
  omega

/-! ### Each word of such memory -/

theorem plainRam_sram (h : Region.sram.holds a = true) : plainRam a = true := by rw [plainRam, h]; rfl

theorem region_sram (h : Region.sram.holds a = true) : s.region a = some .sram := by
  have hmap : mapRegion a = some .sram := by
    have hlo : 0x20000000 ≤ a := ((Region.holds_iff _ _).mp h).1
    have hnot (r : Region) (hr : r.span.1 + r.span.2 ≤ 0x20000000) : r.holds a = false := by
      rw [← Bool.not_eq_true, Region.holds_iff]
      omega
    simp only [mapRegion, regions, List.find?, hnot .rom (by decide), hnot .flashA (by decide), hnot .flashB (by decide), h]
  rw [State.region, hmap]
  rfl

theorem State.heldView_mem {held : Bool} : (s.heldView held).mem = s.mem := by
  unfold State.heldView
  split
  · rfl
  · dsimp only
    split <;> rfl

variable {held : Held} {own : Bool}

theorem State.thrRead_sram (h : Region.sram.holds a = true) (hp : s.mem.parityBad a = false) : s.thrRead held own a 4 = .ok := by
  rw [State.thrRead, State.readCheck, region_sram h]
  simp only [State.heldView_mem, hp, Bool.false_eq_true, if_false]
  rw [Reach.asIssued, show (Reach.ok == Reach.fault .bankBusy) = false from by decide, Bool.and_false]
  rfl

theorem State.thrWrite_sram (h : Region.sram.holds a = true) : s.thrWrite held own a 4 = .ok := by
  rw [State.thrWrite, State.writeCheck, region_sram h]
  rfl

namespace State.OpenSram

variable (h : s.OpenSram t p n)
include h

theorem aligned : p % 4 = 0 := h.1

theorem small : p + n ≤ 2 ^ 32 := by
  obtain ⟨-, -, hhi, -⟩ := h
  omega

theorem sram {q : Nat} (hlo : p ≤ q) (hhi : q < p + n) : Region.sram.holds q = true := by
  obtain ⟨-, h1, h2, -⟩ := h
  rw [Region.holds_iff]
  dsimp only [Region.span]
  omega

theorem word (hn : n % 4 = 0) {q : Nat} (hq : q ∈ wordsFrom p (n / 4)) :
    Region.sram.holds q = true ∧ s.mem.parityBad q = false ∧ s.OpenAt t q := by
  obtain ⟨k, hk, rfl⟩ := mem_wordsFrom.mp hq
  have hlo : p ≤ p + 4 * k := Nat.le_add_right _ _
  have hhi : p + 4 * k < p + n := by omega
  obtain ⟨hpar, hw, hx⟩ := h.2.2.2 _ hlo hhi
  rw [wordAddr_of_aligned (by have := h.1; omega)] at hw
  exact ⟨h.sram hlo hhi, hpar, plainRam_sram (h.sram hlo hhi), hw, hx⟩

/-- None of it lies in a set-up block, so that a guest may store there (04 R154). -/
theorem unbarred {x : Thread} {w : TWord} (hw : w.data.toNat = p) : chunkBarred x w n = none := by
  unfold chunkBarred
  split
  · refine List.find?_eq_none.mpr fun q hq => ?_
    obtain ⟨i, hi, rfl⟩ := List.mem_map.mp hq
    have hlt : i < n := List.mem_range.mp hi
    have hsmall := h.small
    have haddr : (w.data + BitVec.ofNat 32 i).toNat = p + i := by
      rw [BitVec.toNat_add, BitVec.toNat_ofNat]
      omega
    have hregs := (plain_elsewhere (a := p + i) (by rw [plainRam_sram (h.sram (Nat.le_add_right _ _) (by omega)), Bool.true_or])).1
    rw [haddr, guestBarred, hregs, Bool.and_false]
    exact Bool.false_ne_true
  · rfl

end State.OpenSram

/-! ### The accesses of a chunk -/

section
variable {y : Thread} {l : List Nat}

/-- What a crossing does does not depend on the part of a thread that a block instruction changes. -/
theorem State.OpenAt.setThr (h : s.OpenAt t a) (hst : y.st = (s.thr t).st) (hmask : y.wmask = (s.thr t).wmask) (hpend : y.pend = (s.thr t).pend) :
    (s.setThr t y).OpenAt t a := ⟨h.1, h.2.1, State.crosses_setThr h.2.2 hst hmask hpend⟩

theorem State.OpenAt.setMem (h : s.OpenAt t a) (m : Memory) : ({ s with mem := m } : State).OpenAt t a :=
  ⟨h.1, h.2.1, State.crosses_setMem h.2.2 m⟩

/-- Words that can be read are loaded, and nothing else happens. -/
theorem State.chunkLoad_eq (h : ∀ q ∈ l, s.OpenAt t q) : s.chunkLoad t l = (l.map s.mem.tword, s) := by
  induction l with
  | nil => rfl
  | cons q l ih =>
    obtain ⟨hplain, -, hx⟩ := h q List.mem_cons_self
    rw [State.chunkLoad, State.loadWord_plain (by rw [hplain, Bool.true_or]) hx]
    dsimp only
    rw [ih fun r hr => h r (List.mem_cons_of_mem q hr)]
    rfl

/-- Words that can be stored are, one after another, and nothing else happens. -/
theorem State.chunkStore_eq {ws : List TWord} (h : ∀ q ∈ wordsFrom a ws.length, s.OpenAt t q) :
    s.chunkStore t ((wordsFrom a ws.length).zip ws) = { s with mem := s.mem.setWords a ws } := by
  induction ws generalizing s a with
  | nil => rfl
  | cons w ws ih =>
    rw [List.length_cons, wordsFrom_succ] at h ⊢
    obtain ⟨hplain, hw, hx⟩ := h a List.mem_cons_self
    rw [List.zip_cons_cons, State.chunkStore, List.foldl_cons, State.storeAt_plain hplain hx hw]
    exact ih fun q hq => (h q (List.mem_cons_of_mem a hq)).setMem _

theorem State.chunkRead_none (h : ∀ q ∈ l, Region.sram.holds q = true ∧ s.mem.parityBad q = false) : s.chunkRead held t l = none := by
  refine List.findSome?_eq_none_iff.mpr fun q hq => ?_
  rw [State.thrRead_sram (h q hq).1 (h q hq).2, State.reached]

theorem State.chunkWrite_none {kept : State} (h : ∀ q ∈ l, Region.sram.holds q = true) : s.chunkWrite held t l kept = none := by
  refine Option.map_eq_none_iff.mpr (List.findSome?_eq_none_iff.mpr fun q hq => ?_)
  rw [State.thrWrite_sram (h q hq), State.reached]

end
end
end Sys2Proof.Machine

namespace Sys2Proof.Machine

/-! ## One chunk step -/

section
variable {x : Thread} {i : Held} {r : Reg} {w : TWord} {count pc : Word}

theorem Thread.put_unissued : ({ x with issued := i } : Thread).put r w = { x.put r w with issued := i } := by
  unfold Thread.put
  split <;> rfl

/-- A thread at the end of a chunk step: past the word with its last chunk, else in its middle (05 R218, R219). -/
def Thread.chunked (x : Thread) (count pc : Word) : Thread :=
  if count.toNat ≤ 64 then { x with bip := false, issued := Held.no, pc := pc + 4 } else { x with bip := true, issued := Held.no }

theorem chunkLen_eq : chunkLen count = min count.toNat 64 := Nat.min_comm _ _

theorem TWord.drop_chunk : w.drop (chunkLen w.data) = ⟨BitVec.ofNat 32 (w.data.toNat - chunkLen w.data), w.tag⟩ := by
  have hle : chunkLen w.data ≤ w.data.toNat := Nat.min_le_right _ _
  rw [TWord.drop, ← BitVec.ofNat_sub_ofNat_of_le _ _ (by have := w.data.isLt; omega) hle, BitVec.ofNat_toNat, BitVec.setWidth_eq]

theorem TWord.drop_chunk_zero : (w.drop (chunkLen w.data)).data = 0 ↔ w.data.toNat ≤ 64 := by
  have hlt := w.data.isLt
  rw [TWord.drop_chunk, ← BitVec.toNat_inj, BitVec.toNat_ofNat, chunkLen_eq]
  show _ = 0 ↔ _
  omega

/-- A chunk step ends as `Thread.chunked` says. -/
theorem Thread.chunkEnd_chunked (h : x.pc = pc) :
    ({ x with issued := Held.no } : Thread).chunkEnd (w.drop (chunkLen w.data)).data = x.chunked w.data pc := by
  subst h
  simp only [Thread.chunkEnd, Thread.chunked, TWord.drop_chunk_zero]

theorem Thread.chunked_stopping : (x.chunked count pc).stopping = x.stopping := by
  unfold Thread.chunked
  split <;> rfl

theorem Thread.chunked_seen : (x.chunked count pc).st = x.st ∧ (x.chunked count pc).wmask = x.wmask ∧ (x.chunked count pc).pend = x.pend := by
  unfold Thread.chunked
  split <;> exact ⟨rfl, rfl, rfl⟩

end

section
variable {s : State} {t : ThreadId} {c : Cond} {rd ra rb : Reg} {held : Held}

theorem State.unissue_setThr (y : Thread) : (s.unissue t).setThr t y = s.setThr t y := State.setThr_setThr _ _ _ _

/-- A block instruction that goes on and whose chunk step is done. -/
theorem State.blockInstr_done {body : State → Held → Did} {u : State} (h : s.ready t) (hgo : s.blockGoes t c ra = true)
    (hb : body (s.unissue t) (s.thr t).issued = .done u) (hs : (u.thr t).stopping = false) (hq : u.ledger = s.ledger) :
    s.blockInstr t c ra body = .next u := by
  have hr : u.ledger.resetDue = false := (congrArg Ledger.resetDue hq).trans h.2.2.1
  refine s.fetched_ready t _ h ?_ hs hr
  simp only [hgo, if_true, hb, State.conclude_done]
  exact ok_of u hr

theorem State.ifBarred_none {d : Did} : s.ifBarred none d = d := rfl

/-- A KEY may stand in system SRAM (04 R184). -/
theorem keyBarred_sram {g : Tag} {a : Nat} (h : Region.sram.holds a = true) : keyBarred g a = false := by
  obtain ⟨hregs, -, hgnss⟩ := plain_elsewhere (a := a) (by rw [plainRam_sram h, Bool.true_or])
  rw [keyBarred, hregs, hgnss, Bool.or_self, Bool.and_false]

/-! ### Chunks read and written -/

section
variable {p b : Word} {n : Nat} (h : s.OpenSram t p.toNat n) (hn : n % 4 = 0)
include h hn

theorem State.OpenSram.read : (s.unissue t).chunkRead held t (chunkAddrs p n) = none := by
  rw [chunkAddrs_eq h.small]
  exact State.chunkRead_none fun q hq => ⟨(h.word hn hq).1, (h.word hn hq).2.1⟩

theorem State.OpenSram.load :
    (s.unissue t).chunkLoad t (chunkAddrs p n) = ((wordsFrom p.toNat (n / 4)).map s.mem.tword, s.unissue t) := by
  rw [chunkAddrs_eq h.small]
  exact State.chunkLoad_eq fun q hq => (h.word hn hq).2.2.setThr rfl rfl rfl

theorem State.OpenSram.written {kept : State} : (s.unissue t).chunkWrite held t (chunkAddrs p n) kept = none := by
  rw [chunkAddrs_eq h.small]
  exact State.chunkWrite_none fun q hq => (h.word hn hq).1

theorem State.OpenSram.store {y : Thread} {ws : List TWord} (hws : ws.length = n / 4) (hst : y.st = (s.thr t).st)
    (hmask : y.wmask = (s.thr t).wmask) (hpend : y.pend = (s.thr t).pend) :
    (s.setThr t y).chunkStore t ((chunkAddrs p n).zip ws) = { s.setThr t y with mem := s.mem.setWords p.toNat ws } := by
  rw [chunkAddrs_eq h.small, ← hws]
  exact State.chunkStore_eq fun q hq => ((h.word hn (by rwa [← hws])).2.2).setThr hst hmask hpend

theorem State.OpenSram.unkeyed {ws : List TWord} : ((chunkAddrs p n).zip ws).any (fun q => keyBarred q.2.tag q.1) = false := by
  rw [chunkAddrs_eq h.small, List.any_eq_false]
  intro q hq
  rw [keyBarred_sram (h.word hn (List.of_mem_zip hq).1).1]
  exact Bool.false_ne_true

end

/-! ### The four instructions -/

/-- The bytes of a word as it is read are the memory's, least significant first (03 R701). -/
theorem Memory.wordBytes_word {m : Memory} {a : Nat} : wordBytes (m.word a) = m.bytes a 4 := by
  rw [wordBytes, show (m.word a).extractLsb' 0 8 = m.byte a from m.word_byte a (j := 0) (by decide),
    show (m.word a).extractLsb' 8 8 = m.byte (a + 1) from m.word_byte a (j := 1) (by decide),
    show (m.word a).extractLsb' 16 8 = m.byte (a + 2) from m.word_byte a (j := 2) (by decide),
    show (m.word a).extractLsb' 24 8 = m.byte (a + 3) from m.word_byte a (j := 3) (by decide)]
  rfl

theorem Memory.bytes_add {m : Memory} {a n k : Nat} : m.bytes a (n + k) = m.bytes a n ++ m.bytes (a + n) k := by
  simp only [Memory.bytes, List.range_add, List.map_append, List.map_map, Function.comp_def, Nat.add_assoc]

theorem Memory.flatMap_wordBytes {m : Memory} {a k : Nat} :
    ((wordsFrom a k).map m.tword).flatMap (fun w => wordBytes w.data) = m.bytes a (4 * k) := by
  induction k generalizing a with
  | zero => rfl
  | succ k ih =>
    rw [wordsFrom_succ, List.map_cons, List.flatMap_cons, ih, Nat.mul_succ, Nat.add_comm (4 * k), Memory.bytes_add]
    exact congrArg (· ++ _) Memory.wordBytes_word

theorem Memory.unkeyed_words {m : Memory} {l : List Nat} (h : ∀ q ∈ l, m.tag q ≠ .key) :
    (l.map m.tword).any (fun w => w.tag == .key) = false := by
  rw [List.any_map, List.any_eq_false]
  exact fun q hq hkey => h q hq (beq_iff_eq.mp hkey)

/-- Memory with a chunk of words at an address, and all else of it as before. -/
def Memory.Wrote (m m' : Memory) (p n : Nat) (f : Nat → TWord) : Prop :=
  (∀ k, k < n / 4 → m'.tword (p + 4 * k) = f k) ∧ ∀ q, q < p ∨ p + n ≤ q → m'.byte q = m.byte q ∧ m'.tag q = m.tag q

theorem Memory.setWords_wrote {m : Memory} {p n : Nat} {ws : List TWord} {f : Nat → TWord} (hp : p % 4 = 0) (hn : n % 4 = 0)
    (hws : ws = (List.range (n / 4)).map f) : m.Wrote (m.setWords p ws) p n f := by
  have hlen : 4 * ws.length = n := by
    rw [hws, List.length_map, List.length_range]
    omega
  refine ⟨fun k hk => ?_, fun q hq => ⟨Memory.byte_setWords_out (by rwa [hlen]), Memory.tag_setWords_out hp (by rwa [hlen])⟩⟩
  rw [Memory.tword_setWords_in hp (by omega)]
  simp only [hws, List.getElem_map, List.getElem_range]

/-- A thread of which a chunk step has changed registers only. -/
structure Thread.Moved (x y : Thread) : Prop where
  pc : y.pc = x.pc
  st : y.st = x.st
  wmask : y.wmask = x.wmask
  pend : y.pend = x.pend
  stopping : y.stopping = x.stopping

theorem Thread.Moved.refl (x : Thread) : x.Moved x := ⟨rfl, rfl, rfl, rfl, rfl⟩

theorem Thread.Moved.put {x y : Thread} (h : x.Moved y) (r : Reg) (w : TWord) : x.Moved (y.put r w) :=
  ⟨by rw [Thread.put_pc, h.pc], by rw [Thread.put_st, h.st], by rw [Thread.put_wmask, h.wmask], by rw [Thread.put_pend, h.pend],
    by rw [Thread.put_stopping, h.stopping]⟩

theorem Thread.chunkRegs_unissued {x : Thread} {i : Held} {d a b : TWord} :
    ({ x with issued := i } : Thread).chunkRegs rd ra rb d a b = { x.chunkRegs rd ra rb d a b with issued := i } := by
  simp only [Thread.chunkRegs, Thread.put_unissued]

/-- A thread whose next chunk is `n` bytes: it has a count of whole words, not zero. -/
structure State.Chunk (s : State) (t : ThreadId) (rb : Reg) (x : Thread) (b : TWord) (n : Nat) : Prop where
  thr : s.thr t = x
  reg : x.get rb = b
  len : chunkLen b.data = n
  int : b.tag = .int
  words : b.data.toNat % 4 = 0
  pos : 0 < b.data.toNat

namespace State.Chunk

variable {x y : Thread} {d a b p : TWord} {n : Nat} {ws : List TWord} (h : s.Chunk t rb x b n)
include h

theorem whole : n % 4 = 0 := by
  have := h.words
  rw [← h.len, chunkLen_eq]
  omega

/-- Operands of the tags that are permitted, aligned, stop nothing. -/
theorem stop {u : State} {tags : List (Tag × Bool)} {addrs : List Word} (htags : operandFault tags = none)
    (haddrs : ∀ p ∈ addrs, p.toNat % 4 = 0) : u.blockStop t tags b.data addrs = none := by
  have hne : b.data ≠ 0 := fun h0 => absurd h.pos (by rw [h0]; decide)
  have hfind : addrs.find? (fun a => a.toNat % 4 != 0) = none :=
    List.find?_eq_none.mpr fun p hp => by rw [haddrs p hp]; exact Bool.false_ne_true
  have halign : blockAlign b.data addrs = none := by
    rw [blockAlign, hfind]
    exact if_neg (not_not.mpr h.words)
  rw [State.blockStop, htags, halign]
  exact if_neg hne

/-- A chunk step's end, by what it has made of the other registers. -/
theorem ends (hy : x.Moved y) :
    ({ y.put rb (b.drop n) with issued := Held.no } : Thread).chunkEnd (b.drop n).data = (y.put rb (b.drop n)).chunked b.data x.pc := by
  rw [← h.len]
  exact Thread.chunkEnd_chunked (by rw [Thread.put_pc, hy.pc])

/-- A chunk that is stored leaves its words, and the thread past it. -/
theorem stored (hp : s.OpenSram t p.data.toNat n) (hws : ws.length = n / 4) (hy : x.Moved y) :
    (s.setThr t (y.chunked b.data x.pc)).chunkStore t ((chunkAddrs p.data n).zip ws) =
      { s.setThr t (y.chunked b.data x.pc) with mem := s.mem.setWords p.data.toNat ws } := by
  obtain ⟨hst, hmask, hpend⟩ := y.chunked_seen (count := b.data) (pc := x.pc)
  rw [← h.thr] at hy
  exact hp.store h.whole hws (hst.trans hy.st) (hmask.trans hy.wmask) (hpend.trans hy.pend)

/-- BCOPY reads its whole chunk and then stores it (05 R220). -/
theorem copy (hd : x.get rd = d) (ha : x.get ra = a) (hdt : d.tag = .addr) (hat : a.tag = .addr) (hdst : s.OpenSram t d.data.toNat n)
    (hsrc : s.OpenSram t a.data.toNat n) :
    (s.unissue t).copyChunk held t rd ra rb =
      .done { s.setThr t ((x.chunkRegs rd ra rb (d.advance n) (a.advance n) (b.drop n)).chunked b.data x.pc) with
        mem := s.mem.setWords d.data.toNat ((wordsFrom a.data.toNat (n / 4)).map s.mem.tword) } := by
  have hmoved := ((Thread.Moved.refl x).put rd (d.advance n)).put ra (a.advance n)
  have hstop : (s.unissue t).blockStop t [(d.tag, d.tag == .addr), (a.tag, a.tag == .addr), (b.tag, b.tag == .int)] b.data [d.data, a.data] = none :=
    h.stop (by rw [hdt, hat, h.int]; rfl) (by simp [hdst.aligned, hsrc.aligned])
  unfold State.copyChunk
  simp only [State.thr_unissue, h.thr, Thread.get_bip, hd, ha, h.reg, h.len]
  rw [hdst.unbarred rfl, State.ifBarred_none, hstop, hsrc.read h.whole, hsrc.load h.whole]
  simp only [hdst.unkeyed h.whole, hdst.written h.whole, Bool.false_eq_true, if_false, State.thr_unissue, State.unissue_setThr, h.thr]
  rw [Thread.chunkRegs_unissued, Thread.chunkRegs, h.ends hmoved, h.stored hdst (by simp) (hmoved.put _ _)]

/-- BFILL stores one word all over its chunk (04 Table 4.13). -/
theorem fill (hd : x.get rd = d) (ha : x.get ra = a) (hdt : d.tag = .addr) (hat : a.tag ≠ .key) (hdst : s.OpenSram t d.data.toNat n) :
    (s.unissue t).fillChunk held t rd ra rb =
      .done { s.setThr t (((x.put rd (d.advance n)).put rb (b.drop n)).chunked b.data x.pc) with
        mem := s.mem.setWords d.data.toNat (List.replicate (n / 4) a) } := by
  have hmoved := (Thread.Moved.refl x).put rd (d.advance n)
  have hstop : (s.unissue t).blockStop t [(d.tag, d.tag == .addr), (a.tag, a.tag != .key), (b.tag, b.tag == .int)] b.data [d.data] = none :=
    h.stop (by rw [hdt, h.int, bne_iff_ne.mpr hat]; rfl) (by simp [hdst.aligned])
  have hzip : (chunkAddrs d.data n).map (fun p => (p, a)) = (chunkAddrs d.data n).zip (List.replicate (n / 4) a) := by
    rw [List.map_prod_left_eq_zip, List.map_const', chunkAddrs, List.length_map, List.length_range]
  unfold State.fillChunk
  simp only [State.thr_unissue, h.thr, Thread.get_bip, hd, ha, h.reg, h.len]
  rw [hdst.unbarred rfl, State.ifBarred_none, hstop, hdst.written h.whole]
  simp only [State.unissue_setThr, Thread.put_unissued, hzip]
  rw [h.ends hmoved, h.stored hdst List.length_replicate (hmoved.put _ _)]

/-- BRETAG stores its words' data again with the target tag (04 R721). -/
theorem retag {g : Tag} (hd : x.get rd = d) (ha : x.get ra = a) (hdt : d.tag = .addr) (hat : a.tag = .int)
    (hg : x.mode = true ∨ g.minted = false) (hdst : s.OpenSram t d.data.toNat n)
    (hkey : ∀ q ∈ wordsFrom d.data.toNat (n / 4), s.mem.tag q ≠ .key) :
    (s.unissue t).retagChunk held t rd ra rb (some g) =
      .done { s.setThr t (((x.put rd (d.advance n)).put rb (b.drop n)).chunked b.data x.pc) with
        mem := s.mem.setWords d.data.toNat ((wordsFrom d.data.toNat (n / 4)).map (fun q => ⟨s.mem.word q, g⟩)) } := by
  have hmoved := (Thread.Moved.refl x).put rd (d.advance n)
  have hpriv : (Option.any Tag.minted (some g) && !x.mode) = false := by rcases hg with hg | hg <;> simp [hg]
  have hstop : (s.unissue t).blockStop t [(d.tag, d.tag == .addr), (a.tag, a.tag == .int), (b.tag, b.tag == .int)] b.data [d.data] = none :=
    h.stop (by rw [hdt, hat, h.int]; rfl) (by simp [hdst.aligned])
  unfold State.retagChunk
  simp only [State.thr_unissue, h.thr, Thread.get_bip, hd, ha, h.reg, h.len, hpriv, Bool.false_eq_true, if_false]
  rw [hdst.unbarred rfl, State.ifBarred_none, hstop, hdst.read h.whole, hdst.load h.whole]
  simp only [Memory.unkeyed_words hkey, hdst.written h.whole, Bool.false_eq_true, if_false, State.thr_unissue, State.unissue_setThr, h.thr, Thread.put_unissued,
    List.map_map, Option.getD_some]
  rw [h.ends hmoved, h.stored hdst (by simp) (hmoved.put _ _)]
  rfl

/-- BCRC reads its chunk and stores nothing (04 R178, R701). -/
theorem crc (hd : x.get rd = d) (ha : x.get ra = a) (hdt : d.tag = .int ∨ d.tag = .raw) (hat : a.tag = .addr) (hsrc : s.OpenSram t a.data.toNat n)
    (hkey : ∀ q ∈ wordsFrom a.data.toNat (n / 4), s.mem.tag q ≠ .key) :
    (s.unissue t).crcChunk held t rd ra rb =
      .done (s.setThr t ((x.chunkRegs rd ra rb ⟨crc32Run d.data (s.mem.bytes a.data.toNat n), .int⟩ (a.advance n) (b.drop n)).chunked
        b.data x.pc)) := by
  have hmoved := ((Thread.Moved.refl x).put rd ⟨crc32Run d.data (s.mem.bytes a.data.toNat n), .int⟩).put ra (a.advance n)
  have hstop : (s.unissue t).blockStop t [(d.tag, d.tag == .int || d.tag == .raw), (a.tag, a.tag == .addr), (b.tag, b.tag == .int)] b.data
      [a.data] = none :=
    h.stop (by rcases hdt with hdt | hdt <;> rw [hdt, hat, h.int] <;> rfl) (by simp [hsrc.aligned])
  have hbytes : ((wordsFrom a.data.toNat (n / 4)).map s.mem.tword).flatMap (fun w => wordBytes w.data) = s.mem.bytes a.data.toNat n := by
    rw [Memory.flatMap_wordBytes, Nat.mul_div_cancel' (Nat.dvd_of_mod_eq_zero h.whole)]
  unfold State.crcChunk
  simp only [State.thr_unissue, h.thr, Thread.get_bip, hd, ha, h.reg, h.len]
  rw [hstop, hsrc.read h.whole, hsrc.load h.whole]
  simp only [Memory.unkeyed_words hkey, hbytes, Bool.false_eq_true, if_false, State.thr_unissue, State.unissue_setThr, h.thr]
  rw [Thread.chunkRegs_unissued, Thread.chunkRegs, h.ends hmoved]

/-- A chunk step that stores answers its words, and the thread past it. -/
theorem gives {i : Instr} {body : State → Held → Did} {q : Nat} {f : Nat → TWord} (hr : s.ready t) (hgo : s.blockGoes t c ra = true)
    (hi : exec i s = s.blockInstr t c ra body) (hy : x.Moved y) (hq : q % 4 = 0) (hws : ws = (List.range (n / 4)).map f)
    (hbody : body (s.unissue t) (s.thr t).issued =
      .done { s.setThr t (y.chunked b.data x.pc) with mem := s.mem.setWords q ws }) :
    Gives i s (fun u => s.mem.Wrote u.mem q n f ∧ u = { s.setThr t (y.chunked b.data x.pc) with mem := u.mem }) := by
  have hstop : ((s.setThr t (y.chunked b.data x.pc)).thr t).stopping = false := by
    rw [State.thr_setThr_self, Thread.chunked_stopping, hy.stopping, ← h.thr]
    exact hr.2.2.2.2
  exact ⟨_, hi.trans (State.blockInstr_done hr hgo hbody hstop rfl), Memory.setWords_wrote hq h.whole hws, rfl⟩

end State.Chunk

/-- What a target that BRETAG may name stands for (04 R153, Table 4.3). -/
theorem retagTarget_named {w : Word} (h : tagNames (w.setWidth 4) = true) :
    retagTarget (w.toNat % 16) = some (tagOf (w.setWidth 4 : BitVec 4).toNat) := by
  have hmod : (w.setWidth 4 : BitVec 4).toNat = w.toNat % 16 := BitVec.toNat_setWidth ..
  rw [tagNames, Bool.and_eq_true, decide_eq_true_eq, bne_iff_ne, ne_eq, ← BitVec.toNat_inj, hmod] at h
  rw [hmod]
  exact if_pos ⟨h.1, h.2⟩

theorem Tag.minted_eq_false {g : Tag} : g.minted = false ↔ g ≠ .addr ∧ g ≠ .code := by cases g <;> decide

/-- BRETAG whose target may be named is a block instruction like the others (04 R721). -/
theorem exec_bretag_named (hg : tagNames (((s.thr t).get ra).data.setWidth 4) = true) :
    exec (.bretag t c rd ra rb) s = s.blockInstr t c ra (fun s0 h =>
      s0.retagChunk h t rd ra rb (if ((s0.thr t).get ra).tag = .int then retagTarget (((s0.thr t).get ra).data.toNat % 16) else none)) := by
  have hgood : (s.thr t).badTarget ra = false := by
    rw [Thread.badTarget, retagTarget_named hg]
    exact Bool.and_false _
  rw [exec_bretag, execBretag, hgood, Bool.and_false]
  rfl

end
end Sys2Proof.Machine

section
open Sys2Proof Sys2Proof.Machine

/-- Settles O20: each of the four is one chunk step (`State.Chunk`), which stores its words where it stores. -/
theorem blockInstructionsStepByChunk : Obligations.BlockInstructionsStepByChunk := by
  intro s t c rd ra rb h hgo x d a cnt n hint hwords hpos free left move fin wrote
  have hchunk : s.Chunk t rb x (x.get rb) n := ⟨rfl, rfl, chunkLen_eq, hint, hwords, hpos⟩
  have hgoes : s.blockGoes t c ra = true := Bool.or_eq_true_iff.mpr hgo
  have hleft : (x.get rb).drop n = left := by
    have hdrop := (x.get rb).drop_chunk
    rw [chunkLen_eq, hint] at hdrop
    exact hdrop
  have hmove (r : Reg) {y : Thread} (hy : x.Moved y) : x.Moved (move r y) := hy.put _ _
  have words (p : Nat) (f : Nat → TWord) : (wordsFrom p (n / 4)).map f = (List.range (n / 4)).map (fun k => f (p + 4 * k)) := by
    rw [wordsFrom, List.map_map]
    rfl
  have unkeyed {p : Nat} (hk : ∀ k, k < n / 4 → s.mem.tag (p + 4 * k) ≠ .key) : ∀ q ∈ wordsFrom p (n / 4), s.mem.tag q ≠ .key := by
    intro q hq
    obtain ⟨k, hlt, rfl⟩ := mem_wordsFrom.mp hq
    exact hk k hlt
  refine ⟨fun hdt hat hdst hsrc => ?_, fun hdt hat hdst => ?_, fun hdt hat hg hmint hdst hk => ?_, fun hdt hat hsrc hk => ?_⟩
  · have hmoved : x.Moved ((move ra (move rd x)).put rb left) := (hmove ra (hmove rd (.refl x))).put _ _
    refine hchunk.gives h hgoes (exec_bcopy ..) hmoved hdst.1 (words _ _) ?_
    rw [← hleft]
    exact hchunk.copy rfl rfl hdt hat hdst hsrc
  · have hmoved : x.Moved ((move rd x).put rb left) := (hmove rd (.refl x)).put _ _
    refine hchunk.gives h hgoes (exec_bfill ..) hmoved hdst.1 (List.map_const' ..).symm ?_
    rw [← hleft, List.length_range]
    exact hchunk.fill rfl rfl hdt hat hdst
  · have hmoved : x.Moved ((move rd x).put rb left) := (hmove rd (.refl x)).put _ _
    refine hchunk.gives h hgoes (exec_bretag_named hg) hmoved hdst.1
      (words d.data.toNat (fun q => ⟨s.mem.word q, tagOf (a.data.setWidth 4).toNat⟩)) ?_
    rw [← hleft]
    simp only [State.thr_unissue, Thread.get_bip]
    rw [if_pos hat, retagTarget_named hg]
    exact hchunk.retag rfl rfl hdt hat (hmint.imp id Tag.minted_eq_false.mpr) hdst (unkeyed hk)
  · have hmoved : x.Moved ((move ra (x.put rd ⟨crc32Run d.data (s.mem.bytes a.data.toNat n), .int⟩)).put rb left) :=
      (hmove ra ((Thread.Moved.refl x).put _ _)).put _ _
    refine (exec_bcrc ..).trans (State.blockInstr_done h hgoes ?_ ?_ rfl)
    · rw [← hleft]
      exact hchunk.crc rfl rfl hdt hat hsrc (unkeyed hk)
    · rw [State.thr_setThr_self]
      exact (Thread.chunked_stopping.trans hmoved.stopping).trans h.2.2.2.2

end

namespace Sys2Proof.Machine
section
variable {s : State} {b : Nat}

/-! ## The hand-off of the boot ROM (05 R243 to R248) -/

/-- Reading flash units touches live registers alone (07 R291, R332). -/
theorem State.noteUnits_frame (l : List Nat) : ∃ v, s.noteUnits l = { s with live := v } := by
  induction l generalizing s with
  | nil => exact ⟨s.live, rfl⟩
  | cons a l ih =>
    rw [State.noteUnits]
    split
    · exact ⟨_, s.noteEcc_frame a⟩
    · obtain ⟨v, hv⟩ := ih (s := s.noteEcc a)
      exact ⟨v, hv.trans (by rw [s.noteEcc_frame a])⟩

/-- What an engine reads touches live registers and the islands' records alone (07 R332; 03 R117). -/
theorem State.noteRead_frame (a n : Nat) : ∃ v i, s.noteRead a n = { s with live := v, isl := i } := by
  unfold State.noteRead
  split
  · obtain ⟨v, hv⟩ := s.noteUnits_frame (unitStarts a n)
    exact ⟨v, s.isl, hv⟩
  · split
    · exact ⟨s.live, _, s.touch_frame .gnss⟩
    · exact ⟨s.live, s.isl, rfl⟩

/-- So do the boot ROM's reads of a bank. -/
theorem State.afterBank_frame (b : Nat) : ∃ v i, s.afterBank b = { s with live := v, isl := i } := by
  unfold State.afterBank
  dsimp only
  split
  · obtain ⟨v, i, hread⟩ := s.noteRead_frame (headerAt b) 32
    split
    · obtain ⟨v', i', himage⟩ := (s.noteRead (headerAt b) 32).noteRead_frame (headerAt b + 32) (s.hdrWord b 0x10).toNat
      exact ⟨v', i', himage.trans (by rw [hread])⟩
    · exact ⟨v, i, hread⟩
  · exact ⟨s.live, s.isl, rfl⟩

/-- The state after its reads of both banks. -/
def State.banksRead (s : State) : State := (s.afterBank 0).afterBank 1

theorem State.banksRead_frame : ∃ v i, s.banksRead = { s with live := v, isl := i } := by
  obtain ⟨v, i, hfirst⟩ := s.afterBank_frame 0
  obtain ⟨v', i', hsecond⟩ := (s.afterBank 0).afterBank_frame 1
  exact ⟨v', i', hsecond.trans (by rw [hfirst])⟩

theorem State.banksRead_ledger : s.banksRead.ledger = s.ledger := by
  obtain ⟨v, i, h⟩ := s.banksRead_frame
  rw [h]

theorem State.banksRead_thr (t : ThreadId) : s.banksRead.thr t = s.thr t := by
  obtain ⟨v, i, h⟩ := s.banksRead_frame
  rw [h]
  rfl

theorem State.bootEntry_eq : s.bootEntry b = BitVec.ofNat 32 (headerAt b) +
    (if s.warmStart = true ∧ s.hdrWord b 0x0C ≠ 0 then s.hdrWord b 0x0C else s.hdrWord b 0x08) := by
  simp only [State.bootEntry, Bool.and_eq_true, bne_iff_ne]

@[simp] theorem State.bootThread_pc : (s.bootThread b).pc = s.bootEntry b := by simp [State.bootThread]

@[simp] theorem State.bootThread_mode : (s.bootThread b).mode = true := by simp [State.bootThread]

@[simp] theorem State.bootThread_st : (s.bootThread b).st = (s.thr 0).st := by simp [State.bootThread]

theorem State.bootThread_g1 : (s.bootThread b).get 1 = ⟨BitVec.ofNat 32 (headerAt b), .addr⟩ := by
  simp only [State.bootThread]
  rw [Thread.get_put_ne _ _ (by decide), Thread.get_put_ne _ _ (by decide), Thread.get_put_ne _ _ (by decide), Thread.get_put_self, if_neg (by decide)]

theorem State.bootThread_g2 : (s.bootThread b).get 2 = ⟨s.reg F.PWR_RCAUSE_CAUSE.addr, .int⟩ := by
  simp only [State.bootThread]
  rw [Thread.get_put_ne _ _ (by decide), Thread.get_put_ne _ _ (by decide), Thread.get_put_self, if_neg (by decide)]

theorem State.bootThread_g3 : (s.bootThread b).get 3 = ⟨s.reg F.PWR_WAKE_SRC.addr, .int⟩ := by
  simp only [State.bootThread]
  rw [Thread.get_put_ne _ _ (by decide), Thread.get_put_self, if_neg (by decide)]

theorem State.bootThread_g4 : (s.bootThread b).get 4 = ⟨if s.warmStart then 1 else 0, .int⟩ := by
  simp only [State.bootThread]
  rw [Thread.get_put_self, if_neg (by decide)]

/-- With a bank selected the boot ROM hands off to it (05 R246). -/
theorem exec_bootHandoff_enters (hrun : s.steadyRuns = true) (hrom : s.boot = .rom) (hready : s.romReady = true) (hbank : s.bootBank = some b) :
    exec .bootHandoff s = ok (({ s.banksRead with boot := .done }.setThr 0 (s.bootThread b)).fresh) := by
  rw [exec_bootHandoff, execBootHandoff, hrun, hrom, hready, hbank]
  rfl

/-- With none it enters host recovery (05 R248). -/
theorem exec_bootHandoff_recovers (hrun : s.steadyRuns = true) (hrom : s.boot = .rom) (hready : s.romReady = true) (hbank : s.bootBank = none) :
    exec .bootHandoff s = ok { s.banksRead.freshCut.cspRecovery with boot := .recovery } := by
  rw [exec_bootHandoff, execBootHandoff, hrun, hrom, hready, hbank]
  rfl

/-- The reset configuration of the serial port leaves the ledger alone (14 R610). -/
theorem State.cspRecovery_ledger : s.freshCut.cspRecovery.ledger = s.ledger := by
  simp only [State.cspRecovery, State.freshCut, State.setBit, State.setFld_ledger, State.setStg_ledger, State.setReg_ledger]
  split <;> rfl

end
end Sys2Proof.Machine

section
open Sys2Proof Sys2Proof.Machine

/-- Settles O28: what the boot ROM reads leaves its selection and the threads as they are. -/
theorem bootHandsOff : Obligations.BootHandsOff := by
  intro s hq hrun hrom hready at' enters
  have hread : s.banksRead.ledger.resetDue = false := (congrArg Ledger.resetDue s.banksRead_ledger).trans hq
  have handoff {b : Nat} (hbank : s.bootBank = some b) : enters b := by
    refine ⟨_, (exec_bootHandoff_enters hrun hrom hready hbank).trans (ok_of _ hread), ?_⟩
    dsimp only
    rw [State.thr_fresh, State.thr_setThr_self, State.bootThread_pc, State.bootEntry_eq]
    exact ⟨rfl, State.bootThread_mode, State.bootThread_st, State.bootThread_g1, State.bootThread_g2, State.bootThread_g3,
      State.bootThread_g4, rfl, fun t ht => (State.thr_setThr_ne _ _ ht.symm).trans (s.banksRead_thr t)⟩
  refine ⟨fun h0 h1 => handoff ?_, fun h0 h1 => handoff ?_, fun h0 h1 => handoff ?_, fun h0 h1 => ?_⟩
  · simp only [State.bootBank, h0, h1]
  · simp only [State.bootBank, h0, h1]
  · simp only [State.bootBank, h0, h1]
  · have hbank : s.bootBank = none := by simp only [State.bootBank, h0, h1]
    have hledger := (congrArg Ledger.resetDue s.banksRead.cspRecovery_ledger).trans hread
    exact ⟨_, (exec_bootHandoff_recovers hrun hrom hready hbank).trans (ok_of _ hledger), rfl⟩

end

namespace Sys2Proof.Machine

/-! ## What goes on around the threads

Completions, records and postings go on while a thread stops. They set PEND bits of threads and change neither their states nor their pcs; they give
the cipher engine no descriptor that waits, take no lock, and order no full reset where none can be ordered. Each lemma follows its operation's own
definition, as those of `State.Prompt` do. -/

/-- A field that lies neither in CIP_LOCK nor in LDG_CTL. -/
abbrev Aside (f : Fld) : Prop := F.LDG_CTL_BRACT.addr < f.addr ∧ f.addr ≠ F.CIP_LOCK_HELD.addr

theorem asideTovf (t : ThreadId) : Aside (F.EVT_TOVF_COUNT t.val) := by
  constructor <;> simp only [F.EVT_TOVF_COUNT, F.LDG_CTL_BRACT, F.CIP_LOCK_HELD] <;> omega

/-- The fields of QUE_RSTAT, at their places. -/
theorem asideRstat (n : RingId) (lo w : Nat) : Aside ⟨0x40005108 + 0x10 * n.val, lo, w⟩ := by
  constructor <;> simp only [F.LDG_CTL_BRACT, F.CIP_LOCK_HELD] <;> omega

/-- From one state on to another. -/
def State.Onward (b s : State) : Prop :=
  (∀ v, (s.thr v).st = (b.thr v).st ∧ (s.thr v).pc = (b.thr v).pc) ∧ (b.cip.waiting = none → s.cip.waiting = none) ∧
    (b.flag F.CIP_LOCK_HELD = false → s.flag F.CIP_LOCK_HELD = false) ∧ (b.calm → s.calm)

namespace State.Onward

variable {b s : State}

theorem refl (s : State) : s.Onward s := ⟨fun _ => ⟨rfl, rfl⟩, id, id, id⟩

theorem ite {u : State} {c : Prop} [Decidable c] (hs : b.Onward s) (hu : b.Onward u) : b.Onward (if c then s else u) := by
  split
  · exact hs
  · exact hu

theorem foldl {α : Type} {l : List α} {f : State → α → State} (h : b.Onward s) (hf : ∀ u a, b.Onward u → b.Onward (f u a)) :
    b.Onward (l.foldl f s) := by
  induction l generalizing s with
  | nil => exact h
  | cons a l ih => exact ih (hf s a h)

theorem waiting (h : b.Onward s) (hb : b.cip.waiting = none) : s.cip.waiting = none := h.2.1 hb

theorem lockFree (h : b.Onward s) (hb : b.flag F.CIP_LOCK_HELD = false) : s.flag F.CIP_LOCK_HELD = false := h.2.2.1 hb

/-! ### Parts that it does not speak of -/

theorem setMem (h : b.Onward s) {x} : b.Onward { s with mem := x } := h
theorem free (h : b.Onward s) {x} : b.Onward { s with free := x } := h
theorem free_made (h : b.Onward s) {x y} : b.Onward { s with free := x, made := y } := h
theorem made (h : b.Onward s) {x} : b.Onward { s with made := x } := h
theorem isl (h : b.Onward s) {x} : b.Onward { s with isl := x } := h
theorem power (h : b.Onward s) {x} : b.Onward { s with power := x } := h
theorem radio (h : b.Onward s) {x} : b.Onward { s with radio := x } := h
theorem flash (h : b.Onward s) {x} : b.Onward { s with flash := x } := h
theorem evring (h : b.Onward s) {x} : b.Onward { s with evring := x } := h
theorem late (h : b.Onward s) {x} : b.Onward { s with late := x } := h
theorem issued (h : b.Onward s) {x} : b.Onward { s with issued := x } := h
theorem setRing (h : b.Onward s) {n x} : b.Onward (s.setRing n x) := h
theorem setIsland (h : b.Onward s) {i x} : b.Onward (s.setIsland i x) := h
theorem setAcct (h : b.Onward s) {i a} : b.Onward (s.setAcct i a) := h
theorem setKeySlot (h : b.Onward s) {n k} : b.Onward (s.setKeySlot n k) := h
theorem fresh (h : b.Onward s) : b.Onward s.fresh := h
theorem unhold (h : b.Onward s) : b.Onward s.unhold := h
theorem poke (h : b.Onward s) {a w} : b.Onward (s.poke a w) := h

/-- The cipher engine's record, with no new descriptor waiting. -/
theorem cip (h : b.Onward s) {x} (hx : s.cip.waiting = none → x.waiting = none) : b.Onward { s with cip := x } := by
  obtain ⟨hthreads, hwait, hheld, hcalm⟩ := h
  exact ⟨hthreads, fun hb => hx (hwait hb), hheld, hcalm⟩

/-! ### Registers and threads -/

theorem setFld (h : b.Onward s) {f v} (hf : Aside f) : b.Onward (s.setFld f v) := by
  obtain ⟨hthreads, hwait, hheld, hcalm⟩ := h
  obtain ⟨hctl, hlock⟩ := hf
  have flagOf {g : Fld} (hg : g.addr ≠ f.addr) : (s.setFld f v).flag g = s.flag g := congrArg (· != 0) (s.fld_setFld_reg f g v hg)
  refine ⟨hthreads, hwait, fun hb => (flagOf hlock.symm).trans (hheld hb), fun hb => ?_⟩
  obtain ⟨hdue, hbract, hlater⟩ := hcalm hb
  exact ⟨hdue, (flagOf (Nat.ne_of_lt hctl)).trans hbract, hlater⟩

theorem setBit (h : b.Onward s) {f} (hf : Aside f) : b.Onward (s.setBit f) := h.setFld hf

theorem satInc (h : b.Onward s) {f} (hf : Aside f) : b.Onward (s.satInc f) := h.setFld hf

/-- The cipher lock becomes free. -/
theorem clrHeld (h : b.Onward s) : b.Onward (s.clrFld F.CIP_LOCK_HELD) := by
  obtain ⟨hthreads, hwait, -, hcalm⟩ := h
  refine ⟨hthreads, hwait, fun _ => s.flag_clrFld_self _ (by simp [Fld.fits, F.CIP_LOCK_HELD]), fun hb => ?_⟩
  obtain ⟨hdue, hbract, hlater⟩ := hcalm hb
  exact ⟨hdue, (congrArg (· != 0) (s.fld_setFld_reg _ _ 0 (by decide))).trans hbract, hlater⟩

theorem setThr (h : b.Onward s) {t x} (hst : x.st = (s.thr t).st) (hpc : x.pc = (s.thr t).pc) : b.Onward (s.setThr t x) := by
  obtain ⟨hthreads, hrest⟩ := h
  refine ⟨fun v => ?_, hrest⟩
  by_cases hv : t = v
  · subst hv
    rw [State.thr_setThr_self, hst, hpc]
    exact hthreads t
  · rw [State.thr_setThr_ne _ _ hv]
    exact hthreads v

/-! ### Events -/

theorem seqIssued (h : b.Onward s) : b.Onward s.seqIssued :=
  ((h.setFld (by decide)).setFld (by decide)).ite (h.setFld (by decide))

theorem pokes (h : b.Onward s) {a l} : b.Onward (s.pokes a l) := by
  induction l generalizing s a with
  | nil => exact h
  | cons w l ih => exact ih h.poke

theorem writeRecord (h : b.Onward s) {t bit code detail stamp seq} : b.Onward (s.writeRecord t bit code detail stamp seq) :=
  h.ite ((h.satInc (asideTovf t)).ite (h.ite h.seqIssued).pokes.poke.evring)

theorem sendRecord (h : b.Onward s) {t bit code detail stamp seq} : b.Onward (s.sendRecord t bit code detail stamp seq) :=
  h.writeRecord.ite h.late

theorem deliver (h : b.Onward s) {t bits bit code detail stamp seq} : b.Onward (s.deliver t bits bit code detail stamp seq) := by
  unfold State.deliver
  extract_lets s1
  have h1 : b.Onward s1 := h.unhold.ite h
  have hthr : s1.thr t = s.thr t := by
    unfold s1
    split <;> rfl
  refine State.Onward.sendRecord (h1.setThr ?_ ?_)
  · rw [hthr]
  · rw [hthr]

theorem deliverRouted (h : b.Onward s) {t bits bit code detail stamp seq} : b.Onward (s.deliverRouted t bits bit code detail stamp seq) :=
  h.ite h.deliver

theorem deliverSystem (h : b.Onward s) {t bits bit code detail stamp seq} : b.Onward (s.deliverSystem t bits bit code detail stamp seq) :=
  h.sendRecord.ite h.deliver

theorem armedNow (h : b.Onward s) {src} : b.Onward (s.armedNow src) := h.unhold.ite h

theorem arrive (h : b.Onward s) : b.Onward s.arrive := h.power.ite h

theorem fireSource (h : b.Onward s) {src stamp} : b.Onward (s.fireSource src stamp) := by
  unfold State.fireSource
  split
  · exact h
  · exact (h.arrive.ite h).deliverRouted

theorem system (h : b.Onward s) {ts code detail seq} : b.Onward (s.system ts code detail seq) :=
  (h.ite h.arrive).foldl fun _ _ k => k.deliverSystem

theorem systemTo (h : b.Onward s) {mask code detail} : b.Onward (s.systemTo mask code detail) := h.system

/-! ### The ledger -/

/-- A reset is ordered with BRACT = 1 alone (01 R59). -/
theorem orderReset (h : b.Onward s) (hbract : s.flag F.LDG_CTL_BRACT = true) : b.Onward s.orderReset := by
  obtain ⟨hthreads, hwait, hheld, hcalm⟩ := h
  have hbusy : ¬ b.calm := fun hb => by simp [(hcalm hb).2.1] at hbract
  unfold State.orderReset
  split
  · exact ⟨hthreads, hwait, hheld, fun hb => absurd hb hbusy⟩
  · exact ⟨hthreads, hwait, hheld, fun hb => absurd hb hbusy⟩

theorem breach (h : b.Onward s) {cause i} : b.Onward (s.breach cause i) := by
  unfold State.breach
  extract_lets n s1 s2 s3
  have h1 : b.Onward s1 := (((h.setBit (by decide)).setFld (by decide)).setFld (by decide)).seqIssued
  have h3 : b.Onward s3 := (h1.setFld (by decide)).system
  split
  · exact h.setBit (by decide)
  · split
    next hbract => exact h3.orderReset hbract
    next => exact h3

theorem check (h : b.Onward s) {i} : b.Onward (s.check i) := h.breach.ite (h.ite h.breach)

theorem posted (h : b.Onward s) {i f} : b.Onward (s.posted i f) := by
  unfold State.posted State.post
  split
  · exact h
  · split
    · exact h
    · exact h.setAcct.check

/-! ### Islands and rings -/

theorem wakeNoted (h : b.Onward s) {i} : b.Onward (s.wakeNoted i) := h.radio.ite h

theorem wakeIsland (h : b.Onward s) {i} : b.Onward (s.wakeIsland i) := by
  unfold State.wakeIsland
  extract_lets _ _
  split
  · exact h.wakeNoted
  · split
    · exact h.wakeNoted.setIsland
    · exact h.wakeNoted
    · exact h.wakeNoted.setIsland
    · exact h.wakeNoted.setIsland

theorem touch (h : b.Onward s) {i} : b.Onward (s.touch i) := h.setIsland.ite h

theorem compRecord (h : b.Onward s) {n status stamp seq result} : b.Onward (s.compRecord n status stamp seq result) :=
  (h.ite h.arrive).pokes.setRing.poke

theorem mirrorCredit (h : b.Onward s) {n} : b.Onward (s.mirrorCredit n) := h.poke

theorem writeCompletion (h : b.Onward s) {n d} : b.Onward (s.writeCompletion n d) := by
  unfold State.writeCompletion
  extract_lets _ s0 _ s2 s3 _
  have h0 : b.Onward s0 := (h.seqIssued.setBit (asideRstat n _ _)).ite h.seqIssued
  have h2 : b.Onward s2 := h0.poke.compRecord
  have h3 : b.Onward s3 := h2.posted.mirrorCredit
  exact h3.poke.ite h3.poke.fireSource

theorem refuse (h : b.Onward s) {d status} : b.Onward (s.refuse d status) := h.fresh.made.setRing.touch

theorem popHead (h : b.Onward s) {n} : b.Onward (s.popHead n) := h.setRing.poke

theorem flushRing (h : b.Onward s) {n} : b.Onward (s.flushRing n) := h.free_made.setRing

theorem ringDisable (h : b.Onward s) {n} : b.Onward (s.ringDisable n) := (h.setFld (asideRstat n _ _)).flushRing.issued.ite h

theorem hdrChecked (h : b.Onward s) {n} : b.Onward (s.hdrChecked n) := (h.setFld (asideRstat n _ _)).ringDisable.ite h

theorem areaBad (h : b.Onward s) {n} : b.Onward (s.areaBad n) := (h.setFld (asideRstat n _ _)).ringDisable

theorem completeNext (h : b.Onward s) {n} : b.Onward (s.completeNext n) := by
  unfold State.completeNext
  split
  · exact h
  · exact h.hdrChecked.setRing.areaBad.posted.ite h.hdrChecked.setRing.writeCompletion

theorem flashCompleted (h : b.Onward s) {n i} : b.Onward (s.flashCompleted n i) := by
  unfold State.flashCompleted
  split
  · exact h
  · exact ((h.flash.setFld (by decide)).setFld (by decide)).ite h

theorem freeLock (h : b.Onward s) : b.Onward s.freeLock :=
  (h.cip (x := { s.cip with freeAfter := false }) id).posted.clrHeld

theorem cipCompleted (h : b.Onward s) {n i} : b.Onward (s.cipCompleted n i) := by
  have hover : b.Onward { s with cip := { s.cip with last := none } } := h.cip id
  unfold State.cipCompleted
  split
  · exact h
  · exact (hover.freeLock.ite hover).ite h

theorem completed (h : b.Onward s) {n} : b.Onward (s.completed n) := h.completeNext.flashCompleted.cipCompleted.touch.ite h

theorem completeAll (h : b.Onward s) {l k} : b.Onward (s.completeAll l k) := by
  induction k generalizing s with
  | zero => exact h
  | succ k ih =>
    unfold State.completeAll
    split
    · exact h
    · exact ih h.completed

theorem settleSource (h : b.Onward s) {src} : b.Onward (s.settleSource src) := h.completeAll.ite h

theorem absentPass (h : b.Onward s) {n k} : b.Onward (s.absentPass n k) := by
  induction k generalizing s with
  | zero => exact h
  | succ k ih =>
    unfold State.absentPass
    split
    · exact h
    · exact h.ite (ih h.popHead.refuse.settleSource)

theorem overpost (h : b.Onward s) {n} : b.Onward (s.overpost n) :=
  ((h.setBit (asideRstat n _ _)).satInc (by decide)).setFld (by decide)

theorem doorbell (h : b.Onward s) {n w} : b.Onward (s.doorbell n w) := by
  unfold State.doorbell
  extract_lets _ _ _ _ s1 _ _ s2
  have h1 : b.Onward s1 := h.poke.posted.mirrorCredit
  have h2 : b.Onward s2 := h1.armedNow.setRing.absentPass
  exact h.overpost.ite (h.poke.ite ((h2.ite h2.wakeIsland).ite h.overpost))

theorem storeCcons (h : b.Onward s) {n w} : b.Onward (s.storeCcons n w) := (h.setBit (asideRstat n _ _)).ite h.poke.setRing

/-! ### Stores -/

theorem storeWord (h : b.Onward s) {a w} : b.Onward (s.storeWord a w) := by
  unfold State.storeWord
  split
  · exact h.doorbell
  · exact h.storeCcons
  · exact h.breach
  · exact h.setMem.touch.ite h.poke

theorem storePart (h : b.Onward s) {a l} : b.Onward (s.storePart a l) := by
  unfold State.storePart
  split
  · exact h.breach
  next n _ _ _ => exact h.setBit (asideRstat n _ _)
  · exact h.setMem.touch.ite h.setMem

theorem storeEach (h : b.Onward s) {a l} : b.Onward (s.storeEach a l) := by
  induction l generalizing s a with
  | nil => exact h
  | cons x l ih => exact ih h.storePart

theorem storeAligned (h : b.Onward s) {tag a l} : b.Onward (s.storeAligned tag a l) := by
  fun_induction State.storeAligned s tag a l with
  | case1 s a b0 b1 b2 b3 r ih => exact ih h.storeWord
  | case2 s a l hl => exact h.storeEach

theorem storeBytes (h : b.Onward s) {tag a l} : b.Onward (s.storeBytes tag a l) := h.storeEach.storeAligned

/-! ### The cipher lock -/

theorem emptySlot (h : b.Onward s) {n} : b.Onward (s.emptySlot n) := h.setKeySlot.setFld (by decide)

theorem endWaiting (h : b.Onward s) {status} : b.Onward (s.endWaiting status) := by
  have hnone (x : Option Desc) : b.Onward { s with cip := { s.cip with waiting := none, last := x } } := h.cip fun _ => rfl
  unfold State.endWaiting
  split
  · exact h
  · exact ((hnone _).emptySlot.ite (hnone _)).refuse

theorem restate (h : b.Onward s) {d status} : b.Onward (s.restate d status) := h.setRing.fresh

theorem endOp (h : b.Onward s) {status zero} : b.Onward (s.endOp status zero) := by
  unfold State.endOp
  split
  · exact h.endWaiting
  · exact h
  · exact (h.storeBytes.ite h).restate

end State.Onward

section
variable {s : State}

/-- The operation in hand ended, none waits (12 R508). -/
theorem State.endOp_waiting {status : Nat} {zero : Bool} : (s.endOp status zero).cip.waiting = none := by
  unfold State.endOp
  split
  next d _ hd =>
    have hgone (x : Option Desc) := State.Onward.refl { s with cip := { s.cip with waiting := none, last := x } }
    rw [State.endWaiting, hd]
    exact ((hgone _).emptySlot.ite (hgone _)).refuse.waiting rfl
  next hw _ => exact hw
  next d hw _ => exact (((State.Onward.refl s).storeBytes.ite (.refl s)).restate (d := d)).waiting hw

/-- A lock broken is free, with no operation waiting; the threads are as they were (12 R508). -/
theorem State.breakLock_onward {cause : Nat} (hheld : s.flag F.CIP_LOCK_HELD = true) :
    s.Onward (s.breakLock cause) ∧ (s.breakLock cause).flag F.CIP_LOCK_HELD = false ∧ (s.breakLock cause).cip.waiting = none := by
  have hbreak : ∃ mask detail, s.breakLock cause = (((s.endOp 0x2A true).freeLock).settleSource 3).systemTo mask 0x15 detail := by
    rw [State.breakLock, hheld]
    exact ⟨_, _, rfl⟩
  obtain ⟨mask, detail, hbreak⟩ := hbreak
  rw [hbreak]
  have hafter := (State.Onward.refl (s.endOp 0x2A true).freeLock).settleSource (src := 3) |>.systemTo (mask := mask) (code := 0x15) (detail := detail)
  refine ⟨(State.Onward.refl s).endOp.freeLock.settleSource.systemTo, hafter.lockFree ?_, hafter.waiting ?_⟩
  · exact State.flag_clrFld_self _ _ (by simp [Fld.fits, F.CIP_LOCK_HELD])
  · exact (State.Onward.refl (s.endOp 0x2A true)).freeLock.waiting State.endOp_waiting

end
end Sys2Proof.Machine

namespace Sys2Proof.Machine

/-! ## START and STOP -/

section
variable {s : State} {t : ThreadId}

theorem exec_threadStart_on (hq : s.quiet) (hrun : s.steadyRuns = true) (hs : (s.threadStart t).ledger = s.ledger) :
    exec (.threadStart t) s = .next (s.threadStart t) := by
  rw [exec_threadStart, execThreadStart, if_pos hrun]
  exact ok_of _ ((congrArg Ledger.resetDue hs).trans hq)

theorem exec_threadStop_on (hrun : s.steadyRuns = true) : exec (.threadStop t) s = ok (s.threadStop t) := by
  rw [exec_threadStop, execThreadStop, if_pos hrun]
  rfl

/-- A STOP on the spot: of a thread that runs with no access waiting, or that waits (05 R200). -/
theorem State.threadStop_now (h : (s.thr t).st = .run ∧ (s.thr t).issued = Held.no ∨ (s.thr t).st = .wait) :
    s.threadStop t = (s.setThr t { s.thr t with st := .stopped }).threadGone t := by
  rcases h with ⟨hst, hissued⟩ | hst
  · simp only [State.threadStop, hst, hissued, if_true]
  · simp only [State.threadStop, hst]

/-- A STOP held up by an access (05 R200). -/
theorem State.threadStop_later (hst : (s.thr t).st = .run) (hissued : (s.thr t).issued ≠ Held.no) :
    s.threadStop t = s.setThr t { s.thr t with stopping := true } := by
  simp only [State.threadStop, hst, hissued, if_false]

theorem State.threadStop_none (hrun : (s.thr t).st ≠ .run) (hwait : (s.thr t).st ≠ .wait) : s.threadStop t = s := by
  unfold State.threadStop
  dsimp only
  split
  · contradiction
  · contradiction
  · rfl

theorem State.threadStart_begins (h : (s.thr t).st = .stopped ∨ (s.thr t).st = .faulted) : s.threadStart t = s.threadBegin t := by
  rcases h with hst | hst <;> simp only [State.threadStart, hst]

theorem State.threadStart_none (hstopped : (s.thr t).st ≠ .stopped) (hfaulted : (s.thr t).st ≠ .faulted) : s.threadStart t = s := by
  unfold State.threadStart
  split
  · contradiction
  · contradiction
  · rfl

/-- The registers of a thread that starts are VOID (04 R194). -/
theorem startRegs_void (k : Nat) (r : Reg) : (vget (startRegs k) r).tag = .void := by
  rw [startRegs, vget, Vector.get_ofFn]

/-- A thread that stops and owns no lock. -/
theorem State.threadGone_setThr_lockless {u : State} {x : Thread} (h : u.flag F.CIP_LOCK_HELD = false ∨ u.fld F.CIP_LOCK_OWNER ≠ t.val) :
    (u.setThr t x).threadGone t = u.setThr t x := State.threadGone_lockless h

/-- One that owns it breaks it (12 R508). -/
theorem State.threadGone_setThr_breaks {x : Thread} (howner : s.fld F.CIP_LOCK_OWNER = t.val) :
    (s.setThr t x).threadGone t = (s.setThr t x).breakLock 1 := by
  have howns : [t].any (fun v => v.val == (s.setThr t x).fld F.CIP_LOCK_OWNER) = true :=
    List.any_eq_true.mpr ⟨t, List.mem_singleton_self t, beq_iff_eq.mpr howner.symm⟩
  exact if_pos howns

/-- A MOV that a STOP waited for, by a thread that breaks no lock: its register is written, and the thread stops (05 R200). -/
theorem exec_mov_stopping {rd ra : Reg} (hq : s.quiet) (hst : (s.thr t).st = .run) (hstop : (s.thr t).stopping = true)
    (hcore : s.coreRuns t = true) (hfetch : s.fetchStop t = none) (hread : s.fetchRead t = s)
    (hlock : s.flag F.CIP_LOCK_HELD = false ∨ s.fld F.CIP_LOCK_OWNER ≠ t.val) :
    exec (.mov t .al rd ra) s = .next (s.setThr t { ((s.thr t).put rd ((s.thr t).get ra)) with
      pc := (s.thr t).pc + 4, bip := false, issued := Held.no, st := .stopped, stopping := false }) := by
  have hruns : s.runs t = true := by rw [State.runs, hcore, hst]; rfl
  have hmoved : (s.clearBip t).write t rd (((s.clearBip t).thr t).get ra) = s.wrote t rd ((s.thr t).get ra) := by
    rw [State.thr_clearBip, Thread.get_bip, State.write_eq]
  have hlate : (s.wrote t rd ((s.thr t).get ra)).stopLate t = s.setThr t { ((s.thr t).put rd ((s.thr t).get ra)) with
      pc := (s.thr t).pc + 4, bip := false, issued := Held.no, st := .stopped, stopping := false } := by
    have hthr : (s.wrote t rd ((s.thr t).get ra)).thr t = { (s.thr t).put rd ((s.thr t).get ra) with
        pc := (s.thr t).pc + 4, bip := false, issued := Held.no } := State.thr_setThr_self _ _ _
    simp only [State.stopLate, hthr, Thread.put_stopping, Thread.put_st, hst, hstop, beq_self_eq_true, Bool.and_true, if_true, true_or]
    rw [State.threadGone_setThr_lockless (u := s.wrote t rd _) hlock, State.wrote, State.setThr_setThr]
  rw [exec_mov, execMov, State.instr, State.fetched_run _ _ _ hruns hfetch (u := s.wrote t rd ((s.thr t).get ra)), hlate]
  · exact ok_of _ hq
  · rw [hread]
    refine (if_pos rfl).trans ?_
    rw [hmoved]
    exact ok_of _ hq

/-- A thread that is stopped or faulted starts in warden mode at EVT_TPC (05 R199). -/
theorem exec_threadStart_begins (hq : s.quiet) (hrun : s.steadyRuns = true) (h : (s.thr t).st = .stopped ∨ (s.thr t).st = .faulted) :
    exec (.threadStart t) s = .next (s.threadBegin t) := by
  have hbegin := State.threadStart_begins h
  rw [exec_threadStart_on hq hrun (by rw [hbegin]; rfl), hbegin]

theorem State.threadBegin_void {r : Reg} (hr : r ≠ 0) : (((s.threadBegin t).thr t).get r).tag = .void := by
  rw [State.threadBegin, State.thr_fresh, State.thr_setThr_self]
  exact (congrArg TWord.tag (if_neg hr)).trans (startRegs_void _ r)

/-- A STOP of the thread that owns the cipher lock: the lock is broken and free, and what follows leaves every thread's state (12 R508). -/
theorem exec_threadStop_breaks (hrun : s.steadyRuns = true) (hst : (s.thr t).st = .run ∧ (s.thr t).issued = Held.no ∨ (s.thr t).st = .wait)
    (hheld : s.flag F.CIP_LOCK_HELD = true) (howner : s.fld F.CIP_LOCK_OWNER = t.val) :
    Effect (.threadStop t) s (fun u => (u.thr t).st = .stopped ∧ u.flag F.CIP_LOCK_HELD = false ∧ u.cip.waiting = none ∧
      (∀ v, v ≠ t → (u.thr v).st = (s.thr v).st ∧ (u.thr v).pc = (s.thr v).pc)) := by
  obtain ⟨⟨hthreads, -, -, hcalm⟩, hfree, hwait⟩ := (s.setThr t { s.thr t with st := .stopped }).breakLock_onward (cause := 1) hheld
  have hexec : exec (.threadStop t) s = ok ((s.setThr t { s.thr t with st := .stopped }).breakLock 1) := by
    rw [exec_threadStop_on hrun, State.threadStop_now hst, State.threadGone_setThr_breaks howner]
  refine ⟨_, hexec, ⟨?_, hfree, hwait, fun v hv => ?_⟩, fun h => hexec.trans (ok_of _ (hcalm h).1)⟩
  · rw [(hthreads t).1, State.thr_setThr_self]
  · have hother := hthreads v
    rwa [State.thr_setThr_ne _ _ hv.symm] at hother

end
end Sys2Proof.Machine

namespace Sys2Proof.Machine

/-! ## The event rings' registers -/

section
variable {s : State} {t : ThreadId} {v : Word}

/-- The state with the header's address of a thread's event ring written (05 R224). -/
def State.tringAddr (s : State) (t : ThreadId) (v : Word) : State := s.setFld (F.EVT_TRING_ADDR t.val) (fldGet v (F.EVT_TRING_ADDR t.val))

/-- EVT_TRING.ADDR holds the header's address without its six zeros (05 R712). -/
theorem State.tringAddr_fld : (s.tringAddr t v).fld (F.EVT_TRING_ADDR t.val) * 64 = v.toNat / 64 * 64 := by
  rw [State.tringAddr, State.fld_setFld_self _ _ _ (by simp [Fld.fits, F.EVT_TRING_ADDR])]
  have hv := v.isLt
  simp only [fldGet, F.EVT_TRING_ADDR]
  omega

theorem State.tringAddr_regs : SameRegs [(F.EVT_TRING_EN t.val).addr] s (s.tringAddr t v) := fun _ ha =>
  State.reg_setFld_ne _ _ _ _ (fun h => ha (h ▸ List.mem_singleton_self _))

theorem inSramVigil_iff {a n : Nat} : inSramVigil a n = true ↔ 0x20000000 ≤ a ∧ a + n ≤ 0x20110000 := by
  simp [inSramVigil]

/-- A write that enables a ring with a header in memory of its kind latches it (05 R712). -/
theorem State.tringWrite_latches (hen : v.getLsbD 0 = true) (hlow : 0x20000000 ≤ v.toNat / 64 * 64) (hhigh : v.toNat / 64 * 64 + 64 ≤ 0x20110000) :
    s.tringWrite t v = ((s.tringAddr t v).setBit (F.EVT_TRING_EN t.val)).evLatch t := by
  have hin : inSramVigil ((s.tringAddr t v).fld (F.EVT_TRING_ADDR t.val) * 64) 64 = true := by
    rw [State.tringAddr_fld, inSramVigil_iff]
    exact ⟨hlow, hhigh⟩
  exact if_pos (Bool.and_eq_true_iff.mpr ⟨hen, hin⟩)

theorem State.tringWrite_declines (h : v.getLsbD 0 = false ∨ v.toNat / 64 * 64 < 0x20000000 ∨ 0x20110000 < v.toNat / 64 * 64 + 64) :
    s.tringWrite t v = (s.tringAddr t v).clrFld (F.EVT_TRING_EN t.val) := by
  refine if_neg fun hgo => ?_
  rw [Bool.and_eq_true] at hgo
  obtain ⟨hen, hin⟩ := hgo
  have hin : inSramVigil ((s.tringAddr t v).fld (F.EVT_TRING_ADDR t.val) * 64) 64 = true := hin
  rw [State.tringAddr_fld, inSramVigil_iff] at hin
  rcases h with h | h | h
  · exact Bool.false_ne_true (h.symm.trans hen)
  · omega
  · omega

/-- EN and ADDR lie in one register; a write of EN leaves ADDR. -/
theorem State.fld_addr_setFld_en {n : Nat} :
    (s.setFld (F.EVT_TRING_EN t.val) n).fld (F.EVT_TRING_ADDR t.val) = s.fld (F.EVT_TRING_ADDR t.val) :=
  State.fld_setFld_other _ _ _ _ (Or.inl (by decide : 0 + 1 ≤ 6))

theorem State.sameRegs_setFld {u : State} {f : Fld} {n : Nat} (h : SameRegs [f.addr] s u) : SameRegs [f.addr] s (u.setFld f n) := fun a ha =>
  (State.reg_setFld_ne _ _ _ _ (fun heq => ha (heq ▸ List.mem_singleton_self _))).trans (h a ha)

theorem State.evLatch_reg (a : Nat) : (s.evLatch t).reg a = s.reg a := rfl

/-- What a thread's event ring continues from is in its header (05 R712). -/
theorem State.evLatch_evring {h : Nat} (hh : s.fld (F.EVT_TRING_ADDR t.val) * 64 = h) :
    vget (s.evLatch t).evring t = if s.mem.parityBad h || s.mem.parityBad (h + 4) || s.mem.parityBad (h + 8) then ⟨0, 0, 0⟩ else
      ⟨(s.mem.word h).toNat, (s.mem.word (h + 4)).toNat, (s.mem.word (h + 8)).toNat % 65536⟩ := by
  simp only [State.evLatch, hh, vget_vset_self, List.any_cons, List.any_nil, Bool.or_false, Bool.or_assoc, State.word]

theorem exec_evtTringWrite_on (hrun : s.steadyRuns = true) : exec (.evtTringWrite t v) s = ok (s.tringWrite t v) := by
  rw [exec_evtTringWrite, execEvtTringWrite, if_pos hrun]

theorem exec_evtTovfClr_on (hrun : s.steadyRuns = true) : exec (.evtTovfClr t) s = ok (s.tovfClr t) := by
  rw [exec_evtTovfClr, execEvtTovfClr, if_pos hrun]

end

/-! ## Records in their ring -/

section
variable {s : State} {t : ThreadId} {bits detail : Word} {bit code : Nat} {stamp : BitVec 48}

/-- The free entries of an event ring that is usable and whose CONS passes its check (05 R209). -/
theorem State.evFree_ne_zero (husable : (vget s.evring t).usable = true) (hcons : s.mem.parityBad (s.fld (F.EVT_TRING_ADDR t.val) * 64 + 12) = false)
    (hfree : ((vget s.evring t).prod + 65536 - (s.mem.word (s.fld (F.EVT_TRING_ADDR t.val) * 64 + 12)).toNat % 65536) % 65536 <
      (vget s.evring t).size) : s.evFree t ≠ 0 := by
  simp only [State.evFree, husable, hcons, State.word]
  exact Nat.sub_ne_zero_of_lt hfree

theorem State.evFree_eq_zero (h : s.mem.parityBad (s.fld (F.EVT_TRING_ADDR t.val) * 64 + 12) = true ∨
    ¬ ((vget s.evring t).prod + 65536 - (s.mem.word (s.fld (F.EVT_TRING_ADDR t.val) * 64 + 12)).toNat % 65536) % 65536 <
      (vget s.evring t).size) : s.evFree t = 0 := by
  simp only [State.evFree, State.word]
  rcases h with hbad | hfull
  · rw [hbad, Bool.or_true, if_pos rfl]
  · rw [Nat.sub_eq_zero_of_le (Nat.le_of_not_lt hfull), ite_self]

/-- A size that a ring may have is not zero (06 Table 6.1). -/
theorem sizeOk_pos {n : Nat} (h : sizeOk n = true) : 0 < n := by
  refine Nat.pos_of_ne_zero fun hn => ?_
  subst hn
  exact absurd h (by decide)

/-- The next entry of a usable ring is aligned, and lies inside the ring. -/
theorem EvRing.at_inside {e : EvRing} (h : e.usable = true) : e.at % 4 = 0 ∧ e.base ≤ e.at ∧ e.at + 16 ≤ e.base + e.size * 16 := by
  simp only [EvRing.usable, Bool.and_eq_true, beq_iff_eq] at h
  obtain ⟨⟨hbase, hsize⟩, -⟩ := h
  have hlt := Nat.mod_lt e.prod (sizeOk_pos hsize)
  unfold EvRing.at
  omega

/-- The first word of a record: bit, code, and the low bits of the stamp (05 Table 5.3). -/
theorem recordWord_eq (hbit : bit < 32) (hcode : code < 256) :
    (stamp.extractLsb' 0 16 ++ BitVec.ofNat 8 code ++ BitVec.ofNat 8 bit : BitVec 32) =
      BitVec.ofNat 32 (bit + 256 * code + 65536 * (stamp.toNat % 65536)) := by
  refine BitVec.eq_of_toNat_eq ?_
  rw [BitVec.toNat_append, BitVec.toNat_append, ← Nat.shiftLeft_add_eq_or_of_lt (BitVec.isLt _), ← Nat.shiftLeft_add_eq_or_of_lt (BitVec.isLt _)]
  simp only [BitVec.toNat_ofNat, BitVec.extractLsb'_toNat, Nat.shiftRight_zero, Nat.shiftLeft_eq]
  omega

/-- The third: its high bits. -/
theorem recordStamp_eq : stamp.extractLsb' 16 32 = BitVec.ofNat 32 (stamp.toNat / 65536) := by
  refine BitVec.eq_of_toNat_eq ?_
  rw [BitVec.extractLsb'_toNat, BitVec.toNat_ofNat, Nat.shiftRight_eq_div_pow]

theorem State.append_mem {a hdr : Nat} {l : List TWord} {e : EvRing} :
    (s.append t a l hdr e).mem = (s.mem.setWords a l).setWord (hdr + 8) ⟨BitVec.ofNat 32 e.prod, .int⟩ := by
  rw [State.append, State.pokes_eq]
  rfl

theorem State.append_reg {a hdr : Nat} {l : List TWord} {e : EvRing} (b : Nat) : (s.append t a l hdr e).reg b = s.reg b := by
  rw [State.append, State.pokes_eq]
  rfl

/-- The memory with a record in its entry and the ring's PROD advanced (05 R207). -/
def State.recorded (s : State) (t : ThreadId) (l : List TWord) : Memory :=
  (s.mem.setWords (vget s.evring t).at l).setWord (s.fld (F.EVT_TRING_ADDR t.val) * 64 + 8)
    ⟨BitVec.ofNat 32 (((vget s.evring t).prod + 1) % 65536), .int⟩

/-- A record reads back from its entry word by word, where its ring does not overlap the header. -/
theorem State.recorded_word {l : List TWord} {k : Nat} (hlen : l.length = 4) (husable : (vget s.evring t).usable = true)
    (hapart : s.fld (F.EVT_TRING_ADDR t.val) * 64 + 16 ≤ (vget s.evring t).base ∨
      (vget s.evring t).base + (vget s.evring t).size * 16 ≤ s.fld (F.EVT_TRING_ADDR t.val) * 64) (hk : k < l.length) :
    (s.recorded t l).tword ((vget s.evring t).at + 4 * k) = l[k] := by
  obtain ⟨halign, hlow, hhigh⟩ := EvRing.at_inside husable
  rw [State.recorded, Memory.tword_setWord_out (by omega) (by omega), Memory.tword_setWords_in halign hk]

theorem State.recorded_prod {l : List TWord} :
    (s.recorded t l).word (s.fld (F.EVT_TRING_ADDR t.val) * 64 + 8) = BitVec.ofNat 32 (((vget s.evring t).prod + 1) % 65536) :=
  congrArg TWord.data (Memory.tword_setWord _ _ _)

/-! ### Events and their records -/

/-- A sent record meets the ring as the event finds it. -/
theorem State.pended_ring : (s.pended t bits).fld (F.EVT_TRING_ADDR t.val) = s.fld (F.EVT_TRING_ADDR t.val) ∧
    (s.pended t bits).flag (F.EVT_TRING_EN t.val) = s.flag (F.EVT_TRING_EN t.val) ∧ (s.pended t bits).evFree t = s.evFree t ∧
    ∀ l, (s.pended t bits).recorded t l = s.recorded t l := by
  have hhdr : (s.pended t bits).fld (F.EVT_TRING_ADDR t.val) = s.fld (F.EVT_TRING_ADDR t.val) := State.fld_of_reg (State.pended_reg _)
  refine ⟨hhdr, State.flag_of_reg (State.pended_reg _), ?_, fun l => ?_⟩
  · simp only [State.evFree, State.word, hhdr, State.pended_evring, State.pended_mem]
  · rw [State.recorded, State.pended_mem, State.pended_evring, hhdr, State.recorded]

/-- With the steady island lit an event's record goes to its ring at once (02 R75). -/
theorem State.deliver_lit (hlit : s.lit .steady = true) :
    s.deliver t bits bit code detail stamp none = (s.pended t bits).writeRecord t bit code detail stamp none := by
  rw [State.deliver_eq, State.sendRecord, State.steadyUp, State.pended_lit, if_pos hlit]

/-- An event whose record the ring takes: the record carries the next number, which is issued by it (05 R207; 01 R28). -/
theorem State.deliver_taken (hlit : s.lit .steady = true) (hen : s.flag (F.EVT_TRING_EN t.val) = true) (hfree : s.evFree t ≠ 0) :
    (s.deliver t bits bit code detail stamp none).mem = s.recorded t (recordWords bit code detail stamp (s.reg F.LDG_SEQ_NEXT.addr)) ∧
    (s.deliver t bits bit code detail stamp none).reg F.LDG_SEQ_NEXT.addr = s.reg F.LDG_SEQ_NEXT.addr + 1 := by
  obtain ⟨-, hflag, hevfree, hrecorded⟩ := s.pended_ring (t := t) (bits := bits)
  rw [State.deliver_lit hlit, State.writeRecord_appends (hflag.trans hen) (hevfree ▸ hfree), State.append_mem, State.append_reg, State.seqIssued_mem,
    State.seqIssued_seq, State.pended_reg, ← hrecorded, State.seqNext, State.pended_reg]
  exact ⟨rfl, rfl⟩

/-- One whose record the ring cannot take is counted, with no number issued (05 R209). -/
theorem State.deliver_lost (hlit : s.lit .steady = true) (hen : s.flag (F.EVT_TRING_EN t.val) = true) (hfull : s.evFree t = 0) :
    s.deliver t bits bit code detail stamp none = (s.pended t bits).satInc (F.EVT_TOVF_COUNT t.val) := by
  obtain ⟨-, hflag, hevfree, -⟩ := s.pended_ring (t := t) (bits := bits)
  rw [State.deliver_lit hlit, State.writeRecord_full (hflag.trans hen) (hevfree.trans hfull)]

end
end Sys2Proof.Machine

section
open Sys2Proof Sys2Proof.Machine

/-- Settles O34: STOP of a lock's owner by `State.Onward`, the event rings by the two outcomes of a record. -/
theorem threadsAndEventRings : Obligations.ThreadsAndEventRings := by
  refine ⟨fun s t hq hrun => ?threads, fun s t v hq hrun => ?registers, fun s t bits bit code detail stamp _ hlit hen => ?records⟩
  case threads =>
    refine ⟨fun hst => ⟨_, exec_threadStart_begins hq hrun hst, ?_⟩, fun hstopped hfaulted => ?_, fun hst hlock => ?_, fun hst hissued => ?_,
      fun hst hstop hcore hfetch hread hlock rd ra => exec_mov_stopping hq hst hstop hcore hfetch hread hlock,
      exec_threadStop_breaks hrun, fun hnrun hnwait => ?_⟩
    · have hthr : (s.threadBegin t).thr t = _ := State.thr_setThr_self s t _
      have hvoid (r : Reg) (hr : r ≠ 0) : (((s.threadBegin t).thr t).get r).tag = .void := State.threadBegin_void hr
      refine ⟨congrArg Thread.st hthr, congrArg Thread.mode hthr, congrArg Thread.pc hthr, congrArg Thread.pend hthr, congrArg Thread.ent hthr,
        congrArg Thread.bip hthr, hvoid, ?_⟩
      dsimp only
      rw [hthr]
      rfl
    · have hnone := State.threadStart_none hstopped hfaulted
      rw [exec_threadStart_on hq hrun (by rw [hnone]), hnone]
    · rw [exec_threadStop_on hrun, State.threadStop_now hst, State.threadGone_setThr_lockless hlock]
      exact ok_of _ hq
    · rw [exec_threadStop_on hrun, State.threadStop_later hst hissued]
      exact ok_of _ hq
    · rw [exec_threadStop_on hrun, State.threadStop_none hnrun hnwait]
      exact ok_of _ hq
  case registers =>
    refine ⟨fun hen hlow hhigh => ?_, fun hout => ?_, ?_⟩
    · have hexec : exec (.evtTringWrite t v) s = .next (((s.tringAddr t v).setBit (F.EVT_TRING_EN t.val)).evLatch t) := by
        rw [exec_evtTringWrite_on hrun, State.tringWrite_latches hen hlow hhigh]
        exact ok_of _ hq
      have haddr : ((s.tringAddr t v).setBit (F.EVT_TRING_EN t.val)).fld (F.EVT_TRING_ADDR t.val) * 64 = v.toNat / 64 * 64 := by
        rw [State.setBit, State.fld_addr_setFld_en, State.tringAddr_fld]
      refine ⟨_, hexec, (State.flag_of_reg (State.evLatch_reg _)).trans ?_, ?_, State.evLatch_evring haddr, ?_, rfl, rfl, rfl⟩
      · exact State.flag_setBit_self _ _ (by simp [Fld.fits, F.EVT_TRING_EN]) (by simp [F.EVT_TRING_EN])
      · rw [State.fld_of_reg (State.evLatch_reg _), haddr]
      · exact fun a ha => (State.evLatch_reg a).trans (State.sameRegs_setFld State.tringAddr_regs a ha)
    · have hexec : exec (.evtTringWrite t v) s = .next ((s.tringAddr t v).clrFld (F.EVT_TRING_EN t.val)) := by
        rw [exec_evtTringWrite_on hrun, State.tringWrite_declines hout]
        exact ok_of _ hq
      refine ⟨_, hexec, ?_, State.sameRegs_setFld State.tringAddr_regs, rfl, rfl, rfl⟩
      exact State.flag_clrFld_self _ _ (by simp [Fld.fits, F.EVT_TRING_EN])
    · refine ⟨_, (exec_evtTovfClr_on hrun).trans (ok_of _ hq), ?_, State.sameRegs_setFld (fun _ _ => rfl), rfl, rfl, rfl⟩
      exact State.fld_setFld_self _ _ _ (by simp [Fld.fits, F.EVT_TOVF_COUNT])
  case records =>
    refine ⟨congrArg Thread.pend State.deliver_thr_self, fun husable hcons hfree _ hapart hbit hcode => ?_, fun hfull => ?_⟩
    · obtain ⟨hmem, hseq⟩ := s.deliver_taken (bits := bits) (bit := bit) (code := code) (detail := detail) (stamp := stamp) hlit hen
        (State.evFree_ne_zero husable hcons hfree)
      have hword {k : Nat} (hk : k < 4) := State.recorded_word (l := recordWords bit code detail stamp (s.reg F.LDG_SEQ_NEXT.addr)) rfl husable hapart hk
      rw [hmem]
      refine ⟨?_, hword (k := 1) (by decide), (hword (k := 2) (by decide)).trans ?_, hword (k := 3) (by decide), State.recorded_prod, hseq⟩
      · exact (congrArg TWord.data (hword (k := 0) (by decide))).trans (recordWord_eq hbit hcode)
      · exact congrArg (TWord.mk · Tag.time) recordStamp_eq
    · have hcount : (s.pended t bits).fld (F.EVT_TOVF_COUNT t.val) = s.fld (F.EVT_TOVF_COUNT t.val) := State.fld_of_reg (State.pended_reg _)
      rw [State.deliver_lost hlit hen (State.evFree_eq_zero hfull)]
      refine ⟨State.pended_mem, ?_, ?_⟩
      · rw [State.satInc, State.fld_setFld_self _ _ _ (by simp [Fld.fits, F.EVT_TOVF_COUNT]), hcount]
        simp only [F.EVT_TOVF_COUNT]
        omega
      · rw [State.satInc, State.reg_setFld_ne _ _ _ _ (by simp [F.EVT_TOVF_COUNT, F.LDG_SEQ_NEXT]; omega), State.pended_reg]

end

section
/-! PROOFS. A ring opens, is disabled and closes (06 R257 to R259, R277, R288). -/

namespace Sys2Proof.Machine

/-! ## A ring's header -/

section
variable {m : Memory} {h size : Nat} {p c : BitVec 16}

/-- The memory with the words written that the Dzitik owns in the header of a ring it enables (06 R258). -/
def Memory.openHdr (m : Memory) (h size : Nat) (p c : BitVec 16) : Memory :=
  ((((m.setWord (h + 0xC) (idxWord p)).setWord (h + 0x18) (idxWord c)).setWord (h + 0x10) ⟨BitVec.ofNat 32 size, .int⟩).setWord
    (h + 0x20) ⟨0, .seq⟩).setWord (h + 0x24) ⟨0, .int⟩

/-- CREDIT shows the size. -/
theorem Memory.openHdr_credit : (m.openHdr h size p c).word (h + 0x10) = BitVec.ofNat 32 size := by
  rw [Memory.openHdr, Memory.word_setWord_out (by omega), Memory.word_setWord_out (by omega)]
  exact congrArg TWord.data (Memory.tword_setWord _ _ _)

theorem Memory.openHdr_byte_out {a : Nat} (ha : a < h + 0xC ∨ h + 0x28 ≤ a) : (m.openHdr h size p c).byte a = m.byte a := by
  rw [Memory.openHdr, Memory.byte_setWord_out _ _ _ _ (by omega), Memory.byte_setWord_out _ _ _ _ (by omega),
    Memory.byte_setWord_out _ _ _ _ (by omega), Memory.byte_setWord_out _ _ _ _ (by omega), Memory.byte_setWord_out _ _ _ _ (by omega)]

end

/-! ## A ring's account -/

section
variable {s : State} {n : RingId}

theorem State.acct_setAcct_ne {i k : Nat} {a : Account} (h : k ≠ i) : (s.setAcct i a).acct k = s.acct k := smGet_set_ne _ _ _ h

/-- A ring's account belongs to no unit that may be absent (01 Table 1.1). -/
theorem State.acctAbsent_ring : s.acctAbsent n.val = false := by
  have hn := n.isLt
  simp only [State.acctAbsent, Bool.or_eq_false_iff, Bool.and_eq_false_imp, Bool.or_eq_true, beq_iff_eq, Bool.and_eq_true, decide_eq_true_eq]
  omega

/-- A posting on a ring's account that balances with nothing in flight replaces the account and does nothing else (01 R26). -/
theorem State.posted_ring {f : Account → Option Account} {a : Account} (hp : s.ledger.parity = []) (hf : f (s.acct n.val) = some a)
    (hfit : a.fits = true) (hsum : a.g = a.r + a.h + a.f) (hflight : a.f = 0) : s.posted n.val f = s.setAcct n.val a :=
  s.posted_sound _ f a State.acctAbsent_ring hf hfit (by simp [hp, nsMem]) ((Account.sound_iff _ _).mpr ⟨hsum, Or.inl hflight⟩)

/-- All the credit of a ring granted at once (06 R258). -/
theorem State.posted_ring_grant {k : Nat} (hp : s.ledger.parity = []) (hk : k < 2 ^ 32) :
    s.posted n.val (fun _ => some ⟨k, k, 0, 0⟩) = s.setAcct n.val ⟨k, k, 0, 0⟩ :=
  State.posted_ring hp rfl ((Account.fits_iff _).mpr ⟨hk, hk, Nat.two_pow_pos _, Nat.two_pow_pos _⟩) rfl rfl

end

/-! ## Its state -/

section
variable {s : State} {n : RingId}

theorem State.ringState_setFld {k : Nat} (hk : k < 4) : (s.setFld (F.QUE_RSTAT_STATE n.val) k).ringState n = k := by
  rw [State.ringState, State.fld_setFld_self _ _ _ (by simp [Fld.fits, F.QUE_RSTAT_STATE])]
  exact Nat.mod_eq_of_lt hk

end

/-! ## Enabling -/

section
variable {s : State} {n : RingId} {v : Word}

/-- The ring as its header describes it (06 Table 6.1). -/
def State.hdrRing (s : State) (n : RingId) : Ring :=
  let h := s.ringHdr n
  let p : BitVec 16 := (s.mem.word (h + 8)).setWidth 16
  let c : BitVec 16 := (s.mem.word (h + 0x1C)).setWidth 16
  ⟨(s.mem.word h).toNat, (s.mem.word (h + 4)).toNat, (s.mem.word (h + 0x14)).toNat, p, p, c, c, p, [], false, 0⟩

theorem State.hdrRing_size_lt : (s.hdrRing n).size < 2 ^ 32 := by
  rw [State.hdrRing]
  exact BitVec.isLt _

/-- The state with an opening ring's record and its words of the header, its credit not yet granted. -/
def State.hdrOpened (s : State) (n : RingId) : State :=
  let h := s.ringHdr n
  let r := s.hdrRing n
  (((((s.setRing n r).poke (h + 0xC) (idxWord r.prod)).poke (h + 0x18) (idxWord r.ccons)).poke (h + 0x10) ⟨BitVec.ofNat 32 r.size, .int⟩).poke
    (h + 0x20) ⟨0, .seq⟩).poke (h + 0x24) ⟨0, .int⟩

/-- The account of an open ring with all its credit free (06 R258). -/
def State.hdrCredit (s : State) (n : RingId) : Account := ⟨(s.hdrRing n).size, (s.hdrRing n).size, 0, 0⟩

theorem State.hdrOpened_mem : (s.hdrOpened n).mem = s.mem.openHdr (s.ringHdr n) (s.hdrRing n).size (s.hdrRing n).prod (s.hdrRing n).ccons := rfl

theorem State.hdrOpened_threads : (s.hdrOpened n).threads = s.threads := by
  simp only [State.hdrOpened, State.poke_threads, State.setRing_threads]

theorem State.hdrOpened_ledger : (s.hdrOpened n).ledger = s.ledger := by
  simp only [State.hdrOpened, State.poke_ledger, State.setRing_ledger]

theorem State.hdrOpened_ring : (s.hdrOpened n).ring n = s.hdrRing n := by
  simp only [State.hdrOpened, State.ring_poke, State.ring_setRing_self]

theorem State.hdrOpened_ring_ne {m : RingId} (hm : m ≠ n) : (s.hdrOpened n).ring m = s.ring m := by
  simp only [State.hdrOpened, State.ring_poke, State.ring_setRing_ne s _ hm.symm]

theorem State.hdrOpened_fld {f : Fld} : (s.hdrOpened n).fld f = s.fld f := by
  simp only [State.hdrOpened, State.fld_poke, State.fld_setRing]

theorem State.ringOpen_eq : s.ringOpen n =
    (((s.hdrOpened n).posted n.val (fun _ => some (s.hdrCredit n))).setFld (F.QUE_RSTAT_STATE n.val) ringOn).ringArms n := by
  simp only [State.ringOpen, State.hdrOpened, State.hdrRing, State.hdrCredit, State.word]

/-- What a ring that opens has become, beside its registers' other fields (06 R258). -/
structure State.OpensRing (s : State) (n : RingId) (u : State) : Prop where
  state : u.ringState n = ringOn
  err : u.fld (F.QUE_RSTAT_ERR n.val) = s.fld (F.QUE_RSTAT_ERR n.val)
  acct : u.acct n.val = s.hdrCredit n
  ring : u.ring n = s.hdrRing n
  others : ∀ m, m ≠ n → u.ring m = s.ring m
  mem : u.mem = s.mem.openHdr (s.ringHdr n) (s.hdrRing n).size (s.hdrRing n).prod (s.hdrRing n).ccons
  threads : u.threads = s.threads
  resetDue : u.ledger.resetDue = s.ledger.resetDue

/-- The arming of a ring changes the snuff hold at most. -/
theorem State.OpensRing.ringArms {u : State} (h : s.OpensRing n u) : s.OpensRing n (u.ringArms n) := by
  obtain ⟨p, hp⟩ := u.ringArms_frame n
  rw [hp]
  exact ⟨h.state, h.err, h.acct, h.ring, h.others, h.mem, h.threads, h.resetDue⟩

/-- The grant and STATE complete the opening. -/
theorem State.opensRing : s.OpensRing n (((s.hdrOpened n).setAcct n.val (s.hdrCredit n)).setFld (F.QUE_RSTAT_STATE n.val) ringOn) := by
  constructor
  case state => exact State.ringState_setFld (by decide)
  case err => rw [State.fld_setFld_other _ _ _ _ (Or.inl (by simp [F.QUE_RSTAT_STATE, F.QUE_RSTAT_ERR])), State.fld_setAcct, State.hdrOpened_fld]
  case acct => rw [State.acct_setFld, State.acct_setAcct_self]
  case ring => rw [State.ring_setFld, State.ring_setAcct, State.hdrOpened_ring]
  case others =>
    intro m hm
    rw [State.ring_setFld, State.ring_setAcct, State.hdrOpened_ring_ne hm]
  case mem => rw [State.setFld_mem, State.setAcct_mem, State.hdrOpened_mem]
  case threads => rw [State.setFld_threads, State.setAcct_threads, State.hdrOpened_threads]
  case resetDue => rw [State.setFld_ledger, State.resetDue_setAcct, State.hdrOpened_ledger]

/-- The grant of a ring that opens is made, since it balances with nothing in flight (06 R258). -/
theorem State.ringOpen_opens (hp : s.ledger.parity = []) : s.OpensRing n (s.ringOpen n) := by
  have hparity : (s.hdrOpened n).ledger.parity = [] := by rw [State.hdrOpened_ledger, hp]
  rw [State.ringOpen_eq, State.hdrCredit, State.posted_ring_grant hparity State.hdrRing_size_lt]
  exact State.opensRing.ringArms

/-! ### The write that enables -/

theorem State.ringHdr_setFld {f : Fld} {k : Nat} (hf : f.addr ≠ (F.QUE_RHDR_ADDR n.val).addr) : (s.setFld f k).ringHdr n = s.ringHdr n :=
  congrArg (· * 64) (State.fld_setFld_reg _ _ _ _ hf.symm)

/-- A write of QUE_RCFG leaves QUE_RHDR, which is a register of its own (06 R288). -/
theorem State.rcfgFields_ringHdr : (s.rcfgFields n v).ringHdr n = s.ringHdr n := by
  have hcfg : 0x40005100 + 0x10 * n.val ≠ 0x40005104 + 0x10 * n.val := by omega
  rw [State.rcfgFields, State.ringHdr_setFld hcfg, State.ringHdr_setFld hcfg, State.ringHdr_setFld hcfg]

/-- So does a write of ERR. -/
theorem State.setFld_err_ringHdr {k : Nat} : (s.setFld (F.QUE_RSTAT_ERR n.val) k).ringHdr n = s.ringHdr n :=
  State.ringHdr_setFld (by simp [F.QUE_RSTAT_ERR, F.QUE_RHDR_ADDR])

theorem State.hdrRing_congr {u : State} (hhdr : u.ringHdr n = s.ringHdr n) (hmem : u.mem = s.mem) : u.hdrRing n = s.hdrRing n := by
  rw [State.hdrRing, hhdr, hmem, State.hdrRing]

theorem exec_ringEnable_off (hrun : s.steadyRuns = true) (hoff : s.ringState n = ringOff) :
    exec (.ringEnable n v) s = ok ((s.rcfgFields n (v ||| 1)).ringEnable n) := by
  have hen : (v ||| 1#32).getLsbD 0 = true := by simp
  rw [exec_ringEnable, execRingEnable, if_pos hrun, State.rcfgWrite, if_pos hoff]
  exact congrArg ok (if_pos hen)

theorem State.ringEnable_granted (herr : s.enableErr n = 0) : s.ringEnable n = (s.setFld (F.QUE_RSTAT_ERR n.val) 0).ringOpen n := by
  rw [State.ringEnable, herr, if_pos rfl]

theorem State.ringEnable_refused (herr : s.enableErr n ≠ 0) : s.ringEnable n = s.setFld (F.QUE_RSTAT_ERR n.val) (s.enableErr n) :=
  if_neg herr

end

/-! ## Disabling and closing -/

section
variable {s : State} {n : RingId}

theorem exec_ringDisable_on (hq : s.quiet) (hrun : s.steadyRuns = true) (hon : s.ringState n = ringOn) :
    exec (.ringDisable n) s =
      .next (((s.setFld (F.QUE_RSTAT_STATE n.val) ringDraining).flushRing n).dropAccess (s.ringUnit n) (s.ringChan n)) := by
  rw [exec_ringDisable, execRingDisable, if_pos hrun, State.ringDisable, if_pos hon]
  exact ok_of _ hq

theorem exec_ringDisable_not_on (hq : s.quiet) (hrun : s.steadyRuns = true) (hon : s.ringState n ≠ ringOn) : exec (.ringDisable n) s = .next s := by
  rw [exec_ringDisable, execRingDisable, if_pos hrun, State.ringDisable, if_neg hon]
  exact ok_of _ hq

/-- The flush changes no register, and neither memory, threads nor the ledger (06 R277). -/
theorem State.flushed_reg {u ch a : Nat} : ((s.flushRing n).dropAccess u ch).reg a = s.reg a := rfl

theorem State.flushed_core {u ch : Nat} : SameCore s ((s.flushRing n).dropAccess u ch) := ⟨rfl, rfl, rfl⟩

/-- A flushed ring has taken all that was posted, and ends it behind what had ended before, in posting order (06 R277). -/
theorem State.flushRing_ring : ((s.flushRing n).ring n).cons = (s.ring n).prod ∧
    ((s.flushRing n).ring n).done.map (fun x => (x.idx, x.status)) = (s.ring n).done.map (fun x => (x.idx, x.status)) ++
      (List.range (s.ring n).untaken).map (fun i => ((s.ring n).cons + BitVec.ofNat 16 i, stFlushed)) := by
  simp only [State.flushRing, State.ring_setRing_self, List.map_append, List.map_map, true_and]
  rfl

theorem exec_ringDrainEnd_drained (hq : s.quiet) (hon : s.on = true) (hdrain : s.ringState n = ringDraining) (hh : (s.acct n.val).h = 0)
    (hf : (s.acct n.val).f = 0) (hp : s.ledger.parity = []) :
    exec (.ringDrainEnd n) s = .next (((s.setAcct n.val Account.zero).setRing n Ring.off).setFld (F.QUE_RSTAT_STATE n.val) ringOff) := by
  rw [exec_ringDrainEnd, execRingDrainEnd, if_pos hon, State.ringDrained, if_pos ⟨hdrain, hh, hf⟩,
    State.posted_ring (a := Account.zero) hp rfl (by decide) rfl rfl]
  exact ok_of _ hq

theorem exec_queOvpClr_on (hq : s.quiet) (hrun : s.steadyRuns = true) : exec .queOvpClr s = .next (s.clrFld F.QUE_OVP_COUNT) := by
  rw [exec_queOvpClr, execQueOvpClr, if_pos hrun]
  exact ok_of _ hq

end
end Sys2Proof.Machine
end


section
open Sys2Proof Sys2Proof.Machine

/-- Settles O35: opening by `State.OpensRing`, disabling and closing by what they come to. -/
theorem ringsOpenAndDrain : Obligations.RingsOpenAndDrain := by
  refine ⟨fun s n v hq hrun hoff hp => ⟨fun herr => ?granted, fun herr => ?refused⟩,
    fun s n hq => ⟨fun hrun hon => ?disabled, exec_ringDisable_not_on hq, fun hon hdrain hh hf hp => ?closed, fun hrun => ?cleared⟩⟩
  case granted =>
    have hhdr : ((s.rcfgFields n (v ||| 1)).setFld (F.QUE_RSTAT_ERR n.val) 0).ringHdr n = s.ringHdr n :=
      State.setFld_err_ringHdr.trans State.rcfgFields_ringHdr
    obtain ⟨hstate, hcode, hacct, hring, hothers, hmem, hthreads, hreset⟩ :=
      State.ringOpen_opens (s := (s.rcfgFields n (v ||| 1)).setFld (F.QUE_RSTAT_ERR n.val) 0) (n := n) hp
    rw [State.hdrCredit, State.hdrRing_congr hhdr rfl] at hacct
    rw [State.hdrRing_congr hhdr rfl] at hring
    rw [hhdr] at hmem
    refine ⟨_, (exec_ringEnable_off hrun hoff).trans ?_, hstate, hcode.trans ?_, hacct, ?_⟩
    · rw [State.ringEnable_granted herr]
      exact ok_of _ (hreset.trans hq)
    · exact State.fld_setFld_self _ _ _ (by simp [Fld.fits, F.QUE_RSTAT_ERR])
    · rw [hring, hmem]
      refine ⟨rfl, rfl, rfl, rfl, rfl, rfl, rfl, ?_, fun a ha => Memory.openHdr_byte_out ha, hothers, hthreads⟩
      rw [Memory.openHdr_credit, State.hdrRing_congr hhdr rfl]
      rfl
  case refused =>
    rw [exec_ringEnable_off hrun hoff, State.ringEnable_refused herr]
    exact ok_of _ hq
  case disabled =>
    obtain ⟨hcons, hdone⟩ := (s.setFld (F.QUE_RSTAT_STATE n.val) ringDraining).flushRing_ring (n := n)
    refine ⟨_, exec_ringDisable_on hq hrun hon, ?_, hcons, hdone, fun a ha => ?_, State.flushed_core⟩
    · exact (State.fld_of_reg State.flushed_reg).trans (State.ringState_setFld (by decide))
    · exact State.flushed_reg.trans (State.sameRegs_setFld (fun _ _ => rfl) a ha)
  case closed =>
    refine ⟨_, exec_ringDrainEnd_drained hq hon hdrain hh hf hp, State.ringState_setFld (by decide), ?_, fun m hm => ?_,
      State.sameRegs_setFld (fun _ _ => rfl), rfl, rfl⟩
    · rw [State.acct_setFld, State.acct_setRing, State.acct_setAcct_self, Account.zero]
    · rw [State.acct_setFld, State.acct_setRing, State.acct_setAcct_ne hm]
  case cleared =>
    refine ⟨_, exec_queOvpClr_on hq hrun, ?_, State.sameRegs_setFld (fun _ _ => rfl), rfl, rfl, rfl⟩
    exact State.fld_setFld_self _ _ _ (by simp [Fld.fits, F.QUE_OVP_COUNT])

end

namespace Sys2Proof.Machine

/-! ## A descriptor taken, and finished or refused: what else changes -/

section
variable {s : State} {u ch st : Nat} {d : Desc} {r : Word}

@[simp] theorem State.taken_flash : (s.taken u ch d).flash = s.flash := by
  obtain ⟨_, _, _, _, h⟩ := s.taken_frame u ch d
  rw [h]

@[simp] theorem State.taken_live : (s.taken u ch d).live = s.live := by
  obtain ⟨_, _, _, _, h⟩ := s.taken_frame u ch d
  rw [h]

@[simp] theorem State.taken_threads : (s.taken u ch d).threads = s.threads := by
  obtain ⟨_, _, _, _, h⟩ := s.taken_frame u ch d
  rw [h]

@[simp] theorem State.taken_ledger : (s.taken u ch d).ledger = s.ledger := by
  obtain ⟨_, _, _, _, h⟩ := s.taken_frame u ch d
  rw [h]

@[simp] theorem State.finish_flash : (s.finish d st r).flash = s.flash := by
  obtain ⟨_, _, h⟩ := s.finish_frame d st r
  rw [h]

@[simp] theorem State.finish_live : (s.finish d st r).live = s.live := by
  obtain ⟨_, _, h⟩ := s.finish_frame d st r
  rw [h]

@[simp] theorem State.finish_threads : (s.finish d st r).threads = s.threads := by
  obtain ⟨_, _, h⟩ := s.finish_frame d st r
  rw [h]

@[simp] theorem State.finish_ledger : (s.finish d st r).ledger = s.ledger := by
  obtain ⟨_, _, h⟩ := s.finish_frame d st r
  rw [h]

@[simp] theorem State.refuse_flash : (s.refuse d st).flash = s.flash := State.finish_flash
@[simp] theorem State.refuse_live : (s.refuse d st).live = s.live := State.finish_live
@[simp] theorem State.refuse_threads : (s.refuse d st).threads = s.threads := State.finish_threads
@[simp] theorem State.refuse_ledger : (s.refuse d st).ledger = s.ledger := State.finish_ledger

/-- What leaves the taken descriptor's ring where it was has still taken it. -/
theorem TakenFrom.of_cons {v : State} (h : (v.ring d.ring).cons = ((s.taken u ch d).ring d.ring).cons) : TakenFrom s v d :=
  h.trans (s.taken_from u ch d)

theorem State.taken_finish : TakenFrom s ((s.taken u ch d).finish d st r) d := .of_cons (State.finish_cons _ d st r)

theorem State.taken_refuse : TakenFrom s ((s.taken u ch d).refuse d st) d := .of_cons (State.finish_cons _ d st _)

end

/-! ## Registers of a list -/

section
variable {s v : State} {l : List Nat} {f : Fld} {n : Nat}

theorem SameRegs.refl : SameRegs l s s := fun _ _ => rfl

/-- A field of a listed register may be written. -/
theorem SameRegs.setFld (h : SameRegs l s v) (hf : f.addr ∈ l) : SameRegs l s (v.setFld f n) := fun a ha =>
  (v.reg_setFld_ne f n a fun e => ha (e ▸ hf)).trans (h a ha)

/-- A one-bit field written from a condition reads as that condition. -/
theorem State.flag_setFld_bool {b : Bool} (hf : Fld.fits f) (hw : f.w = 1) : (s.setFld f (if b then 1 else 0)).flag f = b := by
  rw [State.flag, s.fld_setFld_self f _ hf, hw]
  cases b <;> rfl

end

/-! ## Busy banks -/

section
variable {s : State} {bank : Nat}

/-- BUSYA and BUSYB show the work in hand (07 R304). -/
theorem State.bankBusy_busyFix (hb : bank < 2) : s.busyFix.bankBusy bank = s.bankWorks bank := by
  obtain rfl | rfl : bank = 0 ∨ bank = 1 := by omega
  · rw [State.bankBusy, if_pos rfl, State.busyFix, State.flag_setFld_other _ _ _ _ (Or.inr (by decide))]
    exact State.flag_setFld_bool (by simp [Fld.fits, F.FLC_STAT_BUSYA]) rfl
  · rw [State.bankBusy, if_neg (by decide), State.busyFix]
    exact State.flag_setFld_bool (by simp [Fld.fits, F.FLC_STAT_BUSYB]) rfl

end

/-! ## An operation begins -/

section
variable {s : State} {d : Desc} {o : FlashOp}

/-- The operation in hand makes its bank busy, unless it is suspended (07 R304). -/
theorem State.bankWorks_op (ho : s.flash.op = some o) (hs : s.flag F.FLC_STAT_SUSP = false) : s.bankWorks o.bank = true := by
  simp [State.bankWorks, ho, hs]

/-- A write of another field of FLC_STAT leaves a bank as busy as it was. -/
theorem State.bankBusy_setFld {f : Fld} {n bank : Nat} (hf : 2 ≤ f.lo) : (s.setFld f n).bankBusy bank = s.bankBusy bank := by
  simp only [State.bankBusy, s.flag_setFld_other f _ n (Or.inr (show F.FLC_STAT_BUSYA.lo + F.FLC_STAT_BUSYA.w ≤ f.lo from Nat.le_of_succ_le hf)),
    s.flag_setFld_other f _ n (Or.inr (show F.FLC_STAT_BUSYB.lo + F.FLC_STAT_BUSYB.w ≤ f.lo from hf))]

theorem State.flashBegin_bankBusy (hs : s.flag F.FLC_STAT_SUSP = false) (hb : o.bank < 2) : (s.flashBegin o).bankBusy o.bank = true :=
  (State.bankBusy_setFld (by decide)).trans ((State.bankBusy_busyFix hb).trans (State.bankWorks_op rfl hs))

theorem State.flashBegin_suspn : (s.flashBegin o).fld F.FLC_STAT_SUSPN = 0 :=
  State.fld_setFld_self _ _ _ (by simp [Fld.fits, F.FLC_STAT_SUSPN])

/-- A descriptor that passes its checks names flash (07 R302). -/
theorem State.inFlash_of_flashCheck (h : s.flashCheck d = none) : inFlash (d.opd 4) = true := by
  cases hin : inFlash (d.opd 4) with
  | true => rfl
  | false =>
    simp only [State.flashCheck, hin, Bool.not_false, Bool.true_or, if_true] at h
    split_ifs at h

theorem bankOf_lt_of_inFlash {a : Nat} (h : inFlash a = true) : bankOf a < 2 := by
  simp only [inFlash, Bool.and_eq_true, decide_eq_true_eq] at h
  unfold bankOf
  omega

theorem sectorOf_bank (a : Nat) : sectorOf a / 256 = bankOf a := by
  rw [sectorOf, bankOf, Nat.div_div_eq_div_mul]

theorem unitOf_bank (a : Nat) : unitOf a / 131072 = bankOf a := by
  rw [unitOf, bankOf, Nat.div_div_eq_div_mul]

/-- The operation that a PROGRAM, an ERASE or a VERIFY starts (07 Table 7.1). -/
theorem Desc.flashOp_eq (hop : d.op = 1 ∨ d.op = 2 ∨ d.op = 3) : d.flashOp = if d.op = 2 then ⟨d, .erase, sectorOf (d.opd 4), d.opd 5, 0, false, false⟩
    else ⟨d, if d.op = 3 then .verify else .program, unitOf (d.opd 4), d.len / 16, 0, false, false⟩ := by
  obtain h | h | h := hop <;> simp [Desc.flashOp, h]

/-- It works on the bank of the address that its descriptor names. -/
theorem Desc.flashOp_bank : d.flashOp.bank = bankOf (d.opd 4) := by
  unfold Desc.flashOp
  split
  · exact sectorOf_bank _
  · exact unitOf_bank _
  · exact unitOf_bank _

/-- A command takes a descriptor of its own operation code at an operation boundary (07 R295). -/
theorem exec_flash_takes {u : State} (hq : s.quiet) (hidle : s.flashIdle = true) (ho : s.offers 1 0 d) (hstart : s.flashCanStart d = true)
    (hop : d.op = 1 ∨ d.op = 2 ∨ d.op = 3) (hrun : (s.taken 1 0 d).flashRun d = u) (hledger : u.ledger = s.ledger) :
    exec (if d.op = 1 then .program else if d.op = 2 then .erase else .verify) s = .next u := by
  have htake : s.flashTake d.op = u := by
    rw [State.flashTake, hidle, ← hrun]
    exact s.takeWith_offers 1 0 d _ _ ho (by simp [hstart])
  have hok : ok (s.flashTake d.op) = .next u := by
    rw [htake]
    exact ok_of u (by rw [hledger]; exact hq)
  obtain h | h | h := hop <;> rw [h] at hok ⊢ <;> exact hok

end
end Sys2Proof.Machine

section
open Sys2Proof Sys2Proof.Machine

/-- Settles O37: the descriptor is taken, and the checks on it tell the three outcomes apart. -/
theorem flashOperationsStart : Obligations.FlashOperationsStart := by
  intro s d hq hidle hsusp ho hstart t cmd fa hop
  have hgives {u : State} := exec_flash_takes (u := u) hq hidle ho hstart hop
  refine ⟨fun st r hcheck => ?result, fun st hcheck => ?status, fun hcheck => ?starts⟩
  case result =>
    have hrun : t.flashRun d = t.finish d st (BitVec.ofNat 32 r) := by
      rw [State.flashRun, hcheck]
      rfl
    exact ⟨_, hgives hrun (by simp [t]), State.taken_finish, State.finish_finished _ _ _ _, by simp [t], by simp [t], by simp [t]⟩
  case status =>
    have hrun : t.flashRun d = t.refuse d st := by
      rw [State.flashRun, hcheck]
      rfl
    exact ⟨_, hgives hrun (by simp [t]), State.taken_refuse, State.refuse_ended _ _ _, by simp [t], by simp [t], by simp [t]⟩
  case starts =>
    have hrun : t.flashRun d = t.flashBegin d.flashOp := by rw [State.flashRun, hcheck]
    have hbank : d.flashOp.bank < 2 := Desc.flashOp_bank ▸ bankOf_lt_of_inFlash (State.inFlash_of_flashCheck hcheck)
    have hbusy : (t.flashBegin d.flashOp).bankBusy d.flashOp.bank = true :=
      State.flashBegin_bankBusy ((State.flag_of_reg (by simp [t, State.reg])).trans hsusp) hbank
    refine ⟨_, hgives hrun State.taken_ledger, .of_cons rfl, ?_, Desc.flashOp_bank ▸ hbusy, State.flashBegin_suspn, rfl, State.taken_threads⟩
    rw [← Desc.flashOp_eq hop]
    exact congrArg (fun f : Flash => { f with op := some d.flashOp }) State.taken_flash

end

namespace Sys2Proof.Machine

/-! ## Scrub -/

section
variable {s : State} {d : Desc}

/-- Scrub goes on from unit `pos` of so many (07 R322): after the last one POS is 0 again, and PASSES counts the pass. -/
def State.scrubNext (s : State) (units pos : Nat) : State :=
  if pos + 1 ≥ units then (s.setFld F.FLC_SSTAT_POS 0).setFld F.FLC_SPASS_PASSES (s.fld F.FLC_SPASS_PASSES + 1)
  else s.setFld F.FLC_SSTAT_POS (pos + 1)

/-- A unit that reads without error only moves the scrub on (07 R322, R323). -/
theorem State.scrubUnit_good (hecc : s.ecc (unitAddr (s.fld F.FLC_SSTAT_POS)) = .good) (hcut : nsMem s.flash.cut (s.fld F.FLC_SSTAT_POS) = false) :
    s.scrubUnit = (s.clrFld F.FLC_SSTAT_DEFER).scrubNext s.flashUnits (s.fld F.FLC_SSTAT_POS) := by
  simp only [State.scrubUnit, hecc, hcut, Bool.false_eq_true, if_false, State.scrubNext]

theorem State.flashUnits_le : s.flashUnits ≤ 262144 := by
  unfold State.flashUnits
  split <;> decide

theorem State.scrubNext_inside {units pos : Nat} (h : pos + 1 < units) : s.scrubNext units pos = s.setFld F.FLC_SSTAT_POS (pos + 1) :=
  if_neg (Nat.not_le.mpr h)

theorem State.scrubNext_wraps {units pos : Nat} (h : units ≤ pos + 1) :
    s.scrubNext units pos = (s.setFld F.FLC_SSTAT_POS 0).setFld F.FLC_SPASS_PASSES (s.fld F.FLC_SPASS_PASSES + 1) := if_pos h

theorem State.scrubNext_regs {units pos : Nat} : SameRegs [F.FLC_SSTAT_POS.addr, F.FLC_SPASS_PASSES.addr] s (s.scrubNext units pos) := by
  unfold State.scrubNext
  split
  · exact (SameRegs.refl.setFld (by simp)).setFld (by simp)
  · exact SameRegs.refl.setFld (by simp)

/-- It leaves DEFER. -/
theorem State.scrubNext_defer {units pos : Nat} : (s.scrubNext units pos).fld F.FLC_SSTAT_DEFER = s.fld F.FLC_SSTAT_DEFER := by
  unfold State.scrubNext
  split
  · rw [State.fld_setFld_reg _ _ _ _ (by decide), State.fld_setFld_other _ _ _ _ (Or.inl (by decide))]
  · rw [State.fld_setFld_other _ _ _ _ (Or.inl (by decide))]

theorem State.scrubNext_core {units pos : Nat} : (s.scrubNext units pos).flash = s.flash ∧ SameCore s (s.scrubNext units pos) := by
  unfold State.scrubNext
  split <;> exact ⟨rfl, rfl, rfl, rfl⟩

/-- SCRUB_READ as it works on a bank that is not skipped, flash being readable (07 R322, R328). -/
theorem execScrubRead_eq {foreground : Bool} (hrun : s.steadyRuns = true) (hen : s.flag F.FLC_SCRUB_EN = true) (hrdy : s.flag F.PWR_STAT_FLRDY = true)
    (hbank : s.scrubSkips s.scrubBank = false) (hforced : s.flag F.FLC_STAT_FORCED = false) :
    exec (.scrubRead foreground) s =
      if !foreground then ok s.scrubUnit
      else if s.fld F.FLC_SSTAT_DEFER + 1 ≥ 64 then
        ok (({ s with flash := { s.flash with hold := 16 } }).clrFld F.FLC_SSTAT_DEFER |>.setBit F.FLC_STAT_FORCED)
      else ok (s.setFld F.FLC_SSTAT_DEFER (s.fld F.FLC_SSTAT_DEFER + 1)) := by
  have hseek : s.scrubSeek = some s := by simp [State.scrubSeek, hbank]
  rw [exec_scrubRead, execScrubRead, hrun, hen, hrdy, hforced, hseek]
  rfl

/-- A descriptor handed to a channel is the one that the channel holds. -/
theorem State.handedTo_hand {u ch : Nat} : (s.hand u ch d).handedTo u ch = some d := by
  have hnone : (s.handed.filter (fun p => p.1 != chanKey u ch)).find? (fun p => p.1 == chanKey u ch) = none := by
    rw [List.find?_eq_none]
    intro p hp
    simpa using (List.mem_filter.mp hp).2
  simp [State.handedTo, State.hand, List.find?_append, hnone]

end
end Sys2Proof.Machine

section
open Sys2Proof Sys2Proof.Machine

/-- Settles O40: SCRUB_READ by `execScrubRead_eq`, whose branches are its three outcomes; the other commands write one or two fields each. -/
theorem scrubMovesOn : Obligations.ScrubMovesOn := by
  intro s d hq hrun hen hrdy hbank pos
  refine ⟨fun hforced hecc hcut => ?reads, fun hforced hdefer => ?gives_way, fun hforced hdefer => ?holds, fun hforced => ?hold_ends, ?clears,
    fun hnone ho hop hflags hparam htop hbuf hlen h4 h5 h6 h7 => ?handed⟩
  case reads =>
    obtain ⟨hflash, hcore⟩ := (s.clrFld F.FLC_SSTAT_DEFER).scrubNext_core (units := s.flashUnits) (pos := pos)
    refine ⟨_, ?_, ?_, fun hin => ?_, fun hlast => ?_, fun a ha => ?_, hflash, hcore⟩
    · rw [execScrubRead_eq hrun hen hrdy hbank hforced, State.scrubUnit_good hecc hcut]
      exact ok_of _ ((congrArg Ledger.resetDue hcore.2.2).trans hq)
    · rw [State.scrubNext_defer]
      exact State.fld_setFld_self _ _ _ (by simp [Fld.fits, F.FLC_SSTAT_DEFER])
    · have hpos : pos + 1 < 2 ^ F.FLC_SSTAT_POS.w := hin.trans_le State.flashUnits_le
      rw [State.scrubNext_inside hin]
      refine ⟨?_, ?_⟩
      · rw [State.fld_setFld_self _ _ _ (by simp [Fld.fits, F.FLC_SSTAT_POS]), Nat.mod_eq_of_lt hpos]
      · rw [State.fld_setFld_reg _ _ _ _ (by decide), State.clrFld, State.fld_setFld_reg _ _ _ _ (by decide)]
    · rw [State.scrubNext_wraps hlast]
      refine ⟨?_, ?_⟩
      · rw [State.fld_setFld_reg _ _ _ _ (by decide)]
        exact State.fld_setFld_self _ _ _ (by simp [Fld.fits, F.FLC_SSTAT_POS])
      · rw [State.fld_setFld_self _ _ _ (by simp [Fld.fits, F.FLC_SPASS_PASSES]), State.clrFld, State.fld_setFld_reg _ _ _ _ (by decide)]
    · exact (State.scrubNext_regs a ha).trans (SameRegs.refl.setFld (by simp [F.FLC_SSTAT_DEFER, F.FLC_SSTAT_POS]) a ha)
  case gives_way =>
    rw [execScrubRead_eq hrun hen hrdy hbank hforced, if_neg (by decide), if_neg (by omega)]
    exact ok_of _ hq
  case holds =>
    refine ⟨(({ s with flash := { s.flash with hold := 16 } }).clrFld F.FLC_SSTAT_DEFER).setBit F.FLC_STAT_FORCED, ?_, ?_, rfl, ?_, rfl, rfl, rfl⟩
    · rw [execScrubRead_eq hrun hen hrdy hbank hforced, if_neg (by decide), if_pos (by omega)]
      exact ok_of _ hq
    · exact State.flag_setBit_self _ _ (by simp [Fld.fits, F.FLC_STAT_FORCED]) (by decide)
    · rw [State.setBit, State.fld_setFld_reg _ _ _ _ (by decide)]
      exact State.fld_setFld_self _ _ _ (by simp [Fld.fits, F.FLC_SSTAT_DEFER])
  case hold_ends =>
    refine ⟨({ s with flash := { s.flash with hold := 0 } }).clrFld F.FLC_STAT_FORCED, ?_, ?_, rfl, ?_, rfl, rfl, rfl⟩
    · rw [exec_scrubForcedHoldEnd, execScrubForcedHoldEnd, if_pos hforced]
      exact ok_of _ hq
    · exact State.flag_clrFld_self _ _ (by simp [Fld.fits, F.FLC_STAT_FORCED])
    · exact SameRegs.setFld (fun _ _ => rfl) List.mem_cons_self
  case clears =>
    refine ⟨s.flcEccClr, ?_, ?_, ?_, (SameRegs.refl.setFld (by simp)).setFld (by simp), rfl, rfl, rfl⟩
    · rw [exec_flcEccClr, execFlcEccClr, if_pos hrun]
      exact ok_of _ hq
    · rw [State.flcEccClr, State.clrFld, State.fld_setFld_reg _ _ _ _ (by decide)]
      exact State.fld_setFld_self _ _ _ (by simp [Fld.fits, F.FLC_ECC_CORR])
    · exact State.fld_setFld_self _ _ _ (by simp [Fld.fits, F.FLC_EADDR_ADDR])
  case handed =>
    refine ⟨(s.taken 1 1 d).hand 1 1 d, ?_, .of_cons rfl, State.handedTo_hand, State.taken_live⟩
    rw [exec_scrubReportDesc, execScrubReportDesc, hnone, State.takeWith_offers _ _ _ _ _ _ ho ?_]
    · simp only [hop, hflags, hparam, htop, hbuf, hlen, h4, h5, h6, h7]
      exact ok_of _ ((congrArg Ledger.resetDue State.taken_ledger).trans hq)
    · rfl

end

namespace Sys2Proof.Machine

/-! ## Operations end -/

section
variable {s : State} {o : FlashOp} {st fa buf k : Nat} {r : Option Nat}

theorem State.resvBegin_op : s.resvBegin.flash.op = s.flash.op := by
  unfold State.resvBegin
  split <;> rfl

@[simp] theorem State.finishOpt_flash {d : Desc} : (s.finishOpt d st r).flash = s.flash := by
  cases r
  · exact State.refuse_flash
  · exact State.finish_flash

/-- An operation that is over is in hand no longer (07 R304). -/
theorem State.flashOver_op : (s.flashOver o st r).flash.op = none := by
  rw [State.flashOver, State.resvBegin_op, State.finishOpt_flash]

/-- A unit of which a word reads other than its reference differs (07 R300). -/
theorem State.verifyUnit_differs (hecc : s.ecc fa ≠ .failed) (hk : k < 4) (hne : s.readTWord (fa + 4 * k) ≠ s.mem.tword (buf + 4 * k)) :
    s.verifyUnit fa buf = some fsMismatch := by
  rw [State.verifyUnit, if_neg hecc, if_neg]
  exact fun hall => hne (by simpa using List.all_eq_true.mp hall k (List.mem_range.mpr hk))

/-- A VERIFY is over with a unit that differs (07 R300). -/
theorem State.flashCycle_differs (ho : s.flashActive = some o) (hkind : o.kind = .verify) (hrun : s.steadyRuns = true) (hp : o.pausing = false)
    (hsrc : ∀ j, j < 4 → s.mem.parityBad (o.desc.buf + 16 * o.done + 4 * j) = false)
    (hdiff : s.verifyUnit (o.desc.opd 4 + 16 * o.done) (o.desc.buf + 16 * o.done) = some fsMismatch) : s.flashCycle.flash.op = none := by
  have hgood : (List.range 4).any (fun j => s.mem.parityBad (o.desc.buf + 16 * o.done + 4 * j)) = false := by simpa using hsrc
  simp only [State.flashCycle, ho, hkind, hrun, hp, State.verifyUnitDone, hgood, hdiff]
  exact State.flashOver_op

end

/-! ## A VERIFY of words that lie across a unit's end -/

/-- A tag other than the one that the first word of unit 1 reads with where that is indeterminate (07 R329). -/
def unreadTag : Tag := if tagOf (Config.cutTag 0 0x08000010) = .raw then .void else .raw

theorem unreadTag_ne : tagOf (Config.cutTag 0 0x08000010) ≠ unreadTag := by
  unfold unreadTag
  split
  · next h => simp [h]
  · next h => exact h

/-- A VERIFY over two units' length, from the middle of unit 0 on, of words against themselves. -/
def verifyAcrossOp : FlashOp :=
  let w := (((Vector.replicate 8 (⟨0, .int⟩ : TWord)).set 2 ⟨0x08000008, .addr⟩).set 3 ⟨32, .int⟩).set 4 ⟨0x08000008, .addr⟩
  ⟨⟨0, 0, w⟩, .verify, 0, 2, 0, false, false⟩

/-- The part with that VERIFY in hand, and unit 1 indeterminate. -/
def verifyAcross : State :=
  { State.reset with
    mem := State.reset.mem.setTag 0x08000010 unreadTag
    flash := { Flash.reset with cut := [(1, ())], op := some verifyAcrossOp } }

theorem verifyAcross_active : verifyAcross.flashActive = some verifyAcrossOp := rfl

theorem verifyAcross_runs : verifyAcross.steadyRuns = true := by decide +kernel

theorem verifyAcross_unit : verifyAcross.ecc 0x08000008 = .good ∧ nsMem verifyAcross.flash.cut (unitOf 0x08000008) = false := by decide +kernel

/-- The third word lies in unit 1, and reads other than it is. -/
theorem verifyAcross_differs : verifyAcross.verifyUnit 0x08000008 0x08000008 = some fsMismatch := by
  refine State.verifyUnit_differs (k := 2) (by rw [verifyAcross_unit.1]; decide) (by decide) fun heq => unreadTag_ne ?_
  have hread : (verifyAcross.readTWord 0x08000010).tag = tagOf (Config.cutTag 0 0x08000010) := rfl
  have htag : (verifyAcross.mem.tword 0x08000010).tag = unreadTag := (Memory.tag_setTag _ _ _ _).trans (if_pos rfl)
  exact hread.symm.trans ((congrArg TWord.tag heq).trans htag)

end Sys2Proof.Machine

section
open Sys2Proof Sys2Proof.Machine

/-- Refutes O38: for a unit of a VERIFY that equals the reference the statement does not ask that the address be a unit's first, as it does for one that
differs (and as R302 sees to). Where it is not, the last words lie in the next unit, and one of those that is indeterminate reads as any data (07 R329):
the VERIFY ends MISMATCH, where the statement has it go on. -/
theorem not_flashProgress : ¬ Obligations.FlashProgress := by
  unfold Obligations.FlashProgress
  rintro ⟨hprogress, -⟩
  obtain ⟨-, -, -, hverify⟩ := hprogress verifyAcross verifyAcrossOp rfl verifyAcross_active
  obtain ⟨hequal, -⟩ := hverify rfl verifyAcross_runs rfl
  obtain ⟨hecc, hcut⟩ := verifyAcross_unit
  obtain ⟨hsame, -⟩ := hequal (fun _ _ => rfl) hecc hcut
  obtain ⟨-, -, hgoes, -⟩ := hsame fun _ _ => rfl
  have hnone : verifyAcross.flashCycle.flash.op = none :=
    State.flashCycle_differs verifyAcross_active rfl verifyAcross_runs rfl (fun _ _ => rfl) verifyAcross_differs
  have hsome := hgoes (by decide)
  rw [hnone] at hsome
  exact absurd hsome (by simp)

end

namespace Sys2Proof.Machine

/-! ## A record that takes the last sector that counts as erased -/

/-- A request of slot 3 for a block of a key that it does not hold. -/
def strangeRequest : Resv := ⟨3, 1, 7, false⟩

/-- A scanned nonce area of the sectors 100 and 101, both with a header, of GEN 4 and 5, and a record to be programmed. The header of 101, the head, stands
in flash while its unit does not count as programmed, so that the sector counts as erased. -/
def headUnmarked : State :=
  let s := (((State.reset.setBit F.PWR_STAT_FLRDY).setFld F.FLC_NONCE_START 100).setFld F.FLC_NONCE_COUNT 2).setBit F.CIP_STAT_SCANNED
  let s1 := (s.openSector 100 4).pokes (unitAddr (101 * 512)) [⟨0xA8, .int⟩, ⟨5, .int⟩, ⟨~~~5#32, .int⟩, ⟨0, .int⟩]
  { s1 with flash := { s1.flash with resv := [strangeRequest] } }

theorem headUnmarked_ready : headUnmarked.resvReady = true ∧ headUnmarked.has .cipher = true ∧ headUnmarked.wants strangeRequest = false := by
  decide +kernel

/-- The record goes to the head's first free unit. -/
theorem headUnmarked_head : headUnmarked.headSector = some (101, 5) ∧ headUnmarked.appendUnit 101 = some (101 * 512 + 1) := by decide +kernel

theorem headUnmarked_erased : headUnmarked.nonceSectors.any headUnmarked.sectorErased = true := by decide +kernel

theorem headUnmarked_accts : (headUnmarked.acct 0x48).fits = true ∧ (headUnmarked.acct 0x48).sound (headUnmarked.win 0x48) = true ∧
    headUnmarked.acct 0x63 = Account.zero := by decide +kernel

/-- A byte of memory after a command. -/
def byteAfter (a : Nat) : Res → Option Byte
  | .next u => some (u.mem.byte a)
  | _ => none

theorem headUnmarked_byte : headUnmarked.mem.byte (unitAddr (100 * 512)) = 0xA8 := by decide +kernel

/-- With the record no sector counts as erased, and the oldest, of which no record is the latest, is erased at once, its header with it (12 R544). -/
theorem byteAfter_reservationProgram :
    byteAfter (unitAddr (100 * 512)) (exec (.reservationProgram true) headUnmarked) = some 0xFF := by decide +kernel

end Sys2Proof.Machine

section
open Sys2Proof Sys2Proof.Machine

/-- Refutes O39: the statement asks for a sector of a scanned area that counts as erased before the record, and the one may be the head itself, where its
header's unit does not count as programmed. The record is then the first in it, and the erase that the scan had to leave is made (12 R544): the bytes of
the oldest sector change, where the statement has every byte outside the record's unit as before. -/
theorem not_reservationIsProgrammed : ¬ Obligations.ReservationIsProgrammed := by
  unfold Obligations.ReservationIsProgrammed
  intro h
  obtain ⟨hready, hcipher, hstrange⟩ := headUnmarked_ready
  obtain ⟨hhead, hunit⟩ := headUnmarked_head
  obtain ⟨hfits, hsound, hzero⟩ := headUnmarked_accts
  obtain ⟨-, -, hother, -⟩ := h headUnmarked strangeRequest [] 101 5 (101 * 512 + 1) rfl rfl hready (Or.inl rfl) hhead hunit hcipher rfl rfl
    (Or.inr headUnmarked_erased) hfits hsound (hzero ▸ by decide) (hzero ▸ rfl) (Or.inl (hzero ▸ rfl))
  obtain ⟨u, hu, ⟨-, -, hbytes, -⟩, -⟩ := hother hstrange
  have hkept : u.mem.byte (unitAddr (100 * 512)) = 0xA8 := (hbytes _ (Or.inl (by decide))).trans headUnmarked_byte
  have hsome : some (u.mem.byte (unitAddr (100 * 512))) = some 0xFF := by
    rw [← byteAfter_reservationProgram, hu]
    rfl
  rw [hkept] at hsome
  exact absurd hsome (by decide)

end

namespace Sys2Proof.Machine

/-! ## Checks in their order -/

/-- The status of the first check of a list that applies. -/
def firstApplies (l : List (Bool × Nat)) : Option Nat := (l.find? (fun c => c.1)).map (fun c => c.2)

theorem firstApplies_cons (c : Bool) (st : Nat) (l : List (Bool × Nat)) :
    firstApplies ((c, st) :: l) = if c then some st else firstApplies l := by
  cases c <;> rfl

/-- Checks that come after others count where none of those applies. -/
theorem firstApplies_append (l m : List (Bool × Nat)) : firstApplies (l ++ m) = (firstApplies l).or (firstApplies m) := by
  rw [firstApplies, List.find?_append, Option.map_or, firstApplies, firstApplies]

/-- A check that answers a status of its own, as the entry of a list: whether it answers one, and which. -/
theorem ite_isSome_getD (o : Option Nat) : (if o.isSome then some (o.getD 0) else none) = o := by
  cases o <;> rfl

/-- What a radio operation's buffer meets is asked of a TX, which reads it, and of an RX, which writes it (10 R444). -/
theorem State.radioBuffer_addrErr (s : State) (d : Desc) :
    ((if d.op = 1 then s.engRead d.buf d.len else if d.op = 2 then s.engWrite d.buf d.len else Eng.ok).badStatus == some stAddrErr) =
      (d.op == 1 && (s.engRead d.buf d.len).badStatus == some stAddrErr || d.op == 2 && (s.engWrite d.buf d.len).badStatus == some stAddrErr) := by
  by_cases h1 : d.op = 1
  · simp [h1]
  · by_cases h2 : d.op = 2
    · simp [h2]
    · simp [h1, h2, Eng.badStatus]

end Sys2Proof.Machine

section
open Sys2Proof Sys2Proof.Machine

/-- Settles O45: each unit's checks are a chain of conditions, and `firstApplies_cons` makes the list of the same conditions that chain. -/
theorem descriptorChecksInOrder : Obligations.DescriptorChecksInOrder := by
  intro s d n b ch first addrErr fa src modes buffer slot acc g x h base size cbase
  have hnil : first [] = none := rfl
  have hcons (c : Bool) (st : Nat) (l : List (Bool × Nat)) : first ((c, st) :: l) = if c then some st else first l := firstApplies_cons c st l
  have happend (l m : List (Bool × Nat)) : first (l ++ m) = (first l).or (first m) := firstApplies_append l m
  clear_value first
  refine ⟨?flash, ?radio, ?send, ?cipher, ?snap, fun hop => ?start, fun hop => ?stop, fun hch => ?gnssBuf, ?xfer, ?cspRecv, ?tag, ?tagRecv, ?move,
    ?enable⟩
  case flash =>
    simp only [State.flashCheck, hcons, hnil, apply_ite (Option.map _), Option.map_some, Option.map_none, modes, List.any_map, Function.comp_def]
    iterate 9 refine congrArg (ite _ _) ?_
    -- The data of a PROGRAM are looked at last: its source, then the tags in it, then its target.
    cases d.op == 1 with
    | false => rfl
    | true =>
      simp only [src, fa]
      cases (s.engRead d.buf d.len).badStatus with
      | some st => rfl
      | none =>
        cases s.firstKey d.buf d.len with
        | some o => rfl
        | none => cases s.firstUsed (d.opd 4) d.len <;> rfl
  case radio =>
    simp only [State.radioCheck, s.radioBuffer_addrErr d, hcons, hnil, apply_ite (Option.map _), Option.map_some, Option.map_none]
    rfl
  case cipher =>
    refine Eq.trans ?_ (happend [_, _, _, _, _, _, _, _, _, _, _] [_]).symm
    simp only [hcons, hnil, ite_isSome_getD]
    rfl
  case start =>
    simp [State.trackCheck, hop, hcons, hnil, or_assoc, fa, g]
  case stop =>
    simp [State.trackCheck, hop, hcons, hnil, or_assoc, fa, g]
  case gnssBuf =>
    have hch4 : ch ≠ 4 := by omega
    simp only [State.gnssBufCheck, hcons, hnil, hch4, beq_false_of_ne hch4, Bool.false_and, Bool.or_false, if_false]
    rfl
  case enable =>
    simp only [State.enableErr, hcons, hnil, apply_ite (fun o : Option Nat => o.getD 0), Option.getD_some]
    rfl
  case snap =>
    simp only [hcons, hnil, decide_eq_true_eq]
    rfl
  case xfer =>
    simp only [hcons, hnil, ite_isSome_getD]
    rfl
  case send | cspRecv | tag | tagRecv | move =>
    simp only [hcons, hnil]
    rfl

end

namespace Sys2Proof.Machine

/-! ## Operations that keep memory, threads and the ledger

`Keeps l s u` is built up write by write along an operation. -/

section
variable {s u : State} {l : List Nat} {f g : Fld} {n : Nat} {b : Bool}

theorem Keeps.refl : Keeps l s s := ⟨SameRegs.refl, rfl, rfl, rfl⟩

theorem Keeps.setFld (h : Keeps l s u) (hf : f.addr ∈ l) : Keeps l s (u.setFld f n) := ⟨h.1.setFld hf, h.2⟩

theorem Keeps.setBit (h : Keeps l s u) (hf : f.addr ∈ l) : Keeps l s (u.setBit f) := h.setFld hf

theorem Keeps.clrFld (h : Keeps l s u) (hf : f.addr ∈ l) : Keeps l s (u.clrFld f) := h.setFld hf

theorem Keeps.orFld (h : Keeps l s u) (hf : f.addr ∈ l) : Keeps l s (u.orFld f n) := h.setFld hf

theorem Keeps.time (h : Keeps l s u) {x : Time} : Keeps l s { u with time := x } := h

theorem Keeps.cmpw (h : Keeps l s u) {x : Vector (List (Nat × CmpWrite)) 16} : Keeps l s { u with cmpw := x } := h

theorem Keeps.setPre (h : Keeps l s u) {k : Fin 8} {p : Prescaler} : Keeps l s (u.setPre k p) := h

theorem Keeps.power (h : Keeps l s u) {x : Power} : Keeps l s { u with power := x } := h

theorem Keeps.reg (h : Keeps l s u) {a : Nat} (ha : a ∉ l) : u.reg a = s.reg a := h.1 a ha

theorem Keeps.fld (h : Keeps l s u) (hf : f.addr ∉ l) : u.fld f = s.fld f := State.fld_of_reg (h.reg hf)

theorem Keeps.mono {m : List Nat} (h : Keeps l s u) (hl : l ⊆ m) : Keeps m s u := ⟨fun a ha => h.1 a fun hm => ha (hl hm), h.2⟩

/-- A command that keeps the ledger orders no reset, so it answers the state itself. -/
theorem Keeps.gives {i : Instr} {P : State → Prop} (h : Keeps l s u) (hq : s.quiet) (hi : exec i s = ok u) (hP : P u) : Gives i s P := by
  obtain ⟨-, -, -, hledger⟩ := h
  exact ⟨u, hi.trans (ok_of u ((congrArg Ledger.resetDue hledger).trans hq)), hP⟩

/-! ## Flags set on a condition -/

/-- The state with a one-bit field set where a condition holds. -/
def State.raise (s : State) (b : Bool) (f : Fld) : State := if b then s.setBit f else s

theorem State.raise_live : ∃ v, s.raise b f = { s with live := v } := by
  cases b
  · exact ⟨s.live, rfl⟩
  · exact ⟨_, rfl⟩

theorem Keeps.raise (h : Keeps l s u) (hf : f.addr ∈ l) : Keeps l s (u.raise b f) := by
  cases b
  · exact h
  · exact h.setBit hf

theorem State.flag_raise_self (hf : Fld.fits f) (hw : 0 < f.w) : (s.raise b f).flag f = (s.flag f || b) := by
  cases b
  · rw [Bool.or_false]
    rfl
  · rw [Bool.or_true]
    exact s.flag_setBit_self f hf hw

theorem State.fld_raise_other (h : f.addr ≠ g.addr ∨ f.lo + f.w ≤ g.lo ∨ g.lo + g.w ≤ f.lo) : (s.raise b f).fld g = s.fld g := by
  cases b
  · rfl
  · rcases h with h | h
    · exact s.fld_setFld_reg f g 1 h.symm
    · exact s.fld_setFld_other f g 1 h

theorem State.flag_raise_other (h : f.addr ≠ g.addr ∨ f.lo + f.w ≤ g.lo ∨ g.lo + g.w ≤ f.lo) : (s.raise b f).flag g = s.flag g :=
  congrArg (· != 0) (State.fld_raise_other h)

theorem State.reg_raise_ne {a : Nat} (h : a ≠ f.addr) : (s.raise b f).reg a = s.reg a := by
  cases b
  · rfl
  · exact s.reg_setFld_ne f 1 a h

/-- A full field's register is the word of its number. -/
theorem State.reg_of_fld_full {a : Nat} {w : Word} (h : s.fld ⟨a, 0, 32⟩ = w.toNat) : s.reg a = w :=
  BitVec.eq_of_toNat_eq ((fldGet_full (s.reg a) a).symm.trans h)

end
end Sys2Proof.Machine

namespace Sys2Proof.Machine

/-! ## A posting, and the compare channels

A posting that finds a breach writes the ledger's registers and the counts of lost records, which lie below the time base's block, and no write that
waits for a compare channel. -/

/-- The registers from the time base's on are as they were, and so are the writes that wait for the compare channels. -/
def State.SameCompare (s u : State) : Prop := u.cmpw = s.cmpw ∧ ∀ a, F.TMB_LO_LO.addr ≤ a → u.reg a = s.reg a

namespace State.SameCompare

variable {s u : State}

theorem refl (s : State) : s.SameCompare s := ⟨rfl, fun _ _ => rfl⟩

theorem ite {v : State} {c : Prop} [Decidable c] (hu : s.SameCompare u) (hv : s.SameCompare v) : s.SameCompare (if c then u else v) := by
  split
  · exact hu
  · exact hv

theorem setAcct (h : s.SameCompare u) {i a} : s.SameCompare (u.setAcct i a) := h

theorem setWin (h : s.SameCompare u) {i w} : s.SameCompare (u.setWin i w) := h

theorem setFld (h : s.SameCompare u) {f v} (hf : f.addr < F.TMB_LO_LO.addr) : s.SameCompare (u.setFld f v) := by
  obtain ⟨hwrites, hregs⟩ := h
  exact ⟨hwrites, fun a ha => (u.reg_setFld_ne f v a (Nat.ne_of_gt (hf.trans_le ha))).trans (hregs a ha)⟩

theorem seqIssued (h : s.SameCompare u) : s.SameCompare u.seqIssued :=
  ((h.setFld (by decide)).setFld (by decide)).ite (h.setFld (by decide))

theorem arrive (h : s.SameCompare u) : s.SameCompare u.arrive := ite h h

/-- The registers that a record may write lie below the time base's. -/
theorem record_ne {a : Nat} (ha : F.TMB_LO_LO.addr ≤ a) (t : ThreadId) :
    a ≠ F.LDG_SEQ_NEXT.addr ∧ a ≠ F.LDG_EPOCH_WRAPS.addr ∧ a ≠ (F.EVT_TOVF_COUNT t.val).addr := by
  simp only [F.TMB_LO_LO, F.LDG_SEQ_NEXT, F.LDG_EPOCH_WRAPS, F.EVT_TOVF_COUNT] at ha ⊢
  omega

theorem sendRecord (h : s.SameCompare u) {t bit code detail stamp seq} : s.SameCompare (u.sendRecord t bit code detail stamp seq) := by
  obtain ⟨hwrites, hregs⟩ := h
  obtain ⟨_, _, _, _, hu⟩ := u.sendRecord_frame t bit code detail stamp seq
  refine ⟨(by rw [hu]; exact hwrites), fun a ha => ?_⟩
  obtain ⟨h1, h2, h3⟩ := record_ne ha t
  exact (u.sendRecord_reg t bit code detail stamp seq h1 h2 h3).trans (hregs a ha)

theorem deliver (h : s.SameCompare u) {t bits bit code detail stamp seq} : s.SameCompare (u.deliver t bits bit code detail stamp seq) := by
  obtain ⟨hwrites, hregs⟩ := h
  obtain ⟨_, _, _, _, _, _, hu⟩ := u.deliver_frame t bits bit code detail stamp seq
  refine ⟨(by rw [hu]; exact hwrites), fun a ha => ?_⟩
  obtain ⟨h1, h2, h3⟩ := record_ne ha t
  exact (u.deliver_reg t bits bit code detail stamp seq h1 h2 h3).trans (hregs a ha)

theorem system (h : s.SameCompare u) {ts code detail seq} : s.SameCompare (u.system ts code detail seq) :=
  List.foldlRecOn (motive := s.SameCompare) ts _ (h.ite h.arrive) fun _ hv _ _ => hv.sendRecord.ite hv.deliver

theorem orderReset (h : s.SameCompare u) : s.SameCompare u.orderReset := ite h h

theorem breach (h : s.SameCompare u) {cause i} : s.SameCompare (u.breach cause i) := by
  cases hb : u.flag F.LDG_STAT_BREACH with
  | true =>
    rw [u.breach_again cause i hb]
    exact h.setFld (by decide)
  | false =>
    have hnoted : s.SameCompare (u.breachNoted cause i) :=
      (((h.setFld (by decide)).setFld (by decide)).setFld (by decide)).seqIssued.setFld (by decide)
    rw [u.breach_first cause i hb]
    exact hnoted.system.orderReset.ite hnoted.system

theorem check (h : s.SameCompare u) {i} : s.SameCompare (u.check i) := h.breach.ite (h.ite h.breach)

theorem posted (h : s.SameCompare u) {i f} : s.SameCompare (u.posted i f) := by
  unfold State.posted State.post
  split
  · exact h
  · split
    · exact h
    · exact h.setAcct.check

theorem presentSpan (h : s.SameCompare u) {sp d} : s.SameCompare (u.presentSpan sp d) := h.setWin.posted.arrive.ite h.setWin.posted

theorem crossed (h : s.SameCompare u) {sp d} : s.SameCompare (u.crossed sp d) := h.presentSpan.posted.setWin.check.ite h

end State.SameCompare

/-! ## A crossing that a command makes whole -/

namespace State.Onward

variable {b s : State}

theorem setWin (h : b.Onward s) {i w} : b.Onward (s.setWin i w) := h

theorem presentSpan (h : b.Onward s) {sp d} : b.Onward (s.presentSpan sp d) := h.setWin.posted.arrive.ite h.setWin.posted

theorem crossed (h : b.Onward s) {sp d} : b.Onward (s.crossed sp d) := h.presentSpan.posted.setWin.check.ite h

end State.Onward

section
variable {s : State} {sp d : Nat}

/-- A crossing under way: one unit of its account is in flight, its window is open, and the power controller may have noted it. -/
def State.flown (s : State) (i : Nat) (p : Power) : State :=
  { (s.setWin i ((s.win i).request s.now)).setAcct i { s.acct i with r := (s.acct i).r - 1, f := (s.acct i).f + 1 } with power := p }

/-- Its unit has landed and its window is closed. -/
def State.landed (s : State) (i : Nat) : State :=
  ((s.posted i (Account.land 1)).setWin i ((s.posted i (Account.land 1)).win i).acknowledge).check i

theorem State.flown_landed {i : Nat} {p : Power} (here : s.acctAbsent i = false) (hp : s.ledger.parity = []) (hg : (s.acct i).g < 2 ^ 32)
    (hb : (s.acct i).g = (s.acct i).r + (s.acct i).h + (s.acct i).f) (hf : (s.acct i).f = 0) (hr : 1 ≤ (s.acct i).r) :
    ∃ w, (s.flown i p).landed i = ((s.flown i p).setAcct i (s.acct i)).setWin i w := by
  have hacct : (s.flown i p).acct i = { s.acct i with r := (s.acct i).r - 1, f := (s.acct i).f + 1 } := State.acct_setAcct_self _ _ _
  have hwin : (s.flown i p).win i = (s.win i).request s.now := s.win_setWin_open (w := (s.win i).request s.now) rfl
  have hpost : (s.flown i p).Postable i := ⟨here, hp, by rw [hacct]; exact hg, by rw [hacct]; dsimp only; omega, by rw [hwin]; rfl⟩
  have hback : ({ (s.flown i p).acct i with r := ((s.flown i p).acct i).r + 1, f := ((s.flown i p).acct i).f - 1 } : Account) = s.acct i := by
    rw [hacct]
    dsimp only
    rw [Nat.sub_add_cancel hr, Nat.add_sub_cancel]
  rw [State.landed, hpost.posted_land (by rw [hacct]; exact Nat.le_add_left 1 _), hback]
  refine ⟨_, State.check_still hp ?_ ?_⟩
  · rw [State.acct_setWin, State.acct_setAcct_self]
    exact hb
  · rw [State.acct_setWin, State.acct_setAcct_self]
    exact hf

theorem State.presentSpan_flown (h : (s.setWin (crossAcct sp d) ((s.win (crossAcct sp d)).request s.now)).Postable (crossAcct sp d))
    (hr : 1 ≤ (s.acct (crossAcct sp d)).r) : ∃ p, s.presentSpan sp d = s.flown (crossAcct sp d) p := by
  obtain ⟨p, -, hp⟩ := State.arriveAt_frame ((s.setWin (crossAcct sp d) ((s.win (crossAcct sp d)).request s.now)).setAcct (crossAcct sp d)
    { s.acct (crossAcct sp d) with r := (s.acct (crossAcct sp d)).r - 1, f := (s.acct (crossAcct sp d)).f + 1 }) sp
  exact ⟨p, (State.presentSpan_eq h hr).trans hp⟩

theorem State.crossed_lands (h : s.mayPresent sp d = true) : s.crossed sp d = (s.presentSpan sp d).landed (crossAcct sp d) := if_pos h

theorem State.crossed_refused (h : s.mayPresent sp d = false) : s.crossed sp d = s := if_neg (by rw [h]; decide)

/-- A crossing over an account in balance, with none of its units in flight, makes both postings: the account stands as before, and no breach is found
(01 Table 1.2; log 122). -/
theorem State.crossed_still (hp : s.ledger.parity = []) (hfit : (s.acct (crossAcct sp d)).fits = true)
    (hb : (s.acct (crossAcct sp d)).g = (s.acct (crossAcct sp d)).r + (s.acct (crossAcct sp d)).h + (s.acct (crossAcct sp d)).f)
    (hf : (s.acct (crossAcct sp d)).f = 0) : s.LedgerPowerOnly (s.crossed sp d) ∧ ∀ k, (s.crossed sp d).acct k = s.acct k := by
  cases hm : s.mayPresent sp d with
  | false =>
    rw [State.crossed_refused hm]
    exact ⟨.refl s, fun _ => rfl⟩
  | true =>
    obtain ⟨-, -, -, hr, here⟩ := (s.mayPresent_iff sp d).mp hm
    obtain ⟨hg, -⟩ := (Account.fits_iff _).mp hfit
    obtain ⟨p, hflown⟩ := State.presentSpan_flown (State.postable_request here hp hg hb) hr
    obtain ⟨w, hlanded⟩ := State.flown_landed (p := p) here hp hg hb hf hr
    rw [State.crossed_lands hm, hflown, hlanded]
    have honly : s.LedgerPowerOnly (s.flown (crossAcct sp d) p) := (((State.LedgerPowerOnly.refl s).setWin _ _).setAcct _ _).setPower p
    refine ⟨(honly.setAcct _ _).setWin _ _, fun k => ?_⟩
    rw [State.acct_setWin]
    by_cases hk : k = crossAcct sp d
    · rw [hk, State.acct_setAcct_self]
    · rw [State.acct_setAcct_ne hk]
      exact State.acct_setAcct_ne hk

end
end Sys2Proof.Machine

namespace Sys2Proof.Machine

/-! ## The time base, and writes accepted by a compare channel -/

section
variable {s : State} {n : Fin 16} {w : CmpWrite}

theorem State.cmpPut_compare : (s.cmpPut n w).SameCompare (s.cmpAccept n w) := (State.SameCompare.refl _).crossed

theorem State.cmpPut_keeps : Keeps [(F.CMP_CTL_BUSY n.val).addr] s (s.cmpPut n w) := Keeps.refl.cmpw.setBit (List.mem_singleton_self _)

/-- A write accepted waits behind those accepted before it, with the tick in which it came (08 R342). -/
theorem State.cmpAccept_self : vget (s.cmpAccept n w).cmpw n = vget s.cmpw n ++ [(s.now, w)] := by
  rw [State.cmpPut_compare.1]
  exact vget_vset_self _ _ _

theorem State.cmpAccept_ne {k : Fin 16} (h : k ≠ n) : vget (s.cmpAccept n w).cmpw k = vget s.cmpw k := by
  rw [State.cmpPut_compare.1]
  exact vget_vset_ne _ _ h.symm

theorem State.cmpAccept_busy : (s.cmpAccept n w).flag (F.CMP_CTL_BUSY n.val) = true := by
  have haddr : F.TMB_LO_LO.addr ≤ (F.CMP_CTL_BUSY n.val).addr := by
    simp only [F.TMB_LO_LO, F.CMP_CTL_BUSY]
    omega
  rw [State.flag_of_reg (State.cmpPut_compare.2 _ haddr)]
  exact State.flag_setBit_self _ _ (by simp [Fld.fits, F.CMP_CTL_BUSY]) Nat.one_pos

/-- Where span 1 has nothing in flight its crossing leaves the write alone as the change (log 122). -/
theorem State.cmpAccept_still (hp : s.ledger.parity = []) (hb : (s.acct 0x43).g = (s.acct 0x43).r + (s.acct 0x43).h + (s.acct 0x43).f)
    (hf : (s.acct 0x43).f = 0) (hfit : (s.acct 0x43).fits = true) :
    SameRegs [(F.CMP_CTL_BUSY n.val).addr] s (s.cmpAccept n w) ∧ (s.cmpAccept n w).mem = s.mem ∧ (s.cmpAccept n w).threads = s.threads ∧
      ∀ k, (s.cmpAccept n w).acct k = s.acct k := by
  obtain ⟨⟨l, p, honly⟩, haccts⟩ := State.crossed_still (s := s.cmpPut n w) (sp := 1) (d := 1) hp hfit hb hf
  obtain ⟨hregs, hmem, hthreads, -⟩ := s.cmpPut_keeps (n := n) (w := w)
  refine ⟨?_, ?_, ?_, haccts⟩
  all_goals rw [State.cmpAccept, honly]
  · exact hregs
  · exact hmem
  · exact hthreads

/-- A breach at the crossing may order a reset, and orders none where none can be ordered. -/
theorem State.cmpAccept_effect {i : Instr} {P : State → Prop} (hi : exec i s = ok (s.cmpAccept n w)) (hP : P (s.cmpAccept n w)) : Effect i s P := by
  refine ⟨_, hi, hP, fun hcalm => hi.trans (ok_of _ ?_)⟩
  have haside : Aside (F.CMP_CTL_BUSY n.val) := by
    constructor <;> simp only [F.CMP_CTL_BUSY, F.LDG_CTL_BRACT, F.CIP_LOCK_HELD] <;> omega
  have hput : s.Onward (s.cmpPut n w) := State.Onward.setBit (State.Onward.refl s) haside
  obtain ⟨-, -, -, hcalms⟩ := hput.crossed (sp := 1) (d := 1)
  exact (hcalms hcalm).1

/-! ## The capture of a PPS edge -/

/-- The state with the whole time base captured (08 R349). -/
def State.ppsCaptured (s : State) : State :=
  (((s.raise (s.flag F.TMB_PPSST_NEW) F.TMB_PPSST_OVR).setFld F.TMB_PPSLO_LO (s.timeBase.toNat % 2 ^ 32)).setFld F.TMB_PPSHI_HI
    (s.timeBase.toNat / 2 ^ 32)).setBit F.TMB_PPSST_NEW

theorem exec_ppsCapture_driven (hon : s.on = true) (h : s.ppsDriven = true) : exec .ppsCapture s = ok s.ppsCaptured := by
  rw [exec_ppsCapture, execPpsCapture, hon, h]
  rfl

theorem State.ppsCaptured_keeps : Keeps [F.TMB_PPSLO_LO.addr, F.TMB_PPSHI_HI.addr, F.TMB_PPSST_NEW.addr] s s.ppsCaptured :=
  (((Keeps.refl.raise (by decide)).setFld (by decide)).setFld (by decide)).setBit (by decide)

theorem State.ppsCaptured_low : s.ppsCaptured.fld F.TMB_PPSLO_LO = s.timeBase.toNat % 2 ^ 32 := by
  rw [State.ppsCaptured, State.setBit, State.fld_setFld_reg _ _ _ _ (by decide), State.fld_setFld_reg _ _ _ _ (by decide),
    State.fld_setFld_self _ _ _ (by simp [Fld.fits, F.TMB_PPSLO_LO])]
  exact Nat.mod_mod _ _

theorem State.ppsCaptured_high : s.ppsCaptured.fld F.TMB_PPSHI_HI = s.timeBase.toNat / 2 ^ 32 := by
  have hbase : s.timeBase.toNat < 2 ^ 64 := s.timeBase.isLt
  rw [State.ppsCaptured, State.setBit, State.fld_setFld_reg _ _ _ _ (by decide), State.fld_setFld_self _ _ _ (by simp [Fld.fits, F.TMB_PPSHI_HI])]
  exact Nat.mod_eq_of_lt (Nat.div_lt_of_lt_mul hbase)

theorem State.ppsCaptured_new : s.ppsCaptured.flag F.TMB_PPSST_NEW = true :=
  State.flag_setBit_self _ _ (by simp [Fld.fits, F.TMB_PPSST_NEW]) Nat.one_pos

theorem State.ppsCaptured_ovr : s.ppsCaptured.flag F.TMB_PPSST_OVR = (s.flag F.TMB_PPSST_OVR || s.flag F.TMB_PPSST_NEW) := by
  rw [State.ppsCaptured, State.flag_setBit_other _ _ _ (by decide), State.flag_of_reg (State.reg_setFld_ne _ _ _ _ (by decide)),
    State.flag_of_reg (State.reg_setFld_ne _ _ _ _ (by decide))]
  exact State.flag_raise_self (by simp [Fld.fits, F.TMB_PPSST_OVR]) Nat.one_pos

/-! ## A compare channel fires -/

theorem State.cmpJudged_bit : (s.cmpJudged n).time.judged.getLsbD n.val = true := by
  have hn := n.isLt
  simp [State.cmpJudged, hn]

/-- A channel's FIRED bit set, its comparison at this edge over (08 R346). -/
def State.cmpFired (s : State) (n : Fin 16) : State := (s.cmpJudged n).orFld F.TMB_FIRED_CH (2 ^ n.val)

theorem State.cmpFired_keeps : Keeps [F.TMB_FIRED_CH.addr] s (s.cmpFired n) := Keeps.refl.time.orFld (List.mem_singleton_self _)

theorem State.cmpFired_bit : (s.cmpFired n).fldBit F.TMB_FIRED_CH n.val = true := by
  have hn : n.val < F.TMB_FIRED_CH.w := n.isLt
  rw [State.fldBit, State.cmpFired, State.orFld, State.fld_setFld_self _ _ _ (by simp [Fld.fits, F.TMB_FIRED_CH]), Nat.testBit_mod_two_pow,
    Nat.testBit_or, Nat.testBit_two_pow_self, Bool.or_true, Bool.and_true]
  exact decide_eq_true hn

/-- A channel that is not routed and wakes nothing fires within its own registers (08 R346 to R348). -/
theorem State.cmpFire_unrouted (hroute : s.route (0x40 + n.val) = none) (hwake : s.flag (F.CMP_CTL_WAKE n.val) = false) :
    s.cmpFire n = (s.cmpFired n).cmpMode n := by
  have hsame : (s.cmpFired n).route (0x40 + n.val) = s.route (0x40 + n.val) := by
    have haddr : (F.EVT_MAP_EN (0x40 + n.val)).addr ∉ [F.TMB_FIRED_CH.addr] := by
      simp only [F.EVT_MAP_EN, F.TMB_FIRED_CH, List.mem_singleton]
      omega
    have hreg := (State.cmpFired_keeps (s := s) (n := n)).reg haddr
    rw [State.route, State.route, State.fld_of_reg (f := F.EVT_MAP_THREAD _) hreg, State.fld_of_reg (f := F.EVT_MAP_BIT _) hreg,
      State.flag_of_reg hreg]
  have hfire (stamp : BitVec 48) : (s.cmpFired n).fireSource (0x40 + n.val) stamp = s.cmpFired n := by
    rw [State.fireSource, hsame, hroute]
  rw [State.cmpFire, hwake, if_neg Bool.false_ne_true]
  exact congrArg (State.cmpMode · n) (hfire _)

theorem exec_compareFire_due (hon : s.on = true) (hdue : s.cmpDue n = true) (hfirst : ∀ m, m < n → s.cmpDue m = false) :
    exec (.compareFire n) s = ok (s.cmpFire n) := by
  have hturn : s.cmpTurn n = true := by
    rw [State.cmpTurn, List.all_eq_true]
    intro m _
    rcases Nat.lt_or_ge m.val n.val with h | h
    · rw [hfirst m h, Bool.not_false, Bool.or_true]
    · rw [decide_eq_true (show n ≤ m from h), Bool.true_or]
  rw [exec_compareFire, execCompareFire, hon, hdue, hturn]
  rfl

theorem State.cmpMode_oneShot (h : s.fld (F.CMP_CTL_MODE n.val) = 1) : s.cmpMode n = s.clrFld (F.CMP_CTL_EN n.val) := by
  rw [State.cmpMode, h]
  rfl

theorem State.cmpMode_periodic (h : s.fld (F.CMP_CTL_MODE n.val) = 2) :
    s.cmpMode n = s.setFld (F.CMP_VAL_VAL n.val) (s.fld (F.CMP_VAL_VAL n.val) + s.fld (F.CMP_PER_PER n.val)) := by
  rw [State.cmpMode, h]
  rfl

theorem Keeps.cmpMode {u : State} {l : List Nat} (h : Keeps l s u) (hen : (F.CMP_CTL_EN n.val).addr ∈ l) (hval : (F.CMP_VAL_VAL n.val).addr ∈ l) :
    Keeps l s (u.cmpMode n) := by
  unfold State.cmpMode
  split
  · exact h.clrFld hen
  · exact h.setFld hval
  · exact h

theorem State.cmpMode_time : (s.cmpMode n).time = s.time := by
  unfold State.cmpMode
  split <;> rfl

/-- Where the channels' registers begin (08 R369). -/
def chanRegs : Nat := 0x40007100

theorem State.cmpFired_reg {a : Nat} (h : chanRegs ≤ a) : (s.cmpFired n).reg a = s.reg a := by
  refine (State.cmpFired_keeps (s := s) (n := n)).reg ?_
  simp only [chanRegs, F.TMB_FIRED_CH, List.mem_singleton] at h ⊢
  omega

theorem State.cmpFired_fld {f : Fld} (h : chanRegs ≤ f.addr) : (s.cmpFired n).fld f = s.fld f := State.fld_of_reg (State.cmpFired_reg h)

theorem cmpVal_ne_ctl : (F.CMP_VAL_VAL n.val).addr ≠ (F.CMP_CTL_EN n.val).addr := by simp [F.CMP_VAL_VAL, F.CMP_CTL_EN]

theorem cmpChan_addr : chanRegs ≤ (F.CMP_CTL_EN n.val).addr ∧ chanRegs ≤ (F.CMP_VAL_VAL n.val).addr ∧ chanRegs ≤ (F.CMP_PER_PER n.val).addr := by
  simp only [chanRegs, F.CMP_CTL_EN, F.CMP_VAL_VAL, F.CMP_PER_PER]
  omega

/-- A channel that fires has its FIRED bit set, and is done with this edge. -/
theorem State.cmpFire_fired (hroute : s.route (0x40 + n.val) = none) (hwake : s.flag (F.CMP_CTL_WAKE n.val) = false) :
    (s.cmpFire n).fldBit F.TMB_FIRED_CH n.val = true ∧ (s.cmpFire n).time.judged.getLsbD n.val = true ∧
      Keeps [F.TMB_FIRED_CH.addr, (F.CMP_CTL_EN n.val).addr, (F.CMP_VAL_VAL n.val).addr] s (s.cmpFire n) := by
  have hmode : Keeps [(F.CMP_CTL_EN n.val).addr, (F.CMP_VAL_VAL n.val).addr] (s.cmpFired n) ((s.cmpFired n).cmpMode n) :=
    Keeps.refl.cmpMode (by simp) (by simp)
  have hfired : F.TMB_FIRED_CH.addr ∉ [(F.CMP_CTL_EN n.val).addr, (F.CMP_VAL_VAL n.val).addr] := by
    simp only [F.TMB_FIRED_CH, F.CMP_CTL_EN, F.CMP_VAL_VAL, List.mem_cons, List.not_mem_nil, or_false]
    omega
  rw [State.cmpFire_unrouted hroute hwake]
  refine ⟨?_, ?_, (Keeps.refl.time.orFld (by simp)).cmpMode (by simp) (by simp)⟩
  · rw [State.fldBit, hmode.fld hfired]
    exact State.cmpFired_bit
  · rw [State.cmpMode_time]
    exact s.cmpJudged_bit

/-- A one-shot channel that has fired is off, its value as it was (08 Table 8.1). -/
theorem State.cmpFire_oneShot (hroute : s.route (0x40 + n.val) = none) (hwake : s.flag (F.CMP_CTL_WAKE n.val) = false)
    (hmode : s.fld (F.CMP_CTL_MODE n.val) = 1) :
    (s.cmpFire n).flag (F.CMP_CTL_EN n.val) = false ∧ (s.cmpFire n).reg (F.CMP_VAL_VAL n.val).addr = s.reg (F.CMP_VAL_VAL n.val).addr := by
  obtain ⟨hctl, hval, -⟩ := cmpChan_addr (n := n)
  rw [State.cmpFire_unrouted hroute hwake, State.cmpMode_oneShot ((State.cmpFired_fld (f := F.CMP_CTL_MODE n.val) hctl).trans hmode)]
  refine ⟨State.flag_clrFld_self _ _ (by simp [Fld.fits, F.CMP_CTL_EN]), ?_⟩
  rw [State.clrFld, State.reg_setFld_ne _ _ _ _ cmpVal_ne_ctl, State.cmpFired_reg hval]

/-- A periodic one is still on, its value one period further, modulo 2^32 (08 Table 8.1). -/
theorem State.cmpFire_periodic (hroute : s.route (0x40 + n.val) = none) (hwake : s.flag (F.CMP_CTL_WAKE n.val) = false)
    (hmode : s.fld (F.CMP_CTL_MODE n.val) = 2) :
    (s.cmpFire n).flag (F.CMP_CTL_EN n.val) = s.flag (F.CMP_CTL_EN n.val) ∧
      (s.cmpFire n).reg (F.CMP_VAL_VAL n.val).addr = s.reg (F.CMP_VAL_VAL n.val).addr + s.reg (F.CMP_PER_PER n.val).addr := by
  obtain ⟨hctl, hval, hper⟩ := cmpChan_addr (n := n)
  rw [State.cmpFire_unrouted hroute hwake, State.cmpMode_periodic ((State.cmpFired_fld (f := F.CMP_CTL_MODE n.val) hctl).trans hmode),
    State.cmpFired_fld hval, State.cmpFired_fld hper]
  refine ⟨?_, ?_⟩
  · rw [State.flag_of_reg (State.reg_setFld_ne _ _ _ _ cmpVal_ne_ctl.symm), State.flag_of_reg (State.cmpFired_reg hctl)]
  · rw [State.fld, State.fld, F.CMP_VAL_VAL, F.CMP_PER_PER, fldGet_full, fldGet_full, State.reg_setFld_full, BitVec.ofNat_add, BitVec.ofNat_toNat,
      BitVec.ofNat_toNat, BitVec.setWidth_eq, BitVec.setWidth_eq]

end
end Sys2Proof.Machine

namespace Sys2Proof.Machine

/-! ## A write applied -/

section
variable {s : State} {n : Fin 16} {w : CmpWrite}

/-- How `passed` reads a value against the tick: equal to it, or at least 2^31 ahead (08 R344, R355). -/
theorem passed_eq (v t : Word) : passed v t = (decide (v = t) || decide (2 ^ 31 ≤ (v - t).toNat)) := by
  rw [passed, BitVec.msb_eq_decide, Bool.beq_eq_decide_eq]
  simp only [sub_eq_zero]

theorem State.cmpSetVal_eq {v : Word} :
    s.cmpSetVal n v = (s.setFld (F.CMP_VAL_VAL n.val) v.toNat).raise (passed v s.tick32) (F.CMP_CTL_LATE n.val) := rfl

/-- The writes that wait have no part in it. -/
theorem State.cmpSetVal_cmpw {v : Word} {c : Vector (List (Nat × CmpWrite)) 16} :
    { s.cmpSetVal n v with cmpw := c } = State.cmpSetVal { s with cmpw := c } n v := by
  have hsame : passed v (State.tick32 { s with cmpw := c }) = passed v s.tick32 := rfl
  rw [State.cmpSetVal_eq, State.cmpSetVal_eq, hsame]
  cases passed v s.tick32
  · rfl
  · rfl

theorem State.cmpSetVal_rest {v : Word} : (s.cmpSetVal n v).time = s.time ∧ (s.cmpSetVal n v).cmpw = s.cmpw := by
  rw [State.cmpSetVal_eq]
  cases passed v s.tick32
  · exact ⟨rfl, rfl⟩
  · exact ⟨rfl, rfl⟩

/-- The state with a channel's comparison over and no write of it waiting. -/
def State.cmpReadied (s : State) (n : Fin 16) : State := { s.cmpJudged n with cmpw := vset s.cmpw n [] }

theorem State.cmpReadied_tick32 : (s.cmpReadied n).tick32 = s.tick32 := rfl

/-- The state with a value applied to a channel's CMP_VAL (08 R342 to R344). -/
def State.cmpApplied (s : State) (n : Fin 16) (x : Word) : State := ((s.cmpReadied n).cmpSetVal n x).clrFld (F.CMP_CTL_BUSY n.val)

theorem State.cmpApply_value {v : Word} {rel : Bool} :
    s.cmpApply n (if rel then .rel v else .val v) = s.cmpSetVal n (if rel then s.tick32 + (if v = 0 then 1 else v) else v) := by
  cases rel <;> rfl

/-- A write that waits alone, accepted before the last tick edge, is applied and none is left (08 R342). -/
theorem State.cmpApplyAll_alone {at' : Nat} (hat : at' < s.now) (hw : vget s.cmpw n = [(at', w)]) :
    s.cmpApplyAll n = State.clrFld { (s.cmpJudged n).cmpApply n w with cmpw := vset ((s.cmpJudged n).cmpApply n w).cmpw n [] }
      (F.CMP_CTL_BUSY n.val) := by
  have hdue : [(at', w)].filter (fun w => w.1 < s.now) = [(at', w)] := by simp [hat]
  have hlater : [(at', w)].filter (fun w => s.now ≤ w.1) = [] := by simp [hat]
  rw [State.cmpApplyAll, hw, hdue, hlater]
  rfl

theorem exec_compareWriteApply_alone {v : Word} {rel : Bool} {at' : Nat} (hon : s.on = true) (hdue : s.cmpDue n = false) (hat : at' < s.now)
    (hw : vget s.cmpw n = [(at', if rel then .rel v else .val v)]) :
    exec (.compareWriteApply n) s = ok (s.cmpApplied n (if rel then s.tick32 + (if v = 0 then 1 else v) else v)) := by
  have hready : s.cmpReady n = true := by simp [State.cmpReady, hw, hat]
  have hvalue : (s.cmpJudged n).cmpApply n (if rel then .rel v else .val v) =
      (s.cmpJudged n).cmpSetVal n (if rel then s.tick32 + (if v = 0 then 1 else v) else v) := State.cmpApply_value
  generalize (if rel then s.tick32 + (if v = 0 then 1 else v) else v) = x at hvalue ⊢
  obtain ⟨-, hrest⟩ := (s.cmpJudged n).cmpSetVal_rest (n := n) (v := x)
  rw [exec_compareWriteApply, execCompareWriteApply, hon, hready, hdue, State.cmpApplyAll_alone hat hw, hvalue, hrest, State.cmpSetVal_cmpw]
  rfl

theorem State.cmpApplied_keeps {x : Word} : Keeps [(F.CMP_VAL_VAL n.val).addr, (F.CMP_CTL_BUSY n.val).addr] s (s.cmpApplied n x) :=
  ((Keeps.refl.time.cmpw.setFld (by simp)).raise (by simp [F.CMP_CTL_LATE, F.CMP_CTL_BUSY])).clrFld (by simp)

theorem State.cmpApplied_val {x : Word} : (s.cmpApplied n x).reg (F.CMP_VAL_VAL n.val).addr = x := by
  have hbusy : (F.CMP_VAL_VAL n.val).addr ≠ (F.CMP_CTL_BUSY n.val).addr := cmpVal_ne_ctl
  have hlate : (F.CMP_VAL_VAL n.val).addr ≠ (F.CMP_CTL_LATE n.val).addr := cmpVal_ne_ctl
  rw [State.cmpApplied, State.clrFld, State.reg_setFld_ne _ _ _ _ hbusy, State.cmpSetVal_eq, State.reg_raise_ne hlate, F.CMP_VAL_VAL,
    State.reg_setFld_full, BitVec.ofNat_toNat, BitVec.setWidth_eq]

theorem State.cmpApplied_busy {x : Word} : (s.cmpApplied n x).flag (F.CMP_CTL_BUSY n.val) = false :=
  State.flag_clrFld_self _ _ (by simp [Fld.fits, F.CMP_CTL_BUSY])

theorem State.cmpApplied_waits {x : Word} : vget (s.cmpApplied n x).cmpw n = [] := by
  obtain ⟨-, hcmpw⟩ := (s.cmpReadied n).cmpSetVal_rest (n := n) (v := x)
  rw [State.cmpApplied, State.clrFld_cmpw, hcmpw]
  exact vget_vset_self _ _ _

theorem State.cmpApplied_judged {x : Word} : (s.cmpApplied n x).time.judged.getLsbD n.val = true := by
  obtain ⟨htime, -⟩ := (s.cmpReadied n).cmpSetVal_rest (n := n) (v := x)
  rw [State.cmpApplied, State.clrFld_time, htime]
  exact s.cmpJudged_bit

theorem State.cmpApplied_late {x : Word} :
    (s.cmpApplied n x).flag (F.CMP_CTL_LATE n.val) =
      (s.flag (F.CMP_CTL_LATE n.val) || decide (x = s.tick32) || decide (2 ^ 31 ≤ (x - s.tick32).toNat)) := by
  have hold : ((s.cmpReadied n).setFld (F.CMP_VAL_VAL n.val) x.toNat).flag (F.CMP_CTL_LATE n.val) = s.flag (F.CMP_CTL_LATE n.val) :=
    State.flag_of_reg (State.reg_setFld_ne _ _ _ _ cmpVal_ne_ctl.symm)
  rw [State.cmpApplied, State.flag_clrFld_other _ _ _ (Or.inl (by decide : 4 + 1 ≤ 5)), State.cmpSetVal_eq,
    State.flag_raise_self (by simp [Fld.fits, F.CMP_CTL_LATE]) Nat.one_pos, hold, passed_eq, State.cmpReadied_tick32, Bool.or_assoc]

theorem State.cmpApplied_en {x : Word} : (s.cmpApplied n x).flag (F.CMP_CTL_EN n.val) = s.flag (F.CMP_CTL_EN n.val) := by
  rw [State.cmpApplied, State.flag_clrFld_other _ _ _ (Or.inr (by decide : 0 + 1 ≤ 4)), State.cmpSetVal_eq,
    State.flag_raise_other (Or.inr (Or.inr (by decide : 0 + 1 ≤ 5)))]
  exact State.flag_of_reg (State.reg_setFld_ne _ _ _ _ cmpVal_ne_ctl.symm)

end
end Sys2Proof.Machine

section
open Sys2Proof Sys2Proof.Machine

/-- Settles O41: a write's crossing leaves the compare channels (`State.SameCompare`) and, over an account in balance, the account; a fire and a write
applied are a few writes of the channel's own registers. -/
theorem timeBaseAndChannels : Obligations.TimeBaseAndChannels := by
  refine ⟨fun s t n v hq => ⟨fun hrun => ?read, fun hrun => ?accepts, fun hon hhas hlit hlow hhigh => ?captures⟩,
    fun s n hq hon hen hval hjudged hroute hwake hfirst => ?fires, fun s n v rel hq hon hdue at' hat hw => ?applies⟩
  case read =>
    refine ⟨s.tmbLoRead t, ?_, vget_vset_self _ _ _, fun k hk => vget_vset_ne _ _ hk.symm, rfl⟩
    rw [exec_tmbLoRead, execTmbLoRead, if_pos hrun]
    exact ok_of _ hq
  case accepts =>
    intro waits
    have hwaits (i : Instr) (w : CmpWrite) (hi : exec i s = ok (s.cmpAccept n w)) : waits i w :=
      State.cmpAccept_effect hi ⟨State.cmpAccept_self, fun _ hk => State.cmpAccept_ne hk, State.cmpAccept_busy, State.cmpAccept_still⟩
    refine ⟨hwaits _ _ ?_, hwaits _ _ ?_⟩
    · rw [exec_cmpValWrite, execCmpValWrite, if_pos hrun]
    · rw [exec_cmpRel, execCmpRel, if_pos hrun]
  case captures =>
    have hdriven : s.ppsDriven = true := by simp [State.ppsDriven, hhas, hlit, hlow, hhigh]
    exact State.ppsCaptured_keeps.gives hq (exec_ppsCapture_driven hon hdriven)
      ⟨State.ppsCaptured_low, State.ppsCaptured_high, State.ppsCaptured_new, State.ppsCaptured_ovr, State.ppsCaptured_keeps⟩
  case fires =>
    have hdue : s.cmpDue n = true := by
      rw [State.cmpDue, hen, hval, hjudged, beq_self_eq_true]
      rfl
    have htick : s.reg (F.CMP_VAL_VAL n.val).addr = s.tick32 := State.reg_of_fld_full hval
    obtain ⟨hfired, hover, hkeeps⟩ := State.cmpFire_fired hroute hwake
    refine hkeeps.gives hq (exec_compareFire_due hon hdue hfirst) ⟨hfired, hover, fun hmode => ?_, fun hmode => ?_, hkeeps⟩
    · obtain ⟨hoff, hsame⟩ := State.cmpFire_oneShot hroute hwake hmode
      exact ⟨hoff, hsame.trans htick⟩
    · obtain ⟨hstill, hmoved⟩ := State.cmpFire_periodic hroute hwake hmode
      exact ⟨hstill.trans hen, hmoved.trans (congrArg (· + _) htick)⟩
  case applies =>
    exact State.cmpApplied_keeps.gives hq (exec_compareWriteApply_alone hon hdue hat hw)
      ⟨State.cmpApplied_val, State.cmpApplied_busy, State.cmpApplied_waits, State.cmpApplied_late, State.cmpApplied_judged, State.cmpApplied_en,
        State.cmpApplied_keeps⟩

end

namespace Sys2Proof.Machine

/-! ## Prescalers -/

section
variable {s : State} {n : Fin 8} {p : Prescaler} {f : Fld} {b : Bool}

@[simp] theorem State.pre_setPre_self : (s.setPre n p).pre n = p := vget_vset_self _ _ _
@[simp] theorem State.pre_setFld {v : Nat} : (s.setFld f v).pre n = s.pre n := rfl

@[simp] theorem State.fld_setPre (g : Fld) : (s.setPre n p).fld g = s.fld g := rfl
@[simp] theorem State.flag_setPre (g : Fld) : (s.setPre n p).flag g = s.flag g := rfl

@[simp] theorem State.pre_raise : (s.raise b f).pre n = s.pre n := by
  obtain ⟨v, h⟩ := State.raise_live (s := s) (b := b) (f := f)
  rw [h]
  rfl

/-- An edge that ends a division gives an output pulse, and any other is counted towards it (08 R352). -/
theorem Prescaler.edge_eq {k : Nat} (hdue : p.due = false) :
    p.edge k = { p with
      edges := if k + (if p.long then 1 else 0) ≤ p.edges + 1 then 0 else p.edges + 1
      due := decide (k + (if p.long then 1 else 0) ≤ p.edges + 1) } := by
  rw [Prescaler.edge]
  generalize k + (if p.long then 1 else 0) = m
  by_cases h : m ≤ p.edges + 1
  · rw [if_pos h, if_pos h, decide_eq_true h]
  · rw [if_neg h, if_neg h, decide_eq_false h, ← hdue]

theorem State.countDue_none (h : (s.pre n).due = false) : s.countDue n = s := by
  rw [State.countDue, h]
  rfl

theorem State.countDue_some (h : (s.pre n).due = true) : s.countDue n = s.count n := if_pos h

/-- An edge of its source reaches a counter with no pulse to count: its prescaler takes it and nothing else changes (08 R352). -/
theorem State.sourceEdge_counts (hc : s.counterCounts n = true) (hdue : (s.pre n).due = false) :
    s.sourceEdge n = s.setPre n ((s.pre n).edge (max 1 (s.fld (F.CNT_DIV_N n.val)))) := by
  rw [State.sourceEdge, if_pos hc, State.countDue_none hdue]

theorem indices_filter_eq : ∀ n : Fin 8, (indices 8).filter (· == n) = [n] := by decide

/-- An edge of a source that one counter alone has reaches that one. -/
theorem State.srcEdges_only {src : Nat} (hn : s.fld (F.CNT_CTL_SRC n.val) = src) (hm : ∀ m, m ≠ n → s.fld (F.CNT_CTL_SRC m.val) ≠ src) :
    s.srcEdges src (fun _ => true) = s.sourceEdge n := by
  have hsel : (fun m : Fin 8 => s.fld (F.CNT_CTL_SRC m.val) == src && true) = (· == n) := by
    funext m
    rw [Bool.and_true]
    by_cases h : m = n
    · rw [h, hn, beq_self_eq_true, beq_self_eq_true]
    · rw [beq_false_of_ne h, beq_false_of_ne (hm m h)]
  rw [State.srcEdges, hsel, indices_filter_eq]
  rfl

/-! ## One count -/

/-- No event of a counter reaches a thread, and its compare value does not move at a match (08 R357, R358). -/
def State.evOff (s : State) (n : Fin 8) : Prop :=
  s.flag (F.CNT_CTL_CMPEV n.val) = false ∧ s.flag (F.CNT_CTL_OVFEV n.val) = false ∧ s.flag (F.CNT_CTL_CMODE n.val) = false

/-- The count one further. -/
def State.countNext (s : State) (n : Fin 8) : Word := BitVec.ofNat 32 (s.fld (F.CNT_COUNT_COUNT n.val)) + 1

theorem State.count_lt : s.fld (F.CNT_COUNT_COUNT n.val) < 2 ^ 32 := by
  rw [State.fld, F.CNT_COUNT_COUNT, fldGet_full]
  exact BitVec.isLt _

theorem State.countNext_toNat : (s.countNext n).toNat = (s.fld (F.CNT_COUNT_COUNT n.val) + 1) % 2 ^ 32 := by
  have h := s.count_lt (n := n)
  rw [State.countNext, BitVec.toNat_add, BitVec.toNat_ofNat, Nat.mod_eq_of_lt h]
  rfl

/-- The count wraps after its highest value (08 R351). -/
theorem State.countNext_wraps : (s.countNext n == 0) = decide (s.fld (F.CNT_COUNT_COUNT n.val) = 2 ^ 32 - 1) := by
  have h := s.count_lt (n := n)
  rw [Bool.beq_eq_decide_eq]
  refine decide_eq_decide.mpr ?_
  rw [← BitVec.toNat_inj, State.countNext_toNat]
  change _ = 0 ↔ _
  omega

/-- The state with the count one further and the pulse taken by the prescaler, the flags still to be judged. -/
def State.counted (s : State) (n : Fin 8) : State :=
  (s.setFld (F.CNT_COUNT_COUNT n.val) (s.countNext n).toNat).setPre n ((s.pre n).pulse (s.fld (F.CNT_DIV_F n.val)) (s.countNext n == 0))

theorem cntCount_ne_stat : (F.CNT_COUNT_COUNT n.val).addr ≠ (F.CNT_STAT_CMPF n.val).addr := by simp [F.CNT_COUNT_COUNT, F.CNT_STAT_CMPF]

theorem State.counted_count : (s.counted n).fld (F.CNT_COUNT_COUNT n.val) = (s.countNext n).toNat := by
  rw [State.counted, State.fld_setPre, State.fld_setFld_self _ _ _ (by simp [Fld.fits, F.CNT_COUNT_COUNT])]
  exact Nat.mod_eq_of_lt (BitVec.isLt _)

theorem State.counted_flag (h : f.addr ≠ (F.CNT_COUNT_COUNT n.val).addr) : (s.counted n).flag f = s.flag f := by
  rw [State.counted, State.flag_setPre, State.flag_of_reg (State.reg_setFld_ne _ _ _ _ h)]

theorem State.counted_pre : (s.counted n).pre n = (s.pre n).pulse (s.fld (F.CNT_DIV_F n.val)) (s.countNext n == 0) := State.pre_setPre_self

/-- With no event to reach a thread one count writes the count and its two flags, and the prescaler (08 R351, R355). -/
theorem State.count_eq (h : s.evOff n) :
    s.count n = ((s.counted n).raise ((s.countNext n).toNat == s.fld (F.CNT_CMPV_CMPV n.val)) (F.CNT_STAT_CMPF n.val)).raise
      (s.countNext n == 0) (F.CNT_STAT_OVF n.val) := by
  obtain ⟨hcmp, hovf, hmode⟩ := h
  rw [State.count, hcmp, hovf, hmode]
  simp only [Bool.and_false, Bool.or_false, Bool.false_eq_true, if_false]
  rfl

/-- What one count does: the count one further, modulo 2^32, its flags where they are due, its pulse taken by the prescaler. -/
structure State.Counted (s u : State) (n : Fin 8) : Prop where
  count : u.fld (F.CNT_COUNT_COUNT n.val) = (s.fld (F.CNT_COUNT_COUNT n.val) + 1) % 2 ^ 32
  cmpf : u.flag (F.CNT_STAT_CMPF n.val) =
    (s.flag (F.CNT_STAT_CMPF n.val) || decide ((s.fld (F.CNT_COUNT_COUNT n.val) + 1) % 2 ^ 32 = s.fld (F.CNT_CMPV_CMPV n.val)))
  ovf : u.flag (F.CNT_STAT_OVF n.val) = (s.flag (F.CNT_STAT_OVF n.val) || decide (s.fld (F.CNT_COUNT_COUNT n.val) = 2 ^ 32 - 1))
  late : u.flag (F.CNT_STAT_LATE n.val) = s.flag (F.CNT_STAT_LATE n.val)
  pre : u.pre n = (s.pre n).pulse (s.fld (F.CNT_DIV_F n.val)) (s.countNext n == 0)
  keeps : Keeps [(F.CNT_COUNT_COUNT n.val).addr, (F.CNT_STAT_CMPF n.val).addr] s u

theorem State.count_counted (h : s.evOff n) : s.Counted (s.count n) n := by
  have hstat (g : Fld) (hg : g.addr = (F.CNT_STAT_CMPF n.val).addr) : (s.counted n).flag g = s.flag g :=
    State.counted_flag (hg.trans_ne cntCount_ne_stat.symm)
  rw [State.count_eq h]
  refine ⟨?count, ?cmpf, ?ovf, ?late, ?pre, ?keeps⟩
  case count =>
    rw [State.fld_raise_other (f := F.CNT_STAT_OVF n.val) (Or.inl cntCount_ne_stat.symm),
      State.fld_raise_other (f := F.CNT_STAT_CMPF n.val) (Or.inl cntCount_ne_stat.symm), State.counted_count, State.countNext_toNat]
  case cmpf =>
    rw [State.flag_raise_other (Or.inr (Or.inr (by decide : 0 + 1 ≤ 1))), State.flag_raise_self (by simp [Fld.fits, F.CNT_STAT_CMPF]) Nat.one_pos,
      hstat _ rfl, ← State.countNext_toNat, Bool.beq_eq_decide_eq]
  case ovf =>
    rw [State.flag_raise_self (by simp [Fld.fits, F.CNT_STAT_OVF]) Nat.one_pos,
      State.flag_raise_other (Or.inr (Or.inl (by decide : 0 + 1 ≤ 1))), hstat (F.CNT_STAT_OVF n.val) rfl, State.countNext_wraps]
  case late =>
    rw [State.flag_raise_other (Or.inr (Or.inl (by decide : 1 + 1 ≤ 2))), State.flag_raise_other (Or.inr (Or.inl (by decide : 0 + 1 ≤ 2))),
      hstat (F.CNT_STAT_LATE n.val) rfl]
  case pre => rw [State.pre_raise, State.pre_raise, State.counted_pre]
  case keeps => exact ((Keeps.refl.setFld (by simp)).setPre.raise (by simp)).raise (by simp [F.CNT_STAT_OVF, F.CNT_STAT_CMPF])

/-- A pulse that has come is counted, where one has (08 R362). -/
theorem State.countDue_counted (h : (s.pre n).due = true → s.evOff n) :
    (s.countDue n).fld (F.CNT_COUNT_COUNT n.val) =
      (if (s.pre n).due then (s.fld (F.CNT_COUNT_COUNT n.val) + 1) % 2 ^ 32 else s.fld (F.CNT_COUNT_COUNT n.val)) ∧
    ((s.countDue n).pre n).due = false ∧ (s.countDue n).flag (F.CNT_STAT_LATE n.val) = s.flag (F.CNT_STAT_LATE n.val) ∧
    Keeps [(F.CNT_COUNT_COUNT n.val).addr, (F.CNT_STAT_CMPF n.val).addr] s (s.countDue n) := by
  cases hdue : (s.pre n).due with
  | false =>
    rw [State.countDue_none hdue]
    exact ⟨rfl, hdue, rfl, .refl⟩
  | true =>
    obtain ⟨hcount, -, -, hlate, hpre, hkeeps⟩ := State.count_counted (h hdue)
    rw [State.countDue_some hdue]
    exact ⟨hcount, congrArg Prescaler.due hpre, hlate, hkeeps⟩

theorem State.countDue_edges (h : (s.pre n).due = true → s.evOff n) : ((s.countDue n).pre n).edges = (s.pre n).edges := by
  cases hdue : (s.pre n).due with
  | false => rw [State.countDue_none hdue]
  | true =>
    rw [State.countDue_some hdue, (State.count_counted (h hdue)).pre]
    rfl

/-! ## Commands of the counters -/

/-- An edge of XT32M comes with the command where no pulse is to be counted, and the pulse that it produces is counted (log 106). -/
theorem exec_counterIncrement_xt32m (hc : s.counterCounts n = true) (hsrc : s.fld (F.CNT_CTL_SRC n.val) = 1) (hdue : (s.pre n).due = false)
    (honly : ∀ m, m ≠ n → s.fld (F.CNT_CTL_SRC m.val) ≠ 1) :
    exec (.counterIncrement n) s = ok ((s.setPre n ((s.pre n).edge (max 1 (s.fld (F.CNT_DIV_N n.val))))).countDue n) := by
  have hup : s.countersUp = true := by
    simp only [State.counterCounts, Bool.and_eq_true] at hc
    obtain ⟨⟨⟨hup, -⟩, -⟩, -⟩ := hc
    exact hup
  rw [exec_counterIncrement, execCounterIncrement, hup, hdue, hc, hsrc, State.srcEdges_only hsrc honly, State.sourceEdge_counts hc hdue]
  rfl

/-- The state with a counter started (08 R352): it runs, its accumulator is clear and its division begins. -/
def State.counterStarted (s : State) (n : Fin 8) : State :=
  (s.setBit (F.CNT_CTL_RUN n.val)).setPre n { s.pre n with
    acc := 0, long := false, stopped := s.fld (F.CNT_CTL_SRC n.val) == 1 && !s.flag F.CLK_STAT_XT32MOK, wrapped := false, edges := 0, due := false }

theorem State.counterStart_stopped (h : s.flag (F.CNT_CTL_RUN n.val) = false) : s.counterStart n = s.counterStarted n :=
  if_neg (by rw [h]; exact Bool.false_ne_true)

theorem State.counterStarted_run : (s.counterStarted n).flag (F.CNT_CTL_RUN n.val) = true := by
  rw [State.counterStarted, State.flag_setPre, State.flag_setBit_self _ _ (by simp [Fld.fits, F.CNT_CTL_RUN]) Nat.one_pos]

theorem State.counterStarted_pre : ((s.counterStarted n).pre n).acc = 0 ∧ ((s.counterStarted n).pre n).long = false := by
  rw [State.counterStarted, State.pre_setPre_self]
  exact ⟨rfl, rfl⟩

theorem State.counterStarted_keeps : Keeps [(F.CNT_CTL_RUN n.val).addr] s (s.counterStarted n) :=
  (Keeps.refl.setBit (List.mem_singleton_self _)).setPre

/-- A counter that becomes armed changes the snuff hold at most. -/
theorem State.counterArms_power (old : State) : ∃ p, s.counterArms old n = { s with power := p } := by
  unfold State.counterArms State.armedNow
  split
  · split
    · exact ⟨_, rfl⟩
    · exact ⟨s.power, rfl⟩
  · exact ⟨s.power, rfl⟩

theorem exec_counterRun_starts (hrun : s.steadyRuns = true) (hhas : s.has .cnt = true) (hoff : s.flag (F.CNT_CTL_RUN n.val) = false) :
    ∃ p, exec (.counterRun n) s = ok { s.counterStarted n with power := p } := by
  obtain ⟨p, hp⟩ := (s.counterStarted n).counterArms_power (n := n) s
  refine ⟨p, ?_⟩
  rw [exec_counterRun, execCounterRun, hrun, hhas, ← hp, State.counterStart_stopped hoff]
  rfl

/-- The state with the count copied by a capture (08 R359). -/
def State.captured (s : State) (n : Fin 8) : State :=
  (((s.raise (s.flag (F.CNT_STAT_CAPNEW n.val)) (F.CNT_STAT_CAPOVR n.val)).setFld (F.CNT_CAP_CAP n.val) (s.fld (F.CNT_COUNT_COUNT n.val))).setBit
    (F.CNT_STAT_CAPNEW n.val)).setPre n { s.pre n with capDue := false }

theorem State.capture_eq (hdue : (s.pre n).due = false) : s.capture n = s.captured n := by
  rw [State.captured, ← State.pre_raise (s := s) (b := s.flag (F.CNT_STAT_CAPNEW n.val)) (f := F.CNT_STAT_CAPOVR n.val), State.capture,
    State.countDue_none hdue]
  rfl

theorem cntCap_ne_stat : (F.CNT_CAP_CAP n.val).addr ≠ (F.CNT_STAT_CMPF n.val).addr := by simp [F.CNT_CAP_CAP, F.CNT_STAT_CMPF]

theorem State.captured_keeps : Keeps [(F.CNT_CAP_CAP n.val).addr, (F.CNT_STAT_CMPF n.val).addr] s (s.captured n) :=
  (((Keeps.refl.raise (by simp [F.CNT_STAT_CAPOVR, F.CNT_STAT_CMPF])).setFld (by simp)).setBit
    (by simp [F.CNT_STAT_CAPNEW, F.CNT_STAT_CMPF])).setPre

theorem State.captured_cap : (s.captured n).fld (F.CNT_CAP_CAP n.val) = s.fld (F.CNT_COUNT_COUNT n.val) := by
  have hnew : (F.CNT_CAP_CAP n.val).addr ≠ (F.CNT_STAT_CAPNEW n.val).addr := cntCap_ne_stat
  rw [State.captured, State.fld_setPre, State.setBit, State.fld_setFld_reg _ _ _ _ hnew,
    State.fld_setFld_self _ _ _ (by simp [Fld.fits, F.CNT_CAP_CAP])]
  exact Nat.mod_eq_of_lt State.count_lt

theorem State.captured_new : (s.captured n).flag (F.CNT_STAT_CAPNEW n.val) = true := by
  rw [State.captured, State.flag_setPre, State.flag_setBit_self _ _ (by simp [Fld.fits, F.CNT_STAT_CAPNEW]) Nat.one_pos]

theorem State.captured_ovr :
    (s.captured n).flag (F.CNT_STAT_CAPOVR n.val) = (s.flag (F.CNT_STAT_CAPOVR n.val) || s.flag (F.CNT_STAT_CAPNEW n.val)) := by
  have hcap : (F.CNT_STAT_CAPOVR n.val).addr ≠ (F.CNT_CAP_CAP n.val).addr := cntCap_ne_stat.symm
  rw [State.captured, State.flag_setPre, State.flag_setBit_other _ _ _ (Or.inl (by decide : 3 + 1 ≤ 4)),
    State.flag_of_reg (State.reg_setFld_ne _ _ _ _ hcap), State.flag_raise_self (by simp [Fld.fits, F.CNT_STAT_CAPOVR]) Nat.one_pos]

theorem State.captured_taken : ((s.captured n).pre n).capDue = false := by rw [State.captured, State.pre_setPre_self]

/-- A lead over the count is a value over the count that a due pulse leaves (08 R355). -/
theorem State.setCrel_eq {v : Word} (h : (s.pre n).due = true → s.evOff n) :
    s.setCrel n v = s.setCmpv n (BitVec.ofNat 32 ((s.countDue n).fld (F.CNT_COUNT_COUNT n.val)) + leadOf v) := by
  obtain ⟨-, hdue, -, -⟩ := State.countDue_counted h
  rw [State.setCrel, State.setCmpv, State.countDue_none hdue]
  rfl

theorem State.setCmpv_eq {v : Word} :
    s.setCmpv n v = ((s.countDue n).setFld (F.CNT_CMPV_CMPV n.val) v.toNat).raise
      (passed v (BitVec.ofNat 32 ((s.countDue n).fld (F.CNT_COUNT_COUNT n.val)))) (F.CNT_STAT_LATE n.val) := rfl

/-- A value judged against a count (08 R355). -/
theorem passed_count {v : Word} {c : Nat} (h : c < 2 ^ 32) :
    passed v (BitVec.ofNat 32 c) = (decide (v.toNat = c) || decide (2 ^ 31 ≤ (v - BitVec.ofNat 32 c).toNat)) := by
  have hv : v = BitVec.ofNat 32 c ↔ v.toNat = c := by rw [← BitVec.toNat_inj, BitVec.toNat_ofNat, Nat.mod_eq_of_lt h]
  rw [passed_eq, decide_eq_decide.mpr hv]

/-- What a compare value set leaves: the value, and the count that a due pulse makes, LATE judged against it (08 R355, R356). -/
structure State.CmpvSet (s u : State) (n : Fin 8) (x : Word) (c : Nat) : Prop where
  cmpv : u.fld (F.CNT_CMPV_CMPV n.val) = x.toNat
  count : u.fld (F.CNT_COUNT_COUNT n.val) = c
  due : (u.pre n).due = false
  late : u.flag (F.CNT_STAT_LATE n.val) =
    (s.flag (F.CNT_STAT_LATE n.val) || decide (x.toNat = c) || decide (2 ^ 31 ≤ (x - BitVec.ofNat 32 c).toNat))
  keeps : Keeps [(F.CNT_CMPV_CMPV n.val).addr, (F.CNT_COUNT_COUNT n.val).addr, (F.CNT_STAT_CMPF n.val).addr] s u

theorem State.setCmpv_sets {x : Word} (h : (s.pre n).due = true → s.evOff n) :
    s.CmpvSet (s.setCmpv n x) n x ((s.countDue n).fld (F.CNT_COUNT_COUNT n.val)) := by
  obtain ⟨-, hdue, hlate, hkeeps⟩ := State.countDue_counted h
  have hc := (s.countDue n).count_lt (n := n)
  rw [State.setCmpv_eq]
  generalize s.countDue n = u at hdue hlate hkeeps hc ⊢
  have hstat : (F.CNT_STAT_LATE n.val).addr ≠ (F.CNT_CMPV_CMPV n.val).addr := by simp [F.CNT_STAT_LATE, F.CNT_CMPV_CMPV]
  have hcount : (F.CNT_COUNT_COUNT n.val).addr ≠ (F.CNT_CMPV_CMPV n.val).addr := by simp [F.CNT_COUNT_COUNT, F.CNT_CMPV_CMPV]
  have hlater : (F.CNT_STAT_LATE n.val).addr ≠ (F.CNT_COUNT_COUNT n.val).addr := cntCount_ne_stat.symm
  refine ⟨?cmpv, ?count, ?due, ?late, ?keeps⟩
  case cmpv =>
    rw [State.fld_raise_other (Or.inl hstat), State.fld_setFld_self _ _ _ (by simp [Fld.fits, F.CNT_CMPV_CMPV])]
    exact Nat.mod_eq_of_lt (BitVec.isLt _)
  case count => rw [State.fld_raise_other (Or.inl hlater), State.fld_setFld_reg _ _ _ _ hcount]
  case due => rw [State.pre_raise, State.pre_setFld, hdue]
  case late =>
    rw [State.flag_raise_self (by simp [Fld.fits, F.CNT_STAT_LATE]) Nat.one_pos, State.flag_of_reg (State.reg_setFld_ne _ _ _ _ hstat), hlate,
      passed_count hc, Bool.or_assoc]
  case keeps =>
    exact ((hkeeps.mono (List.subset_cons_self _ _)).setFld (by simp)).raise (by simp [F.CNT_STAT_LATE, F.CNT_STAT_CMPF])

end
end Sys2Proof.Machine

section
open Sys2Proof Sys2Proof.Machine

/-- Settles O42: one count is `State.Counted`, which every command that counts a pulse comes to; the others write a few registers of the counter. -/
theorem countersCount : Obligations.CountersCount := by
  intro s n v hq cnt ctl stat now' still
  refine ⟨fun hrun hhas hoff => ?runs, fun hc hdue hN => ?edge, fun hon hhas hlit hdue hcmp hovf hmode => ?counts,
    fun hc hsrc hdue honly hstill => ?xt32m, fun hon hhas hlit hdue hcap => ?captures, fun hrun hhas => ?writes⟩
  case runs =>
    obtain ⟨p, hexec⟩ := exec_counterRun_starts hrun hhas hoff
    have hkeeps : Keeps [ctl] s { s.counterStarted n with power := p } := (s.counterStarted_keeps (n := n)).power
    obtain ⟨hacc, hlong⟩ := s.counterStarted_pre (n := n)
    exact hkeeps.gives hq hexec ⟨s.counterStarted_run (n := n), hacc, hlong, hkeeps⟩
  case edge =>
    intro u last
    have hu : u = s.setPre n ((s.pre n).edge (s.fld (F.CNT_DIV_N n.val))) := by
      rw [← Nat.max_eq_right hN]
      exact State.sourceEdge_counts hc hdue
    rw [hu]
    refine ⟨?_, rfl⟩
    rw [State.pre_setPre_self, Prescaler.edge_eq hdue]
  case counts =>
    have hcounted := State.count_counted (s := s) (n := n) ⟨hcmp, hovf, hmode⟩
    refine hcounted.keeps.gives hq ?_ ⟨hcounted.count, hcounted.cmpf, hcounted.ovf, ?_, ?_, ?_, hcounted.keeps⟩
    · rw [exec_counterIncrement, execCounterIncrement, State.countersUp, hon, hhas, hlit, hdue]
      rfl
    · rw [hcounted.pre]
      exact BitVec.toNat_ofNat _ _
    · rw [hcounted.pre]
      exact decide_eq_true_iff
    · rw [hcounted.pre]
      rfl
  case xt32m =>
    intro last
    have hedge := Prescaler.edge_eq (k := max 1 (s.fld (F.CNT_DIV_N n.val))) hdue
    have hexec := exec_counterIncrement_xt32m hc hsrc hdue honly
    generalize (s.pre n).edge (max 1 (s.fld (F.CNT_DIV_N n.val))) = p at hedge hexec
    have hevents : ((s.setPre n p).pre n).due = true → (s.setPre n p).evOff n := fun _ => hstill
    have hedges := State.countDue_edges hevents
    obtain ⟨hcount, hcounted, -, hkeeps⟩ := State.countDue_counted hevents
    have hframe : Keeps [(F.CNT_COUNT_COUNT n.val).addr, stat] s ((s.setPre n p).countDue n) := hkeeps
    refine hframe.gives hq hexec ⟨hcount.trans ?_, hedges.trans ?_, hcounted, hframe⟩
    · rw [State.pre_setPre_self, hedge]
      exact if_congr decide_eq_true_iff rfl rfl
    · rw [State.pre_setPre_self, hedge]
  case captures =>
    refine State.captured_keeps.gives hq ?_ ⟨State.captured_cap, State.captured_new, State.captured_ovr, State.captured_taken, State.captured_keeps⟩
    rw [exec_counterCapture, execCounterCapture, State.countersUp, hon, hhas, hlit, hcap, State.capture_eq hdue]
    rfl
  case writes =>
    have hwrites : s.cntWrites = true := by rw [State.cntWrites, hrun, hhas]; rfl
    intro sets
    refine ⟨fun hstill => ?_, fun hoff => ?_, fun hon => ?_⟩
    · obtain ⟨hcount, -, -, -⟩ := State.countDue_counted hstill
      have hsets (i : Instr) (x : Word) (hi : exec i s = ok (s.setCmpv n x)) : sets i x := by
        obtain ⟨hcmpv, hnow, hdue, hlate, hkeeps⟩ := State.setCmpv_sets (x := x) hstill
        rw [hcount] at hnow hlate
        exact hkeeps.gives hq hi ⟨hcmpv, hnow, hdue, hlate, hkeeps⟩
      refine ⟨hsets _ _ ?_, hsets _ _ ?_⟩
      · rw [exec_cntCmpvWrite, execCntCmpvWrite, if_pos hwrites]
      · rw [exec_cntCrel, execCntCrel, if_pos hwrites, State.setCrel_eq hstill, hcount]
        rfl
    · rw [exec_cntCountWrite, execCntCountWrite, if_pos hwrites, State.setCount, if_neg (by rw [hoff]; decide)]
      exact ok_of _ hq
    · rw [exec_cntCountWrite, execCntCountWrite, if_pos hwrites, State.setCount, if_pos hon]
      exact ok_of _ hq

end

namespace Sys2Proof.Machine

/-! ## The backup domain's record and registers -/

section
variable {s u : State} {l : List Nat} {f : Fld} {b : Backup}

theorem Keeps.setReg {a : Nat} {v : Word} (h : Keeps l s u) (ha : a ∈ l) : Keeps l s (u.setReg a v) :=
  ⟨fun _ hk => (u.reg_setReg_ne v (ne_of_mem_of_not_mem ha hk).symm).trans (h.reg hk), h.2⟩

theorem Keeps.setBak (h : Keeps l s u) : Keeps l s (u.setBak b) := h

theorem Keeps.trans {v : State} (h : Keeps l s u) (k : Keeps l u v) : Keeps l s v := by
  obtain ⟨hregs, hmem, hthreads, hledger⟩ := h
  obtain ⟨kregs, kmem, kthreads, kledger⟩ := k
  exact ⟨fun a ha => (kregs a ha).trans (hregs a ha), kmem.trans hmem, kthreads.trans hthreads, kledger.trans hledger⟩

@[simp] theorem State.reg_setBak (a : Nat) : (s.setBak b).reg a = s.reg a := rfl
@[simp] theorem State.flag_setBak : (s.setBak b).flag f = s.flag f := rfl

@[simp] theorem State.raise_bak {c : Bool} : (s.raise c f).bak = s.bak := by
  obtain ⟨v, h⟩ := State.raise_live (s := s) (b := c) (f := f)
  rw [h]

/-- Every field of a register of zeros is zero. -/
theorem State.fld_of_reg_zero (h : s.reg f.addr = 0) : s.fld f = 0 := by
  rw [State.fld, h]
  simp [fldGet]

theorem State.flag_of_reg_zero (h : s.reg f.addr = 0) : s.flag f = false := by
  rw [State.flag, State.fld_of_reg_zero h]
  rfl

/-- A field holds no more than its width. -/
theorem State.fld_mod : s.fld f % 2 ^ f.w = s.fld f := Nat.mod_mod _ _

/-- A bit set in a field reads as set. -/
theorem State.fldBit_orFld_self {i : Nat} (hf : Fld.fits f) (hi : i < f.w) : (s.orFld f (2 ^ i)).fldBit f i = true := by
  rw [State.fldBit, State.orFld, s.fld_setFld_self f _ hf, Nat.testBit_mod_two_pow, Nat.testBit_or, Nat.testBit_two_pow_self, Bool.or_true,
    decide_eq_true hi]
  rfl

/-! ## The shadow of the calendar (09 R380 to R382) -/

theorem Calendar.timeWord_eq {c : Calendar} : c.timeWord = BitVec.ofNat 32 (c.sec + 256 * c.min + 65536 * c.hour) := by
  rw [Calendar.timeWord, Nat.mul_comm c.min, Nat.mul_comm c.hour]

theorem Calendar.dateWord_eq {c : Calendar} :
    c.dateWord = BitVec.ofNat 32 (c.day + 256 * c.month + 4096 * c.wday + 65536 * c.year) := by
  rw [Calendar.dateWord, Nat.mul_comm c.month, Nat.mul_comm c.wday, Nat.mul_comm c.year]

/-- The shadow group and the register that tells of the freeze. -/
def shadowRegs : List Nat := [0x50000000, 0x50000004, 0x50000008, 0x5000000C, 0x50000010]

/-- What a freeze leaves: the calendar and the tick in the shadow, and the freeze's age at zero. -/
structure State.Shadowed (s u : State) : Prop where
  frozen : u.flag F.CAL_STAT_FROZEN = true
  sub : u.reg F.CAL_SUB_SUB.addr = s.bak.cal.subWord
  time : u.reg F.CAL_TIME_SEC.addr = s.bak.cal.timeWord
  date : u.reg F.CAL_DATE_DAY.addr = s.bak.cal.dateWord
  tick : u.reg F.CAL_FTICK_TICK.addr = s.tick32
  bak : u.bak = { s.bak with age := 0 }
  keeps : Keeps shadowRegs s u

theorem State.calFreeze_shadowed (h : s.flag F.CAL_STAT_FROZEN = false) : s.Shadowed s.calFreeze := by
  rw [State.calFreeze, h, if_neg Bool.false_ne_true]
  refine ⟨?frozen, ?sub, ?time, ?date, ?tick, rfl, ?keeps⟩
  case frozen => exact State.flag_setBit_self _ _ (by simp [Fld.fits, F.CAL_STAT_FROZEN]) Nat.one_pos
  case keeps =>
    have hshadow : Keeps shadowRegs s s := .refl
    exact ((((hshadow.setReg (by decide)).setReg (by decide)).setReg (by decide)).setReg (by decide)).setBak.setBit (by decide)
  all_goals
    rw [State.setBit, State.reg_setFld_ne _ _ _ _ (by decide), State.reg_setBak]
  case tick => exact State.reg_setReg_self _ _ _
  all_goals rw [State.reg_setReg_ne _ _ (by decide)]
  case date => exact State.reg_setReg_self _ _ _
  all_goals rw [State.reg_setReg_ne _ _ (by decide)]
  case time => exact State.reg_setReg_self _ _ _
  case sub => rw [State.reg_setReg_ne _ _ (by decide), State.reg_setReg_self]

theorem State.calFreeze_frozen (h : s.flag F.CAL_STAT_FROZEN = true) : s.calFreeze = s := if_pos h

/-- The read of CAL_CLOSE leaves no freeze, whether one was held or not. -/
theorem State.calClose_thawed : s.calClose.2.flag F.CAL_STAT_FROZEN = false ∧ s.calClose.2.bak = s.bak ∧
    Keeps [F.CAL_STAT_FROZEN.addr] s s.calClose.2 := by
  rw [State.calClose]
  cases h : s.flag F.CAL_STAT_FROZEN with
  | false => exact ⟨h, rfl, .refl⟩
  | true =>
    exact ⟨State.flag_clrFld_self _ _ (by simp [Fld.fits, F.CAL_STAT_FROZEN]), rfl, Keeps.refl.clrFld (List.mem_singleton_self _)⟩

end

/-! ## The carry of the calendar (09 R376 to R379) -/

section
variable {c : Calendar}

/-- Every field in its range (09 Table 9.1). -/
abbrev Calendar.inRange (c : Calendar) : Prop :=
  c.sub < 1024 ∧ c.sec < 60 ∧ c.min < 60 ∧ c.hour < 24 ∧ 1 ≤ c.wday ∧ c.wday ≤ 7 ∧ 2000 ≤ c.year ∧ c.year ≤ 2199 ∧ 1 ≤ c.month ∧ c.month ≤ 12 ∧
    1 ≤ c.day ∧ c.day ≤ monthDays c.year c.month

/-- The last SUB of a day. -/
abbrev Calendar.dayEnds (c : Calendar) : Prop := c.hour = 23 ∧ c.min = 59 ∧ c.sec = 59 ∧ c.sub = 1023

/-- The last SUB of 2199. -/
abbrev Calendar.isLast (c : Calendar) : Prop :=
  c.year = 2199 ∧ c.month = 12 ∧ c.day = 31 ∧ c.hour = 23 ∧ c.min = 59 ∧ c.sec = 59 ∧ c.sub = 1023

/-- The day after a date, as day, month and year. -/
def Calendar.tomorrow (c : Calendar) : Nat × Nat × Nat :=
  if c.day < monthDays c.year c.month then (c.day + 1, c.month, c.year)
  else if c.month < 12 then (1, c.month + 1, c.year) else (1, 1, c.year + 1)

theorem monthDays_pos (y m : Nat) : 1 ≤ monthDays y m := by
  unfold monthDays
  split_ifs <;> decide

theorem monthDays_december (y : Nat) : monthDays y 12 = 31 := rfl

/-- What one SUB makes of a calendar in range, and whether it was the last. -/
structure Calendar.Carried (c k : Calendar) (wrap : Bool) : Prop where
  inRange : k.inRange
  sub : k.sub = (c.sub + 1) % 1024
  within : c.sub < 1023 → k = { c with sub := c.sub + 1 }
  sec : ¬ c.isLast → c.sub = 1023 → k.sec = (c.sec + 1) % 60
  midnight : c.dayEnds → ¬ c.isLast → k.wday = c.wday % 7 + 1 ∧ (k.day, k.month, k.year) = c.tomorrow
  last : c.isLast → k = Calendar.reset
  wrap : wrap = decide c.isLast

theorem Calendar.isLast_dayEnds (h : c.isLast) : c.dayEnds := by
  obtain ⟨-, -, -, hday⟩ := h
  exact hday

/-- A carry that ends within the day leaves the date, and the minute and hour where it ends at SUB. -/
theorem Calendar.carried_sameDay {sec min hour : Nat} (h : c.inRange) (hday : ¬ c.dayEnds)
    (hsec : sec = if c.sub < 1023 then c.sec else (c.sec + 1) % 60) (hwithin : c.sub < 1023 → min = c.min ∧ hour = c.hour) (hmin : min < 60)
    (hhour : hour < 24) : c.Carried { c with sub := (c.sub + 1) % 1024, sec := sec, min := min, hour := hour } false := by
  have hlast : ¬ c.isLast := fun hl => hday (c.isLast_dayEnds hl)
  obtain ⟨hsub, hs, -, -, hdate⟩ := h
  refine ⟨⟨Nat.mod_lt _ (by decide), ?_, hmin, hhour, hdate⟩, rfl, fun hlt => ?_, fun _ heq => ?_, fun hd => absurd hd hday,
    fun hl => absurd hl hlast, (decide_eq_false hlast).symm⟩
  · rw [hsec]
    split_ifs
    · exact hs
    · exact Nat.mod_lt _ (by decide)
  · obtain ⟨rfl, rfl⟩ := hwithin hlt
    rw [hsec, if_pos hlt, Nat.mod_eq_of_lt (by omega)]
  · rw [hsec, heq, if_neg (by decide)]

/-- The carry goes to the first of SUB, SEC, MIN and HOUR that has not reached its top. -/
theorem Calendar.next_withinDay (h : c.inRange) (hday : ¬ c.dayEnds) : c.Carried c.next.1 c.next.2.2 := by
  obtain ⟨hsub, hsec, hmin, hhour, -⟩ := id h
  have hcarried {sec min hour : Nat} := c.carried_sameDay (sec := sec) (min := min) (hour := hour) h hday
  rw [Calendar.dayEnds] at hday
  rw [Calendar.next]
  by_cases hs : c.sub < 1023
  · have hnext := hcarried (if_pos hs).symm (fun _ => ⟨rfl, rfl⟩) hmin hhour
    rw [Nat.mod_eq_of_lt (by omega)] at hnext
    rw [if_pos hs]
    exact hnext
  · have htop : (c.sub + 1) % 1024 = 0 := by omega
    rw [htop, if_neg hs] at hcarried
    rw [if_neg hs]
    by_cases hse : c.sec < 59
    · rw [if_pos hse]
      exact hcarried (by omega) (fun hlt => absurd hlt hs) hmin hhour
    rw [if_neg hse]
    by_cases hmi : c.min < 59
    · rw [if_pos hmi]
      exact hcarried (by omega) (fun hlt => absurd hlt hs) (by omega) hhour
    · have hho : c.hour < 23 := by omega
      rw [if_neg hmi, if_pos hho]
      exact hcarried (by omega) (fun hlt => absurd hlt hs) (by decide) (by omega)

/-- The day after a date in range that is not the last is in range. -/
theorem Calendar.tomorrow_inRange {d m y : Nat} (h : c.inRange) (hlast : ¬ (c.year = 2199 ∧ c.month = 12 ∧ c.day = 31))
    (ht : c.tomorrow = (d, m, y)) : 2000 ≤ y ∧ y ≤ 2199 ∧ 1 ≤ m ∧ m ≤ 12 ∧ 1 ≤ d ∧ d ≤ monthDays y m := by
  obtain ⟨-, -, -, -, -, -, hy, hy', hm, hm', hd, hd'⟩ := h
  rw [Calendar.tomorrow] at ht
  split_ifs at ht with hday hmonth <;> obtain ⟨rfl, rfl, rfl⟩ : _ = d ∧ _ = m ∧ _ = y := by simpa only [Prod.mk.injEq] using ht
  · exact ⟨hy, hy', hm, hm', Nat.le_add_left _ _, hday⟩
  · exact ⟨hy, hy', Nat.le_add_left _ _, hmonth, Nat.le_refl _, monthDays_pos _ _⟩
  · have hdec : c.month = 12 := by omega
    rw [hdec, monthDays_december] at hday hd'
    exact ⟨by omega, by omega, by decide, by decide, Nat.le_refl _, monthDays_pos _ _⟩

/-- At the end of a day comes the next day's first SUB, and after 2199 the year 2000 (09 R379). -/
theorem Calendar.next_midnight (h : c.inRange) (hday : c.dayEnds) :
    c.next = if c.isLast then (Calendar.reset, true, true)
      else (⟨0, 0, 0, 0, c.wday % 7 + 1, c.tomorrow.1, c.tomorrow.2.1, c.tomorrow.2.2⟩, true, false) := by
  obtain ⟨-, -, -, -, -, -, -, hy, -, hm, -, hd⟩ := h
  obtain ⟨hho, hmi, hse, hsu⟩ := hday
  rw [Calendar.next, if_neg (by omega), if_neg (by omega), if_neg (by omega), if_neg (by omega), Calendar.tomorrow]
  by_cases hday : c.day < monthDays c.year c.month
  · have hlast : ¬ c.isLast := by
      rintro ⟨-, hdec, h31, -⟩
      rw [hdec, h31, monthDays_december] at hday
      omega
    rw [if_pos hday, if_pos hday, if_neg hlast]
  rw [if_neg hday, if_neg hday]
  by_cases hmonth : c.month < 12
  · have hlast : ¬ c.isLast := fun ⟨_, hdec, _⟩ => by omega
    rw [if_pos hmonth, if_pos hmonth, if_neg hlast]
  have hdec : c.month = 12 := by omega
  rw [hdec, monthDays_december] at hday hd
  rw [if_neg hmonth, if_neg hmonth]
  by_cases hyear : c.year < 2199
  · have hlast : ¬ c.isLast := fun ⟨h2199, _⟩ => by omega
    rw [if_pos hyear, if_neg hlast]
  · have hlast : c.isLast := ⟨by omega, hdec, by omega, hho, hmi, hse, hsu⟩
    rw [if_neg hyear, if_pos hlast]

theorem Calendar.next_carried (h : c.inRange) : c.Carried c.next.1 c.next.2.2 := by
  by_cases hday : c.dayEnds
  case neg => exact c.next_withinDay h hday
  rw [Calendar.next_midnight h hday]
  obtain ⟨hho, hmi, hse, hsu⟩ := id hday
  have hnot : ¬ c.sub < 1023 := by omega
  by_cases hlast : c.isLast
  · rw [if_pos hlast]
    exact ⟨by decide, by rw [hsu]; rfl, fun hlt => absurd hlt hnot, fun hl => absurd hlast hl, fun _ hl => absurd hlast hl, fun _ => rfl,
      (decide_eq_true hlast).symm⟩
  · rw [if_neg hlast]
    have hdate := Calendar.tomorrow_inRange h (fun ⟨hy, hm, hd⟩ => hlast ⟨hy, hm, hd, hday⟩) (rfl : c.tomorrow = (_, _, _))
    exact ⟨⟨Nat.succ_pos _, Nat.succ_pos _, Nat.succ_pos _, Nat.succ_pos _, Nat.le_add_left _ _, Nat.mod_lt _ (by decide), hdate⟩, by rw [hsu],
      fun hlt => absurd hlt hnot, fun _ _ => by rw [hse], fun _ _ => ⟨rfl, rfl⟩, fun hl => absurd hl hlast, (decide_eq_false hlast).symm⟩

end

/-! ## A SUB edge -/

section
variable {s : State} {mv : Nat} {sw : Bool}

/-- The outcome of a comparison of VBAK: VBLOW shows it, and LBV is set by the second low one in a row (09 R393). -/
def State.lbvJudged (s : State) (low : Bool) : State :=
  ((s.setFld F.CAL_STAT_VBLOW (if low then 1 else 0)).raise (low && s.bak.lowOnce) F.CAL_STAT_LBV).setBak { s.bak with lowOnce := low }

theorem State.lbvCompare_cases : s.lbvCompare mv sw = s ∨ ∃ low, s.lbvCompare mv sw = s.lbvJudged low := by
  rw [State.lbvCompare]
  split
  · exact .inl rfl
  · refine .inr ⟨decide (mv < lbvMv (s.fld F.CAL_CTL_LBVTH)), ?_⟩
    cases h : decide (mv < lbvMv (s.fld F.CAL_CTL_LBVTH)) && s.bak.lowOnce <;> simp [State.lbvJudged, State.raise, h]

/-- A comparison touches two flags of CAL_STAT, and no calendar. -/
theorem State.lbvCompare_flags : (s.lbvCompare mv sw).bak.cal = s.bak.cal ∧ (s.lbvCompare mv sw).flag F.CAL_STAT_WRAP = s.flag F.CAL_STAT_WRAP ∧
    Keeps [F.CAL_STAT_WRAP.addr] s (s.lbvCompare mv sw) := by
  obtain h | ⟨low, h⟩ := State.lbvCompare_cases (s := s) (mv := mv) (sw := sw) <;> rw [h]
  · exact ⟨rfl, rfl, .refl⟩
  · refine ⟨rfl, ?_, ((Keeps.refl.setFld (by decide)).raise (by decide)).setBak⟩
    rw [State.lbvJudged, State.flag_setBak, State.flag_raise_other (Or.inr (Or.inl (by decide))),
      State.flag_setFld_other _ _ _ _ (Or.inl (by decide))]

/-- A SUB edge that no set commits at moves the calendar one SUB on, and sets WRAP where it wraps (09 R376, R379). -/
theorem State.calCarry_carries : (s.calCarry mv sw).bak.cal = s.bak.cal.next.1 ∧
    (s.calCarry mv sw).flag F.CAL_STAT_WRAP = (s.flag F.CAL_STAT_WRAP || s.bak.cal.next.2.2) ∧
    Keeps [F.CAL_STAT_WRAP.addr] s (s.calCarry mv sw) := by
  rw [State.calCarry]
  obtain ⟨c, sec, wrap⟩ := s.bak.cal.next
  let v := (s.setBak { s.bak.edge (s.flag F.CAL_STAT_FROZEN) with cal := c }).raise wrap F.CAL_STAT_WRAP
  have hcal : v.bak.cal = c := congrArg Backup.cal State.raise_bak
  have hwrap : v.flag F.CAL_STAT_WRAP = (s.flag F.CAL_STAT_WRAP || wrap) :=
    State.flag_raise_self (by simp [Fld.fits, F.CAL_STAT_WRAP]) Nat.one_pos
  have hkeeps : Keeps [F.CAL_STAT_WRAP.addr] s v := Keeps.refl.setBak.raise (List.mem_singleton_self _)
  change (if sec then v.lbvCompare mv sw else v).bak.cal = c ∧ (if sec then v.lbvCompare mv sw else v).flag _ = _ ∧
    Keeps _ s (if sec then v.lbvCompare mv sw else v)
  cases sec with
  | false => exact ⟨hcal, hwrap, hkeeps⟩
  | true =>
    obtain ⟨hcal', hwrap', hkeeps'⟩ := v.lbvCompare_flags (mv := mv) (sw := sw)
    exact ⟨hcal'.trans hcal, hwrap'.trans hwrap, hkeeps.trans hkeeps'⟩

/-! ## Writes of the staged set (09 R385) -/

/-- Whether every field of a written time or date is in its range. -/
def setOk (date : Bool) (v : Word) : Bool := if date then dateOk v else timeOk v

/-- A write in range is staged without its unused bits; any other sets BADSET alone. -/
theorem State.calSet_eq {date : Bool} {v : Word} :
    s.calSet date v = if setOk date v then
        s.setStg (if date then 0x50000028 else 0x50000024) (v &&& (if date then 0x0FFF0F1F else 0x001F3F3F))
      else s.setBit F.CAL_STAT_BADSET := by
  cases date <;> rfl

end
end Sys2Proof.Machine

section
open Sys2Proof Sys2Proof.Machine

/-- Settles O43: a freeze leaves `State.Shadowed`, and one SUB makes of a calendar in range what `Calendar.Carried` says, by the cases of the carry. -/
theorem calendarKeepsTime : Obligations.CalendarKeepsTime := by
  refine ⟨fun s hq => ⟨fun hrun hopen => ?freezes, fun hrun hfrozen => ?frozen, fun hrun => ?closes, fun hfrozen hage => ?held⟩,
    fun s mv sw hq => ⟨fun hpend => ?commits, fun hpend hrange => ?carries⟩, fun s date v hq hrun => ⟨fun hgood => ?staged, fun hbad => ?ignored⟩⟩
  case freezes =>
    obtain ⟨hfrozen, hsub, htime, hdate, htick, hbak, hkeeps⟩ := State.calFreeze_shadowed hopen
    refine hkeeps.gives hq ?_ ⟨hfrozen, hsub, htime.trans Calendar.timeWord_eq, hdate.trans Calendar.dateWord_eq, htick, hbak, hkeeps⟩
    rw [exec_calFreezeRead, execCalFreezeRead, if_pos hrun]
  case frozen =>
    rw [exec_calFreezeRead, execCalFreezeRead, if_pos hrun, State.calFreeze_frozen hfrozen]
    exact ok_of _ hq
  case closes =>
    obtain ⟨hthawed, hbak, hkeeps⟩ := s.calClose_thawed
    refine hkeeps.gives hq ?_ ⟨hthawed, hbak, hkeeps⟩
    rw [exec_calCloseRead, execCalCloseRead, if_pos hrun]
  case held =>
    rw [exec_heldlong, execHeldlong, hfrozen, decide_eq_true hage]
    exact ok_of _ hq
  case commits =>
    have hkeeps : Keeps [0x5000002C] s s.calCommitEdge := Keeps.refl.setBak.setBak.clrFld (List.mem_singleton_self _)
    refine hkeeps.gives hq ?_ ⟨rfl, State.flag_clrFld_self _ _ (by simp [Fld.fits, F.SEAL_PEND]), hkeeps⟩
    rw [exec_calendarSubCarry, execCalendarSubCarry, if_pos hpend]
  case carries =>
    obtain ⟨hcal, hwrap, hkeeps⟩ := s.calCarry_carries (mv := mv) (sw := sw)
    obtain ⟨hin, hsub, hwithin, hsec, hmidnight, hlast, hwraps⟩ := Calendar.next_carried hrange
    rw [← hcal] at hin hsub hwithin hsec hmidnight hlast
    rw [hwraps] at hwrap
    refine hkeeps.gives hq ?_ ⟨hin, hsub, hwithin, hsec, fun hho hmi hse hsu => hmidnight ⟨hho, hmi, hse, hsu⟩, hlast, hwrap, hkeeps⟩
    rw [exec_calendarSubCarry, execCalendarSubCarry, if_neg (by rw [hpend]; decide)]
  case staged =>
    have hset := (State.calSet_eq (s := s) (date := date) (v := v)).trans (if_pos hgood)
    refine ⟨_, ?_, State.stg_setStg_self _ _ _, fun a ha => State.stg_setStg_ne _ _ ha, rfl⟩
    rw [exec_calSetWrite, execCalSetWrite, if_pos hrun, hset]
    exact ok_of _ hq
  case ignored =>
    have hset := (State.calSet_eq (s := s) (date := date) (v := v)).trans (if_neg (Bool.not_eq_true _ ▸ hbad))
    rw [exec_calSetWrite, execCalSetWrite, if_pos hrun, hset]
    exact ok_of _ hq

end

namespace Sys2Proof.Machine

/-! ## The oscillator, a loss of state, and the tamper latch cleared -/

section
variable {s : State}

/-- The oscillator has stopped: OSF with OSC among its causes (09 R389). -/
def State.oscFailed (s : State) : State := ((s.setBit F.CAL_STAT_OSF).orFld F.CAL_STAT_OSFWHY 2).setBak { s.bak with oscStopped := true }

theorem State.oscFailed_flags : s.oscFailed.flag F.CAL_STAT_OSF = true ∧ s.oscFailed.fldBit F.CAL_STAT_OSFWHY 1 = true ∧
    Keeps [F.CAL_STAT_OSF.addr] s s.oscFailed := by
  refine ⟨?_, State.fldBit_orFld_self (f := F.CAL_STAT_OSFWHY) (i := 1) (by simp [Fld.fits, F.CAL_STAT_OSFWHY]) (by decide),
    ((Keeps.refl.setBit (List.mem_singleton_self _)).orFld (by decide)).setBak⟩
  rw [State.oscFailed, State.flag_setBak, State.orFld, State.flag_setFld_other _ _ _ _ (Or.inr (by decide)),
    State.flag_setBit_self _ _ (by simp [Fld.fits, F.CAL_STAT_OSF]) Nat.one_pos]

theorem smGet_kept {α : Type} (d : Nat → α) (p : Nat → Bool) (m : List (Nat × α)) {k : Nat} (h : p k = false) :
    smGet d (smDrop p m) k = smGet d m k := by
  induction m with
  | nil => rfl
  | cons q r ih =>
    by_cases hq : p q.1 = true
    · have hk : k ≠ q.1 := fun e => Bool.false_ne_true (h.symm.trans (e ▸ hq))
      rw [smGet, if_neg hk, ← ih, smDrop, List.filter_cons_of_neg (by rw [hq]; decide), smDrop]
    · rw [smDrop, List.filter_cons_of_pos (by rw [Bool.eq_false_of_not_eq_true hq]; rfl), smGet, smGet]
      exact if_congr Iff.rfl rfl ih

theorem State.reg_resetRegs_kept {p : Nat → Bool} {a : Nat} (h : p a = false) : (s.resetRegs p).reg a = s.reg a := smGet_kept _ _ _ h

/-- A loss of state puts the registers of the domain's own block, and no others, at their reset values (09 R404, R405). -/
theorem State.backupRestart_regs : (∀ a, a / 0x1000 = 0x50000 → s.backupRestart.reg a = resetWord a) ∧
    ∀ a, a / 0x1000 ≠ 0x50000 → s.backupRestart.reg a = s.reg a :=
  ⟨fun a ha => s.reg_resetRegs (p := (· / 0x1000 == 0x50000)) (a := a) (beq_iff_eq.mpr ha),
    fun a ha => s.reg_resetRegs_kept (p := (· / 0x1000 == 0x50000)) (a := a) (beq_false_of_ne ha)⟩

/-- The registers of the tamper latch. -/
def latchRegs : List Nat := [0x50000040, 0x50000044, 0x50000048, 0x5000004C]

/-- The key empties the latch (09 R399). -/
theorem State.tamperClear_empty {v : Word} (h : v.toNat % 256 = 0x5C) :
    (s.tamperClear v).flag F.CAL_TSRC_VALID = false ∧ (s.tamperClear v).fld F.CAL_TSRC_MORE = 0 ∧ Keeps latchRegs s (s.tamperClear v) := by
  have hkeeps : Keeps latchRegs s s := .refl
  rw [State.tamperClear, if_pos h]
  exact ⟨State.flag_of_reg_zero (State.reg_setReg_self _ _ _), State.fld_of_reg_zero (State.reg_setReg_self _ _ _),
    (((hkeeps.setReg (by decide)).setReg (by decide)).setReg (by decide)).setReg (by decide)⟩

theorem State.tamperClear_other {v : Word} (h : v.toNat % 256 ≠ 0x5C) : s.tamperClear v = s := if_neg h

/-! ## A tamper event at the latch (09 R395, R396) -/

/-- What the first tamper event leaves in the latch: the loop, how it was found, and the calendar. -/
structure State.Latched (s u : State) (loop : Nat) (passive noVdd : Bool) : Prop where
  valid : u.flag F.CAL_TSRC_VALID = true
  loop : u.fld F.CAL_TSRC_LOOP = loop % 8
  passive : u.flag F.CAL_TSRC_PASSIVE = passive
  noVdd : u.flag F.CAL_TSRC_NOVDD = noVdd
  calBad : u.flag F.CAL_TSRC_CALBAD = s.flag F.CAL_STAT_OSF
  sub : u.reg 0x50000040 = s.bak.cal.subWord
  time : u.reg 0x50000044 = s.bak.cal.timeWord
  bak : u.bak = s.bak
  keeps : Keeps latchRegs s u

theorem State.tamperLatch_again {loop : Nat} {passive noVdd : Bool} (h : s.flag F.CAL_TSRC_VALID = true) :
    s.tamperLatch loop passive noVdd = s.satInc F.CAL_TSRC_MORE := if_pos h

/-- The calendar in the latch. -/
def State.tamperStamped (s : State) : State :=
  ((s.setReg 0x50000040 s.bak.cal.subWord).setReg 0x50000044 s.bak.cal.timeWord).setReg 0x50000048 s.bak.cal.dateWord

/-- The source of an event in CAL_TSRC. -/
def State.tamperSourced (s : State) (loop : Nat) (passive noVdd : Bool) : State :=
  ((((s.setFld F.CAL_TSRC_LOOP loop).setFld F.CAL_TSRC_PASSIVE (if passive then 1 else 0)).setFld F.CAL_TSRC_NOVDD (if noVdd then 1 else 0)).setFld
    F.CAL_TSRC_CALBAD (s.fld F.CAL_STAT_OSF)).setBit F.CAL_TSRC_VALID

section
variable {loop : Nat} {passive noVdd : Bool}

theorem State.tamperSourced_keeps : Keeps [F.CAL_TSRC_VALID.addr] s (s.tamperSourced loop passive noVdd) :=
  ((((Keeps.refl.setFld (by decide)).setFld (by decide)).setFld (by decide)).setFld (by decide)).setBit (by decide)

theorem State.tamperSourced_valid : (s.tamperSourced loop passive noVdd).flag F.CAL_TSRC_VALID = true :=
  State.flag_setBit_self _ _ (by simp [Fld.fits, F.CAL_TSRC_VALID]) Nat.one_pos

theorem State.tamperSourced_calBad : (s.tamperSourced loop passive noVdd).flag F.CAL_TSRC_CALBAD = s.flag F.CAL_STAT_OSF := by
  rw [State.tamperSourced, State.flag_setBit_other _ _ _ (Or.inl (by decide)), State.flag,
    State.fld_setFld_self _ _ _ (by simp [Fld.fits, F.CAL_TSRC_CALBAD])]
  exact congrArg (· != 0) State.fld_mod

theorem State.tamperSourced_noVdd : (s.tamperSourced loop passive noVdd).flag F.CAL_TSRC_NOVDD = noVdd := by
  rw [State.tamperSourced, State.flag_setBit_other _ _ _ (Or.inl (by decide)), State.flag_setFld_other _ _ _ _ (Or.inr (by decide))]
  exact State.flag_setFld_bool (by simp [Fld.fits, F.CAL_TSRC_NOVDD]) rfl

theorem State.tamperSourced_passive : (s.tamperSourced loop passive noVdd).flag F.CAL_TSRC_PASSIVE = passive := by
  rw [State.tamperSourced, State.flag_setBit_other _ _ _ (Or.inl (by decide)), State.flag_setFld_other _ _ _ _ (Or.inr (by decide)),
    State.flag_setFld_other _ _ _ _ (Or.inr (by decide))]
  exact State.flag_setFld_bool (by simp [Fld.fits, F.CAL_TSRC_PASSIVE]) rfl

theorem State.tamperSourced_loop : (s.tamperSourced loop passive noVdd).fld F.CAL_TSRC_LOOP = loop % 8 := by
  rw [State.tamperSourced, State.setBit, State.fld_setFld_other _ _ _ _ (Or.inl (by decide)), State.fld_setFld_other _ _ _ _ (Or.inr (by decide)),
    State.fld_setFld_other _ _ _ _ (Or.inr (by decide)), State.fld_setFld_other _ _ _ _ (Or.inr (by decide))]
  exact State.fld_setFld_self _ _ _ (by simp [Fld.fits, F.CAL_TSRC_LOOP])

theorem State.tamperStamped_keeps : Keeps latchRegs s s.tamperStamped := by
  have hkeeps : Keeps latchRegs s s := .refl
  exact ((hkeeps.setReg (by decide)).setReg (by decide)).setReg (by decide)

theorem State.tamperStamped_sub : s.tamperStamped.reg 0x50000040 = s.bak.cal.subWord := by
  rw [State.tamperStamped, State.reg_setReg_ne _ _ (by decide), State.reg_setReg_ne _ _ (by decide), State.reg_setReg_self]

theorem State.tamperStamped_time : s.tamperStamped.reg 0x50000044 = s.bak.cal.timeWord := by
  rw [State.tamperStamped, State.reg_setReg_ne _ _ (by decide), State.reg_setReg_self]

theorem State.tamperLatch_eq (h : s.flag F.CAL_TSRC_VALID = false) :
    s.tamperLatch loop passive noVdd = s.tamperStamped.tamperSourced loop passive noVdd := by
  have hosf : s.tamperStamped.fld F.CAL_STAT_OSF = s.fld F.CAL_STAT_OSF := State.tamperStamped_keeps.fld (by decide)
  rw [State.tamperLatch, h, if_neg Bool.false_ne_true, State.tamperSourced, hosf]
  rfl

theorem State.tamperLatch_first (h : s.flag F.CAL_TSRC_VALID = false) : s.Latched (s.tamperLatch loop passive noVdd) loop passive noVdd := by
  have hsource : Keeps [F.CAL_TSRC_VALID.addr] s.tamperStamped (s.tamperStamped.tamperSourced loop passive noVdd) := State.tamperSourced_keeps
  rw [State.tamperLatch_eq h]
  exact {
    valid := State.tamperSourced_valid
    loop := State.tamperSourced_loop
    passive := State.tamperSourced_passive
    noVdd := State.tamperSourced_noVdd
    calBad := State.tamperSourced_calBad.trans (State.flag_of_reg (State.tamperStamped_keeps.reg (by decide)))
    sub := (hsource.reg (by decide)).trans State.tamperStamped_sub
    time := (hsource.reg (by decide)).trans State.tamperStamped_time
    bak := rfl
    keeps := State.tamperStamped_keeps.trans (hsource.mono (by decide)) }

end

/-! ## The sense of the loops on VBAK (09 R398) -/

/-- A fold over the loops that acts at one loop alone is that loop's action. -/
theorem foldl_indices_only {α : Type} {p : Fin 8 → Bool} {f : α → Fin 8 → α} {a : α} {n : Fin 8} (hn : p n = true)
    (hm : ∀ m, m ≠ n → p m = false) : (indices 8).foldl (fun acc m => if p m then f acc m else acc) a = f a n := by
  have hp : p = (· == n) := by
    funext m
    by_cases h : m = n
    · rw [h, hn, beq_self_eq_true]
    · rw [hm m h, beq_false_of_ne h]
  rw [← List.foldl_filter, hp, indices_filter_eq]
  rfl

/-- The count of SUB edges to the next check begins anew. -/
def State.senseRestarted (s : State) : State := s.setBak { s.bak with sense := 0 }

/-- A check that finds one loop at fault is that loop's tamper event. -/
theorem exec_backupSenseCheck_finds {high low : BitVec 8} {n : Fin 8} (hvbak : s.bak.onVbak = true) (hsense : 32 ≤ s.bak.sense)
    (hen : s.fldBit F.CAL_BSENSE_EN n.val = true) (hbad : high.getLsbD n.val = false ∨ low.getLsbD n.val = true)
    (honly : ∀ m : Fin 8, m ≠ n → s.fldBit F.CAL_BSENSE_EN m.val = false) :
    exec (.backupSenseCheck high low) s = ok (s.senseRestarted.tamperLatch n.val true true) := by
  have hat : (s.fldBit F.CAL_BSENSE_EN n.val && (!high.getLsbD n.val || low.getLsbD n.val)) = true := by
    rcases hbad with h | h
    · rw [hen, h]
      rfl
    · rw [hen, h, Bool.or_true]
      rfl
  have hnone (m : Fin 8) (hm : m ≠ n) : (s.fldBit F.CAL_BSENSE_EN m.val && (!high.getLsbD m.val || low.getLsbD m.val)) = false := by
    rw [honly m hm, Bool.false_and]
  rw [exec_backupSenseCheck, execBackupSenseCheck, hvbak, decide_eq_true hsense, Bool.true_and, if_pos rfl]
  exact congrArg ok (foldl_indices_only (f := fun (acc : State) (m : Fin 8) => acc.tamperLatch m.val true true) hat hnone)

end
end Sys2Proof.Machine

section
open Sys2Proof Sys2Proof.Machine

/-- Settles O44: each event writes the domain's record and a few of its registers; a check that finds one loop at fault is that loop's tamper event,
which the latch takes (`State.Latched`) or only counts. -/
theorem backupDomain : Obligations.BackupDomain := by
  refine ⟨fun s n v hq => ⟨fun hn => ?fails, fun hvdd => ?loses, fun hvdd => ?vbak, fun hvdd => ?vdd, fun hrun hkey => ?clears,
      fun hrun hkey => ?stands⟩,
    fun s high low n hq hvbak hsense hen hbad honly => ⟨fun hempty => ?latches, fun hheld => ?counts⟩⟩
  case fails =>
    obtain ⟨hosf, hwhy, hkeeps⟩ := s.oscFailed_flags
    refine hkeeps.gives hq ?_ ⟨hosf, hwhy, rfl, hkeeps⟩
    rw [exec_backupOscFail, execBackupOscFail, if_pos hn]
    rfl
  case loses =>
    obtain ⟨hreset, hkept⟩ := s.backupRestart_regs
    refine ⟨s.backupRestart, ?_, rfl, hreset, hkept, rfl, rfl, rfl⟩
    rw [exec_backupStateLoss, execBackupStateLoss, hvdd]
    exact ok_of _ hq
  case vbak =>
    rw [exec_supplySwitchVbak, execSupplySwitchVbak, hvdd]
    exact ok_of _ hq
  case vdd =>
    rw [exec_supplySwitchVdd, execSupplySwitchVdd, if_pos hvdd]
    exact ok_of _ hq
  case clears =>
    obtain ⟨hvalid, hmore, hkeeps⟩ := s.tamperClear_empty hkey
    refine hkeeps.gives hq ?_ ⟨hvalid, hmore, hkeeps⟩
    rw [exec_tamperLatchClear, execTamperLatchClear, if_pos hrun]
  case stands =>
    rw [exec_tamperLatchClear, execTamperLatchClear, if_pos hrun, State.tamperClear_other hkey]
    exact ok_of _ hq
  case latches =>
    obtain ⟨hvalid, hloop, hpassive, hnovdd, hcalbad, hsub, htime, hbak, hkeeps⟩ :=
      State.tamperLatch_first (s := s.senseRestarted) (loop := n.val) (passive := true) (noVdd := true) hempty
    have hframe : Keeps latchRegs s _ := hkeeps
    exact hframe.gives hq (exec_backupSenseCheck_finds hvbak hsense hen hbad honly)
      ⟨hvalid, hloop.trans (Nat.mod_eq_of_lt n.isLt), hpassive, hnovdd, hcalbad, hsub, htime.trans Calendar.timeWord_eq, hbak, hframe⟩
  case counts =>
    rw [exec_backupSenseCheck_finds hvbak hsense hen hbad honly, State.tamperLatch_again (s := s.senseRestarted) hheld]
    exact ok_of _ hq

end

namespace Sys2Proof.Machine

/-! ## A descriptor taken, finished or refused: the radio, memory and the time -/

section
variable {s b : State} {u ch st : Nat} {d : Desc} {r : Word} {l : List Nat}

@[simp] theorem State.taken_radio : (s.taken u ch d).radio = s.radio := by
  obtain ⟨_, _, _, _, h⟩ := s.taken_frame u ch d
  rw [h]

/-- An engine that counts as active leaves every island lit or dark as it was (02 R84). -/
theorem State.touch_st (i j : Island) : ((s.touch i).island j).st = (s.island j).st := by
  unfold State.touch
  dsimp only
  split
  · by_cases hij : i = j
    · rw [hij, State.island_setIsland_self]
    · rw [State.island_setIsland_ne _ _ hij]
  · rfl

/-- The time base does not depend on a descriptor taken: its fraction looks at whether the steady island is dark only (08 R337). -/
theorem State.taken_timeBase : (s.taken u ch d).timeBase = s.timeBase := by
  have hfll : (s.taken u ch d).fllRuns = s.fllRuns := by
    have hst : ((s.taken u ch d).island .steady).st = (s.island .steady).st := State.touch_st _ _
    have hlive : (s.taken u ch d).live = s.live := State.taken_live
    have hpower : (s.taken u ch d).power = s.power := by
      obtain ⟨_, _, _, _, h⟩ := s.taken_frame u ch d
      rw [h]
    have hreg (a : Nat) : (s.taken u ch d).reg a = s.reg a := by rw [State.reg, hlive, State.reg]
    rw [State.fllRuns, State.on, State.pstate, State.fld_of_reg (hreg _), State.flag_of_reg (hreg _), hst, hpower]
    rfl
  have htime : (s.taken u ch d).time = s.time := by
    obtain ⟨_, _, _, _, h⟩ := s.taken_frame u ch d
    rw [h]
  simp only [State.timeBase, State.frac, htime, hfll]

@[simp] theorem State.finish_radio : (s.finish d st r).radio = s.radio := by
  obtain ⟨_, _, h⟩ := s.finish_frame d st r
  rw [h]

@[simp] theorem State.finish_mem : (s.finish d st r).mem = s.mem := by
  obtain ⟨_, _, h⟩ := s.finish_frame d st r
  rw [h]

@[simp] theorem State.refuse_radio : (s.refuse d st).radio = s.radio := State.finish_radio
@[simp] theorem State.refuse_mem : (s.refuse d st).mem = s.mem := State.finish_mem

theorem State.finish_reg (a : Nat) : (s.finish d st r).reg a = s.reg a := by rw [State.reg, State.finish_live, State.reg]

theorem Keeps.finish (h : Keeps l s b) : Keeps l s (b.finish d st r) := by
  obtain ⟨hregs, hmem, hthreads, hledger⟩ := h
  exact ⟨fun a ha => (State.finish_reg a).trans (hregs a ha), State.finish_mem.trans hmem, State.finish_threads.trans hthreads,
    State.finish_ledger.trans hledger⟩

theorem Keeps.radio (h : Keeps l s b) {x : Radio} : Keeps l s { b with radio := x } := h

theorem Keeps.issued (h : Keeps l s b) {q : List Nat} : Keeps l s { b with issued := q } := h

theorem Keeps.satInc {f : Fld} (h : Keeps l s b) (hf : f.addr ∈ l) : Keeps l s (b.satInc f) := h.setFld hf

end

/-! ## A field that another write leaves -/

section
variable {s : State} {f g : Fld} {v : Nat}

/-- A count that a saturating increment steps. -/
theorem State.fld_satInc_self (hf : Fld.fits f) : (s.satInc f).fld f = min (2 ^ f.w - 1) (s.fld f + 1) := by
  rw [State.satInc, State.fld_setFld_self _ _ _ hf, Nat.min_comm]
  exact Nat.mod_eq_of_lt (lt_of_le_of_lt (Nat.min_le_left _ _) (Nat.sub_lt (Nat.two_pow_pos _) Nat.one_pos))

theorem State.flag_setFld_reg (h : g.addr ≠ f.addr) : (s.setFld f v).flag g = s.flag g := congrArg (· != 0) (s.fld_setFld_reg f g v h)

end

/-! ## A descriptor of CHAN 0 is taken (10 R437, R444) -/

section
variable {s : State} {st : Nat} {r : Option Nat} {d : Desc}

theorem State.radioTake_offers (hidle : s.radio.op = none) (ho : s.offers 4 0 d) : s.radioTake d.op = (s.taken 4 0 d).radioRun d := by
  rw [State.radioTake, hidle]
  exact s.takeWith_offers 4 0 d _ _ ho (by simp)

theorem State.radioRun_refuses (h : s.radioCheck d = some (st, r)) : s.radioRun d = s.finishOpt d st r := by
  rw [State.radioRun, h]

theorem State.radioRun_holds (h : s.radioCheck d = none) :
    s.radioRun d = s.setOp (some ⟨d, false, s.timeBase.toNat, none, 0, 0, false, none, []⟩) := by
  rw [State.radioRun, h]
  rfl

/-- What refuses a descriptor leaves all but its ring's record, and gives the RESULT where a rule states one (06 R271). -/
theorem State.finishOpt_ends : EndedWith (s.finishOpt d st r) d st ∧
    (∀ k, r = some k → Finished (s.finishOpt d st r) d st (BitVec.ofNat 32 k)) ∧
    (s.finishOpt d st r).radio = s.radio ∧ (s.finishOpt d st r).live = s.live ∧ (s.finishOpt d st r).mem = s.mem ∧
    (s.finishOpt d st r).threads = s.threads := by
  cases r with
  | none =>
    exact ⟨s.refuse_ended d st, fun k hk => (Option.some_ne_none k hk.symm).elim,
      State.refuse_radio, State.refuse_live, State.refuse_mem, State.refuse_threads⟩
  | some k =>
    have hfin : Finished (s.finish d st (BitVec.ofNat 32 k)) d st (BitVec.ofNat 32 k) := s.finish_finished d st _
    refine ⟨?_, fun j hj => ?_, State.finish_radio, State.finish_live, State.finish_mem, State.finish_threads⟩
    · obtain ⟨x, hx, hidx, hstatus, -⟩ := hfin
      exact ⟨x, hx, hidx, hstatus⟩
    · obtain rfl := Option.some.inj hj
      exact hfin

theorem State.finishOpt_ledger : (s.finishOpt d st r).ledger = s.ledger := by
  cases r
  · exact State.refuse_ledger
  · exact State.finish_ledger

theorem State.taken_finishOpt {u ch : Nat} : TakenFrom s ((s.taken u ch d).finishOpt d st r) d := by
  cases r
  · exact State.taken_refuse
  · exact State.taken_finish

end

/-! ## Calibration (10 R425 to R427) -/

section
variable {s : State} {p : Fin 2}

/-- A calibration that is deferred counts, and waits with its path. -/
theorem State.calDeferred_waits : (s.calDeferred p).fld F.RAD_STAT_CALDEF = min 255 (s.fld F.RAD_STAT_CALDEF + 1) ∧
    (s.calDeferred p).flag F.RAD_STAT_CALSTALE = true ∧ (s.calDeferred p).radio.calWait = vset s.radio.calWait p true ∧
    (s.calDeferred p).radio.calAt = s.radio.calAt ∧ (s.calDeferred p).radio.op = s.radio.op ∧
    Keeps [F.RAD_STAT_LOCK.addr] s (s.calDeferred p) := by
  refine ⟨?_, State.flag_setBit_self _ _ (by simp [Fld.fits, F.RAD_STAT_CALSTALE]) Nat.one_pos, rfl, rfl, rfl,
    (Keeps.satInc (Keeps.radio .refl) (by decide)).setBit (by decide)⟩
  rw [State.calDeferred, State.setBit, State.fld_setFld_other _ _ _ _ (Or.inl (by decide)),
    State.fld_satInc_self (by simp [Fld.fits, F.RAD_STAT_CALDEF])]
  rfl

/-- A path calibrated: none waits for it any more, and CALSTALE stands for the other one alone. -/
theorem State.calibrated_done : (s.calibrated p).fld F.RAD_STAT_CALDEF = 0 ∧
    (s.calibrated p).flag F.RAD_STAT_CALSTALE = (vget s.radio.calWait (p + 1) && s.flag F.RAD_STAT_CALSTALE) ∧
    (s.calibrated p).radio = { s.radio with
      calAt := vset s.radio.calAt p (some s.now), calTemp := vset s.radio.calTemp p s.radio.temp
      calWait := vset s.radio.calWait p false, calFull := none, relock := vset s.radio.relock p false } ∧
    (s.calibrated p).flag F.RAD_STAT_LOCK = s.flag F.RAD_STAT_LOCK ∧ Keeps [F.RAD_STAT_LOCK.addr] s (s.calibrated p) := by
  have hfits : Fld.fits F.RAD_STAT_CALDEF := by simp [Fld.fits, F.RAD_STAT_CALDEF]
  have hkeeps {x : Radio} : Keeps [F.RAD_STAT_LOCK.addr] s (({ s with radio := x }).clrFld F.RAD_STAT_CALDEF) :=
    (Keeps.radio .refl).clrFld (by decide)
  unfold State.calibrated otherPath
  dsimp only
  cases hw : vget s.radio.calWait (p + 1) with
  | true =>
    exact ⟨State.fld_setFld_self _ _ _ hfits, State.flag_clrFld_other _ _ _ (Or.inr (by decide)), rfl,
      State.flag_clrFld_other _ _ _ (Or.inr (by decide)), hkeeps⟩
  | false =>
    refine ⟨?_, State.flag_clrFld_self _ _ (by simp [Fld.fits, F.RAD_STAT_CALSTALE]), rfl, ?_, hkeeps.clrFld (by decide)⟩
    · exact (State.fld_setFld_other _ _ _ _ (Or.inl (by decide))).trans (State.fld_setFld_self _ _ _ hfits)
    · exact (State.flag_clrFld_other _ _ _ (Or.inl (by decide))).trans (State.flag_clrFld_other _ _ _ (Or.inr (by decide)))

end
end Sys2Proof.Machine

namespace Sys2Proof.Machine

/-! ## What a transmission takes from the registers

Times, codes and amplitudes come from the radio's registers above RAD_STAT, so that LOCK changes none of them. -/

/-- The radio's registers from RAD_SYNCLO on read as before. -/
def State.SameAir (s b : State) : Prop := ∀ a, F.RAD_SYNCLO_LO.addr ≤ a → b.reg a = s.reg a

namespace State.SameAir

variable {s b : State} {p q len : Nat} {d : Desc}

theorem fld {f : Fld} (h : s.SameAir b) (hf : F.RAD_SYNCLO_LO.addr ≤ f.addr) : b.fld f = s.fld f := State.fld_of_reg (h _ hf)

theorem rate (h : s.SameAir b) : b.rate p = s.rate p := by
  rw [State.rate, h.fld (by simp [F.RAD_SYNCLO_LO, F.RAD_P_MOD_RATE]; omega), State.rate]

theorem lanternRate (h : s.SameAir b) : b.lanternRate p = s.lanternRate p := by
  rw [State.lanternRate, h.fld (by split <;> decide), State.lanternRate]

theorem rampStep (h : s.SameAir b) : b.rampStep q = s.rampStep q := by
  rw [State.rampStep, h.fld (by simp [F.RAD_SYNCLO_LO, F.RAD_WK_STEP_STEP]; omega), State.rampStep]

theorem rampCodes (h : s.SameAir b) : b.rampCodes q = s.rampCodes q :=
  List.map_congr_left fun k _ => by rw [h _ (by simp [F.RAD_SYNCLO_LO]; omega)]

theorem prelen (h : s.SameAir b) : b.fld (F.RAD_P_MOD_PRELEN p) = s.fld (F.RAD_P_MOD_PRELEN p) :=
  h.fld (by simp [F.RAD_SYNCLO_LO, F.RAD_P_MOD_PRELEN]; omega)

theorem airTime {n rate : Nat} (h : s.SameAir b) : b.airTime q n rate = s.airTime q n rate := by
  simp only [State.airTime, State.rampTime, h.rampStep]

theorem opUs (h : s.SameAir b) : b.opUs d = s.opUs d := by
  simp only [State.opUs, State.opTime, State.frameTime, State.frameChips, State.lanternTime, State.lanternReps, h.airTime, h.prelen, h.rate,
    h.lanternRate]

theorem emission {rate reps : Nat} {pattern : List Bool} (h : s.SameAir b) :
    b.emission p q rate pattern reps = s.emission p q rate pattern reps := by
  rw [State.emission, h.fld (by simp [F.RAD_SYNCLO_LO, F.RAD_P_FREQ_KHZ]; omega), h.fld (by simp [F.RAD_SYNCLO_LO, F.RAD_P_MOD_PWR]; omega),
    h.rampCodes, h.rampStep, State.emission]

theorem frameAir {l : List Byte} {crc white code ilv : Bool} (h : s.SameAir b) :
    b.frameAir p q l crc white code ilv = s.frameAir p q l crc white code ilv := by
  simp only [State.frameAir, h.emission, h.rate, h.prelen, h _ (show F.RAD_SYNCLO_LO.addr ≤ F.RAD_SYNCHI_HI.addr by decide),
    h _ (show F.RAD_SYNCLO_LO.addr ≤ F.RAD_SYNCLO_LO.addr by decide)]

theorem lanternAir {ms : Nat} {alarm : Bool} (h : s.SameAir b) : b.lanternAir p q ms alarm = s.lanternAir p q ms alarm := by
  simp only [State.lanternAir, h.emission, h.lanternRate, State.lanternReps]
  rw [h _ (by split <;> decide)]

end State.SameAir

/-! ## Buffers in plain memory -/

section
variable {s : State} {a n i : Nat} {r : Region}

/-- What lies in one range with a byte of plain memory is plain memory (03 Table 3.1). -/
theorem plainRam_within (hr : r.holds a = true) (hp : plainRam a = true) (hn : a + n ≤ r.stop) (hi : i < n) : plainRam (a + i) = true := by
  rw [Region.holds_iff] at hr
  simp only [plainRam, Bool.or_eq_true, Region.holds_iff, Region.stop] at hp hn ⊢
  cases r <;> dsimp only [Region.span] at * <;> omega

theorem State.region_holds (h : s.region a = some r) : r.holds a = true := by
  obtain ⟨hmap, -⟩ := Option.filter_eq_some_iff.mp h
  exact List.find?_some (p := fun r : Region => r.holds a) hmap

/-- A buffer that an engine can read, or can write, lies in one range (03 R139). -/
theorem State.engRead_plain (hr : s.engRead a n = .ok) (hp : plainRam a = true) (hi : i < n) : plainRam (a + i) = true := by
  unfold State.engRead at hr
  split at hr
  · cases hr
  · next r hreg =>
    split at hr
    · cases hr
    · next hstop => exact plainRam_within (State.region_holds hreg) hp (Nat.le_of_not_lt hstop) hi

theorem State.engWrite_plain (hw : s.engWrite a n = .ok) (hp : plainRam a = true) (hi : i < n) : plainRam (a + i) = true := by
  unfold State.engWrite at hw
  split at hw
  · cases hw
  · next r hreg =>
    split at hw
    · cases hw
    · next hstop => exact plainRam_within (State.region_holds hreg) hp (Nat.le_of_not_lt hstop) hi

/-- A read of plain memory leaves nothing beside its data. -/
theorem State.afterEngRead_plain (hp : plainRam a = true) : s.afterEngRead a n = s := by
  obtain ⟨-, hflash, hgnss⟩ := plain_elsewhere (a := a) (by rw [hp, Bool.true_or])
  simp only [State.afterEngRead, State.noteRead, hflash, hgnss, Bool.false_eq_true, if_false]

theorem State.engBytes_plain (hp : ∀ i, i < n → plainRam (a + i) = true) : s.engBytes a n = s.mem.bytes a n :=
  List.map_congr_left fun i hi => by
    obtain ⟨-, hflash, -⟩ := plain_elsewhere (a := a + i) (by rw [hp i (List.mem_range.mp hi), Bool.true_or])
    rw [hflash, Bool.false_and]
    rfl

end

/-! ## RADIO_OP_BEGIN (10 R427, R434, R439, R443) -/

/-- Neither the schedule nor a transmission of the link controller stands in the way of an operation that begins now (10 R443). -/
def State.opClear (s : State) (d : Desc) : Prop :=
  s.linkSends = false ∧ (s.meshRuns = false ∨ s.overlaps (s.mt * oneFrac) (s.opTime d) = false)

/-- The operation in hand, on the air from now on, or from the tick edge that it named. -/
def State.opBegun (s : State) (o : RadioOp) : RadioOp :=
  { o with active := true, began := if o.desc.at' && !o.held then s.now * 65536 else s.timeBase.toNat }

/-- The state with LOCK set, as an operation goes on the air, and with so many accesses held. -/
def State.locked (s : State) (q : List Nat) : State := { s.setBit F.RAD_STAT_LOCK with issued := q }

section
variable {s : State} {o : RadioOp} {q : List Nat} {e : Emission} {p : Nat}

theorem State.locked_sameAir : s.SameAir (s.locked q) := fun a ha =>
  s.reg_setFld_ne F.RAD_STAT_LOCK 1 a fun h => absurd (h ▸ ha) (by decide)

theorem State.locked_keeps : Keeps [F.RAD_STAT_LOCK.addr] s (s.locked q) := (Keeps.refl.setBit (by decide)).issued

theorem State.locked_lock : (s.locked q).flag F.RAD_STAT_LOCK = true :=
  s.flag_setBit_self _ (by simp [Fld.fits, F.RAD_STAT_LOCK]) Nat.one_pos

theorem exec_radioOpBegin_starts (hon : s.on = true) (hlit : s.lit .radio = true) (ho : s.radio.op = some o) (hidle : o.active = false)
    (hmay : s.opMayBegin o = true) : exec .radioOpBegin s = ok (s.opStart o) := by
  rw [exec_radioOpBegin, execRadioOpBegin, if_pos hon]
  simp only [State.opTry, ho, hidle, hlit, hmay, Bool.not_true, Bool.or_false, Bool.false_eq_true, if_false, if_true]

theorem State.opStart_blocked (hat : o.desc.at' = true) (hc : ¬ s.opClear o.desc) :
    s.opStart o = (s.setOp none).finish o.desc rsBlocked 0 := by
  refine if_pos ?_
  rw [hat, Bool.true_and]
  by_contra h
  rw [Bool.not_eq_true, Bool.or_eq_false_iff, Bool.and_eq_false_iff] at h
  exact hc h

/-- With the way clear only a CAL can still be deferred, where fewer than 16 have been and the synthesiser has lock (10 R426, R427, R449). -/
theorem State.opStart_clear (hc : s.opClear o.desc) (hdef : s.fld F.RAD_STAT_CALDEF < 16)
    (hlock : vget s.radio.relock (Fin.ofNat 2 o.desc.band) = false) : s.opStart o =
      if s.linkSoon && o.desc.op == 5 then (if o.held then s else (s.calDeferred (Fin.ofNat 2 o.desc.band)).setOp (some { o with held := true }))
      else s.opBegin o := by
  obtain ⟨hsends, hgap⟩ := hc
  have hway : (s.linkSends || (s.meshRuns && s.overlaps (s.mt * oneFrac) (s.opTime o.desc))) = false := by
    rw [hsends, Bool.false_or]
    exact Bool.and_eq_false_iff.mpr hgap
  simp only [State.opStart, hway, decide_eq_false (Nat.not_le.mpr hdef), State.pathReady, hlock, Bool.and_false, Bool.false_and,
    Bool.false_eq_true, if_false]

theorem State.opStart_begins (hc : s.opClear o.desc) (hdef : s.fld F.RAD_STAT_CALDEF < 16)
    (hlock : vget s.radio.relock (Fin.ofNat 2 o.desc.band) = false) (hcal : o.desc.op = 5 → s.linkSoon = false) : s.opStart o = s.opBegin o := by
  rw [State.opStart_clear hc hdef hlock]
  refine if_neg fun h => ?_
  obtain ⟨hsoon, hop⟩ := Bool.and_eq_true_iff.mp h
  exact Bool.false_ne_true ((hcal (beq_iff_eq.mp hop)).symm.trans hsoon)

/-! ### What begins -/

theorem State.opBegin_duty (hsends : o.desc.sends = true) (hbears : s.dutyBears o.desc.band (s.dutyAt o.desc.band) (s.opUs o.desc) = false) :
    s.opBegin o = (s.setOp none).finish o.desc rsDuty (BitVec.ofNat 32 (s.fld (F.RAD_P_DUSED_US o.desc.band))) :=
  if_pos (by rw [hsends, hbears]; rfl)

theorem State.opBegin_listens (hop : o.desc.op = 2 ∨ o.desc.op = 4) :
    s.opBegin o = ((s.locked s.issued).setBit F.RAD_STAT_RXON).setOp (some { s.opBegun o with outcome := none }) := by
  have hsends : o.desc.sends = false := by rcases hop with h | h <;> rw [Desc.sends, h] <;> rfl
  rcases hop with h | h <;> simp only [State.opBegin, hsends, h, Bool.false_and, Bool.false_eq_true, if_false] <;> rfl

theorem State.opBegin_calibrates (hop : o.desc.op = 5) :
    s.opBegin o = ((s.locked s.issued).calibrated (Fin.ofNat 2 o.desc.band)).setOp (some { s.opBegun o with outcome := some (stOk, 0) }) := by
  have hsends : o.desc.sends = false := by rw [Desc.sends, hop]; rfl
  simp only [State.opBegin, hsends, hop, Bool.false_and, Bool.false_eq_true, if_false]
  rfl

/-- A charge to the present window is a count in DUSED, which saturates (10 R434). -/
theorem State.dutyCharge_present {us : Nat} : s.dutyCharge p (s.dutyAt p) us =
    s.setFld (F.RAD_P_DUSED_US p) (min (2 ^ 32 - 1) (s.fld (F.RAD_P_DUSED_US p) + us)) := by
  rw [State.dutyCharge, State.setDuty, if_pos rfl, State.dutyUsed, if_pos rfl]

/-- An operation that sends: on the air with what it sends and what that is charged. -/
def State.opSending (s : State) (o : RadioOp) (e : Emission) : RadioOp :=
  { s.opBegun o with
    air := some e, airUs := s.opUs o.desc, win := s.dutyAt o.desc.band
    outcome := some (stOk, BitVec.ofNat 32 (s.opUs o.desc)) }

/-- What a transmission leaves as it begins its ramp-up (10 R434, R440). -/
def State.Sending (s : State) (o : RadioOp) (e : Emission) (u : State) : Prop :=
  (u.radio = { s.radio with op := some (s.opSending o e) } ∧ u.flag F.RAD_STAT_LOCK = true) ∧ u.flag F.RAD_STAT_TXON = true ∧
    u.fld (F.RAD_P_DUSED_US o.desc.band) = min (2 ^ 32 - 1) (s.fld (F.RAD_P_DUSED_US o.desc.band) + s.opUs o.desc) ∧
    Keeps [F.RAD_STAT_LOCK.addr, (F.RAD_P_DUSED_US o.desc.band).addr] s u

theorem dused_ne_stat : (F.RAD_P_DUSED_US p).addr ≠ F.RAD_STAT_LOCK.addr := by simp [F.RAD_P_DUSED_US, F.RAD_STAT_LOCK]; omega

theorem State.radio_setOp {x : Option RadioOp} : (s.setOp x).radio = { s.radio with op := x } := rfl
theorem State.flag_setOp {x : Option RadioOp} {f : Fld} : (s.setOp x).flag f = s.flag f := rfl
theorem State.fld_setOp {x : Option RadioOp} {f : Fld} : (s.setOp x).fld f = s.fld f := rfl

theorem State.opSend_locked (he : (s.locked q).opAir o.desc = e) : (s.locked q).opSend { o with began := (s.opBegun o).began } =
    (((s.locked q).setFld (F.RAD_P_DUSED_US o.desc.band) (min (2 ^ 32 - 1) (s.fld (F.RAD_P_DUSED_US o.desc.band) + s.opUs o.desc))).setBit
      F.RAD_STAT_TXON).setOp (some (s.opSending o e)) := by
  have hus : (s.locked q).opUs o.desc = s.opUs o.desc := State.locked_sameAir.opUs
  have hused : (s.locked q).fld (F.RAD_P_DUSED_US o.desc.band) = s.fld (F.RAD_P_DUSED_US o.desc.band) :=
    State.locked_sameAir.fld (by simp [F.RAD_SYNCLO_LO, F.RAD_P_DUSED_US]; omega)
  rw [State.opSend]
  dsimp only
  rw [State.dutyCharge_present, hus, hused, he]
  rfl

theorem State.opSend_sending (he : (s.locked q).opAir o.desc = e) :
    s.Sending o e ((s.locked q).opSend { o with began := (s.opBegun o).began }) := by
  have hkeeps : Keeps [F.RAD_STAT_LOCK.addr, (F.RAD_P_DUSED_US o.desc.band).addr] s (s.locked q) := State.locked_keeps.mono (by simp)
  rw [State.opSend_locked he]
  refine ⟨⟨rfl, ?_⟩, ?_, ?_, ((hkeeps.setFld (by simp)).setBit (by simp [F.RAD_STAT_TXON, F.RAD_STAT_LOCK])).radio⟩
  · rw [State.flag_setOp, State.flag_setBit_other _ _ _ (Or.inl (by decide)), State.flag_setFld_reg dused_ne_stat.symm, State.locked_lock]
  · exact State.flag_setOp.trans (State.flag_setBit_self _ _ (by simp [Fld.fits, F.RAD_STAT_TXON]) Nat.one_pos)
  · rw [State.fld_setOp, State.setBit, State.fld_setFld_reg _ F.RAD_STAT_TXON _ _ dused_ne_stat,
      State.fld_setFld_self _ _ _ (by simp [Fld.fits, F.RAD_P_DUSED_US])]
    exact Nat.mod_eq_of_lt (lt_of_le_of_lt (Nat.min_le_left _ _) (Nat.sub_lt (Nat.two_pow_pos _) Nat.one_pos))

theorem State.opBegin_lantern (hop : o.desc.op = 3) (hbears : s.dutyBears o.desc.band (s.dutyAt o.desc.band) (s.opUs o.desc) = true) :
    s.Sending o (s.lanternAir o.desc.band o.desc.profile (o.desc.opd 6) o.desc.alarm) (s.opBegin o) := by
  have hbegin : s.opBegin o = (s.locked s.issued).opSend { o with began := (s.opBegun o).began } := by
    simp only [State.opBegin, hbears, hop, Bool.not_true, Bool.and_false, Bool.false_eq_true, if_false]
    rfl
  rw [hbegin]
  refine State.opSend_sending ?_
  rw [State.opAir, if_neg (by rw [hop]; decide), State.locked_sameAir.lanternAir]

theorem State.opBegin_frame (hop : o.desc.op = 1) (hbears : s.dutyBears o.desc.band (s.dutyAt o.desc.band) (s.opUs o.desc) = true)
    (hread : (s.engView 4 0).engRead o.desc.buf o.desc.len = .ok) (hplain : plainRam o.desc.buf = true) :
    s.Sending o (s.frameAir o.desc.band o.desc.profile (s.mem.bytes o.desc.buf o.desc.len) o.desc.fCrc o.desc.fWhite o.desc.fCode o.desc.fIlv)
      (s.opBegin o) := by
  have hbegin : s.opBegin o = (s.locked (s.dropAccess 4 0).issued).opSend { o with began := (s.opBegun o).began } := by
    simp only [State.opBegin, hbears, hop, hread, Bool.not_true, Bool.and_false, Bool.false_eq_true, if_false, State.afterEngRead_plain hplain]
    rfl
  rw [hbegin]
  refine State.opSend_sending ?_
  rw [State.opAir, if_pos hop, State.engBytes_plain fun i => State.engRead_plain hread hplain, State.locked_sameAir.frameAir]
  rfl

end
end Sys2Proof.Machine

namespace Sys2Proof.Machine

/-! ## Bytes that an engine stores in plain memory -/

/-- Bytes stand at an address, and every other byte is as before. -/
def Memory.Holds (m m' : Memory) (a : Nat) (l : List Byte) : Prop :=
  m'.bytes a l.length = l ∧ ∀ b, b < a ∨ a + l.length ≤ b → m'.byte b = m.byte b

/-- Bytes that a store reaches as plain ones: in plain memory, none of their words watched (06 R256, R280). -/
def State.StoresPlain (s : State) (a n : Nat) : Prop := ∀ k, k < n → plainRam (a + k) = true ∧ s.watched (wordAddr (a + k)) = none

/-- The state differs in its memory only, where bytes have been stored. -/
def State.HoldsBytes (s : State) (a : Nat) (l : List Byte) (u : State) : Prop := ∃ m, u = { s with mem := m } ∧ s.mem.Holds m a l

section
variable {m m' m'' : Memory} {s u v : State} {a n k : Nat} {b : Byte} {l l' : List Byte} {tag : Tag}

theorem Memory.bytes_congr (h : ∀ i, i < n → m'.byte (a + i) = m.byte (a + i)) : m'.bytes a n = m.bytes a n :=
  List.map_congr_left fun i hi => h i (List.mem_range.mp hi)

theorem Memory.Holds.append (h : m.Holds m' a l) (h' : m'.Holds m'' (a + l.length) l') : m.Holds m'' a (l ++ l') := by
  obtain ⟨hin, hout⟩ := h
  obtain ⟨hin', hout'⟩ := h'
  refine ⟨?_, fun b hb => ?_⟩
  · have hkept : m''.bytes a l.length = m'.bytes a l.length := Memory.bytes_congr fun i hi => hout' _ (Or.inl (Nat.add_lt_add_left hi a))
    rw [List.length_append, Memory.bytes_add, hkept, hin, hin']
  · rw [List.length_append] at hb
    rw [hout' b (by omega), hout b (by omega)]

theorem Memory.setByte_holds : m.Holds (m.setByte a b) a [b] := by
  refine ⟨?_, fun c hc => ?_⟩
  · show [(m.setByte a b).byte (a + 0)] = [b]
    rw [Nat.add_zero, Memory.byte_setByte, if_pos rfl]
  · rw [List.length_singleton] at hc
    rw [Memory.byte_setByte, if_neg (by omega)]

/-- The bytes of a word put together from four are those (03 R701). -/
theorem bytesWord_append (b0 b1 b2 b3 : Byte) : bytesWord [b0, b1, b2, b3] = b3 ++ b2 ++ b1 ++ b0 := by
  refine BitVec.eq_of_getLsbD_eq fun i hi => ?_
  simp only [bytesWord, List.foldr, BitVec.getLsbD_append, BitVec.getLsbD_or, BitVec.getLsbD_shiftLeft, BitVec.getLsbD_setWidth]
  interval_cases i <;> simp

theorem wordBytes_bytesWord (b0 b1 b2 b3 : Byte) : wordBytes (bytesWord [b0, b1, b2, b3]) = [b0, b1, b2, b3] := by
  obtain ⟨h0, h1, h2, h3, -⟩ := join_bytes b0 b1 b2 b3
  rw [bytesWord_append, wordBytes, h0, h1, h2, h3]

theorem Memory.setWord_holds {w : TWord} (hw : wordBytes w.data = l) : m.Holds (m.setWord a w) a l := by
  have hword : (m.setWord a w).word a = w.data := congrArg TWord.data (m.tword_setWord a w)
  have hlen : l.length = 4 := by rw [← hw]; rfl
  refine ⟨?_, fun b hb => Memory.byte_setWord_out _ _ _ _ (by rwa [hlen] at hb)⟩
  rw [hlen, ← hw, ← hword, Memory.wordBytes_word]

theorem State.StoresPlain.left (h : s.StoresPlain a (n + k)) : s.StoresPlain a n := fun i hi => h i (Nat.lt_add_right k hi)

theorem State.StoresPlain.right (h : s.StoresPlain a (n + k)) : s.StoresPlain (a + n) k := fun i hi => by
  rw [Nat.add_assoc]
  exact h (n + i) (Nat.add_lt_add_left hi n)

theorem State.StoresPlain.after (h : s.StoresPlain a n) (hu : s.HoldsBytes k l u) : u.StoresPlain a n := by
  obtain ⟨m, rfl, -⟩ := hu
  exact h

theorem State.HoldsBytes.refl : s.HoldsBytes a [] s := ⟨s.mem, rfl, rfl, fun _ _ => rfl⟩

theorem State.HoldsBytes.append (h : s.HoldsBytes a l u) (h' : u.HoldsBytes (a + l.length) l' v) : s.HoldsBytes a (l ++ l') v := by
  obtain ⟨m, rfl, hm⟩ := h
  obtain ⟨m', rfl, hm'⟩ := h'
  exact ⟨m', rfl, hm.append hm'⟩

/-- A byte store in plain memory, and a word store (03 R112). -/
theorem State.storePart_holds (h : s.StoresPlain a 1) : s.HoldsBytes a [b] (s.storePart a [b]) := by
  obtain ⟨hplain, hwatch⟩ := h 0 Nat.one_pos
  obtain ⟨-, -, hgnss⟩ := plain_elsewhere (a := a) (by rw [show plainRam a = true from hplain, Bool.true_or])
  refine ⟨(s.mem.setByte a b).setTag a .raw, ?_, Memory.setByte_holds⟩
  simp only [State.storePart, show s.watched (wordAddr a) = none from hwatch, hgnss, Bool.false_eq_true, if_false]
  rfl

theorem State.storeWord_holds {w : TWord} (h : s.StoresPlain a 4) (ha : a % 4 = 0) (hw : wordBytes w.data = l) :
    s.HoldsBytes a l (s.storeWord a w) := by
  obtain ⟨hplain, hwatch⟩ := h 0 (by decide)
  obtain ⟨-, -, hgnss⟩ := plain_elsewhere (a := a) (by rw [show plainRam a = true from hplain, Bool.true_or])
  rw [Nat.add_zero, wordAddr_of_aligned ha] at hwatch
  refine ⟨s.mem.setWord a w, ?_, Memory.setWord_holds hw⟩
  simp only [State.storeWord, hwatch, hgnss, Bool.false_eq_true, if_false]
  rfl

theorem State.storeEach_holds (h : s.StoresPlain a l.length) : s.HoldsBytes a l (s.storeEach a l) := by
  induction l generalizing s a with
  | nil => exact .refl
  | cons b l ih =>
    rw [List.length_cons, Nat.add_comm] at h
    have hb : s.HoldsBytes a [b] (s.storePart a [b]) := State.storePart_holds h.left
    exact hb.append (ih (h.right.after hb))

/-- From a word boundary on: whole words, then what is left over. -/
theorem State.storeAligned_holds (ha : a % 4 = 0) (h : s.StoresPlain a l.length) : s.HoldsBytes a l (s.storeAligned tag a l) := by
  fun_induction State.storeAligned s tag a l with
  | case1 s a b0 b1 b2 b3 l ih =>
    rw [show (b0 :: b1 :: b2 :: b3 :: l).length = 4 + l.length by simp only [List.length_cons]; omega] at h
    have hw : s.HoldsBytes a [b0, b1, b2, b3] (s.storeWord a ⟨bytesWord [b0, b1, b2, b3], tag⟩) :=
      State.storeWord_holds h.left ha (wordBytes_bytesWord b0 b1 b2 b3)
    exact hw.append (ih (by omega) (h.right.after hw))
  | case2 s a l hl => exact State.storeEach_holds h

theorem State.storeBytes_holds (h : s.StoresPlain a l.length) : s.HoldsBytes a l (s.storeBytes tag a l) := by
  unfold State.storeBytes
  dsimp only
  rcases Nat.le_total ((4 - a % 4) % 4) l.length with hk | hk
  · obtain ⟨first, rest, rfl, hfirst⟩ : ∃ l1 l2, l = l1 ++ l2 ∧ l1.length = (4 - a % 4) % 4 :=
      ⟨l.take _, l.drop _, (List.take_append_drop _ l).symm, List.length_take_of_le hk⟩
    rw [List.length_append] at h
    rw [← hfirst, List.take_left, List.drop_left]
    have hstored : s.HoldsBytes a first (s.storeEach a first) := State.storeEach_holds h.left
    exact hstored.append (State.storeAligned_holds (by omega) (h.right.after hstored))
  · rw [List.take_of_length_le hk, List.drop_of_length_le hk]
    exact State.storeEach_holds h

end
end Sys2Proof.Machine

namespace Sys2Proof.Machine

/-! ## RADIO_OP_END (10 R440, R441) -/

/-- The operation in hand is over: TXON, RXON and LOCK are clear, and of the registers only RAD_STAT is written (10 Table 10.7). -/
def State.OffAir (s u : State) : Prop :=
  u.radio = { s.radio with op := none } ∧ u.flag F.RAD_STAT_TXON = false ∧ u.flag F.RAD_STAT_RXON = false ∧
    u.flag F.RAD_STAT_LOCK = false ∧ SameRegs [F.RAD_STAT_LOCK.addr] s u ∧ u.threads = s.threads ∧ u.ledger = s.ledger

section
variable {s b : State} {o : RadioOp} {st : Nat} {r : Word} {d : Desc} {m : Memory}

theorem State.opIdle_offAir : s.OffAir s.opIdle := by
  have hregs : SameRegs [F.RAD_STAT_LOCK.addr] s s.opIdle := ((SameRegs.refl.setFld (by decide)).setFld (by decide)).setFld (by decide)
  refine ⟨rfl, ?_, ?_, State.flag_clrFld_self _ _ (by simp [Fld.fits, F.RAD_STAT_LOCK]), hregs, rfl, rfl⟩
  · rw [State.opIdle, State.flag_clrFld_other _ _ _ (Or.inr (by decide)), State.flag_clrFld_other _ _ _ (Or.inr (by decide)),
      State.flag_clrFld_self _ _ (by simp [Fld.fits, F.RAD_STAT_TXON])]
  · rw [State.opIdle, State.flag_clrFld_other _ _ _ (Or.inr (by decide)), State.flag_clrFld_self _ _ (by simp [Fld.fits, F.RAD_STAT_RXON])]

theorem State.OffAir.setMem (h : s.OffAir b) : s.OffAir { b with mem := m } := h

theorem State.OffAir.finish (h : s.OffAir b) : s.OffAir (b.finish d st r) := by
  obtain ⟨hradio, htx, hrx, hlock, hregs, hthreads, hledger⟩ := h
  have hflag (f : Fld) : (b.finish d st r).flag f = b.flag f := State.flag_of_reg (State.finish_reg _)
  exact ⟨State.finish_radio.trans hradio, (hflag _).trans htx, (hflag _).trans hrx, (hflag _).trans hlock,
    fun a ha => (State.finish_reg a).trans (hregs a ha), State.finish_threads.trans hthreads, State.finish_ledger.trans hledger⟩

theorem State.OffAir.quiet (h : s.OffAir b) (hq : s.quiet) : b.quiet := by
  obtain ⟨-, -, -, -, -, -, hledger⟩ := h
  exact (congrArg Ledger.resetDue hledger).trans hq

/-- When an operation is at its end: a transmission after its ramp-down, a listening one that heard nothing after its window. -/
theorem State.opOver_iff : s.opOver o = true ↔
    if o.desc.sends then o.began * oneFrac + o.airUs * oneUs ≤ s.nowU else o.outcome = none → o.began * oneFrac + s.opTime o.desc ≤ s.nowU := by
  unfold State.opOver
  cases o.desc.sends with
  | true => rw [if_pos rfl, if_pos rfl, decide_eq_true_eq]
  | false =>
    rw [if_neg Bool.false_ne_true, if_neg Bool.false_ne_true]
    cases o.outcome with
    | none =>
      rw [Option.isNone_none, if_pos rfl, decide_eq_true_eq, State.windowEnd]
      exact ⟨fun h _ => h, fun h => h rfl⟩
    | some _ => simp

theorem State.storeBytes_nil {tag : Tag} {a : Nat} : s.storeBytes tag a [] = s := by
  rw [State.storeBytes, List.take_nil, List.drop_nil]
  rfl

theorem exec_radioOpEnd_waits (ho : s.radio.op = some o) (hover : s.opOver o = false) : exec .radioOpEnd s = ok s := by
  rw [exec_radioOpEnd, execRadioOpEnd]
  simp only [ho, hover, Bool.not_false, Bool.or_true, if_true]

section
variable (ho : s.radio.op = some o) (hact : o.active = true) (hon : s.on = true) (hover : s.opOver o = true)
include ho hact hon hover

theorem exec_radioOpEnd_silent (hout : o.outcome = none) : exec .radioOpEnd s = ok (s.opIdle.finish o.desc rsNoSync 0) := by
  rw [exec_radioOpEnd, execRadioOpEnd]
  simp only [ho, hact, hon, hover, hout, Bool.not_true, Bool.or_false, Bool.false_eq_true, if_false]

theorem exec_radioOpEnd_outcome (hout : o.outcome = some (st, r)) (hbytes : o.bytes = []) :
    exec .radioOpEnd s = ok (s.opIdle.finish o.desc st r) := by
  rw [exec_radioOpEnd, execRadioOpEnd]
  simp only [ho, hact, hon, hover, hout, hbytes, Bool.not_true, Bool.or_false, Bool.false_eq_true, if_false, List.isEmpty_nil, if_true,
    State.storeBytes_nil]

theorem exec_radioOpEnd_stores (hout : o.outcome = some (st, r)) (hbytes : o.bytes ≠ [])
    (hwrite : (s.engView 4 0).engWrite o.desc.buf o.bytes.length = .ok) :
    exec .radioOpEnd s = ok ((s.opIdle.storeBytes .raw o.desc.buf o.bytes).finish o.desc st r) := by
  have hsome : o.bytes.isEmpty = false := by simpa using hbytes
  rw [exec_radioOpEnd, execRadioOpEnd]
  simp only [ho, hact, hon, hover, hout, hsome, hwrite, Bool.not_true, Bool.or_false, Bool.false_eq_true, if_false]

end

/-- What follows RAD_STAT's clearing watches the same words: it looks at the rings' registers only. -/
theorem State.watched_opIdle (a : Nat) : s.opIdle.watched a = s.watched a := by
  obtain ⟨-, -, -, -, hregs, -, -⟩ := s.opIdle_offAir
  have hof (n : RingId) : s.opIdle.watchedOf n a = s.watchedOf n a := by
    have hstate : s.opIdle.ringState n = s.ringState n := State.fld_of_reg (hregs _ (by simp [F.QUE_RSTAT_STATE, F.RAD_STAT_LOCK]; omega))
    have hhdr : s.opIdle.ringHdr n = s.ringHdr n :=
      congrArg (· * 64) (State.fld_of_reg (hregs _ (by simp [F.QUE_RHDR_ADDR, F.RAD_STAT_LOCK]; omega)))
    simp only [State.watchedOf, hstate, hhdr]
  simp only [State.watched, hof]

end

/-! ## Reception (10 R417 to R420) -/

/-- The 24 bits of the header that the decoder makes of the chips after sync, undecided ones where chips are missing. -/
def rxHeader (tie : Nat → Nat → Bool) (x : RxChips) : BitVec 24 :=
  BitVec.ofNat 24 (bitsNum (viterbi tie 24 ((x.soft ++ List.replicate 60 (false, 0)).take 60)))

/-- The payload bytes of an uncoded frame as its chips give them. -/
def rxPlain (x : RxChips) (len : Nat) : List Byte :=
  bytesOf (((x.soft.drop 60 ++ List.replicate (8 * len) (false, 0)).take (8 * len)).map Prod.fst)

section
variable {tie : Nat → Nat → Bool} {x : RxChips} {q limit : Nat} {h : BitVec 24}

theorem decodeFrame_bad (hh : rxHeader tie x = h) (hcrc : headerCrc (h.extractLsb' 0 16) ≠ h.extractLsb' 16 8) : decodeFrame tie x = none := by
  subst hh
  exact if_pos (bne_iff_ne.mpr hcrc)

/-- A frame whose header holds and asks for no coding: its bytes are its chips. -/
theorem decodeFrame_plain (hh : rxHeader tie x = h) (hcrc : headerCrc (h.extractLsb' 0 16) = h.extractLsb' 16 8) (hflags : h.extractLsb' 8 4 = 0) :
    decodeFrame tie x = some ((h.extractLsb' 0 8).toNat, 0, 0,
      (rxPlain x (h.extractLsb' 0 8).toNat).take (h.extractLsb' 0 8).toNat, true) := by
  have hbit (i : Nat) (hi : i < 4) : h.getLsbD (8 + i) = false := by
    have := congrArg (fun w : BitVec 4 => w.getLsbD i) hflags
    simpa [BitVec.getLsbD_extractLsb', hi] using this
  have h0 : h.getLsbD 8 = false := hbit 0 (by decide)
  have h1 : h.getLsbD 9 = false := hbit 1 (by decide)
  have h2 : h.getLsbD 10 = false := hbit 2 (by decide)
  have h3 : h.getLsbD 11 = false := hbit 3 (by decide)
  unfold rxHeader at hh
  simp only [decodeFrame, hh, hcrc, h0, h1, h2, h3, hflags, bne_self_eq_false, Bool.false_eq_true, if_false, Bool.not_false, Bool.true_or,
    Nat.add_zero, payloadChips, rxPlain, List.take_take, Nat.min_self, Nat.min_zero]

end
end Sys2Proof.Machine

namespace Sys2Proof.Machine

/-! ## What an RX makes of a frame (10 R417 to R420, R441) -/

section
variable {tie : Nat → Nat → Bool} {x : RxChips} {q limit : Nat} {h : BitVec 24}

theorem chipsAfter_bad (hframe : decodeFrame tie x = none) : chipsAfter tie x = 60 := by rw [chipsAfter, hframe]

theorem rxOutcome_bad (hframe : decodeFrame tie x = none) :
    rxOutcome tie x q limit = (rsHdrBad, BitVec.ofNat 32 (q * 0x100 + x.rssi.toNat * 0x10000), []) := by rw [rxOutcome, hframe]

section
variable {len : Nat} {l : List Byte} (hframe : decodeFrame tie x = some (len, 0, 0, l, true))
include hframe

theorem chipsAfter_plain : chipsAfter tie x = 60 + 8 * len := by
  rw [chipsAfter, hframe]
  rfl

theorem rxOutcome_plain (hlen : len ≤ limit) :
    rxOutcome tie x q limit = (stOk, BitVec.ofNat 32 (len + q * 0x100 + x.rssi.toNat * 0x10000), l) := by
  rw [rxOutcome, hframe]
  have hcode : (0 : BitVec 4).getLsbD 2 = false := by decide
  simp only [if_neg (Nat.not_lt.mpr hlen), if_true, rxResult, hcode, Bool.false_eq_true, if_false, Nat.zero_mul, Nat.add_zero]

end
end

section
variable {s : State} {o : RadioOp} {x : RxChips} {st : Nat} {r : Word} {l : List Byte}

theorem exec_syncDetect_misses (ho : s.radio.op = some o)
    (h : s.fld (F.RAD_P_RX_THRESH o.desc.band) ≤ s.syncAgree x.sync →
      ¬ s.nowU - chipTime (chipsAfter (Config.pathTie s.free) x) (s.rate o.desc.band) ≤ s.windowEnd o) :
    exec (.syncDetect x) s = ok s := by
  rw [exec_syncDetect, execSyncDetect]
  simp only [ho]
  refine if_neg fun hc => ?_
  simp only [Bool.and_eq_true, decide_eq_true_eq] at hc
  obtain ⟨⟨-, hthresh⟩, htime⟩ := hc
  exact h hthresh htime

theorem exec_syncDetect_hears (ho : s.radio.op = some o) (hact : o.active = true) (hop : o.desc.op = 2) (hnone : o.outcome = none)
    (hthresh : s.fld (F.RAD_P_RX_THRESH o.desc.band) ≤ s.syncAgree x.sync)
    (htime : s.nowU - chipTime (chipsAfter (Config.pathTie s.free) x) (s.rate o.desc.band) ≤ s.windowEnd o)
    (hout : rxOutcome (Config.pathTie s.free) x (s.syncAgree x.sync) o.desc.len = (st, r, l)) :
    exec (.syncDetect x) s = ok (s.fresh.setOp (some { o with outcome := some (st, r), bytes := l })) := by
  rw [exec_syncDetect, execSyncDetect]
  simp only [ho, hact, hop, hnone, hthresh, htime, hout, beq_self_eq_true, Option.isNone_none, decide_true, Bool.and_self, if_true]

/-! ## A lantern that an LSEARCH hears (10 R422) -/

variable {first second : Word} {alarm : Bool} {n : Nat}

theorem exec_lanternDetect_none (h : s.lanternCode first second = none) : exec (.lanternDetect first second) s = ok s := by
  rw [exec_lanternDetect, execLanternDetect]
  simp only [h]

theorem exec_lanternDetect_heard (ho : s.radio.op = some o) (hact : o.active = true) (hop : o.desc.op = 4) (hnone : o.outcome = none)
    (hverify : s.radio.verify = false) (hcode : s.lanternCode first second = some (alarm, n)) (htime : s.nowU ≤ s.windowEnd o) :
    exec (.lanternDetect first second) s =
      ok (s.setOp (some { o with outcome := some (stOk, BitVec.ofNat 32 ((if alarm then 1 else 0) + n * 0x100)) })) := by
  rw [exec_lanternDetect, execLanternDetect]
  simp only [hcode, hverify, ho, hact, hop, hnone, htime, Bool.false_and, Bool.false_eq_true, if_false, beq_self_eq_true, Option.isNone_none,
    decide_true, Bool.and_self, if_true]

theorem exec_lanternDetect_late (ho : s.radio.op = some o) (hverify : s.radio.verify = false) (htime : s.windowEnd o < s.nowU) :
    exec (.lanternDetect first second) s = ok s := by
  cases hcode : s.lanternCode first second with
  | none => exact exec_lanternDetect_none hcode
  | some c =>
    rw [exec_lanternDetect, execLanternDetect]
    simp only [hcode, hverify, ho, decide_eq_false (Nat.not_le.mpr htime), Bool.false_and, Bool.and_false, Bool.false_eq_true, if_false]

/-! ## A synthesiser that unlocks (10 R449, Table 10.4) -/

/-- Of the registers a charge given back writes DUSED at most, and of the radio's state the next window's charge (10 R434). -/
theorem State.dutyBack_gives {p win us : Nat} : (∃ v, (s.dutyBack p win us).radio = { s.radio with dutyNext := v }) ∧
    Keeps [(F.RAD_P_DUSED_US p).addr] s (s.dutyBack p win us) := by
  unfold State.dutyBack State.setDuty
  split
  · split
    · exact ⟨⟨s.radio.dutyNext, rfl⟩, Keeps.refl.setFld (List.mem_singleton_self _)⟩
    · exact ⟨⟨_, rfl⟩, Keeps.refl.radio⟩
  · exact ⟨⟨s.radio.dutyNext, rfl⟩, .refl⟩

/-- From the present window it is taken off DUSED. -/
theorem State.dutyBack_present {p us : Nat} : (s.dutyBack p (s.dutyAt p) us).fld (F.RAD_P_DUSED_US p) = s.fld (F.RAD_P_DUSED_US p) - us := by
  have hlt : s.fld (F.RAD_P_DUSED_US p) < 2 ^ 32 := Nat.mod_lt _ (Nat.two_pow_pos _)
  rw [State.dutyBack, if_pos (Or.inl rfl), State.setDuty, if_pos rfl, State.dutyUsed, if_pos rfl,
    State.fld_setFld_self _ _ _ (by simp [Fld.fits, F.RAD_P_DUSED_US])]
  exact Nat.mod_eq_of_lt (lt_of_le_of_lt (Nat.sub_le _ _) hlt)

/-- The state after the operation in hand has lost its lock. -/
def State.opUnlocked (s : State) (o : RadioOp) : State := ((s.opStop o rsUnlock).clrFld F.RAD_STAT_LOCK).relockPath o.desc.band

theorem exec_synthUnlock_stops (hon : s.on = true) (ho : s.radio.op = some o) (hact : o.active = true) :
    exec (.synthUnlock (Fin.ofNat 2 o.desc.band)) s = ok (s.opUnlocked o) := by
  have hmine : s.radio.op.filter (fun x => Fin.ofNat 2 x.desc.band == Fin.ofNat 2 o.desc.band &&
      (x.active || !s.linkOnPath (Fin.ofNat 2 o.desc.band))) = some o := by
    rw [ho]
    exact Option.filter_eq_some_iff.mpr ⟨rfl, by rw [beq_self_eq_true, hact]; rfl⟩
  rw [exec_synthUnlock, execSynthUnlock]
  simp only [hon, hmine, hact, Bool.not_true, Bool.false_eq_true, if_false, if_true]
  rfl

theorem State.opUnlocked_ends : (s.opUnlocked o).flag F.RAD_STAT_LOCK = false ∧
    Keeps [F.RAD_STAT_LOCK.addr, (F.RAD_P_DUSED_US o.desc.band).addr] s (s.opUnlocked o) ∧
    (s.opUnlocked o).radio.op = some { o with
      airUs := s.onAirUs o, outcome := some (rsUnlock, BitVec.ofNat 32 (s.onAirUs o)), bytes := [] } ∧
    (s.opUnlocked o).radio.relock = vset s.radio.relock (Fin.ofNat 2 o.desc.band) true ∧
    (o.win = s.dutyAt o.desc.band → (s.opUnlocked o).fld (F.RAD_P_DUSED_US o.desc.band) =
      s.fld (F.RAD_P_DUSED_US o.desc.band) - (o.airUs - s.onAirUs o)) := by
  obtain ⟨⟨v, hradio⟩, hkeeps⟩ := s.dutyBack_gives (p := o.desc.band) (win := o.win) (us := o.airUs - s.onAirUs o)
  have hstopped : Keeps [F.RAD_STAT_LOCK.addr, (F.RAD_P_DUSED_US o.desc.band).addr] s (s.opStop o rsUnlock) :=
    (hkeeps.mono (by simp)).radio
  have hrelock : (s.dutyBack o.desc.band o.win (o.airUs - s.onAirUs o)).radio.relock = s.radio.relock := by rw [hradio]
  refine ⟨?_, (hstopped.clrFld (by simp)).radio, rfl, ?_, fun hwin => ?_⟩
  · exact State.flag_clrFld_self (s.opStop o rsUnlock) _ (by simp [Fld.fits, F.RAD_STAT_LOCK])
  · exact congrArg (fun y => vset y (Fin.ofNat 2 o.desc.band) true) hrelock
  · refine (State.fld_setFld_reg (s.opStop o rsUnlock) F.RAD_STAT_LOCK _ 0 dused_ne_stat).trans ?_
    show (s.dutyBack o.desc.band o.win (o.airUs - s.onAirUs o)).fld _ = _
    rw [hwin, State.dutyBack_present]

end
end Sys2Proof.Machine

section
open Sys2Proof Sys2Proof.Machine

/-- Settles O46: a descriptor taken by its check; an operation that begins by what `State.opStart_begins` leaves of its conditions; one that ends by
`State.OffAir`, with the bytes of an RX by `State.storeBytes_holds`; and what an RX hears by the two ways its header can turn out. -/
theorem radioOperations : Obligations.RadioOperations := by
  refine ⟨fun s d hq hidle ho hlow hhigh => ?taken, fun s o hq hon hlit hop hidle hmay hdef hlock => ?begins,
    fun s o x first second hq hop hact => ?ends⟩
  case taken =>
    intro t cmd
    have hcmd : exec cmd s = ok (s.radioTake d.op) := by
      obtain h | h | h | h | h : d.op = 1 ∨ d.op = 2 ∨ d.op = 3 ∨ d.op = 4 ∨ d.op = 5 := by omega
      all_goals
        simp only [cmd, h]
        rfl
    have htake : exec cmd s = ok (t.radioRun d) := by rw [hcmd, State.radioTake_offers hidle ho]
    have hradio : t.radio = s.radio := State.taken_radio
    have hbase : t.timeBase = s.timeBase := State.taken_timeBase
    refine ⟨fun hcheck => ?_, fun st r hcheck => ?_⟩
    · rw [State.radioRun_holds hcheck, hbase] at htake
      refine ⟨_, htake.trans (ok_of _ ((congrArg Ledger.resetDue State.taken_ledger).trans hq)), s.taken_from 4 0 d, ?_, State.taken_live, rfl,
        State.taken_threads⟩
      rw [State.radio_setOp, hradio]
    · rw [State.radioRun_refuses hcheck] at htake
      obtain ⟨hended, hresult, hsame, hlive, hmem, hthreads⟩ := t.finishOpt_ends (st := st) (r := r) (d := d)
      exact ⟨_, htake.trans (ok_of _ ((congrArg Ledger.resetDue (State.finishOpt_ledger.trans State.taken_ledger)).trans hq)),
        State.taken_finishOpt, hended, hresult, hsame.trans hradio, hlive.trans State.taken_live, hmem,
        hthreads.trans State.taken_threads⟩
  case begins =>
    intro d us used stat bears clear x begun sends
    have hexec : exec .radioOpBegin s = ok (s.opStart o) := exec_radioOpBegin_starts hon hlit hop hidle hmay
    have hbegin (hc : clear) (hcal : d.op = 5 → s.linkSoon = false) : exec .radioOpBegin s = ok (s.opBegin o) := by
      rw [hexec, State.opStart_begins hc hdef hlock hcal]
    refine ⟨fun hc hrx => ?listens, fun hc htx hread hplain hbears => ?frame, fun hc htx hbears => ?lantern, fun hc htx hbears => ?duty,
      fun hc hcal hsoon hheld => ?deferred, fun hc hcal hsoon => ?calibrates, fun hat hc => ?blocked⟩
    case listens =>
      have hkeeps : Keeps [stat] s (((s.locked s.issued).setBit F.RAD_STAT_RXON).setOp (some { s.opBegun o with outcome := none })) :=
        (State.locked_keeps.setBit (by decide)).radio
      refine hkeeps.gives hq ((hbegin hc fun h => by omega).trans (by rw [State.opBegin_listens hrx])) ⟨⟨rfl, ?_⟩, ?_, hkeeps⟩
      · rw [State.flag_setOp, State.flag_setBit_other _ _ _ (Or.inl (by decide)), State.locked_lock]
      · exact State.flag_setOp.trans (State.flag_setBit_self _ _ (by simp [Fld.fits, F.RAD_STAT_RXON]) Nat.one_pos)
    case frame =>
      obtain ⟨hbegun, htxon, hused, hkeeps⟩ := State.opBegin_frame htx hbears hread hplain
      exact hkeeps.gives hq (hbegin hc fun h => by omega) ⟨hbegun, htxon, hused, hkeeps⟩
    case lantern =>
      obtain ⟨hbegun, htxon, hused, hkeeps⟩ := State.opBegin_lantern htx hbears
      exact hkeeps.gives hq (hbegin hc fun h => by omega) ⟨hbegun, htxon, hused, hkeeps⟩
    case duty =>
      have hkeeps : Keeps [] s ((s.setOp none).finish d rsDuty (BitVec.ofNat 32 (s.fld used))) := (Keeps.radio .refl).finish
      refine hkeeps.gives hq ((hbegin hc fun h => ?_).trans (by rw [State.opBegin_duty htx hbears]))
        ⟨State.finish_radio, State.finish_finished _ _ _ _, hkeeps⟩
      exact absurd htx (by rw [Desc.sends, h]; decide)
    case deferred =>
      obtain ⟨hcount, hstale, hwait, hat, -, hdeferred⟩ := s.calDeferred_waits (p := Fin.ofNat 2 d.band)
      have hkeeps : Keeps [stat] s ((s.calDeferred (Fin.ofNat 2 d.band)).setOp (some { o with held := true })) := hdeferred.radio
      refine hkeeps.gives hq (hexec.trans ?_) ⟨rfl, hcount.trans (by omega), hstale, hwait, hat, hkeeps⟩
      rw [State.opStart_clear hc hdef hlock, if_pos (by rw [hsoon, hcal]; rfl), if_neg (by rw [hheld]; exact Bool.false_ne_true)]
    case calibrates =>
      obtain ⟨hcount, -, hradio, hlocked, hcalibrated⟩ := (s.locked s.issued).calibrated_done (p := Fin.ofNat 2 d.band)
      have hkeeps : Keeps [stat] s (((s.locked s.issued).calibrated (Fin.ofNat 2 d.band)).setOp
        (some { s.opBegun o with outcome := some (stOk, 0) })) := (State.locked_keeps.trans hcalibrated).radio
      refine hkeeps.gives hq ((hbegin hc fun _ => hsoon).trans (by rw [State.opBegin_calibrates hcal]))
        ⟨rfl, hlocked.trans State.locked_lock, hcount, ?_, hkeeps⟩
      rw [State.radio_setOp, hradio]
      exact vget_vset_self _ _ _
    case blocked =>
      have hkeeps : Keeps [] s ((s.setOp none).finish d rsBlocked 0) := (Keeps.radio .refl).finish
      exact hkeeps.gives hq (hexec.trans (by rw [State.opStart_blocked hat hc])) ⟨State.finish_radio, State.finish_finished _ _ _ _, hkeeps⟩
  case ends =>
    intro d us used down outcome window over'
    have hover : s.opOver o = true ↔ over' := State.opOver_iff
    refine ⟨fun h => ?waits, fun hon h hnone => ?silent, fun st r hout hon h hbytes => ?finishes,
      fun st r hout hon h hbytes hwrite hplain hwatch => ?stores,
      fun hrx hnone => ?hears, fun hls hnone hverify => ⟨fun alarm n hcode htime => ?heard, fun h => ?unheard⟩, fun hon => ?unlocks⟩
    case waits => 
      rw [exec_radioOpEnd_waits hop (Bool.eq_false_iff.mpr fun ht => h (hover.mp ht))]
      exact ok_of s hq
    case silent =>
      have hoff := s.opIdle_offAir.finish (d := d) (st := rsNoSync) (r := 0)
      exact ⟨_, (exec_radioOpEnd_silent hop hact hon (hover.mpr h) hnone).trans (ok_of _ (hoff.quiet hq)), hoff,
        State.finish_finished _ _ _ _, State.finish_mem⟩
    case finishes =>
      have hoff := s.opIdle_offAir.finish (d := d) (st := st) (r := r)
      exact ⟨_, (exec_radioOpEnd_outcome hop hact hon (hover.mpr h) hout hbytes).trans (ok_of _ (hoff.quiet hq)), hoff,
        State.finish_finished _ _ _ _, State.finish_mem⟩
    case stores =>
      have hopen : s.opIdle.StoresPlain d.buf o.bytes.length := fun k hk =>
        ⟨State.engWrite_plain hwrite hplain hk, (State.watched_opIdle _).trans (hwatch k hk)⟩
      obtain ⟨m, hm, hin, hrest⟩ := State.storeBytes_holds (tag := .raw) hopen
      have hoff := (s.opIdle_offAir.setMem (m := m)).finish (d := d) (st := st) (r := r)
      have hexec := exec_radioOpEnd_stores hop hact hon (hover.mpr h) hout hbytes hwrite
      rw [hm] at hexec
      refine ⟨_, hexec.trans (ok_of _ (hoff.quiet hq)), hoff, State.finish_finished _ _ _ _, ?_, fun a ha => ?_⟩
      · rw [State.finish_mem]
        exact hin
      · rw [State.finish_mem]
        exact hrest a ha
    case hears =>
      intro q h crcHolds len air inTime
      have hbad (hcrc : ¬ crcHolds) : decodeFrame (Config.pathTie s.free) x = none := decodeFrame_bad rfl hcrc
      have hplain (hcrc : crcHolds) (hflags : h.extractLsb' 8 4 = 0) :
          decodeFrame (Config.pathTie s.free) x = some (len, 0, 0, air.take len, true) := decodeFrame_plain rfl hcrc hflags
      refine ⟨fun hmiss => ?misses, fun hthresh hcrc htime => ?bad, fun hthresh hcrc hflags htime hlen => ?good⟩
      case misses =>
        rw [exec_syncDetect_misses hop fun hthresh => ?_]
        · exact ok_of s hq
        rcases hmiss with hlow | ⟨hcrc, hflags, hlate⟩ | ⟨hcrc, hlate⟩
        · exact absurd hthresh (Nat.not_le.mpr hlow)
        · rwa [chipsAfter_plain (hplain hcrc hflags)]
        · rwa [chipsAfter_bad (hbad hcrc)]
      case bad =>
        have hframe := hbad hcrc
        exact (exec_syncDetect_hears hop hact hrx hnone hthresh (by rwa [chipsAfter_bad hframe]) (rxOutcome_bad hframe)).trans (ok_of _ hq)
      case good =>
        have hframe := hplain hcrc hflags
        exact (exec_syncDetect_hears hop hact hrx hnone hthresh (by rwa [chipsAfter_plain hframe])
          (rxOutcome_plain hframe hlen)).trans (ok_of _ hq)
    case heard =>
      exact (exec_lanternDetect_heard hop hact hls hnone hverify hcode htime).trans (ok_of _ hq)
    case unheard =>
      rcases h with hcode | hlate
      · exact (exec_lanternDetect_none hcode).trans (ok_of s hq)
      · exact (exec_lanternDetect_late hop hverify hlate).trans (ok_of s hq)
    case unlocks =>
      obtain ⟨hlock, hkeeps, hstopped, hrelock, hgiven⟩ := s.opUnlocked_ends (o := o)
      exact hkeeps.gives hq (exec_synthUnlock_stops hon hop hact) ⟨hlock, hkeeps, hstopped, hrelock, hgiven⟩

end

namespace Sys2Proof.Machine

/-! ## The frame-buffer pool (10 R430, R431) -/

section
variable {s : State} {d : Desc} {i j st : Nat} {b : BufSt} {r : Word} {a : Account}

@[simp] theorem State.bufSt_setBuf_self : (s.setBuf i b).bufSt i = b := smGet_set_self _ _ _ _

theorem State.bufSt_setBuf_ne (h : j ≠ i) : (s.setBuf i b).bufSt j = s.bufSt j := smGet_set_ne _ _ _ h

theorem State.bufSt_of_radio {u : State} (h : u.radio = s.radio) : u.bufSt j = s.bufSt j := by rw [State.bufSt, h, State.bufSt]

theorem State.acct_of_ledger {u : State} (h : u.ledger = s.ledger) : u.acct j = s.acct j := by rw [State.acct, h, State.acct]

theorem State.taken_reg {u ch : Nat} (k : Nat) : (s.taken u ch d).reg k = s.reg k := by rw [State.reg, State.taken_live, State.reg]

/-- The lowest FREE buffer is the same once the descriptor has been taken. -/
theorem State.taken_lowestFree : (s.taken 4 1 d).lowestFree = s.lowestFree := by
  have hbuf (k : Nat) : (s.taken 4 1 d).bufSt k = s.bufSt k := State.bufSt_of_radio State.taken_radio
  simp only [State.lowestFree, hbuf, State.flag_of_reg (State.taken_reg F.RAD_POOL_GRANTED.addr)]

/-- A CHAN 1 descriptor that its checks pass has its work done (10 R437). -/
theorem State.poolTake_runs {run : State → Desc → State} (ho : s.offers 4 1 d) (hhas : s.has (pathUnit d.band) = true) (hgood : d.poolBadOp = false) :
    s.poolTake d.op run = run (s.taken 4 1 d) d := by
  have hthere : (s.taken 4 1 d).has (pathUnit d.band) = true := by
    rw [State.has, State.fldBit, State.fld_of_reg (State.taken_reg _)]
    exact hhas
  rw [State.poolTake, s.takeWith_offers 4 1 d _ _ ho (by simp)]
  simp only [hthere, hgood, Bool.not_true, Bool.false_eq_true, if_false]

/-- The state after a descriptor that gives buffer `i` another state and the pool other terms, and ends OK. -/
def State.poolMoved (s : State) (d : Desc) (i : Nat) (b : BufSt) (a : Account) (r : Word) : State :=
  (((s.taken 4 1 d).setBuf i b).setAcct 0x50 a).finish d stOk r

theorem State.poolMoved_takes : TakenFrom s (s.poolMoved d i b a r) d ∧ Finished (s.poolMoved d i b a r) d stOk r ∧
    (s.poolMoved d i b a r).bufSt i = b ∧ (s.poolMoved d i b a r).acct 0x50 = a ∧
    (∀ j, j ≠ i → (s.poolMoved d i b a r).bufSt j = s.bufSt j) ∧ (∀ k, k ≠ 0x50 → (s.poolMoved d i b a r).acct k = s.acct k) ∧
    (s.poolMoved d i b a r).live = s.live ∧ (s.poolMoved d i b a r).mem = (s.taken 4 1 d).mem ∧
    (s.poolMoved d i b a r).threads = s.threads := by
  refine ⟨.of_cons (State.finish_cons _ d stOk r), State.finish_finished _ d stOk r, ?_, ?_, fun j hj => ?_, fun k hk => ?_,
    State.finish_live.trans State.taken_live, State.finish_mem, State.finish_threads.trans State.taken_threads⟩
  · exact (State.bufSt_of_radio State.finish_radio).trans State.bufSt_setBuf_self
  · exact (State.acct_of_ledger State.finish_ledger).trans (State.acct_setAcct_self _ _ _)
  · exact (State.bufSt_of_radio State.finish_radio).trans ((State.bufSt_setBuf_ne hj).trans (State.bufSt_of_radio State.taken_radio))
  · exact (State.acct_of_ledger State.finish_ledger).trans ((State.acct_setAcct_ne hk).trans (State.acct_of_ledger State.taken_ledger))

theorem State.poolMoved_quiet (hq : s.quiet) : (s.poolMoved d i b a r).quiet := by
  have hdue : (s.taken 4 1 d).ledger.resetDue = s.ledger.resetDue := congrArg Ledger.resetDue State.taken_ledger
  exact (congrArg Ledger.resetDue State.finish_ledger).trans (hdue.trans hq)

/-- A posting to the pool's account that keeps its sum within what it was granted is made (01 R26, R49). -/
theorem State.poolPosted {f : Account → Option Account} (hp : s.ledger.parity = []) (hfits : (s.acct 0x50).fits = true)
    (hwin : a.f = 0 ∨ (s.win 0x50).isOpen = true) (hf : f (s.acct 0x50) = some a) (hsame : a.g = (s.acct 0x50).g) (hsum : a.g = a.r + a.h + a.f) :
    ((s.taken 4 1 d).setBuf i b).posted 0x50 f = ((s.taken 4 1 d).setBuf i b).setAcct 0x50 a := by
  have hledger : ((s.taken 4 1 d).setBuf i b).ledger = s.ledger := State.taken_ledger
  refine State.posted_sound _ _ f a rfl ((congrArg f (State.acct_of_ledger hledger)).trans hf) ?_ ?_ ?_
  · rw [Account.fits_iff] at hfits ⊢
    omega
  · rw [hledger, hp]
    rfl
  · rw [State.win, hledger]
    exact (Account.sound_iff _ _).mpr ⟨hsum, hwin⟩

/-- So a descriptor that moves a buffer with such a posting ends OK, and orders no reset. -/
theorem State.poolPosted_moves {f : Account → Option Account} (hq : s.quiet) (hp : s.ledger.parity = []) (hfits : (s.acct 0x50).fits = true)
    (hwin : a.f = 0 ∨ (s.win 0x50).isOpen = true) (hf : f (s.acct 0x50) = some a) (hsame : a.g = (s.acct 0x50).g) (hsum : a.g = a.r + a.h + a.f) :
    ok ((((s.taken 4 1 d).setBuf i b).posted 0x50 f).finish d stOk r) = .next (s.poolMoved d i b a r) := by
  rw [State.poolPosted hp hfits hwin hf hsame hsum]
  exact ok_of _ (State.poolMoved_quiet hq)

end
end Sys2Proof.Machine

namespace Sys2Proof.Machine

/-! ## The die temperature measured (10 R425, R426) -/

section
variable {s : State} {p : Fin 2} {deg : Int}

theorem celsius_natAbs : celsius deg.natAbs (decide (deg < 0)) = deg := by
  unfold celsius
  split
  · next h => rw [decide_eq_true_eq] at h; omega
  · next h => rw [decide_eq_true_eq] at h; omega

/-- The state with the die temperature as measured. -/
def State.measured (s : State) (deg : Int) : State := { s with radio := { s.radio with temp := deg } }

theorem exec_radioCalibrate_measured (hon : s.on = true) (hlit : s.lit .radio = true) :
    exec (.radioCalibrate p deg.natAbs (decide (deg < 0))) s = ok (if (s.measured deg).calDue p then
      (if (s.measured deg).airSoon then (s.measured deg).calDeferred p else (s.measured deg).calibrated p) else s.measured deg) := by
  rw [exec_radioCalibrate, execRadioCalibrate]
  simp only [hon, hlit, Bool.and_self, if_true, celsius_natAbs]
  rfl

end

/-! ## The sniffer's lead (10 R424; 17 R674) -/

section
variable {s : State} {dbm : Int}

/-- A lighting trigger changes its island, and for the radio island that it is lit for more than the sniffer (02 R70). -/
theorem State.wakeIsland_frame (i : Island) : s.wakeIsland i = { s.wakeNoted i with isl := (s.wakeIsland i).isl } := by
  unfold State.wakeIsland
  dsimp only
  split
  · rfl
  · split <;> rfl

theorem State.wakeNoted_island (i j : Island) : (s.wakeNoted i).island j = s.island j := by
  unfold State.wakeNoted
  split <;> rfl

theorem State.island_wakeIsland_ne {i j : Island} (h : j ≠ i) : (s.wakeIsland i).island j = s.island j := by
  have hset (x : IslandSt) : ((s.wakeNoted i).setIsland i x).island j = s.island j :=
    (State.island_setIsland_ne _ _ h.symm).trans (State.wakeNoted_island i j)
  unfold State.wakeIsland
  dsimp only
  split
  · exact State.wakeNoted_island i j
  · split
    · exact hset _
    · exact State.wakeNoted_island i j
    · exact hset _
    · exact hset _

/-- A dark radio island begins to light (02 R77). -/
theorem State.wakeIsland_radio_dark (h : (s.island .radio).st = .dark) : ((s.wakeIsland .radio).island .radio).st = .lighting := by
  have hst : ((s.wakeNoted .radio).island .radio).st = .dark := (congrArg IslandSt.st (State.wakeNoted_island .radio .radio)).trans h
  have hhere : (s.wakeNoted .radio).islandHere .radio = true := rfl
  simp only [State.wakeIsland, hhere, hst, Bool.not_true, Bool.false_eq_true, if_false, State.island_setIsland_self]

/-- The state after XT32M has been started for a window, and the island lit for it. -/
def State.sniffLed (s : State) : State :=
  let s1 := ({ s with radio := { s.radio with lead := true } }).wakeIsland .radio
  { s1 with radio := { s1.radio with sniffLit := s.radio.sniffLit || (s.island .radio).st == .dark } }

theorem State.sniffLed_lights : s.sniffLed.radio = { s.radio with
      lead := true, sniffLit := s.radio.sniffLit || (s.island .radio).st == .dark } ∧
    ((s.island .radio).st = .dark → (s.sniffLed.island .radio).st = .lighting) ∧ (∀ j, j ≠ .radio → s.sniffLed.island j = s.island j) ∧
    s.sniffLed = { s with radio := s.sniffLed.radio, isl := s.sniffLed.isl } := by
  have hnoted (v : State) : ∃ b, v.wakeNoted .radio = { v with radio := { v.radio with sniffLit := b } } := by
    unfold State.wakeNoted
    split
    · exact ⟨false, rfl⟩
    · exact ⟨v.radio.sniffLit, rfl⟩
  obtain ⟨b, hb⟩ := hnoted { s with radio := { s.radio with lead := true } }
  have hframe := State.wakeIsland_frame (s := { s with radio := { s.radio with lead := true } }) .radio
  rw [hb] at hframe
  refine ⟨?_, fun h => ?_, fun j hj => ?_, ?_⟩
  · rw [State.sniffLed, hframe]
  · exact State.wakeIsland_radio_dark (s := { s with radio := { s.radio with lead := true } }) h
  · exact State.island_wakeIsland_ne (s := { s with radio := { s.radio with lead := true } }) hj
  · rw [State.sniffLed, hframe]

theorem exec_sniffLead_leads (hsniffs : s.sniffs = true) (hlead : s.radio.lead = false) (hat : s.radio.sniffNext = s.now + 17) :
    exec .sniffLead s = ok s.sniffLed := by
  rw [exec_sniffLead, execSniffLead, if_pos (by rw [hsniffs, hlead, hat, beq_self_eq_true]; rfl)]
  rfl

theorem exec_sniffLead_early (hat : s.radio.sniffNext ≠ s.now + 17) : exec .sniffLead s = ok s := by
  rw [exec_sniffLead, execSniffLead, if_neg (by rw [beq_false_of_ne hat, Bool.and_false]; exact Bool.false_ne_true)]

/-! ## A sniff window opens and ends (10 R423) -/

/-- The state with a sniff window open on its path, at energy of so many dBm. -/
def State.sniffOpened (s : State) (dbm : Int) : State :=
  ({ s with radio := { s.radio with
      sniffNext := s.now + s.fld F.RAD_SNPER_TICKS, sniffPath := s.fld F.RAD_SNIFF_BAND
      verify := decide ((s.fld F.RAD_SNIFF_LEVEL : Int) - 128 < dbm)
      verifyTo := s.nowU + s.fld F.RAD_SNIFF_WIN * oneUs + chipTime 96 (s.lanternRate (s.fld F.RAD_SNIFF_BAND)) } }).setBit F.RAD_STAT_SNIFFING

theorem exec_sniffWindow_opens (hsniffs : s.sniffs = true) (hlit : s.lit .radio = true) (hlead : s.radio.lead = true)
    (hat : s.radio.sniffNext = s.now) (hclosed : s.flag F.RAD_STAT_SNIFFING = false) : exec (.sniffWindow dbm) s = ok (s.sniffOpened dbm) := by
  rw [exec_sniffWindow, execSniffWindow, if_pos (by rw [hsniffs, hlit, hlead, hat, hclosed, beq_self_eq_true]; rfl)]
  rfl

/-- XT32M that nothing needs any longer stops: of the registers only CLK_STAT is written (02 R79). -/
theorem State.xt32mSettle_frame : ∃ v, s.xt32mSettle = { s with live := v } := by
  unfold State.xt32mSettle
  split
  · exact ⟨s.live, rfl⟩
  · exact ⟨_, rfl⟩

theorem State.xt32mSettle_reg {a : Nat} (h : a ≠ F.CLK_STAT_XT32MOK.addr) : s.xt32mSettle.reg a = s.reg a := by
  unfold State.xt32mSettle
  split
  · rfl
  · exact s.reg_setFld_ne _ _ _ h

theorem Keeps.xt32mSettle {u : State} {l : List Nat} (h : Keeps l s u) (hl : F.CLK_STAT_XT32MOK.addr ∈ l) : Keeps l s u.xt32mSettle := by
  unfold State.xt32mSettle
  split
  · exact h
  · exact h.clrFld hl

/-- The radio island goes dark for the sniffer in Ember only (log 112). -/
theorem State.sniffDark_frame : ∃ v w, s.sniffDark = { s with isl := v, ledger := { s.ledger with win := w } } := by
  unfold State.sniffDark
  split
  · exact s.beginQuiesce_frame .radio true
  · exact ⟨s.isl, s.ledger.win, rfl⟩

theorem State.sniffDark_awake (h : s.pstate ≠ 1) : s.sniffDark = s :=
  if_neg (by rw [beq_false_of_ne h, Bool.false_and, Bool.false_and]; exact Bool.false_ne_true)

/-- What the island and the crystal that the sniffer leaves alone change: no memory, thread or account, and of the registers CLK_STAT. -/
theorem State.sniffDark_settles : s.sniffDark.xt32mSettle.radio = s.radio ∧ s.sniffDark.xt32mSettle.mem = s.mem ∧
    s.sniffDark.xt32mSettle.threads = s.threads ∧ s.sniffDark.xt32mSettle.ledger = s.sniffDark.ledger ∧
    (∀ a, a ≠ F.CLK_STAT_XT32MOK.addr → s.sniffDark.xt32mSettle.reg a = s.reg a) ∧
    s.sniffDark.ledger.acct = s.ledger.acct ∧ s.sniffDark.ledger.resetDue = s.ledger.resetDue := by
  obtain ⟨v, w, hdark⟩ := s.sniffDark_frame
  obtain ⟨l, hsettle⟩ := s.sniffDark.xt32mSettle_frame
  have hreg (a : Nat) (ha : a ≠ F.CLK_STAT_XT32MOK.addr) : s.sniffDark.xt32mSettle.reg a = s.reg a := by
    rw [State.xt32mSettle_reg ha, hdark]
    rfl
  refine ⟨?_, ?_, ?_, ?_, hreg, ?_, ?_⟩
  · rw [hsettle, hdark]
  · rw [hsettle, hdark]
  · rw [hsettle, hdark]
  · rw [hsettle]
  · rw [hdark]
  · rw [hdark]

/-- The state with the window closed, its verify counted if it met no lantern (log 30). -/
def State.sniffClosed (s : State) : State :=
  let s1 := if s.radio.verify then s.satInc F.RAD_LSTAT_FALSE else s
  ({ s1 with radio := { s1.radio with verify := false, lead := false } }).clrFld F.RAD_STAT_SNIFFING

theorem exec_sniffWindowEnd_closes (hopen : s.flag F.RAD_STAT_SNIFFING = true) : exec .sniffWindowEnd s = ok s.sniffClosed.sniffDark.xt32mSettle := by
  rw [exec_sniffWindowEnd, execSniffWindowEnd, if_pos hopen]
  rfl

theorem State.sniffClosed_counts : s.sniffClosed.flag F.RAD_STAT_SNIFFING = false ∧
    s.sniffClosed.radio = { s.radio with verify := false, lead := false } ∧
    s.sniffClosed.fld F.RAD_LSTAT_FALSE = (if s.radio.verify then min 255 (s.fld F.RAD_LSTAT_FALSE + 1) else s.fld F.RAD_LSTAT_FALSE) ∧
    Keeps [F.RAD_STAT_LOCK.addr, F.RAD_LSTAT_FALSE.addr] s s.sniffClosed := by
  have hoff {v : State} : (v.clrFld F.RAD_STAT_SNIFFING).flag F.RAD_STAT_SNIFFING = false :=
    State.flag_clrFld_self _ _ (by simp [Fld.fits, F.RAD_STAT_SNIFFING])
  have hcount {v : State} : (v.clrFld F.RAD_STAT_SNIFFING).fld F.RAD_LSTAT_FALSE = v.fld F.RAD_LSTAT_FALSE :=
    State.fld_setFld_reg _ _ _ _ (by decide)
  unfold State.sniffClosed
  cases hv : s.radio.verify with
  | true =>
    refine ⟨hoff, rfl, hcount.trans ?_, (Keeps.radio (Keeps.refl.satInc (by decide))).clrFld (by decide)⟩
    exact State.fld_satInc_self (s := s) (by simp [Fld.fits, F.RAD_LSTAT_FALSE])
  | false => exact ⟨hoff, rfl, hcount, (Keeps.radio .refl).clrFld (by decide)⟩

/-- The window's end as a whole: the state closed, with what the sniffer alone needed left to go dark (log 112). -/
theorem exec_sniffWindowEnd_ends (hq : s.quiet) (hopen : s.flag F.RAD_STAT_SNIFFING = true) :
    Gives .sniffWindowEnd s (fun u => u.flag F.RAD_STAT_SNIFFING = false ∧ u.radio = { s.radio with verify := false, lead := false } ∧
      u.fld F.RAD_LSTAT_FALSE = (if s.radio.verify then min 255 (s.fld F.RAD_LSTAT_FALSE + 1) else s.fld F.RAD_LSTAT_FALSE) ∧
      SameRegs [F.RAD_STAT_LOCK.addr, F.RAD_LSTAT_FALSE.addr, F.CLK_STAT_XT32MOK.addr] s u ∧ u.mem = s.mem ∧ u.threads = s.threads ∧
      u.ledger.acct = s.ledger.acct ∧ (s.pstate ≠ 1 → u.ledger = s.ledger)) := by
  obtain ⟨hoff, hradio, hcount, hregs, hmem, hthreads, hledger⟩ := s.sniffClosed_counts
  obtain ⟨dradio, dmem, dthreads, dledger, dreg, dacct, ddue⟩ := s.sniffClosed.sniffDark_settles
  have hquiet : s.sniffClosed.sniffDark.xt32mSettle.quiet := by
    rw [State.quiet, dledger, ddue, hledger]
    exact hq
  have hother (k : Nat) (hk : k ∉ [F.RAD_STAT_LOCK.addr, F.RAD_LSTAT_FALSE.addr, F.CLK_STAT_XT32MOK.addr]) :
      s.sniffClosed.sniffDark.xt32mSettle.reg k = s.reg k := by
    simp only [List.mem_cons, List.not_mem_nil, or_false, not_or] at hk
    obtain ⟨hstat, hfalse, hxt⟩ := hk
    exact (dreg k hxt).trans (hregs k (by simp [hstat, hfalse]))
  have hstate : s.sniffClosed.pstate = s.pstate := State.fld_of_reg (hregs _ (by decide))
  refine ⟨_, (exec_sniffWindowEnd_closes hopen).trans (ok_of _ hquiet), (State.flag_of_reg (dreg _ (by decide))).trans hoff, dradio.trans hradio,
    (State.fld_of_reg (dreg _ (by decide))).trans hcount, hother, dmem.trans hmem, dthreads.trans hthreads, ?_, fun hawake => ?_⟩
  · rw [dledger, dacct, hledger]
  · rw [dledger, State.sniffDark_awake (by rw [hstate]; exact hawake), hledger]

end
end Sys2Proof.Machine

namespace Sys2Proof.Machine

/-! ## The steady island lit again from Ember or Vigil (02 R74, Table 2.3) -/

section
variable {s u : State} {f : Fld} {n : Nat}

/-- What a steady restart leaves of a state `s`: its islands, its ledger, its radio, and the registers of the addresses past the steady island's. -/
def State.Spared (s u : State) : Prop :=
  u.isl = s.isl ∧ u.ledger = s.ledger ∧ u.radio = s.radio ∧ ∀ a, 0x4000A000 ≤ a → u.reg a = s.reg a

theorem State.Spared.refl : s.Spared s := ⟨rfl, rfl, rfl, fun _ _ => rfl⟩

theorem State.Spared.setFld (h : s.Spared u) (hf : f.addr < 0x4000A000) : s.Spared (u.setFld f n) := by
  obtain ⟨hisl, hledger, hradio, hreg⟩ := h
  exact ⟨hisl, hledger, hradio, fun a ha => (u.reg_setFld_ne f n _ (ne_of_gt (lt_of_lt_of_le hf ha))).trans (hreg a ha)⟩

theorem State.Spared.setThr {t : ThreadId} {x : Thread} (h : s.Spared u) : s.Spared (u.setThr t x) := h

theorem State.Spared.fresh (h : s.Spared u) : s.Spared u.fresh := h

theorem State.Spared.xt32mSettle (h : s.Spared u) : s.Spared u.xt32mSettle := by
  unfold State.xt32mSettle
  split
  · exact h
  · exact h.setFld (by decide)

theorem State.Spared.fllRetarget (h : s.Spared u) : s.Spared u.fllRetarget := by
  obtain ⟨hisl, hledger, hradio, hreg⟩ := h
  have hkept (a : Nat) (ha : 0x4000A000 ≤ a) : u.fllRetarget.reg a = u.reg a :=
    u.reg_fllRetarget (ne_of_gt (lt_of_lt_of_le (by decide) ha)) (ne_of_gt (lt_of_lt_of_le (by decide) ha))
  obtain ⟨l, hframe⟩ := u.fllRetarget_frame
  refine ⟨?_, ?_, ?_, fun a ha => (hkept a ha).trans (hreg a ha)⟩
  · rw [hframe, ← hisl]
  · rw [hframe, ← hledger]
  · rw [hframe, ← hradio]

/-- The threads' restart writes EVT registers only (05 R241). -/
theorem State.restartThreads_spares : s.Spared s.restartThreads := by
  have hstep (v : State) (t : ThreadId) (x : Thread) (hv : s.Spared v) :
      s.Spared (((v.setThr t x).clrFld (F.EVT_TFPC_PC t.val)).clrFld (F.EVT_TFCAUSE_CAUSE t.val)) := by
    have ht : t.val < 10 := t.isLt
    have hpc : (F.EVT_TFPC_PC t.val).addr < 0x4000A000 := by
      simp only [F.EVT_TFPC_PC]
      omega
    have hcause : (F.EVT_TFCAUSE_CAUSE t.val).addr < 0x4000A000 := by
      simp only [F.EVT_TFCAUSE_CAUSE]
      omega
    exact (hv.setThr.setFld hpc).setFld hcause
  have hfold (l : List ThreadId) (v : State) (hv : s.Spared v) : s.Spared (l.foldl (fun acc t =>
      ((acc.setThr t ((acc.thr t).restart s.free (if t = 0 then .run else .stopped))).clrFld (F.EVT_TFPC_PC t.val)).clrFld
        (F.EVT_TFCAUSE_CAUSE t.val)) v) := by
    induction l generalizing v with
    | nil => exact hv
    | cons t l ih => exact ih _ (hstep v t _ hv)
  rw [State.restartThreads]
  exact (hfold _ s .refl).fresh

/-- The registers that reset with the steady island lie below those of the other units. -/
theorem steadyReg_high {a : Nat} (h : 0x4000A000 ≤ a) : steadyReg a = false := by
  have h8 : (a / 0x1000 == 0x40008) = false := beq_false_of_ne (by omega)
  have h0 : (a == 0x40006000) = false := beq_false_of_ne (by omega)
  have h4 : (a == 0x40006004) = false := beq_false_of_ne (by omega)
  have h6 : decide (a < 0x40006100) = false := decide_eq_false (by omega)
  have hc : (a == 0x4000900C) = false := beq_false_of_ne (by omega)
  rw [steadyReg, h8, h0, h4, h6, hc, Bool.and_false]
  rfl

/-- With the cipher lock free, the restart breaks no lock. -/
theorem State.breakLockOf_free {ts : List ThreadId} {c : Nat} (h : s.flag F.CIP_LOCK_HELD = false) : s.breakLockOf ts c = s := by
  have hfree : s.breakLock c = s := if_pos (by rw [h]; rfl)
  rw [State.breakLockOf, hfree, ite_self]

theorem State.Spared.resetSteady (h : s.Spared u) : s.Spared (u.resetRegs steadyReg) := by
  obtain ⟨hisl, hledger, hradio, hreg⟩ := h
  exact ⟨hisl, hledger, hradio, fun a ha => (u.reg_resetRegs_kept (steadyReg_high ha)).trans (hreg a ha)⟩

theorem State.Spared.units {c : Vector Prescaler 8} {x : Csp} {b : BootSt} (h : s.Spared u) : s.Spared { u with cnt := c, csp := x, boot := b } := h

theorem State.Spared.time {x : Time} (h : s.Spared u) : s.Spared { u with time := x } := h

theorem State.Spared.fllStop (h : s.Spared u) : s.Spared u.fllStop := h.time.setFld (by decide)

theorem State.restartSteady_spares (h : s.flag F.CIP_LOCK_HELD = false) : s.Spared (s.restartSteady State.fllRetarget) := by
  have hthreads : s.Spared s.restartThreads := State.restartThreads_spares
  rw [State.restartSteady, State.breakLockOf_free h]
  exact ((hthreads.resetSteady.units.fllStop.setFld (by decide)).setFld (by decide)).fllRetarget.xt32mSettle

/-- The state with what woke the steady island, and from which state, recorded in PWR. -/
def State.wakeRecorded (s : State) (last src : Nat) : State :=
  (((s.setFld F.PWR_STAT_LAST last).setFld F.PWR_WAKE_SRC (src % 32)).setFld F.PWR_WAKE_SNUFF (src / 32)).clrFld F.PWR_WAKE_ISLAND

section
variable {last src : Nat}

theorem State.wakeRecorded_src : (s.wakeRecorded last src).fld F.PWR_WAKE_SRC = src % 32 := by
  rw [State.wakeRecorded, State.clrFld, State.fld_setFld_other _ F.PWR_WAKE_ISLAND F.PWR_WAKE_SRC _ (Or.inr (by decide)),
    State.fld_setFld_other _ F.PWR_WAKE_SNUFF F.PWR_WAKE_SRC _ (Or.inr (by decide)),
    State.fld_setFld_self _ _ _ (by simp [Fld.fits, F.PWR_WAKE_SRC])]
  exact Nat.mod_mod _ _

theorem State.wakeRecorded_reg {a : Nat} (h : 0x4000A000 ≤ a) : (s.wakeRecorded last src).reg a = s.reg a := by
  have hne (f : Fld) (hf : f.addr < 0x4000A000) : a ≠ f.addr := ne_of_gt (lt_of_lt_of_le hf h)
  rw [State.wakeRecorded, State.clrFld, State.reg_setFld_ne _ _ _ _ (hne _ (by decide)), State.reg_setFld_ne _ _ _ _ (hne _ (by decide)),
    State.reg_setFld_ne _ _ _ _ (hne _ (by decide)), State.reg_setFld_ne _ _ _ _ (hne _ (by decide))]

end

/-- The state with the steady island lighting and restarted. -/
def State.steadyRelit (s : State) : State :=
  (({ s with radio := { s.radio with lead := false } }).setIsland .steady { IslandSt.dark with
    st := .lighting, since := s.now }).restartSteady State.fllRetarget

theorem State.steadyRelit_lights (hlock : s.flag F.CIP_LOCK_HELD = false) : (s.steadyRelit.island .steady).st = .lighting ∧
    s.steadyRelit.ledger = s.ledger ∧ s.steadyRelit.reg F.RAD_LSTAT_HIT.addr = s.reg F.RAD_LSTAT_HIT.addr := by
  obtain ⟨hisl, hledger, -, hreg⟩ := State.restartSteady_spares (s := ({ s with radio := { s.radio with lead := false } }).setIsland .steady
    { IslandSt.dark with st := .lighting, since := s.now }) hlock
  refine ⟨?_, hledger, hreg _ (by decide)⟩
  have hset := State.island_setIsland_self { s with radio := { s.radio with lead := false } } .steady
    { IslandSt.dark with st := .lighting, since := s.now }
  rw [State.island] at hset
  rw [State.steadyRelit, State.island, hisl, hset]

/-- The steady island begins to light, with its wake source recorded; the ledger and the lantern's status stand. -/
theorem State.steadyWakes_lights {src : Nat} (hlock : s.flag F.CIP_LOCK_HELD = false) : ((s.steadyWakes src).island .steady).st = .lighting ∧
    (s.steadyWakes src).fld F.PWR_WAKE_SRC = src % 32 ∧ (s.steadyWakes src).ledger = s.ledger ∧
    (s.steadyWakes src).reg F.RAD_LSTAT_HIT.addr = s.reg F.RAD_LSTAT_HIT.addr := by
  have hdef : s.steadyWakes src = (if (s.steadyRelit.wakeRecorded s.pstate src).radio.verify then s.steadyRelit.wakeRecorded s.pstate src
      else (s.steadyRelit.wakeRecorded s.pstate src).clrFld F.RAD_STAT_SNIFFING) := rfl
  obtain ⟨hst, hledger, hhit⟩ := State.steadyRelit_lights hlock
  rw [hdef]
  generalize s.steadyRelit = v at hst hledger hhit
  have hkept := (v.wakeRecorded_reg (last := s.pstate) (src := src) (a := F.RAD_LSTAT_HIT.addr) (by decide)).trans hhit
  split
  · exact ⟨hst, State.wakeRecorded_src, hledger, hkept⟩
  · exact ⟨hst, (State.fld_setFld_reg _ _ _ _ (by decide)).trans State.wakeRecorded_src, hledger,
      (State.reg_setFld_ne _ _ _ _ (by decide)).trans hkept⟩

end

/-! ## The wake lantern met by a verify (10 R423, Table 10.3) -/

section
variable {s : State} {first second : Word} {n : Nat}

/-- The state in which a verify has met the wake lantern. -/
def State.lanternMet (s : State) : State :=
  ((({ s with radio := { s.radio with verify := false, lead := false } }).clrFld F.RAD_STAT_SNIFFING).setBit F.RAD_LSTAT_HIT).setFld
    F.RAD_LSTAT_ALARM 0

theorem exec_lanternDetect_wakes (hverify : s.radio.verify = true) (htime : s.nowU ≤ s.radio.verifyTo)
    (hcode : s.lanternCode first second = some (false, n)) :
    exec (.lanternDetect first second) s = ok (s.lanternMet.wakeSource 2).xt32mSettle := by
  rw [exec_lanternDetect, execLanternDetect]
  simp only [hcode, hverify, htime, decide_true, Bool.and_self, if_true, Bool.false_eq_true, if_false]
  rfl

theorem State.lanternMet_hits : s.lanternMet.flag F.RAD_LSTAT_HIT = true ∧ s.lanternMet.flag F.RAD_LSTAT_ALARM = false ∧
    s.lanternMet.flag F.RAD_STAT_SNIFFING = false ∧ s.lanternMet.radio = { s.radio with verify := false, lead := false } ∧
    Keeps [F.RAD_STAT_LOCK.addr, F.RAD_LSTAT_HIT.addr] s s.lanternMet := by
  refine ⟨?_, ?_, ?_, rfl, (((Keeps.radio .refl).clrFld (by decide)).setBit (by decide)).setFld (by decide)⟩
  · exact (State.flag_clrFld_other _ _ _ (Or.inr (by decide))).trans
      (State.flag_setBit_self _ _ (by simp [Fld.fits, F.RAD_LSTAT_HIT]) Nat.one_pos)
  · exact State.flag_clrFld_self _ _ (by simp [Fld.fits, F.RAD_LSTAT_ALARM])
  · refine (State.flag_setFld_reg (by decide)).trans ((State.flag_setFld_reg (by decide)).trans ?_)
    exact State.flag_clrFld_self _ _ (by simp [Fld.fits, F.RAD_STAT_SNIFFING])

theorem State.wakeSource_disabled {bit : Nat} (h : s.fldBit F.PWR_WAKEEN_SRC bit = false) (hbit : bit ≠ 5) : s.wakeSource bit = s :=
  if_pos (by rw [h, beq_false_of_ne hbit, Bool.or_false, Bool.not_false, Bool.or_true])

theorem State.wakeSource_wakes {bit : Nat} (h : s.fldBit F.PWR_WAKEEN_SRC bit = true) (hon : s.on = true) (hentry : s.power.entry = none)
    (hdown : s.pstate < 2) : s.wakeSource bit = s.steadyWakes (2 ^ bit) := by
  rw [State.wakeSource, if_neg (by rw [h, hon]; exact Bool.false_ne_true), if_neg (by rw [hentry]; exact Bool.false_ne_true), if_pos hdown]

/-- The verify that met the lantern begins to wake the chip from Ember. -/
theorem State.lanternMet_wakes (hen : s.fldBit F.PWR_WAKEEN_SRC 2 = true) (hon : s.on = true) (hember : s.pstate = 1)
    (hentry : s.power.entry = none) : s.lanternMet.wakeSource 2 = s.lanternMet.steadyWakes 4 := by
  obtain ⟨-, -, -, -, hkeeps⟩ := s.lanternMet_hits
  have hsource : s.lanternMet.fldBit F.PWR_WAKEEN_SRC 2 = true := by rw [State.fldBit, hkeeps.fld (by decide)]; exact hen
  have hstate : s.lanternMet.pstate = 1 := (hkeeps.fld (f := F.PWR_STAT_STATE) (by decide)).trans hember
  exact State.wakeSource_wakes hsource hon hentry (by rw [hstate]; exact Nat.one_lt_two)

/-- The lantern met, with its wake source off: HIT stands, and the chip sleeps on. -/
theorem exec_lanternDetect_sleeps (hq : s.quiet) (hverify : s.radio.verify = true) (htime : s.nowU ≤ s.radio.verifyTo)
    (hcode : s.lanternCode first second = some (false, n)) (hdis : s.fldBit F.PWR_WAKEEN_SRC 2 = false) :
    Gives (.lanternDetect first second) s (fun u => u.flag F.RAD_LSTAT_HIT = true ∧ u.flag F.RAD_LSTAT_ALARM = false ∧
      u.flag F.RAD_STAT_SNIFFING = false ∧ u.radio = { s.radio with verify := false, lead := false } ∧
      Keeps [F.RAD_STAT_LOCK.addr, F.RAD_LSTAT_HIT.addr, F.CLK_STAT_XT32MOK.addr] s u) := by
  obtain ⟨hhit, halarm, hoff, hradio, hmet⟩ := s.lanternMet_hits
  have hasleep : s.lanternMet.wakeSource 2 = s.lanternMet := by
    refine State.wakeSource_disabled ?_ (by decide)
    rw [State.fldBit, hmet.fld (by decide)]
    exact hdis
  obtain ⟨l, hsettle⟩ := s.lanternMet.xt32mSettle_frame
  have hflag (f : Fld) (hf : f.addr ≠ F.CLK_STAT_XT32MOK.addr) : s.lanternMet.xt32mSettle.flag f = s.lanternMet.flag f :=
    State.flag_of_reg (State.xt32mSettle_reg hf)
  have hkeeps : Keeps [F.RAD_STAT_LOCK.addr, F.RAD_LSTAT_HIT.addr, F.CLK_STAT_XT32MOK.addr] s s.lanternMet.xt32mSettle :=
    Keeps.xt32mSettle (hmet.mono (by simp)) (by simp)
  have hexec := exec_lanternDetect_wakes hverify htime hcode
  rw [hasleep] at hexec
  refine hkeeps.gives hq hexec ⟨(hflag _ (by decide)).trans hhit, (hflag _ (by decide)).trans halarm, (hflag _ (by decide)).trans hoff, ?_, hkeeps⟩
  rw [hsettle]
  exact hradio

/-- The lantern met, with its wake source on: from Ember the steady island begins to light. -/
theorem exec_lanternDetect_lights (hq : s.quiet) (hverify : s.radio.verify = true) (htime : s.nowU ≤ s.radio.verifyTo)
    (hcode : s.lanternCode first second = some (false, n)) (hen : s.fldBit F.PWR_WAKEEN_SRC 2 = true) (hon : s.on = true)
    (hember : s.pstate = 1) (hentry : s.power.entry = none) (hlock : s.flag F.CIP_LOCK_HELD = false) :
    Effect (.lanternDetect first second) s (fun u => (u.island .steady).st = .lighting ∧ u.fld F.PWR_WAKE_SRC = 4 ∧
      u.flag F.RAD_LSTAT_HIT = true) := by
  obtain ⟨hhit, -, -, -, hregs, hcore⟩ := s.lanternMet_hits
  have hfree : s.lanternMet.flag F.CIP_LOCK_HELD = false := (State.flag_of_reg (hregs _ (by decide))).trans hlock
  obtain ⟨hst, hsrc, hledger, hreg⟩ := State.steadyWakes_lights (src := 4) hfree
  have hexec := exec_lanternDetect_wakes hverify htime hcode
  rw [State.lanternMet_wakes hen hon hember hentry] at hexec
  generalize s.lanternMet.steadyWakes 4 = u at hst hsrc hledger hreg hexec
  obtain ⟨l, hsettle⟩ := u.xt32mSettle_frame
  have hquiet : u.xt32mSettle.quiet := by
    obtain ⟨-, -, hmet⟩ := hcore
    rw [State.quiet, hsettle, hledger, hmet]
    exact hq
  have hlit : (u.xt32mSettle.island .steady).st = .lighting := by
    rw [hsettle]
    exact hst
  exact ⟨_, hexec, ⟨hlit, (State.fld_of_reg (State.xt32mSettle_reg (by decide))).trans hsrc,
    (State.flag_of_reg ((State.xt32mSettle_reg (by decide)).trans hreg)).trans hhit⟩, fun _ => hexec.trans (ok_of _ hquiet)⟩

end

/-! ## Duty windows (10 R433, R434) -/

section
variable {s : State} {p : Fin 2}

/-- The state at the start of the next duty window of a path. -/
def State.dutyNexted (s : State) (p : Fin 2) : State :=
  ({ s with radio := { s.radio with
      dutyAt := vset s.radio.dutyAt p (vget s.radio.dutyAt p + s.dutyWindow p.val), dutyNext := vset s.radio.dutyNext p 0 } }).setFld
    (F.RAD_P_DUSED_US p.val) (vget s.radio.dutyNext p)

theorem State.dutyAt_val : s.dutyAt p.val = vget s.radio.dutyAt p := congrArg (vget s.radio.dutyAt) (Fin.ofNat_val_eq_self p)

theorem exec_dutyWindowStart_next (hon : s.on = true) (hover : vget s.radio.dutyAt p + s.dutyWindow p.val ≤ s.now) :
    exec (.dutyWindowStart p) s = ok (s.dutyNexted p) := by
  rw [exec_dutyWindowStart, execDutyWindowStart, State.dutyAt_val, if_pos (by rw [hon, decide_eq_true hover]; rfl)]
  rfl

end
end Sys2Proof.Machine

section
open Sys2Proof Sys2Proof.Machine

/-- Settles O47: ALLOC and FREE by what a posting to the pool's account that keeps its sum does (`State.poolPosted_moves`); calibration, sniff and duty
windows by what each leaves of the state; the wake by the registers a steady restart spares (`State.Spared`). -/
theorem radioPoolAndHousekeeping : Obligations.RadioPoolAndHousekeeping := by
  refine ⟨fun s d hq ho hhas hgood hparity => ?pool, fun s p deg dbm first second hq => ?housekeeping⟩
  case pool =>
    intro t a sound others
    have hquiet : t.quiet := (congrArg Ledger.resetDue State.taken_ledger).trans hq
    have halloc (hop : d.op = 0x10) : exec .alloc s = ok (t.allocRun d) := by
      rw [exec_alloc, execAlloc, ← hop, State.poolTake_runs ho hhas hgood]
    have hfree (hop : d.op = 0x11) : exec .free s = ok (t.freeRun d) := by
      rw [exec_free, execFree, ← hop, State.poolTake_runs ho hhas hgood]
    have hends (st : Nat) (r : Word) : ok (t.finish d st r) = .next (t.finish d st r) ∧ TakenFrom s (t.finish d st r) d ∧
        Finished (t.finish d st r) d st r ∧ (t.finish d st r).radio = s.radio ∧ (t.finish d st r).ledger = s.ledger :=
      ⟨ok_of _ ((congrArg Ledger.resetDue State.finish_ledger).trans hquiet), .of_cons (State.finish_cons t d st r), t.finish_finished d st r,
        State.finish_radio.trans State.taken_radio, State.finish_ledger.trans State.taken_ledger⟩
    have hbufs : t.bufSt (d.opd 4) = s.bufSt (d.opd 4) := State.bufSt_of_radio State.taken_radio
    refine ⟨fun hop hnone => ?empty, fun i hop hsome hsound hr => ?alloc, fun hop hsoft hsound hh => ?free, fun hop hsoft => ?notHeld⟩
    case empty =>
      obtain ⟨hok, htaken, hfin, hradio, hledger⟩ := hends rsPoolEmpty 0
      refine ⟨_, (halloc hop).trans ?_, htaken, hfin, hradio, hledger⟩
      rw [State.allocRun, State.taken_lowestFree, hnone]
      exact hok
    case alloc =>
      obtain ⟨hfits, hsum, hwin⟩ := hsound
      refine ⟨_, (halloc hop).trans ?_, State.poolMoved_takes (i := i) (b := .soft) (a := { a with r := a.r - 1, h := a.h + 1 })
        (r := BitVec.ofNat 32 i)⟩
      rw [State.allocRun, State.taken_lowestFree, hsome]
      exact State.poolPosted_moves hq hparity hfits hwin (if_pos hr) rfl (by dsimp only; omega)
    case free =>
      obtain ⟨hfits, hsum, hwin⟩ := hsound
      refine ⟨_, (hfree hop).trans ?_, State.poolMoved_takes (i := d.opd 4) (b := .free) (a := { a with r := a.r + 1, h := a.h - 1 }) (r := 0)⟩
      rw [State.freeRun, hbufs, if_pos hsoft]
      exact State.poolPosted_moves hq hparity hfits hwin (if_pos hh) rfl (by dsimp only; omega)
    case notHeld =>
      obtain ⟨hok, htaken, hfin, hradio, hledger⟩ := hends rsNotHeld (BitVec.ofNat 32 (s.bufSt (d.opd 4)).num)
      refine ⟨_, (hfree hop).trans ?_, htaken, hfin, hradio, hledger⟩
      rw [State.freeRun, hbufs, if_neg hsoft]
      exact hok
  case housekeeping =>
    intro r stat edge now' measured verifies
    refine ⟨fun hon hlit => ?calibration, fun hsniffs hlead hat => ?early, fun hsniffs hlead hat => ?leads,
      fun hsniffs hlit hlead hat hclosed => ?opens, fun hopen => ?closes, fun n hverifies hcode hdis => ?met, fun n hverifies hcode hen hon hember hentry _ _ hlock => ?wakes,
      fun hon hover => ?duty⟩
    case calibration =>
      have hexec := exec_radioCalibrate_measured (s := s) (p := p) (deg := deg) hon hlit
      refine ⟨fun hdue hsoon => ?_, fun hdue hsoon => ?_, fun hdue => ?_⟩
      · obtain ⟨hdef, hstale, hradio, -, hkeeps⟩ := (s.measured deg).calibrated_done (p := p)
        rw [if_pos (c := (s.measured deg).calDue p = true) hdue, if_neg (c := (s.measured deg).airSoon = true) (ne_true_of_eq_false hsoon)] at hexec
        have hkept : Keeps [stat] s ((s.measured deg).calibrated p) := hkeeps
        exact hkept.gives hq hexec ⟨hdef, hstale, hradio, hkept⟩
      · obtain ⟨hdef, hstale, hwait, hcal, hop, hkeeps⟩ := (s.measured deg).calDeferred_waits (p := p)
        rw [if_pos (c := (s.measured deg).calDue p = true) hdue, if_pos (c := (s.measured deg).airSoon = true) hsoon] at hexec
        have hkept : Keeps [stat] s ((s.measured deg).calDeferred p) := hkeeps
        exact hkept.gives hq hexec ⟨hdef, hstale, hwait, hcal, hop, hkept⟩
      · rw [if_neg (c := (s.measured deg).calDue p = true) (ne_true_of_eq_false hdue)] at hexec
        exact hexec.trans (ok_of _ hq)
    case early => exact (exec_sniffLead_early hat).trans (ok_of _ hq)
    case leads =>
      obtain ⟨hradio, hlights, hothers, hframe⟩ := s.sniffLed_lights
      have hledger : s.sniffLed.ledger = s.ledger := by rw [hframe]
      exact ⟨_, (exec_sniffLead_leads hsniffs hlead hat).trans (ok_of _ ((congrArg Ledger.resetDue hledger).trans hq)), hradio, hlights,
        hothers, hframe⟩
    case opens =>
      have hkeeps : Keeps [stat] s (s.sniffOpened dbm) := (Keeps.radio .refl).setBit (List.mem_singleton_self _)
      exact hkeeps.gives hq (exec_sniffWindow_opens hsniffs hlit hlead hat hclosed)
        ⟨State.flag_setBit_self _ _ (by simp [Fld.fits, F.RAD_STAT_SNIFFING]) Nat.one_pos, hkeeps, rfl, rfl, rfl, rfl⟩
    case closes => exact exec_sniffWindowEnd_ends hq hopen
    case met =>
      obtain ⟨hverify, htime⟩ := hverifies
      exact exec_lanternDetect_sleeps hq hverify htime hcode hdis
    case wakes =>
      obtain ⟨hverify, htime⟩ := hverifies
      exact exec_lanternDetect_lights hq hverify htime hcode hen hon hember hentry hlock
    case duty =>
      have hkeeps : Keeps [(F.RAD_P_DUSED_US p.val).addr] s (s.dutyNexted p) := (Keeps.radio .refl).setFld (List.mem_singleton_self _)
      exact hkeeps.gives hq (exec_dutyWindowStart_next hon hover)
        ⟨State.fld_setFld_self _ _ _ (by simp [Fld.fits, F.RAD_P_DUSED_US]), rfl, hkeeps⟩

end
